-- ==== Sys2Proof/Word.lean ====
section
/-! DEFINITION. Bytes, byte strings, the plain total-map container, and the plain data that commands carry
(frames, packets, flits, link errors).
The spec encodes multi-byte values least significant byte first on every path (R65). -/
namespace Sys2Proof

/-- One byte. -/
abbrev Byte := BitVec 8

/-- A byte string, byte 0 first. -/
abbrev Bytes := List Byte

/-- A byte from a number, keeping the low eight bits. -/
def byte (n : Nat) : Byte := BitVec.ofNat 8 n

/-- The number that a byte string spells, least significant byte first (R65). -/
def Bytes.toNat : Bytes → Nat
  | [] => 0
  | b :: bs => b.toNat + 256 * Bytes.toNat bs

/-- The `n` bytes of a number, least significant byte first (R65). -/
def leBytes : Nat → Nat → Bytes
  | 0, _ => []
  | n + 1, v => byte v :: leBytes n (v / 256)

/-- The `n` bytes of a number, most significant byte first (the SPI frame header and STATUS data). -/
def beBytes (n v : Nat) : Bytes := (leBytes n v).reverse

/-- The number that a byte string spells, most significant byte first. -/
def Bytes.toNatBE (bs : Bytes) : Nat := Bytes.toNat bs.reverse

/-- Two's complement reading of an `n`-byte value. -/
def Bytes.toInt (bs : Bytes) : Int :=
  let n := bs.length
  let v := Bytes.toNat bs
  if n = 0 then 0 else if v < 2 ^ (8 * n - 1) then (v : Int) else (v : Int) - (2 ^ (8 * n) : Nat)

/-- A total map from numbers to `α`: a list of pairs with rising keys.
A key that is not listed holds the default that the reader names. -/
abbrev Tbl (α : Type) := List (Nat × α)

/-- The value at key `k`, or `dflt` where `k` is not listed. -/
def Tbl.get {α : Type} (dflt : α) : Tbl α → Nat → α
  | [], _ => dflt
  | (j, v) :: t, k => if j = k then v else Tbl.get dflt t k

/-- `t` with the value `v` at key `k`; keys stay in rising order. -/
def Tbl.set {α : Type} : Tbl α → Nat → α → Tbl α
  | [], k, v => [(k, v)]
  | (j, w) :: t, k, v =>
    if j = k then (k, v) :: t
    else if k < j then (k, v) :: (j, w) :: t
    else (j, w) :: Tbl.set t k v

/-- `t` with no entry at key `k`. -/
def Tbl.erase {α : Type} : Tbl α → Nat → Tbl α
  | [], _ => []
  | (j, w) :: t, k => if j = k then Tbl.erase t k else (j, w) :: Tbl.erase t k

/-- `t` with `f` applied to the value at key `k`. -/
def Tbl.modify {α : Type} (dflt : α) (t : Tbl α) (k : Nat) (f : α → α) : Tbl α :=
  t.set k (f (t.get dflt k))

/-- The value at key `k` where it is listed. -/
def Tbl.find? {α : Type} : Tbl α → Nat → Option α
  | [], _ => none
  | (j, v) :: t, k => if j = k then some v else Tbl.find? t k

/-- Whether key `k` is listed. -/
def Tbl.has {α : Type} (t : Tbl α) (k : Nat) : Bool := (t.find? k).isSome


/-- Bit `i` of a number. -/
def bitOf (v i : Nat) : Bool := Nat.testBit v i

/-- Bits [hi:lo] of a number. -/
def bitsOf (v hi lo : Nat) : Nat := (v / 2 ^ lo) % 2 ^ (hi + 1 - lo)

/-- A number with bit `i` set to `b`. -/
def setBit (v i : Nat) (b : Bool) : Nat :=
  let w := if bitOf v i then v - 2 ^ i else v
  if b then w + 2 ^ i else w

/-- 1 for true, 0 for false. -/
def b2n (b : Bool) : Nat := if b then 1 else 0

/-- `v + k`, held at the largest `n`-bit value (the saturating counters of the register tables). -/
def satAdd (n v k : Nat) : Nat := min (v + k) (2 ^ n - 1)

/-- A saturating 32-bit increment. -/
def inc32 (v : Nat) : Nat := satAdd 32 v 1

/-- The `n` low bits of a two's complement number. -/
def encInt (n : Nat) (v : Int) : Nat := (v % (2 ^ n : Nat)).toNat

/-- The value of an `n`-bit two's complement word. -/
def decInt (n v : Nat) : Int := if v < 2 ^ (n - 1) then (v : Int) else (v : Int) - (2 ^ n : Nat)

/-- `bs` cut or padded with zero to `n` bytes. -/
def padTo (n : Nat) (bs : Bytes) : Bytes := (bs ++ List.replicate (n - bs.length) (byte 0)).take n

/-- The bytes of `bs` from offset `o`, `n` of them. -/
def Bytes.slice (bs : Bytes) (o n : Nat) : Bytes := (bs.drop o).take n

/-- The little-endian field of `n` bytes at offset `o`. -/
def Bytes.le (bs : Bytes) (o n : Nat) : Nat := Bytes.toNat (bs.slice o n)

/-- The numbers `lo` to `hi - 1`. -/
def span (lo hi : Nat) : List Nat := (List.range (hi - lo)).map (· + lo)

/-- Insertion of `x` before the first element that `lt` puts after it. -/
def insertBy {α : Type} (lt : α → α → Bool) (x : α) : List α → List α
  | [] => [x]
  | y :: ys => if lt x y then x :: y :: ys else y :: insertBy lt x ys

/-- A stable insertion sort. -/
def sortBy {α : Type} (lt : α → α → Bool) (l : List α) : List α :=
  l.foldr (insertBy lt) []

/-- One frame of an access path: the SPI management frame and the towpath frame have one layout (R56, R57). -/
structure Frame where
  /-- Opcode byte. -/
  op : Nat
  /-- Object index. -/
  idx : Nat
  /-- Subindex. -/
  sub : Nat
  /-- Length field as sent. -/
  len : Nat
  /-- Data bytes sent, byte 0 first. -/
  data : Bytes
  /-- Whether the CRC that was sent matches. -/
  crcOk : Bool
  deriving DecidableEq, Repr

/-- Where a store transaction in progress stood when it was cut off (R58). -/
inductive SpiCut where
  /-- Fewer than two edges had been given. -/
  | idle
  /-- Two edges or more had been given, and the tail was not reached: the frame is discarded. -/
  | inFrame
  /-- The frame was complete and this many tail edges had been given. -/
  | inTail (f : Frame) (edges : Nat)
  deriving DecidableEq, Repr

/-- A packet of the fabric (R122): the route word and the head fields, with its data or payload bytes.
Routing fields that follow from the destination (DEST_RTR, DEST_LP, FLITS) are computed from R109 and R123. -/
structure Packet where
  /-- DEST_NI. -/
  dest : Nat
  /-- SRC_NI. -/
  src : Nat
  /-- TYPE code. -/
  ty : Nat
  /-- CLASS code: 0 T, 1 P, 2 B, 3 S. -/
  cls : Nat
  /-- PART. -/
  part : Nat
  /-- TAG. -/
  tag : Nat := 0
  /-- AGE. -/
  age : Nat := 0
  /-- ADDR of a request; ADDR of the request answered, in a response. -/
  addr : Nat := 0
  /-- Bytes of the request (SIZE + 1). -/
  size : Nat := 1
  /-- Write data, read data, or message payload. -/
  data : Bytes := []
  /-- STATUS of a response. -/
  status : Nat := 0
  /-- MQ of a message. -/
  mq : Nat := 0
  /-- CODE of a message. -/
  code : Nat := 0
  /-- MSTAT of a fenced message. -/
  mstat : Nat := 0
  /-- REL_S. -/
  relS : Nat := 0
  /-- REL_NS. -/
  relNs : Nat := 0
  deriving DecidableEq, Repr

/-- One flit on a link (R119): its VC, whether it is head and tail, its POISON bit, on a head the packet, on a body flit
its 32 data bytes. -/
structure Flit where
  /-- VC code of R119. -/
  vc : Nat
  /-- The head's packet; none on a body flit. -/
  pkt : Option Packet
  /-- TAIL. -/
  tail : Bool
  /-- POISON. -/
  poison : Bool := false
  /-- The destination NI has found PKT_CRC wrong (R124, R137); meaningful on the tail flit. -/
  crcBad : Bool := false
  /-- NXT_PORT of a head flit. -/
  nxt : Nat := 0
  /-- Data bytes of a body flit, byte 0 first (R123). -/
  data : Bytes := []
  /-- Data bits that links have inverted and could not correct (R134). -/
  flips : Nat := 0
  /-- PKT_CRC on the tail flit, 0 on every other flit (R119, R124). -/
  crc : Nat := 0
  deriving DecidableEq, Repr

/-- The bits of one SECDED code word that arrive inverted (R568): protected bits and check bits. -/
structure WordErr where
  /-- Inverted protected bits. -/
  data : Nat := 0
  /-- Inverted check bits. -/
  check : Nat := 0
  deriving DecidableEq, Repr

/-- What a link inverts in one cycle (R134): the control word under CCHK and the data halves under DCHK0 and DCHK1. -/
structure LinkErr where
  /-- Sideband bits [15:0] with CCHK. -/
  ctl : WordErr := {}
  /-- Data [127:0] with DCHK0. -/
  half0 : WordErr := {}
  /-- Data [255:128] with DCHK1. -/
  half1 : WordErr := {}
  deriving DecidableEq, Repr

/-- No bit arrives inverted. -/
abbrev LinkErr.none : LinkErr := {}

/-- What SECDED finds in a memory word that a target reads (R471). -/
inductive MemErr where
  | none
  | corrected
  | uncorrectable
  deriving DecidableEq, Repr

/-- An input where a flit arrives. -/
inductive FlitDest where
  | router (r port : Nat)
  | ni (n : Nat)
  deriving DecidableEq, Repr

/-- The sending end that a credit returns to. -/
inductive CreditDest where
  | router (r port : Nat)
  | ni (n : Nat)
  deriving DecidableEq, Repr

/-- A burst that LKC (0), LDMA (1) or DBG (3) presents to the peripheral matrix (R201). -/
structure MxReq where
  /-- Master. -/
  master : Nat
  /-- Write. -/
  write : Bool
  /-- Peripheral address of the first byte. -/
  addr : Nat
  /-- Bytes. -/
  len : Nat
  /-- Write data. -/
  data : Bytes
  /-- The beats ask for an exclusive or locked sequence. -/
  excl : Bool
  deriving DecidableEq, Repr

/-- A token bucket of an NI (R159, R160). -/
inductive Bucket where
  | weir (part cls : Nat)
  | aggregateT
  deriving DecidableEq, Repr

/-- Who issues a register access (R102, R321). -/
inductive RegDoor where
  /-- A fabric initiator, to the register block of NI `n`. -/
  | ni (n : Nat)
  /-- A fabric initiator, to the unit register block of unit `n`. -/
  | unit (n : Nat)
  /-- The host, to BAR0 of function `f`, from requester `rid`, with or without the EP bit. -/
  | bar0 (f rid : Nat) (poisoned : Bool)
  /-- The host, to the Command register of function `f`'s configuration space (bit 2 Bus Master Enable). -/
  | command (f : Nat)
  /-- The host, to the MSI-X Message Control word of function `f` (bit 15 enable, bit 14 function mask). -/
  | msixControl (f : Nat)
  deriving DecidableEq, Repr

/-- What unblocks an MSI-X vector of a function (R340). -/
inductive Unblock where
  /-- Vector control of a vector. -/
  | vector (v : Nat)
  /-- The function mask. -/
  | functionMask
  /-- Bus Master Enable. -/
  | busMaster
  /-- MSI-X Enable. -/
  | msixEnable
  deriving DecidableEq, Repr

/-- How a PCIe completion for an outbound read ends (R339). -/
inductive PcieCpl where
  /-- Successful, with its data. -/
  | data (bs : Bytes)
  /-- Successful with the EP bit set. -/
  | poisoned (bs : Bytes)
  /-- Unsupported Request or Completer Abort. -/
  | failed
  deriving DecidableEq, Repr

end Sys2Proof
end

