-- ==== Sys2Proof/Syntax.lean ====
section
/-! DEFINITION. The commands the device takes: one constructor per row of spec/opcode_table.json, with the row's
operands. An operand that the row's text leaves to the outside (a measured value, a link error, host data, the path
that writes) is an operand of the command. -/
namespace Sys2Proof

/-- A command of the device; each constructor cites the rule of its row. -/
inductive Instr where
  /-- MGMT_CS_N_FALL: MGMT_CS_N falls and makes SPI path 0 pending at the towpath serializer within 3 PCLK. (R30) -/
  | mgmtCsNFall
  /-- MGMT_CS_N_RISE: MGMT_CS_N rises and cuts off the SPI transaction; the outcome follows the interruption table. (R58) -/
  | mgmtCsNRise (cut : SpiCut)
  /-- STORE_GRANT: The serializer grants the store to the highest-ranked pending path at a transaction boundary. (R30) -/
  | storeGrant
  /-- SPI_IDLE_TIMEOUT: The SPI idle timeout expires while MGMT_CS_N is low; the port is released and fault 0xE8 counts an event. (R32) -/
  | spiIdleTimeout (cut : SpiCut)
  /-- READ: A READ frame returns the active value of an object instance after the access checks. (R35) -/
  | read (path : Nat) (idx : Nat) (sub : Nat) (len : Nat) (crcOk : Bool)
  /-- WRITE_STAGE: A WRITE_STAGE frame stages an S or F value into the writer's chamber, or performs a class I action at tail edge 8. (R33) -/
  | writeStage (path : Nat) (idx : Nat) (sub : Nat) (len : Nat) (data : Bytes) (crcOk : Bool)
  /-- COMMIT: COMMIT checks and applies the path's chamber as one atomic change ending in the epoch flip. (R38) -/
  | commit (path : Nat) (len : Nat) (expected : Nat) (crcOk : Bool)
  /-- REVERT: REVERT applies the committed journal as a new commit, swapping the prior and active cells. (R42) -/
  | revert (path : Nat) (len : Nat) (expected : Nat) (crcOk : Bool)
  /-- DISCARD: DISCARD empties the issuing path's staging chamber at tail edge 8. (R36) -/
  | discard (path : Nat) (len : Nat) (crcOk : Bool)
  /-- STATUS: STATUS returns the version, the chamber and journal counts, the flags and the previous result of path 0. (R56) -/
  | status (path : Nat) (len : Nat) (crcOk : Bool)
  /-- SAVE: A SAVE request starts the firmware writing the active configuration into the target flash slot. (R48) -/
  | save (path : Nat) (len : Nat) (crcOk : Bool)
  /-- SAVE_COMPLETE: The firmware finishes a consistent snapshot and programs the slot header, or fails after four attempts. (R49) -/
  | saveComplete
  /-- SAVE_FLASH_ERROR: A flash error fails the SAVE, and the firmware erases the first sector of the target slot. (R50) -/
  | saveFlashError
  /-- UNKNOWN_OPCODE_FRAME: A frame with an opcode outside 0x01-0x07 is answered STAT 0x03 after an 8-edge tail. (R57) -/
  | unknownOpcodeFrame (path : Nat) (op : Nat)
  /-- LOAD_SLOT: A write of 0x2008:05 starts a run-time image load of a configuration slot. (R55) -/
  | loadSlot (path : Nat) (slot : Nat)
  /-- STORE_ALL: A write of 0x1010:01 with the signature starts a SAVE; other values are refused. (R86) -/
  | storeAll (path : Nat) (value : Nat)
  /-- RESTORE: A write of 0x1011:01 with the signature loads the newest valid configuration slot. (R55) -/
  | restore (path : Nat) (value : Nat)
  /-- IMAGE_LOAD_COMMIT: The firmware commits a staged image load in one store transaction, or rejects the image under R54. (R53) -/
  | imageLoadCommit
  /-- DOMAIN_CAPTURE: A clock domain sees a new epoch, captures its shadow words by agreement and reports the version in 0x2003. (R238) -/
  | domainCapture (d : Nat) (elapsedNs : Nat) (restarts : Nat)
  /-- CAPTURE_TIMEOUT: A running domain has not completed its capture within 1 us of a flip and raises fault 0xD5. (R238) -/
  | captureTimeout (d : Nat)
  /-- MB_GO: A write of MB_CTRL with GO submits the mailbox request area, or sets OVERRUN while a request is outstanding. (R76) -/
  | mbGo (f : Nat) (value : Nat)
  /-- MB_CANCEL: A write of MB_CTRL with CANCEL withdraws a PENDING mailbox request. (R77) -/
  | mbCancel (f : Nat) (value : Nat)
  /-- NMT_START: The NMT start command moves the CAN node to Operational. (R80) -/
  | nmtStart (node : Nat)
  /-- NMT_STOP: The NMT stop command moves the CAN node to Stopped. (R80) -/
  | nmtStop (node : Nat)
  /-- NMT_ENTER_PRE_OPERATIONAL: The NMT command moves the CAN node to Pre-operational. (R80) -/
  | nmtEnterPreOperational (node : Nat)
  /-- NMT_RESET_APPLICATION: The NMT reset application reloads the node objects and empties the chamber of path 2. (R80) -/
  | nmtResetApplication (node : Nat)
  /-- NMT_RESET_COMMUNICATION: The NMT reset communication re-initialises the CAN controller with the active node-ID and bit rate. (R80) -/
  | nmtResetCommunication (node : Nat)
  /-- HEARTBEAT_PRODUCE: The heartbeat timer of 0x1017 expires and the node sends a heartbeat. (R79) -/
  | heartbeatProduce
  /-- USDO_INITIATE: A USDO initiate opens a session, or is refused while a session is open. (R82) -/
  | usdoInitiate (write : Bool) (idx : Nat) (sub : Nat) (total : Nat) (data : Bytes)
  /-- USDO_SEGMENT: A USDO segment of the open session is received and processed. (R82) -/
  | usdoSegment (seqNo : Nat) (data : Bytes) (last : Bool)
  /-- USDO_TIMEOUT: No segment arrives within 0x1FF0:04 and the session is aborted with 0x0504_0000. (R82) -/
  | usdoTimeout
  /-- EMCY_TRANSMIT: A queued EMCY is sent once the inhibit time since the previous EMCY has passed. (R83) -/
  | emcyTransmit
  /-- TPDO_EVENT: A change of the mapped state, or the TPDO event timer, sends a TPDO, subject to its inhibit time. (R79) -/
  | tpdoEvent (k : Nat)
  /-- CAN_BUS_OFF: The CAN controller enters bus-off; the bus-off count and fault 0xE9 increment. (R91) -/
  | canBusOff
  /-- CAN_BUS_OFF_RECOVERY: After 128 occurrences of 11 recessive bits the node recovers and sends a boot-up message. (R91) -/
  | canBusOffRecovery
  /-- AGE_TICK: Every eighth FCLK edge, each head flit that waited gains one age unit. (R147) -/
  | ageTick
  /-- ROUTER_FLIT_ARRIVAL: A flit arrives at a router or NI input and its SECDED checks are applied. (R134) -/
  | routerFlitArrival (at_ : FlitDest) (err : LinkErr) (crcErr : Bool)
  /-- SWITCH_ALLOCATION: In each cycle the combinational allocator grants router outputs by urgency and pointers. (R151) -/
  | switchAllocation (r : Nat)
  /-- EXPRESS_SETUP_PHASE: The far router ranks express setup requests and reserves the winning output for the next cycle. (R153) -/
  | expressSetupPhase (r : Nat) (parityX : Bool) (parityY : Bool)
  /-- CREDIT_RETURN: A credit returned on the sideband increments the sender's VC counter, or is ignored as an overflow. (R125) -/
  | creditReturn (at_ : CreditDest) (err : WordErr)
  /-- NI_INJECT: An NI ranks its eligible packets and injects one head onto its local link, taking a tag for a non-posted request. (R155) -/
  | niInject (n : Nat) (err : MemErr)
  /-- WEIR_TOKEN: A weir token falls due on its grid and is added to the bucket unless the bucket is full. (R159) -/
  | weirToken (n : Nat) (b : Bucket)
  /-- UNIT_POSTED_WRITE: The unit hands a posted WRITE to its NI, which combines it in the write-combining buffer. (R176) -/
  | unitPostedWrite (n : Nat) (part : Nat) (cls : Nat) (addr : Nat) (data : Bytes)
  /-- COMBINE_TIMEOUT: A write-combining entry has been open for the combine timeout and is closed. (R176) -/
  | combineTimeout (n : Nat) (k : Nat)
  /-- UNIT_NONPOSTED_REQUEST: The unit places a non-posted request in its partition's staging slot. (R178) -/
  | unitNonpostedRequest (n : Nat) (part : Nat) (ty : Nat) (cls : Nat) (addr : Nat) (size : Nat) (data : Bytes)
  /-- UNIT_MESSAGE: The unit hands its NI a MESSAGE, which waits for end-to-end credit. (R183) -/
  | unitMessage (n : Nat) (timed : Bool) (part : Nat) (cls : Nat) (dest : Nat) (mq : Nat) (code : Nat) (data : Bytes) (relS : Nat) (relNs : Nat)
  /-- FENCED_MESSAGE: A fenced message makes the NI send FENCE_MARKs to every destination it has written since its last fenced message. (R190) -/
  | fencedMessage (n : Nat) (part : Nat) (cls : Nat) (dest : Nat) (mq : Nat) (code : Nat) (data : Bytes)
  /-- FENCED_MESSAGE_INJECT: All marks of a fenced message are answered, and the message becomes eligible carrying MSTAT. (R190) -/
  | fencedMessageInject (n : Nat)
  /-- TARGET_REQUEST: A target NI receives a non-posted request and answers it with exactly one response. (R181) -/
  | targetRequest (n : Nat) (vc : Nat) (err : MemErr)
  /-- TARGET_POSTED_WRITE: A target NI receives a posted WRITE and performs or discards it. (R182) -/
  | targetPostedWrite (n : Nat) (vc : Nat)
  /-- FENCE_MARK_ANSWER: A target answers a FENCE_MARK once every earlier posted WRITE from that source on that VC has been performed. (R189) -/
  | fenceMarkAnswer (n : Nat) (vc : Nat)
  /-- RESPONSE_ARRIVAL: A response reaches the initiator NI and is delivered, reissued on RETRY, or discarded as late. (R181) -/
  | responseArrival (n : Nat) (vc : Nat) (err : MemErr)
  /-- RETRY_REISSUE: The RETRY reissue interval expires and the NI reissues the request with the same tag. (R181) -/
  | retryReissue (n : Nat) (tag : Nat)
  /-- RESPONSE_TIMEOUT: A tag's response timeout expires; the request completes TGTERR and the tag is quarantined. (R193) -/
  | responseTimeout (n : Nat) (tag : Nat)
  /-- MESSAGE_ARRIVAL: A MESSAGE reaches its destination NI and enters its queue, is absorbed, or is discarded. (R185) -/
  | messageArrival (n : Nat) (vc : Nat)
  /-- MQ_DEQUEUE: The destination unit removes a message from a queue, and its credits become owed to the source. (R183) -/
  | mqDequeue (n : Nat) (q : Nat) (err : MemErr)
  /-- CREDIT_RETURN_SEND: Within 64 FCLK of a count change, the destination NI sends a credit-return message to MQ 0xFF. (R184) -/
  | creditReturnSend (n : Nat) (src : Nat)
  /-- CREDIT_RETURN_REPEAT: 4,096 FCLK after a change, the latest freed counts are sent once more. (R184) -/
  | creditReturnRepeat (n : Nat) (src : Nat)
  /-- CREDIT_RETURN_RECEIVE: A credit-return message is absorbed at MQ 0xFF and the source recomputes its credits. (R184) -/
  | creditReturnReceive (n : Nat) (vc : Nat)
  /-- TIMED_MESSAGE_ARRIVAL: A TIMED_MESSAGE arrives at a holding NI and is held, released late, or discarded beyond the horizon. (R187) -/
  | timedMessageArrival (n : Nat) (vc : Nat)
  /-- TIMED_RELEASE: The replica reaches a held message's release time and the message goes to the unit's release port. (R186) -/
  | timedRelease (n : Nat) (err : MemErr)
  /-- SYNC_CHECK: An NI checks its replica against a SYNC message and sets NOT_IN_STEP when it disagrees. (R188) -/
  | syncCheck (n : Nat) (vc : Nat)
  /-- NI_DECERR_CLR: A write of NI_DECERR_CLR clears NI_DECERR_COUNT and NI_DECERR_ADDR. (R102) -/
  | niDecerrClr (n : Nat) (value : Nat)
  /-- NI_STAT_CLR: A write of NI_STAT_CLR clears the NI tag, buffer and holding statistics. (R192) -/
  | niStatClr (n : Nat) (value : Nat)
  /-- WEIR_CLR: A write of WEIR_CLR clears the weir stall and AGE_MAX statistics of the NI. (R167) -/
  | weirClr (n : Nat) (value : Nat)
  /-- REGISTER_WRITE: A write to a register without behaviour of its own takes effect, or is refused for size or alignment. (R102) -/
  | registerWrite (door : RegDoor) (posted : Bool) (offset : Nat) (data : Bytes)
  /-- MATRIX_ARBITRATION: In each PCLK arbitration phase, each target arbiter grants one beat to a master. (R202) -/
  | matrixArbitration (raised : List MxReq) (parityBad : Nat)
  /-- MATRIX_ACCESS_COMPLETE: A target returns the matrix response of a piece to the issuing master. (R200) -/
  | matrixAccessComplete (m : Nat) (fail : Bool) (err : MemErr)
  /-- DEBUG_PORT_RESET: A debug-port reset releases a held DBG access and resets DBG. (R207) -/
  | debugPortReset
  /-- REMAP_SET: LKC sets REMAP, which invalidates the prefetch store and discards uncollected delayed-read results. (R205) -/
  | remapSet
  /-- BRIDGE_READ: A fabric READ reaches the LK bridge and is handled as a delayed or prefetchable read. (R209) -/
  | bridgeRead (vc : Nat) (err : MemErr)
  /-- BRIDGE_FETCH_DONE: A delayed-read or demand fetch completes and its result is stored or answered. (R210) -/
  | bridgeFetchDone
  /-- DELAYED_READ_DISCARD: An uncollected delayed-read result exceeds the discard time and is freed, raising 0x24. (R211) -/
  | delayedReadDiscard (k : Nat)
  /-- PREFETCH_FETCH_AHEAD: While FBR is otherwise idle, the bridge fetches lines ahead for a prefetch stream. (R214) -/
  | prefetchFetchAhead (src : Nat)
  /-- BRIDGE_WRITE: A fabric WRITE or WRITE_NP reaches the bridge and is buffered or performed. (R216) -/
  | bridgeWrite (vc : Nat)
  /-- POSTED_WRITE_PERFORM: A write from the posted-write buffer is performed, recording any peripheral error. (R219) -/
  | postedWritePerform (err : MemErr)
  /-- INTERRUPT_LINE_EDGE: A rising edge of an interrupt line interrupts LKC and, when enabled, forwards a fenced MESSAGE to HP1. (R221) -/
  | interruptLineEdge (line : Nat)
  /-- LK_OUTBOUND_REQUEST: LKC or LDMA issues a request onto the fabric through the LK NI. (R220) -/
  | lkOutboundRequest (lkc : Bool) (ty : Nat) (addr : Nat) (size : Nat) (data : Bytes) (excl : Bool)
  /-- CLOCK_LOSS: A domain clock stops while the domain is not in reset; RUNNING clears and fault 0xD4 counts an event. (R245) -/
  | clockLoss (d : Nat)
  /-- UNIT_RESET_RELEASE: After 64 clock cycles and a capture, a held unit leaves reset. (R231) -/
  | unitResetRelease (u : Nat)
  /-- FREQUENCY_MEASUREMENT_PERIOD: At the end of each 1 ms TCLK period, the measured frequency words are updated. (R244) -/
  | frequencyMeasurementPeriod (f : List Nat)
  /-- CLEAR_CROSSING_RECORDS: A write of 0x2506:01 with the signature clears the clock-crossing records. (R244) -/
  | clearCrossingRecords (path : Nat) (value : Nat)
  /-- PARTITION_FENCE: The FENCE lock command starts steps 1-5 of the lock cycle of a partition. (R252) -/
  | partitionFence (path : Nat) (p : Nat)
  /-- PARTITION_RESET: The RESET lock command starts the lock cycle with a reset step, or repeats the reset step. (R250) -/
  | partitionReset (path : Nat) (p : Nat)
  /-- PARTITION_RELEASE: The RELEASE lock command sets RELEASING and requests the clearing of the fence bit. (R257) -/
  | partitionRelease (path : Nat) (p : Nat)
  /-- DRAIN_COMPLETE: The drain condition of a fenced partition holds, and the TX-idle step starts. (R253) -/
  | drainComplete (p : Nat)
  /-- DRAIN_TIMEOUT: The drain timeout expires; outstanding work is abandoned and fault 0xF8 counts an event. (R254) -/
  | drainTimeout (p : Nat)
  /-- FENCE_ACKNOWLEDGE: The converter TX streams of the partition are idle, and the state becomes FENCED. (R252) -/
  | fenceAcknowledge (p : Nat)
  /-- RESET_STEP_DONE: The reset step of a partition completes its clearing and the state becomes RESET_DONE. (R256) -/
  | resetStepDone (p : Nat)
  /-- RELEASE_EXECUTE: Every running domain reports the current version; the fence bit clears and the partition becomes RUNNING. (R257) -/
  | releaseExecute (t : Nat)
  /-- FLR_VF: An FLR of VF k starts RESET of partition k. (R258) -/
  | flrVf (k : Nat)
  /-- FLR_PF0: An FLR of PF0 starts RESET of all 16 partitions. (R259) -/
  | flrPf0
  /-- VF_ENABLE_SET: VF Enable is set again and the firmware releases partitions 1-15 as R258 allows. (R259) -/
  | vfEnableSet (n : Nat)
  /-- UNIT_RESET: A write of 0x2602 holds a unit in reset for 64 cycles of its clock, or is refused for HP, BS and TTU units. (R261) -/
  | unitReset (path : Nat) (u : Nat) (value : Nat)
  /-- DL_DOWN: The PCIe data link layer reports DL_Down and the link-loss debounce timer starts. (R263) -/
  | dlDown
  /-- DL_UP: DL_Up returns during the debounce and no reset follows. (R263) -/
  | dlUp (rate : Nat) (width : Nat)
  /-- LINK_LOSS_DEBOUNCE_EXPIRY: The debounce expires and a link-loss reset, or a promoted chip reset, starts. (R263) -/
  | linkLossDebounceExpiry (cut : SpiCut)
  /-- HOT_RESET: A hot reset or link disable from upstream starts link-loss reset without debounce. (R263) -/
  | hotReset (cut : SpiCut)
  /-- PD_FENCE: The FENCE command of a power domain stops new work at its units and starts their drain. (R266) -/
  | pdFence (path : Nat) (k : Nat)
  /-- PD_OFF: The OFF command isolates the domain's units, holds them in reset and removes power. (R266) -/
  | pdOff (path : Nat) (k : Nat)
  /-- PD_ON: The ON command applies power and moves the domain to POWERING. (R267) -/
  | pdOn (path : Nat) (k : Nat)
  /-- PD_RELEASE: The RELEASE command of a power domain releases it under R257. (R266) -/
  | pdRelease (path : Nat) (k : Nat)
  /-- PD_DRAIN_COMPLETE: The units of a fencing domain have drained and the domain reaches FENCED. (R266) -/
  | pdDrainComplete (k : Nat)
  /-- PD_DRAIN_TIMEOUT: The domain drain timeout expires, tags are abandoned and fault 0xF9 counts an event. (R266) -/
  | pdDrainTimeout (k : Nat)
  /-- PD_POWER_UP_DONE: Power-good, the unit capture and any DDR training complete, and the domain becomes FENCED or FAILED. (R267) -/
  | pdPowerUpDone (k : Nat) (trained : Bool)
  /-- PD_POWER_GOOD_TIMEOUT: Power-good is not seen within 1 ms; the domain becomes FAILED and fault 0xD8 counts an event. (R267) -/
  | pdPowerGoodTimeout (k : Nat)
  /-- CHIP_RESET: A chip reset resets units, fabric, lockkeeper and TTU while keeping the configuration. (R260) -/
  | chipReset (src : Nat) (cut : SpiCut)
  /-- PERST_N_ASSERT: PERST_N is asserted and the device takes the PERST_N reset scope. (R260) -/
  | perstNAssert (cut : SpiCut)
  /-- POWER_ON: VDD_AON comes up or is lost, and everything including the store is reset. (R260) -/
  | powerOn
  /-- RAIL_FALL: A rail falls below its power-good threshold; the I/O isolates and the PERST_N scope is taken. (R538) -/
  | railFall (rail : Nat) (cut : SpiCut)
  /-- RESET_RELEASE: 2 ms after all rails are good and PERST_N is high, reset is released and the straps are sampled. (R536) -/
  | resetRelease (testMode : Bool) (bootSel : Nat)
  /-- SUPPLY_MONITOR_SAMPLE: A 1 MHz rail sample outside its monitor limits raises 0xD2 or 0xD3. (R539) -/
  | supplyMonitorSample (rail : Nat) (above : Bool)
  /-- TEMPERATURE_THRESHOLD: The junction temperature crosses the warning threshold or 110 C and sources 0xD0 or 0xD1 count an event. (R563) -/
  | temperatureThreshold (sensor : Nat) (reading : Int)
  /-- CREATE_QUEUE: The admin command CREATE_QUEUE checks and enables a queue context. (R285) -/
  | createQueue (p : Nat)
  /-- DESTROY_QUEUE: The admin command DESTROY_QUEUE sets STATE destroying and stops fetching from the queue. (R286) -/
  | destroyQueue (p : Nat)
  /-- DESTROY_QUEUE_DONE: The running commands of a destroyed queue have completed; the context is zeroed and the completion written. (R286) -/
  | destroyQueueDone (q : Nat)
  /-- MODIFY_CQ: The admin command MODIFY_CQ changes the vector and moderation of a completion queue. (R287) -/
  | modifyCq (p : Nat)
  /-- QUERY_QUEUE: The admin command QUERY_QUEUE returns a queue's PI, CI and STATE. (R284) -/
  | queryQueue (p : Nat)
  /-- DOORBELL: A doorbell write reaches an HP NI, is checked and enters the coalescing store. (R289) -/
  | doorbell (f : Nat) (value : Nat) (full : Bool) (poisoned : Bool)
  /-- DOORBELL_NOTICE_SEND: The HP NI sends a pending doorbell entry as a fenced notice to the queue's SE. (R291) -/
  | doorbellNoticeSend (h : Nat)
  /-- DOORBELL_NOTICE: The SE receives a doorbell notice and accepts or discards the new index. (R292) -/
  | doorbellNotice (n : Nat) (err : MemErr)
  /-- COMMAND_FETCH: The SE fetches command entries of a queue in ring order. (R296) -/
  | commandFetch (q : Nat) (ctxPoison : Bool)
  /-- CONTEXT_WRITEBACK: The SE writes a queue context back to the basin when the queue goes idle or at least every 1 us. (R282) -/
  | contextWriteback (q : Nat)
  /-- NOP: The command NOP completes OK. (R294) -/
  | nop (q : Nat)
  /-- COPY: The command COPY copies a span from source to destination. (R294) -/
  | copy (q : Nat)
  /-- COPY_INLINE: The command COPY_INLINE writes the inline bytes to the destination. (R294) -/
  | copyInline (q : Nat)
  /-- FILL: The command FILL writes an 8-byte pattern over a span. (R294) -/
  | fillCmd (q : Nat)
  /-- FENCE: The command FENCE completes when every earlier command of its queue has completed, and holds later ones. (R298) -/
  | fenceCmd (q : Nat)
  /-- FLUSH: The command FLUSH acts as FENCE, then asks HP0-HP3 and the LK bridge to flush the range. (R299) -/
  | flushCmd (q : Nat)
  /-- FLUSH_HP: An HP NI receives a FLUSH message, issues the partition's combined writes, empties overlapping lines and answers fenced. (R299) -/
  | flushHp (h : Nat)
  /-- NOTIFY: The command NOTIFY completes OK with the given value. (R294) -/
  | notify (q : Nat)
  /-- TIMED_NOTIFY: The command TIMED_NOTIFY sends a TIMED_MESSAGE to start or stop a stream or drive a trigger output. (R300) -/
  | timedNotify (q : Nat)
  /-- WAIT_TIME: The command WAIT_TIME holds its queue until chassis time reaches the given time. (R301) -/
  | waitTime (q : Nat)
  /-- WAIT_TIME_REACHED: The SE replica reaches a WAIT_TIME's time and the command completes. (R301) -/
  | waitTimeReached (q : Nat)
  /-- STREAM_ARM: The command STREAM_ARM arms a stream queue with a start mode and record count. (R302) -/
  | streamArm (q : Nat)
  /-- STREAM_STOP: The command STREAM_STOP stops a stream now or at record end. (R302) -/
  | streamStop (q : Nat)
  /-- OP_EXEC: The command OP_EXEC hands a 96-byte descriptor to the queue's OP unit. (R417) -/
  | opExec (q : Nat)
  /-- COMPLETION_WRITE: Once a command's marks are answered and space exists, the SE writes its completion in ring order. (R303) -/
  | completionWrite (q : Nat) (err : MemErr)
  /-- CQ_MODERATION_TIMEOUT: MTIME has passed since the oldest unsignalled completion and an interrupt is sent. (R304) -/
  | cqModerationTimeout (cq : Nat)
  /-- CLEAR_QUEUE_COUNTERS: A write of 0x2750:01 with the signature clears the queue counters. (R307) -/
  | clearQueueCounters (path : Nat) (value : Nat)
  /-- WINDOW_READ: A BAR2 read is translated and checked, then issued, served from prefetch, or refused. (R324) -/
  | windowRead (f : Nat) (offset : Nat) (len : Nat) (err : MemErr)
  /-- WINDOW_WRITE: A BAR2 write is translated, checked and issued, or discarded. (R324) -/
  | windowWrite (f : Nat) (offset : Nat) (data : Bytes) (poisoned : Bool)
  /-- WINDOW_BASE_WRITE: A 64-bit write of WINDOW_BASE moves the window, or is discarded and raises 0x8B. (R322) -/
  | windowBaseWrite (f : Nat) (data : Bytes) (poisoned : Bool)
  /-- PC_CLR: A write of PC_CLR clears WIN_REFUSED and WIN_REFUSED_ADDR. (R321) -/
  | pcClr (f : Nat) (value : Nat) (poisoned : Bool)
  /-- PREFETCH_LINE_EXPIRY: A window prefetch line exceeds its lifetime and is emptied. (R328) -/
  | prefetchLineExpiry (f : Nat) (addr : Nat)
  /-- ADMISSION: An admission write with OP = 1 admits a requester for a region, or is refused. (R332) -/
  | admission (rid : Nat) (offset : Nat) (data : Bytes) (poisoned : Bool)
  /-- REVOKE: An admission write with OP = 0 removes the requester-region pair. (R332) -/
  | revoke (rid : Nat) (data : Bytes) (poisoned : Bool)
  /-- ADMISSION_STATUS_READ: A read of the admission port returns the status of the requester's last admission write. (R333) -/
  | admissionStatusRead (rid : Nat) (offset : Nat) (len : Nat)
  /-- PLACEMENT_WRITE: A BAR4 write TLP is checked as a whole and issued as posted WRITEs, or dropped. (R335) -/
  | placementWrite (rid : Nat) (offset : Nat) (data : Bytes) (poisoned : Bool)
  /-- PLACEMENT_FLUSH_READ: A BAR4 read is answered zero once every earlier BAR4 write has been performed. (R336) -/
  | placementFlushRead (rid : Nat) (offset : Nat) (len : Nat)
  /-- CLEAR_ADMISSIONS: A write of 0x2806:03 with the signature removes every admission. (R334) -/
  | clearAdmissions (path : Nat) (value : Nat)
  /-- CLEAR_HOST_COUNTERS: A write of 0x2860:01 with the signature clears the host counters. (R343) -/
  | clearHostCounters (path : Nat) (value : Nat)
  /-- OUTBOUND_REQUEST: An HP NI issues an outbound request on PCIe, or refuses it. (R338) -/
  | outboundRequest (h : Nat) (vc : Nat)
  /-- OUTBOUND_COMPLETION: A PCIe completion for an outbound read arrives and is answered to the fabric. (R339) -/
  | outboundCompletion (tag : Nat) (cpl : PcieCpl)
  /-- OUTBOUND_COMPLETION_TIMEOUT: An outbound read times out, is answered TGTERR and raises 0x8E. (R339) -/
  | outboundCompletionTimeout (tag : Nat)
  /-- MSIX_REQUEST: An interrupt MESSAGE at an HP NI sends, pends or drops an MSI-X. (R340) -/
  | msixRequest (h : Nat) (err : MemErr)
  /-- MSIX_UNMASK: A vector or function becomes unblocked and its pending MSI-X is sent. (R340) -/
  | msixUnmask (f : Nat) (what : Unblock)
  /-- UNSUPPORTED_REQUEST: A locked read or atomic request is completed Unsupported Request and raises 0x8C. (R318) -/
  | unsupportedRequest (f : Nat)
  /-- LINK_PLL_LOCKED: A converter link's SerDes PLL and CDRs lock and the link moves toward SH_LOCK or RUNNING. (R355) -/
  | linkPllLocked (k : Nat)
  /-- SYNC_HEADER_LOCK: Every RX lane of a link locks its sync headers. (R355) -/
  | syncHeaderLock (k : Nat)
  /-- EXTENDED_MULTIBLOCK_LOCK: Every lane locks its extended multiblock and its arrival is measured against RBD. (R358) -/
  | extendedMultiblockLock (k : Nat) (arrivals : List Nat)
  /-- LINK_LOCK_TIMEOUT: The PLL or CDR is not locked within 10 ms; the link goes FAILED and retries every 10 ms. (R355) -/
  | linkLockTimeout (k : Nat)
  /-- LANE_LOCK_LOSS: An RX lane loses lock; received frames are zero-filled and the link retrains. (R376) -/
  | laneLockLoss (l : Nat) (cause : Nat) (pll : Bool)
  /-- SYSREF_EDGE_SAMPLED: A CP samples a SYSREF edge; it starts the LEMC or checks, and may realign, the boundary. (R357) -/
  | sysrefEdgeSampled (k : Nat) (onBoundary : Bool)
  /-- RX_FRAME_RELEASE: Every RBD cycles after an LEMC edge the link releases an extended multiblock into the record. (R358) -/
  | rxFrameRelease (k : Nat) (at_ : Int) (frames : List (List Nat)) (crcLanes : Nat) (syncLanes : Nat) (err : MemErr)
  /-- SLOT_GRANT: The SE hands ring slots of a stream queue to the link's CPs by MESSAGE to MQ 0. (R361) -/
  | slotGrant (q : Nat)
  /-- CP_TRIGGER: A trigger message at a CP places a record trigger or a start trigger in the sample history. (R366) -/
  | cpTrigger (n : Nat)
  /-- CP_TIMED_START: A released timed start starts an armed stream, or is counted as ignored. (R365) -/
  | cpTimedStart (n : Nat)
  /-- CP_TIMED_STOP: A released timed stop stops a stream, or is counted as ignored. (R373) -/
  | cpTimedStop (n : Nat)
  /-- RECORD_END: A CP finishes its share of a record and sends a fenced record-end MESSAGE to the SE. (R370) -/
  | recordEnd (l : Nat)
  /-- RECORD_COMPLETE: All L record-end messages have arrived and the SE writes the record completion. (R370) -/
  | recordComplete (q : Nat)
  /-- TX_PREFETCH_DONE: The playback buffers hold the first record's prefetch and STREAM_ARM completes. (R371) -/
  | txPrefetchDone (q : Nat)
  /-- TX_FRAME_DUE: A TX frame is due; its samples play, or idle samples replace missing data. (R372) -/
  | txFrameDue (k : Nat) (at_ : Int) (err : MemErr)
  /-- CLEAR_CONVERTER_COUNTERS: A write of 0x2A80:01 with the signature clears the writer's own lane and link counters. (R374) -/
  | clearConverterCounters (path : Nat) (value : Nat)
  /-- FRAME_RECEIVE: A received Ethernet frame is classified and dropped, consumed, or delivered. (R386) -/
  | frameReceive (p : Nat) (frame : Bytes) (fcsOk : Bool) (at_ : Int) (corr : Nat) (uncorr : Nat)
  /-- PFC_PAUSE_EXPIRY: The quanta of a received PFC XOFF expire and transmission of that priority resumes. (R387) -/
  | pfcPauseExpiry (p : Nat) (prio : Nat)
  /-- PTP_TRANSMIT: The port sends a firmware PTP frame, stamping it one-step or queuing a two-step entry. (R390) -/
  | ptpTransmit (p : Nat) (frame : Bytes) (oneStep : Bool) (at_ : Int)
  /-- ETH_LINK_DOWN: A port's link goes down; transmission drops and SyncE loses the reference. (R410) -/
  | ethLinkDown (p : Nat)
  /-- ETH_LINK_UP: A port's link comes up and its recovered clock is offered as a reference. (R392) -/
  | ethLinkUp (p : Nat)
  /-- QP_MODIFY: The work entry QP_MODIFY moves a queue pair among RESET, READY and ERROR. (R396) -/
  | qpModify (q : Nat)
  /-- SEND: The work entry SEND sends a RoCEv2 message from local memory. (R398) -/
  | send (q : Nat)
  /-- RDMA_WRITE: The work entry RDMA_WRITE writes local data into a remote region. (R398) -/
  | rdmaWrite (q : Nat)
  /-- RDMA_WRITE_IMM: The work entry RDMA_WRITE_IMM writes remote data with an immediate value. (R398) -/
  | rdmaWriteImm (q : Nat)
  /-- RAW_SEND: The work entry RAW_SEND splits a span into UDP datagrams under a header template. (R403) -/
  | rawSend (q : Nat)
  /-- RECV: The work entry RECV posts a receive buffer to a queue pair or raw queue. (R401) -/
  | recv (q : Nat)
  /-- ROCE_PACKET_RECEIVE: A RoCEv2 packet for a ready QP is checked in PSN order and placed, acknowledged or NAKed. (R399) -/
  | rocePacketReceive (p : Nat) (icrcOk : Bool) (err : MemErr) (qpErr : MemErr)
  /-- ACK_RECEIVE: An ACK or NAK reaches a requester QP and completes messages or starts go-back-N. (R398) -/
  | ackReceive (p : Nat) (icrcOk : Bool) (err : MemErr) (qpErr : MemErr)
  /-- RETRANSMIT_TIMEOUT: A QP's retransmit timer expires and it retransmits, or ends RETRY_EXCEEDED. (R398) -/
  | retransmitTimeout (n : Nat)
  /-- ACK_TIMER: 4 us pass without an ACK and the responder sends one. (R399) -/
  | ackTimer (n : Nat)
  /-- RAW_DATAGRAM_SEND: The next datagram of a RAW_SEND leaves once PACE has passed since the previous start. (R403) -/
  | rawDatagramSend (q : Nat)
  /-- CLEAR_ETHERNET_COUNTERS: A write of 0x2B70:03 with the signature clears the Ethernet counters. (R406) -/
  | clearEthernetCounters (path : Nat) (value : Nat)
  /-- DESCRIPTOR_DELIVERY: The SE delivers a descriptor to an OP unit with a WRITE_NP, within the per-partition count. (R416) -/
  | descriptorDelivery (q : Nat)
  /-- OP_FFT: The unit runs an FFT descriptor. (R420) -/
  | opFft (n : Nat) (err : MemErr)
  /-- OP_FIR: The unit runs a FIR descriptor. (R421) -/
  | opFir (n : Nat) (err : MemErr)
  /-- OP_DECIMATE: The unit runs a DECIMATE descriptor. (R421) -/
  | opDecimate (n : Nat) (err : MemErr)
  /-- OP_AVERAGE: The unit runs an AVERAGE descriptor over the batch. (R422) -/
  | opAverage (n : Nat) (err : MemErr)
  /-- OP_THRESHOLD: The unit runs a THRESHOLD descriptor, recording events and sending trigger messages. (R423) -/
  | opThreshold (n : Nat) (err : MemErr) (dropped : List Nat)
  /-- OP_CONVERT: The unit runs a CONVERT descriptor. (R425) -/
  | opConvert (n : Nat) (err : MemErr)
  /-- OP_CHECKSUM: The unit runs a CHECKSUM descriptor. (R425) -/
  | opChecksum (n : Nat) (err : MemErr)
  /-- DESCRIPTOR_END: A descriptor ends; the unit sends its fenced done message and updates the pass value. (R421) -/
  | descriptorEnd (n : Nat) (cycles : Nat)
  /-- DESCRIPTOR_TIME_LIMIT: A descriptor exceeds the time limit and is stopped, completing ABORTED. (R425) -/
  | descriptorTimeLimit (n : Nat) (cycles : Nat)
  /-- CLEAR_OPERATOR_COUNTERS: A write of 0x2C30:01 with the signature clears the operator counters. (R426) -/
  | clearOperatorCounters (path : Nat) (value : Nat)
  /-- REFERENCE_MEASUREMENT: At each 10 ms measurement a reference's frequency is checked and it qualifies or is disqualified. (R434) -/
  | referenceMeasurement (m : List (Option Int))
  /-- REFERENCE_EDGE_LOSS: A reference misses an edge and is disqualified within 2 nominal periods. (R434) -/
  | referenceEdgeLoss (r : Nat)
  /-- REFERENCE_SWITCH_DONE: A 1 ms phase build-out switch completes and the state becomes locked. (R437) -/
  | referenceSwitchDone
  /-- WAIT_TO_RESTORE_EXPIRY: A better reference has been qualified for the wait-to-restore time and the device switches to it. (R438) -/
  | waitToRestoreExpiry
  /-- OCXO_ABSENT: The OCXO is absent; qualification is suspended and 0xC3 is raised. (R440) -/
  | ocxoAbsent
  /-- PLL_LOCK_LOSS: The fabric or TTU PLL loses lock and raises 0xC4 or 0xC5. (R440) -/
  | pllLockLoss (ttu : Bool)
  /-- SET_TIME: A write of 0x2D11:01 loads chassis time into every replica as a step. (R444) -/
  | setTime (path : Nat) (data : Bytes)
  /-- ADJUST_TIME: A write of 0x2D11:02 adds to the slew backlog or steps the time. (R444) -/
  | adjustTime (path : Nat) (x : Int)
  /-- SET_UTC: A write of 0x2D20:02 converts a UTC calendar value and sets chassis time. (R448) -/
  | setUtc (path : Nat) (value : Nat)
  /-- SLEW_TICK: Every slew interval, one count of the backlog is applied by ADD. (R444) -/
  | slewTick
  /-- TIME_STROBE: 96 FCLK after the last LOAD or ADD message, the TTU fires the strobe and the pending changes apply. (R443) -/
  | timeStrobe
  /-- SYNC_SEND: Each replica check period, the TTU sends every NI a SYNC message. (R445) -/
  | syncSend
  /-- REPLICA_RELOAD: An out-of-step report reaches the TTU and it reloads that NI with LOAD and a strobe. (R445) -/
  | replicaReload (vc : Nat)
  /-- PTP_MESSAGE: The firmware processes a timestamped PTP message and runs its servo. (R446) -/
  | ptpMessage (state : Nat) (offset : Int) (delay : Nat) (adj : Int)
  /-- PTP_MASTER_LOSS: 3 announce intervals pass without a master; time valid returns to 1 and 0xC7 is raised. (R446) -/
  | ptpMasterLoss (state : Nat)
  /-- TRIGGER_INPUT_EDGE: A filtered input edge of a trigger line is timestamped and sent as trigger messages to owned links. (R450) -/
  | triggerInputEdge (c : Nat) (asserted : Bool) (t : Nat)
  /-- TRIGGER_ORDER: A released order at TTU MQ 1 schedules an output edge of a trigger line, or is discarded. (R451) -/
  | triggerOrder
  /-- TRIGGER_EDGE_FIRE: A scheduled trigger edge is asserted or toggled at its time. (R451) -/
  | triggerEdgeFire (c : Nat) (err : MemErr)
  /-- TRIGGER_PULSE_END: A pulse-mode trigger output is released when its pulse width ends. (R452) -/
  | triggerPulseEnd (c : Nat)
  /-- SYSREF_EDGE: An enabled SYSREF output rises or falls at its grid time. (R453) -/
  | sysrefEdge (k : Nat)
  /-- SYSREF_REANCHOR: A write of 0x2D40+k:07 re-anchors the SYSREF grid at the next whole second. (R454) -/
  | sysrefReanchor (path : Nat) (k : Nat) (value : Nat)
  /-- ELECTION_FRAME_START: A card starts an election frame at a SYNC100 edge after the line has been idle. (R455) -/
  | electionFrameStart
  /-- ELECTION_FRAME_END: An election frame ends; the winner becomes leader, or a bad CRC raises 0xC9. (R456) -/
  | electionFrameEnd (word : Nat) (crcOk : Bool)
  /-- HEARTBEAT_SEND: The leader sends a heartbeat frame every heartbeat period. (R457) -/
  | heartbeatSend
  /-- HEARTBEAT_RECEIVE: A follower receives a heartbeat marker and loads or adjusts its time. (R457) -/
  | heartbeatReceive (word : Nat) (secs : Nat) (ns : Nat) (crcOk : Bool)
  /-- HEARTBEAT_LOSS: 3 heartbeat periods pass without a valid heartbeat and the card starts an election. (R458) -/
  | heartbeatLoss
  /-- CLEAR_TIMING_COUNTERS: A write of 0x2D70:01 with the signature clears the timing counters. (R459) -/
  | clearTimingCounters (path : Nat) (value : Nat)
  /-- FAULT_EVENT_REGISTER: A source's event is registered at FCOL, counted against its window and its reactions are applied. (R472) -/
  | faultEventRegister (err : MemErr) (seen : List (Nat × Nat)) (cut : SpiCut)
  /-- FAULT_WINDOW_EXPIRY: A source's counting window expires and its window count returns to 0. (R473) -/
  | faultWindowExpiry (src : Nat)
  /-- CLEAR_SOURCE: A write of 0x4000+s:0C clears a source's counts, record, severe state and FAULT_N latch. (R474) -/
  | clearSource (path : Nat) (src : Nat) (value : Nat)
  /-- CLEAR_ALL_SOURCES: A write of 0x2E03:01 clears every source and the global records. (R474) -/
  | clearAllSources (path : Nat) (value : Nat)
  /-- CLEAR_FAULT_N: A write of 0x2E01:02 clears every FAULT_N latch and the reset flag. (R481) -/
  | clearFaultN (path : Nat) (value : Nat)
  /-- FIELD_INJECTION: A write of 0x2E10:01 arms a field injection of a checker-based source. (R482) -/
  | fieldInjection (path : Nat) (value : Nat)
  /-- CANCEL_INJECTION: A write of 0x2E10:03 cancels the armed injection. (R484) -/
  | cancelInjection (path : Nat) (value : Nat)
  /-- FACTORY_INJECTION: A write of 0x2E11:01 in factory test mode raises one event of any source. (R483) -/
  | factoryInjection (path : Nat) (value : Nat)
  /-- INHIBIT_TICK: At each 1 MHz tick the monitor samples both inhibit channels, sets the inhibit and counts disagreement. (R486) -/
  | inhibitTick (a : Bool) (b : Bool)
  /-- ACKNOWLEDGE_DISCREPANCY: A write of 0x2E30:03 clears the latched discrepancy fault when both channels release. (R487) -/
  | acknowledgeDiscrepancy (path : Nat) (value : Nat)
  /-- CLEAR_LINK_ERROR_RECORDS: A write of 0x2181:01 with the signature clears the link error counters and capture. (R138) -/
  | clearLinkErrorRecords (path : Nat) (value : Nat)
  /-- CLEAR_BRIDGE_COUNTERS: A write of 0x2431:01 with the signature clears the bridge counters and error record. (R222) -/
  | clearBridgeCounters (path : Nat) (value : Nat)
  /-- PROBE_ARM: The probe command ARM moves a probe to ARMED, or with start mode 0 to RUNNING. (R507) -/
  | probeArm (path : Nat) (j : Nat)
  /-- PROBE_STOP: The probe command STOP moves a probe to STOPPED. (R507) -/
  | probeStop (path : Nat) (j : Nat)
  /-- PROBE_CLEAR: The probe command CLEAR zeroes a probe's counters and rate meter. (R507) -/
  | probeClear (path : Nat) (j : Nat)
  /-- PROBE_START_CONDITION: An armed probe's start time, probe match or line edge occurs and it enters RUNNING. (R508) -/
  | probeStartCondition (j : Nat)
  /-- PROBE_STOP_CONDITION: A running probe's stop count, time, match or line edge occurs and it enters STOPPED. (R508) -/
  | probeStopCondition (j : Nat)
  /-- RATE_INTERVAL_END: A probe's rate interval ends and LAST, PEAK and VALID update. (R501) -/
  | rateIntervalEnd (j : Nat)
  /-- TRACE_DRAIN_POLL: The SE polls a trace FIFO and moves the whole records present into the current slot. (R506) -/
  | traceDrainPoll (f : Nat)
  /-- FIRMWARE_START: The boot ROM has chosen, loaded and verified a slot, sets REMAP and jumps to the firmware. (R521) -/
  | firmwareStart (programmed : Bool)
  /-- SAFE_HARBOUR_ENTRY: No candidate slot is found, or BOOT_SEL is 0b11, and the boot ROM enters safe-harbour mode. (R525) -/
  | safeHarbourEntry
  /-- END_OF_BOOT: Partitions and domains are released and PF0 answers configuration requests normally. (R521) -/
  | endOfBoot
  /-- TRIAL_CONFIRM: 10 s after the end of boot, the firmware confirms a trial in the boot record. (R523) -/
  | trialConfirm
  /-- LKC_RESTART: LKC restarts by watchdog or RESTART and runs boot steps 2-8, ending mailbox and CAN requests in progress. (R522) -/
  | lkcRestart (cut : SpiCut)
  /-- OPEN: The update command OPEN erases the target firmware slot for receiving. (R527) -/
  | openUpdate (path : Nat)
  /-- UPDATE_ERASE_DONE: The target slot erase completes and the update state becomes receiving. (R527) -/
  | updateEraseDone (ok : Bool)
  /-- UPDATE_DATA: A write of 0x1F50:01 appends image bytes to the target slot. (R527) -/
  | updateData (path : Nat) (data : Bytes) (programmed : Nat)
  /-- VERIFY: The update command VERIFY programs the rest and checks the slot. (R527) -/
  | verify (path : Nat)
  /-- UPDATE_VERIFY_DONE: Verification ends and the update state becomes verified or failed. (R527) -/
  | updateVerifyDone (ok : Bool)
  /-- CANCEL: The update command CANCEL returns the update state to idle. (R527) -/
  | cancel (path : Nat)
  /-- ACTIVATE: The update command ACTIVATE writes a trial into the boot record after the schema check. (R527) -/
  | activate (path : Nat)
  /-- ACTIVATE_FORCE: The update command ACTIVATE_FORCE writes a trial without the schema check. (R527) -/
  | activateForce (path : Nat)
  /-- ROLLBACK: The update command ROLLBACK pins the other candidate slot. (R527) -/
  | rollback (path : Nat)
  /-- RESTART: The update command RESTART schedules an LKC restart 100 ms later. (R527) -/
  | restart (path : Nat)
  /-- RESTART_DELAY_EXPIRY: 100 ms after RESTART, LKC restarts, or the boot ROM repeats slot selection in safe-harbour mode. (R527) -/
  | restartDelayExpiry (cut : SpiCut)
  /-- DOMAIN_CLOCK_START: A stopped domain clock starts running, for example when the PCIe reference clock returns; RUNNING sets and the domain's store crossings capture the active configuration. (R47) -/
  | domainClockStart (d : Nat)
  /-- OCXO_RETURN: OCXO edges return after an absence, and reference qualification resumes. (R440) -/
  | ocxoReturn
  /-- RNR_RETRY_DELAY: The delay advertised in a received RNR NAK expires, and the requester QP resends the message, or ends RETRY_EXCEEDED when its RNR retries are used up. (R398) -/
  | rnrRetryDelay (n : Nat)
  deriving DecidableEq, Repr

end Sys2Proof
end

