-- ==== Sys2Proof/Config.lean ====
section
/-! DEFINITION. Values that the spec leaves open and the machine goes on with: opaque constants, applied to a counter
of State or to the operands. Nothing in Lean can evaluate them. -/
namespace Sys2Proof.Config

/-- What a peripheral target other than MSRAM returns for a byte, at the counter's value: the spec gives no register
layout or contents there. -/
opaque periphByte : Nat → Nat → Byte

/-- Bytes of the flash that the card fits; the device takes 64 to 256 MiB (R550). -/
opaque fittedFlash : Nat

/-- SHA-384 of an image body (R517): a function the spec names and does not define. -/
opaque sha384 : Bytes → Bytes

/-- Whether an ECDSA P-384 signature over a digest verifies with a public key (R517): digest, key, signature. -/
opaque signatureValid : Bytes → Bytes → Bytes → Bool

/-- The fixed delay of an Ethernet port in a mode, in picoseconds: direction 0 ingress, 1 egress (R388); the spec gives no
value. -/
opaque ethLatency : Nat → Nat → Nat

/-- An output value of an FFT as binary32 bits, from the descriptor, the window table, the input record and the output's
number: the spec fixes neither the order of its arithmetic nor its windows' values (R420). -/
opaque fftValue : Bytes → Bytes → Bytes → Nat → Nat

/-- The payload of a NaN that arithmetic makes or passes on (R418). -/
opaque nanPayload : Nat

/-- What an integer output of some bits holds for a NaN or an infinity that does not saturate (R418). -/
opaque floatToInt : Nat → Nat → Nat

/-- The check bits of a SECDED code over a word of some width (R119): the spec names the codes (22,16) and (137,128) and not
their matrices. -/
opaque secded : Nat → Nat → Nat

/-- What an undefined byte of main memory holds, by the number of the event that made it undefined and its address (R105,
R260). -/
opaque memoryByte : Nat → Nat → Byte

/-- What a port reads for an octet that a frame shorter than Ethernet's least frame does not hold: the counter's value, and the
octet's offset; the spec states nothing for such a frame. -/
opaque absentOctet : Nat → Nat → Byte

/-- The serial number of the part, 60 bits (0x2000:04). -/
opaque serialNumber : Nat

/-- What the version objects read while no firmware runs: 0 the firmware version, 1 the lowest and 2 the highest schema
version; the spec states none. -/
opaque absentFirmware : Nat → Nat

/-- Vendor and device IDs that the part carries in OTP, by subindex of 0x2810. -/
opaque pcieId : Nat → Nat

/-- Entry of the TPDO mapping object 0x1A00 + k, by k and subindex: the spec fixes the payloads and not this encoding. -/
opaque tpdoMapping : Nat → Nat → Nat

/-- Whether the hex digits of 0x100A are upper case: the spec does not say. -/
opaque hexUpper : Bool

end Sys2Proof.Config
end

