-- ==== Sys2Proof/Machine/Binary32.lean ====
section
/-! DEFINITION. IEEE 754 binary32 and binary16 arithmetic with round to nearest, ties to even, on bit patterns (R418):
a value is taken apart, computed exactly and rounded once. -/
namespace Sys2Proof.Machine

/-- A floating-point value taken apart: a finite one is ±m·2^e. -/
inductive Fp where
  | nan
  | inf (neg : Bool)
  | fin (neg : Bool) (m : Nat) (e : Int)
  deriving DecidableEq, Repr

/-- A binary format: exponent bits and precision. -/
structure FpFmt where
  /-- Exponent bits. -/
  eb : Nat
  /-- Precision, the hidden bit counted. -/
  p : Nat
  deriving DecidableEq, Repr

/-- binary32. -/
def fmt32 : FpFmt := ⟨8, 24⟩

/-- binary16. -/
def fmt16 : FpFmt := ⟨5, 11⟩

/-- Exponent of the least subnormal. -/
def FpFmt.emin (f : FpFmt) : Int := 3 - (2 ^ (f.eb - 1) : Nat) - (f.p : Int)

/-- Bits of +infinity. -/
def FpFmt.infBits (f : FpFmt) : Nat := (2 ^ f.eb - 1) * 2 ^ (f.p - 1)

/-- The sign bit's weight. -/
def FpFmt.signBit (f : FpFmt) : Nat := 2 ^ (f.eb + f.p - 1)

/-- A bit pattern taken apart. -/
def FpFmt.unpack (f : FpFmt) (w : Nat) : Fp :=
  let neg := decide (f.signBit ≤ w % (2 * f.signBit))
  let v := w % f.signBit
  let ex := v / 2 ^ (f.p - 1)
  let fr := v % 2 ^ (f.p - 1)
  if ex = 2 ^ f.eb - 1 then (if fr = 0 then .inf neg else .nan)
  else if ex = 0 then .fin neg fr f.emin
  else .fin neg (fr + 2 ^ (f.p - 1)) (f.emin + (ex : Int) - 1)

/-- m·2^(−k) rounded to nearest, ties to even. -/
def roundShift (m k : Nat) : Nat :=
  let q := m / 2 ^ k
  let r := m % 2 ^ k
  if 2 ^ k < 2 * r ∨ (2 * r = 2 ^ k ∧ q % 2 = 1) then q + 1 else q

/-- Bits of a NaN in a format. -/
def FpFmt.nanBits (f : FpFmt) : Nat := f.infBits + 2 ^ (f.p - 2) + Config.nanPayload % 2 ^ (f.p - 2)

/-- A value rounded into a format. -/
def FpFmt.pack (f : FpFmt) : Fp → Nat
  | .nan => f.nanBits
  | .inf neg => (if neg then f.signBit else 0) + f.infBits
  | .fin neg m e =>
    let s := if neg then f.signBit else 0
    if m = 0 then s
    else
      let t := max (e + (Nat.log2 m : Int) + 1 - (f.p : Int)) f.emin
      let q := if e ≤ t then roundShift m (t - e).toNat else m * 2 ^ (e - t).toNat
      s + min ((t - f.emin).toNat * 2 ^ (f.p - 1) + q) f.infBits

/-- A signed multiple of a power of two. -/
def fpOfInt (v : Int) (e : Int) : Fp := .fin (decide (v < 0)) v.natAbs e

/-- The signed integer of a finite value at an exponent not above its own. -/
def atExp (neg : Bool) (m : Nat) (e t : Int) : Int :=
  let v : Int := ((m * 2 ^ (e - t).toNat : Nat) : Int)
  if neg then -v else v

/-- Exact sum. -/
def Fp.add : Fp → Fp → Fp
  | .nan, _ => .nan
  | _, .nan => .nan
  | .inf a, .inf b => if a = b then .inf a else .nan
  | .inf a, _ => .inf a
  | _, .inf b => .inf b
  | .fin a m e, .fin b n g =>
    if m = 0 ∧ n = 0 then .fin (a && b) 0 0
    else
      let t := min e g
      fpOfInt (atExp a m e t + atExp b n g t) t

/-- Negation. -/
def Fp.neg : Fp → Fp
  | .nan => .nan
  | .inf a => .inf (!a)
  | .fin a m e => .fin (!a) m e

/-- Exact product. -/
def Fp.mul : Fp → Fp → Fp
  | .nan, _ => .nan
  | _, .nan => .nan
  | .inf a, .inf b => .inf (a != b)
  | .inf a, .fin b m _ => if m = 0 then .nan else .inf (a != b)
  | .fin a m _, .inf b => if m = 0 then .nan else .inf (a != b)
  | .fin a m e, .fin b n g => .fin (a != b) (m * n) (e + g)

/-- A quotient by a whole number above zero, with enough bits and a sticky bit for one rounding. -/
def Fp.divNat (x : Fp) (k : Nat) : Fp :=
  match x with
  | .fin a m e =>
    let w := m * 2 ^ 64
    .fin a (2 * (w / k) + (if w % k = 0 then 0 else 1)) (e - 65)
  | y => y

/-- Whether `a < b`; never for a NaN. -/
def Fp.lt : Fp → Fp → Bool
  | .nan, _ => false
  | _, .nan => false
  | .inf a, .inf b => a && !b
  | .inf a, .fin _ _ _ => a
  | .fin _ _ _, .inf b => !b
  | .fin a m e, .fin b n g => decide (atExp a m e (min e g) < atExp b n g (min e g))

/-- Whether `a ≤ b`; never for a NaN. -/
def Fp.le (a b : Fp) : Bool :=
  match a, b with
  | .nan, _ => false
  | _, .nan => false
  | x, y => !(y.lt x)

/-- Sum of two binary32 patterns. -/
def f32Add (a b : Nat) : Nat := fmt32.pack ((fmt32.unpack a).add (fmt32.unpack b))

/-- Difference of two binary32 patterns. -/
def f32Sub (a b : Nat) : Nat := fmt32.pack ((fmt32.unpack a).add (fmt32.unpack b).neg)

/-- Product of two binary32 patterns. -/
def f32Mul (a b : Nat) : Nat := fmt32.pack ((fmt32.unpack a).mul (fmt32.unpack b))

/-- Square root of a non-negative binary32 pattern, with a sticky bit for one rounding. -/
def f32Sqrt (a : Nat) : Nat :=
  match fmt32.unpack a with
  | .nan => fmt32.pack .nan
  | .inf neg => if neg then fmt32.pack .nan else a
  | .fin neg m e =>
    if m = 0 then a
    else if neg then fmt32.pack .nan
    else
      let odd : Int := e % 2
      let w := m * 2 ^ (60 + odd.toNat)
      let r := Nat.sqrt w
      fmt32.pack (.fin false (2 * r + (if r * r = w then 0 else 1)) ((e - odd - 60) / 2 - 1))

/-- Whether a binary32 pattern is a NaN or an infinity. -/
def f32Special (a : Nat) : Bool := decide (fmt32.infBits ≤ a % fmt32.signBit)

/-- A finite value rounded to the nearest integer, ties to even. -/
def fpToInt (neg : Bool) (m : Nat) (e : Int) : Int :=
  let v : Nat := if 0 ≤ e then m * 2 ^ e.toNat else roundShift m (-e).toNat
  if neg then -(v : Int) else (v : Int)

end Sys2Proof.Machine
end

