-- ==== Sys2Proof/Machine/Flags.lean ====
section
/-! DEFINITION. Check codes and rational arithmetic: CRC-16/CCITT-FALSE (R56, R124), CRC-32C (R51) and the exact
fractions of the latency bounds (R164). -/
namespace Sys2Proof.Machine

/-- One bit of CRC-16/CCITT-FALSE: polynomial 0x1021, no reflection. -/
def crc16Bit (c : Nat) : Nat :=
  if c < 0x8000 then 2 * c else Nat.xor (2 * c % 0x10000) 0x1021

/-- One byte of CRC-16/CCITT-FALSE. -/
def crc16Byte (c : Nat) (b : Byte) : Nat :=
  let x := Nat.xor c (b.toNat * 256)
  crc16Bit (crc16Bit (crc16Bit (crc16Bit (crc16Bit (crc16Bit (crc16Bit (crc16Bit x)))))))

/-- CRC-16/CCITT-FALSE with initial value 0xFFFF and no final XOR (the SPI frame of spec/02). -/
def crc16 (bs : Bytes) : Nat := bs.foldl crc16Byte 0xFFFF

/-- One bit of CRC-32C, reflected. -/
def crc32cBit (c : Nat) : Nat :=
  if c % 2 = 0 then c / 2 else Nat.xor (c / 2) 0x82F63B78

/-- One byte of CRC-32C. -/
def crc32cByte (c : Nat) (b : Byte) : Nat :=
  let x := Nat.xor c b.toNat
  crc32cBit (crc32cBit (crc32cBit (crc32cBit (crc32cBit (crc32cBit (crc32cBit (crc32cBit x)))))))

/-- CRC-32C (Castagnoli): reflected, initial value and final XOR 0xFFFF_FFFF (R51). -/
def crc32c (bs : Bytes) : Nat := Nat.xor (bs.foldl crc32cByte 0xFFFFFFFF) 0xFFFFFFFF

/-- A non-negative rational `num / den` (R164: arithmetic is exact on rationals). -/
structure Frac where
  num : Nat
  den : Nat
  deriving DecidableEq, Repr

/-- A whole number. -/
def Frac.ofNat (n : Nat) : Frac := ⟨n, 1⟩

/-- The fraction in lowest terms. -/
def Frac.norm (a : Frac) : Frac :=
  let g := Nat.gcd a.num a.den
  if g ≤ 1 then a else ⟨a.num / g, a.den / g⟩

/-- Sum. -/
def Frac.add (a b : Frac) : Frac :=
  if a.den = b.den then Frac.norm ⟨a.num + b.num, a.den⟩
  else Frac.norm ⟨a.num * b.den + b.num * a.den, a.den * b.den⟩

/-- Multiple. -/
def Frac.scale (k : Nat) (a : Frac) : Frac := Frac.norm ⟨k * a.num, a.den⟩

/-- Whether `a ≤ b`. -/
def Frac.le (a b : Frac) : Bool := decide (a.num * b.den ≤ b.num * a.den)

/-- The lesser of two fractions. -/
def Frac.min (a b : Frac) : Frac := if a.le b then a else b

/-- Sum of a list. -/
def Frac.sum (l : List Frac) : Frac := l.foldl Frac.add (Frac.ofNat 0)

/-- Least whole number not below `n / a` for a fraction `a` above zero. -/
def ceilDiv (n d : Nat) : Nat := if d = 0 then 0 else (n + d - 1) / d

end Sys2Proof.Machine
end

