-- ==== Sys2Proof/Machine/Objects.lean ====
section
/-! DEFINITION. The object dictionary: the rows of the object tables of spec/02 to spec/19 (types, access rights,
commit classes, defaults, ranges) and the active configuration as the values that differ from their defaults
(R64 to R66, R53). -/
namespace Sys2Proof.Machine

/-- Data type of an object (R65). -/
inductive OTy where
  /-- UNSIGNEDn of this many bytes. -/
  | u (bytes : Nat)
  /-- INTEGERn of this many bytes. -/
  | i (bytes : Nat)
  /-- VISIBLE_STRING or OCTET_STRING of 1 to 256 bytes. -/
  | str
  /-- A string object that must carry one of these lengths. -/
  | strLen (lens : List Nat)
  deriving DecidableEq, Repr

/-- Access right of an object. -/
inductive Acc where
  | cst | ro | rw | wo
  deriving DecidableEq, Repr

/-- Commit class of an object. -/
inductive Cls where
  | s | f | i | v
  deriving DecidableEq, Repr

/-- Default of an object. -/
inductive Dflt where
  | n (v : Nat)
  /-- One value per index of the row. -/
  | perIdx (vs : List Nat)
  /-- One value per subindex of the row. -/
  | perSub (vs : List Nat)
  /-- A string of this many zero bytes; 0 where the object is absent until written. -/
  | zeros (n : Nat)
  /-- The subindex itself. -/
  | subNo
  /-- Computed by the machine. -/
  | live
  /-- The COB-ID that follows the node-ID (R566). -/
  | cobId
  /-- 1, and 0 for the TRIG lines (R459). -/
  | trigLevel
  /-- N of R490. -/
  | faultN
  /-- The severe set of R490. -/
  | faultS
  deriving DecidableEq, Repr

/-- Value range of an object, checked at staging (R33). -/
inductive Rng where
  | any
  | span (lo hi : Int)
  /-- A range or one further value. -/
  | spanOr (lo hi other : Nat)
  | oneOf (vs : List Nat)
  /-- Only these bits may be set. -/
  | mask (m : Nat)
  /-- A multiple of `k`. -/
  | mult (k : Nat)
  /-- A multiple of `k` up to `hi`. -/
  | multTo (k hi : Nat)
  /-- From `lo` to `hi` in steps of `k`. -/
  | step (lo hi k : Nat)
  /-- Bits [11:0] must be 0xFFF; 0 marks an unused pair. -/
  | limit4k
  /-- Bits [11:0] must be 0xFFF. -/
  | last4k
  /-- 0, or 64 to 65,535 (T self-limit). -/
  | tLimit
  /-- Window code of a fault source. -/
  | window
  /-- Asserted level of a trigger line: 1 is refused for TRIG lines. -/
  | trigLevel
  deriving DecidableEq, Repr

/-- One row of an object table: a range of indices and a range of subindices of one kind. -/
structure ObjRow where
  lo : Nat
  hi : Nat
  slo : Nat
  shi : Nat
  ty : OTy
  acc : Acc
  cls : Cls
  dflt : Dflt
  rng : Rng
  deriving DecidableEq, Repr

/-- Object rows of 0x10xx, part 0. -/
def rows10p0 : List ObjRow := [
  ⟨0x1000, 0x1000, 0x0, 0x0, .u 4, .cst, .v, .n 0, .any⟩,
  ⟨0x1001, 0x1001, 0x0, 0x0, .u 1, .ro, .v, .n 0, .any⟩,
  ⟨0x1008, 0x1008, 0x0, 0x0, .str, .cst, .v, .live, .any⟩,
  ⟨0x1009, 0x1009, 0x0, 0x0, .str, .cst, .v, .live, .any⟩,
  ⟨0x100A, 0x100A, 0x0, 0x0, .str, .ro, .v, .live, .any⟩,
  ⟨0x1010, 0x1010, 0x0, 0x0, .u 1, .cst, .v, .n 1, .any⟩,
  ⟨0x1010, 0x1010, 0x1, 0x1, .u 4, .wo, .i, .n 0, .any⟩,
  ⟨0x1011, 0x1011, 0x0, 0x0, .u 1, .cst, .v, .n 1, .any⟩,
  ⟨0x1011, 0x1011, 0x1, 0x1, .u 4, .wo, .i, .n 0, .any⟩,
  ⟨0x1014, 0x1014, 0x0, 0x0, .u 4, .rw, .s, .cobId, .any⟩,
  ⟨0x1015, 0x1015, 0x0, 0x0, .u 2, .rw, .s, .n 0xa, .any⟩,
  ⟨0x1017, 0x1017, 0x0, 0x0, .u 2, .rw, .s, .n 0x3e8, .any⟩,
  ⟨0x1018, 0x1018, 0x0, 0x0, .u 1, .cst, .v, .n 4, .any⟩,
  ⟨0x1018, 0x1018, 0x1, 0x1, .u 4, .cst, .v, .n 0x4f415349, .any⟩,
  ⟨0x1018, 0x1018, 0x2, 0x2, .u 4, .cst, .v, .n 0x6424, .any⟩,
  ⟨0x1018, 0x1018, 0x3, 0x3, .u 4, .ro, .v, .live, .any⟩,
  ⟨0x1018, 0x1018, 0x4, 0x4, .u 4, .cst, .v, .live, .any⟩]

/-- The object rows of 0x10xx. -/
def rows10 : List ObjRow := rows10p0

/-- Object rows of 0x18xx, part 0. -/
def rows18p0 : List ObjRow := [
  ⟨0x1800, 0x1803, 0x0, 0x0, .u 1, .cst, .v, .n 5, .any⟩,
  ⟨0x1800, 0x1803, 0x1, 0x1, .u 4, .rw, .s, .cobId, .any⟩,
  ⟨0x1800, 0x1803, 0x2, 0x2, .u 1, .cst, .v, .n 0xfe, .any⟩,
  ⟨0x1800, 0x1803, 0x3, 0x3, .u 2, .rw, .s, .perIdx [1000, 0, 1000, 100], .any⟩,
  ⟨0x1800, 0x1803, 0x5, 0x5, .u 2, .rw, .s, .perIdx [0, 1000, 0, 0], .any⟩]

/-- The object rows of 0x18xx. -/
def rows18 : List ObjRow := rows18p0

/-- Object rows of 0x1Axx, part 0. -/
def rows1Ap0 : List ObjRow := [
  ⟨0x1A00, 0x1A03, 0x0, 0x0, .u 4, .cst, .v, .live, .any⟩,
  ⟨0x1A00, 0x1A03, 0x1, 0x8, .u 4, .cst, .v, .live, .any⟩]

/-- The object rows of 0x1Axx. -/
def rows1A : List ObjRow := rows1Ap0

/-- Object rows of 0x1Fxx, part 0. -/
def rows1Fp0 : List ObjRow := [
  ⟨0x1FF0, 0x1FF0, 0x0, 0x0, .u 1, .cst, .v, .n 7, .any⟩,
  ⟨0x1FF0, 0x1FF0, 0x1, 0x1, .u 1, .rw, .s, .n 0x40, .span 1 127⟩,
  ⟨0x1FF0, 0x1FF0, 0x2, 0x2, .u 1, .rw, .s, .n 2, .oneOf [1, 2, 4, 5]⟩,
  ⟨0x1FF0, 0x1FF0, 0x3, 0x3, .u 1, .rw, .s, .n 0, .span 0 1⟩,
  ⟨0x1FF0, 0x1FF0, 0x4, 0x4, .u 2, .rw, .s, .n 0x3e8, .span 10 10000⟩,
  ⟨0x1FF0, 0x1FF0, 0x5, 0x5, .u 1, .rw, .s, .n 1, .span 0 1⟩,
  ⟨0x1FF0, 0x1FF0, 0x6, 0x6, .u 4, .ro, .v, .n 0, .any⟩,
  ⟨0x1FF0, 0x1FF0, 0x7, 0x7, .u 4, .ro, .v, .n 0, .any⟩,
  ⟨0x1F50, 0x1F50, 0x0, 0x0, .u 1, .cst, .v, .n 1, .any⟩,
  ⟨0x1F50, 0x1F50, 0x1, 0x1, .str, .wo, .i, .n 0, .any⟩,
  ⟨0x1F51, 0x1F51, 0x0, 0x0, .u 1, .cst, .v, .n 6, .any⟩,
  ⟨0x1F51, 0x1F51, 0x1, 0x1, .u 1, .wo, .i, .n 0, .any⟩,
  ⟨0x1F51, 0x1F51, 0x2, 0x2, .u 1, .ro, .v, .n 0, .any⟩,
  ⟨0x1F51, 0x1F51, 0x3, 0x3, .u 4, .ro, .v, .n 0, .any⟩,
  ⟨0x1F51, 0x1F51, 0x4, 0x5, .u 1, .ro, .v, .n 0xff, .any⟩,
  ⟨0x1F51, 0x1F51, 0x6, 0x6, .u 1, .ro, .v, .n 0, .any⟩,
  ⟨0x1F56, 0x1F56, 0x0, 0x0, .u 1, .cst, .v, .n 2, .any⟩,
  ⟨0x1F56, 0x1F56, 0x1, 0x2, .u 4, .ro, .v, .n 0, .any⟩,
  ⟨0x1F57, 0x1F57, 0x0, 0x0, .u 1, .cst, .v, .n 4, .any⟩,
  ⟨0x1F57, 0x1F57, 0x1, 0x2, .u 1, .ro, .v, .n 0, .any⟩,
  ⟨0x1F57, 0x1F57, 0x3, 0x3, .u 1, .ro, .v, .n 0xff, .any⟩,
  ⟨0x1F57, 0x1F57, 0x4, 0x4, .u 4, .ro, .v, .n 0, .any⟩]

/-- The object rows of 0x1Fxx. -/
def rows1F : List ObjRow := rows1Fp0

/-- Object rows of 0x20xx, part 0. -/
def rows20p0 : List ObjRow := [
  ⟨0x2000, 0x2000, 0x0, 0x0, .u 1, .cst, .v, .n 8, .any⟩,
  ⟨0x2000, 0x2000, 0x1, 0x1, .u 4, .cst, .v, .n 0x4f415349, .any⟩,
  ⟨0x2000, 0x2000, 0x2, 0x2, .u 4, .cst, .v, .n 0x6424, .any⟩,
  ⟨0x2000, 0x2000, 0x3, 0x3, .u 1, .cst, .v, .n 0xa1, .any⟩,
  ⟨0x2000, 0x2000, 0x4, 0x4, .u 8, .cst, .v, .live, .any⟩,
  ⟨0x2000, 0x2000, 0x5, 0x5, .u 4, .ro, .v, .live, .any⟩,
  ⟨0x2000, 0x2000, 0x6, 0x6, .u 2, .ro, .v, .live, .any⟩,
  ⟨0x2000, 0x2000, 0x7, 0x8, .u 2, .ro, .v, .live, .any⟩,
  ⟨0x2001, 0x2001, 0x0, 0x0, .u 1, .cst, .v, .n 0x20, .any⟩,
  ⟨0x2001, 0x2001, 0x1, 0x3, .u 4, .ro, .v, .n 0, .any⟩,
  ⟨0x2001, 0x2001, 0x11, 0x20, .u 4, .ro, .v, .n 0, .any⟩,
  ⟨0x2002, 0x2002, 0x1, 0x1, .u 4, .ro, .v, .n 0, .any⟩,
  ⟨0x2002, 0x2002, 0x2, 0x2, .u 2, .ro, .v, .n 0, .any⟩,
  ⟨0x2002, 0x2002, 0x3, 0x3, .u 1, .ro, .v, .n 0, .any⟩,
  ⟨0x2002, 0x2002, 0x4, 0x4, .u 2, .ro, .v, .n 0, .any⟩,
  ⟨0x2002, 0x2002, 0x5, 0x5, .u 4, .ro, .v, .n 0, .any⟩,
  ⟨0x2003, 0x2003, 0x0, 0x0, .u 1, .cst, .v, .n 0x29, .any⟩,
  ⟨0x2003, 0x2003, 0x1, 0x29, .u 4, .ro, .v, .n 0, .any⟩,
  ⟨0x2004, 0x2004, 0x1, 0x1, .u 1, .ro, .v, .n 0, .any⟩,
  ⟨0x2004, 0x2004, 0x2, 0x2, .u 4, .ro, .v, .n 0, .any⟩,
  ⟨0x2004, 0x2004, 0x3, 0x3, .u 4, .ro, .v, .n 0, .any⟩,
  ⟨0x2004, 0x2004, 0x4, 0x4, .u 1, .ro, .v, .n 0, .any⟩,
  ⟨0x2004, 0x2004, 0x5, 0x5, .u 4, .ro, .v, .n 0, .any⟩,
  ⟨0x2004, 0x2004, 0x6, 0x6, .u 1, .ro, .v, .n 0, .any⟩]

/-- Object rows of 0x20xx, part 1. -/
def rows20p1 : List ObjRow := [
  ⟨0x2005, 0x2005, 0x1, 0x3, .u 4, .ro, .v, .n 0, .any⟩,
  ⟨0x2005, 0x2005, 0x11, 0x20, .u 4, .ro, .v, .n 0, .any⟩,
  ⟨0x2006, 0x2006, 0x1, 0x1, .u 2, .rw, .s, .n 0xa, .span 1 1000⟩,
  ⟨0x2008, 0x2008, 0x1, 0x4, .u 4, .wo, .i, .n 0, .any⟩,
  ⟨0x2008, 0x2008, 0x5, 0x5, .u 1, .wo, .i, .n 0, .span 0 2⟩]

/-- The object rows of 0x20xx. -/
def rows20 : List ObjRow := rows20p0 ++ rows20p1

/-- Object rows of 0x21xx, part 0. -/
def rows21p0 : List ObjRow := [
  ⟨0x2100, 0x2100, 0x0, 0x0, .u 1, .cst, .v, .n 0x12, .any⟩,
  ⟨0x2100, 0x2100, 0x1, 0x1, .u 1, .cst, .v, .n 8, .any⟩,
  ⟨0x2100, 0x2100, 0x2, 0x2, .u 1, .cst, .v, .n 6, .any⟩,
  ⟨0x2100, 0x2100, 0x3, 0x3, .u 1, .cst, .v, .n 0x30, .any⟩,
  ⟨0x2100, 0x2100, 0x4, 0x4, .u 1, .cst, .v, .n 4, .any⟩,
  ⟨0x2100, 0x2100, 0x5, 0x5, .u 1, .cst, .v, .n 3, .any⟩,
  ⟨0x2100, 0x2100, 0x6, 0x6, .u 1, .cst, .v, .n 9, .any⟩,
  ⟨0x2100, 0x2100, 0x7, 0x7, .u 1, .cst, .v, .n 4, .any⟩,
  ⟨0x2100, 0x2100, 0x8, 0x8, .u 1, .cst, .v, .n 6, .any⟩,
  ⟨0x2100, 0x2100, 0x9, 0x9, .u 1, .cst, .v, .n 4, .any⟩,
  ⟨0x2100, 0x2100, 0xA, 0xA, .u 2, .cst, .v, .n 0x100, .any⟩,
  ⟨0x2100, 0x2100, 0xB, 0xB, .u 2, .cst, .v, .n 0x40, .any⟩,
  ⟨0x2100, 0x2100, 0xC, 0xC, .u 2, .cst, .v, .n 0x80, .any⟩,
  ⟨0x2100, 0x2100, 0xD, 0xD, .u 2, .cst, .v, .n 0x100, .any⟩,
  ⟨0x2100, 0x2100, 0xE, 0xE, .u 1, .cst, .v, .n 8, .any⟩,
  ⟨0x2100, 0x2100, 0xF, 0xF, .u 1, .cst, .v, .n 0x43, .any⟩,
  ⟨0x2100, 0x2100, 0x10, 0x10, .u 1, .cst, .v, .n 7, .any⟩,
  ⟨0x2100, 0x2100, 0x11, 0x11, .u 1, .cst, .v, .n 0x14, .any⟩,
  ⟨0x2100, 0x2100, 0x12, 0x12, .u 1, .cst, .v, .n 0x30, .any⟩,
  ⟨0x2110, 0x213F, 0x0, 0x0, .u 1, .cst, .v, .n 7, .any⟩,
  ⟨0x2110, 0x213F, 0x1, 0x7, .u 1, .cst, .v, .live, .any⟩,
  ⟨0x2140, 0x216F, 0x0, 0x0, .u 1, .cst, .v, .n 5, .any⟩,
  ⟨0x2140, 0x216F, 0x1, 0x4, .u 4, .ro, .v, .n 0, .any⟩,
  ⟨0x2140, 0x216F, 0x5, 0x5, .u 1, .ro, .v, .n 0, .any⟩]

/-- Object rows of 0x21xx, part 1. -/
def rows21p1 : List ObjRow := [
  ⟨0x2180, 0x2180, 0x0, 0x0, .u 1, .cst, .v, .n 7, .any⟩,
  ⟨0x2180, 0x2180, 0x1, 0x5, .u 1, .ro, .v, .n 0, .any⟩,
  ⟨0x2180, 0x2180, 0x6, 0x6, .u 2, .ro, .v, .n 0, .any⟩,
  ⟨0x2180, 0x2180, 0x7, 0x7, .u 4, .ro, .v, .n 0, .any⟩,
  ⟨0x2181, 0x2181, 0x1, 0x1, .u 4, .wo, .i, .n 0, .any⟩]

/-- The object rows of 0x21xx. -/
def rows21 : List ObjRow := rows21p0 ++ rows21p1

/-- Object rows of 0x22xx, part 0. -/
def rows22p0 : List ObjRow := [
  ⟨0x2200, 0x2200, 0x0, 0x0, .u 1, .cst, .v, .n 3, .any⟩,
  ⟨0x2200, 0x2200, 0x1, 0x1, .u 2, .cst, .v, .n 0x3ff, .any⟩,
  ⟨0x2200, 0x2200, 0x2, 0x2, .u 2, .cst, .v, .n 0x3fe, .any⟩,
  ⟨0x2200, 0x2200, 0x3, 0x3, .u 1, .cst, .v, .n 8, .any⟩,
  ⟨0x2201, 0x2201, 0x0, 0x0, .u 1, .cst, .v, .n 6, .any⟩,
  ⟨0x2201, 0x2201, 0x1, 0x6, .u 2, .rw, .s, .perSub [512, 255, 256, 255, 0, 511], .span 0 1022⟩,
  ⟨0x2210, 0x221F, 0x0, 0x0, .u 1, .cst, .v, .n 7, .any⟩,
  ⟨0x2210, 0x221F, 0x1, 0x1, .u 2, .rw, .s, .n 0x40, .spanOr 64 65534 65535⟩,
  ⟨0x2210, 0x221F, 0x2, 0x4, .u 2, .rw, .s, .n 0, .any⟩,
  ⟨0x2210, 0x221F, 0x5, 0x7, .u 2, .rw, .s, .n 0x10, .span 1 256⟩,
  ⟨0x2220, 0x222F, 0x0, 0x0, .u 1, .cst, .v, .n 0x43, .any⟩,
  ⟨0x2220, 0x222F, 0x1, 0x43, .u 1, .rw, .s, .n 0, .span 0 15⟩,
  ⟨0x2230, 0x223F, 0x0, 0x0, .u 1, .cst, .v, .n 4, .any⟩,
  ⟨0x2230, 0x223F, 0x1, 0x1, .u 2, .rw, .s, .n 0, .tLimit⟩,
  ⟨0x2230, 0x223F, 0x2, 0x4, .u 2, .rw, .s, .n 0, .any⟩,
  ⟨0x2240, 0x2240, 0x0, 0x0, .u 1, .cst, .v, .n 1, .any⟩,
  ⟨0x2240, 0x2240, 0x1, 0x1, .u 2, .rw, .s, .n 0x40, .spanOr 64 65534 65535⟩,
  ⟨0x2280, 0x2280, 0x0, 0x0, .u 1, .cst, .v, .n 0xd, .any⟩,
  ⟨0x2280, 0x2280, 0x1, 0xD, .u 4, .ro, .v, .live, .any⟩]

/-- The object rows of 0x22xx. -/
def rows22 : List ObjRow := rows22p0

/-- Object rows of 0x23xx, part 0. -/
def rows23p0 : List ObjRow := [
  ⟨0x2300, 0x2300, 0x0, 0x0, .u 1, .cst, .v, .n 8, .any⟩,
  ⟨0x2300, 0x2300, 0x1, 0x1, .u 1, .cst, .v, .n 9, .any⟩,
  ⟨0x2300, 0x2300, 0x2, 0x2, .u 4, .cst, .v, .n 0x80904, .any⟩,
  ⟨0x2300, 0x2300, 0x3, 0x3, .u 1, .cst, .v, .n 4, .any⟩,
  ⟨0x2300, 0x2300, 0x4, 0x4, .u 1, .cst, .v, .n 0x64, .any⟩,
  ⟨0x2300, 0x2300, 0x5, 0x5, .u 1, .cst, .v, .n 2, .any⟩,
  ⟨0x2300, 0x2300, 0x6, 0x6, .u 1, .cst, .v, .n 0x44, .any⟩,
  ⟨0x2300, 0x2300, 0x7, 0x7, .u 1, .cst, .v, .n 4, .any⟩,
  ⟨0x2300, 0x2300, 0x8, 0x8, .u 2, .cst, .v, .n 0x1000, .any⟩,
  ⟨0x2301, 0x2301, 0x0, 0x0, .u 1, .cst, .v, .n 5, .any⟩,
  ⟨0x2301, 0x2301, 0x1, 0x1, .u 2, .rw, .s, .n 0x80, .span 8 65535⟩,
  ⟨0x2301, 0x2301, 0x2, 0x2, .u 2, .rw, .s, .n 0x1000, .any⟩,
  ⟨0x2301, 0x2301, 0x3, 0x3, .u 4, .rw, .s, .n 0x2710, .span 1 1000000⟩,
  ⟨0x2301, 0x2301, 0x4, 0x4, .u 2, .rw, .s, .n 0x20, .span 0 1024⟩,
  ⟨0x2301, 0x2301, 0x5, 0x5, .u 4, .rw, .s, .n 0x2710, .span 1 3600000⟩,
  ⟨0x2302, 0x2302, 0x0, 0x0, .u 1, .cst, .v, .n 0x43, .any⟩,
  ⟨0x2302, 0x2302, 0x1, 0x43, .u 1, .rw, .s, .n 0, .span 0 1⟩,
  ⟨0x2310, 0x233F, 0x0, 0x0, .u 1, .cst, .v, .n 0x43, .any⟩,
  ⟨0x2310, 0x231F, 0x1, 0x43, .u 1, .rw, .s, .n 0, .span 0 128⟩,
  ⟨0x2320, 0x232F, 0x1, 0x43, .u 1, .rw, .s, .n 0x80, .span 0 128⟩,
  ⟨0x2330, 0x233F, 0x1, 0x43, .u 1, .rw, .s, .n 0, .span 0 128⟩,
  ⟨0x2340, 0x2340, 0x0, 0x0, .u 1, .cst, .v, .n 0x10, .any⟩,
  ⟨0x2340, 0x2340, 0x1, 0x10, .u 2, .rw, .s, .n 0x100, .span 9 256⟩]

/-- The object rows of 0x23xx. -/
def rows23 : List ObjRow := rows23p0

/-- Object rows of 0x24xx, part 0. -/
def rows24p0 : List ObjRow := [
  ⟨0x2400, 0x2400, 0x0, 0x0, .u 1, .cst, .v, .n 5, .any⟩,
  ⟨0x2400, 0x2400, 0x1, 0x1, .u 1, .ro, .v, .n 0, .any⟩,
  ⟨0x2400, 0x2400, 0x2, 0x2, .u 1, .ro, .v, .n 1, .any⟩,
  ⟨0x2400, 0x2400, 0x3, 0x5, .u 1, .cst, .v, .perSub [8, 8, 16], .any⟩,
  ⟨0x2401, 0x2401, 0x0, 0x0, .u 1, .cst, .v, .n 4, .any⟩,
  ⟨0x2401, 0x2401, 0x1, 0x1, .u 2, .rw, .s, .n 0x20, .span 1 1000⟩,
  ⟨0x2401, 0x2401, 0x2, 0x3, .u 1, .rw, .s, .n 1, .span 0 1⟩,
  ⟨0x2401, 0x2401, 0x4, 0x4, .u 1, .rw, .s, .n 1, .span 1 3⟩,
  ⟨0x2410, 0x241F, 0x0, 0x0, .u 1, .cst, .v, .n 3, .any⟩,
  ⟨0x2410, 0x241F, 0x1, 0x1, .u 8, .rw, .s, .n 0, .mult 4096⟩,
  ⟨0x2410, 0x241F, 0x2, 0x2, .u 8, .rw, .s, .n 0, .last4k⟩,
  ⟨0x2410, 0x241F, 0x3, 0x3, .u 1, .rw, .s, .n 0, .mask 7⟩,
  ⟨0x2420, 0x2420, 0x0, 0x0, .u 1, .cst, .v, .n 0xb, .any⟩,
  ⟨0x2420, 0x2420, 0x1, 0xB, .u 4, .rw, .s, .n 0, .mask 2147485695⟩,
  ⟨0x2430, 0x2430, 0x0, 0x0, .u 1, .cst, .v, .n 0xa, .any⟩,
  ⟨0x2430, 0x2430, 0x1, 0xA, .u 4, .ro, .v, .n 0, .any⟩,
  ⟨0x2431, 0x2431, 0x1, 0x1, .u 4, .wo, .i, .n 0, .any⟩,
  ⟨0x2432, 0x2432, 0x0, 0x0, .u 1, .cst, .v, .n 3, .any⟩,
  ⟨0x2432, 0x2432, 0x1, 0x1, .u 8, .ro, .v, .n 0, .any⟩,
  ⟨0x2432, 0x2432, 0x2, 0x3, .u 1, .ro, .v, .n 0, .any⟩,
  ⟨0x24E0, 0x24E0, 0x0, 0x0, .u 1, .cst, .v, .n 9, .any⟩,
  ⟨0x24E0, 0x24E0, 0x1, 0x8, .u 1, .rw, .f, .n 0, .oneOf [0, 16, 32, 48, 64]⟩,
  ⟨0x24E0, 0x24E0, 0x9, 0x9, .u 2, .rw, .f, .n 0x400, .oneOf [256, 512, 1024, 2048, 4096]⟩,
  ⟨0x24E1, 0x24E1, 0x0, 0x0, .u 1, .cst, .v, .n 6, .any⟩]

/-- Object rows of 0x24xx, part 1. -/
def rows24p1 : List ObjRow := [
  ⟨0x24E1, 0x24E1, 0x1, 0x3, .u 1, .ro, .v, .n 0, .any⟩,
  ⟨0x24E1, 0x24E1, 0x4, 0x4, .u 8, .ro, .v, .n 0, .any⟩,
  ⟨0x24E1, 0x24E1, 0x5, 0x5, .u 2, .ro, .v, .n 0, .any⟩,
  ⟨0x24E1, 0x24E1, 0x6, 0x6, .u 1, .ro, .v, .n 0, .any⟩,
  ⟨0x24E2, 0x24E2, 0x0, 0x0, .u 1, .cst, .v, .n 2, .any⟩,
  ⟨0x24E2, 0x24E2, 0x1, 0x1, .u 2, .cst, .v, .n 0x100, .any⟩,
  ⟨0x24E2, 0x24E2, 0x2, 0x2, .u 8, .cst, .v, .n 0x43c00000, .any⟩]

/-- The object rows of 0x24xx. -/
def rows24 : List ObjRow := rows24p0 ++ rows24p1

/-- Object rows of 0x25xx, part 0. -/
def rows25p0 : List ObjRow := [
  ⟨0x2500, 0x2505, 0x0, 0x0, .u 1, .cst, .v, .n 0x29, .any⟩,
  ⟨0x2500, 0x2500, 0x1, 0x29, .u 2, .cst, .v, .live, .any⟩,
  ⟨0x2501, 0x2501, 0x1, 0x29, .u 1, .ro, .v, .n 0, .any⟩,
  ⟨0x2502, 0x2504, 0x1, 0x29, .u 4, .ro, .v, .n 0, .any⟩,
  ⟨0x2505, 0x2505, 0x1, 0x29, .u 2, .ro, .v, .n 0, .any⟩,
  ⟨0x2506, 0x2506, 0x0, 0x0, .u 1, .cst, .v, .n 1, .any⟩,
  ⟨0x2506, 0x2506, 0x1, 0x1, .u 4, .wo, .i, .n 0, .any⟩]

/-- The object rows of 0x25xx. -/
def rows25 : List ObjRow := rows25p0

/-- Object rows of 0x26xx, part 0. -/
def rows26p0 : List ObjRow := [
  ⟨0x2600, 0x2600, 0x0, 0x0, .u 1, .cst, .v, .n 4, .any⟩,
  ⟨0x2600, 0x2600, 0x1, 0x1, .u 1, .cst, .v, .n 0x10, .any⟩,
  ⟨0x2600, 0x2600, 0x2, 0x2, .u 4, .rw, .s, .n 0x64, .span 1 50000⟩,
  ⟨0x2600, 0x2600, 0x3, 0x3, .u 2, .rw, .s, .n 0xffff, .any⟩,
  ⟨0x2600, 0x2600, 0x4, 0x4, .u 2, .rw, .s, .n 1, .any⟩,
  ⟨0x2601, 0x2601, 0x0, 0x0, .u 1, .cst, .v, .n 4, .any⟩,
  ⟨0x2601, 0x2601, 0x1, 0x2, .u 1, .ro, .v, .n 0, .any⟩,
  ⟨0x2601, 0x2601, 0x3, 0x4, .u 4, .ro, .v, .n 0, .any⟩,
  ⟨0x2602, 0x2602, 0x0, 0x0, .u 1, .cst, .v, .n 0x43, .any⟩,
  ⟨0x2602, 0x2602, 0x1, 0x43, .u 1, .wo, .i, .n 0, .any⟩,
  ⟨0x2603, 0x2603, 0x0, 0x0, .u 1, .cst, .v, .n 3, .any⟩,
  ⟨0x2603, 0x2603, 0x1, 0x1, .u 4, .rw, .s, .n 0x3e8, .span 100 100000⟩,
  ⟨0x2603, 0x2603, 0x2, 0x2, .u 1, .rw, .s, .n 0, .span 0 1⟩,
  ⟨0x2603, 0x2603, 0x3, 0x3, .u 1, .ro, .v, .n 0, .any⟩,
  ⟨0x2610, 0x261F, 0x0, 0x0, .u 1, .cst, .v, .n 5, .any⟩,
  ⟨0x2610, 0x261F, 0x1, 0x1, .u 1, .wo, .i, .n 0, .any⟩,
  ⟨0x2610, 0x261F, 0x2, 0x2, .u 1, .ro, .v, .n 4, .any⟩,
  ⟨0x2610, 0x261F, 0x3, 0x5, .u 4, .ro, .v, .n 0, .any⟩,
  ⟨0x2630, 0x263B, 0x0, 0x0, .u 1, .cst, .v, .n 4, .any⟩,
  ⟨0x2630, 0x263B, 0x1, 0x1, .u 1, .wo, .i, .n 0, .any⟩,
  ⟨0x2630, 0x263B, 0x2, 0x2, .u 1, .ro, .v, .n 0, .any⟩,
  ⟨0x2630, 0x263B, 0x3, 0x3, .u 1, .rw, .s, .n 1, .span 0 1⟩,
  ⟨0x2630, 0x263B, 0x4, 0x4, .u 4, .ro, .v, .n 0, .any⟩,
  ⟨0x2650, 0x2650, 0x0, 0x0, .u 1, .cst, .v, .n 0x18, .any⟩]

/-- Object rows of 0x26xx, part 1. -/
def rows26p1 : List ObjRow := [
  ⟨0x2650, 0x2650, 0x1, 0x18, .u 1, .rw, .f, .n 0, .span 0 15⟩,
  ⟨0x2651, 0x2651, 0x0, 0x0, .u 1, .cst, .v, .n 0x10, .any⟩,
  ⟨0x2651, 0x2651, 0x1, 0x10, .u 1, .rw, .f, .n 0, .span 0 15⟩]

/-- The object rows of 0x26xx. -/
def rows26 : List ObjRow := rows26p0 ++ rows26p1

/-- Object rows of 0x27xx, part 0. -/
def rows27p0 : List ObjRow := [
  ⟨0x2700, 0x2700, 0x0, 0x0, .u 1, .cst, .v, .n 7, .any⟩,
  ⟨0x2700, 0x2700, 0x1, 0x1, .u 4, .cst, .v, .n 0x10000, .any⟩,
  ⟨0x2700, 0x2700, 0x2, 0x2, .u 2, .cst, .v, .n 0x100, .any⟩,
  ⟨0x2700, 0x2700, 0x3, 0x3, .u 1, .cst, .v, .n 0x40, .any⟩,
  ⟨0x2700, 0x2700, 0x4, 0x4, .u 2, .cst, .v, .n 0x100, .any⟩,
  ⟨0x2700, 0x2700, 0x5, 0x7, .u 1, .cst, .v, .perSub [16, 64, 4], .any⟩,
  ⟨0x2701, 0x2702, 0x0, 0x0, .u 1, .cst, .v, .n 0x80, .any⟩,
  ⟨0x2701, 0x2702, 0x1, 0x80, .u 1, .rw, .f, .n 0, .span 0 15⟩,
  ⟨0x2710, 0x271F, 0x0, 0x0, .u 1, .cst, .v, .n 5, .any⟩,
  ⟨0x2710, 0x271F, 0x1, 0x1, .u 8, .rw, .s, .n 0, .mult 4096⟩,
  ⟨0x2710, 0x271F, 0x2, 0x2, .u 1, .rw, .s, .n 6, .span 4 12⟩,
  ⟨0x2710, 0x271F, 0x3, 0x3, .u 8, .rw, .s, .n 0, .mult 4096⟩,
  ⟨0x2710, 0x271F, 0x4, 0x4, .u 1, .rw, .s, .n 6, .span 4 12⟩,
  ⟨0x2710, 0x271F, 0x5, 0x5, .u 2, .rw, .s, .n 0xffff, .any⟩,
  ⟨0x2721, 0x272F, 0x0, 0x0, .u 1, .cst, .v, .n 0x10, .any⟩,
  ⟨0x2721, 0x272F, 0x1, 0x8, .u 8, .rw, .f, .n 0, .mult 4096⟩,
  ⟨0x2721, 0x272F, 0x9, 0x10, .u 8, .rw, .f, .n 0, .limit4k⟩,
  ⟨0x2730, 0x2731, 0x0, 0x0, .u 1, .cst, .v, .n 0x10, .any⟩,
  ⟨0x2730, 0x2730, 0x1, 0x10, .u 2, .rw, .s, .n 0x2000, .span 0 8192⟩,
  ⟨0x2731, 0x2731, 0x1, 0x10, .u 2, .rw, .s, .n 0x100, .span 1 256⟩,
  ⟨0x2740, 0x2747, 0x0, 0x0, .u 1, .cst, .v, .n 7, .any⟩,
  ⟨0x2740, 0x2747, 0x1, 0x2, .u 2, .ro, .v, .n 0, .any⟩,
  ⟨0x2740, 0x2747, 0x3, 0x6, .u 4, .ro, .v, .n 0, .any⟩,
  ⟨0x2740, 0x2747, 0x7, 0x7, .u 8, .ro, .v, .n 0, .any⟩]

/-- Object rows of 0x27xx, part 1. -/
def rows27p1 : List ObjRow := [
  ⟨0x2748, 0x2748, 0x0, 0x0, .u 1, .cst, .v, .n 0xc, .any⟩,
  ⟨0x2748, 0x2748, 0x1, 0xC, .u 4, .ro, .v, .n 0, .any⟩,
  ⟨0x2750, 0x2750, 0x0, 0x0, .u 1, .cst, .v, .n 1, .any⟩,
  ⟨0x2750, 0x2750, 0x1, 0x1, .u 4, .wo, .i, .n 0, .any⟩]

/-- The object rows of 0x27xx. -/
def rows27 : List ObjRow := rows27p0 ++ rows27p1

/-- Object rows of 0x28xx, part 0. -/
def rows28p0 : List ObjRow := [
  ⟨0x2800, 0x2800, 0x0, 0x0, .u 1, .cst, .v, .n 4, .any⟩,
  ⟨0x2800, 0x2800, 0x1, 0x1, .u 1, .rw, .s, .n 5, .span 1 5⟩,
  ⟨0x2800, 0x2800, 0x2, 0x2, .u 1, .rw, .s, .n 0x10, .oneOf [1, 4, 8, 16]⟩,
  ⟨0x2800, 0x2800, 0x3, 0x4, .u 1, .ro, .v, .n 0, .any⟩,
  ⟨0x2801, 0x2801, 0x0, 0x0, .u 1, .cst, .v, .n 5, .any⟩,
  ⟨0x2801, 0x2801, 0x1, 0x2, .u 1, .rw, .s, .n 2, .span 1 3⟩,
  ⟨0x2801, 0x2801, 0x3, 0x4, .u 1, .rw, .s, .n 0, .span 0 1⟩,
  ⟨0x2801, 0x2801, 0x5, 0x5, .u 4, .rw, .s, .n 0xc350, .span 50 4000000⟩,
  ⟨0x2802, 0x2802, 0x0, 0x0, .u 1, .cst, .v, .n 2, .any⟩,
  ⟨0x2802, 0x2802, 0x1, 0x1, .u 2, .rw, .s, .n 0x400, .multTo 256 4096⟩,
  ⟨0x2802, 0x2802, 0x2, 0x2, .u 2, .rw, .s, .n 0xa, .span 1 1000⟩,
  ⟨0x2804, 0x2804, 0x0, 0x0, .u 1, .cst, .v, .n 1, .any⟩,
  ⟨0x2804, 0x2804, 0x1, 0x1, .u 8, .rw, .s, .n 0, .mult 4096⟩,
  ⟨0x2805, 0x2805, 0x0, 0x0, .u 1, .cst, .v, .n 3, .any⟩,
  ⟨0x2805, 0x2805, 0x1, 0x1, .u 1, .rw, .s, .n 0x10, .oneOf [1, 2, 4, 8, 16, 32, 64]⟩,
  ⟨0x2805, 0x2805, 0x2, 0x2, .u 1, .ro, .v, .live, .any⟩,
  ⟨0x2805, 0x2805, 0x3, 0x3, .u 4, .ro, .v, .live, .any⟩,
  ⟨0x2806, 0x2806, 0x0, 0x0, .u 1, .cst, .v, .n 3, .any⟩,
  ⟨0x2806, 0x2806, 0x1, 0x1, .u 2, .cst, .v, .n 0x100, .any⟩,
  ⟨0x2806, 0x2806, 0x2, 0x2, .u 2, .ro, .v, .n 0, .any⟩,
  ⟨0x2806, 0x2806, 0x3, 0x3, .u 4, .wo, .i, .n 0, .any⟩,
  ⟨0x2810, 0x2810, 0x0, 0x0, .u 1, .cst, .v, .n 6, .any⟩,
  ⟨0x2810, 0x2810, 0x1, 0x3, .u 2, .cst, .v, .live, .any⟩,
  ⟨0x2810, 0x2810, 0x4, 0x5, .u 2, .rw, .s, .n 0, .any⟩]

/-- Object rows of 0x28xx, part 1. -/
def rows28p1 : List ObjRow := [
  ⟨0x2810, 0x2810, 0x6, 0x6, .u 4, .rw, .s, .n 0x118000, .mask 16777215⟩,
  ⟨0x2820, 0x282F, 0x0, 0x0, .u 1, .cst, .v, .n 1, .any⟩,
  ⟨0x2820, 0x282F, 0x1, 0x1, .u 1, .rw, .s, .n 1, .span 0 1⟩,
  ⟨0x2840, 0x2843, 0x0, 0x0, .u 1, .cst, .v, .n 5, .any⟩,
  ⟨0x2840, 0x2843, 0x1, 0x5, .u 4, .ro, .v, .n 0, .any⟩,
  ⟨0x2850, 0x2850, 0x0, 0x0, .u 1, .cst, .v, .n 2, .any⟩,
  ⟨0x2850, 0x2850, 0x1, 0x2, .u 4, .ro, .v, .n 0, .any⟩,
  ⟨0x2851, 0x2851, 0x0, 0x0, .u 1, .cst, .v, .n 4, .any⟩,
  ⟨0x2851, 0x2851, 0x1, 0x2, .u 2, .ro, .v, .n 0, .any⟩,
  ⟨0x2851, 0x2851, 0x3, 0x3, .u 4, .ro, .v, .n 0, .any⟩,
  ⟨0x2851, 0x2851, 0x4, 0x4, .u 1, .ro, .v, .n 0, .any⟩,
  ⟨0x2860, 0x2860, 0x0, 0x0, .u 1, .cst, .v, .n 1, .any⟩,
  ⟨0x2860, 0x2860, 0x1, 0x1, .u 4, .wo, .i, .n 0, .any⟩]

/-- The object rows of 0x28xx. -/
def rows28 : List ObjRow := rows28p0 ++ rows28p1

/-- Object rows of 0x2Axx, part 0. -/
def rows2Ap0 : List ObjRow := [
  ⟨0x2A00, 0x2A17, 0x0, 0x0, .u 1, .cst, .v, .n 0xb, .any⟩,
  ⟨0x2A00, 0x2A17, 0x1, 0x2, .u 1, .rw, .s, .n 0, .span 0 1⟩,
  ⟨0x2A00, 0x2A17, 0x3, 0x3, .u 2, .rw, .s, .n 0x320, .step 400 1000 50⟩,
  ⟨0x2A00, 0x2A17, 0x4, 0x5, .u 1, .rw, .s, .n 0, .span 0 15⟩,
  ⟨0x2A00, 0x2A17, 0x6, 0x6, .u 1, .ro, .v, .n 0, .any⟩,
  ⟨0x2A00, 0x2A17, 0x7, 0x7, .u 8, .ro, .v, .n 0, .any⟩,
  ⟨0x2A00, 0x2A17, 0x8, 0x9, .u 4, .ro, .v, .n 0, .any⟩,
  ⟨0x2A00, 0x2A17, 0xA, 0xA, .u 2, .ro, .v, .n 0xffff, .any⟩,
  ⟨0x2A00, 0x2A17, 0xB, 0xB, .u 1, .ro, .v, .n 0, .any⟩,
  ⟨0x2A40, 0x2A57, 0x0, 0x0, .u 1, .cst, .v, .n 0x17, .any⟩,
  ⟨0x2A40, 0x2A57, 0x1, 0x2, .u 1, .rw, .s, .n 0, .span 0 1⟩,
  ⟨0x2A40, 0x2A57, 0x3, 0x3, .u 1, .rw, .s, .n 1, .span 1 8⟩,
  ⟨0x2A40, 0x2A57, 0x4, 0x4, .u 4, .rw, .s, .n 0x179a7b0, .step 6000000 32500000 15625⟩,
  ⟨0x2A40, 0x2A57, 0x5, 0x5, .u 1, .rw, .s, .n 2, .span 1 32⟩,
  ⟨0x2A40, 0x2A57, 0x6, 0x6, .u 1, .rw, .s, .n 1, .span 1 32⟩,
  ⟨0x2A40, 0x2A57, 0x7, 0x7, .u 1, .rw, .s, .n 0x10, .oneOf [8, 12, 16]⟩,
  ⟨0x2A40, 0x2A57, 0x8, 0x8, .u 1, .rw, .s, .n 4, .any⟩,
  ⟨0x2A40, 0x2A57, 0x9, 0x9, .u 1, .ro, .v, .n 1, .any⟩,
  ⟨0x2A40, 0x2A57, 0xA, 0xA, .u 2, .rw, .s, .n 0, .any⟩,
  ⟨0x2A40, 0x2A57, 0xB, 0xB, .u 1, .rw, .s, .n 0, .span 0 5⟩,
  ⟨0x2A40, 0x2A57, 0xC, 0xD, .u 1, .rw, .s, .n 0, .span 0 1⟩,
  ⟨0x2A40, 0x2A57, 0xE, 0xE, .u 2, .rw, .s, .n 0, .any⟩,
  ⟨0x2A40, 0x2A57, 0xF, 0x10, .i 4, .rw, .s, .n 0, .span (-1000000) 1000000⟩,
  ⟨0x2A40, 0x2A57, 0x11, 0x12, .u 1, .ro, .v, .n 0, .any⟩]

/-- Object rows of 0x2Axx, part 1. -/
def rows2Ap1 : List ObjRow := [
  ⟨0x2A40, 0x2A57, 0x13, 0x17, .u 4, .ro, .v, .n 0, .any⟩,
  ⟨0x2A80, 0x2A80, 0x0, 0x0, .u 1, .cst, .v, .n 1, .any⟩,
  ⟨0x2A80, 0x2A80, 0x1, 0x1, .u 4, .wo, .i, .n 0, .any⟩]

/-- The object rows of 0x2Axx. -/
def rows2A : List ObjRow := rows2Ap0 ++ rows2Ap1

/-- Object rows of 0x2Bxx, part 0. -/
def rows2Bp0 : List ObjRow := [
  ⟨0x2B00, 0x2B03, 0x0, 0x0, .u 1, .cst, .v, .n 0xc, .any⟩,
  ⟨0x2B00, 0x2B03, 0x1, 0x1, .u 1, .rw, .s, .n 0, .span 0 1⟩,
  ⟨0x2B00, 0x2B03, 0x2, 0x2, .u 1, .rw, .f, .n 2, .span 1 9⟩,
  ⟨0x2B00, 0x2B03, 0x3, 0x3, .u 8, .rw, .s, .n 0, .mask 281474976710655⟩,
  ⟨0x2B00, 0x2B03, 0x4, 0x4, .u 1, .rw, .s, .n 0x11, .mask 27⟩,
  ⟨0x2B00, 0x2B03, 0x5, 0x5, .u 1, .rw, .s, .n 2, .span 1 3⟩,
  ⟨0x2B00, 0x2B03, 0x6, 0x6, .u 2, .rw, .s, .n 1, .any⟩,
  ⟨0x2B00, 0x2B03, 0x7, 0x7, .u 1, .rw, .s, .n 0, .any⟩,
  ⟨0x2B00, 0x2B03, 0x8, 0x8, .u 2, .rw, .s, .n 0xc0, .span 64 224⟩,
  ⟨0x2B00, 0x2B03, 0x9, 0x9, .u 2, .rw, .s, .n 0x2400, .span 1518 9216⟩,
  ⟨0x2B00, 0x2B03, 0xA, 0xB, .i 4, .rw, .s, .n 0, .span (-100000) 100000⟩,
  ⟨0x2B00, 0x2B03, 0xC, 0xC, .u 1, .rw, .s, .n 1, .span 0 1⟩,
  ⟨0x2B08, 0x2B0B, 0x0, 0x0, .u 1, .cst, .v, .n 0x30, .any⟩,
  ⟨0x2B08, 0x2B0B, 0x1, 0x20, .u 8, .rw, .s, .n 0, .mask 281474976710655⟩,
  ⟨0x2B08, 0x2B0B, 0x21, 0x30, .u 2, .rw, .s, .n 0xffff, .spanOr 0 4094 65535⟩,
  ⟨0x2B10, 0x2B13, 0x0, 0x0, .u 1, .cst, .v, .n 8, .any⟩,
  ⟨0x2B10, 0x2B13, 0x1, 0x8, .strLen [16], .rw, .s, .zeros 16, .any⟩,
  ⟨0x2B18, 0x2B1B, 0x0, 0x0, .u 1, .cst, .v, .n 0x30, .any⟩,
  ⟨0x2B18, 0x2B1B, 0x1, 0x1, .u 2, .rw, .s, .n 0, .any⟩,
  ⟨0x2B18, 0x2B1B, 0x2, 0x2, .strLen [16], .rw, .s, .zeros 16, .any⟩,
  ⟨0x2B18, 0x2B1B, 0x3, 0x3, .u 1, .rw, .s, .n 0xff, .spanOr 0 15 255⟩,
  ⟨0x2B18, 0x2B1B, 0x4, 0x4, .u 2, .rw, .s, .n 0, .any⟩,
  ⟨0x2B18, 0x2B1B, 0x5, 0x5, .strLen [16], .rw, .s, .zeros 16, .any⟩,
  ⟨0x2B18, 0x2B1B, 0x6, 0x6, .u 1, .rw, .s, .n 0xff, .spanOr 0 15 255⟩]

/-- Object rows of 0x2Bxx, part 1. -/
def rows2Bp1 : List ObjRow := [
  ⟨0x2B18, 0x2B1B, 0x7, 0x7, .u 2, .rw, .s, .n 0, .any⟩,
  ⟨0x2B18, 0x2B1B, 0x8, 0x8, .strLen [16], .rw, .s, .zeros 16, .any⟩,
  ⟨0x2B18, 0x2B1B, 0x9, 0x9, .u 1, .rw, .s, .n 0xff, .spanOr 0 15 255⟩,
  ⟨0x2B18, 0x2B1B, 0xA, 0xA, .u 2, .rw, .s, .n 0, .any⟩,
  ⟨0x2B18, 0x2B1B, 0xB, 0xB, .strLen [16], .rw, .s, .zeros 16, .any⟩,
  ⟨0x2B18, 0x2B1B, 0xC, 0xC, .u 1, .rw, .s, .n 0xff, .spanOr 0 15 255⟩,
  ⟨0x2B18, 0x2B1B, 0xD, 0xD, .u 2, .rw, .s, .n 0, .any⟩,
  ⟨0x2B18, 0x2B1B, 0xE, 0xE, .strLen [16], .rw, .s, .zeros 16, .any⟩,
  ⟨0x2B18, 0x2B1B, 0xF, 0xF, .u 1, .rw, .s, .n 0xff, .spanOr 0 15 255⟩,
  ⟨0x2B18, 0x2B1B, 0x10, 0x10, .u 2, .rw, .s, .n 0, .any⟩,
  ⟨0x2B18, 0x2B1B, 0x11, 0x11, .strLen [16], .rw, .s, .zeros 16, .any⟩,
  ⟨0x2B18, 0x2B1B, 0x12, 0x12, .u 1, .rw, .s, .n 0xff, .spanOr 0 15 255⟩,
  ⟨0x2B18, 0x2B1B, 0x13, 0x13, .u 2, .rw, .s, .n 0, .any⟩,
  ⟨0x2B18, 0x2B1B, 0x14, 0x14, .strLen [16], .rw, .s, .zeros 16, .any⟩,
  ⟨0x2B18, 0x2B1B, 0x15, 0x15, .u 1, .rw, .s, .n 0xff, .spanOr 0 15 255⟩,
  ⟨0x2B18, 0x2B1B, 0x16, 0x16, .u 2, .rw, .s, .n 0, .any⟩,
  ⟨0x2B18, 0x2B1B, 0x17, 0x17, .strLen [16], .rw, .s, .zeros 16, .any⟩,
  ⟨0x2B18, 0x2B1B, 0x18, 0x18, .u 1, .rw, .s, .n 0xff, .spanOr 0 15 255⟩,
  ⟨0x2B18, 0x2B1B, 0x19, 0x19, .u 2, .rw, .s, .n 0, .any⟩,
  ⟨0x2B18, 0x2B1B, 0x1A, 0x1A, .strLen [16], .rw, .s, .zeros 16, .any⟩,
  ⟨0x2B18, 0x2B1B, 0x1B, 0x1B, .u 1, .rw, .s, .n 0xff, .spanOr 0 15 255⟩,
  ⟨0x2B18, 0x2B1B, 0x1C, 0x1C, .u 2, .rw, .s, .n 0, .any⟩,
  ⟨0x2B18, 0x2B1B, 0x1D, 0x1D, .strLen [16], .rw, .s, .zeros 16, .any⟩,
  ⟨0x2B18, 0x2B1B, 0x1E, 0x1E, .u 1, .rw, .s, .n 0xff, .spanOr 0 15 255⟩]

/-- Object rows of 0x2Bxx, part 2. -/
def rows2Bp2 : List ObjRow := [
  ⟨0x2B18, 0x2B1B, 0x1F, 0x1F, .u 2, .rw, .s, .n 0, .any⟩,
  ⟨0x2B18, 0x2B1B, 0x20, 0x20, .strLen [16], .rw, .s, .zeros 16, .any⟩,
  ⟨0x2B18, 0x2B1B, 0x21, 0x21, .u 1, .rw, .s, .n 0xff, .spanOr 0 15 255⟩,
  ⟨0x2B18, 0x2B1B, 0x22, 0x22, .u 2, .rw, .s, .n 0, .any⟩,
  ⟨0x2B18, 0x2B1B, 0x23, 0x23, .strLen [16], .rw, .s, .zeros 16, .any⟩,
  ⟨0x2B18, 0x2B1B, 0x24, 0x24, .u 1, .rw, .s, .n 0xff, .spanOr 0 15 255⟩,
  ⟨0x2B18, 0x2B1B, 0x25, 0x25, .u 2, .rw, .s, .n 0, .any⟩,
  ⟨0x2B18, 0x2B1B, 0x26, 0x26, .strLen [16], .rw, .s, .zeros 16, .any⟩,
  ⟨0x2B18, 0x2B1B, 0x27, 0x27, .u 1, .rw, .s, .n 0xff, .spanOr 0 15 255⟩,
  ⟨0x2B18, 0x2B1B, 0x28, 0x28, .u 2, .rw, .s, .n 0, .any⟩,
  ⟨0x2B18, 0x2B1B, 0x29, 0x29, .strLen [16], .rw, .s, .zeros 16, .any⟩,
  ⟨0x2B18, 0x2B1B, 0x2A, 0x2A, .u 1, .rw, .s, .n 0xff, .spanOr 0 15 255⟩,
  ⟨0x2B18, 0x2B1B, 0x2B, 0x2B, .u 2, .rw, .s, .n 0, .any⟩,
  ⟨0x2B18, 0x2B1B, 0x2C, 0x2C, .strLen [16], .rw, .s, .zeros 16, .any⟩,
  ⟨0x2B18, 0x2B1B, 0x2D, 0x2D, .u 1, .rw, .s, .n 0xff, .spanOr 0 15 255⟩,
  ⟨0x2B18, 0x2B1B, 0x2E, 0x2E, .u 2, .rw, .s, .n 0, .any⟩,
  ⟨0x2B18, 0x2B1B, 0x2F, 0x2F, .strLen [16], .rw, .s, .zeros 16, .any⟩,
  ⟨0x2B18, 0x2B1B, 0x30, 0x30, .u 1, .rw, .s, .n 0xff, .spanOr 0 15 255⟩,
  ⟨0x2B20, 0x2B5F, 0x0, 0x0, .u 1, .cst, .v, .n 4, .any⟩,
  ⟨0x2B20, 0x2B5F, 0x1, 0x1, .strLen [42, 46, 62, 66], .rw, .s, .zeros 0, .any⟩,
  ⟨0x2B20, 0x2B5F, 0x2, 0x2, .u 1, .rw, .s, .n 0, .mask 7⟩,
  ⟨0x2B20, 0x2B5F, 0x3, 0x3, .u 2, .rw, .s, .n 0, .any⟩,
  ⟨0x2B20, 0x2B5F, 0x4, 0x4, .u 2, .rw, .s, .n 0x400, .span 1 9000⟩,
  ⟨0x2B60, 0x2B63, 0x0, 0x0, .u 1, .cst, .v, .n 0x12, .any⟩]

/-- Object rows of 0x2Bxx, part 3. -/
def rows2Bp3 : List ObjRow := [
  ⟨0x2B60, 0x2B63, 0x1, 0x1, .u 1, .ro, .v, .n 0, .any⟩,
  ⟨0x2B60, 0x2B63, 0x2, 0x3, .u 8, .ro, .v, .n 0, .any⟩,
  ⟨0x2B60, 0x2B63, 0x4, 0x7, .u 4, .ro, .v, .n 0, .any⟩,
  ⟨0x2B60, 0x2B63, 0x8, 0x9, .u 8, .ro, .v, .n 0, .any⟩,
  ⟨0x2B60, 0x2B63, 0xA, 0xE, .u 4, .ro, .v, .n 0, .any⟩,
  ⟨0x2B60, 0x2B63, 0xF, 0x10, .u 4, .ro, .v, .live, .any⟩,
  ⟨0x2B60, 0x2B63, 0x11, 0x12, .u 4, .ro, .v, .n 0, .any⟩,
  ⟨0x2B70, 0x2B70, 0x0, 0x0, .u 1, .cst, .v, .n 3, .any⟩,
  ⟨0x2B70, 0x2B70, 0x1, 0x1, .u 2, .cst, .v, .n 0x1000, .any⟩,
  ⟨0x2B70, 0x2B70, 0x2, 0x2, .u 4, .cst, .v, .n 0x10000, .any⟩,
  ⟨0x2B70, 0x2B70, 0x3, 0x3, .u 4, .wo, .i, .n 0, .any⟩]

/-- The object rows of 0x2Bxx. -/
def rows2B : List ObjRow := rows2Bp0 ++ rows2Bp1 ++ rows2Bp2 ++ rows2Bp3

/-- Object rows of 0x2Cxx, part 0. -/
def rows2Cp0 : List ObjRow := [
  ⟨0x2C00, 0x2C00, 0x0, 0x0, .u 1, .cst, .v, .n 5, .any⟩,
  ⟨0x2C00, 0x2C00, 0x1, 0x4, .u 1, .cst, .v, .perSub [8, 96, 64, 4], .any⟩,
  ⟨0x2C00, 0x2C00, 0x5, 0x5, .u 2, .cst, .v, .n 0x200, .any⟩,
  ⟨0x2C01, 0x2C01, 0x0, 0x0, .u 1, .cst, .v, .n 0x10, .any⟩,
  ⟨0x2C01, 0x2C01, 0x1, 0x10, .u 1, .rw, .s, .n 2, .span 1 3⟩,
  ⟨0x2C02, 0x2C02, 0x0, 0x0, .u 1, .cst, .v, .n 1, .any⟩,
  ⟨0x2C02, 0x2C02, 0x1, 0x1, .u 4, .rw, .s, .n 0x2710, .span 1 1000000⟩,
  ⟨0x2C10, 0x2C17, 0x0, 0x0, .u 1, .cst, .v, .n 0x10, .any⟩,
  ⟨0x2C10, 0x2C17, 0x1, 0x1, .u 1, .rw, .f, .n 0x10, .any⟩,
  ⟨0x2C10, 0x2C17, 0x2, 0x10, .u 1, .rw, .f, .n 0, .any⟩,
  ⟨0x2C20, 0x2C27, 0x0, 0x0, .u 1, .cst, .v, .n 8, .any⟩,
  ⟨0x2C20, 0x2C27, 0x1, 0x1, .u 1, .ro, .v, .n 0, .any⟩,
  ⟨0x2C20, 0x2C27, 0x2, 0x2, .u 1, .ro, .v, .n 0xff, .any⟩,
  ⟨0x2C20, 0x2C27, 0x3, 0x3, .u 4, .ro, .v, .n 0, .any⟩,
  ⟨0x2C20, 0x2C27, 0x4, 0x4, .u 8, .ro, .v, .n 0, .any⟩,
  ⟨0x2C20, 0x2C27, 0x5, 0x8, .u 4, .ro, .v, .n 0, .any⟩,
  ⟨0x2C30, 0x2C30, 0x0, 0x0, .u 1, .cst, .v, .n 1, .any⟩,
  ⟨0x2C30, 0x2C30, 0x1, 0x1, .u 4, .wo, .i, .n 0, .any⟩]

/-- The object rows of 0x2Cxx. -/
def rows2C : List ObjRow := rows2Cp0

/-- Object rows of 0x2Dxx, part 0. -/
def rows2Dp0 : List ObjRow := [
  ⟨0x2D00, 0x2D00, 0x0, 0x0, .u 1, .cst, .v, .n 3, .any⟩,
  ⟨0x2D00, 0x2D00, 0x1, 0x1, .u 1, .cst, .v, .n 7, .any⟩,
  ⟨0x2D00, 0x2D00, 0x2, 0x2, .u 2, .cst, .v, .n 0x3d09, .any⟩,
  ⟨0x2D00, 0x2D00, 0x3, 0x3, .u 1, .cst, .v, .n 0x10, .any⟩,
  ⟨0x2D01, 0x2D01, 0x0, 0x0, .u 1, .cst, .v, .n 0xa, .any⟩,
  ⟨0x2D01, 0x2D01, 0x1, 0x6, .u 1, .rw, .s, .subNo, .span 0 6⟩,
  ⟨0x2D01, 0x2D01, 0x7, 0x7, .u 1, .rw, .s, .n 0x64, .oneOf [10, 100]⟩,
  ⟨0x2D01, 0x2D01, 0x8, 0x8, .u 1, .rw, .s, .n 0xff, .spanOr 0 5 255⟩,
  ⟨0x2D01, 0x2D01, 0x9, 0x9, .u 2, .rw, .s, .n 0xa, .span 0 720⟩,
  ⟨0x2D01, 0x2D01, 0xA, 0xA, .u 2, .rw, .s, .n 0x3c, .span 1 3600⟩,
  ⟨0x2D02, 0x2D02, 0x0, 0x0, .u 1, .cst, .v, .n 7, .any⟩,
  ⟨0x2D02, 0x2D02, 0x1, 0x1, .u 1, .ro, .v, .n 6, .any⟩,
  ⟨0x2D02, 0x2D02, 0x2, 0x2, .u 1, .ro, .v, .n 3, .any⟩,
  ⟨0x2D02, 0x2D02, 0x3, 0x4, .u 1, .ro, .v, .n 0, .any⟩,
  ⟨0x2D02, 0x2D02, 0x5, 0x7, .u 4, .ro, .v, .n 0, .any⟩,
  ⟨0x2D03, 0x2D03, 0x0, 0x0, .u 1, .cst, .v, .n 7, .any⟩,
  ⟨0x2D03, 0x2D03, 0x1, 0x7, .i 4, .ro, .v, .n 0, .any⟩,
  ⟨0x2D04, 0x2D04, 0x0, 0x0, .u 1, .cst, .v, .n 6, .any⟩,
  ⟨0x2D04, 0x2D04, 0x1, 0x6, .u 2, .ro, .v, .n 0, .any⟩,
  ⟨0x2D10, 0x2D10, 0x0, 0x0, .u 1, .cst, .v, .n 8, .any⟩,
  ⟨0x2D10, 0x2D10, 0x1, 0x1, .str, .ro, .v, .live, .any⟩,
  ⟨0x2D10, 0x2D10, 0x2, 0x2, .u 1, .rw, .s, .n 0, .span 0 3⟩,
  ⟨0x2D10, 0x2D10, 0x3, 0x3, .u 1, .ro, .v, .n 0, .any⟩,
  ⟨0x2D10, 0x2D10, 0x4, 0x4, .u 4, .rw, .s, .n 0x3e8, .span 0 1000000000⟩]

/-- Object rows of 0x2Dxx, part 1. -/
def rows2Dp1 : List ObjRow := [
  ⟨0x2D10, 0x2D10, 0x5, 0x5, .u 4, .rw, .s, .n 0xa, .span 10 1000000⟩,
  ⟨0x2D10, 0x2D10, 0x6, 0x6, .u 4, .ro, .v, .n 0, .any⟩,
  ⟨0x2D10, 0x2D10, 0x7, 0x7, .i 8, .ro, .v, .n 0, .any⟩,
  ⟨0x2D10, 0x2D10, 0x8, 0x8, .i 4, .ro, .v, .n 0, .any⟩,
  ⟨0x2D11, 0x2D11, 0x0, 0x0, .u 1, .cst, .v, .n 2, .any⟩,
  ⟨0x2D11, 0x2D11, 0x1, 0x1, .strLen [12], .wo, .i, .n 0, .any⟩,
  ⟨0x2D11, 0x2D11, 0x2, 0x2, .i 8, .wo, .i, .n 0, .any⟩,
  ⟨0x2D12, 0x2D12, 0x0, 0x0, .u 1, .cst, .v, .n 9, .any⟩,
  ⟨0x2D12, 0x2D12, 0x1, 0x1, .u 1, .rw, .s, .n 0xff, .spanOr 0 3 255⟩,
  ⟨0x2D12, 0x2D12, 0x2, 0x2, .u 1, .rw, .s, .n 0, .span 0 127⟩,
  ⟨0x2D12, 0x2D12, 0x3, 0x3, .u 1, .rw, .s, .n 1, .span 0 2⟩,
  ⟨0x2D12, 0x2D12, 0x4, 0x5, .u 1, .rw, .s, .n 0x80, .any⟩,
  ⟨0x2D12, 0x2D12, 0x6, 0x6, .u 1, .rw, .s, .n 1, .span 0 1⟩,
  ⟨0x2D12, 0x2D12, 0x7, 0x7, .u 1, .ro, .v, .n 1, .any⟩,
  ⟨0x2D12, 0x2D12, 0x8, 0x8, .i 8, .ro, .v, .n 0, .any⟩,
  ⟨0x2D12, 0x2D12, 0x9, 0x9, .u 4, .ro, .v, .n 0, .any⟩,
  ⟨0x2D20, 0x2D20, 0x0, 0x0, .u 1, .cst, .v, .n 3, .any⟩,
  ⟨0x2D20, 0x2D20, 0x1, 0x1, .u 8, .ro, .v, .n 0, .any⟩,
  ⟨0x2D20, 0x2D20, 0x2, 0x2, .u 8, .wo, .i, .n 0, .any⟩,
  ⟨0x2D20, 0x2D20, 0x3, 0x3, .i 2, .rw, .s, .n 0x25, .span 0 1000⟩,
  ⟨0x2D31, 0x2D3D, 0x0, 0x0, .u 1, .cst, .v, .n 0xe, .any⟩,
  ⟨0x2D31, 0x2D3D, 0x1, 0x1, .u 1, .rw, .f, .n 0, .span 0 15⟩,
  ⟨0x2D31, 0x2D3D, 0x2, 0x2, .u 1, .rw, .s, .n 0, .mask 3⟩,
  ⟨0x2D31, 0x2D3D, 0x3, 0x3, .u 1, .rw, .s, .n 0, .span 0 2⟩]

/-- Object rows of 0x2Dxx, part 2. -/
def rows2Dp2 : List ObjRow := [
  ⟨0x2D31, 0x2D3D, 0x4, 0x4, .u 1, .rw, .s, .n 0, .any⟩,
  ⟨0x2D31, 0x2D3D, 0x5, 0x5, .i 4, .rw, .s, .n 0, .span (-65535) 65535⟩,
  ⟨0x2D31, 0x2D3D, 0x6, 0x6, .u 4, .rw, .s, .n 0xffffff, .mask 16777215⟩,
  ⟨0x2D31, 0x2D3D, 0x7, 0x7, .u 1, .rw, .s, .n 0, .span 0 1⟩,
  ⟨0x2D31, 0x2D3D, 0x8, 0x8, .u 2, .rw, .s, .n 0x64, .span 1 65535⟩,
  ⟨0x2D31, 0x2D3D, 0x9, 0x9, .u 4, .rw, .s, .n 0x500, .span 1280 1048575⟩,
  ⟨0x2D31, 0x2D3D, 0xA, 0xA, .u 1, .rw, .s, .trigLevel, .trigLevel⟩,
  ⟨0x2D31, 0x2D3D, 0xB, 0xB, .u 4, .ro, .v, .n 0, .any⟩,
  ⟨0x2D31, 0x2D3D, 0xC, 0xC, .str, .ro, .v, .live, .any⟩,
  ⟨0x2D31, 0x2D3D, 0xD, 0xE, .u 4, .ro, .v, .n 0, .any⟩,
  ⟨0x2D40, 0x2D45, 0x0, 0x0, .u 1, .cst, .v, .n 7, .any⟩,
  ⟨0x2D40, 0x2D45, 0x1, 0x1, .u 1, .rw, .s, .n 0, .span 0 1⟩,
  ⟨0x2D40, 0x2D45, 0x2, 0x2, .u 4, .rw, .s, .n 0x3e8, .any⟩,
  ⟨0x2D40, 0x2D45, 0x3, 0x3, .u 2, .rw, .s, .n 1, .span 1 65535⟩,
  ⟨0x2D40, 0x2D45, 0x4, 0x4, .u 4, .rw, .s, .n 0, .any⟩,
  ⟨0x2D40, 0x2D45, 0x5, 0x5, .u 1, .rw, .s, .n 0, .span 0 1⟩,
  ⟨0x2D40, 0x2D45, 0x6, 0x6, .i 8, .ro, .v, .n 0, .any⟩,
  ⟨0x2D40, 0x2D45, 0x7, 0x7, .u 4, .wo, .i, .n 0, .any⟩,
  ⟨0x2D50, 0x2D50, 0x0, 0x0, .u 1, .cst, .v, .n 4, .any⟩,
  ⟨0x2D50, 0x2D50, 0x1, 0x1, .u 4, .rw, .s, .n 0x3e8, .span 100 1000000⟩,
  ⟨0x2D50, 0x2D50, 0x2, 0x2, .u 1, .ro, .v, .n 0, .any⟩,
  ⟨0x2D50, 0x2D50, 0x3, 0x3, .u 4, .ro, .v, .n 0, .any⟩,
  ⟨0x2D50, 0x2D50, 0x4, 0x4, .i 2, .ro, .v, .n 0, .any⟩,
  ⟨0x2D60, 0x2D60, 0x0, 0x0, .u 1, .cst, .v, .n 8, .any⟩]

/-- Object rows of 0x2Dxx, part 3. -/
def rows2Dp3 : List ObjRow := [
  ⟨0x2D60, 0x2D60, 0x1, 0x1, .u 1, .rw, .s, .n 0xff, .spanOr 0 7 255⟩,
  ⟨0x2D60, 0x2D60, 0x2, 0x2, .u 1, .rw, .s, .n 8, .span 0 15⟩,
  ⟨0x2D60, 0x2D60, 0x3, 0x3, .u 2, .rw, .s, .n 0x64, .span 10 1000⟩,
  ⟨0x2D60, 0x2D60, 0x4, 0x4, .u 1, .rw, .s, .n 0, .span 0 200⟩,
  ⟨0x2D60, 0x2D60, 0x5, 0x5, .u 1, .ro, .v, .n 0, .any⟩,
  ⟨0x2D60, 0x2D60, 0x6, 0x6, .u 8, .ro, .v, .n 0, .any⟩,
  ⟨0x2D60, 0x2D60, 0x7, 0x8, .u 4, .ro, .v, .n 0, .any⟩,
  ⟨0x2D70, 0x2D70, 0x0, 0x0, .u 1, .cst, .v, .n 1, .any⟩,
  ⟨0x2D70, 0x2D70, 0x1, 0x1, .u 4, .wo, .i, .n 0, .any⟩]

/-- The object rows of 0x2Dxx. -/
def rows2D : List ObjRow := rows2Dp0 ++ rows2Dp1 ++ rows2Dp2 ++ rows2Dp3

/-- Object rows of 0x2Exx, part 0. -/
def rows2Ep0 : List ObjRow := [
  ⟨0x2E00, 0x2E00, 0x0, 0x0, .u 1, .cst, .v, .n 3, .any⟩,
  ⟨0x2E00, 0x2E00, 0x1, 0x1, .u 1, .rw, .s, .n 1, .span 0 1⟩,
  ⟨0x2E00, 0x2E00, 0x2, 0x2, .u 1, .rw, .s, .n 4, .span 0 15⟩,
  ⟨0x2E00, 0x2E00, 0x3, 0x3, .u 2, .rw, .s, .n 0x3c, .span 1 3600⟩,
  ⟨0x2E01, 0x2E01, 0x0, 0x0, .u 1, .cst, .v, .n 3, .any⟩,
  ⟨0x2E01, 0x2E01, 0x1, 0x1, .u 1, .ro, .v, .n 1, .any⟩,
  ⟨0x2E01, 0x2E01, 0x2, 0x2, .u 4, .wo, .i, .n 0, .any⟩,
  ⟨0x2E01, 0x2E01, 0x3, 0x3, .u 1, .ro, .v, .n 0, .any⟩,
  ⟨0x2E02, 0x2E02, 0x0, 0x0, .u 1, .cst, .v, .n 7, .any⟩,
  ⟨0x2E02, 0x2E02, 0x1, 0x1, .u 2, .ro, .v, .n 0, .any⟩,
  ⟨0x2E02, 0x2E02, 0x2, 0x3, .u 2, .ro, .v, .n 0xffff, .any⟩,
  ⟨0x2E02, 0x2E02, 0x4, 0x4, .str, .ro, .v, .live, .any⟩,
  ⟨0x2E02, 0x2E02, 0x5, 0x7, .u 4, .ro, .v, .n 0, .any⟩,
  ⟨0x2E03, 0x2E03, 0x0, 0x0, .u 1, .cst, .v, .n 1, .any⟩,
  ⟨0x2E03, 0x2E03, 0x1, 0x1, .u 4, .wo, .i, .n 0, .any⟩,
  ⟨0x2E10, 0x2E10, 0x0, 0x0, .u 1, .cst, .v, .n 3, .any⟩,
  ⟨0x2E10, 0x2E10, 0x1, 0x1, .u 4, .wo, .i, .n 0, .any⟩,
  ⟨0x2E10, 0x2E10, 0x2, 0x2, .u 4, .ro, .v, .n 0, .any⟩,
  ⟨0x2E10, 0x2E10, 0x3, 0x3, .u 4, .wo, .i, .n 0, .any⟩,
  ⟨0x2E11, 0x2E11, 0x0, 0x0, .u 1, .cst, .v, .n 1, .any⟩,
  ⟨0x2E11, 0x2E11, 0x1, 0x1, .u 4, .wo, .i, .n 0, .any⟩,
  ⟨0x2E30, 0x2E30, 0x0, 0x0, .u 1, .cst, .v, .n 6, .any⟩,
  ⟨0x2E30, 0x2E30, 0x1, 0x1, .u 2, .rw, .s, .n 0xa, .span 1 500⟩,
  ⟨0x2E30, 0x2E30, 0x2, 0x2, .u 1, .ro, .v, .n 0, .any⟩]

/-- Object rows of 0x2Exx, part 1. -/
def rows2Ep1 : List ObjRow := [
  ⟨0x2E30, 0x2E30, 0x3, 0x3, .u 4, .wo, .i, .n 0, .any⟩,
  ⟨0x2E30, 0x2E30, 0x4, 0x4, .u 4, .ro, .v, .n 0, .any⟩,
  ⟨0x2E30, 0x2E30, 0x5, 0x6, .u 2, .ro, .v, .n 0, .any⟩,
  ⟨0x2E40, 0x2E40, 0x0, 0x0, .u 1, .cst, .v, .n 5, .any⟩,
  ⟨0x2E40, 0x2E40, 0x1, 0x4, .i 2, .ro, .v, .n 0, .any⟩,
  ⟨0x2E40, 0x2E40, 0x5, 0x5, .u 1, .rw, .s, .n 0x5f, .span 60 105⟩]

/-- The object rows of 0x2Exx. -/
def rows2E : List ObjRow := rows2Ep0 ++ rows2Ep1

/-- Object rows of 0x2Fxx, part 0. -/
def rows2Fp0 : List ObjRow := [
  ⟨0x2F00, 0x2F00, 0x0, 0x0, .u 1, .cst, .v, .n 4, .any⟩,
  ⟨0x2F00, 0x2F00, 0x1, 0x2, .u 1, .cst, .v, .perSub [16, 4], .any⟩,
  ⟨0x2F00, 0x2F00, 0x3, 0x3, .u 2, .cst, .v, .n 0x200, .any⟩,
  ⟨0x2F00, 0x2F00, 0x4, 0x4, .u 1, .cst, .v, .n 0x20, .any⟩,
  ⟨0x2F01, 0x2F01, 0x0, 0x0, .u 1, .cst, .v, .n 2, .any⟩,
  ⟨0x2F01, 0x2F01, 0x1, 0x1, .u 1, .rw, .s, .n 3, .span 1 3⟩,
  ⟨0x2F01, 0x2F01, 0x2, 0x2, .u 2, .rw, .s, .n 0x100, .span 32 65535⟩,
  ⟨0x2F08, 0x2F0B, 0x0, 0x0, .u 1, .cst, .v, .n 4, .any⟩,
  ⟨0x2F08, 0x2F0B, 0x1, 0x1, .u 1, .rw, .f, .n 0, .span 0 15⟩,
  ⟨0x2F08, 0x2F0B, 0x2, 0x2, .u 4, .rw, .s, .n 0xffffffff, .spanOr 0 65535 4294967295⟩,
  ⟨0x2F08, 0x2F0B, 0x3, 0x3, .u 2, .ro, .v, .n 0, .any⟩,
  ⟨0x2F08, 0x2F0B, 0x4, 0x4, .u 8, .ro, .v, .n 0, .any⟩,
  ⟨0x2F10, 0x2F1F, 0x0, 0x0, .u 1, .cst, .v, .n 0x11, .any⟩,
  ⟨0x2F10, 0x2F1F, 0x1, 0x1, .u 1, .rw, .f, .n 0, .span 0 15⟩,
  ⟨0x2F10, 0x2F1F, 0x2, 0x2, .u 1, .rw, .s, .n 0, .span 0 66⟩,
  ⟨0x2F10, 0x2F1F, 0x3, 0x3, .u 1, .rw, .s, .n 0, .span 0 2⟩,
  ⟨0x2F10, 0x2F1F, 0x4, 0x5, .u 1, .rw, .s, .n 0xff, .spanOr 0 66 255⟩,
  ⟨0x2F10, 0x2F1F, 0x6, 0x6, .u 1, .rw, .s, .n 0xf, .any⟩,
  ⟨0x2F10, 0x2F1F, 0x7, 0x7, .u 2, .rw, .s, .n 0xffff, .any⟩,
  ⟨0x2F10, 0x2F1F, 0x8, 0x8, .u 2, .rw, .s, .n 0x33f, .any⟩,
  ⟨0x2F10, 0x2F1F, 0x9, 0x9, .u 4, .rw, .s, .n 1, .span 1 65536⟩,
  ⟨0x2F10, 0x2F1F, 0xA, 0xA, .u 1, .rw, .s, .n 0xff, .spanOr 0 3 255⟩,
  ⟨0x2F10, 0x2F1F, 0xB, 0xB, .u 1, .rw, .s, .n 0, .span 0 3⟩,
  ⟨0x2F10, 0x2F1F, 0xC, 0xC, .u 1, .rw, .s, .n 0, .span 0 15⟩]

/-- Object rows of 0x2Fxx, part 1. -/
def rows2Fp1 : List ObjRow := [
  ⟨0x2F10, 0x2F1F, 0xD, 0xD, .strLen [12], .rw, .s, .zeros 12, .any⟩,
  ⟨0x2F10, 0x2F1F, 0xE, 0xE, .u 1, .rw, .s, .n 0, .span 0 4⟩,
  ⟨0x2F10, 0x2F1F, 0xF, 0xF, .u 4, .rw, .s, .n 0, .any⟩,
  ⟨0x2F10, 0x2F1F, 0x10, 0x10, .strLen [12], .rw, .s, .zeros 12, .any⟩,
  ⟨0x2F10, 0x2F1F, 0x11, 0x11, .u 1, .rw, .s, .n 0x14, .span 10 30⟩,
  ⟨0x2F20, 0x2F2F, 0x0, 0x0, .u 1, .cst, .v, .n 8, .any⟩,
  ⟨0x2F20, 0x2F2F, 0x1, 0x1, .u 1, .wo, .i, .n 0, .any⟩,
  ⟨0x2F20, 0x2F2F, 0x2, 0x2, .u 1, .ro, .v, .n 0, .any⟩,
  ⟨0x2F20, 0x2F2F, 0x3, 0x6, .u 8, .ro, .v, .n 0, .any⟩,
  ⟨0x2F20, 0x2F2F, 0x7, 0x8, .u 4, .ro, .v, .n 0, .any⟩]

/-- The object rows of 0x2Fxx. -/
def rows2F : List ObjRow := rows2Fp0 ++ rows2Fp1

/-- Object rows of 0x30xx, part 0. -/
def rows30p0 : List ObjRow := [
  ⟨0x3000, 0x3FFF, 0x0, 0x0, .u 1, .cst, .v, .n 8, .any⟩,
  ⟨0x3000, 0x3FFF, 0x1, 0x1, .u 1, .rw, .f, .n 0, .span 0 15⟩,
  ⟨0x3000, 0x3FFF, 0x2, 0x2, .u 4, .rw, .s, .n 0, .any⟩,
  ⟨0x3000, 0x3FFF, 0x3, 0x3, .u 8, .rw, .s, .n 0, .mult 4096⟩,
  ⟨0x3000, 0x3FFF, 0x4, 0x4, .u 8, .rw, .s, .n 0, .multTo 4096 549755813888⟩,
  ⟨0x3000, 0x3FFF, 0x5, 0x5, .u 1, .rw, .s, .n 0, .mask 3⟩,
  ⟨0x3000, 0x3FFF, 0x6, 0x6, .u 2, .rw, .s, .n 0, .any⟩,
  ⟨0x3000, 0x3FFF, 0x7, 0x7, .u 2, .rw, .s, .n 0xffff, .any⟩,
  ⟨0x3000, 0x3FFF, 0x8, 0x8, .u 4, .ro, .v, .n 0, .any⟩]

/-- The object rows of 0x30xx. -/
def rows30 : List ObjRow := rows30p0

/-- Object rows of 0x40xx, part 0. -/
def rows40p0 : List ObjRow := [
  ⟨0x4000, 0x40FF, 0x0, 0x0, .u 1, .cst, .v, .n 0xc, .any⟩,
  ⟨0x4000, 0x40FF, 0x1, 0x1, .u 1, .rw, .f, .n 0, .span 0 15⟩,
  ⟨0x4000, 0x40FF, 0x2, 0x2, .u 1, .rw, .s, .n 9, .mask 63⟩,
  ⟨0x4000, 0x40FF, 0x3, 0x3, .u 1, .rw, .s, .faultN, .span 1 255⟩,
  ⟨0x4000, 0x40FF, 0x4, 0x4, .u 1, .rw, .s, .n 0x61, .window⟩,
  ⟨0x4000, 0x40FF, 0x5, 0x5, .u 1, .rw, .s, .n 0, .mask 63⟩,
  ⟨0x4000, 0x40FF, 0x6, 0x6, .u 1, .rw, .s, .faultS, .mask 63⟩,
  ⟨0x4000, 0x40FF, 0x7, 0x7, .u 2, .rw, .s, .n 0, .any⟩,
  ⟨0x4000, 0x40FF, 0x8, 0x8, .u 4, .ro, .v, .n 0, .any⟩,
  ⟨0x4000, 0x40FF, 0x9, 0xA, .u 1, .ro, .v, .n 0, .any⟩,
  ⟨0x4000, 0x40FF, 0xB, 0xB, .str, .ro, .v, .live, .any⟩,
  ⟨0x4000, 0x40FF, 0xC, 0xC, .u 4, .wo, .i, .n 0, .any⟩]

/-- The object rows of 0x40xx. -/
def rows40 : List ObjRow := rows40p0
/-- The rows that can hold index `idx`: those of its high byte. -/
def rowsFor (idx : Nat) : List ObjRow :=
  let h := idx / 256
  if h = 0x10 then rows10 else if h = 0x18 then rows18 else if h = 0x1A then rows1A
  else if h = 0x1F then rows1F else if h = 0x20 then rows20 else if h = 0x21 then rows21
  else if h = 0x22 then rows22 else if h = 0x23 then rows23 else if h = 0x24 then rows24
  else if h = 0x25 then rows25 else if h = 0x26 then rows26 else if h = 0x27 then rows27
  else if h = 0x28 then rows28 else if h = 0x2A then rows2A else if h = 0x2B then rows2B
  else if h = 0x2C then rows2C else if h = 0x2D then rows2D else if h = 0x2E then rows2E
  else if h = 0x2F then rows2F else if 0x30 ≤ h ∧ h ≤ 0x3F then rows30
  else if h = 0x40 then rows40 else []

/-- The row of an object instance; none where it does not exist (R64). -/
def objRow (idx sub : Nat) : Option ObjRow :=
  (rowsFor idx).find? fun r => decide (r.lo ≤ idx ∧ idx ≤ r.hi ∧ r.slo ≤ sub ∧ sub ≤ r.shi)

/-- Fixed length of a type in bytes; none for a string. -/
def OTy.len : OTy → Option Nat
  | .u n => some n
  | .i n => some n
  | .str => none
  | .strLen _ => none

/-- Whether a write may carry `n` bytes (R65). -/
def OTy.lenOk (t : OTy) (n : Nat) : Bool :=
  match t with
  | .u k => n == k
  | .i k => n == k
  | .str => decide (1 ≤ n ∧ n ≤ 256)
  | .strLen ls => ls.contains n

/-- Number of trigger-line codes that are TRIG lines (R459): codes 0x01 to 0x08. -/
def isTrigLine (idx : Nat) : Bool := decide (0x2D31 ≤ idx ∧ idx ≤ 0x2D38)

/-- Sources with N = 1 and the severe set chip reset and FAULT_N (R490). -/
def faultGroupReset : List Nat := [0x03, 0x04, 0x08, 0xC4, 0xC5, 0xCF]

/-- SECDED corrections (R490). -/
def faultGroupCorrected : List Nat :=
  [0x00, 0x02, 0x20, 0x22, 0x30, 0x38, 0x40, 0x42, 0x44, 0x46, 0x70, 0x72, 0x80, 0x82, 0x84, 0xB8, 0xCE, 0xEA,
   0xF2] ++ span 0x60 0x68

/-- SECDED uncorrectable errors and their companions (R490). -/
def faultGroupHard : List Nat :=
  [0x01, 0x21, 0x23, 0x31, 0x39, 0x41, 0x43, 0x45, 0x47, 0x71, 0x73, 0x81, 0x83, 0x85, 0xB9, 0xEB, 0xF3,
   0x74, 0x77, 0xD1, 0xD2, 0xD3, 0xE3, 0xF0, 0xF4] ++ span 0x68 0x70

/-- Default of 0x4000 + s:03 (R490). -/
def faultDefaultN (s : Nat) : Nat := if faultGroupCorrected.contains s then 16 else 1

/-- Default of 0x4000 + s:06 (R490). -/
def faultDefaultSet (s : Nat) : Nat :=
  if faultGroupReset.contains s then 0x30
  else if faultGroupCorrected.contains s then 0x03
  else if faultGroupHard.contains s then 0x23
  else 0x03

/-- The COB-ID default for a node-ID (R79, R86). -/
def cobDefault (idx node : Nat) : Nat :=
  if idx = 0x1014 then 0x80 + node else 0x180 + 0x100 * (idx - 0x1800) + node

/-- Default bytes of a row's instance, for the applied node-ID `node`. -/
def ObjRow.default (r : ObjRow) (node idx sub : Nat) : Bytes :=
  let n := (r.ty.len).getD 0
  match r.dflt with
  | .n v => leBytes n v
  | .perIdx vs => leBytes n (vs.getD (idx - r.lo) 0)
  | .perSub vs => leBytes n (vs.getD (sub - r.slo) 0)
  | .zeros k => List.replicate k (byte 0)
  | .subNo => leBytes n sub
  | .live => List.replicate n (byte 0)
  | .cobId => leBytes n (cobDefault idx node)
  | .trigLevel => leBytes n (if isTrigLine idx then 0 else 1)
  | .faultN => leBytes n (faultDefaultN (idx - 0x4000))
  | .faultS => leBytes n (faultDefaultSet (idx - 0x4000))

/-- Whether a value of the row's type lies in its range (R33); the length is already right. -/
def ObjRow.inRange (r : ObjRow) (idx : Nat) (b : Bytes) : Bool :=
  let v := b.toNat
  let x : Int := match r.ty with
    | .i _ => b.toInt
    | _ => (v : Int)
  match r.rng with
  | .any => true
  | .span lo hi => decide (lo ≤ x ∧ x ≤ hi)
  | .spanOr lo hi o => decide ((lo ≤ v ∧ v ≤ hi) ∨ v = o)
  | .oneOf vs => vs.contains v
  | .mask m => decide (Nat.lor v m = m)
  | .mult k => decide (v % k = 0)
  | .multTo k hi => decide (v % k = 0 ∧ v ≤ hi)
  | .step lo hi k => decide (lo ≤ v ∧ v ≤ hi ∧ (v - lo) % k = 0)
  | .limit4k => decide (v = 0 ∨ v % 4096 = 4095)
  | .last4k => decide (v % 4096 = 4095)
  | .tLimit => decide (v = 0 ∨ (64 ≤ v ∧ v ≤ 65535))
  | .window =>
    let e := v / 16
    let m := v % 16
    decide (e ≤ 7 ∧ 1 ≤ m ∧ m ≤ 9 ∧ m * 10 ^ e ≤ 60000000)
  | .trigLevel => decide (v = 0 ∨ (v = 1 ∧ isTrigLine idx = false))

/-- Key of an instance in the configuration. -/
def okey (idx sub : Nat) : Nat := 256 * idx + sub

/-- Object values that differ from their defaults, keyed by 256·index + subindex (R53). -/
abbrev Cfg := Tbl Bytes

/-- The five instances whose default follows the applied node-ID (R566). -/
def cobKeys : List Nat := [okey 0x1014 0, okey 0x1800 1, okey 0x1801 1, okey 0x1802 1, okey 0x1803 1]

/-- The value bytes of a stored instance under the applied node-ID. -/
def Cfg.bytesAt (node : Nat) (c : Cfg) (idx sub : Nat) : Bytes :=
  match c.find? (okey idx sub) with
  | some b => b
  | none =>
    match objRow idx sub with
    | some r => r.default node idx sub
    | none => []

/-- The value of a stored unsigned instance; no COB-ID is read this way. -/
def Cfg.nat (c : Cfg) (idx sub : Nat) : Nat := (c.bytesAt 0 idx sub).toNat

/-- The value of a stored signed instance. -/
def Cfg.int (c : Cfg) (idx sub : Nat) : Int := (c.bytesAt 0 idx sub).toInt

/-- The configuration with a committed value at an instance.
Only values that differ from their defaults are listed, but for the five COB-ID instances, which stay listed once
a commit applied a value to them (R566). -/
def Cfg.put (c : Cfg) (key : Nat) (b : Bytes) : Cfg :=
  if cobKeys.contains key then c.set key b
  else
    match objRow (key / 256) (key % 256) with
    | some r => if r.default 0 (key / 256) (key % 256) = b then c.erase key else c.set key b
    | none => c

/-- The configuration with a cell put back: none is the default. -/
def Cfg.restore (c : Cfg) (key : Nat) : Option Bytes → Cfg
  | some b => c.put key b
  | none => c.erase key

end Sys2Proof.Machine
end

