-- ==== Sys2Proof/Machine/State.lean ====
section
/-! DEFINITION. The state of the device as plain data: every register, buffer, queue, counter, mode and pin that the
spec gives it, the queue of waiting commands, and the state right after reset. -/
namespace Sys2Proof.Machine

/-- The model's wall clock and FCLK (R147, R186). -/
structure Clock where
  /-- FCLK periods since the model's start, counted by the idle step. -/
  wall : Nat := 0
  /-- FCLK edges since FCLK locked. -/
  edges : Nat := 0
  /-- FCLK runs; not before its first lock after a reset (R230). -/
  running : Bool := false
  deriving DecidableEq, Repr

/-- Supplies, straps, PERST_N and reset release (R536 to R545). -/
structure Power where
  /-- Rails below their threshold, a bit per supply code. -/
  railsBad : Nat := 0
  /-- PERST_N is low. -/
  perstLow : Bool := false
  /-- Reset has been released: clocks run and commands take effect. -/
  released : Bool := true
  /-- TEST_MODE as sampled at reset release. -/
  testMode : Bool := false
  /-- BOOT_SEL as sampled at reset release. -/
  bootSel : Nat := 0
  deriving DecidableEq, Repr

/-- The SPI management port (R31, R32, R56). -/
structure Spi where
  /-- MGMT_CS_N is low. -/
  csLow : Bool := false
  /-- The idle timeout released the port; edges are ignored until MGMT_CS_N has risen and fallen (R32). -/
  ignoring : Bool := false
  /-- The port holds the store and MGMT_MISO was driven high (R31). -/
  granted : Bool := false
  /-- The transaction of this MGMT_CS_N period is complete; further edges clock out the response (R56). -/
  served : Bool := false
  deriving DecidableEq, Repr

/-- A SAVE in progress (R48 to R50). -/
structure SaveJob where
  /-- Target slot, 0 A or 1 B. -/
  target : Nat
  /-- Sequence number the image takes. -/
  seq : Nat
  /-- Path that asked; a mailbox path stays ACTIVE until the end. -/
  path : Nat
  /-- Object that asked, 256·index + subindex. -/
  key : Nat
  /-- Version at the first read of the snapshot. -/
  startVersion : Nat
  /-- The snapshot as read in the present attempt. -/
  snapshot : Cfg
  /-- Failed attempts so far (R49). -/
  attempts : Nat
  /-- Schema of the image, once the firmware has taken the SAVE up (R524). -/
  schema : Option Nat
  deriving DecidableEq, Repr

/-- An image load that the firmware has been asked for (R53 to R55, R524). -/
structure LoadJob where
  /-- Slot, 0 A or 1 B; 2 defaults. -/
  slot : Nat
  /-- Path that asked. -/
  path : Nat
  /-- Object that asked, 256·index + subindex. -/
  key : Nat
  deriving DecidableEq, Repr

/-- The configuration store (R30 to R63). -/
structure Store where
  /-- STORE_VALID (0x2002:03 bit 0). -/
  valid : Bool := false
  /-- Configuration version (R44). -/
  version : Nat := 0
  /-- Epoch count that the domains synchronise (R45). -/
  epoch : Nat := 0
  /-- Active schema version, 0x2002:04. -/
  schema : Nat := 0
  /-- Load source, 0x2002:03 bits [3:2]. -/
  loadSource : Nat := 0
  /-- Active values that differ from their defaults. -/
  active : Cfg := []
  /-- Committed journal: instance and its prior cell; none where the prior value was the default. -/
  journal : Tbl (Option Bytes) := []
  /-- Staging chamber per path. -/
  chambers : Tbl Cfg := []
  /-- A cut-off accepted commit left its new journal and reserved cells behind; holds the path (R58). -/
  cut : Option Nat := none
  /-- The present transaction found such a commit (STATUS flag bit 2). -/
  rolledNow : Bool := false
  /-- Rolled-back commits, 0x2002:05. -/
  rolledBack : Nat := 0
  /-- Last result per path, 0x2001. -/
  results : Tbl Nat := []
  /-- Response bytes of the last complete transaction per path: STAT, abort code (most significant byte first), data
  (R56). -/
  responses : Tbl Bytes := []
  /-- Path that owns the store. -/
  owner : Option Nat := none
  /-- Frames that the firmware presents, at most one per path (R30). -/
  waiting : Tbl Frame := []
  /-- Frames of path 1 that the firmware presents after the one that waits, oldest first (R30). -/
  own : List Frame := []
  /-- Transactions that were refused, counted by SMP (R237). -/
  refused : Nat := 0
  /-- The SPI port is pending at the serializer. -/
  spiPending : Bool := false
  /-- The SPI management port. -/
  spi : Spi := {}
  /-- SAVE state, 0x2004:01. -/
  saveState : Nat := 0
  /-- Last saved version, 0x2004:02. -/
  lastSaved : Nat := 0
  /-- SAVE in progress. -/
  save : Option SaveJob := none
  /-- Image loads asked for, oldest first. -/
  loads : List LoadJob := []
  deriving DecidableEq, Repr

/-- One function mailbox (R75 to R78). -/
structure Mailbox where
  /-- PENDING. -/
  pending : Bool := false
  /-- ACTIVE. -/
  active : Bool := false
  /-- DONE. -/
  done : Bool := false
  /-- CANCELLED. -/
  cancelled : Bool := false
  /-- OVERRUN. -/
  overrun : Bool := false
  /-- RSEQ. -/
  rseq : Nat := 0
  /-- SEQ of the request in progress. -/
  seq : Nat := 0
  /-- Object of the request in progress, 256·index + subindex. -/
  key : Nat := 0
  /-- MB_INTCFG IE. -/
  ie : Bool := false
  /-- MB_INTCFG VECTOR. -/
  vector : Nat := 0
  /-- MB_REQ0. -/
  req0 : Nat := 0
  /-- MB_REQ1 LEN. -/
  reqLen : Nat := 0
  /-- REQ_DATA, shorter where the rest is zero. -/
  reqData : Bytes := []
  /-- MB_RSP0 STAT. -/
  stat : Nat := 0
  /-- MB_RSP1 ABORT. -/
  abort : Nat := 0
  /-- MB_RSP2 RLEN. -/
  rlen : Nat := 0
  /-- RSP_DATA. -/
  rspData : Bytes := []
  deriving DecidableEq, Repr

/-- The CANopen FD node's NMT states (R80). -/
inductive Nmt where
  | initialising
  | preOperational
  | operational
  | stopped
  deriving DecidableEq, Repr

/-- An open USDO session (R82): the object accessed and the segments received so far. -/
structure Usdo where
  /-- Whether the session writes. -/
  write : Bool
  /-- Object, 256·index + subindex. -/
  key : Nat
  /-- Bytes announced. -/
  total : Nat
  /-- Bytes collected or still to send. -/
  data : Bytes
  /-- Segment expected next. -/
  seqNo : Nat
  /-- The node has presented the session's frame and waits for its outcome. -/
  busy : Bool := false
  deriving DecidableEq, Repr

/-- A frame on the CAN bus (R81). -/
structure CanFrame where
  /-- COB-ID. -/
  cob : Nat
  /-- Data. -/
  data : Bytes
  /-- CAN FD format with bit-rate switching; otherwise classical format. -/
  fd : Bool
  /-- Rate of its data phase in Mbit/s; 1, as in the arbitration phase, in classical format. -/
  rate : Nat
  deriving DecidableEq, Repr

/-- The CANopen FD node (R79 to R92, R566). -/
structure Can where
  /-- NMT state. -/
  nmt : Nmt := .initialising
  /-- The node runs: 0x1FF0:05 is 1. -/
  enabled : Bool := true
  /-- Node-ID applied at start or at the last reset communication. -/
  nodeId : Nat := 64
  /-- Data bit rate applied at the same moment. -/
  dataRate : Nat := 2
  /-- Open USDO session. -/
  usdo : Option Usdo := none
  /-- EMCY queue, oldest first. -/
  emcy : List Bytes := []
  /-- EMCY dropped, 0x1FF0:06. -/
  emcyDropped : Nat := 0
  /-- Bus-off count, 0x1FF0:07. -/
  busOffs : Nat := 0
  /-- The controller is in bus-off. -/
  busOff : Bool := false
  /-- The last frame handed to the CAN controller. -/
  sent : Option CanFrame := none
  /-- Last payload of each TPDO, keyed by TPDO number less one. -/
  tpdo : Tbl Bytes := []
  deriving DecidableEq, Repr

/-- One fault event on its way to FCOL (R472). -/
structure FaultEvent where
  /-- Source. -/
  src : Nat
  /-- Instance; 0xFF none. -/
  inst : Nat := 0xFF
  /-- Partition of the traffic; 0xFF unknown. -/
  part : Nat := 0xFF
  /-- Cause, for lane sources. -/
  cause : Nat := 0
  /-- Event of an injection. -/
  injected : Bool := false
  /-- Queue of a doorbell's event (R289). -/
  queue : Option Nat := none
  deriving DecidableEq, Repr

/-- What the collector keeps for one source (R472 to R476). -/
structure SourceState where
  /-- Total events. -/
  total : Nat := 0
  /-- Count in the open window. -/
  count : Nat := 0
  /-- A window is open. -/
  windowOpen : Bool := false
  /-- The source is severe. -/
  severe : Bool := false
  /-- FAULT_N latch. -/
  faultN : Bool := false
  /-- Pre-enable latch with the context of its first event. -/
  pre : Option FaultEvent := none
  /-- Record of the last event; empty reads as zeros. -/
  last : Bytes := []
  /-- Queue of the last event, where a doorbell caused it (R289). -/
  queue : Option Nat := none
  deriving DecidableEq, Repr

/-- The armed or last injection (R482 to R484). -/
structure Injection where
  /-- 0x2E10:02 [7:0]: 0 none, 1 armed, 2 spent, 3 cancelled, 4 ended by reset. -/
  state : Nat := 0
  /-- Source. -/
  src : Nat := 0
  /-- Instance. -/
  inst : Nat := 0
  /-- Cause, for lane sources. -/
  cause : Nat := 0
  deriving DecidableEq, Repr

/-- The fault collector (R470 to R497). -/
structure Faults where
  /-- Events counted in their domains that have not yet crossed into FCOL, oldest first. -/
  crossing : List FaultEvent := []
  /-- The collector is enabled (R476). -/
  enabled : Bool := false
  /-- It has been enabled since the last power-on, PERST_N or chip reset (R481). -/
  everEnabled : Bool := false
  /-- Sources. -/
  src : Tbl SourceState := []
  /-- First severe source since the last clear of all; 0xFFFF none. -/
  first : Nat := 0xFFFF
  /-- Its record. -/
  firstRec : Bytes := []
  /-- NMIs, 0x2E02:05. -/
  nmis : Nat := 0
  /-- Unit resets skipped, 0x2E02:06. -/
  skipped : Nat := 0
  /-- Events registered, 0x2E02:07. -/
  registered : Nat := 0
  /-- Field injection. -/
  inj : Injection := {}
  /-- Reset flag 0x2E01:03, in AON. -/
  resetFlag : Bool := false
  /-- Wall-clock edges at which the collector's chip resets started, newest first, in AON (R480). -/
  chipResetTimes : List Nat := []
  deriving DecidableEq, Repr

/-- The output inhibit monitor (R485 to R488). -/
structure Inhibit where
  /-- Level of INHIBIT_A_N at the last tick. -/
  aLevel : Bool := true
  /-- Level of INHIBIT_B at the last tick. -/
  bLevel : Bool := false
  /-- The inhibit is active. -/
  active : Bool := false
  /-- Consecutive disagreeing ticks. -/
  count : Nat := 0
  /-- Discrepancy fault latched. -/
  latched : Bool := false
  /-- Inhibit activations, 0x2E30:04. -/
  activations : Nat := 0
  /-- Longest disagreement without fault, 0x2E30:06. -/
  longest : Nat := 0
  deriving DecidableEq, Repr

/-- Monitors of temperature and supplies (R539, R563, 0x2E40). -/
structure Monitors where
  /-- Junction temperature per sensor, in 0.125 °C, two's complement 16 bits. -/
  temp : Tbl Nat := []
  deriving DecidableEq, Repr

/-- One partition's lock state (R248 to R259). -/
structure Part where
  /-- 0 RUNNING, 1 FENCING, 2 FENCED, 3 RESETTING, 4 RESET_DONE, 5 RELEASING. -/
  state : Nat := 4
  /-- The lock cycle goes on with step 6. -/
  thenReset : Bool := false
  /-- The fence bit that NIs and units see (steps 1 to 7). -/
  fenceBit : Bool := true
  /-- The drain has ended and TX streams are going idle (step 4). -/
  txIdle : Bool := false
  /-- A further reset step follows the running one (R272). -/
  again : Bool := false
  /-- The firmware releases it when the reset step ends (R258). -/
  autoRelease : Bool := false
  /-- PF0's FLR defers the release until VF Enable is set again (R259). -/
  awaitVf : Bool := false
  /-- Drain timeouts. -/
  drainTimeouts : Nat := 0
  /-- Last fence time in ns. -/
  fenceTime : Nat := 0
  /-- Completed lock cycles. -/
  cycles : Nat := 0
  /-- Wall-clock edge of tail edge 8 of the command that started the cycle. -/
  startedAt : Nat := 0
  /-- Wall-clock edge at which the fence bit was last cleared (R271). -/
  releasedAt : Option Nat := none
  deriving DecidableEq, Repr

/-- One power domain (R265 to R268). -/
structure Pd where
  /-- 0 OFF, 1 POWERING, 2 FENCED, 3 RUNNING, 4 FENCING, 5 RELEASING, 6 FAILED. -/
  state : Nat := 0
  /-- OFF follows the fence. -/
  offToFollow : Bool := false
  /-- RELEASE follows the power-up: the firmware's boot sequence (R268). -/
  releaseToFollow : Bool := false
  /-- Power-ups. -/
  powerUps : Nat := 0
  deriving DecidableEq, Repr

/-- Reset records and the link-loss state (R263, R269). -/
structure Resets where
  /-- 0x2601:01. -/
  kind : Nat := 1
  /-- 0x2601:02. -/
  chipSource : Nat := 0
  /-- 0x2601:03. -/
  linkLossResets : Nat := 0
  /-- 0x2601:04. -/
  chipResets : Nat := 0
  /-- 0x2603:03: 0 link up, 1 debouncing, 2 link-loss reset running, 3 link down after reset. -/
  linkLoss : Nat := 0
  /-- The PCIe data link layer is up; a reset leaves the link down (R260, R263). -/
  linkUp : Bool := false
  /-- Units held in reset (R261, R231, R242), each with whether its store crossing has captured since. -/
  unitHeld : Tbl Bool := []
  deriving DecidableEq, Repr

/-- One input VC of a router (R125, R149). -/
structure InVc where
  /-- Flits waiting, oldest first. -/
  q : List Flit := []
  /-- The packet whose head has left and whose body flits follow: its output port. -/
  following : Option Nat := none
  /-- CLASS of that packet. -/
  cls : Nat := 0
  /-- AGE of that packet. -/
  age : Nat := 0
  /-- The front flit waited in the last allocation (R147). -/
  waited : Bool := false
  /-- A packet is being discarded to its tail (R128). -/
  dropping : Bool := false
  deriving DecidableEq, Repr

/-- An output reserved by a setup phase (R153). -/
structure Reservation where
  /-- The express input VC that won, 16·port + VC. -/
  key : Nat
  /-- The output VC was free and has been taken for it. -/
  fresh : Bool
  deriving DecidableEq, Repr

/-- One router (R118 to R144). Tables are keyed by 16·port + VC where they hold VCs. -/
structure Router where
  /-- Input buffers. -/
  inp : Tbl InVc := []
  /-- Credits spent per output VC; the counter of R125 is the depth less this. -/
  used : Tbl Nat := []
  /-- The input VC (16·port + VC) that holds an output VC (R120). -/
  held : Tbl Nat := []
  /-- Output pointers. -/
  optr : Tbl Nat := []
  /-- Input VC pointers. -/
  iptr : Tbl Nat := []
  /-- Outputs reserved for this cycle (R153). -/
  resNow : Tbl Reservation := []
  /-- Outputs reserved for the next cycle. -/
  resNext : Tbl Reservation := []
  /-- The setup phase of this cycle has run. -/
  setupDone : Bool := false
  /-- Output and urgency of the setup requests of this cycle (R152, R169). -/
  asked : List (Nat × Nat) := []
  /-- Moves of output pointers by the setup grants of this cycle, made at its end (R152). -/
  optrNext : Tbl Nat := []
  /-- Moves of VC pointers by the setup grants of this cycle. -/
  iptrNext : Tbl Nat := []
  /-- Input link directions stopped (R135), a bit per port code. -/
  stopped : Nat := 0
  /-- 0x2140 + r:01 to :04. -/
  counts : Tbl Nat := []
  deriving DecidableEq, Repr

/-- The first link error since clear (0x2180). -/
structure LinkCapture where
  /-- 0x2180:01. -/
  valid : Bool := false
  /-- 0x2180:02. -/
  source : Nat := 0
  /-- 0x2180:03. -/
  router : Nat := 0
  /-- 0x2180:04. -/
  port : Nat := 0
  /-- 0x2180:05. -/
  vc : Nat := 0
  /-- 0x2180:06. -/
  syndrome : Nat := 0
  /-- 0x2180:07. -/
  further : Nat := 0
  deriving DecidableEq, Repr

/-- The routers and every link between them and the NIs (R118 to R144). -/
structure Net where
  /-- Routers by ID. -/
  routers : Tbl Router := []
  /-- Flits on the link into router input 8·r + port. -/
  wireR : Tbl (List Flit) := []
  /-- Flits on the local link into NI n. -/
  wireN : Tbl (List Flit) := []
  /-- Credits (VC codes) on their way to router output 8·r + port. -/
  credR : Tbl (List Nat) := []
  /-- Credits on their way to NI n. -/
  credN : Tbl (List Nat) := []
  /-- Link error capture. -/
  cap : LinkCapture := {}
  deriving DecidableEq, Repr

/-- A posted-write entry of the write-combining buffer (R176). -/
structure WcbEntry where
  /-- The write collected so far. -/
  pkt : Packet
  /-- Still open. -/
  isOpen : Bool
  deriving DecidableEq, Repr

/-- State of a tag (R180, R181). -/
inductive TagState where
  | inFlight
  | retryWait
  | reissue
  | quarantined
  deriving DecidableEq, Repr

/-- One tag in use (R177 to R181). -/
structure Tag where
  /-- The request. -/
  req : Packet
  /-- State. -/
  st : TagState
  /-- Reissues so far. -/
  reissues : Nat := 0
  /-- Order of issue within the NI (R175). -/
  order : Nat := 0
  /-- Its response is delivered in issue order (0x2302 at its issue). -/
  ordered : Bool := false
  /-- The fenced message this mark belongs to; none for a request of the unit. -/
  fence : Option Nat := none
  deriving DecidableEq, Repr

/-- A response delivered to the unit. -/
structure Delivered where
  /-- The request. -/
  req : Packet
  /-- STATUS. -/
  status : Nat
  /-- Data as read. -/
  data : Bytes
  deriving DecidableEq, Repr

/-- A fenced message waiting for its marks (R190). -/
structure FencedMsg where
  /-- Number that its marks carry. -/
  id : Nat
  /-- The message. -/
  pkt : Packet
  /-- Marks not yet answered. -/
  marks : Nat
  /-- First non-OK status. -/
  mstat : Nat := 0
  /-- Fault source whose IRQ reaction it is, for absorption (R477). -/
  faultSrc : Option Nat := none
  deriving DecidableEq, Repr

/-- Where a packet that waits at an NI comes from. -/
inductive OutKind where
  /-- A non-posted request in its staging slot, or a fence mark (R178, R190). -/
  | request
  /-- A RETRY reissue of this tag (R181). -/
  | reissue (tag : Nat)
  /-- A closed write-combining entry (R176). -/
  | posted
  /-- A response of this NI as target. -/
  | response
  /-- A message of the unit. -/
  | message
  /-- A message the NI generates itself (R12). -/
  | own
  /-- A fenced message that its unit presents (R190); `fence` holds the fault source whose IRQ reaction it is. -/
  | fencedMsg
  /-- Marks that a unit asks for to learn that its writes have been performed (R29, R297): its payload lists destination and
  class. -/
  | marks
  deriving DecidableEq, Repr

/-- A packet waiting at an NI to be injected. -/
structure Out where
  /-- The packet. -/
  pkt : Packet
  /-- Its kind. -/
  kind : OutKind
  /-- Mark of this fenced message. -/
  fence : Option Nat := none
  /-- It was eligible and not granted in the last cycle (R147). -/
  waited : Bool := false
  deriving DecidableEq, Repr

/-- Pending change of a replica (R443). -/
inductive TimeChange where
  /-- The instant that the TTU's master holds in the cycle in which the strobe arrives. -/
  | load
  /-- A signed count is added. -/
  | add (count : Int)
  deriving DecidableEq, Repr

/-- A timed message in the hold store or released from it (R186). -/
structure Released where
  /-- The message. -/
  pkt : Packet
  /-- Marked late. -/
  late : Bool
  deriving DecidableEq, Repr

/-- One network interface (R175 to R197). -/
structure Ni where
  /-- Ejection buffers per VC. -/
  ej : Tbl (List Flit) := []
  /-- Flits of the packet that the NI is taking from an ejection buffer, or has taken and not acted on, per VC. -/
  taken : Tbl (List Flit) := []
  /-- VCs of the whole REQ packets that have arrived and not been acted on, in order of arrival (R28). -/
  arrivals : List Nat := []
  /-- Credits spent per VC into the router's local input. -/
  used : Tbl Nat := []
  /-- Body flits of packets whose head has been injected, per VC. -/
  rest : Tbl (List Flit) := []
  /-- The packet whose body flits are in `rest`, per VC. -/
  under : Tbl Out := []
  /-- The link direction into this NI is stopped (R135). -/
  stopped : Bool := false
  /-- Posted writes and requests that the unit presents and the NI has not taken, in order (R176, R179). -/
  atUnit : List Out := []
  /-- Packets waiting, in their order of arrival. -/
  out : List Out := []
  /-- Partition pointer (R155). -/
  pptr : Nat := 0
  /-- VC pointer (R155). -/
  vptr : Nat := 0
  /-- Write-combining entries, in the order of their first write. -/
  wcb : List WcbEntry := []
  /-- Tags in use. -/
  tags : Tbl Tag := []
  /-- Order given to the next tag. -/
  order : Nat := 0
  /-- Responses held for issue order (R175), keyed by order. -/
  respHeld : Tbl Delivered := []
  /-- Responses for the unit's own engine, oldest first, until it takes them (HP NIs, R325). -/
  answers : List Delivered := []
  /-- The last response delivered to the unit. -/
  delivered : Option Delivered := none
  /-- Fence sets: 4·destination + class of posted writes since the last fenced message (R190). -/
  fenceSet : Tbl Bool := []
  /-- The last mark status other than OK reported to the unit: partition and STATUS (R190). -/
  markReport : Option (Nat × Nat) := none
  /-- Number of the next fenced message. -/
  fenceId : Nat := 0
  /-- Fenced messages waiting for their marks. -/
  fenced : List FencedMsg := []
  /-- Flits sent per 256·destination + queue (queue 0xFE is the hold store), cumulative mod 256 (R184). -/
  sent : Tbl Nat := []
  /-- Freed counts heard per 256·destination + queue. -/
  freed : Tbl Nat := []
  /-- Freed counts owed per 256·source + queue, as a destination. -/
  freedHere : Tbl Nat := []
  /-- Counts changed and not yet returned, 256·source + queue. -/
  owed : Tbl Bool := []
  /-- Counts returned once and to be repeated. -/
  again : Tbl Bool := []
  /-- Message queues MQ 0 to 3. -/
  mq : Tbl (List Packet) := []
  /-- Hold store, in order of arrival; marked late when a release cycle passed it over. -/
  hold : List Released := []
  /-- Released timed messages waiting at the unit, oldest first. -/
  released : List Released := []
  /-- Replica count less the FCLK edge count (R186). -/
  offset : Int := 0
  /-- Change that waits for the strobe. -/
  change : Option TimeChange := none
  /-- LOADED of REPLICA_STATUS. -/
  loaded : Bool := false
  /-- NOT_IN_STEP. -/
  outOfStep : Bool := false
  /-- Last error e of R188. -/
  lastE : Int := 0
  /-- Tokens missing from a full bucket, keyed by 4·partition + class, and 64 for the T aggregate (R159). -/
  spent : Tbl Nat := []
  /-- Statistics registers, keyed by their offset in the NI block (R102, R167, R192). -/
  regs : Tbl Nat := []
  deriving DecidableEq, Repr

/-- One probe (R499 to R514). -/
structure Probe where
  /-- 0 IDLE, 1 ARMED, 2 RUNNING, 3 STOPPED. -/
  state : Nat := 0
  /-- VALID. -/
  valid : Bool := false
  /-- Packets. -/
  packets : Nat := 0
  /-- Flits. -/
  flits : Nat := 0
  /-- Records. -/
  records : Nat := 0
  /-- Records lost. -/
  lost : Nat := 0
  /-- Rate LAST. -/
  last : Nat := 0
  /-- Rate PEAK. -/
  peak : Nat := 0
  /-- Flits matched in the interval in progress. -/
  interval : Nat := 0
  /-- Packets matched since it entered RUNNING, for the sample divider. -/
  matched : Nat := 0
  /-- Records produced since it entered RUNNING, for stop mode 1. -/
  produced : Nat := 0
  /-- The next stored record carries LOST. -/
  lostFlag : Bool := false
  /-- The event of start mode 2 or 3 has occurred since the ARM. -/
  startSeen : Bool := false
  /-- The event of stop mode 3 or 4 has occurred; for an ARMED probe, at the edge `stopAt`. -/
  stopSeen : Bool := false
  /-- The FCLK edge at which the event of start mode 2 or 3 occurred (R508). -/
  startAt : Nat := 0
  /-- The FCLK edge at which an ARMED probe last saw its stop event, or a RUNNING one its first (R508). -/
  stopAt : Nat := 0
  deriving DecidableEq, Repr

/-- One trace FIFO (R503 to R506). -/
structure TraceFifo where
  /-- Records, oldest first. -/
  recs : List Bytes := []
  /-- Records lost, 0x2F08 + f:04. -/
  lost : Nat := 0
  /-- FCLK edge of the newest records, and how many were stored at it. -/
  lastEdge : Nat := 0
  /-- Records stored at that edge. -/
  atEdge : Nat := 0
  deriving DecidableEq, Repr

/-- The probe unit. -/
structure Probes where
  /-- Probes. -/
  probe : Tbl Probe := []
  /-- Trace FIFOs. -/
  fifo : Tbl TraceFifo := []
  deriving DecidableEq, Repr

/-- DDR5 decode (R103 to R105): the interleave set and what training found. -/
structure Ddr where
  /-- Interleave set, a bit per channel. -/
  set : Nat := 0
  /-- Capacities of channels 0 to 7 in GiB as the decode uses them. -/
  caps : Tbl Nat := []
  /-- Interleave granularity in bytes as the decode uses it. -/
  gran : Nat := 1024
  /-- Channels whose most recent training passed. -/
  trained : Nat := 0
  /-- Channels that failed training at the last boot or power-up (0x24E1:06). -/
  failed : Nat := 0
  deriving DecidableEq, Repr

/-- Addresses of main memory whose contents are undefined (R105, R260): from `lo` to `hi`, of one channel where `chan` gives the
interleave and its number. -/
structure Undef where
  /-- First address. -/
  lo : Nat
  /-- Last address. -/
  hi : Nat
  /-- The number of the event that made them undefined. -/
  stamp : Nat
  /-- The interleave in force then, and the channel. -/
  chan : Option (Ddr × Nat) := none
  deriving DecidableEq, Repr

/-- A change of memory that a command makes; it is performed at the end of the command. -/
inductive MemOp where
  | write (addr : Nat) (data : Bytes)
  /-- Bytes hold undefined contents again. -/
  | forget (r : Undef)
  deriving DecidableEq, Repr

/-- One clock domain (R230 to R247). -/
structure Domain where
  /-- RUNNING. -/
  running : Bool := false
  /-- LOCKED. -/
  locked : Bool := false
  /-- POWER_OFF. -/
  powerOff : Bool := false
  /-- CAPTURING. -/
  capturing : Bool := false
  /-- Measured frequency in kHz, 0x2502. -/
  freq : Nat := 0
  /-- The clock has run since the measurement period began (R244). -/
  whole : Bool := false
  /-- Clock losses, 0x2503. -/
  losses : Nat := 0
  /-- Capture restarts, 0x2504. -/
  restarts : Nat := 0
  /-- Longest capture in ns, 0x2505. -/
  longest : Nat := 0
  /-- Version captured, 0x2003. -/
  version : Nat := 0
  /-- Epoch captured. -/
  epoch : Nat := 0
  /-- The local shadow (R23). -/
  shadow : Cfg := []
  deriving DecidableEq, Repr


/-- A burst that a master has presented to the peripheral matrix (R200, R201). -/
structure MxAccess where
  /-- Write. -/
  write : Bool
  /-- Peripheral address of the first byte. -/
  addr : Nat
  /-- Bytes. -/
  len : Nat
  /-- Write data. -/
  data : Bytes
  /-- Exclusive or locked sequence. -/
  excl : Bool
  /-- Beats granted so far. -/
  granted : Nat := 0
  /-- Target port of the last beat granted. -/
  port : Nat := 11
  /-- A piece is complete at its target and its response is on its way. -/
  waiting : Bool := false
  /-- Response code so far: the first that is not MX_DONE. -/
  resp : Nat := 0
  /-- Read data so far. -/
  got : Bytes := []
  deriving DecidableEq, Repr

/-- Response and data of a finished matrix access. -/
structure MxAnswer where
  /-- 0 MX_DONE, 1 MX_FAIL, 2 MX_NOTGT, 3 MX_NOLOCK. -/
  resp : Nat
  /-- Read data. -/
  data : Bytes
  deriving DecidableEq, Repr

/-- The peripheral matrix (R198 to R208). Masters: 0 LKC, 1 LDMA, 2 FBR, 3 DBG. -/
structure Matrix where
  /-- REMAP. -/
  remap : Bool := false
  /-- Outstanding access per master. -/
  acc : Tbl MxAccess := []
  /-- Last answer per master. -/
  answer : Tbl MxAnswer := []
  /-- Round-robin pointer per target. -/
  ptr : Tbl Nat := []
  /-- Master whose piece is open, per target. -/
  openBy : Tbl Nat := []
  /-- Parked on LKC (R203). -/
  parked : Bool := true
  /-- DBG's access is held in the sealed window (R206). -/
  held : Bool := false
  deriving DecidableEq, Repr

/-- A delayed-read entry of the bridge (R209). -/
structure DelayedRead where
  /-- The entry's number. -/
  id : Nat
  /-- The READ: SRC_NI, TAG, PART, ADDR and SIZE are the key. -/
  req : Packet
  /-- The result is stored. -/
  stored : Bool := false
  /-- STATUS of the stored result. -/
  status : Nat := 0
  /-- Stored data. -/
  data : Bytes := []
  deriving DecidableEq, Repr

/-- A 64-byte prefetch line (R213). -/
structure PfLine where
  /-- Address of its first byte. -/
  addr : Nat
  /-- Its bytes. -/
  data : Bytes
  /-- Fetched ahead and not read yet. -/
  unread : Bool
  deriving DecidableEq, Repr

/-- A prefetch stream (R213). -/
structure PfStream where
  /-- Source NI. -/
  src : Nat
  /-- Lines, oldest first. -/
  lines : List PfLine := []
  /-- ADDR of the previous READ. -/
  prev : Option Nat := none
  /-- The last value of d. -/
  d : Option Int := none
  /-- Lines still to be fetched ahead. -/
  ahead : List Nat := []
  deriving DecidableEq, Repr

/-- An access that waits for FBR, in order of arrival (R217). -/
inductive BridgeOp where
  /-- The fetch of a delayed-read entry. -/
  | fetch (id : Nat)
  /-- A prefetchable READ with the lines it misses and those it has. -/
  | demand (req : Packet) (todo : List Nat) (got : List PfLine)
  /-- A write; `buffered` for one in the posted-write buffer. -/
  | write (req : Packet) (buffered : Bool)
  deriving DecidableEq, Repr

/-- What FBR does. -/
inductive FbrJob where
  | idle
  /-- The front access of the order queue. -/
  | front
  /-- A delayed-read fetch whose result will be discarded. -/
  | stale
  /-- A fetch ahead of a line for a source's stream; `keep` unless it was invalidated. -/
  | ahead (src line : Nat) (keep : Bool)
  deriving DecidableEq, Repr

/-- The LK bridge (R209 to R229). -/
structure Bridge where
  /-- Delayed-read entries, oldest first. -/
  entries : List DelayedRead := []
  /-- Number of the next entry. -/
  nextId : Nat := 0
  /-- Prefetch streams, most recently used first. -/
  streams : List PfStream := []
  /-- Accesses that wait, in order of arrival. -/
  order : List BridgeOp := []
  /-- FBR. -/
  job : FbrJob := .idle
  /-- A demand fetch's line was invalidated while running: it is answered and not kept. -/
  drop : Bool := false
  /-- 0x2430:01 to :0A by subindex. -/
  counts : Tbl Nat := []
  /-- 0x2432:01 to :03. -/
  errAddr : Nat := 0
  /-- Source NI of the last posted-write error. -/
  errSrc : Nat := 0
  /-- Response of the last posted-write error. -/
  errResp : Nat := 0
  /-- Interrupt lines that have interrupted LKC, a bit per line (R221). -/
  irq : Nat := 0
  deriving DecidableEq, Repr

/-- A queue context as its SE keeps it (R282). -/
structure Queue where
  /-- RING_BASE. -/
  base : Nat
  /-- LOG2. -/
  log2 : Nat
  /-- KIND: 0 command, 1 completion, 2 stream, 3 network, 4 operator. -/
  kind : Nat
  /-- CLASS: 1 P, 2 B, 3 S. -/
  cls : Nat
  /-- STATE: 1 enabled, 2 destroying, 3 error. -/
  state : Nat := 1
  /-- ADMIN. -/
  admin : Bool := false
  /-- PART. -/
  part : Nat
  /-- PI. -/
  pi : Nat := 0
  /-- CI. -/
  ci : Nat := 0
  /-- CQ. -/
  cq : Nat := 0xFFFF
  /-- LIMIT. -/
  limit : Nat := 1
  /-- VECTOR. -/
  vector : Nat := 0xFFFF
  /-- MCOUNT. -/
  mcount : Nat := 0
  /-- PHASE. -/
  phase : Bool := true
  /-- MTIME. -/
  mtime : Nat := 0
  /-- UNSIG. -/
  unsig : Nat := 0
  /-- KPARAM, 32 bytes. -/
  kparam : Bytes := []
  deriving DecidableEq, Repr

/-- Where a command of a queue stands (R295 to R297). -/
inductive CmdSt where
  | fetched
  /-- Started, holding a slot; its effect has not happened yet. -/
  | running
  /-- Its effect is under way: it waits for an answer, a time or an event. -/
  | waiting
  /-- Ended; its completion is not written yet. -/
  | done
  deriving DecidableEq, Repr

/-- A command or work entry that an SE has fetched (R293, R395). -/
structure Cmd where
  /-- Queue. -/
  q : Nat
  /-- Ring index of its first entry. -/
  index : Nat
  /-- Its bytes, 64 or 256. -/
  bytes : Bytes
  /-- State. -/
  st : CmdSt := .fetched
  /-- STATUS. -/
  status : Nat := 0
  /-- DETAIL. -/
  detail : Nat := 0
  /-- RESULT. -/
  result : Nat := 0
  /-- LATE. -/
  late : Bool := false
  /-- Destinations and classes of the posted writes it has issued, as pairs of bytes: its completion waits for their marks
  (R297). -/
  wrote : Bytes := []
  /-- Answers it waits for (FLUSH). -/
  need : Nat := 0
  /-- OPCODE of its completion. -/
  cop : Nat
  /-- Its descriptor has been delivered to an OP unit (R416). -/
  delivered : Bool := false
  deriving DecidableEq, Repr

/-- A completion that waits for space (R303): a record's, or one of a command that the SE writes for a unit. -/
structure Cpl where
  /-- QUEUE. -/
  q : Nat
  /-- INDEX. -/
  index : Nat
  /-- STATUS. -/
  status : Nat
  /-- DETAIL. -/
  detail : Nat
  /-- OPCODE. -/
  op : Nat
  /-- LATE. -/
  late : Bool
  /-- IRQ requested. -/
  irq : Bool
  /-- USER_TAG. -/
  tag : Nat
  /-- RESULT. -/
  result : Nat
  /-- Destinations and classes of the SE's own data writes, whose marks come first (R29). -/
  wrote : Bytes := []
  deriving DecidableEq, Repr

/-- An interrupt of a completion queue whose message waits for its marks (R304). -/
structure CqSig where
  /-- UNSIG at the decision. -/
  count : Nat
  /-- A further interrupt follows. -/
  again : Bool := false
  deriving DecidableEq, Repr

/-- One stream engine. -/
structure Se where
  /-- Commands fetched and not completed, in the order of fetching. -/
  cmds : List Cmd := []
  /-- Completions of records that wait for space. -/
  held : List Cpl := []
  /-- Position in the weighted round-robin of 4 P, 2 B, 1 S. -/
  wpos : Nat := 0
  /-- Queue pointer per class. -/
  ptr : Tbl Nat := []
  /-- 0x2740 + n:03 to :07. -/
  counts : Tbl Nat := []
  deriving DecidableEq, Repr

/-- The queues and their engines (R278 to R316). -/
structure Queues where
  /-- Existing queues. -/
  q : Tbl Queue := []
  /-- Engines. -/
  se : Tbl Se := []
  /-- Interrupts under way per completion queue. -/
  sig : Tbl CqSig := []
  deriving DecidableEq, Repr

/-- A pending doorbell in an HP NI's coalescing store (R290). -/
structure Bell where
  /-- Queue. -/
  q : Nat
  /-- Index. -/
  index : Nat
  /-- Its notice waits for its marks. -/
  sent : Bool := false
  deriving DecidableEq, Repr

/-- A doorbell held at the link (R290). -/
structure StuckBell where
  /-- Function. -/
  f : Nat
  /-- The 8 bytes written. -/
  value : Nat
  /-- Every byte enable is on. -/
  full : Bool
  deriving DecidableEq, Repr

/-- A 256-byte window prefetch line of a function (R327). -/
structure WinLine where
  /-- Fabric address of its first byte. -/
  addr : Nat
  /-- Its bytes. -/
  data : Bytes
  deriving DecidableEq, Repr

/-- An MSI-X table entry with its pending bit (R321, R340). -/
structure MsixEntry where
  /-- Message address. -/
  addr : Nat := 0
  /-- Message data. -/
  data : Nat := 0
  /-- Vector control, bit 0 the mask. -/
  ctl : Nat := 1
  /-- Pending bit. -/
  pending : Bool := false
  /-- A mailbox interrupt is among what is pending (R255). -/
  box : Bool := false
  deriving DecidableEq, Repr

/-- What belongs to one PCIe function (R319 to R328, R340). -/
structure Fn where
  /-- Bus Master Enable. -/
  bme : Bool := false
  /-- MSI-X Enable. -/
  msixEnable : Bool := false
  /-- MSI-X function mask. -/
  mask : Bool := false
  /-- An FLR is under way (R342). -/
  flr : Bool := false
  /-- MSI-X table and PBA. -/
  table : Tbl MsixEntry := []
  /-- WINDOW_BASE as the last accepted write set it. -/
  window : Nat := 0
  /-- WIN_REFUSED. -/
  refused : Nat := 0
  /-- WIN_REFUSED_ADDR. -/
  refusedAddr : Nat := 0
  /-- Window prefetch lines, least recently used first. -/
  lines : List WinLine := []
  /-- Address at which the previous BAR2 read ended. -/
  prevEnd : Option Nat := none
  deriving DecidableEq, Repr

/-- What HP0 keeps of a requester's most recent admission write (R333). -/
structure AdmStatus where
  /-- REGION. -/
  region : Nat
  /-- Refused. -/
  refused : Bool
  deriving DecidableEq, Repr

/-- An outbound read at the PCIe core (R338, R339). -/
structure OutRead where
  /-- Endpoint tag. -/
  tag : Nat
  /-- HP NI. -/
  hp : Nat
  /-- The request. -/
  req : Packet
  deriving DecidableEq, Repr

/-- A posted write handed to the PCIe core: requester function, PCIe address, data. -/
structure PcieWrite where
  /-- Requester function. -/
  fn : Nat
  /-- PCIe address. -/
  addr : Nat
  /-- Data. -/
  data : Bytes
  /-- No Snoop. -/
  noSnoop : Bool := false
  deriving DecidableEq, Repr

/-- An inbound window read being carried out (R325, R327). -/
structure InRead where
  /-- Key that its requests carry. -/
  key : Nat
  /-- Function. -/
  f : Nat
  /-- Fabric address of its first byte. -/
  addr : Nat
  /-- Bytes it returns. -/
  len : Nat
  /-- Addresses and lengths of the blocks it reads. -/
  blocks : List (Nat × Nat)
  /-- A completion is owed; none for blocks fetched ahead. -/
  reply : Bool
  /-- Sound blocks are kept in prefetch lines. -/
  keep : Bool
  /-- Answers by block address: status and data. -/
  got : Tbl (Nat × Bytes) := []
  deriving DecidableEq, Repr

/-- The PCI Express endpoint and the HP NIs (R317 to R351). -/
structure HostPort where
  /-- Functions. -/
  fn : Tbl Fn := []
  /-- VF Enable. -/
  vfEnable : Bool := false
  /-- NumVFs. -/
  numVfs : Nat := 0
  /-- Coalescing stores per HP. -/
  bells : Tbl (List Bell) := []
  /-- A doorbell that a full store holds at the link of an HP (R290): function, value and whether every byte enable is on. -/
  stuck : Tbl StuckBell := []
  /-- 0x2748 counters by subindex. -/
  bellCounts : Tbl Nat := []
  /-- Admissions: requester ID and region, in order of admission. -/
  admissions : List (Nat × Nat) := []
  /-- Most recent admission write per requester ID. -/
  admStatus : Tbl AdmStatus := []
  /-- Inbound reads being carried out, and blocks fetched ahead, oldest first. -/
  inbound : List InRead := []
  /-- Placement flush reads: the number of their marks and the bytes they return (R336). -/
  flushReads : List (Nat × Nat) := []
  /-- Key of the next inbound read. -/
  nextKey : Nat := 3
  /-- Destinations and classes that placement writes have gone to since the last flush read (R336). -/
  placedTo : Tbl Bool := []
  /-- Outbound reads in flight. -/
  reads : List OutRead := []
  /-- The last posted write handed to the PCIe core. -/
  lastWrite : Option PcieWrite := none
  /-- What the last inbound read was completed with: 0 data, 1 Completer Abort, 2 Unsupported Request; EP; data. -/
  lastRead : Option (Nat × Bool × Bytes) := none
  /-- 0x2840 + n:01 to :05, keyed by 8·n + subindex. -/
  counts : Tbl Nat := []
  /-- 0x2850:01. -/
  placed : Nat := 0
  /-- 0x2850:02. -/
  dropped : Nat := 0
  /-- 0x2851:01 to :04. -/
  lastDrop : Tbl Nat := []
  /-- 0x3000 + n:08 by region. -/
  regionDrops : Tbl Nat := []
  /-- Aperture size in GiB latched at the last fundamental reset (R331). -/
  aperture : Nat := 16
  /-- Subsystem IDs and class code latched at the last fundamental reset (R320). -/
  ids : Tbl Nat := []
  /-- 0x2800:03. -/
  linkRate : Nat := 0
  /-- 0x2800:04. -/
  linkWidth : Nat := 0
  deriving DecidableEq, Repr

/-- One converter lane (R374). -/
structure Lane where
  /-- 0x2A00 + l:06. -/
  state : Nat := 0
  /-- CRC-12 errors. -/
  crc : Nat := 0
  /-- Invalid sync headers. -/
  badSync : Nat := 0
  /-- Lock losses. -/
  losses : Nat := 0
  /-- Arrival. -/
  arrival : Nat := 0xFFFF
  /-- Last cause. -/
  cause : Nat := 0
  deriving DecidableEq, Repr

/-- One frame in the sample history (R360, R367): sample time in 2⁻¹⁶ ns, and its bytes. -/
structure HistFrame where
  /-- Time. -/
  time : Int
  /-- Bytes in the memory layout. -/
  bytes : Bytes
  /-- A CRC-12 error lies in it. -/
  crc : Bool := false
  deriving DecidableEq, Repr

/-- One converter link (R355 to R374). -/
structure Link where
  /-- 0x2A40 + k:11. -/
  rx : Nat := 0
  /-- 0x2A40 + k:12. -/
  tx : Nat := 0
  /-- The LEMC has been started by a SYSREF edge. -/
  lemc : Bool := false
  /-- Cause 0x05 has been raised in this EMB_LOCK. -/
  condRaised : Bool := false
  /-- 0x2A40 + k:13 to :17 by subindex. -/
  counts : Tbl Nat := []
  /-- Sample history, oldest first. -/
  history : List HistFrame := []
  /-- The SerDes PLL has locked since the link last started. -/
  pll : Bool := false
  /-- The CDRs of its lanes have locked since then. -/
  cdr : Bool := false
  /-- The sample words of the last frame that entered the serializers; none for differential zero (R355). -/
  out : Option (List Nat) := none
  deriving DecidableEq, Repr

/-- A record that an RX or TX stream works on (R366 to R372). -/
structure Rec where
  /-- Record number. -/
  no : Nat
  /-- Slot index; none while its frames are discarded (R368). -/
  slot : Option Nat
  /-- Sample bytes done: collected (RX) or played (TX). -/
  done : Nat := 0
  /-- Bytes collected that do not fill a 64-byte block yet (RX), as R361 writes whole blocks. -/
  buf : Bytes := []
  /-- Bytes of the slot read so far (TX). -/
  got : Nat := 0
  /-- Record-end messages that its completion needs. -/
  need : Nat := 0
  /-- Time of the first sample. -/
  first : Int := 0
  /-- Frame index of the trigger. -/
  trig : Nat := 0xFFFFFFFF
  /-- RESULT bits [28:24]. -/
  flags : Nat := 0
  /-- LATE. -/
  late : Bool := false
  /-- STATUS. -/
  status : Nat := 0
  /-- DETAIL. -/
  detail : Nat := 0
  /-- Record-end messages that have arrived. -/
  ends : Nat := 0
  /-- CPs that have sent their record-end message, a bit per lane. -/
  sentBy : Nat := 0
  deriving DecidableEq, Repr

/-- A stream of a stream queue (R302, R365 to R373, R506). -/
structure Stream where
  /-- Link, or 0x80 for the PRB. -/
  src : Nat
  /-- Transmit. -/
  tx : Bool
  /-- Armed. -/
  armed : Bool := false
  /-- A TX stream waits for its first prefetch. -/
  arming : Bool := false
  /-- Start mode. -/
  mode : Nat := 0
  /-- Records to run, 0 without limit. -/
  limit : Nat := 0
  /-- Started. -/
  started : Bool := false
  /-- Time from which it starts, once a timed or trigger start has come. -/
  startAt : Option Int := none
  /-- The start was released late. -/
  startLate : Bool := false
  /-- It stops at the end of the record. -/
  stopAtEnd : Bool := false
  /-- Number of the next record. -/
  next : Nat := 0
  /-- Slots that the SE has handed since the last idle state and that have not been freed. -/
  given : Nat := 0
  /-- Ring indices of slots handed and not used yet, in ring order. -/
  slots : List Nat := []
  /-- The record in progress. -/
  cur : Option Rec := none
  /-- A trigger that waits for its frame. -/
  trigAt : Option Int := none
  /-- Records ended whose completion is not written, oldest first. -/
  ended : List Rec := []
  /-- Transmit records whose slots are being read or played, oldest first. -/
  playing : List Rec := []
  /-- Bytes read and not played yet; none for a byte whose read failed (R372). -/
  play : List (Option Byte) := []
  /-- FIFO of a trace queue. -/
  fifo : Nat := 0
  /-- Lost count of the FIFO when the record began. -/
  lostAt : Nat := 0
  /-- A piece of a transmit record that is being read: record number, first byte, and bytes. -/
  fetch : Option (Nat × Nat × Nat) := none
  /-- Wall-clock edge of the last stop order (R305). -/
  stoppedAt : Option Nat := none
  /-- The STREAM_ARM that armed it: queue, ring index, wall-clock edge (R305). -/
  armedBy : Option (Nat × Nat × Nat) := none
  deriving DecidableEq, Repr

/-- The converter ports (R352 to R382). -/
structure Conv where
  /-- Lanes. -/
  lane : Tbl Lane := []
  /-- Links. -/
  link : Tbl Link := []
  /-- Streams by queue. -/
  stream : Tbl Stream := []
  deriving DecidableEq, Repr

/-- The boot record (R519). -/
structure BootRecord where
  /-- PIN. -/
  pin : Nat := 0xFF
  /-- TRIAL. -/
  trial : Nat := 0xFF
  /-- ATTEMPTS. -/
  attempts : Nat := 0
  /-- Last trial outcome. -/
  outcome : Nat := 0
  deriving DecidableEq, Repr

/-- The OTP fuses (R517, R525): what the part was given in the factory. -/
structure Otp where
  /-- Key hashes programmed, by key index. -/
  keys : Tbl Bytes := []
  /-- Revoke bits. -/
  revoked : Nat := 0
  /-- Factory test mode is enabled (R198). -/
  testOn : Bool := false
  deriving DecidableEq, Repr

/-- The QSPI flash (R515): what the device has there. -/
structure Flash where
  /-- Firmware slots 0 A and 1 B, as bytes from the slot's start; an erased slot is absent. -/
  firmware : Tbl Bytes := []
  /-- Configuration slots 0 A and 1 B (R51). -/
  config : Tbl Bytes := []
  /-- Boot record copies with their sequence; a copy that is not valid is absent. -/
  record : Tbl (Nat × BootRecord) := []
  deriving DecidableEq, Repr

/-- Boot and firmware (R515 to R533). -/
structure Boot where
  /-- Safe-harbour mode. -/
  safeHarbour : Bool := false
  /-- The lockkeeper firmware runs. -/
  firmware : Bool := false
  /-- The boot has ended: configuration requests of PF0 are answered normally (R521). -/
  ended : Bool := false
  /-- Running slot, 0x1F57:03. -/
  running : Nat := 0xFF
  /-- The start in progress is one under R522. -/
  warm : Bool := false
  /-- A trial runs that has not been confirmed. -/
  trying : Bool := false
  /-- Update state, 0x1F51:02. -/
  update : Nat := 0
  /-- Bytes received, 0x1F51:03. -/
  received : Nat := 0
  /-- Update path, 0x1F51:04. -/
  path : Nat := 0xFF
  /-- Target slot, 0x1F51:05. -/
  target : Nat := 0xFF
  /-- Last failure, 0x1F51:06. -/
  failure : Nat := 0
  /-- Receive buffer: bytes taken and not programmed yet (R527). -/
  buffer : Bytes := []
  /-- A RESTART waits for its 100 ms. -/
  restart : Bool := false
  deriving DecidableEq, Repr

/-- A message of a send queue on its way (R398). -/
structure OutMsg where
  /-- Ring index of its entry. -/
  index : Nat
  /-- First PSN. -/
  first : Nat
  /-- Last PSN. -/
  last : Nat
  /-- The work entry's opcode: 1 SEND, 2 RDMA_WRITE, 3 RDMA_WRITE_IMM. -/
  op : Nat
  /-- The data read. -/
  data : Bytes
  /-- Remote VA. -/
  va : Nat
  /-- R_Key. -/
  rkey : Nat
  /-- Immediate. -/
  imm : Nat
  deriving DecidableEq, Repr

/-- A message that a queue pair is receiving (R399 to R401). -/
structure RxMsg where
  /-- An RDMA WRITE; else a SEND. -/
  write : Bool
  /-- VA of the RETH. -/
  va : Nat := 0
  /-- R_Key. -/
  rkey : Nat := 0
  /-- DMA length. -/
  dlen : Nat := 0
  /-- Bytes received so far. -/
  off : Nat := 0
  /-- Ring index of the RECV entry that a SEND fills. -/
  recv : Nat := 0
  /-- The region of an RDMA WRITE has changed since its first packet (R408). -/
  stale : Bool := false
  deriving DecidableEq, Repr

/-- A queue pair (R393 to R399). -/
structure Qp where
  /-- 0 RESET, 1 READY, 2 ERROR. -/
  state : Nat := 0
  /-- Bytes 9 to 55 of the QP_MODIFY that made it READY (R396). -/
  attrs : Bytes := []
  /-- PSN of the next packet sent. -/
  sqPsn : Nat := 0
  /-- PSN expected next. -/
  rqPsn : Nat := 0
  /-- Transport retries left. -/
  retries : Nat := 0
  /-- RNR retries left. -/
  rnrs : Nat := 0
  /-- PSN named by an RNR NAK whose delay runs. -/
  rnrAt : Option Nat := none
  /-- Messages sent and not acknowledged, oldest first. -/
  msgs : List OutMsg := []
  /-- A NAK PSN Sequence Error has been sent for the expected PSN. -/
  nak : Bool := false
  /-- The message being received. -/
  rx : Option RxMsg := none
  /-- Packets accepted since the last ACK. -/
  unacked : Nat := 0
  deriving DecidableEq, Repr

/-- A RoCEv2 packet that a port sends, by its transport fields; addresses follow from the QP's attributes (R396). -/
structure RocePkt where
  /-- QP. -/
  qp : Nat
  /-- BTH opcode. -/
  op : Nat
  /-- PSN. -/
  psn : Nat
  /-- Payload. -/
  data : Bytes := []
  /-- RETH: VA, R_Key, DMA length; none where the packet has none. -/
  reth : Option (Nat × Nat × Nat) := none
  /-- Immediate. -/
  imm : Option Nat := none
  /-- AETH syndrome. -/
  syndrome : Option Nat := none
  deriving DecidableEq, Repr

/-- What a port has sent. -/
inductive EthFrame where
  | roce (p : RocePkt)
  /-- A raw datagram, destination MAC to the end of the payload. -/
  | raw (bs : Bytes)
  /-- A frame of the firmware (PTP or ESMC). -/
  | firmware (bs : Bytes)
  /-- A PFC frame for a set of priorities: XOFF or XON. -/
  | pfc (prios : Nat) (xoff : Bool)
  deriving DecidableEq, Repr

/-- An entry of the two-step timestamp FIFO (R391). -/
structure TwoStep where
  /-- messageType. -/
  ty : Nat
  /-- domainNumber. -/
  dom : Nat
  /-- sequenceId. -/
  seqId : Nat
  /-- Egress timestamp in 2⁻¹⁶ ns. -/
  stamp : Int
  /-- The timestamp is valid (R388). -/
  valid : Bool
  deriving DecidableEq, Repr

/-- A PTP or ESMC frame for the firmware (R386, R389). -/
structure FwFrame where
  /-- The frame. -/
  frame : Bytes
  /-- Ingress timestamp in 2⁻¹⁶ ns. -/
  stamp : Int
  /-- The timestamp is valid. -/
  valid : Bool
  deriving DecidableEq, Repr

/-- One Ethernet port (R383 to R414). -/
structure EthPort where
  /-- 0x2B60 + p:01. -/
  link : Nat := 0
  /-- 0x2B60 + p:02 to :12 by subindex. -/
  counts : Tbl Nat := []
  /-- Quanta of priorities that a received PFC XOFF stops. -/
  paused : Tbl Nat := []
  /-- The port has sent XOFF. -/
  xoff : Bool := false
  /-- Frames that wait because their priority is paused, with the priority, oldest first (R387). -/
  held : List (Nat × EthFrame) := []
  /-- RoCEv2 frames in the receive buffer, oldest first. -/
  buf : List Bytes := []
  /-- Two-step timestamp FIFO. -/
  fifo : List TwoStep := []
  /-- Frames for the firmware, oldest first. -/
  toFw : List FwFrame := []
  /-- The last frame sent. -/
  sent : Option EthFrame := none
  deriving DecidableEq, Repr

/-- Progress of a raw send queue (R403). -/
structure RawSend where
  /-- Datagram sequence. -/
  seqNo : Nat := 0
  /-- Bytes of the entry in progress sent so far. -/
  off : Nat := 0
  deriving DecidableEq, Repr

/-- The Ethernet ports (R383 to R414). -/
structure Eth where
  /-- Ports. -/
  port : Tbl EthPort := []
  /-- Queue pairs that exist and have left RESET. -/
  qp : Tbl Qp := []
  /-- Raw send queues by queue number. -/
  raw : Tbl RawSend := []
  deriving DecidableEq, Repr

/-- A descriptor delivered to an OP unit (R416). -/
structure Job where
  /-- Queue. -/
  q : Nat
  /-- Ring index. -/
  index : Nat
  /-- Partition. -/
  part : Nat
  /-- The 96-byte descriptor. -/
  desc : Bytes
  deriving DecidableEq, Repr

/-- A descriptor that a unit has started and not reported yet, with its outcome so far (R421). -/
structure Ran where
  /-- The descriptor. -/
  job : Job
  /-- Its reads are answered and its outputs written; until then it waits for its reads. -/
  ended : Bool := true
  /-- STATUS. -/
  status : Nat := 0
  /-- DETAIL. -/
  detail : Nat := 0
  /-- RESULT. -/
  result : Nat := 0
  deriving DecidableEq, Repr

/-- One OP unit (R415 to R433). -/
structure OpUnit where
  /-- Descriptors delivered and not started, in order of arrival. -/
  store : List Job := []
  /-- The descriptor that the unit has started. -/
  run : Option Ran := none
  /-- Pass values by partition (R424). -/
  pass : Tbl Nat := []
  /-- 0x2C20 + n:03 to :08 by subindex. -/
  counts : Tbl Nat := []
  deriving DecidableEq, Repr

/-- A reference of IREF (R434): codes 0 CLK100, 1 REF_IN, 2 to 5 SyncE EP0 to EP3. -/
structure Reference where
  /-- Edges seen in the last 10 ms, 0x2D02:04. -/
  present : Bool := false
  /-- Qualification progress in ms, 0x2D04. -/
  progress : Nat := 0
  /-- Qualified. -/
  qualified : Bool := false
  /-- Offset against the OCXO in ppb, 0x2D03. -/
  offset : Int := 0
  /-- Milliseconds qualified without interruption, from the end of the last switch on (R438). -/
  held : Nat := 0
  deriving DecidableEq, Repr

/-- What the strobe does to the TTU's master time (R443); times in units of 1/3 ns. -/
inductive MasterChange where
  | none
  /-- The master's distance from twice the FCLK edge count becomes this. -/
  | load (off : Int)
  /-- This is added. -/
  | add (units : Int)
  deriving DecidableEq, Repr

/-- A change of chassis time: the master's, and what each NI is sent (R443). -/
structure TimeReq where
  /-- The master's change. -/
  master : MasterChange := .none
  /-- The replicas' changes by NI. -/
  nis : Tbl TimeChange := []
  deriving DecidableEq, Repr

/-- A pulse that a trigger line is to drive, in fine steps of chassis time (R451, R452). -/
structure Pulse where
  /-- Its first edge. -/
  start : Int
  /-- The latest E of its orders. -/
  last : Int
  /-- Its end. -/
  stop : Int
  /-- The first edge has been driven. -/
  on : Bool := false
  deriving DecidableEq, Repr

/-- One trigger line (R449 to R452). -/
structure TrigLine where
  /-- The output is asserted. -/
  out : Bool := false
  /-- Pulses, in order of their first edge. -/
  pulses : List Pulse := []
  /-- Toggles scheduled, earliest first. -/
  toggles : List Int := []
  /-- 0x2D30 + c:0B, :0D and :0E by subindex. -/
  counts : Tbl Nat := []
  /-- Last input edge in 2⁻¹⁶ ns of chassis time, :0C. -/
  last : Nat := 0
  deriving DecidableEq, Repr

/-- One SYSREF output (R453, R454). -/
structure Sysref where
  /-- The output is high. -/
  high : Bool := false
  /-- Offset of the grid from chassis time in units of 1/3 ns, :06. -/
  offset : Int := 0
  /-- TAI second at which a re-anchoring falls due. -/
  anchorAt : Option Nat := none
  deriving DecidableEq, Repr

/-- Timing, references and triggers (R434 to R469). -/
structure Timing where
  /-- References. -/
  ref : Tbl Reference := []
  /-- OCXO edges are present. -/
  ocxo : Bool := true
  /-- 0x2D03:07. -/
  ocxoOffset : Int := 0
  /-- 0x2D02:01. -/
  selected : Nat := 6
  /-- 0x2D02:02: 0 locked, 1 switching, 2 holdover, 3 unqualified free-run. -/
  state : Nat := 3
  /-- 0x2D02:06. -/
  switches : Nat := 0
  /-- 0x2D02:07. -/
  holdovers : Nat := 0
  /-- Offsets of the selected reference, one per 10 ms, newest first, at most the averaging time (R439). -/
  history : List Int := []
  /-- The correction of holdover: sum and number of the offsets averaged (R439). -/
  correction : Int × Nat := (0, 0)
  /-- Master chassis time in units of 1/3 ns, less twice the FCLK edge count (R441). -/
  master : Int := 0
  /-- 0x2D10:03. -/
  valid : Nat := 0
  /-- 0x2D10:06. -/
  steps : Nat := 0
  /-- 0x2D10:07. -/
  lastStep : Int := 0
  /-- 0x2D10:08. -/
  backlog : Int := 0
  /-- The change that waits for the strobe under way. -/
  pending : Option TimeReq := none
  /-- The changes that wait for the next strobe, taken together. -/
  next : TimeReq := {}
  /-- 0x2D50:03. -/
  reloads : Nat := 0
  /-- 0x2D50:04, by magnitude. -/
  largest : Int := 0
  /-- 0x2D12:07. -/
  ptpState : Nat := 1
  /-- 0x2D12:08. -/
  ptpOffset : Int := 0
  /-- 0x2D12:09. -/
  ptpDelay : Nat := 0
  /-- Consecutive Sync messages within 1 µs in state SLAVE (R446). -/
  ptpGood : Nat := 0
  /-- Trigger lines by code. -/
  line : Tbl TrigLine := []
  /-- SYSREF outputs. -/
  sysref : Tbl Sysref := []
  /-- 0x2D60:05. -/
  role : Nat := 0
  /-- The card is to start an election frame when the line allows (R455, R458). -/
  electing : Bool := false
  /-- The leader is to send a heartbeat as soon as the line allows (R458). -/
  beatDue : Bool := false
  /-- A heartbeat has loaded chassis time since reset (R457). -/
  loaded : Bool := false
  /-- 0x2D60:06. -/
  leader : Nat := 0
  /-- 0x2D60:07. -/
  elections : Nat := 0
  /-- 0x2D60:08. -/
  losses : Nat := 0
  /-- Marker of the last heartbeat sent: TAI seconds and ns. -/
  beat : Nat × Nat := (0, 0)
  /-- Slots of the frame that the card last began on the election line, first slot first; true is released (R455 to R457). -/
  frame : List Bool := []
  deriving DecidableEq, Repr

/-- The device: everything but the queue of waiting commands. -/
structure Dev where
  /-- The wall clock of the model and FCLK. -/
  clock : Clock := {}
  /-- Supplies, pins and reset release. -/
  power : Power := {}
  /-- The next free value (model's own, log entry 5). -/
  free : Nat := 0
  /-- The configuration store. -/
  store : Store := {}
  /-- Function mailboxes by function. -/
  boxes : Tbl Mailbox := []
  /-- The CAN node. -/
  can : Can := {}
  /-- The fault collector. -/
  faults : Faults := {}
  /-- The inhibit monitor. -/
  inhibit : Inhibit := {}
  /-- Temperature monitors. -/
  monitors : Monitors := {}
  /-- Partitions. -/
  parts : Tbl Part := []
  /-- Power domains. -/
  pds : Tbl Pd := []
  /-- Reset records. -/
  resets : Resets := {}
  /-- Routers and links. -/
  net : Net := {}
  /-- Network interfaces. -/
  nis : Tbl Ni := []
  /-- The probe unit. -/
  probes : Probes := {}
  /-- DDR5 interleave. -/
  ddr : Ddr := {}
  /-- Clock domains by code 0x01 to 0x29. -/
  doms : Tbl Domain := []
  /-- The peripheral matrix. -/
  matrix : Matrix := {}
  /-- The LK bridge. -/
  bridge : Bridge := {}
  /-- Queues and stream engines. -/
  queues : Queues := {}
  /-- The PCI Express endpoint. -/
  host : HostPort := {}
  /-- Converter ports. -/
  conv : Conv := {}
  /-- Boot and firmware images. -/
  boot : Boot := {}
  /-- Ethernet ports and queue pairs. -/
  eth : Eth := {}
  /-- OP units by number. -/
  ops : Tbl OpUnit := []
  /-- References, chassis time, triggers, SYSREF and leader election. -/
  timing : Timing := {}
  /-- The QSPI flash. -/
  flash : Flash := {}
  /-- The OTP fuses. -/
  otp : Otp := {}
  /-- Main memory: MSRAM (at its address for REMAP 0), basin and DDR5, as sorted cells that differ from 0. -/
  mem : List Host.Cell := []
  /-- Addresses whose contents are undefined; no cell of `mem` lies in them. -/
  undef : List Undef := []
  /-- Memory changes of the command in progress, newest first; empty between commands. -/
  bus : List MemOp := []
  deriving DecidableEq, Repr

/-- The machine's state: the device and the commands that wait, first in, first out. -/
structure State where
  /-- The device. -/
  dev : Dev
  /-- Commands waiting, oldest first. -/
  pending : List Instr
  deriving DecidableEq, Repr

/-- A fault stops the machine.
No meaning of this model raises one: every command that the spec describes goes on. -/
inductive Fault where
  /-- Reserved for an access to a memory that does not exist; no command raises it. Safe. -/
  | noSuchMemory
  deriving DecidableEq, Repr

/-- Why a command has no meaning. -/
inductive Refusal where
  /-- An instruction of the table whose meaning has not been written; raised by exec's own arms only. Safe. -/
  | notModelled (mnemonic : String)
  /-- The command's operands name nothing that exists (a partition above 15, a byte above 255); raised by every
  meaning whose operands are ill-formed. Safe: nothing outside can send such a command. -/
  | illFormed
  deriving DecidableEq, Repr

/-- Every unit is held in reset and has not captured (R231). -/
def allHeld : Tbl Bool := (List.range 67).map fun u => (u, false)

/-- The device right after the release of the power-on reset (R27, R260), every unit held because no clock runs (R231) and the
contents of memory undefined; log entries name the values the spec leaves open. -/
def Dev.reset : Dev := { resets := { unitHeld := allHeld }, free := 1, undef := [{ lo := 0, hi := 2 ^ 64 - 1, stamp := 0 }] }

/-- The state right after reset: no command waits. -/
def State.reset : State := { dev := Dev.reset, pending := [] }

end Sys2Proof.Machine
end

