-- ==== Sys2Proof/Machine/Ops.lean ====
section
/-! DEFINITION. The shared operations over the device: the shape of a meaning, the update of one part, main memory,
the configuration a domain sees, fault events, ownership and the fence and power checks. -/
namespace Sys2Proof.Machine

/-! Main memory. -/

/-- Channels of the interleave set in ascending order. -/
def Ddr.members (x : Ddr) : List Nat := (List.range 8).filter fun c => bitOf x.set c

/-- C of R103 in bytes: the smallest capacity in the set. -/
def Ddr.smallest (x : Ddr) : Nat :=
  match x.members.map (fun c => x.caps.get 0 c) with
  | [] => 0
  | v :: vs => vs.foldl min v

/-- Bytes in a GiB. -/
def gib : Nat := 1073741824

/-- Channel and channel offset of a DDR address; none where it is unmapped (R103). -/
def Ddr.decode (x : Ddr) (a : Nat) : Option (Nat × Nat) :=
  let p := x.members.length
  let off := a - 0x100000000
  if p = 0 ∨ p * x.smallest * gib ≤ off then none
  else
    let u := off / x.gran
    match x.members[u % p]? with
    | some ch => some (ch, (u / p) * x.gran + off % x.gran)
    | none => none

/-- The byte that a list of cells gives an address; one that nothing has written reads 0. -/
def Mem.read1 (m : List Host.Cell) (a : Nat) : Byte := Tbl.get (byte 0) m a

/-- Memory with one byte written, in canonical form. -/
def Mem.write1 (m : List Host.Cell) (a : Nat) (b : Byte) : List Host.Cell :=
  if b = byte 0 then Tbl.erase m a else Tbl.set m a b

/-- Memory with a string of bytes written upward from `a`. -/
def Mem.writeBytes : List Host.Cell → Nat → Bytes → List Host.Cell
  | m, _, [] => m
  | m, a, b :: bs => Mem.writeBytes (Mem.write1 m a b) (a + 1) bs

/-- Whether an address is among some undefined ones. -/
def Undef.covers (r : Undef) (a : Nat) : Bool :=
  decide (r.lo ≤ a ∧ a ≤ r.hi) && (match r.chan with
    | none => true
    | some (m, c) => (m.decode a).map (·.1) == some c)

/-- Memory with the cells of some addresses taken out. -/
def Mem.forget (m : List Host.Cell) (r : Undef) : List Host.Cell := m.filter fun c => !r.covers c.1

/-- Some undefined addresses less those from `lo` to `hi`. -/
def Undef.cut (lo hi : Nat) (r : Undef) : List Undef :=
  if r.hi < lo ∨ hi < r.lo then [r]
  else (if r.lo < lo then [{ r with hi := lo - 1 }] else []) ++ (if hi < r.hi then [{ r with lo := hi + 1 }] else [])

/-- The byte at an address from the undefined addresses and a reading of the cells: an undefined byte is a free value. -/
def Undef.read (us : List Undef) (f : Nat → Byte) (a : Nat) : Byte :=
  match us.find? fun r => r.covers a with
  | some r => Config.memoryByte r.stamp a
  | none => f a

/-- Memory after one change. -/
def MemOp.apply (m : List Host.Cell) : MemOp → List Host.Cell
  | .write a bs => Mem.writeBytes m a bs
  | .forget r => Mem.forget m r

/-- The undefined addresses after one change: what is written is defined from then on. -/
def MemOp.applyUndef (us : List Undef) : MemOp → List Undef
  | .write a bs => if bs.isEmpty then us else (us.map (Undef.cut a (a + bs.length - 1))).flatten
  | .forget r => r :: us

/-- Memory after the changes of a command, given newest first. -/
def Mem.applyAll (ops : List MemOp) (m : List Host.Cell) : List Host.Cell :=
  ops.foldr (fun op acc => op.apply acc) m

/-- The undefined addresses after the changes of a command, given newest first. -/
def Undef.applyAll (ops : List MemOp) (us : List Undef) : List Undef := ops.foldr (fun op acc => op.applyUndef acc) us

/-- Whether the addresses of a cell list rise strictly. -/
def Mem.sorted : List Host.Cell → Bool
  | [] => true
  | [_] => true
  | a :: b :: t => decide (a.1 < b.1) && Mem.sorted (b :: t)

/-- The canonical form of memory: rising addresses and no cell equal to what an unlisted address reads as. -/
def Memory.wf (m : List Host.Cell) : Bool := Mem.sorted m && m.all fun c => decide (c.2 ≠ byte 0)

/-! The shape of a meaning. -/

/-- The device at the end of a command: the command's memory changes are performed, and the wall clock stands. -/
def settle (old new : Dev) : Dev :=
  { new with
    mem := Mem.applyAll new.bus old.mem
    undef := Undef.applyAll new.bus old.undef
    bus := []
    clock := { new.clock with wall := old.clock.wall } }

/-- A meaning from its operand check and its effect: an ill-formed command is refused by name; a device held in reset
takes no command but those of its supplies and pins (R27, R536). -/
def act (ok : Bool) (f : Dev → Dev) (s : State) : Host.Outcome State Fault Refusal :=
  if ok then
    if s.dev.power.released then .next { s with dev := settle s.dev (f s.dev) } else .next s
  else .refused .illFormed

/-- A meaning that acts whether or not reset has been released: supplies, pins and the reset sequence. -/
def actAlways (ok : Bool) (f : Dev → Dev) (s : State) : Host.Outcome State Fault Refusal :=
  if ok then .next { s with dev := settle s.dev (f s.dev) } else .refused .illFormed

/-- A meaning of the fabric: it acts only while FCLK runs (R27, R143, R230). -/
def actFclk (ok : Bool) (f : Dev → Dev) (s : State) : Host.Outcome State Fault Refusal :=
  act ok (fun d => if d.clock.running then f d else d) s

/-! Update of one part of the device. -/
/-- The device with `f` applied to its part `clock`. -/
def Dev.onClock (f : Clock → Clock) (d : Dev) : Dev := { d with clock := f d.clock }

/-- The device with `f` applied to its part `power`. -/
def Dev.onPower (f : Power → Power) (d : Dev) : Dev := { d with power := f d.power }

/-- The device with `f` applied to its part `free`. -/
def Dev.onFree (f : Nat → Nat) (d : Dev) : Dev := { d with free := f d.free }

/-- The device with `f` applied to its part `store`. -/
def Dev.onStore (f : Store → Store) (d : Dev) : Dev := { d with store := f d.store }

/-- The device with `f` applied to its part `boxes`. -/
def Dev.onBoxes (f : Tbl Mailbox → Tbl Mailbox) (d : Dev) : Dev := { d with boxes := f d.boxes }

/-- The device with `f` applied to its part `can`. -/
def Dev.onCan (f : Can → Can) (d : Dev) : Dev := { d with can := f d.can }

/-- The device with `f` applied to its part `faults`. -/
def Dev.onFaults (f : Faults → Faults) (d : Dev) : Dev := { d with faults := f d.faults }

/-- The device with `f` applied to its part `inhibit`. -/
def Dev.onInhibit (f : Inhibit → Inhibit) (d : Dev) : Dev := { d with inhibit := f d.inhibit }

/-- The device with `f` applied to its part `monitors`. -/
def Dev.onMonitors (f : Monitors → Monitors) (d : Dev) : Dev := { d with monitors := f d.monitors }

/-- The device with `f` applied to its part `parts`. -/
def Dev.onParts (f : Tbl Part → Tbl Part) (d : Dev) : Dev := { d with parts := f d.parts }

/-- The device with `f` applied to its part `pds`. -/
def Dev.onPds (f : Tbl Pd → Tbl Pd) (d : Dev) : Dev := { d with pds := f d.pds }

/-- The device with `f` applied to its part `resets`. -/
def Dev.onResets (f : Resets → Resets) (d : Dev) : Dev := { d with resets := f d.resets }

/-- The device with `f` applied to its part `net`. -/
def Dev.onNet (f : Net → Net) (d : Dev) : Dev := { d with net := f d.net }

/-- The device with `f` applied to its part `nis`. -/
def Dev.onNis (f : Tbl Ni → Tbl Ni) (d : Dev) : Dev := { d with nis := f d.nis }

/-- The device with `f` applied to its part `probes`. -/
def Dev.onProbes (f : Probes → Probes) (d : Dev) : Dev := { d with probes := f d.probes }

/-- The device with `f` applied to its part `ddr`. -/
def Dev.onDdr (f : Ddr → Ddr) (d : Dev) : Dev := { d with ddr := f d.ddr }

/-- The device with `f` applied to its part `doms`. -/
def Dev.onDoms (f : Tbl Domain → Tbl Domain) (d : Dev) : Dev := { d with doms := f d.doms }

/-- The device with `f` applied to its part `matrix`. -/
def Dev.onMatrix (f : Matrix → Matrix) (d : Dev) : Dev := { d with matrix := f d.matrix }

/-- The device with `f` applied to its part `bridge`. -/
def Dev.onBridge (f : Bridge → Bridge) (d : Dev) : Dev := { d with bridge := f d.bridge }

/-- The device with `f` applied to its part `queues`. -/
def Dev.onQueues (f : Queues → Queues) (d : Dev) : Dev := { d with queues := f d.queues }

/-- The device with `f` applied to its part `host`. -/
def Dev.onHost (f : HostPort → HostPort) (d : Dev) : Dev := { d with host := f d.host }

/-- The device with `f` applied to its part `conv`. -/
def Dev.onConv (f : Conv → Conv) (d : Dev) : Dev := { d with conv := f d.conv }

/-- The device with `f` applied to its part `boot`. -/
def Dev.onBoot (f : Boot → Boot) (d : Dev) : Dev := { d with boot := f d.boot }

/-- The device with `f` applied to its part `eth`. -/
def Dev.onEth (f : Eth → Eth) (d : Dev) : Dev := { d with eth := f d.eth }

/-- The device with `f` applied to its part `ops`. -/
def Dev.onOps (f : Tbl OpUnit → Tbl OpUnit) (d : Dev) : Dev := { d with ops := f d.ops }

/-- The device with `f` applied to its part `timing`. -/
def Dev.onTiming (f : Timing → Timing) (d : Dev) : Dev := { d with timing := f d.timing }

/-- The device with `f` applied to its part `flash`. -/
def Dev.onFlash (f : Flash → Flash) (d : Dev) : Dev := { d with flash := f d.flash }

/-- The device with `f` applied to its part `otp`. -/
def Dev.onOtp (f : Otp → Otp) (d : Dev) : Dev := { d with otp := f d.otp }

/-- The byte that main memory holds at an address between commands. -/
def Dev.stored (d : Dev) (a : Nat) : Byte := Undef.read d.undef (Mem.read1 d.mem) a

/-- The byte at an address as a unit reads it within a command: changes of the command are seen. -/
def busRead : List MemOp → (Nat → Byte) → Nat → Byte
  | [], f, a => f a
  | .write b bs :: t, f, a =>
    if b ≤ a ∧ a < b + bs.length then bs.getD (a - b) (byte 0) else busRead t f a
  | .forget r :: t, f, a => if r.covers a then Config.memoryByte r.stamp a else busRead t f a

/-- `n` bytes of main memory from `a`. -/
def Dev.memRead (d : Dev) (a n : Nat) : Bytes := (List.range n).map fun i => busRead d.bus d.stored (a + i)

/-- A write of main memory, performed at the end of the command. -/
def Dev.memWrite (d : Dev) (a : Nat) (bs : Bytes) : Dev := { d with bus := .write a bs :: d.bus }

/-- Contents of main memory from `lo` to `hi`, of one channel where `chan` names it, become undefined (R105, R260). -/
def Dev.memForget (d : Dev) (lo hi : Nat) (chan : Option (Ddr × Nat) := none) : Dev :=
  { d with free := d.free + 1, bus := .forget { lo := lo, hi := hi, stamp := d.free, chan := chan } :: d.bus }

/-! Configuration. -/

/-- Clock domain `k` (R230). -/
def Dev.dom (d : Dev) (k : Nat) : Domain := d.doms.get {} k

/-- Whether the clock of a domain runs. -/
def Dev.clockRuns (d : Dev) (k : Nat) : Bool := (d.dom k).running

/-- L of converter link `k`. -/
def lanesOf (c : Cfg) (k : Nat) : Nat := c.nat (0x2A40 + k) 3

/-- The configuration that the CPs of converter link `k` go by: the shadow of its DCLK domain (R23). While the DCLK does not run
there is no shadow of it, and the link's SerDes takes the store's outputs, which stand still between flips (R37, R355). -/
def Dev.dcfg (d : Dev) (k : Nat) : Cfg := if (d.dom (9 + k)).version = 0 then d.store.active else (d.dom (9 + k)).shadow

/-- The same of Ethernet port `p` and its ECLK domain (R23, R406). -/
def Dev.ecfg (d : Dev) (p : Nat) : Cfg := if (d.dom (5 + p)).version = 0 then d.store.active else (d.dom (5 + p)).shadow

/-- Units whose clock is domain `k` (R230, R231). -/
def domainUnits (d : Dev) (k : Nat) : List Nat :=
  if k = 4 then [40, 41, 42, 43]
  else if 5 ≤ k ∧ k ≤ 8 then [44 + (k - 5)]
  else if 9 ≤ k ∧ k ≤ 0x20 then span (k - 9) (min 24 (k - 9 + lanesOf (d.dcfg (k - 9)) (k - 9)))
  else if 0x21 ≤ k ∧ k ≤ 0x28 then [48 + (k - 0x21)]
  else if k = 0x29 then [64]
  else if k = 1 then span 24 40 ++ span 56 64 ++ [66]
  else if k = 3 then [65]
  else []

/-- Whether a unit is held in reset (R231, R242, R261). -/
def Dev.held (d : Dev) (u : Nat) : Bool := d.resets.unitHeld.has u

/-- Whether a store crossing of a domain is held in reset: that of a held unit which has not captured since (R47, R242). -/
def Dev.crossingHeld (d : Dev) (k : Nat) : Bool := (domainUnits d k).any fun u => d.resets.unitHeld.find? u == some false

/-- Whether a domain counts as running: its clock runs and no store crossing of it is held in reset (R47). -/
def Dev.domRuns (d : Dev) (k : Nat) : Bool := d.clockRuns k && !d.crossingHeld k

/-- The version a domain reports in 0x2003 (R47). -/
def Dev.domVersion (d : Dev) (k : Nat) : Nat := if d.domRuns k then (d.dom k).version else 0

/-- The device with `f` applied to clock domain `k`. -/
def Dev.upDom (k : Nat) (f : Domain → Domain) (d : Dev) : Dev := { d with doms := d.doms.set k (f (d.dom k)) }

/-- The local shadow of a clock domain (R23). -/
def Dev.shadow (d : Dev) (dom : Nat) : Cfg := (d.dom dom).shadow

/-- The FCLK shadow. -/
def Dev.fcfg (d : Dev) : Cfg := d.shadow 0x01

/-- The active configuration, which the firmware, the CAN node and the store itself use. -/
def Dev.cfg (d : Dev) : Cfg := d.store.active

/-! Fault events. -/

/-- Whether the armed field injection names this source and instance (R482). -/
def Dev.armedFor (d : Dev) (src inst : Nat) : Bool :=
  d.faults.inj.state == 1 && d.faults.inj.src == src && d.faults.inj.inst == inst

/-- Whether a field injection of this source is armed, whatever its instance. -/
def Dev.armedSrc (d : Dev) (src : Nat) : Bool := d.faults.inj.state == 1 && d.faults.inj.src == src

/-- The armed injection is spent at its event (R482). -/
def Dev.spend (d : Dev) : Dev :=
  { d with faults := { d.faults with inj := { d.faults.inj with state := 2 } } }

/-- A source's domain counts one event; it crosses into FCOL and is registered later (R472). The event of an armed
injection's source and instance is the injected one (R482); lane sources name their cause themselves. -/
def Dev.raise (src : Nat) (inst : Nat := 0xFF) (part : Nat := 0xFF) (cause : Nat := 0) (injected : Bool := false)
    (queue : Option Nat := none) (d : Dev) : Dev :=
  let mine := !injected && d.armedSrc src && (inst == 0xFF || d.faults.inj.inst == inst) && cause == 0
  let d1 := if mine then d.spend else d
  { d1 with faults := { d1.faults with
      crossing := d1.faults.crossing ++
        [{ src := src, inst := inst, part := part, cause := cause, injected := injected || mine, queue := queue }] } }

/-- Applies `f` where the condition holds. -/
def Dev.when (c : Bool) (f : Dev → Dev) (d : Dev) : Dev := if c then f d else d

/-! Partitions, power domains and held units. -/

/-- Partition `p`. -/
def Dev.part (d : Dev) (p : Nat) : Part := d.parts.get {} p

/-- Whether the fence bit of `p` is set (R252). -/
def Dev.fenceBit (d : Dev) (p : Nat) : Bool := (d.part p).fenceBit

/-- Whether `p` counts as fenced for R38 (states FENCED, RESETTING, RESET_DONE). -/
def Dev.partFenced (d : Dev) (p : Nat) : Bool :=
  let st := (d.part p).state
  decide (2 ≤ st ∧ st ≤ 4)

/-- The power domain of a unit (R264): codes 0 to 11; none for a unit of the core. -/
def unitPd (u : Nat) : Option Nat :=
  if u < 12 then some 0 else if u < 24 then some 1
  else if 32 ≤ u ∧ u < 40 then some 2
  else if 44 ≤ u ∧ u < 48 then some 3
  else if 48 ≤ u ∧ u < 56 then some (u - 44)
  else none

/-- Whether a domain state counts as fenced for R38 and R105: OFF, FENCED and FAILED (R265). -/
def Dev.pdFenced (d : Dev) (k : Nat) : Bool :=
  let st := (d.pds.get {} k).state
  st == 0 || st == 2 || st == 6

/-- Whether a unit takes work: its power domain runs and it is not held in reset (R26, R196, R231, R266). -/
def Dev.unitUp (d : Dev) (u : Nat) : Bool :=
  (match unitPd u with
   | none => true
   | some k => (d.pds.get {} k).state == 3) && !d.held u

/-- The NI of unit `n`. -/
def Dev.ni (d : Dev) (n : Nat) : Ni := d.nis.get {} n

/-- The device with `f` applied to NI `n`. -/
def Dev.upNi (n : Nat) (f : Ni → Ni) (d : Dev) : Dev := { d with nis := d.nis.modify {} n f }

/-- The NI's statistics register at an offset. -/
def Ni.reg (x : Ni) (o : Nat) : Nat := x.regs.get 0 o

/-- A statistics register plus `k`, saturating at `w` bits. -/
def Ni.count (w o : Nat) (x : Ni) : Ni := { x with regs := x.regs.set o (satAdd w (x.reg o) 1) }

/-- A statistics register raised to a new peak. -/
def Ni.peak (o v : Nat) (x : Ni) : Ni := { x with regs := x.regs.set o (max (x.reg o) v) }

/-- Replica of NI `n` as an FCLK count since TAI 0 (R186). -/
def Dev.replica (d : Dev) (n : Nat) : Int := (d.clock.edges : Int) + (d.ni n).offset

/-- FCLK counts in a second. -/
def fclkPerSec : Nat := 1500000000

/-- The count of a time given as TAI seconds and nanoseconds, rounded up to a count (R186). -/
def timeCount (s ns : Nat) : Int := ((s * fclkPerSec + (3 * ns + 1) / 2 : Nat) : Int)

/-- Folds a command effect over a list. -/
def Dev.fold {α : Type} (l : List α) (f : α → Dev → Dev) (d : Dev) : Dev := l.foldl (fun acc x => f x acc) d

end Sys2Proof.Machine
end

