-- ==== Sys2Proof/Machine/Operands.lean ====
section
/-! DEFINITION. Operand forms of the fabric: NI placement (R5, R109), roles (R12), address decode (R93 to R106),
packet lengths and the route word (R119 to R123), classes and virtual channels (R15, R16). -/
namespace Sys2Proof.Machine

/-- The NIs on each router: local port 0, and local port 1 or 0xFF (R109). -/
def niGrid : List (Nat × Nat) := [
  (0, 1), (48, 255), (49, 255), (40, 41), (42, 43), (50, 255), (51, 255), (12, 13),
  (2, 3), (32, 255), (24, 255), (25, 255), (26, 255), (27, 255), (36, 255), (14, 15),
  (4, 5), (33, 255), (56, 255), (57, 255), (58, 66), (59, 255), (37, 255), (16, 17)] ++ [
  (6, 7), (34, 255), (60, 255), (61, 65), (62, 64), (63, 255), (38, 255), (18, 19),
  (8, 9), (35, 255), (28, 255), (29, 255), (30, 255), (31, 255), (39, 255), (20, 21),
  (10, 11), (52, 255), (53, 255), (44, 45), (46, 47), (54, 255), (55, 255), (22, 23)]

/-- The NI on local port `lp` of router `r`; 0xFF where there is none. -/
def routerNi (r lp : Nat) : Nat :=
  let p := niGrid.getD r (255, 255)
  if lp = 0 then p.1 else p.2

/-- Router and local port of NI `n`; router 63 (which does not exist) for a number above 66. -/
def niPlace (n : Nat) : Nat × Nat :=
  match (List.range 48).find? fun r => routerNi r 0 == n || routerNi r 1 == n with
  | some r => (r, if routerNi r 0 = n then 0 else 1)
  | none => (63, 0)

/-- Kind code of an NI (R102): 0 CP, 1 SE, 2 OP, 3 HP, 4 EP, 5 MC, 6 BS, 7 TTU, 8 LK, 9 PRB. -/
def niKind (n : Nat) : Nat :=
  if n < 24 then 0 else if n < 32 then 1 else if n < 40 then 2 else if n < 44 then 3 else if n < 48 then 4
  else if n < 56 then 5 else if n < 64 then 6 else if n = 64 then 7 else if n = 65 then 8 else 9

/-- Whether an NI initiates (R5): all but MC, BS and PRB. -/
def isInitiator (n : Nat) : Bool := decide (n < 48 ∨ n = 64 ∨ n = 65)

/-- Whether an NI holds a tag table: all initiators but the TTU. -/
def hasTags (n : Nat) : Bool := decide (n < 48 ∨ n = 65)

/-- Whether an NI has a hold store: CP0 to CP23 and the TTU (R186). -/
def hasHold (n : Nat) : Bool := decide (n < 24 ∨ n = 64)

/-- Whether a unit kind may issue a transaction type (R12). -/
def mayIssue (n ty : Nat) : Bool :=
  let k := niKind n
  if ty = 0 then k == 0 || k == 1 || k == 2 || k == 3 || k == 4 || k == 8
  else if ty = 1 then k == 0 || k == 1 || k == 2 || k == 3 || k == 4 || k == 7 || k == 8
  else if ty = 2 then k == 1 || k == 3 || k == 8
  else if ty = 3 then k == 0 || k == 1 || k == 2 || k == 3 || k == 4 || k == 8
  else if ty = 4 then isInitiator n
  else if ty = 5 then k == 1 || k == 2 || k == 7
  else false

/-- The NI register block that an address lies in, with the offset (R101). -/
def niBlock (a : Nat) : Option (Nat × Nat) :=
  if 0x80000000 ≤ a ∧ a ≤ 0x8042FFFF then some ((a - 0x80000000) / 0x10000, (a - 0x80000000) % 0x10000) else none

/-- The unit register block that an address lies in, with the offset (R101). -/
def unitBlock (a : Nat) : Option (Nat × Nat) :=
  if 0x88000000 ≤ a ∧ a ≤ 0x8C2FFFFF then some ((a - 0x88000000) / 0x100000, (a - 0x88000000) % 0x100000) else none

/-- Whether an address lies in queue-context space (R99). -/
def inQctx (a : Nat) : Bool := decide (0x43C00000 ≤ a ∧ a ≤ 0x43FFFFFF)

/-- Whether an address lies in the basin. -/
def inBasin (a : Nat) : Bool := decide (0x40000000 ≤ a ∧ a ≤ 0x43FFFFFF)

/-- Whether an address lies in the DDR5 range. -/
def inDdr (a : Nat) : Bool := decide (0x100000000 ≤ a ∧ a ≤ 0x80FFFFFFFF)

/-- Whether an address lies in the outbound range. -/
def inOutbound (a : Nat) : Bool := decide (0x100000000000 ≤ a ∧ a ≤ 0x1FFFFFFFFFFF)

/-- Whether a transaction type is accepted by an NI for an address (R12); every NI accepts READ and WRITE to its own
registers, and FENCE_MARK. -/
def accepts (n ty a : Nat) : Bool :=
  let k := niKind n
  let ownRegs := match niBlock a with
    | some (m, _) => m == n
    | none => false
  let unitRegs := match unitBlock a with
    | some (m, _) => m == n
    | none => false
  if ty = 3 then true
  else if ownRegs then ty == 0 || ty == 1
  else if k = 0 ∨ k = 1 ∨ k = 4 ∨ k = 7 then
    (unitRegs && (ty == 0 || ty == 1)) || (ty == 4) || (ty == 5 && (k == 0 || k == 7))
  else if k = 2 then (unitRegs && (ty == 0 || ty == 1)) || ty == 2
  else if k = 3 then (inOutbound a && (ty == 0 || ty == 1 || ty == 2)) || ty == 4
  else if k = 5 ∨ k = 6 then ty == 0 || ty == 1 || ty == 2
  else if k = 8 then (decide (a < 0x40000000) && (ty == 0 || ty == 1 || ty == 2))
  else ty == 0 || (unitRegs && ty == 1)

/-- Bank and bank offset of a basin address (R98). -/
def basinPlace (a : Nat) : Nat × Nat :=
  let b := a - 0x40000000
  (bitsOf b 10 8, bitsOf b 25 11 * 256 + bitsOf b 7 0)

/-- The NI that an initiator's address decodes to; none is the default target (R93 to R101, R106). -/
def Dev.decodeAddr (d : Dev) (src a : Nat) : Option Nat :=
  if a < 0x40000000 then
    if 0x20080000 ≤ a ∧ a ≤ 0x2008FFFF then none else some 65
  else if inBasin a then some (56 + (basinPlace a).1)
  else match niBlock a with
    | some (n, _) => some n
    | none =>
      match unitBlock a with
      | some (n, _) => if n = 65 then none else some n
      | none =>
        if inDdr a then (d.ddr.decode a).map fun c => 48 + c.1
        else if inOutbound a then some (40 + src % 4)
        else none

/-- The network of a type: 0 REQ, 1 RSP, 2 MSG (R15). -/
def netOf (ty : Nat) : Nat := if ty ≤ 3 then 0 else if ty = 4 ∨ ty = 5 then 2 else 1

/-- The VC of a network and class (R119); classes that a network lacks fall to its nearest (R16). -/
def vcOf (net cls : Nat) : Nat :=
  if net = 0 then (if cls ≤ 1 then 0 else cls - 1)
  else if net = 1 then (if cls ≤ 1 then 3 else cls + 2)
  else 6 + min cls 2

/-- The VC a packet travels on (R121). -/
def pktVc (p : Packet) : Nat := vcOf (netOf p.ty) p.cls

/-- Flits of a packet (R123). -/
def pktFlits (p : Packet) : Nat :=
  if p.ty = 4 then (if p.data.length ≤ 16 then 1 else 2)
  else if p.ty = 1 ∨ p.ty = 2 ∨ p.ty = 8 then
    if p.addr % 16 + p.size ≤ 16 then 1 else 1 + (p.addr % 32 + p.size + 31) / 32
  else 1

/-- The route word of R122 with AGE and NXT_PORT as they stand. -/
def pktRouteWord (p : Packet) (nxt : Nat) : Nat :=
  let pl := niPlace p.dest
  p.dest % 128 + 2 ^ 7 * (pl.1 % 64) + 2 ^ 13 * pl.2 + 2 ^ 14 * (p.src % 128) + 2 ^ 21 * (p.ty % 16)
    + 2 ^ 25 * (p.cls % 4) + 2 ^ 27 * (p.part % 16) + 2 ^ 31 * (p.tag % 128) + 2 ^ 38 * min p.age 1023
    + 2 ^ 48 * (pktFlits p - 1) + 2 ^ 52 * (nxt % 8)

/-- Whether a packet's data travels inline in its head flit (R123). -/
def pktInline (p : Packet) : Bool :=
  (p.ty == 1 || p.ty == 2 || p.ty == 8) && decide (p.addr % 16 + p.size ≤ 16)

/-- Head bits [255:64] of a packet by its type (R122, R123), at their places in the head flit. -/
def pktHeadRest (p : Packet) : Nat :=
  let inl := if pktInline p then 2 ^ (128 + 8 * (p.addr % 16)) * Bytes.toNat (padTo p.size p.data) else 0
  if p.ty ≤ 3 then 2 ^ 64 * (p.addr % 2 ^ 48) + 2 ^ 112 * (if p.ty = 3 then 0 else (p.size - 1) % 256) + inl
  else if p.ty = 8 ∨ p.ty = 9 then
    2 ^ 64 * (p.status % 8) + 2 ^ 72 * (p.addr % 256) + 2 ^ 80 * ((p.size - 1) % 256) + inl
  else if p.ty = 4 then
    2 ^ 64 * (p.mq % 256) + 2 ^ 72 * (p.code % 65536) + 2 ^ 88 * (p.mstat % 8) + 2 ^ 128 * Bytes.toNat (padTo 16 p.data)
  else
    2 ^ 64 * (p.mq % 256) + 2 ^ 72 * (p.code % 65536) + 2 ^ 96 * (p.relNs % 2 ^ 32) + 2 ^ 128 * (p.relS % 2 ^ 48)
      + 2 ^ 176 * Bytes.toNat (padTo 10 p.data)

/-- The 256 bits of a packet's head flit. -/
def pktHead (p : Packet) (nxt : Nat) : Nat := pktRouteWord p nxt + pktHeadRest p

/-- The 32 bytes of flit `i` of a packet, `i` from 1: a 32-byte-aligned block with zero outside the transfer, or the second
payload flit of a MESSAGE (R123). -/
def pktBody (p : Packet) (i : Nat) : Bytes :=
  if p.ty = 4 then padTo 32 (p.data.drop 16)
  else
    let base := p.addr / 32 * 32 + 32 * (i - 1)
    (List.range 32).map fun j =>
      if p.addr ≤ base + j ∧ base + j < p.addr + p.size then p.data.getD (base + j - p.addr) (byte 0) else byte 0

/-- Head bits as PKT_CRC counts them: AGE and NXT_PORT are zero (R124). -/
def crcHead (v : Nat) : Nat := v % 2 ^ 38 + 2 ^ 48 * (bitsOf v 51 48) + 2 ^ 55 * (v / 2 ^ 55)

/-- PKT_CRC over the flits of a packet as they stand, inverted bits included (R124). -/
def flitsCrc (fs : List Flit) : Nat :=
  crc16 (fs.foldl (fun acc f => acc ++ (match f.pkt with
    | some p => leBytes 32 (crcHead (Nat.xor (pktHead p 0) f.flips))
    | none => leBytes 32 (Nat.xor (Bytes.toNat f.data) f.flips))) [])

/-- The flits of a packet in order with PKT_CRC on the tail; `nxt` is NXT_PORT for the first router (R120, R123, R124). -/
def pktToFlits (p : Packet) (nxt : Nat) : List Flit :=
  let n := pktFlits p
  let fs : List Flit := { vc := pktVc p, pkt := some p, tail := n == 1, nxt := nxt } ::
    (List.range (n - 1)).map fun i => { vc := pktVc p, pkt := none, tail := i + 2 == n, data := pktBody p (i + 1) }
  let c := flitsCrc fs
  fs.map fun f => if f.tail then { f with crc := c } else f

/-- The data bits of a flit on a link. -/
def flitBits (f : Flit) : Nat :=
  Nat.xor (match f.pkt with
    | some p => pktHead p f.nxt
    | none => Bytes.toNat f.data) f.flips

/-- The sideband of a cycle of a link direction (R119): the flit it carries and the VC of the credit it returns. Reserved bits
are 0. -/
def sideband (f : Option Flit) (credit : Option Nat) : Nat :=
  let flit := match f with
    | some g => 1 + 2 * b2n g.pkt.isSome + 4 * b2n g.tail + 8 * (g.vc % 16) + 128 * b2n g.poison
    | none => 0
  let ctl := flit + (match credit with
    | some v => 256 + 512 * (v % 16)
    | none => 0)
  let bits := (f.map flitBits).getD 0
  ctl + 2 ^ 16 * (Config.secded 16 ctl % 64) + 2 ^ 22 * (Config.secded 128 (bits % 2 ^ 128) % 512)
    + 2 ^ 31 * (Config.secded 128 (bits / 2 ^ 128) % 512) + 2 ^ 48 * ((f.map (·.crc)).getD 0 % 65536)

/-! SECDED on a link (R134, R568). -/

/-- Inverted bits of a code word whose protected part has `w` bits and whose check part has `k`. -/
def errWeight (w k : Nat) (e : WordErr) : Nat :=
  ((List.range w).filter (bitOf e.data)).length + ((List.range k).filter (bitOf e.check)).length

/-- The syndrome of inverted bits: the pattern itself where only check bits are wrong (R568). -/
def errSyndrome (w k : Nat) (e : WordErr) : Nat :=
  if e.data % 2 ^ w = 0 then e.check % 2 ^ k else Nat.xor (e.check % 2 ^ k) (Config.secded w (e.data % 2 ^ w) % 2 ^ k)

/-- Two patterns of inverted bits together. -/
def errJoin (a b : WordErr) : WordErr := { data := Nat.xor a.data b.data, check := Nat.xor a.check b.check }

/-- Two patterns of a cycle together. -/
def linkErrJoin (a b : LinkErr) : LinkErr :=
  { ctl := errJoin a.ctl b.ctl, half0 := errJoin a.half0 b.half0, half1 := errJoin a.half1 b.half1 }

/-- What SECDED finds in a word: nothing, a single bit, which it corrects, or more, which it cannot (R134). -/
def errFinds (w k : Nat) (e : WordErr) : MemErr :=
  if errWeight w k e = 0 then .none else if errWeight w k e = 1 then .corrected else .uncorrectable

/-- Column of a router. -/
def rx (r : Nat) : Nat := r % 8

/-- Row of a router. -/
def ry (r : Nat) : Nat := r / 8

/-- Output port at router `r` toward NI `dest` (R127). -/
def routePort (r dest : Nat) : Nat :=
  let t := niPlace dest
  let x := rx r
  let y := ry r
  let dx := rx t.1
  let dy := ry t.1
  if x < dx then (if 4 ≤ dx - x then 4 else 0)
  else if dx < x then (if 4 ≤ x - dx then 4 else 1)
  else if y < dy then (if 3 ≤ dy - y then 5 else 2)
  else if dy < y then (if 3 ≤ y - dy then 5 else 3)
  else 6 + t.2

/-- The router at the other end of a port, with the port the flit arrives on there (R118); none for a local port or a
port that the router lacks. -/
def neighbour (r p : Nat) : Option (Nat × Nat) :=
  let x := rx r
  let y := ry r
  if p = 0 then (if x < 7 then some (r + 1, 1) else none)
  else if p = 1 then (if 0 < x then some (r - 1, 0) else none)
  else if p = 2 then (if y < 5 then some (r + 8, 3) else none)
  else if p = 3 then (if 0 < y then some (r - 8, 2) else none)
  else if p = 4 then some (if x < 4 then r + 4 else r - 4, 4)
  else if p = 5 then some (if y < 3 then r + 24 else r - 24, 5)
  else none

/-- Whether a router has a port (R118). -/
def hasPort (r p : Nat) : Bool :=
  if p < 6 then (neighbour r p).isSome
  else if p = 6 then decide (r < 48)
  else p == 7 && routerNi r 1 != 255

/-- Port mask of 0x2110 + r:03. -/
def portMask (r : Nat) : Nat := (List.range 8).foldl (fun m p => if hasPort r p then m + 2 ^ p else m) 0

/-- Hops between two routers (R109). -/
def hops (a b : Nat) : Nat :=
  let dx := if rx a ≤ rx b then rx b - rx a else rx a - rx b
  let dy := if ry a ≤ ry b then ry b - ry a else ry a - ry b
  (if dx < 4 then dx else dx - 3) + (if dy < 3 then dy else dy - 2)

/-- VC depth at the far end of a router's output (R125): mesh and local input 4, express 6, ejection REQ 8, RSP 9,
MSG 4. -/
def depthOut (port vc : Nat) : Nat :=
  if port < 4 then 4 else if port < 6 then 6
  else if vc < 3 then 8 else if vc < 6 then 9 else 4

/-- Urgency of a class and age under the FCLK shadow (R145). -/
def urgency (c : Cfg) (cls age : Nat) : Nat :=
  if cls = 0 then 1023
  else c.nat 0x2201 (2 * cls - 1) + min age (c.nat 0x2201 (2 * cls))

/-- The parts of a request that each lie in one 256-byte-aligned block (R95); `fuel` bounds the number of blocks. -/
def splitBlocks : Nat → Nat → Nat → List (Nat × Nat)
  | 0, _, _ => []
  | fuel + 1, a, n =>
    let room := 256 - a % 256
    if n ≤ room then [(a, n)] else (a, room) :: splitBlocks fuel (a + room) (n - room)

end Sys2Proof.Machine
end

