-- ==== Sys2Proof/WellFormed.lean ====
section
/-! DEFINITION. Which operands a command may carry: numbers of units, partitions, paths and bits that exist.
A value that the device itself checks (an object index, a queue number, a reserved code) is not restricted here. -/
namespace Sys2Proof

/-- The access paths: 0, 1, 2 and 16 to 31 (R30). -/
def isPath (p : Nat) : Bool := decide (p ≤ 2 ∨ (16 ≤ p ∧ p ≤ 31))

/-- An input that exists: a port of one of the 48 routers, or one of the 67 NIs. -/
def wfFlitDest : FlitDest → Bool
  | .router r p => decide (r < 48 ∧ p < 8)
  | .ni n => decide (n < 67)

/-- A sender that exists. -/
def wfCreditDest : CreditDest → Bool
  | .router r p => decide (r < 48 ∧ p < 8)
  | .ni n => decide (n < 67)

/-- A bucket that exists. -/
def wfBucket : Bucket → Bool
  | .weir p c => decide (p < 16 ∧ c < 4)
  | .aggregateT => true

/-- A register door that exists. -/
def wfDoor : RegDoor → Bool
  | .ni n => decide (n < 67)
  | .unit n => decide (n < 67)
  | .bar0 f rid _ => decide (f < 16 ∧ rid < 65536)
  | .command f => decide (f < 16)
  | .msixControl f => decide (f < 16)

/-- The data field of a WRITE_STAGE frame: as long as its length field says, where that is a length (R56). -/
def wfData (len : Nat) (data : Bytes) : Bool := decide (len = 0 ∨ 256 < len ∨ data.length = len) && decide (data.length < 65536)

/-- A frame that a cut-off SPI transaction had sent (R58). -/
def wfCut : SpiCut → Bool
  | .idle => true
  | .inFrame => true
  | .inTail f _ => decide (f.op < 256 ∧ f.idx < 65536 ∧ f.sub < 256 ∧ f.len < 65536 ∧ f.data.length ≤ 256)

/-- An MSI-X block that a function can have. -/
def wfUnblock : Unblock → Bool
  | .vector v => decide (v < 2048)
  | _ => true

/-- A PCIe completion carries at most 256 bytes (R95). -/
def wfPcieCpl : PcieCpl → Bool
  | .data bs => decide (bs.length ≤ 256)
  | .poisoned bs => decide (bs.length ≤ 256)
  | .failed => true

/-- A write to the admission port with OP = 1, or one that is not a 64-bit write (R332). -/
def isAdmissionData (b : Bytes) : Bool := decide (1 ≤ b.length ∧ b.length ≤ 512) && (b.length != 8 || bitOf b.toNat 63)

/-- A 64-bit write to the admission port with OP = 0 (R332). -/
def isRevokeData (b : Bytes) : Bool := b.length == 8 && !bitOf b.toNat 63


/-- Bursts that a matrix master can present. -/
def wfRaised (l : List MxReq) : Bool :=
  l.all fun q => (q.master == 0 || q.master == 1 || q.master == 3) && decide (q.addr < 2 ^ 32) && decide (1 ≤ q.len ∧ q.len ≤ 4096)
    && decide (q.data.length ≤ 4096)

/-- Arrivals of up to eight lanes, each below the longest LEMC period of 96 (R358). -/
def wfArrivals (l : List Nat) : Bool := decide (1 ≤ l.length ∧ l.length ≤ 8) && l.all fun a => decide (a < 96)

/-- Frames of sample words of at most 16 bits (R352). -/
def wfFrames (l : List (List Nat)) : Bool := decide (1 ≤ l.length ∧ l.length ≤ 256) && l.all fun f => f.all fun w => decide (w < 65536)


/-- A value of INTEGER64. -/
def isInt64 (x : Int) : Bool := decide (-9223372036854775808 ≤ x ∧ x < 9223372036854775808)

/-- One 10 ms measurement of the references 0 to 5, and of the OCXO against the selected reference: none where no edge
came, else the offset in ppb as INTEGER32. -/
def wfOffsets (l : List (Option Int)) : Bool :=
  decide (l.length = 7) && l.all fun o => match o with
    | some x => decide (-2147483648 ≤ x ∧ x < 2147483648)
    | none => true

/-- Whether a checker whose events no other command reports names this source and instance: PCIe core buffers, LCRC and
ECRC at HP0 to HP3, the TTU's time and hold stores, and OTP (R471, R353, R471). -/
def wfSeen (l : List (Nat × Nat)) : Bool :=
  l.all fun e => ([0x80, 0x81, 0x86, 0x87].contains e.1 && decide (40 ≤ e.2 ∧ e.2 ≤ 43))
    || ([0xCE, 0xCF, 0xEA, 0xEB].contains e.1 && e.2 == 0xFF)
/-- Operand check of MGMT_CS_N_FALL. -/
def wfMgmtCsNFall : Bool :=
  true

/-- Operand check of MGMT_CS_N_RISE. -/
def wfMgmtCsNRise (cut : SpiCut) : Bool :=
  wfCut cut

/-- Operand check of STORE_GRANT. -/
def wfStoreGrant : Bool :=
  true

/-- Operand check of SPI_IDLE_TIMEOUT. -/
def wfSpiIdleTimeout (cut : SpiCut) : Bool :=
  wfCut cut

/-- Operand check of READ. -/
def wfRead (path : Nat) (idx : Nat) (sub : Nat) (len : Nat) (_crcOk : Bool) : Bool :=
  isPath path && decide (idx < 65536) && decide (sub < 256) && decide (len < 65536)

/-- Operand check of WRITE_STAGE. -/
def wfWriteStage (path : Nat) (idx : Nat) (sub : Nat) (len : Nat) (data : Bytes) (_crcOk : Bool) : Bool :=
  isPath path && decide (idx < 65536) && decide (sub < 256) && decide (len < 65536) && wfData len data

/-- Operand check of COMMIT. -/
def wfCommit (path : Nat) (len : Nat) (expected : Nat) (_crcOk : Bool) : Bool :=
  isPath path && decide (len < 65536) && decide (expected < 2 ^ 32)

/-- Operand check of REVERT. -/
def wfRevert (path : Nat) (len : Nat) (expected : Nat) (_crcOk : Bool) : Bool :=
  isPath path && decide (len < 65536) && decide (expected < 2 ^ 32)

/-- Operand check of DISCARD. -/
def wfDiscard (path : Nat) (len : Nat) (_crcOk : Bool) : Bool :=
  isPath path && decide (len < 65536)

/-- Operand check of STATUS. -/
def wfStatus (path : Nat) (len : Nat) (_crcOk : Bool) : Bool :=
  isPath path && decide (len < 65536)

/-- Operand check of SAVE. -/
def wfSave (path : Nat) (len : Nat) (_crcOk : Bool) : Bool :=
  isPath path && decide (len < 65536)

/-- Operand check of SAVE_COMPLETE. -/
def wfSaveComplete : Bool :=
  true

/-- Operand check of SAVE_FLASH_ERROR. -/
def wfSaveFlashError : Bool :=
  true

/-- Operand check of UNKNOWN_OPCODE_FRAME. -/
def wfUnknownOpcodeFrame (path : Nat) (op : Nat) : Bool :=
  isPath path && decide (op < 256 ∧ (op = 0 ∨ 7 < op))

/-- Operand check of LOAD_SLOT. -/
def wfLoadSlot (path : Nat) (slot : Nat) : Bool :=
  isPath path && decide (slot < 256)

/-- Operand check of STORE_ALL. -/
def wfStoreAll (path : Nat) (value : Nat) : Bool :=
  isPath path && decide (value < 2 ^ 32)

/-- Operand check of RESTORE. -/
def wfRestore (path : Nat) (value : Nat) : Bool :=
  isPath path && decide (value < 2 ^ 32)

/-- Operand check of IMAGE_LOAD_COMMIT. -/
def wfImageLoadCommit : Bool :=
  true

/-- Operand check of DOMAIN_CAPTURE. -/
def wfDomainCapture (d : Nat) (elapsedNs : Nat) (restarts : Nat) : Bool :=
  decide (1 ≤ d ∧ d ≤ 0x29) && decide (elapsedNs < 65536) && decide (restarts < 65536)

/-- Operand check of CAPTURE_TIMEOUT. -/
def wfCaptureTimeout (d : Nat) : Bool :=
  decide (1 ≤ d ∧ d ≤ 0x29)

/-- Operand check of MB_GO. -/
def wfMbGo (f : Nat) (value : Nat) : Bool :=
  decide (f < 16) && decide (value < 2 ^ 32)

/-- Operand check of MB_CANCEL. -/
def wfMbCancel (f : Nat) (value : Nat) : Bool :=
  decide (f < 16) && decide (value < 2 ^ 32)

/-- Operand check of NMT_START. -/
def wfNmtStart (node : Nat) : Bool :=
  decide (node < 256)

/-- Operand check of NMT_STOP. -/
def wfNmtStop (node : Nat) : Bool :=
  decide (node < 256)

/-- Operand check of NMT_ENTER_PRE_OPERATIONAL. -/
def wfNmtEnterPreOperational (node : Nat) : Bool :=
  decide (node < 256)

/-- Operand check of NMT_RESET_APPLICATION. -/
def wfNmtResetApplication (node : Nat) : Bool :=
  decide (node < 256)

/-- Operand check of NMT_RESET_COMMUNICATION. -/
def wfNmtResetCommunication (node : Nat) : Bool :=
  decide (node < 256)

/-- Operand check of HEARTBEAT_PRODUCE. -/
def wfHeartbeatProduce : Bool :=
  true

/-- Operand check of USDO_INITIATE. -/
def wfUsdoInitiate (_write : Bool) (idx : Nat) (sub : Nat) (total : Nat) (_data : Bytes) : Bool :=
  decide (idx < 65536) && decide (sub < 256) && decide (total < 65536)

/-- Operand check of USDO_SEGMENT. -/
def wfUsdoSegment (seqNo : Nat) (_data : Bytes) (_last : Bool) : Bool :=
  decide (seqNo < 256)

/-- Operand check of USDO_TIMEOUT. -/
def wfUsdoTimeout : Bool :=
  true

/-- Operand check of EMCY_TRANSMIT. -/
def wfEmcyTransmit : Bool :=
  true

/-- Operand check of TPDO_EVENT. -/
def wfTpdoEvent (k : Nat) : Bool :=
  decide (k < 4)

/-- Operand check of CAN_BUS_OFF. -/
def wfCanBusOff : Bool :=
  true

/-- Operand check of CAN_BUS_OFF_RECOVERY. -/
def wfCanBusOffRecovery : Bool :=
  true

/-- Operand check of AGE_TICK. -/
def wfAgeTick : Bool :=
  true

/-- Operand check of ROUTER_FLIT_ARRIVAL. -/
def wfRouterFlitArrival (at_ : FlitDest) (_err : LinkErr) (_crcErr : Bool) : Bool :=
  wfFlitDest at_

/-- Operand check of SWITCH_ALLOCATION. -/
def wfSwitchAllocation (r : Nat) : Bool :=
  decide (r < 48)

/-- Operand check of EXPRESS_SETUP_PHASE. -/
def wfExpressSetupPhase (r : Nat) (_parityX : Bool) (_parityY : Bool) : Bool :=
  decide (r < 48)

/-- Operand check of CREDIT_RETURN. -/
def wfCreditReturn (at_ : CreditDest) (_err : WordErr) : Bool :=
  wfCreditDest at_

/-- Operand check of NI_INJECT. -/
def wfNiInject (n : Nat) (_err : MemErr) : Bool :=
  decide (n < 67)

/-- Operand check of WEIR_TOKEN. -/
def wfWeirToken (n : Nat) (b : Bucket) : Bool :=
  decide (n < 67) && wfBucket b

/-- Operand check of UNIT_POSTED_WRITE. -/
def wfUnitPostedWrite (n : Nat) (part : Nat) (cls : Nat) (addr : Nat) (data : Bytes) : Bool :=
  decide (n < 67) && decide (part < 16) && decide (1 ≤ cls ∧ cls ≤ 3) && decide (addr < 2 ^ 48) && decide (1 ≤ data.length ∧ data.length ≤ 4096)

/-- Operand check of COMBINE_TIMEOUT. -/
def wfCombineTimeout (n : Nat) (k : Nat) : Bool :=
  decide (n < 67) && decide (k < 256)

/-- Operand check of UNIT_NONPOSTED_REQUEST. -/
def wfUnitNonpostedRequest (n : Nat) (part : Nat) (ty : Nat) (cls : Nat) (addr : Nat) (size : Nat) (data : Bytes) : Bool :=
  decide (n < 67) && decide (part < 16) && decide (ty = 0 ∨ ty = 2 ∨ ty = 3) && decide (1 ≤ cls ∧ cls ≤ 3) && decide (addr < 2 ^ 48) && decide (1 ≤ size ∧ size ≤ 4096) && decide (data.length ≤ 4096)

/-- Operand check of UNIT_MESSAGE. -/
def wfUnitMessage (n : Nat) (_timed : Bool) (part : Nat) (cls : Nat) (dest : Nat) (mq : Nat) (code : Nat) (data : Bytes) (relS : Nat) (relNs : Nat) : Bool :=
  decide (n < 67) && decide (part < 16) && decide (cls < 4) && decide (dest < 128) && decide (mq < 256) && decide (code < 65536) && decide (data.length ≤ 48) && decide (relS < 2 ^ 48) && decide (relNs < 1000000000)

/-- Operand check of FENCED_MESSAGE. -/
def wfFencedMessage (n : Nat) (part : Nat) (cls : Nat) (dest : Nat) (mq : Nat) (code : Nat) (data : Bytes) : Bool :=
  decide (n < 67) && decide (part < 16) && decide (cls < 4) && decide (dest < 128) && decide (mq < 256) && decide (code < 65536) && decide (data.length ≤ 48)

/-- Operand check of FENCED_MESSAGE_INJECT. -/
def wfFencedMessageInject (n : Nat) : Bool :=
  decide (n < 67)

/-- Operand check of TARGET_REQUEST. -/
def wfTargetRequest (n : Nat) (vc : Nat) (_err : MemErr) : Bool :=
  decide (n < 67) && decide (vc < 9)

/-- Operand check of TARGET_POSTED_WRITE. -/
def wfTargetPostedWrite (n : Nat) (vc : Nat) : Bool :=
  decide (n < 67) && decide (vc < 9)

/-- Operand check of FENCE_MARK_ANSWER. -/
def wfFenceMarkAnswer (n : Nat) (vc : Nat) : Bool :=
  decide (n < 67) && decide (vc < 9)

/-- Operand check of RESPONSE_ARRIVAL. -/
def wfResponseArrival (n : Nat) (vc : Nat) (_err : MemErr) : Bool :=
  decide (n < 67) && decide (vc < 9)

/-- Operand check of RETRY_REISSUE. -/
def wfRetryReissue (n : Nat) (tag : Nat) : Bool :=
  decide (n < 67) && decide (tag < 128)

/-- Operand check of RESPONSE_TIMEOUT. -/
def wfResponseTimeout (n : Nat) (tag : Nat) : Bool :=
  decide (n < 67) && decide (tag < 128)

/-- Operand check of MESSAGE_ARRIVAL. -/
def wfMessageArrival (n : Nat) (vc : Nat) : Bool :=
  decide (n < 67) && decide (vc < 9)

/-- Operand check of MQ_DEQUEUE. -/
def wfMqDequeue (n : Nat) (q : Nat) (_err : MemErr) : Bool :=
  decide (n < 67) && decide (q < 4)

/-- Operand check of CREDIT_RETURN_SEND. -/
def wfCreditReturnSend (n : Nat) (src : Nat) : Bool :=
  decide (n < 67) && decide (src < 67)

/-- Operand check of CREDIT_RETURN_REPEAT. -/
def wfCreditReturnRepeat (n : Nat) (src : Nat) : Bool :=
  decide (n < 67) && decide (src < 67)

/-- Operand check of CREDIT_RETURN_RECEIVE. -/
def wfCreditReturnReceive (n : Nat) (vc : Nat) : Bool :=
  decide (n < 67) && decide (vc < 9)

/-- Operand check of TIMED_MESSAGE_ARRIVAL. -/
def wfTimedMessageArrival (n : Nat) (vc : Nat) : Bool :=
  decide (n < 67) && decide (vc < 9)

/-- Operand check of TIMED_RELEASE. -/
def wfTimedRelease (n : Nat) (_err : MemErr) : Bool :=
  decide (n < 67)

/-- Operand check of SYNC_CHECK. -/
def wfSyncCheck (n : Nat) (vc : Nat) : Bool :=
  decide (n < 67) && decide (vc < 9)

/-- Operand check of NI_DECERR_CLR. -/
def wfNiDecerrClr (n : Nat) (value : Nat) : Bool :=
  decide (n < 67) && decide (value < 2 ^ 64)

/-- Operand check of NI_STAT_CLR. -/
def wfNiStatClr (n : Nat) (value : Nat) : Bool :=
  decide (n < 67) && decide (value < 2 ^ 64)

/-- Operand check of WEIR_CLR. -/
def wfWeirClr (n : Nat) (value : Nat) : Bool :=
  decide (n < 67) && decide (value < 2 ^ 64)

/-- Operand check of REGISTER_WRITE. -/
def wfRegisterWrite (door : RegDoor) (_posted : Bool) (offset : Nat) (data : Bytes) : Bool :=
  wfDoor door && decide (offset < 2 ^ 32) && decide (1 ≤ data.length ∧ data.length ≤ 4096)

/-- Operand check of MATRIX_ARBITRATION. -/
def wfMatrixArbitration (raised : List MxReq) (parityBad : Nat) : Bool :=
  wfRaised raised && decide (parityBad < 16)

/-- Operand check of MATRIX_ACCESS_COMPLETE. -/
def wfMatrixAccessComplete (m : Nat) (_fail : Bool) (_err : MemErr) : Bool :=
  decide (m < 4)

/-- Operand check of DEBUG_PORT_RESET. -/
def wfDebugPortReset : Bool :=
  true

/-- Operand check of REMAP_SET. -/
def wfRemapSet : Bool :=
  true

/-- Operand check of BRIDGE_READ. -/
def wfBridgeRead (vc : Nat) (_err : MemErr) : Bool :=
  decide (vc < 9)

/-- Operand check of BRIDGE_FETCH_DONE. -/
def wfBridgeFetchDone : Bool :=
  true

/-- Operand check of DELAYED_READ_DISCARD. -/
def wfDelayedReadDiscard (k : Nat) : Bool :=
  decide (k < 8)

/-- Operand check of PREFETCH_FETCH_AHEAD. -/
def wfPrefetchFetchAhead (src : Nat) : Bool :=
  decide (src < 67)

/-- Operand check of BRIDGE_WRITE. -/
def wfBridgeWrite (vc : Nat) : Bool :=
  decide (vc < 9)

/-- Operand check of POSTED_WRITE_PERFORM. -/
def wfPostedWritePerform (_err : MemErr) : Bool :=
  true

/-- Operand check of INTERRUPT_LINE_EDGE. -/
def wfInterruptLineEdge (line : Nat) : Bool :=
  decide (line < 11)

/-- Operand check of LK_OUTBOUND_REQUEST. -/
def wfLkOutboundRequest (_lkc : Bool) (ty : Nat) (addr : Nat) (size : Nat) (data : Bytes) (_excl : Bool) : Bool :=
  decide (ty < 4) && decide (addr < 2 ^ 48) && decide (1 ≤ size ∧ size ≤ 4096) && decide (data.length ≤ 4096)

/-- Operand check of CLOCK_LOSS. -/
def wfClockLoss (d : Nat) : Bool :=
  decide (1 ≤ d ∧ d ≤ 0x29)

/-- Operand check of UNIT_RESET_RELEASE. -/
def wfUnitResetRelease (u : Nat) : Bool :=
  decide (u < 67)

/-- Operand check of FREQUENCY_MEASUREMENT_PERIOD. -/
def wfFrequencyMeasurementPeriod (f : List Nat) : Bool :=
  (f.length == 41 && f.all fun x => decide (x < 4294967296))

/-- Operand check of CLEAR_CROSSING_RECORDS. -/
def wfClearCrossingRecords (path : Nat) (value : Nat) : Bool :=
  isPath path && decide (value < 2 ^ 32)

/-- Operand check of PARTITION_FENCE. -/
def wfPartitionFence (path : Nat) (p : Nat) : Bool :=
  isPath path && decide (p < 16)

/-- Operand check of PARTITION_RESET. -/
def wfPartitionReset (path : Nat) (p : Nat) : Bool :=
  isPath path && decide (p < 16)

/-- Operand check of PARTITION_RELEASE. -/
def wfPartitionRelease (path : Nat) (p : Nat) : Bool :=
  isPath path && decide (p < 16)

/-- Operand check of DRAIN_COMPLETE. -/
def wfDrainComplete (p : Nat) : Bool :=
  decide (p < 16)

/-- Operand check of DRAIN_TIMEOUT. -/
def wfDrainTimeout (p : Nat) : Bool :=
  decide (p < 16)

/-- Operand check of FENCE_ACKNOWLEDGE. -/
def wfFenceAcknowledge (p : Nat) : Bool :=
  decide (p < 16)

/-- Operand check of RESET_STEP_DONE. -/
def wfResetStepDone (p : Nat) : Bool :=
  decide (p < 16)

/-- Operand check of RELEASE_EXECUTE. -/
def wfReleaseExecute (t : Nat) : Bool :=
  decide (t < 28)

/-- Operand check of FLR_VF. -/
def wfFlrVf (k : Nat) : Bool :=
  decide (1 ≤ k ∧ k ≤ 15)

/-- Operand check of FLR_PF0. -/
def wfFlrPf0 : Bool :=
  true

/-- Operand check of VF_ENABLE_SET. -/
def wfVfEnableSet (n : Nat) : Bool :=
  decide (n ≤ 15)

/-- Operand check of UNIT_RESET. -/
def wfUnitReset (path : Nat) (u : Nat) (value : Nat) : Bool :=
  isPath path && decide (u < 67) && decide (value < 256)

/-- Operand check of DL_DOWN. -/
def wfDlDown : Bool :=
  true

/-- Operand check of DL_UP. -/
def wfDlUp (rate : Nat) (width : Nat) : Bool :=
  decide (rate < 256) && decide (width < 256)

/-- Operand check of LINK_LOSS_DEBOUNCE_EXPIRY. -/
def wfLinkLossDebounceExpiry (cut : SpiCut) : Bool :=
  wfCut cut

/-- Operand check of HOT_RESET. -/
def wfHotReset (cut : SpiCut) : Bool :=
  wfCut cut

/-- Operand check of PD_FENCE. -/
def wfPdFence (path : Nat) (k : Nat) : Bool :=
  isPath path && decide (k < 12)

/-- Operand check of PD_OFF. -/
def wfPdOff (path : Nat) (k : Nat) : Bool :=
  isPath path && decide (k < 12)

/-- Operand check of PD_ON. -/
def wfPdOn (path : Nat) (k : Nat) : Bool :=
  isPath path && decide (k < 12)

/-- Operand check of PD_RELEASE. -/
def wfPdRelease (path : Nat) (k : Nat) : Bool :=
  isPath path && decide (k < 12)

/-- Operand check of PD_DRAIN_COMPLETE. -/
def wfPdDrainComplete (k : Nat) : Bool :=
  decide (k < 12)

/-- Operand check of PD_DRAIN_TIMEOUT. -/
def wfPdDrainTimeout (k : Nat) : Bool :=
  decide (k < 12)

/-- Operand check of PD_POWER_UP_DONE. -/
def wfPdPowerUpDone (k : Nat) (_trained : Bool) : Bool :=
  decide (k < 12)

/-- Operand check of PD_POWER_GOOD_TIMEOUT. -/
def wfPdPowerGoodTimeout (k : Nat) : Bool :=
  decide (k < 12)

/-- Operand check of CHIP_RESET. -/
def wfChipReset (src : Nat) (cut : SpiCut) : Bool :=
  decide (src < 256) && wfCut cut

/-- Operand check of PERST_N_ASSERT. -/
def wfPerstNAssert (cut : SpiCut) : Bool :=
  wfCut cut

/-- Operand check of POWER_ON. -/
def wfPowerOn : Bool :=
  true

/-- Operand check of RAIL_FALL. -/
def wfRailFall (rail : Nat) (cut : SpiCut) : Bool :=
  decide (rail < 8) && wfCut cut

/-- Operand check of RESET_RELEASE. -/
def wfResetRelease (_testMode : Bool) (bootSel : Nat) : Bool :=
  decide (bootSel < 4)

/-- Operand check of SUPPLY_MONITOR_SAMPLE. -/
def wfSupplyMonitorSample (rail : Nat) (_above : Bool) : Bool :=
  decide (rail < 8)

/-- Operand check of TEMPERATURE_THRESHOLD. -/
def wfTemperatureThreshold (sensor : Nat) (reading : Int) : Bool :=
  decide (sensor < 4) && decide (-32768 ≤ reading ∧ reading < 32768)

/-- Operand check of CREATE_QUEUE. -/
def wfCreateQueue (p : Nat) : Bool :=
  decide (p < 16)

/-- Operand check of DESTROY_QUEUE. -/
def wfDestroyQueue (p : Nat) : Bool :=
  decide (p < 16)

/-- Operand check of DESTROY_QUEUE_DONE. -/
def wfDestroyQueueDone (q : Nat) : Bool :=
  decide (q < 65536)

/-- Operand check of MODIFY_CQ. -/
def wfModifyCq (p : Nat) : Bool :=
  decide (p < 16)

/-- Operand check of QUERY_QUEUE. -/
def wfQueryQueue (p : Nat) : Bool :=
  decide (p < 16)

/-- Operand check of DOORBELL. -/
def wfDoorbell (f : Nat) (value : Nat) (_full : Bool) (_poisoned : Bool) : Bool :=
  decide (f < 16) && decide (value < 2 ^ 64)

/-- Operand check of DOORBELL_NOTICE_SEND. -/
def wfDoorbellNoticeSend (h : Nat) : Bool :=
  decide (40 ≤ h ∧ h ≤ 43)

/-- Operand check of DOORBELL_NOTICE. -/
def wfDoorbellNotice (n : Nat) (_err : MemErr) : Bool :=
  decide (n < 8)

/-- Operand check of COMMAND_FETCH. -/
def wfCommandFetch (q : Nat) (_ctxPoison : Bool) : Bool :=
  decide (q < 65536)

/-- Operand check of CONTEXT_WRITEBACK. -/
def wfContextWriteback (q : Nat) : Bool :=
  decide (q < 65536)

/-- Operand check of NOP. -/
def wfNop (q : Nat) : Bool :=
  decide (q < 65536)

/-- Operand check of COPY. -/
def wfCopy (q : Nat) : Bool :=
  decide (q < 65536)

/-- Operand check of COPY_INLINE. -/
def wfCopyInline (q : Nat) : Bool :=
  decide (q < 65536)

/-- Operand check of FILL. -/
def wfFillCmd (q : Nat) : Bool :=
  decide (q < 65536)

/-- Operand check of FENCE. -/
def wfFenceCmd (q : Nat) : Bool :=
  decide (q < 65536)

/-- Operand check of FLUSH. -/
def wfFlushCmd (q : Nat) : Bool :=
  decide (q < 65536)

/-- Operand check of FLUSH_HP. -/
def wfFlushHp (h : Nat) : Bool :=
  decide (40 ≤ h ∧ h ≤ 43)

/-- Operand check of NOTIFY. -/
def wfNotify (q : Nat) : Bool :=
  decide (q < 65536)

/-- Operand check of TIMED_NOTIFY. -/
def wfTimedNotify (q : Nat) : Bool :=
  decide (q < 65536)

/-- Operand check of WAIT_TIME. -/
def wfWaitTime (q : Nat) : Bool :=
  decide (q < 65536)

/-- Operand check of WAIT_TIME_REACHED. -/
def wfWaitTimeReached (q : Nat) : Bool :=
  decide (q < 65536)

/-- Operand check of STREAM_ARM. -/
def wfStreamArm (q : Nat) : Bool :=
  decide (q < 65536)

/-- Operand check of STREAM_STOP. -/
def wfStreamStop (q : Nat) : Bool :=
  decide (q < 65536)

/-- Operand check of OP_EXEC. -/
def wfOpExec (q : Nat) : Bool :=
  decide (q < 65536)

/-- Operand check of COMPLETION_WRITE. -/
def wfCompletionWrite (q : Nat) (_err : MemErr) : Bool :=
  decide (q < 65536)

/-- Operand check of CQ_MODERATION_TIMEOUT. -/
def wfCqModerationTimeout (cq : Nat) : Bool :=
  decide (cq < 65536)

/-- Operand check of CLEAR_QUEUE_COUNTERS. -/
def wfClearQueueCounters (path : Nat) (value : Nat) : Bool :=
  isPath path && decide (value < 2 ^ 32)

/-- Operand check of WINDOW_READ. -/
def wfWindowRead (f : Nat) (offset : Nat) (len : Nat) (_err : MemErr) : Bool :=
  decide (f < 16) && decide (offset < 67108864) && decide (1 ≤ len ∧ len ≤ 4096)

/-- Operand check of WINDOW_WRITE. -/
def wfWindowWrite (f : Nat) (offset : Nat) (data : Bytes) (_poisoned : Bool) : Bool :=
  decide (f < 16) && decide (offset < 67108864) && decide (1 ≤ data.length ∧ data.length ≤ 4096)

/-- Operand check of WINDOW_BASE_WRITE. -/
def wfWindowBaseWrite (f : Nat) (data : Bytes) (_poisoned : Bool) : Bool :=
  decide (f < 16) && decide (1 ≤ data.length ∧ data.length ≤ 4096)

/-- Operand check of PC_CLR. -/
def wfPcClr (f : Nat) (value : Nat) (_poisoned : Bool) : Bool :=
  decide (f < 16) && decide (value < 2 ^ 64)

/-- Operand check of PREFETCH_LINE_EXPIRY. -/
def wfPrefetchLineExpiry (f : Nat) (addr : Nat) : Bool :=
  decide (f < 16) && decide (addr < 2 ^ 48)

/-- Operand check of ADMISSION. -/
def wfAdmission (rid : Nat) (offset : Nat) (data : Bytes) (_poisoned : Bool) : Bool :=
  decide (rid < 65536) && decide (offset < 8) && isAdmissionData data

/-- Operand check of REVOKE. -/
def wfRevoke (rid : Nat) (data : Bytes) (_poisoned : Bool) : Bool :=
  decide (rid < 65536) && isRevokeData data

/-- Operand check of ADMISSION_STATUS_READ. -/
def wfAdmissionStatusRead (rid : Nat) (offset : Nat) (len : Nat) : Bool :=
  decide (rid < 65536) && decide (offset < 8) && decide (1 ≤ len ∧ len ≤ 4096)

/-- Operand check of PLACEMENT_WRITE. -/
def wfPlacementWrite (rid : Nat) (offset : Nat) (data : Bytes) (_poisoned : Bool) : Bool :=
  decide (rid < 65536) && decide (offset < 2 ^ 48) && decide (1 ≤ data.length ∧ data.length ≤ 4096)

/-- Operand check of PLACEMENT_FLUSH_READ. -/
def wfPlacementFlushRead (rid : Nat) (offset : Nat) (len : Nat) : Bool :=
  decide (rid < 65536) && decide (offset < 2 ^ 48) && decide (1 ≤ len ∧ len ≤ 4096)

/-- Operand check of CLEAR_ADMISSIONS. -/
def wfClearAdmissions (path : Nat) (value : Nat) : Bool :=
  isPath path && decide (value < 2 ^ 32)

/-- Operand check of CLEAR_HOST_COUNTERS. -/
def wfClearHostCounters (path : Nat) (value : Nat) : Bool :=
  isPath path && decide (value < 2 ^ 32)

/-- Operand check of OUTBOUND_REQUEST. -/
def wfOutboundRequest (h : Nat) (vc : Nat) : Bool :=
  decide (40 ≤ h ∧ h ≤ 43) && decide (vc < 9)

/-- Operand check of OUTBOUND_COMPLETION. -/
def wfOutboundCompletion (tag : Nat) (cpl : PcieCpl) : Bool :=
  decide (tag < 768) && wfPcieCpl cpl

/-- Operand check of OUTBOUND_COMPLETION_TIMEOUT. -/
def wfOutboundCompletionTimeout (tag : Nat) : Bool :=
  decide (tag < 768)

/-- Operand check of MSIX_REQUEST. -/
def wfMsixRequest (h : Nat) (_err : MemErr) : Bool :=
  decide (40 ≤ h ∧ h ≤ 43)

/-- Operand check of MSIX_UNMASK. -/
def wfMsixUnmask (f : Nat) (what : Unblock) : Bool :=
  decide (f < 16) && wfUnblock what

/-- Operand check of UNSUPPORTED_REQUEST. -/
def wfUnsupportedRequest (f : Nat) : Bool :=
  decide (f < 16)

/-- Operand check of LINK_PLL_LOCKED. -/
def wfLinkPllLocked (k : Nat) : Bool :=
  decide (k < 24)

/-- Operand check of SYNC_HEADER_LOCK. -/
def wfSyncHeaderLock (k : Nat) : Bool :=
  decide (k < 24)

/-- Operand check of EXTENDED_MULTIBLOCK_LOCK. -/
def wfExtendedMultiblockLock (k : Nat) (arrivals : List Nat) : Bool :=
  decide (k < 24) && wfArrivals arrivals

/-- Operand check of LINK_LOCK_TIMEOUT. -/
def wfLinkLockTimeout (k : Nat) : Bool :=
  decide (k < 24)

/-- Operand check of LANE_LOCK_LOSS. -/
def wfLaneLockLoss (l : Nat) (cause : Nat) (pll : Bool) : Bool :=
  decide (l < 24) && [3, 4, 7].contains cause && (!pll || cause == 7)

/-- Operand check of SYSREF_EDGE_SAMPLED. -/
def wfSysrefEdgeSampled (k : Nat) (_onBoundary : Bool) : Bool :=
  decide (k < 24)

/-- Operand check of RX_FRAME_RELEASE. -/
def wfRxFrameRelease (k : Nat) (_at_ : Int) (frames : List (List Nat)) (crcLanes : Nat) (syncLanes : Nat) (_err : MemErr) : Bool :=
  decide (k < 24) && wfFrames frames && decide (crcLanes < 16777216) && decide (syncLanes < 16777216)

/-- Operand check of SLOT_GRANT. -/
def wfSlotGrant (q : Nat) : Bool :=
  decide (q < 65536)

/-- Operand check of CP_TRIGGER. -/
def wfCpTrigger (n : Nat) : Bool :=
  decide (n < 24)

/-- Operand check of CP_TIMED_START. -/
def wfCpTimedStart (n : Nat) : Bool :=
  decide (n < 24)

/-- Operand check of CP_TIMED_STOP. -/
def wfCpTimedStop (n : Nat) : Bool :=
  decide (n < 24)

/-- Operand check of RECORD_END. -/
def wfRecordEnd (l : Nat) : Bool :=
  decide (l < 24)

/-- Operand check of RECORD_COMPLETE. -/
def wfRecordComplete (q : Nat) : Bool :=
  decide (q < 65536)

/-- Operand check of TX_PREFETCH_DONE. -/
def wfTxPrefetchDone (q : Nat) : Bool :=
  decide (q < 65536)

/-- Operand check of TX_FRAME_DUE. -/
def wfTxFrameDue (k : Nat) (_at_ : Int) (_err : MemErr) : Bool :=
  decide (k < 24)

/-- Operand check of CLEAR_CONVERTER_COUNTERS. -/
def wfClearConverterCounters (path : Nat) (value : Nat) : Bool :=
  isPath path && decide (value < 2 ^ 32)

/-- Operand check of FRAME_RECEIVE. -/
def wfFrameReceive (p : Nat) (_frame : Bytes) (_fcsOk : Bool) (_at_ : Int) (_corr : Nat) (_uncorr : Nat) : Bool :=
  decide (p < 4)

/-- Operand check of PFC_PAUSE_EXPIRY. -/
def wfPfcPauseExpiry (p : Nat) (prio : Nat) : Bool :=
  decide (p < 4) && decide (prio < 8)

/-- Operand check of PTP_TRANSMIT. -/
def wfPtpTransmit (p : Nat) (_frame : Bytes) (_oneStep : Bool) (_at_ : Int) : Bool :=
  decide (p < 4)

/-- Operand check of ETH_LINK_DOWN. -/
def wfEthLinkDown (p : Nat) : Bool :=
  decide (p < 4)

/-- Operand check of ETH_LINK_UP. -/
def wfEthLinkUp (p : Nat) : Bool :=
  decide (p < 4)

/-- Operand check of QP_MODIFY. -/
def wfQpModify (q : Nat) : Bool :=
  decide (q < 65536)

/-- Operand check of SEND. -/
def wfSend (q : Nat) : Bool :=
  decide (q < 65536)

/-- Operand check of RDMA_WRITE. -/
def wfRdmaWrite (q : Nat) : Bool :=
  decide (q < 65536)

/-- Operand check of RDMA_WRITE_IMM. -/
def wfRdmaWriteImm (q : Nat) : Bool :=
  decide (q < 65536)

/-- Operand check of RAW_SEND. -/
def wfRawSend (q : Nat) : Bool :=
  decide (q < 65536)

/-- Operand check of RECV. -/
def wfRecv (q : Nat) : Bool :=
  decide (q < 65536)

/-- Operand check of ROCE_PACKET_RECEIVE. -/
def wfRocePacketReceive (p : Nat) (_icrcOk : Bool) (_err : MemErr) (_qpErr : MemErr) : Bool :=
  decide (p < 4)

/-- Operand check of ACK_RECEIVE. -/
def wfAckReceive (p : Nat) (_icrcOk : Bool) (_err : MemErr) (_qpErr : MemErr) : Bool :=
  decide (p < 4)

/-- Operand check of RETRANSMIT_TIMEOUT. -/
def wfRetransmitTimeout (n : Nat) : Bool :=
  decide (n < 4096)

/-- Operand check of ACK_TIMER. -/
def wfAckTimer (n : Nat) : Bool :=
  decide (n < 4096)

/-- Operand check of RAW_DATAGRAM_SEND. -/
def wfRawDatagramSend (q : Nat) : Bool :=
  decide (q < 65536)

/-- Operand check of CLEAR_ETHERNET_COUNTERS. -/
def wfClearEthernetCounters (path : Nat) (value : Nat) : Bool :=
  isPath path && decide (value < 2 ^ 32)

/-- Operand check of DESCRIPTOR_DELIVERY. -/
def wfDescriptorDelivery (q : Nat) : Bool :=
  decide (q < 65536)

/-- Operand check of OP_FFT. -/
def wfOpFft (n : Nat) (_err : MemErr) : Bool :=
  decide (n < 8)

/-- Operand check of OP_FIR. -/
def wfOpFir (n : Nat) (_err : MemErr) : Bool :=
  decide (n < 8)

/-- Operand check of OP_DECIMATE. -/
def wfOpDecimate (n : Nat) (_err : MemErr) : Bool :=
  decide (n < 8)

/-- Operand check of OP_AVERAGE. -/
def wfOpAverage (n : Nat) (_err : MemErr) : Bool :=
  decide (n < 8)

/-- Operand check of OP_THRESHOLD. -/
def wfOpThreshold (n : Nat) (_err : MemErr) (_dropped : List Nat) : Bool :=
  decide (n < 8)

/-- Operand check of OP_CONVERT. -/
def wfOpConvert (n : Nat) (_err : MemErr) : Bool :=
  decide (n < 8)

/-- Operand check of OP_CHECKSUM. -/
def wfOpChecksum (n : Nat) (_err : MemErr) : Bool :=
  decide (n < 8)

/-- Operand check of DESCRIPTOR_END. -/
def wfDescriptorEnd (n : Nat) (_cycles : Nat) : Bool :=
  decide (n < 8)

/-- Operand check of DESCRIPTOR_TIME_LIMIT. -/
def wfDescriptorTimeLimit (n : Nat) (_cycles : Nat) : Bool :=
  decide (n < 8)

/-- Operand check of CLEAR_OPERATOR_COUNTERS. -/
def wfClearOperatorCounters (path : Nat) (value : Nat) : Bool :=
  isPath path && decide (value < 2 ^ 32)

/-- Operand check of REFERENCE_MEASUREMENT. -/
def wfReferenceMeasurement (m : List (Option Int)) : Bool :=
  wfOffsets m

/-- Operand check of REFERENCE_EDGE_LOSS. -/
def wfReferenceEdgeLoss (r : Nat) : Bool :=
  decide (r < 6)

/-- Operand check of REFERENCE_SWITCH_DONE. -/
def wfReferenceSwitchDone : Bool :=
  true

/-- Operand check of WAIT_TO_RESTORE_EXPIRY. -/
def wfWaitToRestoreExpiry : Bool :=
  true

/-- Operand check of OCXO_ABSENT. -/
def wfOcxoAbsent : Bool :=
  true

/-- Operand check of PLL_LOCK_LOSS. -/
def wfPllLockLoss (_ttu : Bool) : Bool :=
  true

/-- Operand check of SET_TIME. -/
def wfSetTime (path : Nat) (data : Bytes) : Bool :=
  isPath path && decide (data.length < 65536)

/-- Operand check of ADJUST_TIME. -/
def wfAdjustTime (path : Nat) (x : Int) : Bool :=
  isPath path && isInt64 x

/-- Operand check of SET_UTC. -/
def wfSetUtc (path : Nat) (value : Nat) : Bool :=
  isPath path && decide (value < 2 ^ 64)

/-- Operand check of SLEW_TICK. -/
def wfSlewTick : Bool :=
  true

/-- Operand check of TIME_STROBE. -/
def wfTimeStrobe : Bool :=
  true

/-- Operand check of SYNC_SEND. -/
def wfSyncSend : Bool :=
  true

/-- Operand check of REPLICA_RELOAD. -/
def wfReplicaReload (vc : Nat) : Bool :=
  decide (vc < 9)

/-- Operand check of PTP_MESSAGE. -/
def wfPtpMessage (state : Nat) (offset : Int) (delay : Nat) (adj : Int) : Bool :=
  decide (1 ≤ state ∧ state ≤ 9) && isInt64 offset && decide (delay < 2 ^ 32) && isInt64 adj

/-- Operand check of PTP_MASTER_LOSS. -/
def wfPtpMasterLoss (state : Nat) : Bool :=
  decide (1 ≤ state ∧ state ≤ 9)

/-- Operand check of TRIGGER_INPUT_EDGE. -/
def wfTriggerInputEdge (c : Nat) (_asserted : Bool) (_t : Nat) : Bool :=
  decide (1 ≤ c ∧ c ≤ 13)

/-- Operand check of TRIGGER_ORDER. -/
def wfTriggerOrder : Bool :=
  true

/-- Operand check of TRIGGER_EDGE_FIRE. -/
def wfTriggerEdgeFire (c : Nat) (_err : MemErr) : Bool :=
  decide (1 ≤ c ∧ c ≤ 13)

/-- Operand check of TRIGGER_PULSE_END. -/
def wfTriggerPulseEnd (c : Nat) : Bool :=
  decide (1 ≤ c ∧ c ≤ 13)

/-- Operand check of SYSREF_EDGE. -/
def wfSysrefEdge (k : Nat) : Bool :=
  decide (k < 6)

/-- Operand check of SYSREF_REANCHOR. -/
def wfSysrefReanchor (path : Nat) (k : Nat) (value : Nat) : Bool :=
  isPath path && decide (k < 6) && decide (value < 2 ^ 32)

/-- Operand check of ELECTION_FRAME_START. -/
def wfElectionFrameStart : Bool :=
  true

/-- Operand check of ELECTION_FRAME_END. -/
def wfElectionFrameEnd (word : Nat) (_crcOk : Bool) : Bool :=
  decide (word < 2 ^ 64)

/-- Operand check of HEARTBEAT_SEND. -/
def wfHeartbeatSend : Bool :=
  true

/-- Operand check of HEARTBEAT_RECEIVE. -/
def wfHeartbeatReceive (word : Nat) (secs : Nat) (ns : Nat) (_crcOk : Bool) : Bool :=
  decide (word < 2 ^ 64) && decide (secs < 2 ^ 48) && decide (ns < 1000000000)

/-- Operand check of HEARTBEAT_LOSS. -/
def wfHeartbeatLoss : Bool :=
  true

/-- Operand check of CLEAR_TIMING_COUNTERS. -/
def wfClearTimingCounters (path : Nat) (value : Nat) : Bool :=
  isPath path && decide (value < 2 ^ 32)

/-- Operand check of FAULT_EVENT_REGISTER. -/
def wfFaultEventRegister (_err : MemErr) (seen : List (Nat × Nat)) (cut : SpiCut) : Bool :=
  wfSeen seen && wfCut cut

/-- Operand check of FAULT_WINDOW_EXPIRY. -/
def wfFaultWindowExpiry (src : Nat) : Bool :=
  decide (src < 256)

/-- Operand check of CLEAR_SOURCE. -/
def wfClearSource (path : Nat) (src : Nat) (value : Nat) : Bool :=
  isPath path && decide (src < 256) && decide (value < 2 ^ 32)

/-- Operand check of CLEAR_ALL_SOURCES. -/
def wfClearAllSources (path : Nat) (value : Nat) : Bool :=
  isPath path && decide (value < 2 ^ 32)

/-- Operand check of CLEAR_FAULT_N. -/
def wfClearFaultN (path : Nat) (value : Nat) : Bool :=
  isPath path && decide (value < 2 ^ 32)

/-- Operand check of FIELD_INJECTION. -/
def wfFieldInjection (path : Nat) (value : Nat) : Bool :=
  isPath path && decide (value < 2 ^ 32)

/-- Operand check of CANCEL_INJECTION. -/
def wfCancelInjection (path : Nat) (value : Nat) : Bool :=
  isPath path && decide (value < 2 ^ 32)

/-- Operand check of FACTORY_INJECTION. -/
def wfFactoryInjection (path : Nat) (value : Nat) : Bool :=
  isPath path && decide (value < 2 ^ 32)

/-- Operand check of INHIBIT_TICK. -/
def wfInhibitTick (_a : Bool) (_b : Bool) : Bool :=
  true

/-- Operand check of ACKNOWLEDGE_DISCREPANCY. -/
def wfAcknowledgeDiscrepancy (path : Nat) (value : Nat) : Bool :=
  isPath path && decide (value < 2 ^ 32)

/-- Operand check of CLEAR_LINK_ERROR_RECORDS. -/
def wfClearLinkErrorRecords (path : Nat) (value : Nat) : Bool :=
  isPath path && decide (value < 2 ^ 32)

/-- Operand check of CLEAR_BRIDGE_COUNTERS. -/
def wfClearBridgeCounters (path : Nat) (value : Nat) : Bool :=
  isPath path && decide (value < 2 ^ 32)

/-- Operand check of PROBE_ARM. -/
def wfProbeArm (path : Nat) (j : Nat) : Bool :=
  isPath path && decide (j < 16)

/-- Operand check of PROBE_STOP. -/
def wfProbeStop (path : Nat) (j : Nat) : Bool :=
  isPath path && decide (j < 16)

/-- Operand check of PROBE_CLEAR. -/
def wfProbeClear (path : Nat) (j : Nat) : Bool :=
  isPath path && decide (j < 16)

/-- Operand check of PROBE_START_CONDITION. -/
def wfProbeStartCondition (j : Nat) : Bool :=
  decide (j < 16)

/-- Operand check of PROBE_STOP_CONDITION. -/
def wfProbeStopCondition (j : Nat) : Bool :=
  decide (j < 16)

/-- Operand check of RATE_INTERVAL_END. -/
def wfRateIntervalEnd (j : Nat) : Bool :=
  decide (j < 16)

/-- Operand check of TRACE_DRAIN_POLL. -/
def wfTraceDrainPoll (f : Nat) : Bool :=
  decide (f < 4)

/-- Operand check of FIRMWARE_START. -/
def wfFirmwareStart (_programmed : Bool) : Bool :=
  true

/-- Operand check of SAFE_HARBOUR_ENTRY. -/
def wfSafeHarbourEntry : Bool :=
  true

/-- Operand check of END_OF_BOOT. -/
def wfEndOfBoot : Bool :=
  true

/-- Operand check of TRIAL_CONFIRM. -/
def wfTrialConfirm : Bool :=
  true

/-- Operand check of LKC_RESTART. -/
def wfLkcRestart (cut : SpiCut) : Bool :=
  wfCut cut

/-- Operand check of OPEN. -/
def wfOpenUpdate (path : Nat) : Bool :=
  isPath path

/-- Operand check of UPDATE_ERASE_DONE. -/
def wfUpdateEraseDone (_ok : Bool) : Bool :=
  true

/-- Operand check of UPDATE_DATA. -/
def wfUpdateData (path : Nat) (data : Bytes) (programmed : Nat) : Bool :=
  isPath path && decide (1 ≤ data.length ∧ data.length ≤ 256) && decide (programmed < 65537)

/-- Operand check of VERIFY. -/
def wfVerify (path : Nat) : Bool :=
  isPath path

/-- Operand check of UPDATE_VERIFY_DONE. -/
def wfUpdateVerifyDone (_ok : Bool) : Bool :=
  true

/-- Operand check of CANCEL. -/
def wfCancel (path : Nat) : Bool :=
  isPath path

/-- Operand check of ACTIVATE. -/
def wfActivate (path : Nat) : Bool :=
  isPath path

/-- Operand check of ACTIVATE_FORCE. -/
def wfActivateForce (path : Nat) : Bool :=
  isPath path

/-- Operand check of ROLLBACK. -/
def wfRollback (path : Nat) : Bool :=
  isPath path

/-- Operand check of RESTART. -/
def wfRestart (path : Nat) : Bool :=
  isPath path

/-- Operand check of RESTART_DELAY_EXPIRY. -/
def wfRestartDelayExpiry (cut : SpiCut) : Bool :=
  wfCut cut

/-- Operand check of DOMAIN_CLOCK_START. -/
def wfDomainClockStart (d : Nat) : Bool :=
  decide (1 ≤ d ∧ d ≤ 0x29)

/-- Operand check of OCXO_RETURN. -/
def wfOcxoReturn : Bool :=
  true

/-- Operand check of RNR_RETRY_DELAY. -/
def wfRnrRetryDelay (n : Nat) : Bool :=
  decide (n < 4096)

/-- Whether a command's operands are ones that something outside can send. -/
def Instr.wellFormed : Instr → Bool
  | .mgmtCsNFall => wfMgmtCsNFall
  | .mgmtCsNRise cut => wfMgmtCsNRise cut
  | .storeGrant => wfStoreGrant
  | .spiIdleTimeout cut => wfSpiIdleTimeout cut
  | .read path idx sub len crcOk => wfRead path idx sub len crcOk
  | .writeStage path idx sub len data crcOk => wfWriteStage path idx sub len data crcOk
  | .commit path len expected crcOk => wfCommit path len expected crcOk
  | .revert path len expected crcOk => wfRevert path len expected crcOk
  | .discard path len crcOk => wfDiscard path len crcOk
  | .status path len crcOk => wfStatus path len crcOk
  | .save path len crcOk => wfSave path len crcOk
  | .saveComplete => wfSaveComplete
  | .saveFlashError => wfSaveFlashError
  | .unknownOpcodeFrame path op => wfUnknownOpcodeFrame path op
  | .loadSlot path slot => wfLoadSlot path slot
  | .storeAll path value => wfStoreAll path value
  | .restore path value => wfRestore path value
  | .imageLoadCommit => wfImageLoadCommit
  | .domainCapture d elapsedNs restarts => wfDomainCapture d elapsedNs restarts
  | .captureTimeout d => wfCaptureTimeout d
  | .mbGo f value => wfMbGo f value
  | .mbCancel f value => wfMbCancel f value
  | .nmtStart node => wfNmtStart node
  | .nmtStop node => wfNmtStop node
  | .nmtEnterPreOperational node => wfNmtEnterPreOperational node
  | .nmtResetApplication node => wfNmtResetApplication node
  | .nmtResetCommunication node => wfNmtResetCommunication node
  | .heartbeatProduce => wfHeartbeatProduce
  | .usdoInitiate write idx sub total data => wfUsdoInitiate write idx sub total data
  | .usdoSegment seqNo data last => wfUsdoSegment seqNo data last
  | .usdoTimeout => wfUsdoTimeout
  | .emcyTransmit => wfEmcyTransmit
  | .tpdoEvent k => wfTpdoEvent k
  | .canBusOff => wfCanBusOff
  | .canBusOffRecovery => wfCanBusOffRecovery
  | .ageTick => wfAgeTick
  | .routerFlitArrival at_ err crcErr => wfRouterFlitArrival at_ err crcErr
  | .switchAllocation r => wfSwitchAllocation r
  | .expressSetupPhase r parityX parityY => wfExpressSetupPhase r parityX parityY
  | .creditReturn at_ err => wfCreditReturn at_ err
  | .niInject n err => wfNiInject n err
  | .weirToken n b => wfWeirToken n b
  | .unitPostedWrite n part cls addr data => wfUnitPostedWrite n part cls addr data
  | .combineTimeout n k => wfCombineTimeout n k
  | .unitNonpostedRequest n part ty cls addr size data => wfUnitNonpostedRequest n part ty cls addr size data
  | .unitMessage n timed part cls dest mq code data relS relNs => wfUnitMessage n timed part cls dest mq code data relS relNs
  | .fencedMessage n part cls dest mq code data => wfFencedMessage n part cls dest mq code data
  | .fencedMessageInject n => wfFencedMessageInject n
  | .targetRequest n vc err => wfTargetRequest n vc err
  | .targetPostedWrite n vc => wfTargetPostedWrite n vc
  | .fenceMarkAnswer n vc => wfFenceMarkAnswer n vc
  | .responseArrival n vc err => wfResponseArrival n vc err
  | .retryReissue n tag => wfRetryReissue n tag
  | .responseTimeout n tag => wfResponseTimeout n tag
  | .messageArrival n vc => wfMessageArrival n vc
  | .mqDequeue n q err => wfMqDequeue n q err
  | .creditReturnSend n src => wfCreditReturnSend n src
  | .creditReturnRepeat n src => wfCreditReturnRepeat n src
  | .creditReturnReceive n vc => wfCreditReturnReceive n vc
  | .timedMessageArrival n vc => wfTimedMessageArrival n vc
  | .timedRelease n err => wfTimedRelease n err
  | .syncCheck n vc => wfSyncCheck n vc
  | .niDecerrClr n value => wfNiDecerrClr n value
  | .niStatClr n value => wfNiStatClr n value
  | .weirClr n value => wfWeirClr n value
  | .registerWrite door posted offset data => wfRegisterWrite door posted offset data
  | .matrixArbitration raised parityBad => wfMatrixArbitration raised parityBad
  | .matrixAccessComplete m fail err => wfMatrixAccessComplete m fail err
  | .debugPortReset => wfDebugPortReset
  | .remapSet => wfRemapSet
  | .bridgeRead vc err => wfBridgeRead vc err
  | .bridgeFetchDone => wfBridgeFetchDone
  | .delayedReadDiscard k => wfDelayedReadDiscard k
  | .prefetchFetchAhead src => wfPrefetchFetchAhead src
  | .bridgeWrite vc => wfBridgeWrite vc
  | .postedWritePerform err => wfPostedWritePerform err
  | .interruptLineEdge line => wfInterruptLineEdge line
  | .lkOutboundRequest lkc ty addr size data excl => wfLkOutboundRequest lkc ty addr size data excl
  | .clockLoss d => wfClockLoss d
  | .unitResetRelease u => wfUnitResetRelease u
  | .frequencyMeasurementPeriod f => wfFrequencyMeasurementPeriod f
  | .clearCrossingRecords path value => wfClearCrossingRecords path value
  | .partitionFence path p => wfPartitionFence path p
  | .partitionReset path p => wfPartitionReset path p
  | .partitionRelease path p => wfPartitionRelease path p
  | .drainComplete p => wfDrainComplete p
  | .drainTimeout p => wfDrainTimeout p
  | .fenceAcknowledge p => wfFenceAcknowledge p
  | .resetStepDone p => wfResetStepDone p
  | .releaseExecute t => wfReleaseExecute t
  | .flrVf k => wfFlrVf k
  | .flrPf0 => wfFlrPf0
  | .vfEnableSet n => wfVfEnableSet n
  | .unitReset path u value => wfUnitReset path u value
  | .dlDown => wfDlDown
  | .dlUp rate width => wfDlUp rate width
  | .linkLossDebounceExpiry cut => wfLinkLossDebounceExpiry cut
  | .hotReset cut => wfHotReset cut
  | .pdFence path k => wfPdFence path k
  | .pdOff path k => wfPdOff path k
  | .pdOn path k => wfPdOn path k
  | .pdRelease path k => wfPdRelease path k
  | .pdDrainComplete k => wfPdDrainComplete k
  | .pdDrainTimeout k => wfPdDrainTimeout k
  | .pdPowerUpDone k trained => wfPdPowerUpDone k trained
  | .pdPowerGoodTimeout k => wfPdPowerGoodTimeout k
  | .chipReset src cut => wfChipReset src cut
  | .perstNAssert cut => wfPerstNAssert cut
  | .powerOn => wfPowerOn
  | .railFall rail cut => wfRailFall rail cut
  | .resetRelease testMode bootSel => wfResetRelease testMode bootSel
  | .supplyMonitorSample rail above => wfSupplyMonitorSample rail above
  | .temperatureThreshold sensor reading => wfTemperatureThreshold sensor reading
  | .createQueue p => wfCreateQueue p
  | .destroyQueue p => wfDestroyQueue p
  | .destroyQueueDone q => wfDestroyQueueDone q
  | .modifyCq p => wfModifyCq p
  | .queryQueue p => wfQueryQueue p
  | .doorbell f value full poisoned => wfDoorbell f value full poisoned
  | .doorbellNoticeSend h => wfDoorbellNoticeSend h
  | .doorbellNotice n err => wfDoorbellNotice n err
  | .commandFetch q ctxPoison => wfCommandFetch q ctxPoison
  | .contextWriteback q => wfContextWriteback q
  | .nop q => wfNop q
  | .copy q => wfCopy q
  | .copyInline q => wfCopyInline q
  | .fillCmd q => wfFillCmd q
  | .fenceCmd q => wfFenceCmd q
  | .flushCmd q => wfFlushCmd q
  | .flushHp h => wfFlushHp h
  | .notify q => wfNotify q
  | .timedNotify q => wfTimedNotify q
  | .waitTime q => wfWaitTime q
  | .waitTimeReached q => wfWaitTimeReached q
  | .streamArm q => wfStreamArm q
  | .streamStop q => wfStreamStop q
  | .opExec q => wfOpExec q
  | .completionWrite q err => wfCompletionWrite q err
  | .cqModerationTimeout cq => wfCqModerationTimeout cq
  | .clearQueueCounters path value => wfClearQueueCounters path value
  | .windowRead f offset len err => wfWindowRead f offset len err
  | .windowWrite f offset data poisoned => wfWindowWrite f offset data poisoned
  | .windowBaseWrite f data poisoned => wfWindowBaseWrite f data poisoned
  | .pcClr f value poisoned => wfPcClr f value poisoned
  | .prefetchLineExpiry f addr => wfPrefetchLineExpiry f addr
  | .admission rid offset data poisoned => wfAdmission rid offset data poisoned
  | .revoke rid data poisoned => wfRevoke rid data poisoned
  | .admissionStatusRead rid offset len => wfAdmissionStatusRead rid offset len
  | .placementWrite rid offset data poisoned => wfPlacementWrite rid offset data poisoned
  | .placementFlushRead rid offset len => wfPlacementFlushRead rid offset len
  | .clearAdmissions path value => wfClearAdmissions path value
  | .clearHostCounters path value => wfClearHostCounters path value
  | .outboundRequest h vc => wfOutboundRequest h vc
  | .outboundCompletion tag cpl => wfOutboundCompletion tag cpl
  | .outboundCompletionTimeout tag => wfOutboundCompletionTimeout tag
  | .msixRequest h err => wfMsixRequest h err
  | .msixUnmask f what => wfMsixUnmask f what
  | .unsupportedRequest f => wfUnsupportedRequest f
  | .linkPllLocked k => wfLinkPllLocked k
  | .syncHeaderLock k => wfSyncHeaderLock k
  | .extendedMultiblockLock k arrivals => wfExtendedMultiblockLock k arrivals
  | .linkLockTimeout k => wfLinkLockTimeout k
  | .laneLockLoss l cause pll => wfLaneLockLoss l cause pll
  | .sysrefEdgeSampled k onBoundary => wfSysrefEdgeSampled k onBoundary
  | .rxFrameRelease k at_ frames crcLanes syncLanes err => wfRxFrameRelease k at_ frames crcLanes syncLanes err
  | .slotGrant q => wfSlotGrant q
  | .cpTrigger n => wfCpTrigger n
  | .cpTimedStart n => wfCpTimedStart n
  | .cpTimedStop n => wfCpTimedStop n
  | .recordEnd l => wfRecordEnd l
  | .recordComplete q => wfRecordComplete q
  | .txPrefetchDone q => wfTxPrefetchDone q
  | .txFrameDue k at_ err => wfTxFrameDue k at_ err
  | .clearConverterCounters path value => wfClearConverterCounters path value
  | .frameReceive p frame fcsOk at_ corr uncorr => wfFrameReceive p frame fcsOk at_ corr uncorr
  | .pfcPauseExpiry p prio => wfPfcPauseExpiry p prio
  | .ptpTransmit p frame oneStep at_ => wfPtpTransmit p frame oneStep at_
  | .ethLinkDown p => wfEthLinkDown p
  | .ethLinkUp p => wfEthLinkUp p
  | .qpModify q => wfQpModify q
  | .send q => wfSend q
  | .rdmaWrite q => wfRdmaWrite q
  | .rdmaWriteImm q => wfRdmaWriteImm q
  | .rawSend q => wfRawSend q
  | .recv q => wfRecv q
  | .rocePacketReceive p icrcOk err qpErr => wfRocePacketReceive p icrcOk err qpErr
  | .ackReceive p icrcOk err qpErr => wfAckReceive p icrcOk err qpErr
  | .retransmitTimeout n => wfRetransmitTimeout n
  | .ackTimer n => wfAckTimer n
  | .rawDatagramSend q => wfRawDatagramSend q
  | .clearEthernetCounters path value => wfClearEthernetCounters path value
  | .descriptorDelivery q => wfDescriptorDelivery q
  | .opFft n err => wfOpFft n err
  | .opFir n err => wfOpFir n err
  | .opDecimate n err => wfOpDecimate n err
  | .opAverage n err => wfOpAverage n err
  | .opThreshold n err dropped => wfOpThreshold n err dropped
  | .opConvert n err => wfOpConvert n err
  | .opChecksum n err => wfOpChecksum n err
  | .descriptorEnd n cycles => wfDescriptorEnd n cycles
  | .descriptorTimeLimit n cycles => wfDescriptorTimeLimit n cycles
  | .clearOperatorCounters path value => wfClearOperatorCounters path value
  | .referenceMeasurement m => wfReferenceMeasurement m
  | .referenceEdgeLoss r => wfReferenceEdgeLoss r
  | .referenceSwitchDone => wfReferenceSwitchDone
  | .waitToRestoreExpiry => wfWaitToRestoreExpiry
  | .ocxoAbsent => wfOcxoAbsent
  | .pllLockLoss ttu => wfPllLockLoss ttu
  | .setTime path data => wfSetTime path data
  | .adjustTime path x => wfAdjustTime path x
  | .setUtc path value => wfSetUtc path value
  | .slewTick => wfSlewTick
  | .timeStrobe => wfTimeStrobe
  | .syncSend => wfSyncSend
  | .replicaReload vc => wfReplicaReload vc
  | .ptpMessage state offset delay adj => wfPtpMessage state offset delay adj
  | .ptpMasterLoss state => wfPtpMasterLoss state
  | .triggerInputEdge c asserted t => wfTriggerInputEdge c asserted t
  | .triggerOrder => wfTriggerOrder
  | .triggerEdgeFire c err => wfTriggerEdgeFire c err
  | .triggerPulseEnd c => wfTriggerPulseEnd c
  | .sysrefEdge k => wfSysrefEdge k
  | .sysrefReanchor path k value => wfSysrefReanchor path k value
  | .electionFrameStart => wfElectionFrameStart
  | .electionFrameEnd word crcOk => wfElectionFrameEnd word crcOk
  | .heartbeatSend => wfHeartbeatSend
  | .heartbeatReceive word secs ns crcOk => wfHeartbeatReceive word secs ns crcOk
  | .heartbeatLoss => wfHeartbeatLoss
  | .clearTimingCounters path value => wfClearTimingCounters path value
  | .faultEventRegister err seen cut => wfFaultEventRegister err seen cut
  | .faultWindowExpiry src => wfFaultWindowExpiry src
  | .clearSource path src value => wfClearSource path src value
  | .clearAllSources path value => wfClearAllSources path value
  | .clearFaultN path value => wfClearFaultN path value
  | .fieldInjection path value => wfFieldInjection path value
  | .cancelInjection path value => wfCancelInjection path value
  | .factoryInjection path value => wfFactoryInjection path value
  | .inhibitTick a b => wfInhibitTick a b
  | .acknowledgeDiscrepancy path value => wfAcknowledgeDiscrepancy path value
  | .clearLinkErrorRecords path value => wfClearLinkErrorRecords path value
  | .clearBridgeCounters path value => wfClearBridgeCounters path value
  | .probeArm path j => wfProbeArm path j
  | .probeStop path j => wfProbeStop path j
  | .probeClear path j => wfProbeClear path j
  | .probeStartCondition j => wfProbeStartCondition j
  | .probeStopCondition j => wfProbeStopCondition j
  | .rateIntervalEnd j => wfRateIntervalEnd j
  | .traceDrainPoll f => wfTraceDrainPoll f
  | .firmwareStart programmed => wfFirmwareStart programmed
  | .safeHarbourEntry => wfSafeHarbourEntry
  | .endOfBoot => wfEndOfBoot
  | .trialConfirm => wfTrialConfirm
  | .lkcRestart cut => wfLkcRestart cut
  | .openUpdate path => wfOpenUpdate path
  | .updateEraseDone ok => wfUpdateEraseDone ok
  | .updateData path data programmed => wfUpdateData path data programmed
  | .verify path => wfVerify path
  | .updateVerifyDone ok => wfUpdateVerifyDone ok
  | .cancel path => wfCancel path
  | .activate path => wfActivate path
  | .activateForce path => wfActivateForce path
  | .rollback path => wfRollback path
  | .restart path => wfRestart path
  | .restartDelayExpiry cut => wfRestartDelayExpiry cut
  | .domainClockStart d => wfDomainClockStart d
  | .ocxoReturn => wfOcxoReturn
  | .rnrRetryDelay n => wfRnrRetryDelay n

end Sys2Proof
end

