-- ==== Sys2Proof/Machine/Probes.lean ====
section
/-! DEFINITION. Probes and trace (spec/18): matching, records, the rate meter, start and stop. -/
namespace Sys2Proof.Machine

/-- Probe `j`. -/
def Dev.probe (d : Dev) (j : Nat) : Probe := d.probes.probe.get {} j

/-- The device with `f` applied to probe `j`. -/
def Dev.upProbe (j : Nat) (f : Probe → Probe) (d : Dev) : Dev :=
  { d with probes := { d.probes with probe := d.probes.probe.modify {} j f } }

/-- Object of probe `j` in the FCLK shadow, where probe settings apply (R502). -/
def Dev.probeCfg (d : Dev) (j sub : Nat) : Nat := d.fcfg.nat (0x2F10 + j) sub

/-- A 12-byte time object (as 0x2D10:01) as an FCLK count. -/
def timeOf (b : Bytes) : Int := timeCount (b.le 0 6) (b.le 6 4)

/-- Whether the stop condition of probe `j` holds (R507). -/
def stopHolds (d : Dev) (j : Nat) : Bool :=
  let m := d.probeCfg j 0xE
  let x := d.probe j
  if m = 1 then decide (d.probeCfg j 0xF ≤ x.produced)
  else if m = 2 then decide (timeOf (d.fcfg.bytesAt 0 (0x2F10 + j) 0x10) ≤ d.replica 66)
  else if m = 3 ∨ m = 4 then x.stopSeen
  else false

/-- Whether a RUNNING probe counts no more, its stop condition having come: a stop event lets the rest of its own cycle count
(R507, R508). -/
def stopDue (d : Dev) (j : Nat) : Bool :=
  let m := d.probeCfg j 0xE
  stopHolds d j && (m == 1 || m == 2 || decide ((d.probe j).stopAt < d.clock.edges))

/-- Whether a running probe matches a head that crosses side `side` (0 inject, 1 eject) of NI `n` (R499). -/
def probeMatches (d : Dev) (n side : Nat) (p : Packet) (j : Nat) : Bool :=
  let sd := d.probeCfg j 3
  let sN := d.probeCfg j 4
  let dN := d.probeCfg j 5
  (d.probe j).state == 2 && !stopDue d j && d.probeCfg j 2 == n && (sd == side || sd == 2)
    && (sN == p.src || sN == 0xFF) && (dN == p.dest || dN == 0xFF)
    && bitOf (d.probeCfg j 6) p.cls && bitOf (d.probeCfg j 7) p.part && bitOf (d.probeCfg j 8) p.ty

/-- Seconds and FCLK count within the second of a replica. -/
def splitCount (t : Int) : Nat × Nat :=
  ((t / (fclkPerSec : Int)).toNat, (t % (fclkPerSec : Int)).toNat)

/-- The trace record of a packet (R503). -/
def traceRecord (d : Dev) (n side : Nat) (p : Packet) (nxt j : Nat) (lost : Bool) : Bytes :=
  let t := splitCount (d.replica 66)
  let body :=
    if p.ty ≤ 3 then leBytes 6 p.addr ++ [byte (p.size - 1)]
    else if p.ty = 8 ∨ p.ty = 9 then [byte p.status, byte p.addr, byte (p.size - 1)] ++ leBytes 4 0
    else [byte p.mq] ++ leBytes 2 p.code ++ leBytes 4 0
  let last :=
    if p.ty = 5 then leBytes 4 p.relNs
    else if p.ty = 4 then padTo 4 p.data
    else leBytes 4 0
  leBytes 6 t.1 ++ leBytes 4 t.2 ++ [byte (j + 16 * side + 32 * b2n lost), byte n]
    ++ leBytes 8 (pktRouteWord p nxt) ++ body ++ [byte 0] ++ last

/-- FIFO `f` of the probe unit. -/
def Dev.fifo (d : Dev) (f : Nat) : TraceFifo := d.probes.fifo.get {} f

/-- The device with `g` applied to FIFO `f`. -/
def Dev.upFifo (f : Nat) (g : TraceFifo → TraceFifo) (d : Dev) : Dev :=
  { d with probes := { d.probes with fifo := d.probes.fifo.modify {} f g } }

/-- The probe of a record. -/
def recordProbe (r : Bytes) : Nat := r.le 10 1 % 16

/-- The records of one edge with one more, in ascending probe number (R504). -/
def insertRecord (r : Bytes) : List Bytes → List Bytes
  | [] => [r]
  | x :: t => if recordProbe r < recordProbe x then r :: x :: t else x :: insertRecord r t

/-- A record of probe `j` is lost (R504). -/
def loseRecord (f j : Nat) (d : Dev) : Dev :=
  (d.upFifo f fun y => { y with lost := satAdd 48 y.lost 1 }).upProbe j fun y =>
    { y with lost := satAdd 48 y.lost 1, lostFlag := true }

/-- A record of probe `j` reaches FIFO `f`: of the records of one edge the two of the lowest probes that find room are stored, in
ascending probe number, and another is lost (R504). -/
def storeRecord (f j : Nat) (mk : Bool → Bytes) (d : Dev) : Dev :=
  let x := d.fifo f
  let k := if x.lastEdge = d.clock.edges then x.atEdge else 0
  let base := x.recs.take (x.recs.length - k)
  let all := insertRecord (mk (d.probe j).lostFlag) (x.recs.drop (x.recs.length - k))
  let room := min 2 (512 - base.length)
  let d1 := (d.upFifo f fun y => { y with
      recs := base ++ all.take room, atEdge := (all.take room).length, lastEdge := d.clock.edges }).upProbe j fun y =>
    { y with records := satAdd 48 y.records 1, produced := y.produced + 1, lostFlag := false }
  Dev.fold (all.drop room) (fun r => loseRecord f (recordProbe r)) d1

/-- The start event and the stop event of probe `j` occur at this edge where `start` and `stop` say so: an ARMED probe notes
when, for the stop that falls in the cycle of its start (R507, R508). -/
def probeEvent (j : Nat) (start stop : Bool) (d : Dev) : Dev :=
  let x := d.probe j
  let now := d.clock.edges
  if x.state = 1 then d.upProbe j fun y => { y with
    startSeen := y.startSeen || start, startAt := if start && !y.startSeen then now else y.startAt
    stopSeen := y.stopSeen || stop, stopAt := if stop then now else y.stopAt }
  else if x.state = 2 ∧ stop = true ∧ x.stopSeen = false then d.upProbe j fun y => { y with stopSeen := true, stopAt := now }
  else d

/-- A match of probe `k` is the event that start or stop mode names for the other probes (R507, R514). -/
def signalMatch (k : Nat) (d : Dev) : Dev :=
  Dev.fold ((List.range 16).filter fun j => j != k) (fun j e =>
    probeEvent j (e.probeCfg j 0xB == 2 && e.probeCfg j 0xC == k) (e.probeCfg j 0xE == 3 && e.probeCfg j 0xF == k) e) d

/-- One probe's account of a matching head (R499, R501, R503). -/
def countMatch (n side : Nat) (p : Packet) (nxt j : Nat) (d : Dev) : Dev :=
  let fl := pktFlits p
  let k := (d.probe j).matched
  let d1 := d.upProbe j fun y => { y with
    packets := satAdd 48 y.packets 1, flits := satAdd 48 y.flits fl, interval := y.interval + fl, matched := y.matched + 1 }
  let f := d.probeCfg j 0xA
  let d2 := if f < 4 ∧ k % max 1 (d.probeCfg j 9) = 0 then storeRecord f j (traceRecord d n side p nxt j) d1 else d1
  signalMatch j d2

/-- PROBE_MATCH: a head crosses a tapped local link (R499); probes act in ascending order (R504). -/
def probeTap (n side : Nat) (p : Packet) (nxt : Nat) (d : Dev) : Dev :=
  Dev.fold (List.range 16) (fun j e => if probeMatches d n side p j then countMatch n side p nxt j e else e) d

/-- A probe enters RUNNING (R501). -/
def probeRun (j : Nat) (d : Dev) : Dev :=
  d.upProbe j fun y => { y with
    state := 2, valid := false, last := 0, interval := 0, matched := 0, produced := 0, startSeen := false
    stopSeen := false }

/-- The command STOP (R507). -/
def probeStop (j : Nat) (d : Dev) : Dev :=
  let st := (d.probe j).state
  if st = 1 ∨ st = 2 then d.upProbe j fun y => { y with state := 3, interval := 0 } else d

/-- The command CLEAR (R500, R507). -/
def probeClear (j : Nat) (d : Dev) : Dev :=
  d.upProbe j fun y => { y with
    packets := 0, flits := 0, records := 0, lost := 0, last := 0, peak := 0, valid := false }

/-- Whether the start condition of probe `j` holds (R507). -/
def startHolds (d : Dev) (j : Nat) : Bool :=
  let m := d.probeCfg j 0xB
  if m = 1 then decide (timeOf (d.fcfg.bytesAt 0 (0x2F10 + j) 0xD) ≤ d.replica 66)
  else if m = 2 ∨ m = 3 then (d.probe j).startSeen
  else m == 0

/-- Whether the stop condition of an ARMED probe falls in the cycle of its start (R508): the stop time is reached, or the
stop event occurred at the edge of the start event. -/
def stopWithStart (d : Dev) (j : Nat) : Bool :=
  let sm := d.probeCfg j 0xB
  let m := d.probeCfg j 0xE
  let x := d.probe j
  if m = 2 then stopHolds d j
  else if m = 3 ∨ m = 4 then x.stopSeen && x.stopAt == (if sm = 2 ∨ sm = 3 then x.startAt else d.clock.edges)
  else false

/-- PROBE_START_CONDITION: an armed probe whose start condition holds runs; a stop in the same cycle wins (R508). -/
def probeStartCondition (j : Nat) (d : Dev) : Dev :=
  if (d.probe j).state = 1 ∧ startHolds d j = true then
    if stopWithStart d j then d.upProbe j fun y => { y with state := 3 }
    else probeRun j d
  else d

/-- The command ARM (R507): start mode 0 starts at once, and a stop of the same cycle wins (R508). -/
def probeArm (j : Nat) (d : Dev) : Dev :=
  let st := (d.probe j).state
  if st = 0 ∨ st = 3 then
    let d1 := d.upProbe j fun y => { y with state := 1, startSeen := false, stopSeen := false }
    if d.probeCfg j 0xB = 0 then probeStartCondition j d1 else d1
  else d

/-- PROBE_STOP_CONDITION: a running probe whose stop condition holds stops (R507). -/
def probeStopCondition (j : Nat) (d : Dev) : Dev :=
  if (d.probe j).state = 2 ∧ stopHolds d j = true then d.upProbe j fun y => { y with state := 3, interval := 0 } else d

/-- RATE_INTERVAL_END: the interval in progress of a running probe ends (R501). -/
def rateIntervalEnd (j : Nat) (d : Dev) : Dev :=
  if (d.probe j).state = 2 then
    d.upProbe j fun y => { y with last := y.interval, peak := max y.peak y.interval, valid := true, interval := 0 }
  else d

/-- An input edge of trigger line `c` reaches the PRB (R508): start mode 3, stop mode 4. -/
def signalLine (c : Nat) (d : Dev) : Dev :=
  Dev.fold (List.range 16) (fun j e =>
    probeEvent j (e.probeCfg j 0xB == 3 && e.probeCfg j 0xC == c) (e.probeCfg j 0xE == 4 && e.probeCfg j 0xF == c) e) d

/-- A commit that changes the rate interval of a running probe restarts its meter cold at the FCLK apply edge (R502). -/
def metersAtApply (old new : Cfg) (d : Dev) : Dev :=
  Dev.fold (List.range 16) (fun j e =>
    if (e.probe j).state = 2 ∧ old.nat (0x2F10 + j) 0x11 ≠ new.nat (0x2F10 + j) 0x11 then
      e.upProbe j fun y => { y with valid := false, last := 0, interval := 0 }
    else e) d

/-- The probe unit after reset (R512). -/
def resetProbes (d : Dev) : Dev := { d with probes := {} }

/-- PROBE_ATTACH of NI `n` (R511). -/
def probeAttach (d : Dev) (n : Nat) : Nat :=
  (List.range 16).foldl (fun acc j =>
    let on := (d.probe j).state == 2 && d.probeCfg j 2 == n
    let sd := d.probeCfg j 3
    acc + (if on && (sd == 0 || sd == 2) then 2 ^ j else 0) + (if on && (sd == 1 || sd == 2) then 2 ^ (16 + j) else 0)) 0

/-! Meanings. -/

/-- PROBE_START_CONDITION: An armed probe's start time, probe match or line edge occurs and it enters RUNNING (R508). -/
def execProbeStartCondition (j : Nat) (s : State) : Host.Outcome State Fault Refusal :=
  act (wfProbeStartCondition j) (probeStartCondition j) s

/-- PROBE_STOP_CONDITION: A running probe's stop count, time, match or line edge occurs and it enters STOPPED (R508). -/
def execProbeStopCondition (j : Nat) (s : State) : Host.Outcome State Fault Refusal :=
  act (wfProbeStopCondition j) (probeStopCondition j) s

/-- RATE_INTERVAL_END: A probe's rate interval ends and LAST, PEAK and VALID update (R501). -/
def execRateIntervalEnd (j : Nat) (s : State) : Host.Outcome State Fault Refusal :=
  act (wfRateIntervalEnd j) (rateIntervalEnd j) s

end Sys2Proof.Machine
end

