-- ==== Sys2Proof/Machine/Network.lean ====
section
/-! DEFINITION. Routers, links and express reaches (spec/05), urgency and arbitration at a router (spec/06). -/
namespace Sys2Proof.Machine

/-- Router `r`. -/
def Dev.router (d : Dev) (r : Nat) : Router := d.net.routers.get {} r

/-- The device with `f` applied to router `r`. -/
def Dev.upRouter (r : Nat) (f : Router → Router) (d : Dev) : Dev :=
  { d with net := { d.net with routers := d.net.routers.modify {} r f } }

/-- Input VC `k` (16·port + VC) of a router. -/
def Router.vc (x : Router) (k : Nat) : InVc := x.inp.get {} k

/-- A router with `f` applied to input VC `k`. -/
def Router.upVc (k : Nat) (f : InVc → InVc) (x : Router) : Router := { x with inp := x.inp.modify {} k f }

/-- Whether a router's output VC has a credit (R125). -/
def Router.credit (x : Router) (port vc : Nat) : Bool := decide (x.used.get 0 (16 * port + vc) < depthOut port vc)

/-- A link error of sources 0x00 to 0x08: counted at the router, captured, and counted as a fault event (R134 to
R138). An error that an NI finds at its input counts at the NI's router (DESIGN CHOICE, log entry 73). -/
def linkError (src r port vc synd : Nat) (inj : Bool) (d : Dev) : Dev :=
  let c := d.net.cap
  let cap : LinkCapture :=
    if c.valid then { c with further := inc32 c.further }
    else { valid := true, source := src, router := r, port := port, vc := vc, syndrome := synd, further := c.further }
  let sub := if src = 0 then 1 else if src = 1 then 2 else if src = 2 then 3 else if src = 6 then 4 else 0
  let d1 := { d with net := { d.net with cap := cap } }
  let d2 := if sub = 0 then d1 else d1.upRouter r fun x => { x with counts := x.counts.modify 0 sub inc32 }
  d2.raise src r 0xFF 0 inj

/-- A credit for VC `vc` goes back to the sender on the link into router `r`, port `p` (R125); none for a direction that is
stopped (R135). -/
def creditBack (r p vc : Nat) (d : Dev) : Dev :=
  if bitOf (d.router r).stopped p then d
  else if p < 6 then
    match neighbour r p with
    | some (r2, p2) => { d with net := { d.net with credR := d.net.credR.modify [] (8 * r2 + p2) (· ++ [vc]) } }
    | none => d
  else { d with net := { d.net with credN := d.net.credN.modify [] (routerNi r (p - 6)) (· ++ [vc]) } }

/-- The check bits that an armed field injection inverts on the next valid flit at an input of router `r` (R568). -/
def injectedBits (d : Dev) (r : Nat) (head : Bool) : LinkErr :=
  if d.armedFor 0x00 r then { half0 := { check := 1 } }
  else if d.armedFor 0x01 r then { half1 := { check := 3 } }
  else if d.armedFor 0x02 r then { ctl := { check := 1 } }
  else if d.armedFor 0x03 r then { ctl := { check := 3 } }
  else if d.armedFor 0x04 r && head then { half0 := { check := 3 } }
  else {}

/-- What the checks of a link do with a cycle (R134, R135): the direction goes on, with the data poisoned or not, or is
stopped. -/
inductive LinkOutcome where
  | accept (poison : Bool) (flips : Nat)
  | stop
  deriving DecidableEq, Repr

/-- The check of one data half; `h` its number, `head` whether the cycle carries a head flit (R134, R568). -/
def halfCheck (r p vc h : Nat) (head : Bool) (e : WordErr) (inj : Bool) (d : Dev) : Dev :=
  let s := errSyndrome 128 9 e + 4096 + 8192 * h + (if head then 16384 else 0)
  match errFinds 128 9 e with
  | .none => d
  | .corrected => linkError 0x00 r p vc s (inj && d.faults.inj.src == 0x00) d
  | .uncorrectable =>
    let src := if head && h == 0 then 0x04 else 0x01
    linkError src r p vc s (inj && d.faults.inj.src == src) d

/-- The checks of R134 and R135 on a cycle of the direction into router `r`, port `p` (0xFF for an NI input), with the flit it
carries. An uncorrectable control word leaves HEAD and VC unread, so nothing more is checked. -/
def linkCheck (r p : Nat) (f : Option Flit) (err : LinkErr) (d : Dev) : LinkOutcome × Dev :=
  let head := (f.bind (·.pkt)).isSome
  let vc := (f.map (·.vc)).getD 0
  let bits : LinkErr := if f.isSome ∧ p ≠ 0xFF then injectedBits d r head else {}
  let inj := bits != {}
  let e := linkErrJoin err bits
  let d0 := if inj then d.spend else d
  let hb := if head then 16384 else 0
  let s := errSyndrome 16 6 e.ctl + hb
  match errFinds 16 6 e.ctl with
  | .uncorrectable => (.stop, linkError 0x03 r p 0xFF s (inj && d.faults.inj.src == 0x03) d0)
  | c =>
    let d1 := if c = .corrected then linkError 0x02 r p vc s (inj && d.faults.inj.src == 0x02) d0 else d0
    let d2 := halfCheck r p vc 1 head e.half1 inj (halfCheck r p vc 0 head e.half0 inj d1)
    let bad0 := errFinds 128 9 e.half0 == .uncorrectable
    let bad1 := errFinds 128 9 e.half1 == .uncorrectable
    if bad0 && head then (.stop, d2)
    else (.accept (bad0 || bad1)
      ((if bad0 then e.half0.data % 2 ^ 128 else 0) + 2 ^ 128 * (if bad1 then e.half1.data % 2 ^ 128 else 0)), d2)

/-- Whether a head's route is impossible at router `r` for a flit that came in on port `p` (R128). -/
def routeBad (r p : Nat) (f : Flit) : Bool :=
  match f.pkt with
  | none => false
  | some q => decide ((niPlace q.dest).1 > 47) || !hasPort r f.nxt || (decide (6 ≤ p) && f.nxt == p)

/-- A flit is accepted at router input (r, p): buffered, or discarded on a route error to its tail (R128). -/
def routerAccept (r p : Nat) (f : Flit) (d : Dev) : Dev :=
  let k := 16 * p + f.vc
  let x := (d.router r).vc k
  if x.dropping then
    creditBack r p f.vc (d.upRouter r (Router.upVc k fun y => { y with dropping := !f.tail }))
  else if routeBad r p f then
    let d1 := linkError 0x07 r p f.vc (if f.pkt.isSome then 16384 else 0) false d
    creditBack r p f.vc (d1.upRouter r (Router.upVc k fun y => { y with dropping := !f.tail }))
  else d.upRouter r (Router.upVc k fun y => { y with q := y.q ++ [f] })

/-- Index of the AGE_MAX field of a class: 0 for P, 1 for B, 2 for S. -/
def noteAgeMax (p : Packet) (x : Ni) : Ni :=
  if p.cls = 0 then x else
  let v := x.reg 0x4020
  let lo := 16 * (p.cls - 1)
  let cur := bitsOf v (lo + 9) lo
  if cur < p.age then { x with regs := x.regs.set 0x4020 (v + (p.age - cur) * 2 ^ lo) } else x

/-- The flits up to and with a tail, and the rest. -/
def upToTail : List Flit → List Flit × List Flit
  | [] => ([], [])
  | f :: t => if f.tail then ([f], t) else (f :: (upToTail t).1, (upToTail t).2)

/-- The NI takes the flits of the packet at the front of an ejection buffer as they come, until it has the packet; their
credits return as they leave the buffer (R125), unless the direction is stopped (R135). It takes the next packet when this
one is acted on. -/
def takeFlits (n vc : Nat) (d : Dev) : Dev :=
  let x := d.ni n
  let had := x.taken.get [] vc
  let s := upToTail (x.ej.get [] vc)
  if (had.any fun f => f.tail) || s.1.isEmpty then d
  else
    let pl := niPlace n
    let d1 := d.upNi n fun y => { y with taken := y.taken.set vc (had ++ s.1), ej := y.ej.set vc s.2 }
    if x.stopped then d1
    else { d1 with net := { d1.net with
        credR := d1.net.credR.modify [] (8 * pl.1 + 6 + pl.2) (· ++ s.1.map fun _ => vc) } }

/-- The flits of the last packet of a row of flits: from its head on (R120). -/
def lastPacket : List Flit → List Flit
  | [] => []
  | f :: t => if t.any fun g => g.pkt.isSome then lastPacket t else f :: t

/-- Whether PKT_CRC of the packet that a tail flit ends is wrong at NI `n`: computed over the flits that have come, or
corrupted where no link check sees it (`crcErr`) (R124, R137). -/
def crcWrong (x : Ni) (f : Flit) (crcErr : Bool) : Bool :=
  f.tail && (crcErr || flitsCrc (lastPacket (x.taken.get [] f.vc ++ x.ej.get [] f.vc ++ [f])) != f.crc)

/-- A flit is accepted at the input of NI `n` (R134, R137, R192). The arrival of a whole REQ packet is put in order (R28). -/
def niAccept (n : Nat) (f : Flit) (crcErr : Bool) (d : Dev) : Dev :=
  let r := (niPlace n).1
  let inj := f.tail && d.armedFor 0x05 r
  let bad := crcWrong (d.ni n) f crcErr || inj
  let d0 := if inj then d.spend else d
  let d1 := if bad then linkError 0x05 r 0xFF f.vc (if f.pkt.isSome then 16384 else 0) inj d0 else d0
  let d2 := match f.pkt with
    | some p => probeTap n 1 p f.nxt (d1.upNi n (noteAgeMax p))
    | none => d1
  takeFlits n f.vc (d2.upNi n fun y => { y with
    ej := y.ej.modify [] f.vc (· ++ [{ f with crcBad := bad }])
    arrivals := if f.tail && decide (f.vc < 3) then y.arrivals ++ [f.vc] else y.arrivals })

/-- ROUTER_FLIT_ARRIVAL: a cycle of a link ends at a router or NI input, with the next flit on it where there is one
(R134). -/
def routerFlitArrival (dst : FlitDest) (err : LinkErr) (crcErr : Bool) (d : Dev) : Dev :=
  match dst with
  | .router r p =>
    if bitOf (d.router r).stopped p ∨ hasPort r p = false then d
    else
      let w := d.net.wireR.get [] (8 * r + p)
      let d0 := { d with net := { d.net with wireR := d.net.wireR.set (8 * r + p) w.tail } }
      match linkCheck r p w.head? err d0, w.head? with
      | (.stop, d1), _ => d1.upRouter r fun x => { x with stopped := setBit x.stopped p true }
      | (.accept b x, d1), some f => routerAccept r p { f with poison := f.poison || b, flips := Nat.xor f.flips x } d1
      | (.accept _ _, d1), none => d1
  | .ni n =>
    if (d.ni n).stopped then d
    else
      let w := d.net.wireN.get [] n
      let d0 := { d with net := { d.net with wireN := d.net.wireN.set n w.tail } }
      match linkCheck (niPlace n).1 0xFF w.head? err d0, w.head? with
      | (.stop, d1), _ => d1.upNi n fun x => { x with stopped := true }
      | (.accept b x, d1), some f => niAccept n { f with poison := f.poison || b, flips := Nat.xor f.flips x } crcErr d1
      | (.accept _ _, d1), none => d1

/-- A flit that asks for an output: input port, VC, output, urgency. -/
structure Cand where
  port : Nat
  vc : Nat
  out : Nat
  urg : Nat
  deriving DecidableEq, Repr

/-- The output, class and age of a flit at router `r`, input (port, vc). -/
def flitWants (x : Router) (port vc : Nat) (f : Flit) : Option (Nat × Nat × Nat) :=
  match f.pkt with
  | some p => some (f.nxt, p.cls, p.age)
  | none =>
    let v := x.vc (16 * port + vc)
    v.following.map fun o => (o, v.cls, v.age)

/-- Whether a flit may use its output VC now: a credit, and the VC free or held by this input VC (R150). -/
def mayUse (x : Router) (port vc out : Nat) : Bool :=
  x.credit out vc &&
    (match x.held.find? (16 * out + vc) with
     | none => true
     | some k => k == 16 * port + vc)

/-- A flit at an input as a candidate, whether or not its output is usable. -/
def candOf (c : Cfg) (x : Router) (port vc : Nat) (f : Flit) : Option Cand :=
  (flitWants x port vc f).map fun w => { port := port, vc := vc, out := w.1, urg := urgency c w.2.1 w.2.2 }

/-- The front flits of the mesh and local inputs that may use their output VC now (R150, but for reservations). -/
def meshCands (c : Cfg) (x : Router) : List Cand :=
  (x.inp.filterMap fun e =>
    let port := e.1 / 16
    let vc := e.1 % 16
    if port = 4 ∨ port = 5 then none
    else match e.2.q with
      | [] => none
      | f :: _ => candOf c x port vc f).filter fun k => mayUse x k.port k.vc k.out

/-- The candidates of this cycle: no reserved output (R150). -/
def combCands (c : Cfg) (x : Router) : List Cand := (meshCands c x).filter fun k => !(x.resNow.has k.out)

/-- The keys of R151: urgency, then distance from the output pointer, then from the input's VC pointer. -/
def candBefore (x : Router) (a b : Cand) : Bool :=
  let da := (a.port + 8 - x.optr.get 0 a.out % 8) % 8
  let db := (b.port + 8 - x.optr.get 0 b.out % 8) % 8
  let va := (a.vc + 9 - x.iptr.get 0 a.port % 9) % 9
  let vb := (b.vc + 9 - x.iptr.get 0 b.port % 9) % 9
  decide (b.urg < a.urg) || (a.urg == b.urg && (decide (da < db) || (da == db && decide (va < vb))))

/-- The grants of R151: in key order, each candidate whose input port and output are both ungranted. -/
def grants : List Cand → List Nat → List Nat → List Cand
  | [], _, _ => []
  | c :: t, ins, outs =>
    if ins.contains c.port || outs.contains c.out then grants t ins outs
    else c :: grants t (c.port :: ins) (c.out :: outs)

/-- The pointer moves of R152 for a winner: `rivals` for its output, with their urgencies, and `mine`, the candidates of its
own input. -/
def movePointers (rivals : List (Nat × Nat)) (mine : List Cand) (w : Cand) (x : Router) : Router :=
  let tieO := rivals.any fun k => k.1 == w.out && k.2 == w.urg
  let tieI := mine.any fun k => k.port == w.port && k.urg == w.urg && k.vc != w.vc
  { x with
    optr := if tieO then x.optr.set w.out ((w.port + 1) % 8) else x.optr
    iptr := if tieI then x.iptr.set w.port ((w.vc + 1) % 9) else x.iptr }

/-- The pointer moves that the setup grants of a cycle leave for its end: where a setup grant and a combinational grant
move one pointer, the setup grant's move stands (DESIGN CHOICE, log entry 74). -/
def mergeMoves (t u : Tbl Nat) : Tbl Nat := u.foldl (fun acc e => acc.set e.1 e.2) t

/-- The front flit of an input VC crosses the crossbar (R120, R125, R127, R149); `paid` says that its credit was taken with
its reservation. -/
def moveFlit (r k out : Nat) (paid : Bool) (d : Dev) : Dev :=
  let x := d.router r
  let v := x.vc k
  let vc := k % 16
  match v.q with
  | [] => d
  | f :: rest =>
    let cls := match f.pkt with
      | some p => p.cls
      | none => v.cls
    let age := match f.pkt with
      | some p => p.age
      | none => v.age
    let nxt' := match f.pkt, neighbour r out with
      | some p, some (r2, _) => routePort r2 p.dest
      | _, _ => f.nxt
    let f' := { f with nxt := nxt' }
    let v' : InVc := { v with
      q := rest, following := if f.tail then none else some out, cls := cls, age := age, waited := false }
    let x' : Router := { x with
      inp := x.inp.set k v'
      used := if paid then x.used else x.used.modify 0 (16 * out + vc) (· + 1)
      held := if f.tail then x.held.erase (16 * out + vc) else x.held.set (16 * out + vc) k }
    let d1 := creditBack r (k / 16) vc { d with net := { d.net with routers := d.net.routers.set r x' } }
    if out < 6 then
      match neighbour r out with
      | some (r2, p2) => { d1 with net := { d1.net with wireR := d1.net.wireR.modify [] (8 * r2 + p2) (· ++ [f']) } }
      | none => d1
    else { d1 with net := { d1.net with wireN := d1.net.wireN.modify [] (routerNi r (out - 6)) (· ++ [f']) } }

/-- Whether the front flit of the input VC that holds a reservation is there and wants the reserved output. -/
def resPasses (x : Router) (e : Nat × Reservation) : Bool :=
  match (x.vc e.2.key).q with
  | [] => false
  | f :: _ => (flitWants x (e.2.key / 16) (e.2.key % 16) f).any fun w => w.1 == e.1

/-- The moves of the reservations made in the setup phase one cycle ago: input VC and output (R130, R153). -/
def reservedMoves (x : Router) : List (Nat × Nat) := (x.resNow.filter (resPasses x)).map fun e => (e.2.key, e.1)

/-- A reservation whose flit has not come gives its credit and its output VC back. -/
def dropReservation (e : Nat × Reservation) (x : Router) : Router :=
  let k := 16 * e.1 + e.2.key % 16
  { x with used := x.used.modify 0 k (· - 1), held := if e.2.fresh then x.held.erase k else x.held }

/-- A reservation holds its output VC (R120). -/
def holdReserved (e : Nat × Reservation) (x : Router) : Router :=
  { x with held := x.held.set (16 * e.1 + e.2.key % 16) e.2.key }

/-- SWITCH_ALLOCATION of router `r`: reserved outputs pass their express flit, the combinational allocator grants the
others, every front flit left behind has waited, and the pointers move at the end of the cycle (R147, R150 to R152). A setup
request of the cycle is a rival of the flit granted at its output (R169). -/
def switchAllocation (r : Nat) (d : Dev) : Dev :=
  let c := d.fcfg
  let x := d.router r
  let res := reservedMoves x
  let cands := combCands c x
  let outs := x.resNow.map (·.1)
  let ws := grants (sortBy (candBefore x) cands) (res.map fun m => m.1 / 16) outs
  let d1 := d.upRouter r fun y =>
    (x.resNow.filter fun e => !resPasses x e).foldl (fun z e => dropReservation e z)
      (ws.foldl (fun z w =>
        movePointers (((cands.filter fun k => !(k.port == w.port && k.vc == w.vc)).map fun k => (k.out, k.urg)) ++ x.asked)
          cands w z) y)
  let gone := res.map (·.1) ++ ws.map fun w => 16 * w.port + w.vc
  let d2 := d1.upRouter r fun y => { y with
    inp := y.inp.map fun e => (e.1, { e.2 with waited := !e.2.q.isEmpty && !gone.contains e.1 }) }
  let d3 := Dev.fold res (fun m => moveFlit r m.1 m.2 true) d2
  let d4 := Dev.fold ws (fun w => moveFlit r (16 * w.port + w.vc) w.out false) d3
  d4.upRouter r fun y =>
    y.resNext.foldl (fun z e => holdReserved e z) { y with
      resNow := y.resNext, resNext := [], setupDone := false, asked := []
      optr := mergeMoves y.optr y.optrNext, iptr := mergeMoves y.iptr y.iptrNext, optrNext := [], iptrNext := [] }

/-- What a flit behind one that passes now will want: its own route, or that of the packet it goes on (R120). -/
def wantsBehind (x : Router) (port vc : Nat) (front f : Flit) : Option (Nat × Nat × Nat) :=
  match f.pkt with
  | some p => some (f.nxt, p.cls, p.age)
  | none => flitWants x port vc front

/-- The flit that input VC `vc` of an express port could present for the next cycle: the first that does not pass on a
reservation in this cycle, of its buffer and then of the reach (R141, R153). -/
def setupFlit (c : Cfg) (d : Dev) (r port vc : Nat) : Option (Cand × Flit) :=
  let x := d.router r
  let reach := (d.net.wireR.get [] (8 * r + port)).head?.filter fun f => f.vc == vc
  let line := (x.vc (16 * port + vc)).q ++ reach.toList
  let passing := x.resNow.any fun e => e.2.key == 16 * port + vc
  let cand (f : Flit) (w : Nat × Nat × Nat) : Cand × Flit :=
    ({ port := port, vc := vc, out := w.1, urg := urgency c w.2.1 w.2.2 }, f)
  match passing, line with
  | false, f :: _ => (flitWants x port vc f).map (cand f)
  | true, a :: f :: _ => (wantsBehind x port vc a f).map (cand f)
  | _, _ => none

/-- Setup requests that an express port could present, each where its output VC has a credit and is free or its own
(R141, R153). -/
def setupChoices (c : Cfg) (d : Dev) (r port : Nat) : List (Cand × Flit) :=
  ((List.range 9).filterMap (setupFlit c d r port)).filter fun k =>
    hasPort r k.1.out && mayUse (d.router r) k.1.port k.1.vc k.1.out

/-- The one request an express port presents: the first under the keys (R153). -/
def setupRequest (c : Cfg) (d : Dev) (r port : Nat) : Option (Cand × Flit) :=
  let l := setupChoices c d r port
  match (sortBy (candBefore (d.router r)) (l.map (·.1))).head? with
  | some w => l.find? fun k => k.1 == w
  | none => none

/-- Whether an express request comes first for its output among all contenders (R153). -/
def setupWins (x : Router) (w : Cand) (others : List Cand) : Bool :=
  others.all fun k => k.out != w.out || candBefore x w k

/-- A setup grant: output, credit and output VC are reserved for the next cycle (R141, R153). -/
def reserve (w : Cand) (f : Flit) (x : Router) : Router :=
  let e : Nat × Reservation := (w.out, { key := 16 * w.port + w.vc, fresh := f.pkt.isSome })
  holdReserved e { x with resNext := x.resNext.set e.1 e.2, used := x.used.modify 0 (16 * w.out + w.vc) (· + 1) }

/-- EXPRESS_SETUP_PHASE of router `r`, once in a cycle and before its SWITCH_ALLOCATION: requests are checked for parity and
ranked against each other and every mesh or local candidate, and a winner reserves its output for the next cycle (R131,
R132, R153, R154). The pointers move at the end of the cycle (R152). No flit is checked, so the capture of a parity error
names no head; a flit that an express port does not present makes no tie at an output, and one at its own input (DESIGN
CHOICE, log entries 73, 74). -/
def expressSetupPhase (r : Nat) (parityX parityY : Bool) (d : Dev) : Dev :=
  let c := d.fcfg
  let x := d.router r
  if x.setupDone then d else
  let reqX := setupRequest c d r 4
  let reqY := setupRequest c d r 5
  let inj := d.armedFor 0x06 r && (reqX.isSome || reqY.isSome)
  let badX := reqX.isSome && (parityX || inj)
  let badY := reqY.isSome && (parityY || (inj && !reqX.isSome))
  let d0 := if inj then d.spend else d
  let d1 := if badX then linkError 0x06 r 4 ((reqX.map (·.1.vc)).getD 0xFF) 0 inj d0 else d0
  let d2 := if badY then linkError 0x06 r 5 ((reqY.map (·.1.vc)).getD 0xFF) 0 (inj && !reqX.isSome) d1 else d1
  let live := (if badX then [] else reqX.toList) ++ (if badY then [] else reqY.toList)
  let mesh := meshCands c x
  let rivals (w : Cand) : List Cand := (live.map (·.1)).filter (fun k => k.port != w.port) ++ mesh
  let ws := live.filter fun w => setupWins x w.1 (rivals w.1)
  d2.upRouter r fun y =>
    let z := ws.foldl (fun z w => reserve w.1 w.2 z) { y with setupDone := true, asked := live.map fun k => (k.1.out, k.1.urg) }
    let m := ws.foldl (fun (z : Router) w =>
      movePointers ((rivals w.1).map fun k => (k.out, k.urg)) ((setupChoices c d r w.1.port).map (·.1)) w.1 z)
      ({ } : Router)
    { z with optrNext := m.optr, iptrNext := m.iptr }

/-- CREDIT_RETURN: a cycle of the sideband brings the next credit to the sender, where its control word can be read; it is
taken, or ignored as an overflow (R125, R134 to R136). No credit comes on a stopped direction. -/
def creditReturn (dst : CreditDest) (err : WordErr) (d : Dev) : Dev :=
  match dst with
  | .router r p =>
    match d.net.credR.get [] (8 * r + p) with
    | [] => d
    | v :: t =>
      if bitOf (d.router r).stopped p then d
      else
        let d0 := { d with net := { d.net with credR := d.net.credR.set (8 * r + p) t } }
        match linkCheck r p none { ctl := err } d0 with
        | (.stop, d1) => d1.upRouter r fun x => { x with stopped := setBit x.stopped p true }
        | (.accept _ _, d1) =>
          if (d1.router r).used.get 0 (16 * p + v) = 0 then linkError 0x08 r p v 0 false d1
          else d1.upRouter r fun y => { y with used := y.used.modify 0 (16 * p + v) (· - 1) }
  | .ni n =>
    match d.net.credN.get [] n with
    | [] => d
    | v :: t =>
      if (d.ni n).stopped then d
      else
        let d0 := { d with net := { d.net with credN := d.net.credN.set n t } }
        match linkCheck (niPlace n).1 0xFF none { ctl := err } d0 with
        | (.stop, d1) => d1.upNi n fun x => { x with stopped := true }
        | (.accept _ _, d1) =>
          if (d1.ni n).used.get 0 v = 0 then linkError 0x08 (niPlace n).1 0xFF v 0 false d1
          else d1.upNi n fun y => { y with used := y.used.modify 0 v (· - 1) }

/-- One age unit more, up to 1,023 (R144). -/
def bump (a : Nat) : Nat := min 1023 (a + 1)

/-- An input VC at an age tick: the flit that waited makes its packet one unit older (R147, R149). -/
def InVc.tick (v : InVc) : InVc :=
  if v.waited then
    match v.q with
    | [] => { v with waited := false }
    | f :: t =>
      match f.pkt with
      | some p => { v with q := { f with pkt := some { p with age := bump p.age } } :: t, waited := false }
      | none => { v with age := bump v.age, waited := false }
  else v

/-- A packet waiting at an NI at an age tick. -/
def Out.tick (o : Out) : Out :=
  if o.waited then { o with pkt := { o.pkt with age := bump o.pkt.age }, waited := false } else o

/-- AGE_TICK: every head flit that waited gains one age unit (R147). -/
def ageTick (d : Dev) : Dev :=
  { d with
    net := { d.net with
      routers := d.net.routers.map fun e => (e.1, { e.2 with inp := e.2.inp.map fun v => (v.1, v.2.tick) }) }
    nis := d.nis.map fun e => (e.1, { e.2 with
      out := e.2.out.map Out.tick, under := e.2.under.map fun o => (o.1, o.2.tick) }) }

/-- Clear of the link error records (R138): the counters and the capture; stopped directions stay. -/
def clearLinkErrors (d : Dev) : Dev :=
  { d with net := { d.net with
      cap := {}
      routers := d.net.routers.map fun e => (e.1, { e.2 with counts := [] }) } }

/-- The routers and links after reset (R143); `keep` says that the error records survive (R139). -/
def resetNet (keep : Bool) (d : Dev) : Dev :=
  if keep then
    { d with net := {
        cap := d.net.cap
        routers := d.net.routers.map fun e => (e.1, ({ counts := e.2.counts } : Router)) } }
  else { d with net := {} }

/-! Meanings. -/

/-- AGE_TICK: Every eighth FCLK edge, each head flit that waited gains one age unit (R147). -/
def execAgeTick (s : State) : Host.Outcome State Fault Refusal :=
  actFclk wfAgeTick ageTick s

/-- ROUTER_FLIT_ARRIVAL: A flit arrives at a router or NI input and its SECDED checks are applied (R134). -/
def execRouterFlitArrival (at_ : FlitDest) (err : LinkErr) (crcErr : Bool) (s : State) : Host.Outcome State Fault Refusal :=
  actFclk (wfRouterFlitArrival at_ err crcErr) (routerFlitArrival at_ err crcErr) s

/-- SWITCH_ALLOCATION: In each cycle the combinational allocator grants router outputs by urgency and pointers (R151). -/
def execSwitchAllocation (r : Nat) (s : State) : Host.Outcome State Fault Refusal :=
  actFclk (wfSwitchAllocation r) (switchAllocation r) s

/-- EXPRESS_SETUP_PHASE: The far router ranks express setup requests and reserves the winning output for the next cycle (R153). -/
def execExpressSetupPhase (r : Nat) (parityX : Bool) (parityY : Bool) (s : State) : Host.Outcome State Fault Refusal :=
  actFclk (wfExpressSetupPhase r parityX parityY) (expressSetupPhase r parityX parityY) s

/-- CREDIT_RETURN: A credit returned on the sideband increments the sender's VC counter, or is ignored as an overflow (R125). -/
def execCreditReturn (at_ : CreditDest) (err : WordErr) (s : State) : Host.Outcome State Fault Refusal :=
  actFclk (wfCreditReturn at_ err) (creditReturn at_ err) s

end Sys2Proof.Machine
end

