-- ==== Sys2Proof/Machine/Ni.lean ====
section
/-! DEFINITION. Network interfaces (spec/07), weirs and injection (spec/06): what an NI does between its unit and the
routers, as initiator and as target. -/
namespace Sys2Proof.Machine

/-! Quotas and weirs. -/

/-- Tags of partition `p` in use at an NI; quarantined tags count against no partition (R180). -/
def Ni.inuse (x : Ni) (p : Nat) : Nat := (x.tags.filter fun e => e.2.st != .quarantined && e.2.req.part == p).length

/-- Free tags (R177). -/
def Ni.free (x : Ni) : Nat := 128 - x.tags.length

/-- max_eff of R177. -/
def maxEff (c : Cfg) (n p : Nat) : Nat :=
  let self := c.nat (0x2330 + p) (n + 1)
  let ceil := c.nat (0x2320 + p) (n + 1)
  if self = 0 then ceil else min ceil self

/-- min_eff of R177. -/
def minEff (c : Cfg) (n p : Nat) : Nat := min (c.nat (0x2310 + p) (n + 1)) (maxEff c n p)

/-- The grant rule of R177. -/
def mayTakeTag (c : Cfg) (x : Ni) (n p : Nat) : Bool :=
  let owed := ((List.range 16).filter (· != p)).foldl (fun a q => a + (minEff c n q - x.inuse q)) 0
  let free := x.free
  decide (x.inuse p < maxEff c n p)
    && ((decide (x.inuse p < minEff c n p) && decide (1 ≤ free)) || decide (owed + 1 ≤ free))

/-- The effective interval of a weir (R158). -/
inductive WeirRate where
  | closed
  | unlimited
  | every (k : Nat)
  deriving DecidableEq, Repr

/-- Effective interval of the weir of partition `p`, NI `n`, class `k` (R158). -/
def weirRate (c : Cfg) (n p k : Nat) : WeirRate :=
  let j := c.nat (0x2220 + p) (n + 1)
  let a := c.nat (0x2210 + j) (k + 1)
  let b := c.nat (0x2230 + p) (k + 1)
  if a = 65535 ∨ b = 65535 then .closed
  else if a = 0 ∧ b = 0 then .unlimited
  else .every (max a b)

/-- Effective burst (R158). -/
def weirBurst (c : Cfg) (n p k : Nat) : Nat :=
  if k = 0 then 1 else c.nat (0x2210 + c.nat (0x2220 + p) (n + 1)) (k + 4)

/-- Key of a bucket. -/
def bucketKey : Bucket → Nat
  | .weir p k => 4 * p + k
  | .aggregateT => 64

/-- Whether a weir holds a packet of partition `p` and class `k` at NI `n` now (R159, R160). -/
def weirHolds (c : Cfg) (x : Ni) (n p k : Nat) : Bool :=
  let own := match weirRate c n p k with
    | .closed => true
    | .unlimited => false
    | .every _ => decide (weirBurst c n p k < x.spent.get 0 (4 * p + k) + 1)
  own || (k == 0 && (c.nat 0x2240 1 == 65535 || decide (1 < x.spent.get 0 64 + 1)))

/-- Tokens spent by a packet of `fl` flits (R159, R160). -/
def weirSpend (c : Cfg) (n p k fl : Nat) (x : Ni) : Ni :=
  let s1 := match weirRate c n p k with
    | .every _ => x.spent.modify 0 (4 * p + k) (· + fl)
    | _ => x.spent
  { x with spent := if k = 0 then Tbl.modify 0 s1 64 (· + fl) else s1 }

/-- WEIR_TOKEN: a token falls due and is added unless the bucket is full or closed (R159). -/
def weirToken (n : Nat) (b : Bucket) (d : Dev) : Dev :=
  let c := d.fcfg
  let live : Bool := match b with
    | .weir p k => (match weirRate c n p k with
      | .every _ => true
      | _ => false)
    | .aggregateT => c.nat 0x2240 1 != 65535
  if live = true ∧ 0 < (d.ni n).spent.get 0 (bucketKey b) then
    d.upNi n fun x => { x with spent := x.spent.modify 0 (bucketKey b) (· - 1) }
  else d

/-! Fences and responses. -/

/-- Whether a message ends work that its partition started before the fence: a unit's report to an SE, while the partition
drains (R253, R428). -/
def endsWork (d : Dev) (n : Nat) (p : Packet) : Bool :=
  niKind n == 1 && p.ty == 4 && decide (1 ≤ p.mq ∧ p.mq ≤ 3) && (d.part p.part).state == 1

/-- Whether the fence of a packet's partition applies to it at NI `n` (R195, R253). A FENCE_MARK at an HP NI stands for
writes to the outbound range, as all its writes are. -/
def fenceApplies (d : Dev) (n : Nat) (p : Packet) : Bool :=
  d.fenceBit p.part && !(niKind n == 5 || niKind n == 6) && !(endsWork d n p)
    && !(niKind n == 3 && (p.ty == 3 || inOutbound p.addr) && decide (p.ty ≤ 3))
    && !(p.part == 0 && (n == 64 || n == 65 || n == 66 || decide (64 ≤ p.src)))

/-- Whether NI `n` takes new work of partition `p` from its unit (R195, R253). Until the boot has ended and partition 0 is
released only the LK NI initiates work (R27). -/
def unitAdmits (d : Dev) (n p : Nat) : Bool :=
  d.unitUp n && (!(d.fenceBit p) || (p == 0 && (n == 65 || (decide (64 ≤ n) && d.boot.ended))))

/-- A target NI queues its one response to a request (R181, R123). -/
def respond (n : Nat) (q : Packet) (status : Nat) (data : Bytes) (d : Dev) : Dev :=
  let carries := q.ty == 0 && (status == 0 || status == 6)
  let r : Packet := {
    dest := q.src, src := n, ty := if carries then 8 else 9, cls := q.cls, part := q.part, tag := q.tag,
    addr := q.addr % 256, size := q.size, data := if carries then data else [], status := status }
  (d.upNi n fun x => { x with out := x.out ++ [{ pkt := r, kind := .response }] }).when (status == 4)
    (Dev.upNi n (Ni.count 32 0x508))

/-- A posted request or message is discarded at its target and counted (R192). -/
def discardAt (n src part : Nat) (d : Dev) : Dev := (d.upNi n (Ni.count 32 0x500)).raise src n part

/-- A response is handed to the unit (R181, R192). -/
def deliverNow (n : Nat) (r : Delivered) (d : Dev) : Dev :=
  let d1 := d.upNi n fun x => { (x.count 32 (0x400 + 8 * r.status)) with
    delivered := some r, answers := if 3 ≤ r.req.code then x.answers ++ [r] else x.answers }
  if r.status = 6 then d1.raise 0x4C n r.req.part else d1

/-- Responses held for issue order that may now go to the unit: none of their partition's earlier requests is still
outstanding (R175). -/
def releaseInOrder (n : Nat) (d : Dev) : Dev :=
  Dev.fold (d.ni n).respHeld (fun e acc =>
    let x := acc.ni n
    if (x.tags.any fun t => t.2.st != .quarantined && t.2.fence.isNone && t.2.req.part == e.2.req.part && decide (t.2.order < e.1))
    then acc
    else deliverNow n e.2 (acc.upNi n fun y => { y with respHeld := y.respHeld.erase e.1 })) d

/-- The answer to a request that needs no tag, in the order that 0x2302 selects (R94, R128, R175). -/
def deliverOrdered (n : Nat) (r : Delivered) (d : Dev) : Dev :=
  if d.fcfg.nat 0x2302 (n + 1) = 1 then
    releaseInOrder n (d.upNi n fun x => { x with respHeld := x.respHeld.set x.order r, order := x.order + 1 })
  else deliverNow n r d

/-- The answer to a request or mark that held a tag reaches its unit, a mark's status other than OK as a report (R175,
R190). -/
def complete (n : Nat) (t : Tag) (status : Nat) (data : Bytes) (d : Dev) : Dev :=
  match t.fence with
  | some id =>
    (d.upNi n fun x => { x with
      fenced := x.fenced.map fun m =>
        if m.id = id then { m with marks := m.marks - 1, mstat := if m.mstat = 0 then status else m.mstat } else m
      markReport := if status = 0 then x.markReport else some (t.req.part, status) }).when (status == 6) (Dev.raise 0x4C n t.req.part)
  | none =>
    let r : Delivered := { req := t.req, status := status, data := data }
    if t.ordered then
      releaseInOrder n (d.upNi n fun x => { x with respHeld := x.respHeld.set t.order r })
    else deliverNow n r d

/-! The unit's side. -/

/-- A request of the unit decodes to the default target: counted, and the address recorded (R94). -/
def noteDecerr (n a : Nat) (d : Dev) : Dev :=
  if isInitiator n then d.upNi n fun x => { (x.count 32 0x10) with regs := (x.count 32 0x10).regs.set 0x18 a } else d

/-- Moves the write-combining entries that `sel` names to the injection queue: they are closed (R176). -/
def closeWcb (n : Nat) (sel : WcbEntry → Bool) (d : Dev) : Dev :=
  d.upNi n fun x => { x with
    out := x.out ++ (x.wcb.filter sel).map fun e => { pkt := e.pkt, kind := .posted }
    wcb := x.wcb.filter fun e => !sel e }

/-- Flits that the write-combining buffer holds for a selection of partitions, closed entries included. -/
def Ni.wcbFlits (x : Ni) (sel : Nat → Bool) : Nat :=
  (x.wcb.foldl (fun a e => if sel e.pkt.part then a + pktFlits e.pkt else a) 0)
    + (x.out.foldl (fun a o => if o.kind == .posted && sel o.pkt.part then a + pktFlits o.pkt else a) 0)

/-- One block of a posted write enters the write-combining buffer (R176). -/
def combine (n part cls addr : Nat) (bs : Bytes) (dest : Nat) (d : Dev) : Dev :=
  let x := d.ni n
  let same (e : WcbEntry) : Bool := e.pkt.part == part && e.pkt.cls == cls
  let goesOn (e : WcbEntry) : Bool :=
    same e && e.pkt.addr / 256 == addr / 256 && e.pkt.addr + e.pkt.size == addr
  let d1 :=
    if x.wcb.any goesOn then
      d.upNi n fun y => { y with wcb := y.wcb.map fun e =>
        if (goesOn e) then { e with pkt := { e.pkt with size := e.pkt.size + bs.length, data := e.pkt.data ++ bs } } else e }
    else
      (closeWcb n same d).upNi n fun y => { y with wcb := y.wcb ++ [{
        pkt := { dest := dest, src := n, ty := 1, cls := cls, part := part, addr := addr, size := bs.length, data := bs }
        isOpen := true }] }
  let full (e : WcbEntry) : Bool := same e && (decide (256 ≤ e.pkt.addr % 256 + e.pkt.size) || d.fcfg.nat 0x2301 4 == 0)
  let d2 := closeWcb n full d1
  d2.upNi n fun y => y.peak 0x302 (y.wcbFlits fun _ => true)

/-- Whether two byte ranges overlap. -/
def overlaps (a n b m : Nat) : Bool := decide (a < b + m ∧ b < a + n)

/-- NI statistics that NI_STAT_CLR leaves: none is kept, since INUSE, QUAR and OCC are computed (R192). -/
def niStatClear (x : Ni) : Ni :=
  { x with regs := x.regs.filter fun e => decide (e.1 < 0x100 ∨ 0x4000 ≤ e.1) }

/-- A write of an NI register of its own block (R102, R167, R192): the clear registers act, other offsets ignore it. -/
def niRegWrite (n off v : Nat) (d : Dev) : Dev :=
  if v % 2 = 0 then d
  else if off = 0x20 then d.upNi n fun x => { x with regs := (x.regs.erase 0x10).erase 0x18 }
  else if off = 0x3F00 then d.upNi n niStatClear
  else if off = 0x4800 then
    d.upNi n fun x => { x with regs := x.regs.filter fun e => decide (e.1 < 0x4000 ∨ 0x5000 ≤ e.1) }
  else d

/-- A read of an NI register (R102, R167, R192, R459, R511); 64 bits. -/
def niRegRead (d : Dev) (n off : Nat) : Nat :=
  let x := d.ni n
  let pl := niPlace n
  let init := isInitiator n
  if off = 0 then
    n + 2 ^ 8 * pl.1 + 2 ^ 14 * pl.2 + 2 ^ 16 * niKind n + 2 ^ 20 * b2n init + 2 ^ 21 * b2n (hasTags n)
  else if off = 0x10 ∨ off = 0x18 then (if init then x.reg off else 0)
  else if off = 0x100 then
    if init then
      (x.tags.filter fun t => t.2.st != .quarantined).length
        + 2 ^ 8 * (x.tags.filter fun t => t.2.st == .quarantined).length + 2 ^ 16 * x.reg 0x102
    else 0
  else if off = 0x108 then (if init then x.reg off else 0)
  else if 0x200 ≤ off ∧ off < 0x280 ∧ off % 8 = 0 then
    let p := (off - 0x200) / 8
    if init then x.inuse p + 2 ^ 8 * x.reg (off + 1) + 2 ^ 16 * x.reg (off + 2) else 0
  else if off = 0x300 then (if init then x.wcbFlits (fun _ => true) + 2 ^ 16 * x.reg 0x302 else 0)
  else if off = 0x308 then (if init then x.reg off else 0)
  else if 0x480 ≤ off ∧ off < 0x500 then (if init then x.reg off else 0)
  else if off = 0x610 then
    (List.range 4).foldl (fun a q => a + 2 ^ (8 * q) * ((x.mq.get [] q).foldl (fun b m => b + pktFlits m) 0)) 0
  else if off = 0x700 then (if hasHold n then x.hold.length + 2 ^ 8 * x.reg 0x702 else 0)
  else if 0x700 ≤ off ∧ off < 0x900 then (if hasHold n then x.reg off else 0)
  else if (0x4000 ≤ off ∧ off < 0x4020) ∨ (0x4100 ≤ off ∧ off < 0x4180) then (if init then x.reg off else 0)
  else if off = 0x5000 then b2n x.loaded + 2 * b2n x.outOfStep + 4 * b2n x.change.isSome
  else if off = 0x5008 then encInt 16 x.lastE + 2 ^ 16 * hops (niPlace 64).1 pl.1
  else if off = 0x8000 then probeAttach d n
  else x.reg off

/-- A register read of the width asked for: the low or high half of a 64-bit register (R102). -/
def niRegBytes (d : Dev) (n off size : Nat) : Bytes :=
  let v := niRegRead d n (off / 8 * 8)
  (leBytes 8 v).slice (off % 8) size

/-- Whether a register access is a naturally aligned 32-bit or 64-bit one (R102). -/
def regAligned (off size : Nat) : Bool := (size == 4 && off % 4 == 0) || (size == 8 && off % 8 == 0)

/-- Whether the write-combining buffer takes a block of a posted write now: with it, the partition stays within its limit and
the buffer within its size (R176). -/
def wcbFits (d : Dev) (n : Nat) (p : Packet) : Bool :=
  let x := (combine n p.part p.cls p.addr p.data p.dest d).ni n
  let w := d.ni n
  decide (x.wcbFlits (· == p.part) ≤ max (d.fcfg.nat 0x2340 (p.part + 1)) (w.wcbFlits (· == p.part)))
    && decide (x.wcbFlits (fun _ => true) ≤ 256)

/-- The NI decodes and takes one block of a posted write of its unit; none where its buffer is full (R94, R95, R128,
R176). -/
def takePosted (n : Nat) (p : Packet) (d : Dev) : Option Dev :=
  match d.decodeAddr n p.addr with
  | none => some ((noteDecerr n p.addr d).raise 0x48 n p.part)
  | some t =>
    let own := if t = n then niBlock p.addr else none
    match own with
    | some (_, off) =>
      some (if regAligned off p.data.length then niRegWrite n off p.data.toNat d else d.raise 0x54 n p.part)
    | none =>
      let q := { p with dest := t }
      if wcbFits d n q then some (combine n q.part q.cls q.addr q.data t d) else none

/-- COMBINE_TIMEOUT: the i-th entry has been open for the combine timeout and is closed (R176). -/
def combineTimeout (n i : Nat) (d : Dev) : Dev :=
  match (d.ni n).wcb[i]? with
  | none => d
  | some e => closeWcb n (fun f => f == e) d

/-- Whether the staging slot of partition `part` is empty. -/
def slotEmpty (x : Ni) (part : Nat) : Bool :=
  !(x.out.any fun o => o.kind == .request && o.fence.isNone && o.pkt.part == part)

/-- Whether the unit may place a request of partition `part`: the grant rule and an empty staging slot (R178, R179). -/
def slotOpen (d : Dev) (n part : Nat) : Bool := mayTakeTag d.fcfg (d.ni n) n part && slotEmpty (d.ni n) part

/-- One block of a unit's request is placed, after the write-combining entries that it must follow are closed (R175). The
default target and the NI's own registers answer at once (R94, R128). -/
def placeBlock (n : Nat) (q : Packet) (d : Dev) : Dev :=
  match d.decodeAddr n q.addr with
  | none => deliverOrdered n { req := q, status := 2, data := [] } (noteDecerr n q.addr d)
  | some t =>
    let own := if t = n then niBlock q.addr else none
    match own with
    | some (_, off) =>
      if q.ty = 2 then deliverOrdered n { req := q, status := 5, data := [] } d
      else if q.ty = 3 then deliverOrdered n { req := q, status := 0, data := [] } d
      else if regAligned off q.size then deliverOrdered n { req := q, status := 0, data := niRegBytes d n off q.size } d
      else deliverOrdered n { req := q, status := 1, data := [] } d
    | none =>
      let sel (e : WcbEntry) : Bool :=
        if q.ty = 3 then e.pkt.dest == t && e.pkt.cls == q.cls else overlaps e.pkt.addr e.pkt.size q.addr q.size
      (closeWcb n sel d).upNi n fun y => { y with out := y.out ++ [{ pkt := { q with dest := t }, kind := .request }] }

/-- Non-posted fabric requests of LKC (1) or LDMA (2) in flight at the LK NI. -/
def lkInFlight (d : Dev) (who : Nat) : Nat :=
  let x := d.ni 65
  (x.tags.filter fun t => t.2.st != .quarantined && t.2.req.code == who).length
    + (x.out.filter fun o => o.kind == .request && o.pkt.code == who).length

/-- Whether the LK NI may take one more request of LKC (8 in flight) or LDMA (120) (R220). -/
def lkRoom (d : Dev) (n who : Nat) : Bool :=
  n != 65 || (decide (lkInFlight d who < if who = 1 then 8 else 120))

/-- Key of a fence set: partition, destination and class of the posted writes issued. -/
def fenceKey (part dest cls : Nat) : Nat := 1024 * part + 4 * dest + cls

/-- One FENCE_MARK for each destination and class of some keys, each once. -/
def marksFor (n part id : Nat) (keys : List Nat) : List Out :=
  (keys.foldl (fun (t : Tbl Bool) k => t.set (k % 1024) true) []).map fun e =>
    { pkt := { dest := e.1 / 4, src := n, ty := 3, cls := e.1 % 4, part := part }, kind := .request, fence := some id }

/-- The NI starts a fenced message (R190): every open entry is closed, and one FENCE_MARK goes to each destination of each
class written since the last fenced message. -/
def takeFenced (p : Packet) (faultSrc : Option Nat) (d : Dev) : Dev :=
  let n := p.src
  let d1 := closeWcb n (fun _ => true) d
  let x := d1.ni n
  let queued := (x.out.filter fun o => o.kind == .posted).map fun o => fenceKey o.pkt.part o.pkt.dest o.pkt.cls
  let marks := marksFor n p.part x.fenceId (x.fenceSet.map (·.1) ++ queued)
  d1.upNi n fun y => { y with
    out := y.out ++ marks
    fenced := y.fenced ++ [{ id := x.fenceId, pkt := p, marks := marks.length, faultSrc := faultSrc }]
    fenceId := y.fenceId + 1 }

/-- The destinations and classes that a packet of kind `marks` lists. -/
def markKeys : Bytes → List Nat
  | t :: c :: r => (4 * t.toNat + c.toNat) :: markKeys r
  | _ => []

/-- The NI sends the marks that a unit asks for, behind the writes they stand for (R189, R297). They are kept like a fenced
message that has no message to send, under the unit's key. -/
def takeMarks (n : Nat) (p : Packet) (d : Dev) : Dev :=
  let keys := markKeys p.data
  (closeWcb n (fun e => keys.any fun k => k == 4 * e.pkt.dest + e.pkt.cls) d).upNi n fun x =>
    let marks := (marksFor n p.part x.fenceId keys).map fun o => { o with pkt := { o.pkt with addr := p.addr } }
    { x with
      out := x.out ++ marks
      fenced := x.fenced ++ [{
        id := x.fenceId, pkt := { src := n, dest := n, ty := 3, cls := 0, part := p.part, code := p.code }, marks := marks.length }]
      fenceId := x.fenceId + 1 }

/-- The NI takes one block that waits at its unit; none where it cannot now (R176, R178, R179, R190). -/
def takeBlock (n : Nat) (o : Out) (d : Dev) : Option Dev :=
  match o.kind with
  | .posted => takePosted n o.pkt d
  | .fencedMsg => some (takeFenced o.pkt o.fence d)
  | .marks => some (takeMarks n o.pkt d)
  | _ => if slotOpen d n o.pkt.part = true ∧ lkRoom d n o.pkt.code = true then some (placeBlock n o.pkt d) else none

/-- Whether a block that waits at the unit of NI `n` holds a later one back: those of a partition go in order (R179), and
the requests of LKC and LDMA, which have ports of their own, in the order of each (R220). Marks and fenced messages follow
every write presented before them (R189, R291). -/
def holdsBack (n : Nat) (a b : Out) : Bool :=
  ((b.kind == .marks || b.kind == .fencedMsg) && a.kind == .posted)
    || (a.pkt.part == b.pkt.part && !(n == 65 && a.kind == .request && b.kind == .request && a.pkt.code != b.pkt.code))

/-- The blocks that wait at the unit, taken in order: what is left, and the device (R179). -/
def takeBlocks (n : Nat) : List Out → List Out → Dev → List Out × Dev
  | [], left, d => (left, d)
  | o :: t, left, d =>
    if left.any fun a => holdsBack n a o then takeBlocks n t (left ++ [o]) d
    else match takeBlock n o d with
      | some d' => takeBlocks n t left d'
      | none => takeBlocks n t (left ++ [o]) d

/-- The NI takes what it can of the blocks that its unit presents (R176, R178, R179). -/
def takeUnit (n : Nat) (d : Dev) : Dev :=
  match (d.ni n).atUnit with
  | [] => d
  | l =>
    let r := takeBlocks n l [] d
    r.2.upNi n fun x => { x with atUnit := r.1 }

/-- The unit presents requests of one partition: they follow those of the partition that wait already (R179). -/
def present (n : Nat) (os : List Out) (d : Dev) : Dev :=
  takeUnit n (d.upNi n fun x => { x with atUnit := x.atUnit ++ os })

/-- The cycle's stalls of what waits at the unit: posted writes, requests with no free tag, and requests whose partition the
grant rule does not let through (R179, R192). -/
def countWaiting (c : Cfg) (n : Nat) (x : Ni) : Ni :=
  let reqs := x.atUnit.filter fun o => o.kind != .posted
  let x1 := if x.atUnit.any fun o => o.kind == .posted then x.count 48 0x308 else x
  if x.free = 0 then (if reqs.isEmpty then x1 else x1.count 48 0x108)
  else (List.range 16).foldl (fun y p =>
    if (reqs.any fun o => o.pkt.part == p) && !mayTakeTag c x n p then y.count 48 (0x202 + 8 * p) else y) x1

/-- UNIT_POSTED_WRITE: the unit hands a posted write to its NI, which splits, decodes and combines it; what the buffer has
no room for waits at the unit (R95, R94, R176). The TTU's writes carry PART 0 (R12). -/
def unitPostedWrite (n part cls addr : Nat) (data : Bytes) (d : Dev) : Dev :=
  let p := if n = 64 then 0 else part
  if mayIssue n 1 = false ∨ unitAdmits d n p = false then d
  else
    present n ((splitBlocks 17 addr data.length).map fun b => {
      pkt := { dest := 0, src := n, ty := 1, cls := cls, part := p, addr := b.1, size := b.2, data := data.slice (b.1 - addr) b.2 }
      kind := .posted }) d

/-- The unit presents a request, split under R95; a block that the slot is closed to waits at the unit (R178, R179). `who`
tells LKC (1) from LDMA (2) at the LK NI (R220), and the reads of a host request at an HP NI. -/
def unitNonposted (n part ty cls addr size : Nat) (data : Bytes) (who : Nat) (d : Dev) : Dev :=
  if mayIssue n ty = false ∨ unitAdmits d n part = false then d
  else
    present n ((splitBlocks 17 addr size).map fun b => {
      pkt := {
        dest := 0, src := n, ty := ty, cls := cls, part := part, addr := b.1, size := b.2, code := who
        data := if ty = 2 then padTo b.2 (data.slice (b.1 - addr) b.2) else [] }
      kind := .request }) d

/-- UNIT_NONPOSTED_REQUEST (R178, R179). -/
def unitNonpostedRequest (n part ty cls addr size : Nat) (data : Bytes) (d : Dev) : Dev :=
  unitNonposted n part ty cls addr size data 0 d

/-- The payload-carrying packet of a message. -/
def messagePkt (n part cls dest mq code : Nat) (data : Bytes) : Packet :=
  { dest := dest, src := n, ty := 4, cls := cls, part := part, data := data, mq := mq, code := code }

/-- UNIT_MESSAGE: the unit hands its NI a MESSAGE or TIMED_MESSAGE (R183, R186); class T carries one flit (R160) and
class S no message (R16). -/
def unitMessage (n : Nat) (timed : Bool) (part cls dest mq code : Nat) (data : Bytes) (relS relNs : Nat) (d : Dev) : Dev :=
  let ty := if timed then 5 else 4
  if mayIssue n ty = false ∨ unitAdmits d n part = false ∨ cls = 3 ∨ (cls = 0 ∧ 16 < data.length) then d
  else
    let p := { messagePkt n part cls dest mq code data with ty := ty, relS := relS, relNs := relNs }
    d.upNi n fun x => { x with out := x.out ++ [{ pkt := p, kind := .message }] }

/-- A message that a unit's own step sends, whatever its fence (the sender has checked). -/
def sendMessage (p : Packet) (d : Dev) : Dev :=
  d.upNi p.src fun x => { x with out := x.out ++ [{ pkt := p, kind := .message }] }

/-- A one-flit message that the NI generates itself (R12). -/
def sendOwn (n dest mq code cls : Nat) (data : Bytes) (d : Dev) : Dev :=
  d.upNi n fun x => { x with out := x.out ++ [{ pkt := messagePkt n 0 cls dest mq code data, kind := .own }] }

/-- A unit presents a fenced message, behind the writes that it has presented before (R190). -/
def startFenced (p : Packet) (faultSrc : Option Nat) (d : Dev) : Dev :=
  present p.src [{ pkt := p, kind := .fencedMsg, fence := faultSrc }] d

/-! What an engine does through its own NI. -/

/-- An engine's posted write (R95, R176). What a unit has started goes on while its partition is fenced (R253, R313, R428);
its packets carry a code of 3 or more. -/
def engineWrite (n part cls addr : Nat) (data : Bytes) (d : Dev) : Dev :=
  if data.isEmpty then d
  else present n ((splitBlocks (data.length / 256 + 2) addr data.length).map fun b => {
    pkt := {
      dest := 0, src := n, ty := 1, cls := cls, part := part, addr := b.1, size := b.2, code := 3
      data := data.slice (b.1 - addr) b.2 }
    kind := .posted }) d

/-- The blocks of some spans, in order (R95). -/
def spanBlocks (spans : List (Nat × Nat)) : List (Nat × Nat) :=
  (spans.map fun s => splitBlocks (s.2 / 256 + 2) s.1 s.2).flatten

/-- An engine issues the READs of some spans under a key of its own, 4 or more. -/
def engineRead (n part cls key : Nat) (spans : List (Nat × Nat)) (d : Dev) : Dev :=
  present n ((spanBlocks spans).map fun b => {
    pkt := { dest := 0, src := n, ty := 0, cls := cls, part := part, addr := b.1, size := b.2, code := key }, kind := .request }) d

/-- An engine issues one WRITE_NP under a key of its own (R416). -/
def engineWriteNp (n part cls key addr : Nat) (data : Bytes) (d : Dev) : Dev :=
  present n [{
    pkt := { dest := 0, src := n, ty := 2, cls := cls, part := part, addr := addr, size := data.length, data := data, code := key }
    kind := .request }] d

/-- Whether requests under a key have not all been answered yet. -/
def keyOpen (d : Dev) (n key : Nat) : Bool :=
  let x := d.ni n
  (x.atUnit.any fun o => o.kind == .request && o.pkt.code == key)
    || (x.out.any fun o => o.kind == .request && o.fence.isNone && o.pkt.code == key)
    || (x.tags.any fun t => t.2.st != .quarantined && t.2.fence.isNone && t.2.req.code == key)
    || (x.respHeld.any fun r => r.2.req.code == key)

/-- The answers under a key. -/
def keyAnswers (d : Dev) (n key : Nat) : List Delivered := (d.ni n).answers.filter fun r => r.req.code == key

/-- The engine takes the answers under a key. -/
def takeAnswers (n key : Nat) (d : Dev) : Dev := d.upNi n fun x => { x with answers := x.answers.filter fun r => r.req.code != key }

/-- Requests whose key `sel` names belong to nobody from now on: those not injected are given up, and answers are dropped. -/
def forgetKeys (n : Nat) (sel : Nat → Bool) (d : Dev) : Dev :=
  let mine (p : Packet) : Bool := decide (4 ≤ p.code) && sel p.code
  d.upNi n fun x => { x with
    atUnit := x.atUnit.filter fun o => !((o.kind == .request || o.kind == .marks) && mine o.pkt)
    out := x.out.filter fun o => !(o.kind == .request && o.fence.isNone && mine o.pkt)
    tags := x.tags.map fun t =>
      if t.2.fence.isNone && mine t.2.req then (t.1, { t.2 with req := { t.2.req with code := 0 } }) else t
    fenced := x.fenced.filter fun m => !(m.pkt.ty == 3 && mine m.pkt)
    answers := x.answers.filter fun r => !mine r.req }

/-- What the READs of some spans have brought: the first STATUS in issue order that is not OK (0 none), and the bytes up to
it. -/
def gathered (l : List Delivered) : List (Nat × Nat) → Nat × Bytes
  | [] => (0, [])
  | b :: t =>
    match l.find? fun r => r.req.addr == b.1 && r.req.size == b.2 with
    | some r =>
      if r.status = 0 then
        let g := gathered l t
        (g.1, padTo b.2 r.data ++ g.2)
      else (r.status, [])
    | none => (1, [])

/-- Where an engine's read stands: not issued, not all answered, or answered with a STATUS and bytes. -/
inductive ReadState where
  | idle
  | waiting
  | done (status : Nat) (data : Bytes)
  deriving DecidableEq, Repr

/-- Where the read of some spans under a key stands. -/
def readState (d : Dev) (n key : Nat) (spans : List (Nat × Nat)) : ReadState :=
  if keyOpen d n key then .waiting
  else match keyAnswers d n key with
    | [] => .idle
    | l => .done (gathered l (spanBlocks spans)).1 (gathered l (spanBlocks spans)).2

/-- An engine's read of some spans as a step of the engine: the first run issues the READs; once all are answered, a run takes
what they brought and goes on with it; until then a run changes nothing (R15, R181). -/
def withRead (n part cls key : Nat) (spans : List (Nat × Nat)) (go : Nat → Bytes → Dev → Dev) (d : Dev) : Dev :=
  match readState d n key spans with
  | .waiting => d
  | .idle => if (spanBlocks spans).isEmpty then go 0 [] d else engineRead n part cls key spans d
  | .done st bs => go st bs (takeAnswers n key d)

/-- The destinations and classes of a span of posted writes, as `markKeys` reads them. -/
def writtenTo (d : Dev) (n cls addr len : Nat) : Bytes :=
  ((splitBlocks (len / 256 + 2) addr len).filterMap fun b => (d.decodeAddr n b.1).bind fun t =>
    if t = n then none else some [byte t, byte cls]).eraseDups.flatten

/-- A unit asks for one mark to each destination and class of `dests`, under a key (R29, R297). A FLUSH's mark has ADDR 1, by
which the bridge knows it (R299). -/
def askMarks (n part key addr : Nat) (dests : Bytes) (d : Dev) : Dev :=
  present n [{ pkt := { dest := n, src := n, ty := 3, cls := 0, part := part, addr := addr, code := key, data := dests }, kind := .marks }] d

/-- The first status other than OK among the marks under a key (0 none), once all are answered (R190, R297). -/
def marksDone (d : Dev) (n key : Nat) : Option Nat :=
  ((d.ni n).fenced.find? fun m => m.pkt.ty == 3 && m.pkt.code == key && m.marks == 0).map (·.mstat)

/-- Whether marks under a key have been asked for. -/
def marksAsked (d : Dev) (n key : Nat) : Bool :=
  ((d.ni n).fenced.any fun m => m.pkt.ty == 3 && m.pkt.code == key)
    || ((d.ni n).atUnit.any fun o => o.kind == .marks && o.pkt.code == key)

/-- The marks under a key are done with. -/
def dropMarks (n key : Nat) (d : Dev) : Dev :=
  d.upNi n fun x => { x with fenced := x.fenced.filter fun m => !(m.pkt.ty == 3 && m.pkt.code == key) }

/-- A step that follows marks: the first run asks for them; once all are answered, a run goes on with their status. -/
def withMarks (n part key addr : Nat) (dests : Bytes) (go : Nat → Dev → Dev) (d : Dev) : Dev :=
  if dests.isEmpty then go 0 d
  else match marksDone d n key with
    | some st => go st (dropMarks n key d)
    | none => if marksAsked d n key then d else askMarks n part key addr dests d

/-- Whether a span meets the default target of unit `n` (R94). -/
def meetsDefault (d : Dev) (n a len : Nat) : Bool :=
  (splitBlocks (len / 256 + 2) a len).any fun b => (d.decodeAddr n b.1).isNone

/-- FENCED_MESSAGE: the unit marks a message as fenced (R190). The TTU sends none (R12). -/
def fencedMessage (n part cls dest mq code : Nat) (data : Bytes) (d : Dev) : Dev :=
  if mayIssue n 3 = false ∨ unitAdmits d n part = false ∨ cls = 3 ∨ (cls = 0 ∧ 16 < data.length) then d
  else startFenced (messagePkt n part cls dest mq code data) none d

/-- FENCED_MESSAGE_INJECT: the oldest fenced message whose marks are all answered becomes eligible with its MSTAT, and
the sets are emptied (R190). -/
def fencedMessageInject (n : Nat) (d : Dev) : Dev :=
  let x := d.ni n
  match x.fenced.find? fun m => m.marks == 0 && m.pkt.ty != 3 with
  | none => d
  | some m => d.upNi n fun y => { y with
      fenced := y.fenced.filter fun k => k.id != m.id
      fenceSet := []
      out := y.out ++ [{ pkt := { m.pkt with mstat := m.mstat }, kind := .message }] }

/-! Injection. -/

/-- Code of the hold store in a credit return: no message to MQ 0xFE needs a credit (R185), so its number is free. -/
def holdQueue : Nat := 0xFE

/-- The end-to-end queue of a message: its MQ, or the hold store (R183, R186). -/
def queueOf (p : Packet) : Nat := if p.ty = 5 then holdQueue else p.mq % 256

/-- Whether a message needs no end-to-end credit: the NI-absorbed queues (R185). -/
def noCredit (p : Packet) : Bool := p.ty == 4 && (p.mq == 0xFE || p.mq == 0xFF)

/-- Key of the credits of a message at its source. -/
def creditKey (p : Packet) : Nat := 256 * p.dest + queueOf p

/-- Credits that a message takes: its flits, or one entry of the hold store (R183, R186). -/
def creditNeed (p : Packet) : Nat := if p.ty = 5 then 1 else pktFlits p

/-- Whether a message holds its end-to-end credit (R183, R184). -/
def hasCredit (x : Ni) (p : Packet) : Bool :=
  noCredit p ||
    (let out := (x.sent.get 0 (creditKey p) + 256 - x.freed.get 0 (creditKey p)) % 256
     decide (out + creditNeed p ≤ if p.ty = 5 then 4 else 2))

/-- Whether an earlier packet of the queue must go first: the same partition and class for requests and posted writes,
the same queue for messages, any earlier response of its VC. -/
def mustFollow (a b : Out) : Bool :=
  match a.kind, b.kind with
  | .posted, .posted => a.pkt.part == b.pkt.part && a.pkt.cls == b.pkt.cls
  | .posted, .request =>
    if b.pkt.ty = 3 then a.pkt.cls == b.pkt.cls && a.pkt.dest == b.pkt.dest
    else overlaps a.pkt.addr a.pkt.size b.pkt.addr b.pkt.size
  | .request, .request => a.pkt.part == b.pkt.part && a.fence.isSome == b.fence.isSome
  | .message, .message => a.pkt.dest == b.pkt.dest && a.pkt.mq == b.pkt.mq && a.pkt.cls == b.pkt.cls && a.pkt.ty == b.pkt.ty
  | .response, .response => pktVc a.pkt == pktVc b.pkt
  | .own, .own => true
  | _, _ => false

/-- Whether a packet is held by its weir: REQ and MSG packets of the unit only (R161). -/
def heldByWeir (c : Cfg) (x : Ni) (n : Nat) (o : Out) : Bool :=
  match o.kind with
  | .response => false
  | .own => false
  | _ => weirHolds c x n o.pkt.part o.pkt.cls

/-- Whether a packet meets the tag, quota and credit conditions of its kind (R148, R178, R183). -/
def admitted (c : Cfg) (x : Ni) (n : Nat) (o : Out) : Bool :=
  match o.kind with
  | .request => mayTakeTag c x n o.pkt.part
  | .message => hasCredit x o.pkt
  | _ => true

/-- The eligible packets of an NI with their positions (R148). -/
def eligible (c : Cfg) (n : Nat) (x : Ni) : List (Nat × Out) :=
  let idx := x.out.zipIdx
  (idx.filter fun e =>
    !(idx.any fun f => decide (f.2 < e.2) && mustFollow f.1 e.1) && !heldByWeir c x n e.1 && admitted c x n e.1).map
    fun e => (e.2, e.1)

/-- A candidate for the local link: position in the queue (none for a body flit), VC, partition, urgency. -/
structure NiCand where
  pos : Option Nat
  vc : Nat
  part : Nat
  urg : Nat
  deriving DecidableEq, Repr

/-- Everything eligible at the local link in a cycle, whether or not its VC is free and has a credit: body flits of packets
under way, and heads (R147, R148, R155). -/
def niAll (c : Cfg) (n : Nat) (x : Ni) : List NiCand :=
  let body := x.rest.filterMap fun e =>
    match e.2, x.under.find? e.1 with
    | _ :: _, some o => some { pos := none, vc := e.1, part := o.pkt.part, urg := urgency c o.pkt.cls o.pkt.age }
    | _, _ => none
  let heads := (eligible c n x).map fun e =>
    { pos := some e.1, vc := pktVc e.2.pkt, part := e.2.pkt.part, urg := urgency c e.2.pkt.cls e.2.pkt.age : NiCand }
  body ++ heads

/-- The candidates of a cycle: body flits of packets under way, and heads whose VC is free, with credit (R120, R125, R155). -/
def niCands (c : Cfg) (n : Nat) (x : Ni) : List NiCand :=
  (niAll c n x).filter fun k =>
    decide (x.used.get 0 k.vc < 4) && (k.pos.isNone || (x.rest.get [] k.vc).isEmpty)

/-- The keys of R155. -/
def niBefore (x : Ni) (a b : NiCand) : Bool :=
  let pa := (a.part + 16 - x.pptr % 16) % 16
  let pb := (b.part + 16 - x.pptr % 16) % 16
  let va := (a.vc + 9 - x.vptr % 9) % 9
  let vb := (b.vc + 9 - x.vptr % 9) % 9
  decide (b.urg < a.urg) || (a.urg == b.urg && (decide (pa < pb) || (pa == pb && decide (va < vb))))

/-- The least tag number not in use. -/
def freeTag (x : Ni) : Nat := ((List.range 128).find? fun t => !x.tags.has t).getD 0

/-- Stall statistics of a cycle: weir holds per class and partition, and messages that wait for credit (R167, R192). -/
def countStalls (c : Cfg) (n : Nat) (x : Ni) : Ni :=
  let heldBy := x.out.filter fun o => heldByWeir c x n o
  let x1 := (List.range 4).foldl (fun y k => if (heldBy.any fun o => o.pkt.cls == k) then y.count 48 (0x4000 + 8 * k) else y) x
  let x2 := (List.range 16).foldl (fun y p => if (heldBy.any fun o => o.pkt.part == p) then y.count 48 (0x4100 + 8 * p) else y) x1
  if (x.out.any fun o => o.kind == .message && !hasCredit x o.pkt) then x2.count 48 0x600 else x2

/-- What the injection of a head changes at the NI besides the link: the tag, the fence sets, the credits, the weir. -/
def takeHead (c : Cfg) (n pos : Nat) (o : Out) (x : Ni) : Ni × Packet :=
  let p0 := o.pkt
  let fl := pktFlits p0
  let x0 := { x with out := x.out.eraseIdx pos }
  match o.kind with
  | .request =>
    let t := freeTag x
    let p := { p0 with tag := t }
    let x1 := weirSpend c n p.part p.cls fl { x0 with
      tags := x0.tags.set t { req := p, st := .inFlight, order := x0.order, ordered := c.nat 0x2302 (n + 1) == 1, fence := o.fence }
      order := x0.order + 1 }
    let x2 := x1.peak 0x102 (x1.tags.filter fun e => e.2.st != .quarantined).length
    (x2.peak (0x201 + 8 * p.part) (x2.inuse p.part), p)
  | .reissue t =>
    (weirSpend c n p0.part p0.cls fl { x0 with tags := match x0.tags.find? t with
      | some g => x0.tags.set t { g with st := .inFlight }
      | none => x0.tags }, p0)
  | .posted => (weirSpend c n p0.part p0.cls fl { x0 with fenceSet := x0.fenceSet.set (fenceKey p0.part p0.dest p0.cls) true }, p0)
  | .message =>
    let x1 := if noCredit p0 then x0
      else { x0 with sent := x0.sent.modify 0 (creditKey p0) fun v => (v + creditNeed p0) % 256 }
    (weirSpend c n p0.part p0.cls fl x1, p0)
  | _ => (x0, p0)

/-- The stamp that a SYNC message takes at its injection: the TTU NI's replica as 6 bytes of seconds and 4 of FCLK
counts (R445). -/
def stampSync (d : Dev) (p : Packet) : Packet :=
  if p.src = 64 ∧ p.mq = 0xFE ∧ p.code = 0 ∧ p.ty = 4 then
    let t := splitCount (d.replica 64)
    { p with data := leBytes 6 t.1 ++ leBytes 4 t.2 }
  else p

/-- NI_INJECT: in one cycle the NI ranks its eligible packets and sends one flit on its local link (R155, R125, R499).
`err` is what SECDED finds in a write-combining entry that is issued: an uncorrectable one is discarded (R192). Of two heads
with equal keys the one queued first goes, and every eligible head not granted has waited (DESIGN CHOICE, log entry 75). -/
def niInject (n : Nat) (err : MemErr) (d : Dev) : Dev :=
  let c := d.fcfg
  let x := d.ni n
  let pl := niPlace n
  let cands := niCands c n x
  let elig := eligible c n x
  let d0 := d.upNi n fun y => countStalls c n { y with
    out := y.out.zipIdx.map fun e => { e.1 with waited := elig.any fun g => g.1 == e.2 }
    under := y.under.map fun e => (e.1, { e.2 with waited := true }) }
  match (sortBy (niBefore x) cands).head? with
  | none => d0
  | some w =>
    let rivals := niAll c n x
    let tieP := rivals.any fun k => k.urg == w.urg && k.part != w.part
    let tieV := rivals.any fun k => k.urg == w.urg && k.part == w.part && k.vc != w.vc
    let d1 := d0.upNi n fun y => { y with
      pptr := if tieP then (w.part + 1) % 16 else y.pptr
      vptr := if tieV then (w.vc + 1) % 9 else y.vptr
      used := y.used.modify 0 w.vc (· + 1) }
    let onLink (f : Flit) (e : Dev) : Dev :=
      { e with net := { e.net with wireR := e.net.wireR.modify [] (8 * pl.1 + 6 + pl.2) (· ++ [f]) } }
    match w.pos with
    | none =>
      match (d1.ni n).rest.get [] w.vc with
      | [] => d1
      | f :: t => onLink f (d1.upNi n fun y => { y with
          rest := y.rest.set w.vc t
          under := if t.isEmpty then y.under.erase w.vc else y.under.modify { pkt := messagePkt 0 0 0 0 0 0 [], kind := .own } w.vc fun o => { o with waited := false } })
    | some pos =>
      match (d1.ni n).out[pos]? with
      | none => d1
      | some o =>
        if o.kind == .posted && err == .uncorrectable then
          (d0.upNi n fun y => { y with out := y.out.eraseIdx pos }).raise 0x43 n o.pkt.part
        else
        let r := takeHead c n pos { o with pkt := stampSync d o.pkt } (d1.ni n)
        let p := r.2
        let nxt := routePort pl.1 p.dest
        match pktToFlits p nxt with
        | [] => d1
        | f :: t =>
          let d2 := { d1 with nis := d1.nis.set n r.1 }
          let d3 := if t.isEmpty then d2 else d2.upNi n fun y => { y with
            rest := y.rest.set w.vc t, under := y.under.set w.vc { o with pkt := p, waited := false } }
          (probeTap n 0 p nxt (onLink f d3)).when (o.kind == .posted && err == .corrected) (Dev.raise 0x42 n p.part)

/-! The descriptor port of an OP unit (R416). -/

/-- OP unit `n`. -/
def Dev.op (d : Dev) (n : Nat) : OpUnit := d.ops.get {} n

/-- The device with `f` applied to OP unit `n`. -/
def Dev.upOp (n : Nat) (f : OpUnit → OpUnit) (d : Dev) : Dev := { d with ops := d.ops.modify {} n f }

/-- Partitions with queued descriptors at a unit. -/
def queuedParts (x : OpUnit) : List Nat := (List.range 16).filter fun p => x.store.any fun j => j.part == p

/-- Least pass value among some partitions. -/
def leastPass (x : OpUnit) (ps : List Nat) : Option Nat :=
  (ps.map fun p => x.pass.get 0 p).foldl (fun a v => match a with
    | none => some v
    | some w => some (min w v)) none

/-- A descriptor arrives at a unit (R424). -/
def arrive (n : Nat) (j : Job) (d : Dev) : Dev :=
  d.upOp n fun x =>
    let ps := queuedParts x
    let pass := if ps.contains j.part then x.pass
      else match leastPass x ps with
        | some v => x.pass.set j.part (max v (x.pass.get 0 j.part))
        | none => x.pass
    { x with store := x.store ++ [j], pass := pass }

/-- The descriptor and the job word of a delivery. The spec gives the job word's fields and not their places: queue, ring index,
partition and, at byte 8, USER_TAG. -/
def jobBytes (j : Job) (tag : Nat) : Bytes :=
  padTo 96 j.desc ++ leBytes 2 j.q ++ leBytes 2 j.index ++ [byte j.part, byte 0, byte 0, byte 0] ++ leBytes 4 tag
    ++ List.replicate 20 (byte 0)

/-- The job of a delivery's 128 bytes. -/
def jobOf (b : Bytes) : Job := { q := b.le 96 2, index := b.le 98 2, part := b.le 100 1, desc := b.take 96 }

/-- Whether a request is addressed to the descriptor port of OP NI `n`. -/
def atJobPort (n : Nat) (q : Packet) : Bool :=
  niKind n == 2 && q.ty == 2 && unitBlock q.addr == some (n, 0) && q.size == 128

/-- Whether a delivery waits because its unit holds 64 descriptors that have not started (R415). -/
def storeFull (d : Dev) (n : Nat) (q : Packet) : Bool := atJobPort n q && decide (64 ≤ (d.op (n - 32)).store.length)

/-! The target's side. -/

/-- The packet that the NI has taken whole from an ejection VC and whether it is poisoned (R137); none where none is
whole. -/
def Dev.front (d : Dev) (n vc : Nat) : Option (Packet × Bool) :=
  let fs := (d.ni n).taken.get [] vc
  if fs.any fun f => f.tail then
    match fs.head?.bind (·.pkt) with
    | some p => some (p, fs.any fun f => f.poison || f.crcBad)
    | none => none
  else none

/-- The packet taken from an ejection VC is done with, and the NI takes the next one. -/
def popEj (n vc : Nat) (d : Dev) : Dev :=
  takeFlits n vc (d.upNi n fun x => { x with taken := x.taken.erase vc, arrivals := x.arrivals.erase vc })

/-- Whether the bytes at an address are this NI's memory: basin or DDR5. -/
def isMemoryNi (n : Nat) : Bool := niKind n == 5 || niKind n == 6

/-- Fault sources of a memory NI: corrected, uncorrectable, and the instance (R471). -/
def memSources (n : Nat) : Nat × Nat × Nat :=
  if n < 56 then (0x60 + (n - 48), 0x68 + (n - 48), n - 48) else (0x70, 0x71, n - 56)

/-- An armed injection of 0x75 (write CRC) or 0x76 (command parity) sends the channel's command with inverted check bits;
the DRAM reports it and the controller retries (R482, R471). -/
def dramCommand (n : Nat) (write : Bool) (d : Dev) : Dev :=
  if niKind n = 5 ∧ ((write = true ∧ d.armedFor 0x75 (n - 48) = true) ∨ d.armedFor 0x76 (n - 48) = true) then
    d.raise d.faults.inj.src (n - 48)
  else d

/-- The register block of NI `n` or of its unit that an address lies in: an NI register's offset, or a unit register, of which
none is defined (R101, R102). -/
inductive RegPlace where
  | ni (off : Nat)
  | unit
  | none
  deriving DecidableEq, Repr

/-- Where an address lies among the registers of NI `n`. -/
def regPlace (n a : Nat) : RegPlace :=
  match niBlock a, unitBlock a with
  | some (m, off), _ => if m = n then .ni off else .none
  | none, some (m, _) => if m = n then .unit else .none
  | none, none => .none

/-- What a target makes of a non-posted request: STATUS, data, and the device after it (R181, R182, R100, R102, R26,
R195). -/
def requestAnswer (n : Nat) (q : Packet) (poisoned : Bool) (err : MemErr) (d : Dev) : Nat × Bytes × Dev :=
  if poisoned then (6, [], d)
  else if accepts n q.ty q.addr = false then (5, [], d)
  else match regPlace n q.addr with
  | .ni off =>
    if fenceApplies d n q then (4, [], d)
    else if regAligned off q.size then (0, niRegBytes d n off q.size, d)
    else (1, [], d)
  | .unit =>
    if d.unitUp n = false ∨ fenceApplies d n q = true then (4, [], d)
    else if atJobPort n q then (if niKind q.src = 1 then (0, [], arrive (n - 32) (jobOf q.data) d) else (1, [], d))
    else if q.ty = 2 ∧ niKind n ≠ 2 then (5, [], d)
    else if regAligned q.addr q.size then (0, List.replicate q.size (byte 0), d)
    else (1, [], d)
  | .none =>
    if d.unitUp n = false ∨ fenceApplies d n q = true then (4, [], d)
    else if isMemoryNi n then
      if inQctx q.addr = true ∧ niKind n = 6 ∧ niKind q.src ≠ 1 ∧ ¬ (q.src = 65 ∧ q.ty = 0) then (1, [], d)
      else if q.ty = 0 then
        let src := memSources n
        let d1 := dramCommand n false d
        match err with
        | .none => (0, d.memRead q.addr q.size, d1)
        | .corrected => (0, d.memRead q.addr q.size, d1.raise src.1 src.2.2 q.part)
        | .uncorrectable => (6, d.memRead q.addr q.size, d1.raise src.2.1 src.2.2 q.part)
      else (0, [], (dramCommand n true d).memWrite q.addr q.data)
    else (0, [], d)

/-- A non-posted request is performed at its target, or answered without being performed. -/
def performRequest (n : Nat) (q : Packet) (poisoned : Bool) (err : MemErr) (d : Dev) : Dev :=
  let r := requestAnswer n q poisoned err d
  respond n q r.1 r.2.1 r.2.2

/-- Whether a request at an NI is answered by another row: the bridge (R209) or the outbound port (R338). -/
def elsewhere (n : Nat) (q : Packet) : Bool :=
  (niKind n == 8 && decide (q.addr < 0x40000000)) || (niKind n == 3 && inOutbound q.addr)

/-- Whether a packet on VC `vc` is next to act at NI `n`: the basin and DDR5 perform accesses in their order of arrival, whatever
their VCs (R28). -/
def isNext (d : Dev) (n vc : Nat) : Bool := !isMemoryNi n || (d.ni n).arrivals.head? == some vc

/-- TARGET_REQUEST: the front non-posted request of an ejection VC is answered with exactly one response (R181).
Requests to the bridge and to PCIe wait for their own rows. -/
def targetRequest (n vc : Nat) (err : MemErr) (d : Dev) : Dev :=
  match d.front n vc with
  | some (q, bad) =>
    if (q.ty = 0 ∨ q.ty = 2) ∧ elsewhere n q = false ∧ isNext d n vc = true ∧ storeFull d n q = false then performRequest n q bad err (popEj n vc d) else d
  | none => d

/-- A posted WRITE is performed or discarded at its target (R182, R26, R100, R102, R195). -/
def performPosted (n : Nat) (q : Packet) (poisoned : Bool) (d : Dev) : Dev :=
  if poisoned then discardAt n 0x4B q.part d
  else if accepts n q.ty q.addr = false then discardAt n 0x49 q.part d
  else match regPlace n q.addr with
  | .ni off =>
    if fenceApplies d n q then discardAt n 0x4A q.part d
    else if regAligned off q.size then niRegWrite n off q.data.toNat d
    else discardAt n 0x54 q.part d
  | .unit =>
    if d.unitUp n = false ∨ fenceApplies d n q = true then discardAt n 0x4A q.part d
    else if regAligned q.addr q.size then d else discardAt n 0x54 q.part d
  | .none =>
    if d.unitUp n = false ∨ fenceApplies d n q = true then discardAt n 0x4A q.part d
    else if isMemoryNi n then
      if inQctx q.addr = true ∧ niKind n = 6 ∧ niKind q.src ≠ 1 then discardAt n 0x55 q.part d
      else (dramCommand n true d).memWrite q.addr q.data
    else d

/-- TARGET_POSTED_WRITE: the front posted WRITE of an ejection VC (R182). -/
def targetPostedWrite (n vc : Nat) (d : Dev) : Dev :=
  match d.front n vc with
  | some (q, bad) =>
    if q.ty = 1 ∧ elsewhere n q = false ∧ isNext d n vc = true then performPosted n q bad (popEj n vc d) else d
  | none => d

/-- RETRY_REISSUE: the reissue interval of a tag has passed; the request waits to be injected again, with AGE 0 (R181). -/
def retryReissue (n tag : Nat) (d : Dev) : Dev :=
  match (d.ni n).tags.find? tag with
  | some t =>
    if t.st = .retryWait then
      d.upNi n fun x => { (x.count 32 0x480) with
        tags := x.tags.set tag { t with st := .reissue, reissues := t.reissues + 1 }
        out := x.out ++ [{ pkt := { t.req with age := 0 }, kind := .reissue tag }] }
    else d
  | none => d

/-- A tag is given up: its request completes with a status and the tag is quarantined (R180). -/
def abandonTag (n tag status : Nat) (d : Dev) : Dev :=
  match (d.ni n).tags.find? tag with
  | some t =>
    if t.st = .quarantined then d
    else
      let d1 := d.upNi n fun x => { x with
        tags := x.tags.set tag { t with st := .quarantined }
        out := x.out.filter fun o => o.kind != .reissue tag }
      let d2 := complete n t status [] d1
      if t.ordered then releaseInOrder n d2 else d2
  | none => d

/-- A response reaches its initiator (R181, R180, R193, R190). -/
def responseIn (n : Nat) (r : Packet) (poisoned : Bool) (d : Dev) : Dev :=
  let x := d.ni n
  match x.tags.find? r.tag with
  | none => d.raise 0x4E n r.part
  | some t =>
    let freed := d.upNi n fun y => { y with tags := y.tags.erase r.tag }
    if t.st = .quarantined then freed.upNi n (Ni.count 32 0x488)
    else if t.req.dest ≠ r.src then d.raise 0x4E n r.part
    else
      let status := if poisoned then 6 else r.status
      let limit := d.fcfg.nat 0x2301 2
      if status = 3 ∧ (limit = 0 ∨ t.reissues < limit) then
        d.upNi n fun y => { y with tags := y.tags.set r.tag { t with st := .retryWait } }
      else
        let d1 := complete n t status r.data freed
        let d2 := if t.ordered then releaseInOrder n d1 else d1
        if status = 3 then d2.raise 0x4F n r.part else d2

/-- RESPONSE_ARRIVAL: the front response of an ejection VC (R181). `err` is what SECDED finds in the tag's entry: an
uncorrectable one completes its request TGTERR and quarantines the tag (R192). -/
def responseArrival (n vc : Nat) (err : MemErr) (d : Dev) : Dev :=
  match d.front n vc with
  | some (r, bad) =>
    if r.ty = 8 ∨ r.ty = 9 then
      let d1 := popEj n vc d
      match err with
      | .none => responseIn n r bad d1
      | .corrected => responseIn n r bad (d1.raise 0x40 n r.part)
      | .uncorrectable => (abandonTag n r.tag 1 d1).raise 0x41 n r.part
    else d
  | none => d

/-- Whether the response of a tag has arrived at NI `n` and waits to be delivered (R193). -/
def responseHere (d : Dev) (n tag : Nat) : Bool :=
  [3, 4, 5].any fun vc => (((d.ni n).taken.get [] vc) ++ ((d.ni n).ej.get [] vc)).any fun f =>
    match f.pkt with
    | some r => r.tag == tag
    | none => false

/-- RESPONSE_TIMEOUT: the request completes TGTERR, 0x4D is raised and the tag is quarantined; a response that has arrived
goes first (R193). -/
def responseTimeout (n tag : Nat) (d : Dev) : Dev :=
  match (d.ni n).tags.find? tag with
  | some t =>
    if t.st = .quarantined ∨ responseHere d n tag = true then d else (abandonTag n tag 1 d).raise 0x4D n t.req.part
  | none => d

/-! Messages. -/

/-- Credits of a message become owed to its source (R183, R184, R185). -/
def freeCredits (n : Nat) (p : Packet) (d : Dev) : Dev :=
  if noCredit p then d
  else
    let k := 256 * p.src + queueOf p
    d.upNi n fun x => { x with
      freedHere := x.freedHere.modify 0 k fun v => (v + creditNeed p) % 256
      owed := x.owed.set k true }

/-- The first eight of the queues whose counts a destination has to return to a source (R184). -/
def owedTo (t : Tbl Bool) (src : Nat) : List Nat := ((t.filter fun e => e.2 && e.1 / 256 == src).map (·.1)).take 8

/-- The pairs (queue, cumulative freed count) of a credit return. -/
def creditPairs (x : Ni) (keys : List Nat) : Bytes :=
  keys.foldl (fun acc k => acc ++ [byte (k % 256), byte (x.freedHere.get 0 k)]) []

/-- CREDIT_RETURN_SEND: the destination returns its changed counts to a source, up to eight in one message (R184). -/
def creditReturnSend (n src : Nat) (d : Dev) : Dev :=
  let x := d.ni n
  let ks := owedTo x.owed src
  if ks.isEmpty then d
  else (sendOwn n src 0xFF 0 1 (creditPairs x ks) d).upNi n fun y => { y with
    owed := y.owed.filter fun e => !ks.contains e.1
    again := ks.foldl (fun t k => Tbl.set t k true) y.again }

/-- CREDIT_RETURN_REPEAT: the latest counts are sent once more (R184). -/
def creditReturnRepeat (n src : Nat) (d : Dev) : Dev :=
  let x := d.ni n
  let ks := owedTo x.again src
  if ks.isEmpty then d
  else (sendOwn n src 0xFF 0 1 (creditPairs x ks) d).upNi n fun y => { y with again := y.again.filter fun e => !ks.contains e.1 }

/-- One pair of a credit return: the source takes the count, unless it would lift its credit above the share. -/
def takePair (n dest q v : Nat) (d : Dev) : Dev :=
  let k := 256 * dest + q
  let share := if q = holdQueue then 4 else 2
  if share < ((d.ni n).sent.get 0 k + 256 - v) % 256 then d.raise 0x57 n
  else d.upNi n fun x => { x with freed := x.freed.set k v }

/-- The pairs of a credit-return payload. -/
def takePairs (n dest : Nat) : Bytes → Dev → Dev
  | q :: v :: t, d => takePairs n dest t (takePair n dest q.toNat v.toNat d)
  | _, d => d

/-- CREDIT_RETURN_RECEIVE: a credit return is absorbed at MQ 0xFF (R184, R185); a poisoned one is discarded. -/
def creditReturnReceive (n vc : Nat) (d : Dev) : Dev :=
  match d.front n vc with
  | some (p, bad) =>
    if p.ty = 4 ∧ p.mq = 0xFF then
      if bad then discardAt n 0x4B p.part (popEj n vc d) else takePairs n p.src p.data (popEj n vc d)
    else d
  | none => d

/-- The stamp of a sync message: TAI seconds and FCLK count. -/
def stampOf (b : Bytes) : Int := ((b.le 0 6 * fclkPerSec + b.le 6 4 : Nat) : Int)

/-- The greater of two errors by magnitude, the first where they are equal (0x2D50:04). -/
def widerError (a b : Int) : Int := if a.natAbs < b.natAbs then b else a

/-- A sync message checked against the replica (R188); a replica out of step is reported to the TTU (R445). -/
def checkSync (n : Nat) (p : Packet) (d : Dev) : Dev :=
  let h := hops (niPlace 64).1 (niPlace n).1
  let e := d.replica n - (stampOf p.data + (2 * h + 6 : Nat))
  let d1 := (d.upNi n fun x => { (x.count 32 0x5010) with lastE := e }).onTiming fun t =>
    { t with largest := widerError t.largest e }
  if 0 ≤ e ∧ e ≤ (90 : Int) - (2 * h : Nat) then d1
  else
    let d2 := (d1.upNi n fun x => { (x.count 32 0x5018) with outOfStep := true }).raise 0x53 n
    sendOwn n 64 0xFE 1 0 (leBytes 2 (encInt 16 e)) d2

/-- A time message of the TTU: code 0 SYNC, 2 LOAD, 3 ADD with its signed count (R443, R445). -/
def takeTime (n : Nat) (p : Packet) (d : Dev) : Dev :=
  if p.code = 2 then d.upNi n fun x => { x with change := some .load }
  else if p.code = 3 then d.upNi n fun x => { x with change := some (.add (decInt 64 (p.data.le 0 8))) }
  else checkSync n p d

/-- SYNC_CHECK: the front message to MQ 0xFE is absorbed; a SYNC is checked (R188, R185, R443). -/
def syncCheck (n vc : Nat) (d : Dev) : Dev :=
  match d.front n vc with
  | some (p, bad) =>
    if p.ty = 4 ∧ p.mq = 0xFE ∧ n ≠ 64 then
      if bad then discardAt n 0x4B p.part (popEj n vc d) else takeTime n p (popEj n vc d)
    else d
  | none => d

/-- Whether the unit of NI `n` defines message queue `q` (R183, R185): a CP MQ 0 and MQ 1 (R364), an SE MQ 0 to 3 (R291, R299,
R370, R421), an HP MQ 0 and MQ 1 (R299, R340), an EP none, and the TTU none, since its MQ 1 takes TIMED_MESSAGEs (R451). -/
def mqDefined (n q : Nat) : Bool :=
  match niKind n with
  | 0 => decide (q < 2)
  | 1 => decide (q < 4)
  | 3 => decide (q < 2)
  | _ => false

/-- Whether a CP or the TTU defines the MQ and CODE of a TIMED_MESSAGE (R364, R451). -/
def timedDefined (n mq code : Nat) : Bool :=
  if n < 24 then (mq == 0 && (code == 0x10 || code == 0x11)) || (mq == 1 && code == 0x20)
  else mq == 1 && code == 0x40

/-- A message enters its queue or is discarded (R185, R182, R26, R195). -/
def messageIn (n : Nat) (p : Packet) (bad : Bool) (d : Dev) : Dev :=
  if bad then discardAt n 0x4B p.part (freeCredits n p d)
  else if mqDefined n p.mq = false then discardAt n 0x50 p.part (freeCredits n p d)
  else if d.unitUp n = false ∨ fenceApplies d n p = true then discardAt n 0x4A p.part (freeCredits n p d)
  else d.upNi n fun x => { x with mq := x.mq.modify [] p.mq (· ++ [p]) }

/-- MESSAGE_ARRIVAL: the front MESSAGE of an ejection VC enters its queue, is absorbed or is discarded (R185). -/
def messageArrival (n vc : Nat) (d : Dev) : Dev :=
  match d.front n vc with
  | some (p, bad) =>
    if p.ty = 4 ∧ p.mq = 0xFF then creditReturnReceive n vc d
    else if p.ty = 4 ∧ p.mq = 0xFE ∧ n ≠ 64 then syncCheck n vc d
    else if p.ty = 4 ∧ p.mq = 0xFE then d
    else if p.ty = 4 then messageIn n p bad (popEj n vc d)
    else d
  | none => d

/-- The front message of a queue. -/
def Dev.mqFront (d : Dev) (n q : Nat) : Option Packet := ((d.ni n).mq.get [] q).head?

/-- The destination unit removes the front message of a queue; its credits are owed (R183). -/
def mqTake (n q : Nat) (d : Dev) : Dev :=
  match (d.ni n).mq.get [] q with
  | [] => d
  | p :: t => freeCredits n p (d.upNi n fun x => { x with mq := x.mq.set q t })

/-- TIMED_MESSAGE_ARRIVAL: held, released late, or discarded (R186, R187). -/
def timedIn (n : Nat) (p : Packet) (bad : Bool) (d : Dev) : Dev :=
  let rel := timeCount p.relS p.relNs
  let now := d.replica n
  let horizon : Int := ((d.fcfg.nat 0x2301 5 * 1500000 : Nat) : Int)
  if bad then discardAt n 0x4B p.part (freeCredits n p d)
  else if hasHold n = false then discardAt n 0x49 p.part (freeCredits n p d)
  else if d.unitUp n = false ∨ fenceApplies d n p = true then discardAt n 0x4A p.part (freeCredits n p d)
  else if timedDefined n p.mq p.code = false then discardAt n 0x50 p.part (freeCredits n p d)
  else if rel ≤ now then
    (freeCredits n p (d.upNi n fun x => { (x.count 32 0x708) with released := x.released ++ [⟨p, true⟩] })).raise 0x51 n p.part
  else if horizon < rel - now then (freeCredits n p (d.upNi n (Ni.count 32 0x710))).raise 0x52 n p.part
  else d.upNi n fun x => { (x.peak 0x702 (x.hold.length + 1)) with hold := x.hold ++ [⟨p, false⟩] }

/-- TIMED_MESSAGE_ARRIVAL (R187). -/
def timedMessageArrival (n vc : Nat) (d : Dev) : Dev :=
  match d.front n vc with
  | some (p, bad) => if p.ty = 5 then timedIn n p bad (popEj n vc d) else d
  | none => d

/-- Messages of the hold store that are due at NI `n` (R186). -/
def dueHeld (d : Dev) (n : Nat) (h : Released) : Bool := decide (timeCount h.pkt.relS h.pkt.relNs ≤ d.replica n)

/-- Up to four due messages leave in arrival order; due messages passed over are marked late (R186). -/
def releaseDue (n : Nat) (d : Dev) : Dev :=
  let x := d.ni n
  let due := x.hold.filter (dueHeld d n)
  let rest := x.hold.filter fun h => !dueHeld d n h
  let go := due.take 4
  let passed := (due.drop 4).map fun h => { h with late := true }
  let d1 := d.upNi n fun y => { y with hold := passed ++ rest, released := y.released ++ go }
  let d2 := Dev.fold (go.filter (·.late)) (fun _ e => e.upNi n (Ni.count 32 0x708)) d1
  Dev.fold go (fun h e => freeCredits n h.pkt e) d2

/-- TIMED_RELEASE: a release cycle. `err` is what SECDED finds in the first due entry: an uncorrectable one is discarded
and its credit returned (R192). -/
def timedRelease (n : Nat) (err : MemErr) (d : Dev) : Dev :=
  match err, (d.ni n).hold.find? (dueHeld d n) with
  | .corrected, some h => releaseDue n (d.raise 0x46 n h.pkt.part)
  | .uncorrectable, some h =>
    releaseDue n ((freeCredits n h.pkt (d.upNi n fun y => { y with hold := y.hold.erase h })).raise 0x47 n h.pkt.part)
  | _, _ => releaseDue n d

/-! Register writes. -/

/-- NI_DECERR_CLR (R102). -/
def niDecerrClr (n value : Nat) (d : Dev) : Dev := niRegWrite n 0x20 value d

/-- NI_STAT_CLR (R192). -/
def niStatClr (n value : Nat) (d : Dev) : Dev := niRegWrite n 0x3F00 value d

/-- WEIR_CLR (R167). -/
def weirClr (n value : Nat) (d : Dev) : Dev := niRegWrite n 0x4800 value d

/-- FENCE_MARK_ANSWER: the front mark of an ejection VC is answered once the earlier writes of its source on that VC
are performed; they left the buffer before it. A fenced partition or an unpowered unit answers FENCED (R26, R195). `clear` says that no write of the source waits beyond the NI (R189). -/
def answerMark (n vc : Nat) (clear : Packet → Bool) (d : Dev) : Dev :=
  match d.front n vc with
  | some (q, bad) =>
    if q.ty = 3 ∧ clear q = true ∧ isNext d n vc = true then
      respond n q (if bad then 6 else if d.unitUp n = false ∨ fenceApplies d n q = true then 4 else 0) [] (popEj n vc d)
    else d
  | none => d

/-! Resets and fences. -/

/-- A tag is given up and its request completes to nobody (R196, R227). -/
def quarantine (n tag : Nat) (d : Dev) : Dev :=
  d.upNi n fun x => { x with
    tags := match x.tags.find? tag with
      | some t => x.tags.set tag { t with st := .quarantined }
      | none => x.tags
    out := x.out.filter fun o => o.kind != .reissue tag }

/-- A unit reset at its NI (R196): tags quarantined, entries and held messages discarded, queues emptied. The unit that asked
is gone, so nothing completes to it (R227). -/
def niUnitReset (n : Nat) (d : Dev) : Dev :=
  let x := d.ni n
  let d1 := Dev.fold x.tags (fun e acc => quarantine n e.1 acc) d
  let msgs := (x.mq.map (·.2)).foldl (· ++ ·) [] ++ x.hold.map (·.pkt)
  let d2 := d1.upNi n fun y => { y with
    atUnit := [], wcb := [], mq := [], hold := [], released := [], fenced := [], answers := [], respHeld := []
    out := y.out.filter fun o => match o.kind with
      | .response => true
      | .own => true
      | _ => false }
  Dev.fold msgs (fun p acc => freeCredits n p acc) d2

/-- What waits at a unit for a partition that is fenced is not taken (R195): its requests end FENCED, its writes are not
issued. What an engine or a host read has started goes on (R253). -/
def dropAtUnit (n p : Nat) (d : Dev) : Dev :=
  if p = 0 ∧ 64 ≤ n then d
  else
    let hit (o : Out) : Bool := o.pkt.part == p && (o.kind == .request || o.kind == .posted) && decide (o.pkt.code < 3)
    let gone := (d.ni n).atUnit.filter fun o => hit o && o.kind == .request
    Dev.fold gone (fun o acc => deliverOrdered n { req := o.pkt, status := 4, data := [] } acc)
      (d.upNi n fun x => { x with atUnit := x.atUnit.filter fun o => !hit o })

/-- Step 2 of a lock cycle at NI `n` (R195): entries are closed, held messages of `p` discarded. -/
def niFence (n p : Nat) (d : Dev) : Dev :=
  let d1 := dropAtUnit n p (closeWcb n (fun e => e.pkt.part == p) d)
  if p = 0 ∧ 64 ≤ n then d1
  else
    let hit (h : Released) : Bool := h.pkt.part == p && !(p == 0 && decide (64 ≤ h.pkt.src))
    let gone := ((d1.ni n).hold.filter hit).map (·.pkt)
    let d2 := d1.upNi n fun x => { x with hold := x.hold.filter fun h => !hit h }
    Dev.fold gone (fun q acc => freeCredits n q (acc.upNi n (Ni.count 32 (0x800 + 8 * p)))) d2

/-- A forced drain at NI `n` (R254): tags of `p` abandoned, its entries discarded, its marks given up. -/
def niForceDrain (n p : Nat) (d : Dev) : Dev :=
  let mine := (d.ni n).tags.filter fun e => e.2.req.part == p && e.2.st != .quarantined
  let d1 := Dev.fold mine (fun e acc => abandonTag n e.1 1 acc) d
  let d2 := d1.upNi n fun x => { x with
    wcb := x.wcb.filter fun e => e.pkt.part != p
    atUnit := x.atUnit.filter fun o => o.pkt.part != p
    fenced := x.fenced.filter fun m => m.pkt.part != p
    fenceSet := x.fenceSet.filter fun e => e.1 / 1024 != p
    out := x.out.filter fun o => o.pkt.part != p || (match o.kind with
      | .response => true
      | .own => true
      | _ => false) }
  if mine.isEmpty then d2 else d2.raise 0x56 n p

/-- Whether no request, entry, fenced message or waiting packet of `p` remains at NI `n` (R253). -/
def niQuiet (d : Dev) (n p : Nat) : Bool :=
  let x := d.ni n
  x.inuse p == 0 && !(x.wcb.any fun e => e.pkt.part == p) && !(x.atUnit.any fun o => o.pkt.part == p)
    && (x.fenced.all fun m => m.pkt.part != p || (m.pkt.ty == 3 && m.marks == 0))
    && !(x.out.any fun o => o.pkt.part == p && (match o.kind with
      | .response => false
      | .own => false
      | _ => true))

/-- Writes of `p` that NI `n` has issued since its last fenced message or drain. -/
def writtenOf (x : Ni) (p : Nat) : List Nat := (x.fenceSet.map (·.1)).filter fun k => k / 1024 == p

/-- Whether NI `n` has drained `p`, its drain marks included (R253). -/
def niDrained (d : Dev) (n p : Nat) : Bool := niQuiet d n p && (writtenOf (d.ni n) p).isEmpty

/-- The drain marks of `p` at NI `n`: sent once nothing else of `p` remains there (R253). They are kept like a fenced
message that has no message to send. -/
def drainMarks (n p : Nat) (d : Dev) : Dev :=
  let keys := writtenOf (d.ni n) p
  if keys.isEmpty ∨ niQuiet d n p = false then d
  else (closeWcb n (fun e => keys.any fun k => k % 1024 == 4 * e.pkt.dest + e.pkt.cls) d).upNi n fun x =>
    let marks := marksFor n p x.fenceId keys
    { x with
      out := x.out ++ marks
      fenced := (x.fenced.filter fun m => !(m.pkt.ty == 3 && m.pkt.code == 0 && m.marks == 0)) ++
        [{ id := x.fenceId, pkt := { messagePkt n p 0 0 0 0 [] with ty := 3 }, marks := marks.length }]
      fenceSet := x.fenceSet.filter fun e => e.1 / 1024 != p
      fenceId := x.fenceId + 1 }

/-- Whether the drain of `p` runs at NI `n`: the partition is FENCING, or the unit's power domain is. -/
def draining (d : Dev) (n p : Nat) : Bool :=
  (d.part p).state == 1 || (match unitPd n with
    | some k => (d.pds.get {} k).state == 4
    | none => false)

/-- The drain marks that NI `n` owes. -/
def owedMarks (n : Nat) (d : Dev) : Dev :=
  if isInitiator n then Dev.fold ((List.range 16).filter (draining d n)) (drainMarks n) d else d

/-- The buckets of `p` at every NI are full after a release (R172). -/
def fillBuckets (p : Nat) (d : Dev) : Dev :=
  { d with nis := d.nis.map fun e => (e.1, { e.2 with spent := e.2.spent.filter fun k => decide (k.1 / 4 ≠ p ∨ 64 ≤ k.1) }) }

/-- One bucket at the apply edge of a new configuration: its tokens stay, clipped to the new burst (R159, R171). -/
def rebase (old new : Cfg) (n p k : Nat) (x : Ni) : Ni :=
  let b := weirBurst old n p k
  let b' := weirBurst new n p k
  if b = b' then x
  else
    let sp := x.spent.get 0 (4 * p + k)
    let sp' := if b' + sp ≤ b then 0 else b' + sp - b
    { x with spent := x.spent.set (4 * p + k) sp' }

/-- Whether two configurations differ in an index range. -/
def cfgDiffers (a b : Cfg) (lo hi : Nat) : Bool :=
  let sel (e : Nat × Bytes) : Bool := decide (lo * 256 ≤ e.1 ∧ e.1 < (hi + 1) * 256)
  a.filter sel != b.filter sel

/-- The weirs at the FCLK apply edge (R157, R159, R171). -/
def applyWeirs (old new : Cfg) (d : Dev) : Dev :=
  if cfgDiffers old new 0x2210 0x222F then
    Dev.fold ((List.range 67).filter isInitiator) (fun n acc =>
      acc.upNi n fun x => (List.range 16).foldl (fun y p => [1, 2, 3].foldl (fun z k => rebase old new n p k z) y) x) d
  else d

/-- The NI before a cycle's injection: it takes what it can from its unit, and the drain marks that fall due are queued (R253,
R179). -/
def beforeInject (n : Nat) (d : Dev) : Dev := owedMarks n (takeUnit n d)

/-- The packet whose head the next injection of NI `n` sends, if it sends one (R155). -/
def nextHead (d : Dev) (n : Nat) : Option Out :=
  let x := d.ni n
  ((sortBy (niBefore x) (niCands d.fcfg n x)).head?.bind (·.pos)).bind fun i => x.out[i]?

/-- NI_INJECT: one cycle of an NI, the stalls of what still waits at its unit counted (R155, R179). -/
def niCycle (n : Nat) (err : MemErr) (d : Dev) : Dev := (niInject n err d).upNi n fun x => countWaiting d.fcfg n x

/-! Meanings. -/

/-- WEIR_TOKEN: A weir token falls due on its grid and is added to the bucket unless the bucket is full (R159). -/
def execWeirToken (n : Nat) (b : Bucket) (s : State) : Host.Outcome State Fault Refusal :=
  actFclk (wfWeirToken n b) (weirToken n b) s

/-- UNIT_POSTED_WRITE: The unit hands a posted WRITE to its NI, which combines it in the write-combining buffer (R176). -/
def execUnitPostedWrite (n : Nat) (part : Nat) (cls : Nat) (addr : Nat) (data : Bytes) (s : State) : Host.Outcome State Fault Refusal :=
  actFclk (wfUnitPostedWrite n part cls addr data) (unitPostedWrite n part cls addr data) s

/-- COMBINE_TIMEOUT: A write-combining entry has been open for the combine timeout and is closed (R176). -/
def execCombineTimeout (n : Nat) (k : Nat) (s : State) : Host.Outcome State Fault Refusal :=
  actFclk (wfCombineTimeout n k) (combineTimeout n k) s

/-- UNIT_NONPOSTED_REQUEST: The unit places a non-posted request in its partition's staging slot (R178). -/
def execUnitNonpostedRequest (n : Nat) (part : Nat) (ty : Nat) (cls : Nat) (addr : Nat) (size : Nat) (data : Bytes) (s : State) : Host.Outcome State Fault Refusal :=
  actFclk (wfUnitNonpostedRequest n part ty cls addr size data) (unitNonpostedRequest n part ty cls addr size data) s

/-- UNIT_MESSAGE: The unit hands its NI a MESSAGE, which waits for end-to-end credit (R183). -/
def execUnitMessage (n : Nat) (timed : Bool) (part : Nat) (cls : Nat) (dest : Nat) (mq : Nat) (code : Nat) (data : Bytes) (relS : Nat) (relNs : Nat) (s : State) : Host.Outcome State Fault Refusal :=
  actFclk (wfUnitMessage n timed part cls dest mq code data relS relNs) (unitMessage n timed part cls dest mq code data relS relNs) s

/-- FENCED_MESSAGE: A fenced message makes the NI send FENCE_MARKs to every destination it has written since its last fenced message (R190). -/
def execFencedMessage (n : Nat) (part : Nat) (cls : Nat) (dest : Nat) (mq : Nat) (code : Nat) (data : Bytes) (s : State) : Host.Outcome State Fault Refusal :=
  actFclk (wfFencedMessage n part cls dest mq code data) (fencedMessage n part cls dest mq code data) s

/-- TARGET_REQUEST: A target NI receives a non-posted request and answers it with exactly one response (R181). -/
def execTargetRequest (n : Nat) (vc : Nat) (err : MemErr) (s : State) : Host.Outcome State Fault Refusal :=
  actFclk (wfTargetRequest n vc err) (targetRequest n vc err) s

/-- TARGET_POSTED_WRITE: A target NI receives a posted WRITE and performs or discards it (R182). -/
def execTargetPostedWrite (n : Nat) (vc : Nat) (s : State) : Host.Outcome State Fault Refusal :=
  actFclk (wfTargetPostedWrite n vc) (targetPostedWrite n vc) s

/-- RETRY_REISSUE: The RETRY reissue interval expires and the NI reissues the request with the same tag (R181). -/
def execRetryReissue (n : Nat) (tag : Nat) (s : State) : Host.Outcome State Fault Refusal :=
  actFclk (wfRetryReissue n tag) (retryReissue n tag) s

/-- MESSAGE_ARRIVAL: A MESSAGE reaches its destination NI and enters its queue, is absorbed, or is discarded (R185). -/
def execMessageArrival (n : Nat) (vc : Nat) (s : State) : Host.Outcome State Fault Refusal :=
  actFclk (wfMessageArrival n vc) (messageArrival n vc) s

/-- CREDIT_RETURN_SEND: Within 64 FCLK of a count change, the destination NI sends a credit-return message to MQ 0xFF (R184). -/
def execCreditReturnSend (n : Nat) (src : Nat) (s : State) : Host.Outcome State Fault Refusal :=
  actFclk (wfCreditReturnSend n src) (creditReturnSend n src) s

/-- CREDIT_RETURN_REPEAT: 4,096 FCLK after a change, the latest freed counts are sent once more (R184). -/
def execCreditReturnRepeat (n : Nat) (src : Nat) (s : State) : Host.Outcome State Fault Refusal :=
  actFclk (wfCreditReturnRepeat n src) (creditReturnRepeat n src) s

/-- CREDIT_RETURN_RECEIVE: A credit-return message is absorbed at MQ 0xFF and the source recomputes its credits (R184). -/
def execCreditReturnReceive (n : Nat) (vc : Nat) (s : State) : Host.Outcome State Fault Refusal :=
  actFclk (wfCreditReturnReceive n vc) (creditReturnReceive n vc) s

/-- TIMED_MESSAGE_ARRIVAL: A TIMED_MESSAGE arrives at a holding NI and is held, released late, or discarded beyond the horizon (R187). -/
def execTimedMessageArrival (n : Nat) (vc : Nat) (s : State) : Host.Outcome State Fault Refusal :=
  actFclk (wfTimedMessageArrival n vc) (timedMessageArrival n vc) s

/-- TIMED_RELEASE: The replica reaches a held message's release time and the message goes to the unit's release port (R186). -/
def execTimedRelease (n : Nat) (err : MemErr) (s : State) : Host.Outcome State Fault Refusal :=
  actFclk (wfTimedRelease n err) (timedRelease n err) s

/-- SYNC_CHECK: An NI checks its replica against a SYNC message and sets NOT_IN_STEP when it disagrees (R188). -/
def execSyncCheck (n : Nat) (vc : Nat) (s : State) : Host.Outcome State Fault Refusal :=
  actFclk (wfSyncCheck n vc) (syncCheck n vc) s

/-- NI_DECERR_CLR: A write of NI_DECERR_CLR clears NI_DECERR_COUNT and NI_DECERR_ADDR (R102). -/
def execNiDecerrClr (n : Nat) (value : Nat) (s : State) : Host.Outcome State Fault Refusal :=
  actFclk (wfNiDecerrClr n value) (niDecerrClr n value) s

/-- NI_STAT_CLR: A write of NI_STAT_CLR clears the NI tag, buffer and holding statistics (R192). -/
def execNiStatClr (n : Nat) (value : Nat) (s : State) : Host.Outcome State Fault Refusal :=
  actFclk (wfNiStatClr n value) (niStatClr n value) s

/-- WEIR_CLR: A write of WEIR_CLR clears the weir stall and AGE_MAX statistics of the NI (R167). -/
def execWeirClr (n : Nat) (value : Nat) (s : State) : Host.Outcome State Fault Refusal :=
  actFclk (wfWeirClr n value) (weirClr n value) s

end Sys2Proof.Machine
end

