-- ==== Sys2Proof/Machine/Periph.lean ====
section
/-! DEFINITION. The peripheral matrix and the lockkeeper bridge (spec/08): arbitration and rights of the four masters,
delayed reads, prefetch, posted writes, forwarded interrupt lines and the outbound ports of LKC and LDMA. -/
namespace Sys2Proof.Machine

/-- A target of the peripheral matrix (R96): the SEAL slot is split into its public part and the sealed window. -/
inductive MxTarget where
  | bootrom | msram | cfgs | fcol | canc | qspi | flash | smp | gpio | tmr | otp | sealPublic | sealed | default
  deriving DecidableEq, Repr

/-- The matrix decode of a peripheral address (R96, R113). -/
def mxDecode (remap : Bool) (a : Nat) : MxTarget :=
  let rom (o : Nat) : MxTarget := if o < 0x40000 then .bootrom else .default
  let ram (o : Nat) : MxTarget := if o < 0x200000 then .msram else .default
  if a < 0x10000000 then (if remap then ram a else rom a)
  else if a < 0x20000000 then (if remap then rom (a - 0x10000000) else ram (a - 0x10000000))
  else if a < 0x20010000 then .cfgs
  else if a < 0x20020000 then .fcol
  else if a < 0x20030000 then .canc
  else if a < 0x20040000 then .qspi
  else if a < 0x20050000 then .smp
  else if a < 0x20060000 then .gpio
  else if a < 0x20070000 then .tmr
  else if a < 0x20080000 then .otp
  else if a < 0x20081000 then .sealPublic
  else if a < 0x20090000 then .sealed
  else if 0x30000000 ≤ a ∧ a < 0x40000000 then .flash
  else .default

/-- The target port of a target: SEAL's two parts share one. -/
def MxTarget.port : MxTarget → Nat
  | .bootrom => 0
  | .msram => 1
  | .cfgs => 2
  | .fcol => 3
  | .canc => 4
  | .qspi => 5
  | .flash => 5
  | .smp => 6
  | .gpio => 7
  | .tmr => 8
  | .otp => 9
  | .sealPublic => 10
  | .sealed => 10
  | .default => 11

/-- Whether the table of R199 lets a master read (or write) a target; `locked` is DBG's lock. -/
def mxAllowed (m : Nat) (locked : Bool) (t : MxTarget) (write : Bool) : Bool :=
  if m = 3 ∧ locked = true then false
  else match t with
    | .bootrom => !write
    | .flash => !write
    | .msram => true
    | .canc => true
    | .gpio => true
    | .tmr => true
    | .cfgs => m != 2
    | .qspi => m != 2
    | .fcol => m != 2 || !write
    | .smp => m != 2 || !write
    | .otp => m != 2 || !write
    | .sealPublic => m != 2
    | .sealed => m != 2
    | .default => false

/-- Whether an attribute entry may mark a target prefetchable (R107). -/
def MxTarget.mayPrefetch : MxTarget → Bool
  | .bootrom => true
  | .msram => true
  | .otp => true
  | .flash => true
  | _ => false

/-- Whether an attribute entry may mark a target posted (R107). -/
def MxTarget.mayPost : MxTarget → Bool
  | .msram => true
  | .canc => true
  | .gpio => true
  | .tmr => true
  | _ => false

/-- DBG is locked unless factory test mode is active (R198). -/
def Dev.dbgLocked (d : Dev) : Bool := !(d.power.testMode && d.otp.testOn)

/-- Where MSRAM's byte at a peripheral address lies in the model's memory. -/
def msramKey (a : Nat) : Nat := 0x10000000 + a % 0x10000000

/-- What a flash byte that is not programmed reads as. -/
def erasedByte : Byte := byte 0xFF

/-- Size of the fitted flash, 64 to 256 MiB (R550). -/
def flashSize : Nat := max 0x4000000 (min 0x10000000 Config.fittedFlash)

/-- The bytes of a boot record copy: magic, sequence, fields and CRC-32C (R519). -/
def recordBytes (e : Nat × BootRecord) : Bytes :=
  let b := leBytes 4 0x48554252 ++ leBytes 4 e.1 ++ [byte e.2.pin, byte e.2.trial, byte e.2.attempts, byte e.2.outcome]
  b ++ leBytes 4 (crc32c b)

/-- The byte at a flash offset (R515): firmware slots, configuration slots, boot record copies, the reserved area, and
the card maker's part. What a configuration slot or a record copy that is not valid holds is open. -/
def flashByte (d : Dev) (o : Nat) : Byte :=
  let raw : Byte := Config.periphByte d.free (0x30000000 + o)
  if o < 0x800000 then (d.flash.firmware.get [] (o / 0x400000)).getD (o % 0x400000) erasedByte
  else if o < 0xC00000 then
    match d.flash.config.find? ((o - 0x800000) / 0x200000) with
    | some b => b.getD (o % 0x200000) erasedByte
    | none => raw
  else if o < 0xC20000 then
    match d.flash.record.find? ((o - 0xC00000) / 0x10000) with
    | some e => (recordBytes e).getD (o % 0x10000) erasedByte
    | none => raw
  else if o < 0x1000000 then erasedByte
  else raw

/-- Whether a read of a target fails there: a flash read above the fitted flash (R97). -/
def readFails (t : MxTarget) (a : Nat) : Bool := t == .flash && decide (flashSize ≤ a - 0x30000000)

/-- The byte that a target returns for a peripheral address. -/
def periphByteAt (d : Dev) (t : MxTarget) (a : Nat) : Byte :=
  match t with
  | .msram => busRead d.bus d.stored (msramKey a)
  | .flash => flashByte d (a - 0x30000000)
  | _ => Config.periphByte d.free a

/-! The bridge's view of writes. -/

/-- A bridge counter, saturating (0x2430). -/
def Dev.countBridge (sub k : Nat) (d : Dev) : Dev :=
  d.onBridge fun b => { b with counts := b.counts.modify 0 sub fun v => satAdd 32 v k }

/-- The prefetch lines that `gone` names are invalidated; those fetched ahead and never read are counted (R215). -/
def dropLines (gone : Nat → PfLine → Bool) (d : Dev) : Dev :=
  let n := d.bridge.streams.foldl (fun a s => a + (s.lines.filter fun l => gone s.src l && l.unread).length) 0
  let d1 := d.onBridge fun b => { b with
    streams := b.streams.map fun s => { s with lines := s.lines.filter fun l => !gone s.src l } }
  d1.countBridge 7 n

/-- Invalidation of the lines that overlap a byte range, a running fetch included (R215). -/
def invalidate (a n : Nat) (d : Dev) : Dev :=
  let d1 := dropLines (fun _ l => overlaps l.addr 64 a n) d
  d1.onBridge fun b => { b with
    drop := b.drop || (match b.job, b.order with
      | .front, .demand _ (l :: _) _ :: _ => overlaps l 64 a n
      | _, _ => false)
    job := match b.job with
      | .ahead s l k => .ahead s l (k && !overlaps l 64 a n)
      | j => j }

/-- Invalidation of every line (R205, R215); what was still to be fetched ahead is given up with them. -/
def invalidateAll (d : Dev) : Dev :=
  (invalidate 0 (2 ^ 48) d).onBridge fun b => { b with streams := b.streams.map fun s => { s with ahead := [] } }

/-- Fetches that `hit` names leave the bridge's order; one that runs goes on, and its result will be discarded. -/
def Bridge.unqueue (hit : Nat → Bool) (b : Bridge) : Bridge :=
  let isHit (o : BridgeOp) : Bool := match o with
    | .fetch i => hit i
    | _ => false
  let running := match b.job, b.order with
    | .front, o :: _ => isHit o
    | _, _ => false
  { b with order := b.order.filter fun o => !isHit o, job := if running then .stale else b.job }

/-- A write over the bytes of delayed-read entries discards their results; the fetches are queued again at the end (R217,
R218). -/
def discardOver (a n : Nat) (d : Dev) : Dev :=
  let hit (e : DelayedRead) : Bool := overlaps e.req.addr e.req.size a n
  let ids := (d.bridge.entries.filter hit).map (·.id)
  let d1 := d.onBridge fun b =>
    let u := b.unqueue ids.contains
    { u with
      entries := b.entries.map fun e => if (hit e) then { e with stored := false, data := [], status := 0 } else e
      order := u.order ++ ids.map BridgeOp.fetch }
  d1.countBridge 4 ids.length

/-! Matrix arbitration. -/

/-- Beats of an access. -/
def MxAccess.beats (x : MxAccess) : Nat := (x.addr % 8 + x.len + 7) / 8

/-- Address and length of the bytes of the next beat. -/
def MxAccess.beat (x : MxAccess) : Nat × Nat :=
  let lo := if x.granted = 0 then x.addr else (x.addr / 8 + x.granted) * 8
  let hi := min (x.addr + x.len) ((x.addr / 8 + x.granted + 1) * 8)
  (lo, hi - lo)

/-- The target of the next beat under the present REMAP. -/
def nextTarget (d : Dev) (x : MxAccess) : MxTarget := mxDecode d.matrix.remap x.beat.1

/-- Whether a master asks for a target port in this phase: its access has a further beat and no response is due. -/
def asks (d : Dev) (bad port m : Nat) : Bool :=
  match d.matrix.acc.find? m with
  | some x => !x.waiting && !(m == 3 && d.matrix.held) && decide (x.granted < x.beats) && (nextTarget d x).port == port && !bitOf bad m
  | none => false

/-- The master whose piece at a target port is open and has a further beat there (R202): a piece whose next beat decodes to
another port, after a change of REMAP or across a slot's edge, is open here no longer (R113). -/
def openPiece (d : Dev) (port : Nat) : Option Nat :=
  (d.matrix.openBy.find? port).bind fun m => if asks d 0 port m then some m else none

/-- The arbiter of a target port (R202): the open piece, then LKC, then the pointer's order. An open piece whose request fails
its parity keeps the port and takes its beat in a later phase (R204). -/
def arbiter (d : Dev) (bad port : Nat) : Option Nat :=
  let want := (List.range 4).filter (asks d bad port)
  match openPiece d port with
  | some m => if want.contains m then some m else none
  | none =>
    if want.contains 0 then some 0
    else (List.range 4).findSome? fun i =>
      let m := (d.matrix.ptr.get 0 port + i) % 4
      if want.contains m then some m else none

/-- The response code of one beat, and its fault source (R199, R200, R206). -/
def beatCode (d : Dev) (m : Nat) (x : MxAccess) : Nat × Option Nat :=
  let t := nextTarget d x
  if t = .default then (2, some 0x26)
  else if x.excl then (3, some 0x28)
  else if mxAllowed m d.dbgLocked t x.write then (if readFails t x.beat.1 then (1, none) else (0, none))
  else (1, some 0x27)

/-- One granted beat at its target: held, refused or performed (R199, R200, R202, R206, R215, R218). -/
def grantBeat (port m : Nat) (d : Dev) : Dev :=
  match d.matrix.acc.find? m with
  | none => d
  | some x =>
    let t := nextTarget d x
    let first := x.granted % 4 == 0
    let last := (x.granted + 1) % 4 == 0 || x.granted + 1 == x.beats
    let d0 := d.onMatrix fun mx => { mx with
      ptr := if first then mx.ptr.set port ((m + 1) % 4) else mx.ptr
      openBy := if last then mx.openBy.filter fun e => e.2 != m else Tbl.set (mx.openBy.filter fun e => e.2 != m) port m }
    if m = 3 ∧ d.dbgLocked = true ∧ t = .sealed then
      ((d0.onMatrix fun mx => { mx with held := true, openBy := mx.openBy.filter fun e => e.2 != m }).countBridge 9 1).raise 0x29
    else
      let c := beatCode d m x
      let a := x.beat.1
      let n := x.beat.2
      let d1 := match c.2 with
        | some s => d0.raise s
        | none => d0
      let bytes := if c.1 = 0 ∧ x.write = false then (List.range n).map fun i => periphByteAt d t (a + i) else []
      let d2 := if c.1 = 0 ∧ x.write = true ∧ t = .msram then
          d1.memWrite (msramKey a) (x.data.slice (a - x.addr) n)
        else if c.1 = 0 ∧ x.write = false ∧ t ≠ .msram then d1.onFree (· + 1)
        else d1
      let d3 := if x.write = true ∧ m ≠ 2 then invalidate a n d2 else d2
      let d4 := if x.write = true ∧ m = 0 then discardOver a n d3 else d3
      d4.onMatrix fun mx => { mx with acc := mx.acc.set m { x with
        granted := x.granted + 1
        port := t.port
        waiting := last
        resp := if x.resp = 0 then c.1 else x.resp
        got := x.got ++ (if x.write then [] else padTo n bytes) } }

/-- The access that the front of the bridge's order puts to FBR. -/
def frontAccess (b : Bridge) : Option MxAccess :=
  match b.order with
  | .fetch i :: _ => (b.entries.find? fun e => e.id == i).map fun e =>
      { write := false, addr := e.req.addr, len := e.req.size, data := [], excl := false }
  | .demand _ (l :: _) _ :: _ => some { write := false, addr := l, len := 64, data := [], excl := false }
  | .demand _ [] _ :: _ => none
  | .write q _ :: _ => some { write := true, addr := q.addr, len := q.size, data := q.data, excl := false }
  | [] => none

/-- FBR takes the bridge's next access when it is free (R217). -/
def loadFbr (d : Dev) : Dev :=
  if d.bridge.job = .idle ∧ d.matrix.acc.has 2 = false then
    match frontAccess d.bridge with
    | some x => (d.onBridge fun b => { b with job := .front, drop := false }).onMatrix fun mx => { mx with acc := mx.acc.set 2 x }
    | none => d
  else d

/-- A master presents its access, if it has none outstanding (R201). -/
def presentMx (q : MxReq) (d : Dev) : Dev :=
  if d.matrix.acc.has q.master then d
  else
    let x : MxAccess := { write := q.write, addr := q.addr, len := q.len, data := padTo q.len q.data, excl := q.excl }
    d.onMatrix fun mx => { mx with acc := mx.acc.set q.master x }

/-- One arbitration phase at one target port. -/
def arbitratePort (bad port : Nat) (d : Dev) : Dev :=
  match arbiter d bad port with
  | none => d
  | some m =>
    let clash := m != 2 && asks d bad port 0 && asks d bad port 2
    grantBeat port m (if clash then d.countBridge 0xA 1 else d)

/-- A request that fails its parity is not raised in this phase (R204). -/
def parityFault (bad : Nat) (d : Dev) : Dev :=
  Dev.fold (List.range 4) (fun m e =>
    if bitOf bad m ∧ (match e.matrix.acc.find? m with
      | some x => !x.waiting && !(m == 3 && e.matrix.held)
      | none => false) = true then e.raise 0x2A else e) d

/-- The requests whose parity fails: those of the outside, and LKC's or the first raised one under an injection. -/
def parityMask (bad : Nat) (d : Dev) : Nat × Dev :=
  if d.armedFor 0x2A 0xFF then
    match (List.range 4).find? fun m => (match d.matrix.acc.find? m with
      | some x => !x.waiting
      | none => false) with
    | some m => (setBit bad m true, d.spend)
    | none => (bad, d)
  else (bad, d)

/-- MATRIX_ARBITRATION: masters present accesses; in one phase each target's arbiter grants one beat (R201 to R204).
On a matrix parked on LKC, a new LKC request takes its first beat without an arbitration phase (R203). -/
def matrixArbitration (raised : List MxReq) (parityBad : Nat) (d : Dev) : Dev :=
  let d0 := loadFbr (Dev.fold raised presentMx d)
  let early := d.matrix.parked && !(d.matrix.acc.has 0) && d0.matrix.acc.has 0
  let d1 := if early then
      (match d0.matrix.acc.find? 0 with
       | some x => grantBeat (nextTarget d0 x).port 0 d0
       | none => d0)
    else d0
  let pm := parityMask parityBad d1
  let d2 := parityFault pm.1 pm.2
  let idle := !((List.range 12).any fun p => (List.range 4).any fun m => asks d2 pm.1 p m)
  let d3 := Dev.fold (List.range 12) (arbitratePort pm.1) d2
  d3.onMatrix fun mx => { mx with parked := idle }

/-! Completion at the matrix and the bridge. -/

/-- Response status of a matrix response (R210). -/
def mxStatus (r : Nat) : Nat := if r = 0 then 0 else if r = 2 then 2 else 1

/-- A posted write of the bridge failed at its target (R219). -/
def postedError (q : Packet) (resp : Nat) (d : Dev) : Dev :=
  ((d.onBridge fun b => { b with errAddr := q.addr, errSrc := q.src, errResp := resp }).countBridge 8 1).raise 0x25 0xFF q.part

/-- FBR's access is over: the job ends and the answer is taken. -/
def endFbr (d : Dev) : Dev :=
  (d.onBridge fun b => { b with job := .idle, drop := false }).onMatrix fun mx => { mx with answer := mx.answer.erase 2 }

/-- A write that was not buffered has been performed: a WRITE_NP is answered, a posted WRITE's error recorded (R216, R219). -/
def finishDirect (ans : MxAnswer) (d : Dev) : Dev :=
  match d.bridge.job, d.bridge.order with
  | .front, .write q false :: t =>
    let d1 := (endFbr d).onBridge fun b => { b with order := t }
    if q.ty = 2 then respond 65 q (mxStatus ans.resp) [] d1
    else if ans.resp = 0 then d1 else postedError q (min ans.resp 2) d1
  | _, _ => d

/-- MATRIX_ACCESS_COMPLETE: the target returns the response of a piece; after the last piece the access is over (R200,
R201). A held DBG access gets none. `err` is what the checker of MSRAM or BOOTROM finds in a read: an uncorrectable one is
answered MX_FAIL (R471). -/
def matrixAccessComplete (m : Nat) (fail : Bool) (err : MemErr) (d0 : Dev) : Dev :=
  match d0.matrix.acc.find? m with
  | none => d0
  | some x =>
    if x.waiting = false then d0
    else
      let src : Option Nat :=
        if x.write then none
        else match err with
          | .none => none
          | .corrected => if x.port = MxTarget.msram.port then some 0x72 else none
          | .uncorrectable =>
            if x.port = MxTarget.msram.port then some 0x73
            else if x.port = MxTarget.bootrom.port then some 0x74 else none
      let d := match src with
        | some k => d0.raise k
        | none => d0
      let bad := fail || src == some 0x73 || src == some 0x74
      let r := if x.resp = 0 ∧ bad = true then 1 else x.resp
      if x.granted < x.beats then
        d.onMatrix fun mx => { mx with acc := mx.acc.set m { x with waiting := false, resp := r } }
      else
        let ans : MxAnswer := { resp := r, data := x.got }
        let d1 := d.onMatrix fun mx => { mx with acc := mx.acc.erase m, answer := mx.answer.set m ans }
        if m = 2 then finishDirect ans d1 else d1

/-- DEBUG_PORT_RESET: a held DBG access completes with no response; DBG's state is reset (R207). -/
def debugPortReset (d : Dev) : Dev :=
  d.onMatrix fun mx => { mx with
    held := false, acc := mx.acc.erase 3, answer := mx.answer.erase 3, openBy := mx.openBy.filter fun e => e.2 != 3 }

/-- REMAP_SET: LKC sets REMAP while it reads 0 (R205). -/
def remapSet (d : Dev) : Dev :=
  if d.matrix.remap then d
  else
    let d1 := invalidateAll (d.onMatrix fun mx => { mx with remap := true })
    d1.onBridge fun b => { b with entries := b.entries.filter fun e => !e.stored }

/-! Bridge reads. -/

/-- The valid attribute entry that covers a byte: base, limit and flags (R209). -/
def attrOf (d : Dev) (a : Nat) : Option (Nat × Nat × Nat) :=
  ((List.range 16).map fun e => (d.fcfg.nat (0x2410 + e) 1, d.fcfg.nat (0x2410 + e) 2, d.fcfg.nat (0x2410 + e) 3)).find?
    fun t => t.2.2 % 2 == 1 && decide (t.1 ≤ a ∧ a ≤ t.2.1)

/-- Whether every byte of a request is prefetchable (R212); entries cover whole 4 KiB pages. -/
def allPrefetch (d : Dev) (q : Packet) : Bool :=
  let p (a : Nat) : Bool := match attrOf d a with
    | some t => bitOf t.2.2 1
    | none => false
  p q.addr && p (q.addr + q.size - 1)

/-- Whether every byte of a write is marked posted and its target is one where the bridge acts on the mark (R107, R216). -/
def allPosted (d : Dev) (q : Packet) : Bool :=
  let p (a : Nat) : Bool := match attrOf d a with
    | some t => bitOf t.2.2 2 && (mxDecode d.matrix.remap a).mayPost
    | none => false
  p q.addr && p (q.addr + q.size - 1)

/-- Writes in the posted-write buffer. -/
def Bridge.buffered (b : Bridge) : Nat := (b.order.filter fun o => match o with
  | .write _ true => true
  | _ => false).length

/-- The bridge accepts no further REQ flit: its buffer is full, or a posted WRITE of a non-posted range is not done (R216). -/
def Bridge.blocked (b : Bridge) : Bool :=
  decide (16 ≤ b.buffered) || b.order.any fun o => match o with
    | .write q false => q.ty == 1
    | _ => false

/-- A source's stream, with the other streams in their order; a new stream takes the least recently used place (R213). -/
def takeStream (src : Nat) (d : Dev) : PfStream × Dev :=
  match d.bridge.streams.find? fun s => s.src == src with
  | some s => (s, d.onBridge fun b => { b with streams := b.streams.filter fun t => t.src != src })
  | none =>
    let d1 := if d.bridge.streams.length < 8 then d else
      (match d.bridge.streams.getLast? with
       | some s => (dropLines (fun k _ => k == s.src) d).onBridge fun b => { b with streams := b.streams.dropLast }
       | none => d)
    ({ src := src }, d1)

/-- First addresses of the 64-byte lines that a byte range touches. -/
def linesOf (a n : Nat) : List Nat := (span (a / 64) ((a + n + 63) / 64)).map (· * 64)

/-- The lines to fetch ahead after a READ (R213), inside the attribute entry that covers it. -/
def aheadLines (d : Dev) (s : PfStream) (addr size : Nat) : List Nat :=
  match attrOf d addr with
  | none => []
  | some e =>
    let dn : Option Int := s.prev.map fun p => (addr : Int) - (p : Int)
    let stride : Option Int := match dn, s.d with
      | some x, some y => if x = y ∧ x ≠ 0 ∧ x.natAbs ≤ 4096 ∧ d.fcfg.nat 0x2401 3 = 1 then some x else none
      | _, _ => none
    let blocks : List Nat := match stride with
      | some x =>
        ((List.range (256 / size)).map fun (i : Nat) => (addr : Int) + x * ((i : Int) + 1)).filterMap fun a =>
          if 0 ≤ a then some a.toNat else none
      | none => [addr + size]
    let len := if stride.isSome then size else 256
    let all := (blocks.map fun a => linesOf a len).flatten.eraseDups
    all.filter fun l => decide (e.1 ≤ l ∧ l + 63 ≤ e.2.1) && (mxDecode d.matrix.remap l).mayPrefetch

/-- Whether the confirmed stride of a READ is negative (R213). -/
def strideBack (d : Dev) (s : PfStream) (addr : Nat) : Bool :=
  match s.prev, s.d with
  | some p, some y =>
    y == (addr : Int) - (p : Int) && decide (y < 0) && decide (y.natAbs ≤ 4096) && d.fcfg.nat 0x2401 3 == 1
  | _, _ => false

/-- The lines that a READ leaves behind (R213): wholly before its first line (sequential or s > 0), or wholly after its last
one (s < 0). -/
def leftBehind (back : Bool) (addr size : Nat) (l : PfLine) : Bool :=
  if back then decide ((addr + size - 1) / 64 * 64 + 63 < l.addr) else decide (l.addr + 63 < addr / 64 * 64)

/-- Lines with one more; where all eight are in use, the oldest makes room (R213). -/
def addLine (ls : List PfLine) (l : PfLine) : List PfLine × Nat :=
  match ls with
  | v :: t => if ls.length < 8 then (ls ++ [l], 0) else (t ++ [l], if v.unread then 1 else 0)
  | [] => ([l], 0)

/-- Places a stream at the front. -/
def putStream (s : PfStream) (d : Dev) : Dev := d.onBridge fun b => { b with streams := s :: b.streams }

/-- Bytes of a request out of lines that cover it. -/
def fromLines (ls : List PfLine) (addr size : Nat) : Bytes :=
  (List.range size).map fun i =>
    let a := addr + i
    match ls.find? fun l => l.addr == a / 64 * 64 with
    | some l => l.data.getD (a % 64) (byte 0)
    | none => byte 0

/-- A prefetchable READ (R212, R213): answered from the store, or waiting for the lines it misses. -/
def prefetchRead (q : Packet) (d : Dev) : Dev :=
  let keep := d.fcfg.nat 0x2401 2 == 1
  let need := linesOf q.addr q.size
  if keep = false then
    (d.countBridge 6 1).onBridge fun b => { b with order := b.order ++ [.demand q need []] }
  else
    let r := takeStream q.src d
    let s := r.1
    let have_ := s.lines.filter fun l => need.contains l.addr
    let miss := need.filter fun l => !(have_.any fun h => h.addr == l)
    let next := aheadLines r.2 s q.addr q.size
    let gone := s.lines.filter (leftBehind (strideBack r.2 s q.addr) q.addr q.size)
    let s1 : PfStream := { s with
      lines := (s.lines.filter fun l => !gone.contains l).map fun l => if need.contains l.addr then { l with unread := false } else l
      ahead := next.filter fun l => !(s.lines.any fun h => h.addr == l) && !need.contains l
      d := s.prev.map fun p => (q.addr : Int) - (p : Int)
      prev := some q.addr }
    let d1 := (putStream s1 r.2).countBridge 7 (gone.filter (·.unread)).length
    if miss.isEmpty then respond 65 q 0 (fromLines have_ q.addr q.size) (d1.countBridge 5 1)
    else (d1.countBridge 6 1).onBridge fun b => { b with order := b.order ++ [.demand q miss have_] }

/-- Whether a READ is the reissue of a delayed-read entry (R209). -/
def sameRead (e : DelayedRead) (q : Packet) : Bool :=
  e.req.src == q.src && e.req.tag == q.tag && e.req.part == q.part && e.req.addr == q.addr && e.req.size == q.size

/-- A RETRY answer of the bridge. -/
def answerRetry (q : Packet) (d : Dev) : Dev := respond 65 q 3 [] (d.countBridge 2 1)

/-- A READ at the bridge: a matching entry, then a prefetchable READ, then a delayed read (R209, R212, R224, R226). -/
def bridgeReadOf (q : Packet) (err : MemErr) (d : Dev) : Dev :=
  match d.bridge.entries.find? fun e => sameRead e q with
  | some e =>
    if e.stored then
      let d1 := d.onBridge fun b => { b with entries := b.entries.filter fun f => f.id != e.id }
      match err with
      | .none => respond 65 q e.status e.data d1
      | .corrected => respond 65 q e.status e.data (d1.raise 0x20 0xFF q.part)
      | .uncorrectable => respond 65 q 6 e.data (d1.raise 0x21 0xFF q.part)
    else answerRetry q d
  | none =>
    if d.unitUp 65 = false ∨ fenceApplies d 65 q = true then respond 65 q 4 [] d
    else if allPrefetch d q then
      match err with
      | .none => prefetchRead q d
      | .corrected => prefetchRead q (d.raise 0x20 0xFF q.part)
      | .uncorrectable =>
        -- the line that fails is dropped and the read misses
        prefetchRead q ((dropLines (fun k l => k == q.src && overlaps l.addr 64 q.addr q.size) d).raise 0x21 0xFF q.part)
    else if 8 ≤ d.bridge.entries.length then answerRetry q d
    else
      let i := d.bridge.nextId
      answerRetry q ((d.onBridge fun b => { b with
        entries := b.entries ++ [{ id := i, req := q }], nextId := i + 1, order := b.order ++ [.fetch i] }).countBridge 1 1)

/-- BRIDGE_READ: the front READ of an ejection VC of the LK NI for the peripheral range (R209, R212). -/
def bridgeRead (vc : Nat) (err : MemErr) (d : Dev) : Dev :=
  match d.front 65 vc with
  | some (q, bad) =>
    if q.ty = 0 ∧ q.addr < 0x40000000 ∧ d.bridge.blocked = false then
      let d1 := popEj 65 vc d
      if bad then respond 65 q 6 [] d1 else bridgeReadOf q err d1
    else d
  | none => d

/-- A line that a demand fetch brought in enters the source's stream, if the store keeps it. -/
def storeLine (src : Nat) (l : PfLine) (d : Dev) : Dev :=
  match d.bridge.streams.find? fun s => s.src == src with
  | none => d
  | some s =>
    let r := addLine (s.lines.filter fun k => k.addr != l.addr) l
    (d.onBridge fun b => { b with streams := b.streams.map fun t => if t.src = src then { t with lines := r.1 } else t }).countBridge 7 r.2

/-- The result of a delayed-read fetch is stored (R210). -/
def storeResult (i : Nat) (ans : MxAnswer) (d : Dev) : Dev :=
  d.onBridge fun b => { b with entries := b.entries.map fun e =>
    if e.id = i then { e with stored := true, status := mxStatus ans.resp, data := ans.data } else e }

/-- One line of a demand fetch: kept, and the READ answered when it has all its lines or an error (R212, R214). -/
def demandLine (q : Packet) (l : Nat) (rest : List Nat) (got : List PfLine) (tail : List BridgeOp) (keep : Bool)
    (ans : MxAnswer) (d : Dev) : Dev :=
  let d1 := d.onBridge fun b => { b with order := tail }
  if ans.resp ≠ 0 then respond 65 q (mxStatus ans.resp) [] d1
  else
    let ln : PfLine := { addr := l, data := ans.data, unread := false }
    let d2 := if keep then storeLine q.src ln d1 else d1
    if rest.isEmpty then respond 65 q 0 (fromLines (got ++ [ln]) q.addr q.size) d2
    else d2.onBridge fun b => { b with order := .demand q rest (got ++ [ln]) :: b.order }

/-- BRIDGE_FETCH_DONE: FBR's read has its answer (R210, R212, R214, R217). -/
def bridgeFetchDone (d : Dev) : Dev :=
  match d.matrix.answer.find? 2 with
  | none => d
  | some ans =>
    match d.bridge.job, d.bridge.order with
    | .front, .fetch i :: t => storeResult i ans ((endFbr d).onBridge fun b => { b with order := t })
    | .stale, _ => endFbr d
    | .front, .demand q (l :: rest) got :: t =>
      demandLine q l rest got t (!d.bridge.drop && d.fcfg.nat 0x2401 2 == 1) ans (endFbr d)
    | .ahead src l keep, _ =>
      let d1 := endFbr d
      if ans.resp ≠ 0 ∨ keep = false then d1
      else
        storeLine src { addr := l, data := ans.data, unread := true } d1
    | _, _ => d

/-- DELAYED_READ_DISCARD: the i-th entry's result was not collected within the discard time (R211). -/
def delayedReadDiscard (i : Nat) (d : Dev) : Dev :=
  match d.bridge.entries[i]? with
  | some e =>
    if e.stored then
      ((d.onBridge fun b => { b with entries := b.entries.filter fun f => f.id != e.id }).countBridge 3 1).raise 0x24 0xFF e.req.part
    else d
  | none => d

/-- PREFETCH_FETCH_AHEAD: FBR is otherwise idle and fetches the next line ahead of a source's stream (R213, R214). -/
def prefetchFetchAhead (src : Nat) (d : Dev) : Dev :=
  if d.bridge.job = .idle ∧ d.bridge.order.isEmpty = true ∧ d.matrix.acc.has 2 = false then
    match d.bridge.streams.find? fun s => s.src == src with
    | some s =>
      match s.ahead with
      | l :: t =>
        (d.onBridge fun b => { b with
          job := .ahead src l true
          streams := b.streams.map fun u => if u.src = src then { u with ahead := t } else u }).onMatrix fun mx =>
          { mx with acc := mx.acc.set 2 { write := false, addr := l, len := 64, data := [], excl := false } }
      | [] => d
    | none => d
  else d

/-! Bridge writes. -/

/-- A write that the bridge has accepted (R215, R216, R217). -/
def bridgeWriteOf (q : Packet) (d : Dev) : Dev :=
  let d1 := invalidate q.addr q.size d
  let posted := allPosted d q
  let d2 := d1.onBridge fun b => { b with order := b.order ++ [.write q posted] }
  let d3 := discardOver q.addr q.size d2
  if posted = true ∧ q.ty = 2 then respond 65 q 0 [] d3 else d3

/-- BRIDGE_WRITE: the front WRITE or WRITE_NP of an ejection VC of the LK NI for the peripheral range (R216). -/
def bridgeWrite (vc : Nat) (d : Dev) : Dev :=
  match d.front 65 vc with
  | some (q, bad) =>
    if (q.ty = 1 ∨ q.ty = 2) ∧ q.addr < 0x40000000 ∧ d.bridge.blocked = false then
      let d1 := popEj 65 vc d
      if bad then (if q.ty = 2 then respond 65 q 6 [] d1 else discardAt 65 0x4B q.part d1)
      else if d.unitUp 65 = false ∨ fenceApplies d 65 q = true then
        (if q.ty = 2 then respond 65 q 4 [] d1 else discardAt 65 0x4A q.part d1)
      else bridgeWriteOf q d1
    else d
  | none => d

/-- POSTED_WRITE_PERFORM: the write at the front of the posted-write buffer has been performed, or its entry fails its
check and is discarded unperformed (R219, R224). -/
def postedWritePerform (err : MemErr) (d : Dev) : Dev :=
  match d.bridge.order with
  | .write q true :: t =>
    if err = .uncorrectable then
      -- found as the entry is read, before FBR presents it
      if d.bridge.job = .idle then
        postedError q 0 ((d.onBridge fun b => { b with order := t }).raise 0x23 0xFF q.part)
      else d
    else if d.bridge.job = .front then
      match d.matrix.answer.find? 2 with
      | some ans =>
        let d1 := (endFbr d).onBridge fun b => { b with order := t }
        let d2 := if err = .corrected then d1.raise 0x22 0xFF q.part else d1
        if ans.resp = 0 then d2 else postedError q (min ans.resp 2) d2
      | none => d
    else d
  | _ => d

/-- Whether a source's posted writes have all left the posted-write buffer (R189, R217). -/
def bridgeClear (d : Dev) (q : Packet) : Bool :=
  !(d.bridge.order.any fun o => match o with
    | .write w _ => w.src == q.src
    | _ => false)

/-! Interrupt lines and outbound requests. -/

/-- The message that names MSI-X vector `v` of function `f` (R221, R304, R340); the spec names neither its queue nor
its code, and the model uses MQ 0, code 0x0010. -/
def irqMessage (src dest part fn v : Nat) : Packet := messagePkt src part 1 dest 0 0x0010 (leBytes 2 v ++ [byte fn])

/-- INTERRUPT_LINE_EDGE: a rising edge interrupts LKC and, where enabled, is forwarded, merging with a message of the
line that still waits for its marks (R221). -/
def interruptLineEdge (line : Nat) (d : Dev) : Dev :=
  let d1 := d.onBridge fun b => { b with irq := setBit b.irq line true }
  let w := d.fcfg.nat 0x2420 (line + 1)
  let msg := { irqMessage 65 41 0 0 (w % 2048) with relNs := line + 1 }
  if bitOf w 31 = true ∧ (d.ni 65).fenced.any (fun m => m.pkt.src == 65 && m.pkt.relNs == line + 1 && m.marks != 0) = false
      ∧ (d.ni 65).atUnit.any (fun o => o.kind == .fencedMsg && o.pkt.relNs == line + 1) = false then startFenced msg none d1 else d1

/-- LK_OUTBOUND_REQUEST: LKC or LDMA issues a request with PART 0 in the class of 0x2401:04; what its bound does not
allow yet waits at its port (R220). -/
def lkOutboundRequest (lkc : Bool) (ty addr size : Nat) (data : Bytes) (excl : Bool) (d : Dev) : Dev :=
  let cls := d.fcfg.nat 0x2401 4
  let who := if lkc then 1 else 2
  if excl then
    (deliverNow 65 { req := { dest := 65, src := 65, ty := ty, cls := cls, part := 0, addr := addr, size := size, code := who }
                     status := 5, data := [] } d).raise 0x28
  else if ty = 1 then unitPostedWrite 65 0 cls addr (padTo size data) d
  else unitNonposted 65 0 ty cls addr size data who d

/-! Resets. -/

/-- The reset step of partition `p` at the bridge (R226). -/
def bridgePartReset (p : Nat) (d : Dev) : Dev :=
  let mine := d.bridge.entries.filter fun e => e.req.part == p
  let ids := mine.map (·.id)
  (d.onBridge fun b => { b.unqueue ids.contains with entries := b.entries.filter fun e => e.req.part != p }).countBridge 3
    mine.length

/-- A buffered write performed as a whole, beat by beat (R227). -/
def performWhole (q : Packet) (d : Dev) : Dev :=
  let t := mxDecode d.matrix.remap q.addr
  if t = .default then postedError q 2 (d.raise 0x26)
  else if mxAllowed 2 d.dbgLocked t true then
    (if t = .msram then d.memWrite (msramKey q.addr) q.data else d)
  else postedError q 1 (d.raise 0x27)

/-- An access that waits at the bridge when the lockkeeper is reset (R227): buffered writes are performed, and a request that
still owes its one response is answered as at any unit in reset (R26, R181, R196). -/
def endDelayed (o : BridgeOp) (d : Dev) : Dev :=
  match o with
  | .write q true => performWhole q d
  | .write q false => if q.ty = 2 then respond 65 q 4 [] d else discardAt 65 0x4A q.part d
  | .demand q _ _ => respond 65 q 4 [] d
  | .fetch _ => d

/-- The lockkeeper is reset as a unit (R227): buffered writes are performed, entries freed, the store emptied. -/
def bridgeUnitReset (d : Dev) : Dev :=
  ((Dev.fold d.bridge.order endDelayed d).onBridge fun b => { b with
    entries := [], streams := [], order := [], job := .idle, drop := false, irq := 0 }).onMatrix fun mx => { mx with
      acc := mx.acc.filter fun e => e.1 == 3
      answer := mx.answer.filter fun e => e.1 == 3
      openBy := mx.openBy.filter fun e => e.2 == 3 }

/-- The prefetch store at the FCLK apply edge from `old` to `new` (R215). -/
def bridgeAtApply (old new : Cfg) (d : Dev) : Dev :=
  if cfgDiffers old new 0x2410 0x241F = true ∨ cfgDiffers old new 0x2401 0x2401 = true then invalidateAll d else d

/-- Clear of the bridge counters and the posted-write error record (R222). -/
def clearBridge (d : Dev) : Dev := d.onBridge fun b => { b with counts := [], errAddr := 0, errSrc := 0, errResp := 0 }

/-- Whether the mark at the front of a VC of the LK NI is a FLUSH's and is answered now (R299). -/
def flushMark (vc : Nat) (d : Dev) : Bool :=
  match d.front 65 vc with
  | some (q, _) => q.ty == 3 && q.addr == 1 && bridgeClear d q
  | none => false

/-- FENCE_MARK_ANSWER: a mark at an NI is answered when the earlier posted writes of its source are performed, those in
the posted-write buffer included (R189). The bridge empties its whole prefetch store before it answers a FLUSH's mark (R299). -/
def fenceMarkAnswer (n vc : Nat) (d : Dev) : Dev :=
  answerMark n vc (fun q => n != 65 || bridgeClear d q) (d.when (n == 65 && flushMark vc d) invalidateAll)

/-! Meanings. -/

/-- FENCE_MARK_ANSWER: A target answers a FENCE_MARK once every earlier posted WRITE from that source on that VC has been performed (R189). -/
def execFenceMarkAnswer (n : Nat) (vc : Nat) (s : State) : Host.Outcome State Fault Refusal :=
  act (wfFenceMarkAnswer n vc) (fenceMarkAnswer n vc) s

/-- MATRIX_ARBITRATION: In each PCLK arbitration phase, each target arbiter grants one beat to a master (R202). -/
def execMatrixArbitration (raised : List MxReq) (parityBad : Nat) (s : State) : Host.Outcome State Fault Refusal :=
  act (wfMatrixArbitration raised parityBad) (matrixArbitration raised parityBad) s

/-- MATRIX_ACCESS_COMPLETE: A target returns the matrix response of a piece to the issuing master (R200). -/
def execMatrixAccessComplete (m : Nat) (fail : Bool) (err : MemErr) (s : State) : Host.Outcome State Fault Refusal :=
  act (wfMatrixAccessComplete m fail err) (matrixAccessComplete m fail err) s

/-- DEBUG_PORT_RESET: A debug-port reset releases a held DBG access and resets DBG (R207). -/
def execDebugPortReset (s : State) : Host.Outcome State Fault Refusal :=
  act wfDebugPortReset debugPortReset s

/-- REMAP_SET: LKC sets REMAP, which invalidates the prefetch store and discards uncollected delayed-read results (R205). -/
def execRemapSet (s : State) : Host.Outcome State Fault Refusal :=
  act wfRemapSet remapSet s

/-- BRIDGE_READ: A fabric READ reaches the LK bridge and is handled as a delayed or prefetchable read (R209). -/
def execBridgeRead (vc : Nat) (err : MemErr) (s : State) : Host.Outcome State Fault Refusal :=
  act (wfBridgeRead vc err) (bridgeRead vc err) s

/-- BRIDGE_FETCH_DONE: A delayed-read or demand fetch completes and its result is stored or answered (R210). -/
def execBridgeFetchDone (s : State) : Host.Outcome State Fault Refusal :=
  act wfBridgeFetchDone bridgeFetchDone s

/-- DELAYED_READ_DISCARD: An uncollected delayed-read result exceeds the discard time and is freed, raising 0x24 (R211). -/
def execDelayedReadDiscard (k : Nat) (s : State) : Host.Outcome State Fault Refusal :=
  act (wfDelayedReadDiscard k) (delayedReadDiscard k) s

/-- PREFETCH_FETCH_AHEAD: While FBR is otherwise idle, the bridge fetches lines ahead for a prefetch stream (R214). -/
def execPrefetchFetchAhead (src : Nat) (s : State) : Host.Outcome State Fault Refusal :=
  act (wfPrefetchFetchAhead src) (prefetchFetchAhead src) s

/-- BRIDGE_WRITE: A fabric WRITE or WRITE_NP reaches the bridge and is buffered or performed (R216). -/
def execBridgeWrite (vc : Nat) (s : State) : Host.Outcome State Fault Refusal :=
  act (wfBridgeWrite vc) (bridgeWrite vc) s

/-- POSTED_WRITE_PERFORM: A write from the posted-write buffer is performed, recording any peripheral error (R219). -/
def execPostedWritePerform (err : MemErr) (s : State) : Host.Outcome State Fault Refusal :=
  act (wfPostedWritePerform err) (postedWritePerform err) s

/-- INTERRUPT_LINE_EDGE: A rising edge of an interrupt line interrupts LKC and, when enabled, forwards a fenced MESSAGE to HP1 (R221). -/
def execInterruptLineEdge (line : Nat) (s : State) : Host.Outcome State Fault Refusal :=
  act (wfInterruptLineEdge line) (interruptLineEdge line) s

/-- LK_OUTBOUND_REQUEST: LKC or LDMA issues a request onto the fabric through the LK NI (R220). -/
def execLkOutboundRequest (lkc : Bool) (ty : Nat) (addr : Nat) (size : Nat) (data : Bytes) (excl : Bool) (s : State) : Host.Outcome State Fault Refusal :=
  act (wfLkOutboundRequest lkc ty addr size data excl) (lkOutboundRequest lkc ty addr size data excl) s

end Sys2Proof.Machine
end

