-- ==== Sys2Proof/Machine/Fabric.lean ====
section
/-! DEFINITION. The outbound range at an HP NI (R106, R338), and the memory ranges that a partition's commands and windows are
held to (R283). -/
namespace Sys2Proof.Machine

/-- Whether function `f` exists on the bus (R319). -/
def Dev.fnExists (d : Dev) (f : Nat) : Bool := f == 0 || (d.host.vfEnable && decide (f ≤ d.host.numVfs))

/-- Function `f`. -/
def Dev.fn (d : Dev) (f : Nat) : Fn := d.host.fn.get {} f

/-- The device with `g` applied to function `f`. -/
def Dev.upFn (f : Nat) (g : Fn → Fn) (d : Dev) : Dev :=
  { d with host := { d.host with fn := d.host.fn.modify {} f g } }

/-- Whether an outbound request of a partition is refused (R338). -/
def outboundRefused (d : Dev) (part : Nat) : Bool := !(d.fnExists part) || !(d.fn part).bme

/-- PCIe address of an outbound address (R106). -/
def pcieAddr (d : Dev) (a : Nat) : Nat := (a - 0x100000000000 + d.fcfg.nat 0x2804 1) % 2 ^ 64

/-- A posted write is handed to the PCIe core (R330, R339). -/
def handOver (fn addr : Nat) (bs : Bytes) (d : Dev) : Dev :=
  let ns := (d.shadow 4).nat 0x2801 4 == 1
  { d with host := { d.host with lastWrite := some { fn := fn, addr := addr, data := bs, noSnoop := ns } } }

/-- Whether the PCIe link is down: outbound requests end at the HP NI from DL_Down on, and the link is down after a reset
(R260, R264). -/
def linkDown (d : Dev) : Bool := !d.resets.linkUp

/-- A posted outbound write at HP NI `h` (R338, R264). -/
def outboundWrite (h part a : Nat) (bs : Bytes) (d : Dev) : Dev :=
  if linkDown d then d.upNi h (Ni.count 32 0x500)
  else if outboundRefused d part then discardAt h 0x8F part d else handOver part (pcieAddr d a) bs d

/-- The memory ranges of a partition: base and limit, unused pairs left out (R283, R307). -/
def rangesOf (c : Cfg) (p : Nat) : List (Nat × Nat) :=
  ((List.range 8).map fun r => (c.nat (0x2720 + p) (r + 1), c.nat (0x2720 + p) (r + 9))).filter fun e => !(e.1 == 0 && e.2 == 0)

/-- Whether a span of at least one byte touches queue-context space. -/
def touchesQctx (a n : Nat) : Bool := decide (a ≤ 0x43FFFFFF ∧ 0x43C00000 < a + n)

/-- Whether a span lies wholly inside one valid range of partition `p`; partition 0 holds every address (R283). -/
def inRanges (c : Cfg) (p a n : Nat) : Bool :=
  p == 0 || (rangesOf c p).any fun e => decide (e.1 ≤ a ∧ a + n ≤ e.2 + 1)

/-- The DETAIL of a span's failure under R283: 0 passes, 1 outside the ranges, 2 queue-context space. -/
def spanFault (c : Cfg) (p a n : Nat) : Nat :=
  if touchesQctx a n then 2 else if inRanges c p a n then 0 else 1

end Sys2Proof.Machine
end

