-- ==== Sys2Proof/Machine/Queues.lean ====
section
/-! DEFINITION. Queues, doorbells, commands and completions (spec/11): contexts, admin commands, the scheduler, the
command opcodes that need no other unit, and completions with their interrupts. -/
namespace Sys2Proof.Machine

/-! Queues and engines. -/

/-- The SE that serves a queue (R278). -/
def seOf (q : Nat) : Nat := q / 8192

/-- NI of SE `n`. -/
def seNi (n : Nat) : Nat := 24 + n

/-- Queue `q`, where it exists. -/
def Dev.queue? (d : Dev) (q : Nat) : Option Queue := d.queues.q.find? q

/-- SE `n`. -/
def Dev.eng (d : Dev) (n : Nat) : Se := d.queues.se.get {} n

/-- The device with `f` applied to SE `n`. -/
def Dev.upSe (n : Nat) (f : Se → Se) (d : Dev) : Dev :=
  { d with queues := { d.queues with se := d.queues.se.modify {} n f } }

/-- The device with queue `q` set. -/
def Dev.setQueue (q : Nat) (x : Queue) (d : Dev) : Dev := { d with queues := { d.queues with q := d.queues.q.set q x } }

/-- The device with `f` applied to queue `q` where it exists. -/
def Dev.upQueue (q : Nat) (f : Queue → Queue) (d : Dev) : Dev :=
  match d.queue? q with
  | some x => d.setQueue q (f x)
  | none => d

/-- A counter of SE `n` (0x2740 + n). -/
def Dev.countSe (n sub : Nat) (d : Dev) : Dev :=
  d.upSe n fun e => { e with counts := e.counts.modify 0 sub fun v => satAdd (if sub = 7 then 64 else 32) v 1 }

/-- Owner of a block (R278). -/
def blockOwner (c : Cfg) (b : Nat) : Nat := if b < 128 then c.nat 0x2701 (b + 1) else c.nat 0x2702 (b - 127)

/-- Lowest block of a partition (R280). -/
def lowestBlock (c : Cfg) (p : Nat) : Option Nat := (List.range 256).find? fun b => blockOwner c b == p

/-- Ring depth. -/
def Queue.depth (x : Queue) : Nat := 2 ^ x.log2

/-- Difference of two 16-bit indices. -/
def idxDiff (a b : Nat) : Nat := (a + 65536 - b % 65536) % 65536

/-- Commands of a queue in execution or ended and not completed: ACTIVE. -/
def Dev.active (d : Dev) (q : Nat) : Nat :=
  ((d.eng (seOf q)).cmds.filter fun k => k.q == q && k.st != .fetched).length

/-- SLOT_BYTES of a stream queue. -/
def Queue.slotBytes (x : Queue) : Nat := x.kparam.le 4 4

/-- RECORD of a stream queue. -/
def Queue.record (x : Queue) : Nat := x.kparam.le 8 4

/-- Bytes of one ring entry. -/
def Queue.entryBytes (x : Queue) : Nat := if x.kind = 1 then 16 else if x.kind = 2 then x.slotBytes else 64

/-- The 64 bytes of a context (R282). -/
def contextBytes (x : Queue) (active : Nat) : Bytes :=
  leBytes 8 (x.base % 2 ^ 48 + x.log2 % 16 * 2 ^ 48 + x.kind % 8 * 2 ^ 52 + x.cls % 4 * 2 ^ 55 + x.state % 4 * 2 ^ 57
      + b2n x.admin * 2 ^ 59 + x.part % 16 * 2 ^ 60)
    ++ leBytes 2 x.pi ++ leBytes 2 x.ci ++ leBytes 2 x.cq ++ [byte x.limit, byte active]
    ++ leBytes 2 x.vector ++ [byte x.mcount, byte (b2n x.phase)] ++ leBytes 2 x.mtime ++ leBytes 2 x.unsig
    ++ List.replicate 8 (byte 0) ++ padTo 32 x.kparam

/-- The queue that a written-back context describes; none where its STATE is free. -/
def contextOf (b : Bytes) : Option Queue :=
  let w := b.le 0 8
  if bitsOf w 58 57 = 0 then none
  else some {
    base := w % 2 ^ 48, log2 := bitsOf w 51 48, kind := bitsOf w 54 52, cls := bitsOf w 56 55, state := bitsOf w 58 57
    admin := bitOf w 59, part := bitsOf w 63 60, pi := b.le 8 2, ci := b.le 10 2, cq := b.le 12 2, limit := b.le 14 1
    vector := b.le 16 2, mcount := b.le 18 1, phase := bitOf (b.le 19 1) 0, mtime := b.le 20 2, unsig := b.le 22 2
    kparam := b.slice 32 32 }

/-- Address of a context (R99). -/
def contextAddr (q : Nat) : Nat := 0x43C00000 + 64 * q

/-- The SE writes a context's 64 bytes to the basin through its NI (R282). -/
def putContext (q part : Nat) (bs : Bytes) (d : Dev) : Dev := engineWrite (seNi (seOf q)) part 1 (contextAddr q) bs d

/-- The SE writes a queue's context back (R282). -/
def writeContext (q : Nat) (d : Dev) : Dev :=
  match d.queue? q with
  | some x => putContext q x.part (contextBytes x (d.active q)) d
  | none => d

/-- CONTEXT_WRITEBACK (R282). -/
def contextWriteback (q : Nat) (d : Dev) : Dev := writeContext q d

/-- A queue enters STATE 3 (R311). -/
def queueError (q src : Nat) (d : Dev) : Dev :=
  match d.queue? q with
  | some x => (d.setQueue q { x with state := 3 }).raise src (seNi (seOf q)) x.part
  | none => d

/-- The key of what an SE asks of its NI for the entry at a ring index of a queue: purpose 0 the entry itself, 1 the rest of a
256-byte entry, 2 a command's data, 3 its marks. -/
def queueKey (q index purpose : Nat) : Nat := 4 + 4 * (65536 * q + index) + purpose

/-- The NIs at which queue `q` has memory accessed: its SE's, and its port's where it is a network queue (R398). -/
def queueNis (d : Dev) (q : Nat) : List Nat :=
  (seNi (seOf q) :: match d.queue? q with
    | some x => if x.kind = 3 then [44 + x.kparam.le 3 1] else []
    | none => []).filter d.nis.has

/-- What has been asked of an NI for queue `q` belongs to nobody from now on. -/
def forgetQueue (q : Nat) (d : Dev) : Dev :=
  Dev.fold (queueNis d q) (fun n e => forgetKeys n (fun k => (k - 4) / 4 / 65536 == q) e) d

/-- What has been asked for the command at a ring index of a queue belongs to nobody from now on. -/
def forgetCmd (q index : Nat) (d : Dev) : Dev :=
  Dev.fold (queueNis d q) (fun n e => forgetKeys n (fun k => (k - 4) / 4 == 65536 * q + index) e) d

/-- A queue is gone: its context is zeroed, its commands and held completions are discarded (R256, R286, R309). -/
def dropQueue (q : Nat) (d : Dev) : Dev :=
  let d0 := forgetQueue q d
  let d1 := { d0 with
    queues := { d0.queues with q := d0.queues.q.erase q, sig := d0.queues.sig.erase q }
    conv := { d0.conv with stream := d0.conv.stream.erase q }
    eth := { d0.eth with
      raw := d0.eth.raw.erase q
      qp := match d.queue? q with
        | some x => if x.kind = 3 ∧ x.kparam.le 2 1 = 0 then d0.eth.qp.erase (x.kparam.le 0 2) else d0.eth.qp
        | none => d0.eth.qp } }
  let d2 := d1.upSe (seOf q) fun e => { e with
    cmds := e.cmds.filter fun k => k.q != q, held := e.held.filter fun k => k.q != q }
  match d.queue? q with
  | some x => putContext q x.part (List.replicate 64 (byte 0)) d2
  | none => d2

/-! Completions. -/

/-- The 16 bytes of a completion (R303). -/
def cplBytes (k : Cpl) (phase : Bool) : Bytes :=
  leBytes 2 k.q ++ leBytes 2 k.index ++ [byte k.status, byte k.detail, byte k.op,
    byte (b2n phase + 2 * b2n k.late + 4 * b2n k.irq)] ++ leBytes 4 k.tag ++ leBytes 4 k.result

/-- Whether a completion queue has space (R303). -/
def Queue.cqRoom (x : Queue) : Bool := decide (idxDiff x.pi x.ci < x.depth)

/-- The interrupt of a completion queue is sent as a fenced message (R304). -/
def sendCqIrq (cq : Nat) (d : Dev) : Dev :=
  match d.queue? cq with
  | none => d
  | some x =>
    match d.queues.sig.find? cq with
    | some g => { d with queues := { d.queues with sig := d.queues.sig.set cq { g with again := true } } }
    | none =>
      let m := irqMessage (seNi (seOf cq)) (40 + x.part % 4) x.part x.part x.vector
      startFenced { m with data := m.data ++ leBytes 2 cq } none
        { d with queues := { d.queues with sig := d.queues.sig.set cq { count := x.unsig } } }

/-- After a completion is written: the moderation count and an IRQ request (R304). -/
def cqSignal (cq : Nat) (irq : Bool) (d : Dev) : Dev :=
  match d.queue? cq with
  | some x => if x.vector ≠ 0xFFFF ∧ (irq = true ∨ x.mcount + 1 ≤ x.unsig) then sendCqIrq cq d else d
  | none => d

/-- The interrupt message of a completion queue has been injected: UNSIG falls by what it signalled (R304). -/
def cqInjected (cq : Nat) (d : Dev) : Dev :=
  match d.queues.sig.find? cq, d.queue? cq with
  | some g, some x =>
    let y := { x with unsig := x.unsig - g.count }
    let d1 := { d with queues := { d.queues with sig := d.queues.sig.erase cq, q := d.queues.q.set cq y } }
    if g.again = true ∨ y.mcount + 1 ≤ y.unsig then sendCqIrq cq d1 else d1
  | _, _ => { d with queues := { d.queues with sig := d.queues.sig.erase cq } }

/-- A completion is written to the next entry of its completion queue; the queue has room (R303). -/
def writeCpl (cq : Nat) (k : Cpl) (d : Dev) : Dev :=
  match d.queue? cq with
  | none => d
  | some x =>
    let se := seOf cq
    let d1 := engineWrite (seNi se) x.part x.cls (x.base + 16 * (x.pi % x.depth)) (cplBytes k x.phase) d
    let pi := (x.pi + 1) % 65536
    let y := { x with pi := pi, phase := if pi % x.depth = 0 then !x.phase else x.phase, unsig := x.unsig + 1 }
    let d2 := (d1.setQueue cq y).countSe se 5
    let d3 := if k.status = 7 then d2.countSe se 6 else d2
    cqSignal cq k.irq d3

/-- The completion of a command. -/
def Cmd.cpl (k : Cmd) : Cpl := {
  q := k.q, index := k.index, status := k.status, detail := k.detail, op := k.cop, late := k.late
  irq := bitOf (k.bytes.le 1 1) 2, tag := k.bytes.le 4 4, result := k.result % 2 ^ 32 }

/-- Removes the first command that `p` names from its engine. -/
def dropFirst (p : Cmd → Bool) : List Cmd → List Cmd
  | [] => []
  | k :: t => if p k then t else k :: dropFirst p t

/-- A MODIFY_CQ takes effect once its admin completion is written (R287): VECTOR and moderation change, and a new MCOUNT that is
no greater than UNSIG signals at once, where there is something to signal. -/
def applyModify (k : Cmd) (d : Dev) : Dev :=
  if k.cop = 0x42 ∧ k.status = 0 then
    let q := k.bytes.le 8 2
    match d.queue? q with
    | some x =>
      let y := { x with vector := k.bytes.le 24 2, mcount := k.bytes.le 26 1, mtime := k.bytes.le 28 2 }
      let d1 := writeContext q (d.setQueue q y)
      if y.vector ≠ 0xFFFF ∧ 0 < y.unsig ∧ y.mcount ≤ y.unsig then sendCqIrq q d1 else d1
    | none => d
  else d

/-- The status of a command's marks enters its completion: WRITE_FAILED with the mark's status, where the command has no error
of its own (R297, R303). -/
def Cmd.marked (mark : Nat) (k : Cmd) : Cmd :=
  if mark ≠ 0 ∧ k.status = 0 then { k with status := 9, detail := mark, wrote := [] } else { k with wrote := [] }

/-- The same for a record's completion (R29, R370). -/
def Cpl.marked (mark : Nat) (k : Cpl) : Cpl :=
  if mark ≠ 0 ∧ k.status = 0 then { k with status := 9, detail := mark, wrote := [] } else { k with wrote := [] }

/-- The oldest command of queue `q`, ended and with its marks answered, completes if its completion queue has space, else the
stall is counted (R303). -/
def finishOldest (q : Nat) (x : Queue) (k : Cmd) (d : Dev) : Dev :=
  let free (e : Dev) : Dev := e.upSe (seOf q) fun s => { s with cmds := dropFirst (fun c => c.q == q) s.cmds }
  if k.status = 0 ∧ bitOf (k.bytes.le 1 1) 1 = true then applyModify k ((free d).countSe (seOf q) 5)
  else
    match d.queue? x.cq with
    | some c => if c.cqRoom then applyModify k (writeCpl x.cq k.cpl (free d)) else d.countSe (seOf q) 7
    | none => free (queueError q 0x34 d)

/-- The oldest completion that queue `q` holds is written if its completion queue has space (R303). -/
def finishHeld (q : Nat) (x : Queue) (k : Cpl) (d : Dev) : Dev :=
  match d.queue? x.cq with
  | some c =>
    if c.cqRoom then
      writeCpl x.cq k (d.upSe (seOf q) fun s => { s with held := s.held.eraseP fun h => h.q == q })
    else d.countSe (seOf q) 7
  | none => d

/-- Changes the first completion that queue `q` holds. -/
def upHeld (q : Nat) (f : Cpl → Cpl) (d : Dev) : Dev :=
  let rec go : List Cpl → List Cpl
    | [] => []
    | h :: t => if h.q == q then f h :: t else h :: go t
  d.upSe (seOf q) fun s => { s with held := go s.held }

/-- Changes the first command that `p` names. -/
def upFirst (p : Cmd → Bool) (f : Cmd → Cmd) : List Cmd → List Cmd
  | [] => []
  | k :: t => if p k then f k :: t else k :: upFirst p f t

/-- The oldest command of queue `q` has ended: the SE marks what it wrote and, when every mark is answered, writes the
completion (R297). Where no command is left, the oldest held completion goes the same way. -/
def completeOldest (q : Nat) (d : Dev) : Dev :=
  let n := seNi (seOf q)
  match d.queue? q, (d.eng (seOf q)).cmds.find? fun k => k.q == q with
  | some x, some k =>
    if k.st ≠ .done then d
    else withMarks n x.part (queueKey q k.index 3) (b2n (k.cop == 5)) k.wrote (fun mark e =>
      finishOldest q x (k.marked mark)
        (e.upSe (seOf q) fun s => { s with cmds := upFirst (fun c => c.q == q) (Cmd.marked mark) s.cmds })) d
  | some x, none =>
    match (d.eng (seOf q)).held.find? fun k => k.q == q with
    | some k => withMarks n x.part (queueKey q k.index 3) 0 k.wrote (fun mark e =>
        finishHeld q x (k.marked mark) (upHeld q (Cpl.marked mark) e)) d
    | none => d
  | _, _ => d

/-- A completion that a unit reports: written at once where no earlier one of the queue waits, no mark is owed and there is
space (R303, R29). -/
def reportCpl (k : Cpl) (d : Dev) : Dev :=
  match d.queue? k.q with
  | none => d
  | some x =>
    match d.queue? x.cq with
    | some c =>
      if c.cqRoom = true ∧ k.wrote = [] ∧ ((d.eng (seOf k.q)).held.any fun h => h.q == k.q) = false then writeCpl x.cq k d
      else (d.when (!c.cqRoom) fun e => e.countSe (seOf k.q) 7).upSe (seOf k.q) fun s => { s with held := s.held ++ [k] }
    | none => d

/-- CQ_MODERATION_TIMEOUT: MTIME has passed since the oldest unsignalled completion (R304). -/
def cqModerationTimeout (cq : Nat) (d : Dev) : Dev :=
  match d.queue? cq with
  | some x => if x.kind = 1 ∧ x.vector ≠ 0xFFFF ∧ x.mtime ≠ 0 ∧ 0 < x.unsig ∧ d.queues.sig.has cq = false then sendCqIrq cq d else d
  | none => d

/-! Commands: ending and field checks. -/

/-- Changes the first command of `q` that `p` names. -/
def upCmd (q : Nat) (p : Cmd → Bool) (f : Cmd → Cmd) (d : Dev) : Dev :=
  d.upSe (seOf q) fun e => { e with cmds := upFirst (fun k => k.q == q && p k) f e.cmds }

/-- The command at a ring index of a queue. -/
def atIndex (i : Nat) (k : Cmd) : Bool := k.index == i && k.st != .fetched

/-- A command ends with a status (R303). -/
def endCmd (q i status detail result : Nat) (d : Dev) : Dev :=
  upCmd q (atIndex i) (fun k => { k with st := .done, status := status, detail := detail, result := result }) d

/-- A command is refused: ILLEGAL_OPCODE or INVALID_FIELD, with 0x32 (R294). -/
def refuseCmd (q i status detail : Nat) (d : Dev) : Dev :=
  let p := ((d.queue? q).map (·.part)).getD 0xFF
  (endCmd q i status detail 0 d).raise 0x32 (seNi (seOf q)) p

/-- What SECDED finds in the slot entry of the oldest started command of `q`: an uncorrectable one completes it
POISONED (R308). -/
def slotRead (q : Nat) (err : MemErr) (d : Dev) : Dev :=
  match err with
  | .none => d
  | e =>
    match (d.eng (seOf q)).cmds.find? fun k => k.q == q with
    | some k =>
      let p := ((d.queue? q).map (·.part)).getD 0xFF
      if k.st = .fetched then d
      else if e = .corrected then d.raise 0x30 (seNi (seOf q)) p
      else (endCmd q k.index 5 0 0 (forgetCmd q k.index d)).raise 0x31 (seNi (seOf q)) p
    | none => d

/-- COMPLETION_WRITE for queue `q`: its oldest command completes once it has ended and its marks are answered; `err` is what
SECDED finds in its slot entry (R297, R303, R308). -/
def completionWrite (q : Nat) (err : MemErr) (d : Dev) : Dev := completeOldest q (slotRead q err d)

/-- A command fails the checks of R283: ACCESS_FAULT, with 0x33. -/
def accessFault (q i detail : Nat) (d : Dev) : Dev :=
  let p := ((d.queue? q).map (·.part)).getD 0xFF
  (endCmd q i 3 detail 0 d).raise 0x33 (seNi (seOf q)) p

/-- A command ends on a response status (R303). -/
def endOnStatus (q i st result : Nat) (d : Dev) : Dev :=
  if st = 6 then endCmd q i 5 0 result d
  else if st = 4 then endCmd q i 6 0 result d
  else endCmd q i 4 st result d

/-- Whether bytes [lo, hi) hold a byte that is not 0. -/
def anySet (b : Bytes) (lo hi : Nat) : Bool := (b.slice lo (hi - lo)).any fun x => x != byte 0

/-- Operand bytes that an opcode uses: of A, B and C. -/
def operandUse (op : Nat) : Nat × Nat × Nat :=
  if op = 1 ∨ op = 3 then (8, 8, 4)
  else if op = 2 then (8, 0, 0)
  else if op = 5 then (8, 0, 5)
  else if op = 6 then (0, 0, 4)
  else if op = 7 then (4, 6, 4)
  else if op = 8 then (0, 6, 4)
  else if op = 9 then (2, 4, 1)
  else if op = 0xA then (2, 0, 1)
  else (0, 0, 0)

/-- The common field checks of R293 and R294: the DETAIL of the first field that fails. -/
def fieldFault (op index : Nat) (b : Bytes) : Option Nat :=
  let fl := b.le 1 1
  let il := b.le 2 2
  let ext := bitOf fl 0
  let u := operandUse op
  if 8 ≤ fl ∨ (ext = true ∧ op ≠ 2 ∧ op ≠ 0xB) ∨ (ext = true ∧ index % 4 ≠ 0) then some 1
  else if op = 2 ∧ (il = 0 ∨ (if ext then 224 else 32) < il) then some 2
  else if op ≠ 2 ∧ op ≠ 0xB ∧ il ≠ 0 then some 2
  else if anySet b (8 + u.1) 16 then some 8
  else if anySet b (16 + u.2.1) 24 then some 16
  else if anySet b (24 + u.2.2) 32 then some 24
  else none

/-- Opcodes that a queue of a kind accepts (R294, R395). -/
def opcodeListed (x : Queue) (op : Nat) : Bool :=
  if x.admin then op == 0 || decide (0x40 ≤ op ∧ op ≤ 0x43)
  else if x.kind = 0 then decide (op ≤ 0xA)
  else if x.kind = 4 then op == 0 || op == 4 || op == 6 || op == 0xB
  else if x.kind = 3 then
    let role := x.kparam.le 2 1
    if role = 0 then decide (1 ≤ op ∧ op ≤ 3) || op == 0x10 else if role = 2 then op == 4 else op == 0x20
  else false

/-! Fetch and start. -/

/-- Whether a command holds later commands of its queue back (R295, R298, R301). -/
def Cmd.bars (k : Cmd) (kind : Nat) : Bool :=
  let op := k.bytes.le 0 1
  k.st != .done && (kind == 0 || kind == 4) && (op == 4 || (kind == 0 && (op == 5 || op == 8)))

/-- Commands of a queue that its SE may have in execution; a network queue with LIMIT 0 has 16 (R282, R295). -/
def Queue.running (x : Queue) : Nat := if x.kind = 3 ∧ x.limit = 0 then 16 else x.limit

/-- Commands of queue `q` that have started and are not completed. -/
def startedIn (d : Dev) (q : Nat) : List Cmd := (d.eng (seOf q)).cmds.filter fun k => k.q == q && k.st != .fetched

/-- Whether the SE may start a command of queue `q` now, whatever the command is (R295, R313). -/
def startRoom (d : Dev) (x : Queue) (q : Nat) : Bool :=
  let held := (d.eng (seOf q)).cmds.filter fun j => j.st != .fetched
  let slots := (held.filter fun j => ((d.queue? j.q).map (·.part)) == some x.part).length
  x.state == 1 && !d.fenceBit x.part && d.unitUp (seNi (seOf q)) && decide ((startedIn d q).length < x.running)
    && decide (slots < d.fcfg.nat 0x2731 (x.part + 1)) && decide (held.length < 256)
    && !((startedIn d q).any fun j => j.bars x.kind)

/-- Whether a queue's oldest fetched command may start now; FENCE and FLUSH start when every earlier command of their
queue has written its completion (R295, R298, R299). -/
def readyCmd (d : Dev) (x : Queue) (q : Nat) : Option Cmd :=
  match (d.eng (seOf q)).cmds.find? fun k => k.q == q && k.st == .fetched with
  | none => none
  | some k =>
    let op := k.bytes.le 0 1
    let barrier := (x.kind == 0 && (op == 4 || op == 5)) || (x.kind == 4 && op == 4)
    if startRoom d x q = true ∧ (barrier = false ∨ (startedIn d q).isEmpty = true) then some k else none

/-- The queue of a class that starts next: ascending from the class's pointer. -/
def nextOfClass (d : Dev) (n cls : Nat) : Option (Nat × Cmd) :=
  let e := d.eng n
  let p := e.ptr.get 0 cls
  let ready := d.queues.q.filterMap fun x =>
    if seOf x.1 = n ∧ x.2.cls = cls then (readyCmd d x.2 x.1).map fun k => (x.1, k) else none
  match ready.find? fun r => decide (p ≤ r.1) with
  | some r => some r
  | none => ready.head?

/-- The class of each place of the weighted round-robin: 4 P, 2 B, 1 S (R295). -/
def wrrClass (i : Nat) : Nat := if i % 7 < 4 then 1 else if i % 7 < 6 then 2 else 3

/-- One start of SE `n` (R295): the chosen command holds a slot; an opcode its queue does not list ends at once. -/
def startOne (n : Nat) (d : Dev) : Dev :=
  let w := (d.eng n).wpos
  match (List.range 7).findSome? fun i => (nextOfClass d n (wrrClass (w + i))).map fun r => (w + i, r) with
  | none => d
  | some (at_, q, k) =>
    let d1 := (d.upSe n fun e => { e with
      wpos := (at_ + 1) % 7, ptr := e.ptr.set (wrrClass at_) (q + 1) })
    let d2 := upCmd q (fun c => c.st == .fetched) (fun c => { c with st := .running }) d1
    match d.queue? q with
    | some x => if opcodeListed x (k.bytes.le 0 1) then d2 else refuseCmd q k.index 1 0 d2
    | none => d2

/-- Whether the SE may fetch the next entry of a queue: while it may start no more commands of the queue, at most LIMIT
entries ahead of the oldest one in execution (R296). -/
def mayFetch (d : Dev) (x : Queue) (q : Nat) : Bool :=
  let waiting := (d.eng (seOf q)).cmds.filter fun k => k.q == q && k.st == .fetched
  let ahead := match startedIn d q with
    | k :: _ => decide (idxDiff x.ci k.index ≤ x.running)
    | [] => true
  (x.kind == 0 || x.kind == 3 || x.kind == 4) && x.state == 1 && x.pi != x.ci && !(d.fenceBit x.part)
    && d.unitUp (seNi (seOf q)) && decide (waiting.length < x.running) && (startRoom d x q || ahead)

/-- A fetched entry enters its engine (R293, R296). -/
def enterCmd (q : Nat) (x : Queue) (long : Bool) (bs : Bytes) (d : Dev) : Dev :=
  let k : Cmd := { q := q, index := x.ci, bytes := bs, cop := bs.le 0 1 }
  (d.upQueue q fun y => { y with ci := (y.ci + (if long then 4 else 1)) % 65536 }).upSe (seOf q) fun e => { e with cmds := e.cmds ++ [k] }

/-- The read of the next entry of queue `q`: its first 64 bytes, then the rest of a 256-byte one, in the queue's class (R293,
R296). A read that fails sets STATE 3 (R308). -/
def fetchEntry (q : Nat) (x : Queue) (d : Dev) : Dev :=
  let n := seNi (seOf q)
  let a := x.base + 64 * (x.ci % x.depth)
  let k1 := queueKey q x.ci 0
  let k2 := queueKey q x.ci 1
  match readState d n k1 [(a, 64)] with
  | .waiting => d
  | .idle => engineRead n x.part x.cls k1 [(a, 64)] d
  | .done st bs =>
    let op := bs.le 0 1
    let long := x.ci % 4 == 0 && ((x.kind != 3 && !x.admin && bitOf (bs.le 1 1) 0) || (x.kind == 3 && op == 0x10))
    if st ≠ 0 then queueError q 0x34 (takeAnswers n k1 d)
    else if long = false then enterCmd q x false bs (takeAnswers n k1 d)
    else if idxDiff x.pi x.ci < 4 then takeAnswers n k1 d
    else match readState d n k2 [(a + 64, 192)] with
      | .waiting => d
      | .idle => engineRead n x.part x.cls k2 [(a + 64, 192)] d
      | .done st2 more =>
        let e := takeAnswers n k1 (takeAnswers n k2 d)
        if st2 ≠ 0 then queueError q 0x34 e else enterCmd q x true (bs ++ more) e

/-- COMMAND_FETCH: the SE issues the read of the next entry of queue `q` where R296 allows, or takes the entry that has
arrived, and starts one ready command (R295). A context that the basin returns POISONED sets STATE 3 (R308). -/
def commandFetch (q : Nat) (ctxPoison : Bool) (d : Dev) : Dev :=
  match d.queue? q with
  | none => d
  | some x =>
    if ctxPoison = true ∧ x.state = 1 then queueError q 0x34 d
    else startOne (seOf q) (if mayFetch d x q then fetchEntry q x d else d)

/-- The oldest started command of a queue with an opcode, ready to act. -/
def runningCmd (d : Dev) (q op : Nat) : Option Cmd :=
  (d.eng (seOf q)).cmds.find? fun k => k.q == q && k.st == .running && k.bytes.le 0 1 == op

/-- Runs a command's own effect after the field checks of R294. -/
def runCmd (q op : Nat) (act_ : Queue → Cmd → Dev → Dev) (d : Dev) : Dev :=
  match d.queue? q, runningCmd d q op with
  | some x, some k =>
    match fieldFault op k.index k.bytes with
    | some det => refuseCmd q k.index 2 det d
    | none => act_ x k d
  | _, _ => d

/-- Operand A. -/
def Cmd.a (k : Cmd) : Nat := k.bytes.le 8 8

/-- Operand B. -/
def Cmd.b (k : Cmd) : Nat := k.bytes.le 16 8

/-- Operand C. -/
def Cmd.c (k : Cmd) : Nat := k.bytes.le 24 8

/-- NOP (R294). -/
def nop (q : Nat) (d : Dev) : Dev := runCmd q 0 (fun _ k e => endCmd q k.index 0 0 0 e) d

/-- NOTIFY (R294). -/
def notify (q : Nat) (d : Dev) : Dev := runCmd q 6 (fun _ k e => endCmd q k.index 0 0 k.c e) d

/-- FENCE: it starts when every earlier command has written its completion and ends at once (R298). -/
def fenceCmd (q : Nat) (d : Dev) : Dev := runCmd q 4 (fun _ k e => endCmd q k.index 0 0 0 e) d

/-- A command's posted writes are issued; a write to the default target ends it TARGET_ERROR (R94, R303). -/
def writeSpan (x : Queue) (k : Cmd) (a : Nat) (bs : Bytes) (result : Nat) (d : Dev) : Dev :=
  let n := seNi (seOf k.q)
  let bad := meetsDefault d n a bs.length
  let d1 := upCmd k.q (atIndex k.index) (fun c => { c with wrote := writtenTo d n x.cls a bs.length }) (engineWrite n x.part x.cls a bs d)
  if bad then endCmd k.q k.index 4 2 result d1 else endCmd k.q k.index 0 0 result d1

/-- The end of a COPY whose reads are answered: what was read before an error is written (R294, R303). -/
def copyDone (x : Queue) (k : Cmd) (st : Nat) (bs : Bytes) (d : Dev) : Dev :=
  if st = 0 then writeSpan x k k.a bs k.c d
  else if bs.isEmpty then endOnStatus k.q k.index st 0 d
  else endOnStatus k.q k.index st bs.length (writeSpan x k k.a bs bs.length d)

/-- COPY (R294): the SE checks the command and reads its source; once the reads are answered it writes the destination. A
command that has started goes on under the ranges that stood then (R311). -/
def copy (q : Nat) (d : Dev) : Dev :=
  runCmd q 1 (fun x k e =>
    let n := seNi (seOf q)
    let key := queueKey q k.index 2
    let fa := spanFault e.fcfg x.part k.a k.c
    let fb := spanFault e.fcfg x.part k.b k.c
    match readState e n key [(k.b, k.c)] with
    | .waiting => e
    | .done st bs => copyDone x k st bs (takeAnswers n key e)
    | .idle =>
      if k.c = 0 then refuseCmd q k.index 2 24 e
      else if overlaps k.a k.c k.b k.c then refuseCmd q k.index 2 8 e
      else if fa ≠ 0 then accessFault q k.index fa e
      else if fb ≠ 0 then accessFault q k.index fb e
      else engineRead n x.part x.cls key [(k.b, k.c)] e) d

/-- COPY_INLINE (R294). -/
def copyInline (q : Nat) (d : Dev) : Dev :=
  runCmd q 2 (fun x k e =>
    let n := k.bytes.le 2 2
    let f := spanFault e.fcfg x.part k.a n
    if f ≠ 0 then accessFault q k.index f e else writeSpan x k k.a (k.bytes.slice 32 n) 0 e) d

/-- The bytes that FILL writes: byte at A + k is byte (A + k) mod 8 of B (R294). -/
def fillBytes (a n b : Nat) : Bytes := (List.range n).map fun i => byte (b / 256 ^ ((a + i) % 8))

/-- FILL (R294). -/
def fillCmd (q : Nat) (d : Dev) : Dev :=
  runCmd q 3 (fun x k e =>
    let f := spanFault e.fcfg x.part k.a k.c
    if k.c = 0 then refuseCmd q k.index 2 24 e
    else if f ≠ 0 then accessFault q k.index f e
    else writeSpan x k k.a (fillBytes k.a k.c k.b) 0 e) d

/-- The FLUSH message to an HP NI; the spec gives its contents and not their places: first byte, length, partition,
queue (R299). -/
def flushMessage (q part h a n : Nat) : Packet :=
  messagePkt (seNi (seOf q)) part 1 (40 + h) 1 0x0002 (leBytes 6 a ++ leBytes 5 n ++ [byte part] ++ leBytes 2 q)

/-- FLUSH: barrier, then a message to each HP NI and, for the peripheral range, a mark to the LK NI, which its completion waits
for (R299). -/
def flushCmd (q : Nat) (d : Dev) : Dev :=
  runCmd q 5 (fun x k e =>
    let f := spanFault e.fcfg x.part k.a k.c
    if k.c = 0 then refuseCmd q k.index 2 24 e
    else if f ≠ 0 then accessFault q k.index f e
    else
      let e1 := Dev.fold (List.range 4) (fun h y => sendMessage (flushMessage q x.part h k.a k.c) y) e
      upCmd q (atIndex k.index) (fun c => { c with
        st := .waiting, need := 4, wrote := if k.a < 0x40000000 then [byte 65, byte x.cls] else [] }) e1) d

/-- An HP NI's answer to a FLUSH has arrived at the SE (R299); a status in MSTAT ends it WRITE_FAILED. -/
def flushAnswer (q mstat : Nat) (d : Dev) : Dev :=
  let isIt (k : Cmd) : Bool := k.st == .waiting && k.bytes.le 0 1 == 5
  match (d.eng (seOf q)).cmds.find? fun k => k.q == q && isIt k with
  | none => d
  | some k =>
    let bad := if k.status = 0 ∧ mstat ≠ 0 then (9, mstat) else (k.status, k.detail)
    if k.need ≤ 1 then endCmd q k.index bad.1 bad.2 0 d
    else upCmd q isIt (fun c => { c with need := c.need - 1, status := bad.1, detail := bad.2 }) d

/-- Whether a release time lies beyond the hold horizon of an SE's replica (R187, R300). -/
def beyondHorizon (d : Dev) (n s ns : Nat) : Bool :=
  decide (((d.fcfg.nat 0x2301 5 * 1500000 : Nat) : Int) < timeCount s ns - d.replica n)

/-- WAIT_TIME (R301). -/
def waitTime (q : Nat) (d : Dev) : Dev :=
  runCmd q 8 (fun _ k e =>
    let n := seNi (seOf q)
    let ns := k.c
    if 1000000000 ≤ ns then refuseCmd q k.index 2 24 e
    else if beyondHorizon e n k.b ns then refuseCmd q k.index 2 16 e
    else if timeCount k.b ns ≤ e.replica n then
      upCmd q (atIndex k.index) (fun c => { c with late := true }) (endCmd q k.index 0 0 0 e)
    else upCmd q (atIndex k.index) (fun c => { c with st := .waiting }) e) d

/-- WAIT_TIME_REACHED: the replica has reached the time of the queue's waiting command (R301). -/
def waitTimeReached (q : Nat) (d : Dev) : Dev :=
  match (d.eng (seOf q)).cmds.find? fun k => k.q == q && k.st == .waiting && k.bytes.le 0 1 == 8 with
  | some k => if timeCount k.b k.c ≤ d.replica (seNi (seOf q)) then endCmd q k.index 0 0 0 d else d
  | none => d

/-! Admin commands. -/

/-- The admin queue of a partition, where it exists. -/
def adminOf (d : Dev) (p : Nat) : Option Nat :=
  (List.find? (fun e => e.2.admin && e.2.kind == 0 && e.2.part == p) d.queues.q).map (·.1)

/-- Runs an admin command of partition `p`: unused bytes first (R284, R294). -/
def runAdmin (p op : Nat) (used : List (Nat × Nat)) (act_ : Nat → Cmd → Dev → Dev) (d : Dev) : Dev :=
  match adminOf d p with
  | none => d
  | some q =>
    match runningCmd d q op with
    | none => d
    | some k =>
      if 8 ≤ k.bytes.le 1 1 ∨ bitOf (k.bytes.le 1 1) 0 = true then refuseCmd q k.index 2 1 d
      else
        match (span 2 64).find? fun i => !(decide (4 ≤ i ∧ i < 8)) && !(used.any fun u => decide (u.1 ≤ i ∧ i < u.2)) && anySet k.bytes i (i + 1) with
        | some i => refuseCmd q k.index 2 i d
        | none => act_ q k d

/-- Whether a queue is one of a partition's admin pair. -/
def isAdminQueue (d : Dev) (q : Nat) : Bool := ((d.queue? q).map (·.admin)).getD false

/-- Bytes of one frame in memory (R360). -/
def frameBytes (c : Cfg) (k : Nat) : Nat :=
  let n := c.nat (0x2A40 + k) 5 * c.nat (0x2A40 + k) 6
  if c.nat (0x2A40 + k) 7 = 8 then n
  else if c.nat (0x2A40 + k) 7 = 12 ∧ c.nat (0x2A40 + k) 0xD = 1 then (n * 3 + 1) / 2
  else 2 * n

/-- Whether a trigger source code names a source (R362). -/
def trigSource (t : Nat) : Bool := decide (t ≤ 0x0D ∨ (0x10 ≤ t ∧ t ≤ 0x17))

/-- Whether a pin trigger source is assigned to a partition (R363, R449). -/
def trigOwned (c : Cfg) (p t : Nat) : Bool := t == 0 || decide (0x10 ≤ t) || c.nat (0x2D30 + t) 1 == p

/-- The FIFO of a partition that names a trace queue (R505). -/
def traceFifoOf (c : Cfg) (p q : Nat) : Option Nat :=
  (List.range 4).find? fun f => c.nat (0x2F08 + f) 2 == q && c.nat (0x2F08 + f) 1 == p

/-- The kind checks of a stream queue: status and DETAIL; (0, 0) passes (R362, R363, R505). -/
def streamCheck (d : Dev) (p q slotB : Nat) (kp : Bytes) : Nat × Nat :=
  let c := d.fcfg
  let src := kp.le 0 1
  let mode := kp.le 1 1
  let st := kp.le 2 1
  let rt := kp.le 3 1
  let rec_ := kp.le 8 4
  let pre := kp.le 12 4
  if anySet kp 16 32 then (2, 48)
  else if src = 0x80 then
    if mode ≠ 0 then (2, 33) else if st ≠ 0 then (2, 34) else if rt ≠ 0 then (2, 35) else if pre ≠ 0 then (2, 44)
    else if slotB % 4096 ≠ 0 ∨ slotB < 4096 ∨ 2 ^ 30 < slotB then (2, 36)
    else if rec_ % 64 ≠ 0 ∨ rec_ < 64 ∨ slotB < rec_ then (2, 40)
    else match traceFifoOf c p q with
      | none => (3, 3)
      | some f => if d.conv.stream.any fun e => e.2.src == 0x80 && e.2.fifo == f then (7, 0) else (0, 0)
  else if 24 ≤ src then (2, 32)
  else if 4 ≤ mode then (2, 33)
  else if trigSource st = false then (2, 34)
  else if trigSource rt = false ∨ (mode % 2 = 1 ∧ rt ≠ 0) then (2, 35)
  else if slotB % 4096 ≠ 0 ∨ slotB < 4096 ∨ 2 ^ 30 < slotB then (2, 36)
  else
    let fb := frameBytes c src
    let hdr := if bitOf mode 1 then 64 else 0
    let ok (v : Nat) : Bool := v % 64 == 0 && v % (max 1 fb) == 0
    if ok rec_ = false ∨ rec_ < 64 ∨ slotB < rec_ + hdr then (2, 40)
    else if ok pre = false ∨ rec_ < pre ∨ 49152 * c.nat (0x2A40 + src) 3 < pre ∨ (rt = 0 ∧ pre ≠ 0) then (2, 44)
    else if c.nat 0x2650 (src + 1) ≠ p ∨ trigOwned c p st = false ∨ trigOwned c p rt = false then (3, 3)
    else (0, 0)

/-- Kind parameters of a network queue. -/
def Queue.net (x : Queue) : Nat × Nat × Nat × Nat := (x.kparam.le 0 2, x.kparam.le 2 1, x.kparam.le 3 1, x.kparam.le 4 1)

/-- The kind checks of a network queue (R394, R403, R405). -/
def networkCheck (d : Dev) (p : Nat) (kp : Bytes) : Nat × Nat :=
  let c := d.fcfg
  let qp := kp.le 0 2
  let role := kp.le 2 1
  let port := kp.le 3 1
  let sel := kp.le 4 1
  if anySet kp 12 32 ∨ anySet kp 5 8 then (2, if anySet kp 5 8 then 37 else 44)
  else if 4096 ≤ qp ∨ (2 ≤ role ∧ qp ≠ 0) then (2, 32)
  else if 4 ≤ role then (2, 34)
  else if 4 ≤ port then (2, 35)
  else if (role < 2 ∧ sel ≠ 0) ∨ (role = 2 ∧ 64 ≤ sel) ∨ (role = 3 ∧ 16 ≤ sel) then (2, 36)
  else if role ≠ 2 ∧ kp.le 8 4 ≠ 0 then (2, 40)
  else
    let tpl := 0x2B20 + sel
    let size := (c.bytesAt 0 tpl 1).length + (if bitOf (c.nat tpl 2) 2 then 16 else 0) + c.nat tpl 4
    if (role < 2 ∧ c.nat 0x2651 (qp / 256 + 1) ≠ p) ∨ bitOf (c.nat (0x2B00 + port) 6) p = false
        ∨ (role = 2 ∧ bitOf (c.nat tpl 3) p = false) ∨ (role = 3 ∧ c.nat (0x2B18 + port) (3 * sel + 3) ≠ p) then (3, 3)
    else if (role < 2 ∧ (d.queues.q.any fun e => e.2.kind == 3 && e.2.net.1 == qp && e.2.net.2.1 == role))
        ∨ (role = 3 ∧ (d.queues.q.any fun e => e.2.kind == 3 && e.2.net.2.1 == 3 && e.2.net.2.2.1 == port && e.2.net.2.2.2 == sel)) then (7, 0)
    else if role = 2 ∧ c.nat (0x2B00 + port) 9 < size + 4 then (2, 36)
    else (0, 0)

/-- The kind checks of an operator queue (R282, R285). -/
def operatorCheck (d : Dev) (p : Nat) (kp : Bytes) : Nat × Nat :=
  let n := kp.le 0 1
  if 8 ≤ n ∨ d.fcfg.nat (0x2C10 + n) (p + 1) = 0 then (2, 32) else if anySet kp 1 32 then (2, 33) else (0, 0)

/-- The kind checks of a new queue. -/
def kindCheck (d : Dev) (p q kind : Nat) (kp : Bytes) : Nat × Nat :=
  if kind = 2 then streamCheck d p q (kp.le 4 4) kp
  else if kind = 3 then networkCheck d p kp
  else if kind = 4 then operatorCheck d p kp
  else if anySet kp 0 32 then (2, 32)
  else (0, 0)

/-- Created queues of a partition, its admin pair left out. -/
def Dev.created (d : Dev) (p : Nat) : Nat := (d.queues.q.filter fun e => e.2.part == p && !e.2.admin).length

/-- Whether a completion queue may be named by queue `q` of partition `p` (R279, R285). -/
def namesCq (d : Dev) (p q cq : Nat) : Bool :=
  match d.queue? cq with
  | some c => c.kind == 1 && c.part == p && seOf cq == seOf q
  | none => false

/-- CREATE_QUEUE: the checks of R285 in order, then the queue is enabled. -/
def createQueue (p : Nat) (d : Dev) : Dev :=
  runAdmin p 0x40 [(8, 26), (26, 27), (28, 30), (32, 64)] (fun aq k e =>
    let b := k.bytes
    let q := b.le 8 2
    let kind := b.le 10 1
    let log2 := b.le 11 1
    let cls := b.le 12 1
    let limit := b.le 13 1
    let cq := b.le 14 2
    let base := b.le 16 8
    let kp := b.slice 32 32
    let kc := kindCheck e p q kind kp
    let entry := if kind = 1 then 16 else if kind = 2 then kp.le 4 4 else 64
    let sf := spanFault e.fcfg p base (2 ^ log2 * entry)
    let limitOk : Bool := if kind = 0 ∨ kind = 4 then decide (1 ≤ limit ∧ limit ≤ 16) else limit == 0
    if blockOwner e.fcfg (q / 256) ≠ p ∨ isAdminQueue e q = true ∨ (e.queue? q).isSome = true
        ∨ (kind ≠ 1 ∧ namesCq e p q cq = false) then endCmd aq k.index 0xA 0 0 e
    else if e.fcfg.nat 0x2730 (p + 1) ≤ e.created p then endCmd aq k.index 0xB 0 0 e
    else if 5 ≤ kind then refuseCmd aq k.index 2 10 e
    else if log2 < 4 ∨ 15 < log2 then refuseCmd aq k.index 2 11 e
    else if cls = 0 ∨ 3 < cls then refuseCmd aq k.index 2 12 e
    else if limitOk = false then refuseCmd aq k.index 2 13 e
    else if kind = 1 ∧ cq ≠ 0xFFFF then refuseCmd aq k.index 2 14 e
    else if base % 4096 ≠ 0 ∨ 2 ^ 48 ≤ base then refuseCmd aq k.index 2 16 e
    else if kind ≠ 1 ∧ anySet b 24 26 = true then refuseCmd aq k.index 2 24 e
    else if kind ≠ 1 ∧ anySet b 26 27 = true then refuseCmd aq k.index 2 26 e
    else if kind ≠ 1 ∧ anySet b 28 30 = true then refuseCmd aq k.index 2 28 e
    else if kc.1 = 2 then refuseCmd aq k.index 2 kc.2 e
    else if kc.1 = 3 then accessFault aq k.index kc.2 e
    else if kc.1 ≠ 0 then endCmd aq k.index kc.1 kc.2 0 e
    else if sf ≠ 0 then accessFault aq k.index sf e
    else
      let x : Queue := {
        base := base, log2 := log2, kind := kind, cls := cls, part := p, cq := cq, limit := limit
        vector := if kind = 1 then b.le 24 2 else 0, mcount := if kind = 1 then b.le 26 1 else 0
        mtime := if kind = 1 then b.le 28 2 else 0, kparam := kp }
      let e1 := e.setQueue q x
      let st : Stream := { src := kp.le 0 1, tx := bitOf (kp.le 1 1) 0, fifo := (traceFifoOf e.fcfg p q).getD 0 }
      let e2 := if kind = 2 then { e1 with conv := { e1.conv with stream := e1.conv.stream.set q st } } else e1
      endCmd aq k.index 0 0 0 (writeContext q e2)) d

/-- MODIFY_CQ (R287): the queue is checked, and the change follows with the completion (`applyModify`). -/
def modifyCq (p : Nat) (d : Dev) : Dev :=
  runAdmin p 0x42 [(8, 10), (24, 27), (28, 30)] (fun aq k e =>
    match e.queue? (k.bytes.le 8 2) with
    | some x =>
      if x.part = p ∧ x.kind = 1 ∧ x.admin = false ∧ x.state = 1 then endCmd aq k.index 0 0 0 e
      else endCmd aq k.index 0xA 0 0 e
    | none => endCmd aq k.index 0xA 0 0 e) d

/-- QUERY_QUEUE (R284): PI, CI and STATE of a queue of the partition's blocks. -/
def queryQueue (p : Nat) (d : Dev) : Dev :=
  runAdmin p 0x43 [(8, 10)] (fun aq k e =>
    let q := k.bytes.le 8 2
    if blockOwner e.fcfg (q / 256) ≠ p then endCmd aq k.index 0xA 0 0 e
    else match e.queue? q with
      | some x => endCmd aq k.index 0 x.state (x.pi + 65536 * x.ci) e
      | none => endCmd aq k.index 0 0 0 e) d

/-- Whether a queue that a DESTROY_QUEUE of partition `p` names can be destroyed (R286). -/
def mayDestroy (d : Dev) (p q : Nat) : Bool :=
  match d.queue? q with
  | some x =>
    x.part == p && !x.admin && x.state != 2 && blockOwner d.fcfg (q / 256) == p
      && !(x.kind == 1 && d.queues.q.any fun e => e.2.kind != 1 && e.2.cq == q)
  | none => false

/-! Doorbell notices at the SE. -/

/-- Whether a notice's index is valid for a queue (R292). -/
def noticeValid (x : Queue) (i : Nat) : Bool :=
  if x.kind = 1 then decide (idxDiff x.pi i ≤ idxDiff x.pi x.ci)
  else decide (idxDiff i x.ci ≤ x.depth) && decide (idxDiff x.pi x.ci ≤ idxDiff i x.ci)

/-- A doorbell notice acts on its queue or is discarded (R286, R292, R306). -/
def acceptNotice (n q i : Nat) (d : Dev) : Dev :=
  match d.queue? q with
  | some x =>
    if x.state = 2 then d.countSe n 4
    else if x.state = 1 ∧ seOf q = n ∧ noticeValid x i = true then
      (d.setQueue q (if x.kind = 1 then { x with ci := i } else { x with pi := i })).countSe n 3
    else (d.countSe n 4).raise 0x89 (seNi n) x.part
  | none => (d.countSe n 4).raise 0x89 (seNi n)

/-- DOORBELL_NOTICE: the front notice in MQ 0 of SE `n` (R292); `err` is what SECDED finds in the doorbell array. -/
def doorbellNotice (n : Nat) (err : MemErr) (d : Dev) : Dev :=
  match d.mqFront (seNi n) 0 with
  | some m =>
    if m.code = 1 then
      let q := m.data.le 0 2
      let d1 := mqTake (seNi n) 0 d
      match err with
      | .none => acceptNotice n q (m.data.le 2 2) d1
      | .corrected => acceptNotice n q (m.data.le 2 2) (d1.raise 0x30 (seNi n) m.part)
      | .uncorrectable => (d1.countSe n 4).raise 0x31 (seNi n) m.part
    else d
  | none => d

/-! Flips, fences and resets. -/

/-- The admin pair that the configuration gives partition `p`: its first queue and the two queues (R280). -/
def adminPair (c : Cfg) (p : Nat) : Option (Nat × Queue × Queue) :=
  let i := 0x2710 + p
  match lowestBlock c p with
  | none => none
  | some b =>
    if c.nat i 1 = 0 ∨ c.nat i 3 = 0 then none
    else
      let q := 256 * b
      some (q,
        { base := c.nat i 1, log2 := c.nat i 2, kind := 0, cls := 1, admin := true, part := p, cq := q + 1, limit := 1 },
        { base := c.nat i 3, log2 := c.nat i 4, kind := 1, cls := 1, admin := true, part := p, vector := c.nat i 5 })

/-- The admin pair of `p` is started anew: PI = CI = 0, PHASE 1 (R280, R310, R316); rings are held to the ranges.
An ended command of the old pair completes to the old ring; one that has not acted yet is discarded with it. -/
def startAdmin (c : Cfg) (p : Nat) (d : Dev) : Dev :=
  let old := (d.queues.q.filter fun e => e.2.admin && e.2.part == p).map (·.1)
  let ended := match old.head? with
    | some q => (d.eng (seOf q)).cmds.filter fun k => k.q == q && k.st == .done
    | none => []
  let d0 := Dev.fold ended (fun k e => match e.queue? k.q with
    | some x => applyModify k (writeCpl x.cq k.cpl e)
    | none => e) d
  let d1 := Dev.fold old dropQueue d0
  match adminPair c p with
  | none => d1
  | some (q, a, b) =>
    let d2 := writeContext (q + 1) (writeContext q (((dropQueue (q + 1) (dropQueue q d1)).setQueue q a).setQueue (q + 1) b))
    let bad (x : Queue) : Bool := spanFault c p x.base (x.depth * x.entryBytes) != 0
    let d3 := if bad a then queueError q 0x33 d2 else d2
    if bad b then queueError (q + 1) 0x33 d3 else d3

/-- The queues at the flip from `old` to `new` (R280, R309 to R311). -/
def queuesAtFlip (old new : Cfg) (d : Dev) : Dev :=
  let moved := cfgDiffers old new 0x2701 0x2702
  let d1 := if moved then
      Dev.fold (d.queues.q.filter fun e => !e.2.admin && blockOwner new (e.1 / 256) != e.2.part) (fun e y => dropQueue e.1 y) d
    else d
  let d2 := if moved ∨ cfgDiffers old new 0x2710 0x271F = true then
      Dev.fold (List.range 16) (fun p y =>
        let was := adminPair old p
        let is := adminPair new p
        if was ≠ is then startAdmin new p y else y) d1
    else d1
  if cfgDiffers old new 0x2721 0x272F then
    Dev.fold d2.queues.q (fun e y =>
      if e.2.state = 1 ∧ spanFault new e.2.part e.2.base (e.2.depth * e.2.entryBytes) ≠ 0 then queueError e.1 0x33 y else y) d2
  else d2

/-- Commands of partition `p` that have started and not completed. -/
def startedOf (d : Dev) (p : Nat) : List Cmd :=
  ((List.range 8).map fun n => (d.eng n).cmds.filter fun k =>
    k.st != .fetched && ((d.queue? k.q).map (·.part)) == some p).flatten

/-- A forced drain: commands of `p` in execution are abandoned and end FENCED (R254, R313). -/
def abandonCmds (p : Nat) (d : Dev) : Dev :=
  Dev.fold (startedOf d p) (fun k e => if k.st = .done then e else upCmd k.q (atIndex k.index) (fun c => { c with wrote := [] }) (endCmd k.q k.index 6 0 0 (forgetCmd k.q k.index e))) d

/-- The reset step destroys every queue of `p`'s blocks (R256). -/
def destroyQueuesOf (p : Nat) (d : Dev) : Dev :=
  Dev.fold (d.queues.q.filter fun e => e.2.part == p) (fun e y => dropQueue e.1 y) d

/-- A unit reset of SE `n`: commands in execution are abandoned without completions, and its queues go on from their
written-back contexts (R314). -/
def seReset (n : Nat) (d : Dev) : Dev :=
  let mine := d.queues.q.filter fun e => seOf e.1 == n
  let back : List (Nat × Queue) := mine.filterMap fun e => (contextOf (d.memRead (contextAddr e.1) 64)).map fun x => (e.1, x)
  let d1 := d.upSe n fun e => { e with cmds := [], held := [], wpos := 0, ptr := [] }
  let rest := d1.queues.q.filter fun e => seOf e.1 != n
  { d1 with queues := { d1.queues with
      q := back.foldl (fun (t : Tbl Queue) (e : Nat × Queue) => t.set e.1 e.2) rest
      sig := d1.queues.sig.filter fun e => seOf e.1 != n } }

/-- Clear of the queue counters (R307). -/
def clearQueueCounts (d : Dev) : Dev :=
  let d1 := { d with queues := { d.queues with se := d.queues.se.map fun (e : Nat × Se) => (e.1, ({ e.2 with counts := [] } : Se)) } }
  { d1 with host := { d1.host with bellCounts := [] } }

/-! Meanings. -/

/-- CREATE_QUEUE: The admin command CREATE_QUEUE checks and enables a queue context (R285). -/
def execCreateQueue (p : Nat) (s : State) : Host.Outcome State Fault Refusal :=
  act (wfCreateQueue p) (createQueue p) s

/-- MODIFY_CQ: The admin command MODIFY_CQ changes the vector and moderation of a completion queue (R287). -/
def execModifyCq (p : Nat) (s : State) : Host.Outcome State Fault Refusal :=
  act (wfModifyCq p) (modifyCq p) s

/-- QUERY_QUEUE: The admin command QUERY_QUEUE returns a queue's PI, CI and STATE (R284). -/
def execQueryQueue (p : Nat) (s : State) : Host.Outcome State Fault Refusal :=
  act (wfQueryQueue p) (queryQueue p) s

/-- DOORBELL_NOTICE: The SE receives a doorbell notice and accepts or discards the new index (R292). -/
def execDoorbellNotice (n : Nat) (err : MemErr) (s : State) : Host.Outcome State Fault Refusal :=
  act (wfDoorbellNotice n err) (doorbellNotice n err) s

/-- COMMAND_FETCH: The SE fetches command entries of a queue in ring order (R296). -/
def execCommandFetch (q : Nat) (ctxPoison : Bool) (s : State) : Host.Outcome State Fault Refusal :=
  act (wfCommandFetch q ctxPoison) (commandFetch q ctxPoison) s

/-- CONTEXT_WRITEBACK: The SE writes a queue context back to the basin when the queue goes idle or at least every 1 us (R282). -/
def execContextWriteback (q : Nat) (s : State) : Host.Outcome State Fault Refusal :=
  act (wfContextWriteback q) (contextWriteback q) s

/-- NOP: The command NOP completes OK (R294). -/
def execNop (q : Nat) (s : State) : Host.Outcome State Fault Refusal :=
  act (wfNop q) (nop q) s

/-- COPY: The command COPY copies a span from source to destination (R294). -/
def execCopy (q : Nat) (s : State) : Host.Outcome State Fault Refusal :=
  act (wfCopy q) (copy q) s

/-- COPY_INLINE: The command COPY_INLINE writes the inline bytes to the destination (R294). -/
def execCopyInline (q : Nat) (s : State) : Host.Outcome State Fault Refusal :=
  act (wfCopyInline q) (copyInline q) s

/-- FILL: The command FILL writes an 8-byte pattern over a span (R294). -/
def execFillCmd (q : Nat) (s : State) : Host.Outcome State Fault Refusal :=
  act (wfFillCmd q) (fillCmd q) s

/-- FENCE: The command FENCE completes when every earlier command of its queue has completed, and holds later ones (R298). -/
def execFenceCmd (q : Nat) (s : State) : Host.Outcome State Fault Refusal :=
  act (wfFenceCmd q) (fenceCmd q) s

/-- FLUSH: The command FLUSH acts as FENCE, then asks HP0-HP3 and the LK bridge to flush the range (R299). -/
def execFlushCmd (q : Nat) (s : State) : Host.Outcome State Fault Refusal :=
  act (wfFlushCmd q) (flushCmd q) s

/-- NOTIFY: The command NOTIFY completes OK with the given value (R294). -/
def execNotify (q : Nat) (s : State) : Host.Outcome State Fault Refusal :=
  act (wfNotify q) (notify q) s

/-- WAIT_TIME: The command WAIT_TIME holds its queue until chassis time reaches the given time (R301). -/
def execWaitTime (q : Nat) (s : State) : Host.Outcome State Fault Refusal :=
  act (wfWaitTime q) (waitTime q) s

/-- WAIT_TIME_REACHED: The SE replica reaches a WAIT_TIME's time and the command completes (R301). -/
def execWaitTimeReached (q : Nat) (s : State) : Host.Outcome State Fault Refusal :=
  act (wfWaitTimeReached q) (waitTimeReached q) s

/-- COMPLETION_WRITE: Once a command's marks are answered and space exists, the SE writes its completion in ring order (R303). -/
def execCompletionWrite (q : Nat) (err : MemErr) (s : State) : Host.Outcome State Fault Refusal :=
  act (wfCompletionWrite q err) (completionWrite q err) s

/-- CQ_MODERATION_TIMEOUT: MTIME has passed since the oldest unsignalled completion and an interrupt is sent (R304). -/
def execCqModerationTimeout (cq : Nat) (s : State) : Host.Outcome State Fault Refusal :=
  act (wfCqModerationTimeout cq) (cqModerationTimeout cq) s

end Sys2Proof.Machine
end

