-- ==== Sys2Proof/Machine/Host.lean ====
section
/-! DEFINITION. The PCI Express endpoint (spec/12): doorbells at the HP NIs, the window and its prefetch, placement with
its admissions, outbound requests and MSI-X. -/
namespace Sys2Proof.Machine

/-- The HP NI that serves a function (R281, R319). -/
def hpOf (f : Nat) : Nat := 40 + f % 4

/-- A counter of HP NI `h` (0x2840 + n). -/
def Dev.countHp (h sub : Nat) (d : Dev) : Dev :=
  { d with host := { d.host with counts := d.host.counts.modify 0 (8 * (h - 40) + sub) inc32 } }

/-- What a memory request to a BAR of function `f` meets (R89, R319, R342). -/
inductive Door where
  /-- Nothing happens: the function is not on the bus, or its HP NI's link is held back (R290). -/
  | absent
  /-- Reads complete with Unsupported Request, writes are discarded. -/
  | closed
  | serve
  deriving DecidableEq, Repr

/-- The door of BAR `bar` of function `f`. Behind a doorbell that a full store holds back nothing of the functions that its HP
NI serves gets through (R290). -/
def Dev.door (d : Dev) (f bar : Nat) : Door :=
  if d.fnExists f = false ∨ d.host.stuck.has (hpOf f) = true then .absent
  else if (d.fn f).flr = true ∨ (d.boot.safeHarbour = true ∧ (f ≠ 0 ∨ bar ≠ 0)) then .closed
  else .serve

/-- An inbound read is completed: 0 data, 1 Completer Abort, 2 Unsupported Request. -/
def completeRead (kind : Nat) (ep : Bool) (bs : Bytes) (d : Dev) : Dev :=
  { d with host := { d.host with lastRead := some (kind, ep, bs) } }

/-- An inbound request is completed with Unsupported Request (R318, R342). -/
def completeUr (f : Nat) (d : Dev) : Dev := (completeRead 2 false [] d).raise 0x8C (hpOf f) f

/-- UNSUPPORTED_REQUEST: a locked read or an atomic request (R318). -/
def unsupportedRequest (f : Nat) (d : Dev) : Dev := if d.fnExists f then completeUr f d else d

/-! Doorbells. -/

/-- The coalescing store of HP NI `h`. -/
def Dev.bells (d : Dev) (h : Nat) : List Bell := d.host.bells.get [] h

/-- The device with the coalescing store of HP NI `h` set. -/
def Dev.setBells (h : Nat) (l : List Bell) (d : Dev) : Dev :=
  { d with host := { d.host with bells := d.host.bells.set h l } }

/-- A doorbell counter of 0x2748. -/
def Dev.countBell (sub : Nat) (d : Dev) : Dev :=
  { d with host := { d.host with bellCounts := d.host.bellCounts.modify 0 sub inc32 } }

/-- Whether a fenced message of HP NI `h` is the notice of queue `q` (R291). -/
def isNotice (q : Nat) (m : FencedMsg) : Bool := m.pkt.code == 1 && m.pkt.mq == 0 && m.pkt.data.le 0 2 == q

/-- The device with the notice of queue `q` taken back from HP NI `h`, wherever it waits to be injected. -/
def takeBackNotice (h q : Nat) (d : Dev) : Dev :=
  let notice (p : Packet) : Bool := p.code == 1 && p.mq == 0 && p.data.le 0 2 == q
  d.upNi h fun x => { x with
    fenced := x.fenced.filter fun m => !isNotice q m
    atUnit := x.atUnit.filter fun o => !(o.kind == .fencedMsg && notice o.pkt)
    out := x.out.filter fun o => !(o.kind == .message && notice o.pkt) }

/-- A doorbell enters the coalescing store (R290). One whose queue is pending replaces the index; a notice that has not been
injected is taken back, so that the next one is fenced after the newer doorbell (R291). -/
def enterBell (h q i : Nat) (d : Dev) : Dev :=
  let l := d.bells h
  if l.any fun b => b.q == q then
    (takeBackNotice h q (d.setBells h (l.map fun b => if b.q = q then { b with index := i, sent := false } else b))).countBell
      (9 + (h - 40))
  else d.setBells h (l ++ [{ q := q, index := i }])

/-- The checks of a doorbell in their order (R289), then the store (R290). The event names the queue. -/
def doorbellCheck (f value : Nat) (full : Bool) (d : Dev) : Dev :=
  let h := hpOf f
  let q := value % 65536
  if d.fenceBit f then d.countBell (5 + (h - 40))
  else if full = false ∨ 2 ^ 32 ≤ value then d.raise 0x89 h f (queue := some q)
  else if blockOwner d.fcfg (q / 256) ≠ f then (d.countBell (1 + (h - 40))).raise 0x88 h f (queue := some q)
  else enterBell h q (value / 65536 % 65536) d

/-- A doorbell at its HP NI: where all 64 entries are in use it is held at the link (R290). -/
def doorbellAt (f value : Nat) (full : Bool) (d : Dev) : Dev :=
  let h := hpOf f
  if 64 ≤ (d.bells h).length then
    { d with host := { d.host with stuck := d.host.stuck.set h { f := f, value := value, full := full } } }
  else doorbellCheck f value full d

/-- An entry of HP NI `h` is free: the doorbell held at its link is accepted (R290). -/
def unstick (h : Nat) (d : Dev) : Dev :=
  match d.host.stuck.find? h with
  | some b =>
    if 64 ≤ (d.bells h).length then d
    else doorbellCheck b.f b.value b.full { d with host := { d.host with stuck := d.host.stuck.erase h } }
  | none => d

/-- DOORBELL: 8 bytes of the doorbell area of function `f` are written; `full` says that every byte enable is on. -/
def doorbell (f value : Nat) (full poisoned : Bool) (d : Dev) : Dev :=
  if d.door f 0 ≠ .serve ∨ d.boot.safeHarbour = true then d
  else if poisoned then d.raise 0x8D (hpOf f) f
  else doorbellAt f value full d

/-- DOORBELL_NOTICE_SEND: the first pending entry without a notice is sent fenced to its SE (R291). -/
def doorbellNoticeSend (h : Nat) (d : Dev) : Dev :=
  match (d.bells h).find? fun b => !b.sent with
  | none => d
  | some b =>
    let p := blockOwner d.fcfg (b.q / 256)
    if unitAdmits d h p then
      startFenced (messagePkt h p 1 (seNi (seOf b.q)) 0 1 (leBytes 2 b.q ++ leBytes 2 b.index)) none
        (d.setBells h ((d.bells h).map fun c => if c.q = b.q then { c with sent := true } else c))
    else d

/-- The TIMED_MESSAGE of a TIMED_NOTIFY has been injected: the command completes OK, LATE where the SE's replica stood at or
beyond the release time (R300). -/
def timedSent (p : Packet) (d : Dev) : Dev :=
  let q := (p.addr - 1) / 65536
  let i := (p.addr - 1) % 65536
  match (d.eng (seOf q)).cmds.find? fun k => k.q == q && k.index == i && k.st == .waiting && k.bytes.le 0 1 == 7 with
  | some _ =>
    upCmd q (atIndex i) (fun c => { c with late := decide (timeCount p.relS p.relNs ≤ d.replica p.src) }) (endCmd q i 0 0 0 d)
  | none => d

/-- What the injection of a message does for its sender: a doorbell entry frees (R291), the interrupt of a completion queue
lowers UNSIG (R304), and a TIMED_NOTIFY completes (R300). -/
def messageSent (p : Packet) (d : Dev) : Dev :=
  let n := p.src
  if niKind n = 3 ∧ p.ty = 4 ∧ p.code = 1 then
    unstick n (d.setBells n ((d.bells n).filter fun b => !(b.sent && b.q == p.data.le 0 2)))
  else if niKind n = 1 ∧ p.ty = 4 ∧ p.code = 0x0010 ∧ p.data.length = 5 then cqInjected (p.data.le 3 2) d
  else if niKind n = 1 ∧ p.ty = 5 ∧ p.addr ≠ 0 then timedSent p d
  else d

/-! The window. -/

/-- Fabric address of a window offset (R324). -/
def windowAddr (w o : Nat) : Nat := bitsOf w 47 26 * 0x4000000 + o

/-- Whether a window access is refused (R324). -/
def windowRefused (d : Dev) (f a n : Nat) : Bool :=
  !bitOf (d.fn f).window 0 || inOutbound a || !inRanges d.fcfg f a n

/-- A refusal is counted and recorded (R324). -/
def refuseWindow (f a : Nat) (d : Dev) : Dev :=
  (d.upFn f fun x => { x with refused := inc32 x.refused, refusedAddr := a % 2 ^ 48 }).raise 0x8B (hpOf f) f

/-- A read that fails: all ones, or Completer Abort (R324, R325). -/
def failRead (n : Nat) (d : Dev) : Dev :=
  if d.fcfg.nat 0x2801 3 = 1 then completeRead 1 false [] d
  else completeRead 0 false (List.replicate n (BitVec.ofNat 8 255)) d

/-- Whether the HP NI reads exactly the requested bytes of an address and keeps nothing (R108, R327). -/
def exactRead (a : Nat) : Bool := decide (a < 0x40000000) || (niBlock a).isSome || (unitBlock a).isSome

/-- Whether a block may not be read ahead (R108). -/
def noReadAhead (a : Nat) : Bool := exactRead a || inQctx a || inOutbound a

/-- The 256-byte blocks that a read covers. -/
def blocksOf (a n : Nat) : List Nat := (span (a / 256) ((a + n + 255) / 256)).map (· * 256)

/-- The line of a block. -/
def Fn.line (x : Fn) (b : Nat) : Option WinLine := x.lines.find? fun l => l.addr == b

/-- A block is kept in a line of function `f`, replacing the least recently used of 16 (R327). -/
def keepLine (f : Nat) (l : WinLine) (d : Dev) : Dev :=
  d.upFn f fun x =>
    let rest := x.lines.filter fun y => y.addr != l.addr
    { x with lines := (if 16 ≤ rest.length then rest.drop 1 else rest) ++ [l] }

/-- A line that serves a read becomes the most recently used. -/
def useLine (f b : Nat) (d : Dev) : Dev :=
  match (d.fn f).line b with
  | some l => d.upFn f fun x => { x with lines := (x.lines.filter fun y => y.addr != b) ++ [l] }
  | none => d

/-- Lines of function `f` that overlap a span are emptied, and a block of it that is being read is not kept (R328). -/
def dropWinLines (f a n : Nat) (d : Dev) : Dev :=
  let d1 := d.upFn f fun x => { x with lines := x.lines.filter fun l => !overlaps l.addr 256 a n }
  { d1 with host := { d1.host with inbound := d1.host.inbound.map fun r =>
      if (r.f == f && r.blocks.any fun b => overlaps b.1 b.2 a n) then { r with keep := false } else r } }

/-- Every line of function `f` is emptied (R328). -/
def dropAllLines (f : Nat) (d : Dev) : Dev :=
  let d1 := d.upFn f fun x => { x with lines := [] }
  { d1 with host := { d1.host with inbound := d1.host.inbound.map fun r => if r.f = f then { r with keep := false } else r } }

/-- End of the fetch ahead of a read (R327): the depth, the window position and the memory range that covers it. -/
def aheadEnd (d : Dev) (f a n : Nat) : Nat :=
  let w := min (a + n + d.fcfg.nat 0x2802 1) (bitsOf (d.fn f).window 47 26 * 0x4000000 + 0x4000000)
  if f = 0 then w
  else match (rangesOf d.fcfg f).find? fun e => decide (e.1 ≤ a ∧ a + n ≤ e.2 + 1) with
    | some e => min w (e.2 + 1)
    | none => w

/-- The blocks fetched ahead of a read. -/
def aheadBlocks (d : Dev) (f a n : Nat) : List Nat :=
  let first := (a + n + 255) / 256
  ((span first (first + 17)).map (· * 256)).filter fun b =>
    decide (b + 256 ≤ aheadEnd d f a n) && !noReadAhead b && ((d.fn f).line b).isNone

/-- An inbound read whose blocks are all answered is completed (R325): the first status in address order that is not OK
decides. -/
def finishRead (r : InRead) (d : Dev) : Dev :=
  let ans := r.blocks.map fun b => r.got.get (1, []) b.1
  let first := (r.blocks.head?.map (·.1)).getD r.addr
  let bs := padTo r.len ((ans.foldl (fun acc a => acc ++ a.2) []).drop (r.addr - first))
  let e := { d with host := { d.host with inbound := d.host.inbound.filter fun x => x.key != r.key } }
  if r.reply = false then e
  else match (ans.map (·.1)).find? (· != 0) with
    | none => completeRead 0 false bs e
    | some st => if st = 6 then completeRead 0 true bs e else failRead r.len e

/-- The HP NI takes one answer: a sound block that may be kept fills a line (R327), and a read whose last block it is ends. -/
def takeAnswer (a : Delivered) (d : Dev) : Dev :=
  match d.host.inbound.find? fun r => r.key == a.req.code with
  | none => d
  | some r =>
    let r1 := { r with got := r.got.set a.req.addr (a.status, a.data) }
    let d1 := { d with host := { d.host with inbound := d.host.inbound.map fun x => if x.key = r.key then r1 else x } }
    let d2 := if r.keep = true ∧ a.status = 0 then keepLine r.f ⟨a.req.addr, a.data⟩ d1 else d1
    if r1.blocks.all fun b => r1.got.has b.1 then finishRead r1 d2 else d2

/-- Placement flush reads whose marks are all answered complete with zeros, in their order (R336). -/
def finishFlushes : List (Nat × Nat) → Dev → Dev
  | [], d => d
  | e :: t, d =>
    match marksDone d 40 e.1 with
    | none => d
    | some _ =>
      finishFlushes t (completeRead 0 false (List.replicate e.2 (byte 0))
        { dropMarks 40 e.1 d with host := { d.host with flushReads := d.host.flushReads.filter fun x => x != e } })

/-- HP NI `h` takes the answers that have reached it. -/
def hostTake (h : Nat) (d : Dev) : Dev :=
  if niKind h = 3 then
    let l := (d.ni h).answers
    let d1 := Dev.fold l takeAnswer (d.upNi h fun x => { x with answers := [] })
    finishFlushes d1.host.flushReads d1
  else d

/-- The requests of a read of function `f` are presented at its HP NI under one key (R325); what its tags and quota do not allow
yet waits there (R179). -/
def issueRead (f a n : Nat) (blocks : List (Nat × Nat)) (reply keep : Bool) (d : Dev) : Dev :=
  let h := hpOf f
  let k := d.host.nextKey
  let r : InRead := { key := k, f := f, addr := a, len := n, blocks := blocks, reply := reply, keep := keep }
  present h (blocks.map fun b => {
      pkt := { dest := 0, src := h, ty := 0, cls := d.fcfg.nat 0x2801 1, part := f, addr := b.1, size := b.2, code := k }
      kind := .request })
    { d with host := { d.host with nextKey := k + 1, inbound := d.host.inbound ++ [r] } }

/-- What a window read that continues the previous one fetches ahead (R327). -/
def fetchAhead (f a n : Nat) (d : Dev) : Dev :=
  match aheadBlocks d f a n with
  | [] => d
  | b :: t => issueRead f b 0 ((b :: t).map fun x => (x, 256)) false true d

/-- A window read under R327: from the lines, or from the fabric. -/
def windowServe (f a n : Nat) (d : Dev) : Dev :=
  let h := hpOf f
  let on := d.fcfg.nat (0x2820 + f) 1 == 1 && !exactRead a
  let goesOn := on && (d.fn f).prevEnd == some a
  let bl := blocksOf a n
  let hit := on && bl.all fun b => ((d.fn f).line b).isSome
  let seen (e : Dev) : Dev := (e.countHp h 1).upFn f fun x => { x with prevEnd := some (a + n) }
  if hit then
    let bs := bl.foldl (fun acc b => acc ++ (((d.fn f).line b).map (·.data)).getD []) []
    let d1 := completeRead 0 false (Bytes.slice bs (a % 256) n) (Dev.fold bl (useLine f) ((seen d).countHp h 2))
    hostTake h (d1.when goesOn (fetchAhead f a n))
  else
    let blocks := if exactRead a then splitBlocks 17 a n else bl.map fun b => (b, 256)
    hostTake h ((issueRead f a n blocks true (on && goesOn) (seen d)).when goesOn (fetchAhead f a n))

/-- NI_INJECT at any NI (R155): what the injected message does for its sender follows, and an HP NI takes what its NI answered
itself. -/
def injectCycle (n : Nat) (err : MemErr) (d : Dev) : Dev :=
  let e := beforeInject n d
  let d1 := niCycle n err e
  hostTake n (match nextHead e n with
    | some o => if o.kind = .message then messageSent o.pkt d1 else d1
    | none => d1)

/-- RESPONSE_ARRIVAL; an HP NI takes the answer (R181, R325, R336). -/
def responseTaken (n vc : Nat) (err : MemErr) (d : Dev) : Dev := hostTake n (responseArrival n vc err d)

/-- RESPONSE_TIMEOUT; an HP NI takes the answer (R193, R325). -/
def responseGivenUp (n tag : Nat) (d : Dev) : Dev := hostTake n (responseTimeout n tag d)

/-- What SECDED finds in the prefetch store: an uncorrectable line is dropped and its read misses (R345). -/
def lineError (f a n : Nat) (err : MemErr) (d : Dev) : Dev :=
  if ((d.fn f).lines.any fun l => overlaps l.addr 256 a n) then
    match err with
    | .none => d
    | .corrected => d.raise 0x82 (hpOf f) f
    | .uncorrectable => dropWinLines f a n (d.raise 0x83 (hpOf f) f)
  else d

/-- WINDOW_READ: a BAR2 read of function `f` (R324 to R327). A read of a fenced partition is held back (R195). -/
def windowRead (f offset len : Nat) (err : MemErr) (d : Dev) : Dev :=
  match d.door f 2 with
  | .absent => d
  | .closed => completeUr f d
  | .serve =>
    let a := windowAddr (d.fn f).window offset
    if unitAdmits d (hpOf f) f = false then d
    else if windowRefused d f a len then failRead len (refuseWindow f a d)
    else windowServe f a len (lineError f a len err d)

/-- WINDOW_WRITE: a BAR2 write of function `f` (R324, R328). What its NI cannot take yet waits there (R176). -/
def windowWrite (f offset : Nat) (data : Bytes) (poisoned : Bool) (d : Dev) : Dev :=
  let a := windowAddr (d.fn f).window offset
  if d.door f 2 ≠ .serve ∨ unitAdmits d (hpOf f) f = false then d
  else if poisoned then d.raise 0x8D (hpOf f) f
  else if windowRefused d f a data.length then refuseWindow f a d
  else unitPostedWrite (hpOf f) f (d.fcfg.nat 0x2801 1) a data (dropWinLines f a data.length d)

/-- WINDOW_BASE_WRITE: only a 64-bit write with bits [25:1] and [63:48] at 0 is accepted (R322); other widths are
discarded, a 32-bit one with 0x8B. -/
def windowBaseWrite (f : Nat) (data : Bytes) (poisoned : Bool) (d : Dev) : Dev :=
  let v := data.toNat
  if d.door f 0 ≠ .serve then d
  else if poisoned then d.raise 0x8D (hpOf f) f
  else if data.length = 8 ∧ bitsOf v 25 1 = 0 ∧ bitsOf v 63 48 = 0 then d.upFn f fun x => { x with window := v }
  else if data.length = 8 ∨ data.length = 4 then d.raise 0x8B (hpOf f) f
  else d

/-- PC_CLR (R321). -/
def pcClr (f value : Nat) (poisoned : Bool) (d : Dev) : Dev :=
  if d.door f 0 ≠ .serve then d
  else if poisoned then d.raise 0x8D (hpOf f) f
  else if bitOf value 0 then d.upFn f fun x => { x with refused := 0, refusedAddr := 0 }
  else d

/-- PREFETCH_LINE_EXPIRY: the line of a block has exceeded its lifetime (R328). -/
def prefetchLineExpiry (f addr : Nat) (d : Dev) : Dev :=
  d.upFn f fun x => { x with lines := x.lines.filter fun l => l.addr != addr }

/-- FLUSH_HP: the front FLUSH message of an HP NI: the partition's combined writes are issued, its overlapping lines
emptied, and the answer is a fenced message to MQ 2 of the SE (R299). -/
def flushHp (h : Nat) (d : Dev) : Dev :=
  match d.mqFront h 1 with
  | some m =>
    if m.code = 0x0002 then
      let p := (m.data.le 11 1) % 16
      let d1 := closeWcb h (fun e => e.pkt.part == p) (mqTake h 1 d)
      let d2 := if hpOf p = h then dropWinLines p (m.data.le 0 6) (m.data.le 6 5) d1 else d1
      startFenced (messagePkt h p 2 m.src 2 0x0003 (m.data.slice 12 2)) none d2
    else d
  | none => d

/-! Placement. -/

/-- Slot size in bytes: aperture / 4,096 (R331). -/
def Dev.slotSize (d : Dev) : Nat := d.host.aperture * 262144

/-- The object of a registered region in the FCLK shadow (R344, R567). -/
def Dev.region (d : Dev) (n sub : Nat) : Nat := d.fcfg.nat (0x3000 + n) sub

/-- The status of a requester's most recent admission write (R333). -/
def noteAdmission (rid n : Nat) (refused : Bool) (d : Dev) : Dev :=
  { d with host := { d.host with admStatus := d.host.admStatus.set rid { region := n, refused := refused } } }

/-- A refused admission write (R332). -/
def refuseAdmission (rid n : Nat) (d : Dev) : Dev := (noteAdmission rid n true d).raise 0x91 40 0

/-- Whether HP0 admits requester `rid` for region `n` with a key (R332). -/
def mayAdmit (d : Dev) (rid n key : Nat) : Bool :=
  bitOf (d.region n 5) 0 && Nat.land (Nat.xor rid (d.region n 6)) (d.region n 7) == 0 && key == d.region n 2

/-- A write to the admission port at an offset from its base (R332). -/
def portWrite (rid offset : Nat) (data : Bytes) (d : Dev) : Dev :=
  let v := data.toNat
  if data.length = 8 ∧ offset = 0 then
    let n := bitsOf v 43 32
    if bitsOf v 62 44 ≠ 0 then refuseAdmission rid n d
    else if bitOf v 63 = false then
      noteAdmission rid n false { d with host := { d.host with admissions := d.host.admissions.filter fun e => e != (rid, n) } }
    else if mayAdmit d rid n (bitsOf v 31 0) = false then refuseAdmission rid n d
    else if d.host.admissions.contains (rid, n) then noteAdmission rid n false d
    else if 256 ≤ d.host.admissions.length then refuseAdmission rid n d
    else noteAdmission rid n false { d with host := { d.host with admissions := d.host.admissions ++ [(rid, n)] } }
  else if data.length = 4 ∧ offset % 4 = 0 then refuseAdmission rid (if offset = 4 then bitsOf v 11 0 else 0) d
  else d

/-- A write to the admission port as PF0's BAR0 takes it (R89, R345). -/
def portDoor (rid offset : Nat) (data : Bytes) (poisoned : Bool) (d : Dev) : Dev :=
  if d.door 0 0 ≠ .serve ∨ d.boot.safeHarbour = true then d
  else if poisoned then d.raise 0x8D 40 0
  else portWrite rid offset data d

/-- ADMISSION (R332). -/
def admission (rid offset : Nat) (data : Bytes) (poisoned : Bool) (d : Dev) : Dev := portDoor rid offset data poisoned d

/-- REVOKE (R332). -/
def revoke (rid : Nat) (data : Bytes) (poisoned : Bool) (d : Dev) : Dev := portDoor rid 0 data poisoned d

/-- The status word of R333. -/
def admissionStatus (d : Dev) (rid : Nat) : Nat :=
  match d.host.admStatus.find? rid with
  | none => 0
  | some a => a.region * 2 ^ 32 + b2n a.refused * 2 ^ 62 + b2n (d.host.admissions.contains (rid, a.region)) * 2 ^ 63

/-- ADMISSION_STATUS_READ (R333); another size or alignment reads 0 (R321), as does the port in safe harbour (R89). -/
def admissionStatusRead (rid offset len : Nat) (d : Dev) : Dev :=
  match d.door 0 0 with
  | .absent => d
  | .closed => completeUr 0 d
  | .serve =>
    if regAligned offset len = true ∧ d.boot.safeHarbour = false then
      completeRead 0 false ((leBytes 8 (admissionStatus d rid)).slice offset len) d
    else completeRead 0 false (List.replicate len (byte 0)) d

/-- A region's dropped write is counted (R335, R344). -/
def countRegionDrop (n : Nat) (d : Dev) : Dev :=
  { d with host := { d.host with regionDrops := d.host.regionDrops.modify 0 n inc32 } }

/-- A placement write is dropped whole (R335, R348). -/
def dropPlacement (rid n o reason : Nat) (d : Dev) : Dev :=
  let d1 := countRegionDrop n d
  let last : Tbl Nat := [(1, rid), (2, n), (3, o), (4, reason)]
  let d2 := { d1 with host := { d1.host with dropped := inc32 d1.host.dropped, lastDrop := last } }
  d2.when (reason != 0) (Dev.raise 0x8A 40 (d.region n 1))

/-- Whether the owner of a region takes its writes: RUNNING or RELEASING (R335). -/
def ownerTakes (d : Dev) (p : Nat) : Bool := (d.part p).state == 0 || (d.part p).state == 5

/-- The check that a BAR4 write fails first: a reason of R335, 0 for a fenced owner; none passes. -/
def placementFault (d : Dev) (rid x len : Nat) (poisoned : Bool) : Option Nat :=
  let slot := max 1 d.slotSize
  let n := x / slot
  let o := x % slot
  let owner := d.region n 1
  let a := d.region n 3 + o
  if slot < o + len then some 1
  else if bitOf (d.region n 5) 0 = false then some 2
  else if ownerTakes d owner = false then some 0
  else if d.host.admissions.contains (rid, n) = false then some 3
  else if d.region n 4 < o + len then some 4
  else if inRanges d.fcfg owner a len = false then some 5
  else if poisoned then some 6
  else none

/-- The destinations and classes of a placement write that leaves HP0. -/
def notePlaced (cls a n : Nat) (d : Dev) : Dev :=
  Dev.fold (splitBlocks 17 a n) (fun b e => match e.decodeAddr 40 b.1 with
    | some t => if t = 40 then e else { e with host := { e.host with placedTo := e.host.placedTo.set (fenceKey 0 t cls) true } }
    | none => e) d

/-- PLACEMENT_WRITE: a BAR4 write TLP is checked as a whole and issued, or dropped (R335). What the NI cannot take yet
waits there (R176). -/
def placementWrite (rid offset : Nat) (data : Bytes) (poisoned : Bool) (d : Dev) : Dev :=
  let slot := max 1 d.slotSize
  let n := offset / slot
  if d.door 0 4 ≠ .serve ∨ 4096 ≤ n then d
  else
    match placementFault d rid offset data.length poisoned with
    | some r => dropPlacement rid n (offset % slot) r d
    | none =>
      let p := d.region n 1
      let cls := d.fcfg.nat 0x2801 2
      let a := d.region n 3 + offset % slot
      unitPostedWrite 40 p cls a data
        (notePlaced cls a data.length { d with host := { d.host with placed := inc32 d.host.placed } })

/-- A flush read is begun: HP0 sends a mark to every destination and class that placement writes have gone to since the
last one, behind those writes (R336, R189). -/
def startFlushRead (len : Nat) (d : Dev) : Dev :=
  let k := d.host.nextKey
  let dests : Bytes := (d.host.placedTo.map fun e => [byte (e.1 % 1024 / 4), byte (e.1 % 4)]).flatten
  askMarks 40 0 k 0 dests { d with host := { d.host with
    nextKey := k + 1, placedTo := [], flushReads := d.host.flushReads ++ [(k, len)] } }

/-- PLACEMENT_FLUSH_READ: answered with zeros once every earlier BAR4 write has been performed (R336). -/
def placementFlushRead (_rid offset len : Nat) (d : Dev) : Dev :=
  match d.door 0 4 with
  | .absent => d
  | .closed => completeUr 0 d
  | .serve => if d.slotSize * 4096 ≤ offset then d else hostTake 40 (startFlushRead len d)

/-- Admissions of the regions that `gone` names are removed (R334). -/
def dropAdmissions (gone : Nat → Bool) (d : Dev) : Dev :=
  { d with host := { d.host with admissions := d.host.admissions.filter fun e => !gone e.2 } }

/-- CLEAR_ADMISSIONS' effect (R334). -/
def clearAllAdmissions (d : Dev) : Dev := dropAdmissions (fun _ => true) d

/-- Admissions at the flip from `old` to `new` (R334). -/
def admissionsAtFlip (old new : Cfg) (d : Dev) : Dev :=
  dropAdmissions (fun n => [1, 2, 6, 7].any fun s => old.find? (okey (0x3000 + n) s) != new.find? (okey (0x3000 + n) s)) d

/-- Prefetch lines at the FCLK apply edge from `old` to `new` (R328). -/
def linesAtApply (old new : Cfg) (d : Dev) : Dev :=
  let all := cfgDiffers old new 0x2802 0x2802
  Dev.fold (List.range 16) (fun f e =>
    if all = true ∨ cfgDiffers old new (0x2820 + f) (0x2820 + f) = true then dropAllLines f e else e) d

/-- CLEAR_HOST_COUNTERS' effect: 0x2840 to 0x2851 (R343). -/
def clearHostCounts (d : Dev) : Dev :=
  { d with host := { d.host with counts := [], placed := 0, dropped := 0, lastDrop := [] } }

/-! Outbound requests. -/

/-- The least endpoint tag not in use. -/
def freeOutTag (d : Dev) : Option Nat := (List.range 768).find? fun t => !(d.host.reads.any fun r => r.tag == t)

/-- OUTBOUND_REQUEST: the front request for the outbound range at HP NI `h` is issued on PCIe or refused (R338, R339). -/
def outboundRequest (h vc : Nat) (d : Dev) : Dev :=
  match d.front h vc with
  | some (q, bad) =>
    if elsewhere h q = false ∨ ¬ (q.ty ≤ 2) then d
    else if q.ty = 1 then
      if bad then discardAt h 0x4B q.part (popEj h vc d) else outboundWrite h q.part q.addr q.data (popEj h vc d)
    else if bad then respond h q 6 [] (popEj h vc d)
    else if linkDown d then respond h q 1 [] (popEj h vc d)
    else if outboundRefused d q.part then respond h q 1 [] ((popEj h vc d).raise 0x8F h q.part)
    else if q.ty = 2 then respond h q 0 [] (handOver q.part (pcieAddr d q.addr) q.data (popEj h vc d))
    else match freeOutTag d with
      | none => d
      | some t =>
        let e := popEj h vc d
        { e with host := { e.host with reads := e.host.reads ++ [{ tag := t, hp := h, req := q }] } }
  | none => d

/-- An outbound read leaves its tag. -/
def endOutRead (tag : Nat) (d : Dev) : Dev :=
  { d with host := { d.host with reads := d.host.reads.filter fun r => r.tag != tag } }

/-- OUTBOUND_COMPLETION (R339). -/
def outboundCompletion (tag : Nat) (cpl : PcieCpl) (d : Dev) : Dev :=
  match d.host.reads.find? fun r => r.tag == tag with
  | none => d
  | some r =>
    let e := endOutRead tag d
    match cpl with
    | .data bs => if bs.length = r.req.size then respond r.hp r.req 0 bs e else respond r.hp r.req 1 [] e
    | .poisoned bs => respond r.hp r.req 6 (padTo r.req.size bs) e
    | .failed => respond r.hp r.req 1 [] e

/-- OUTBOUND_COMPLETION_TIMEOUT (R339). -/
def outboundCompletionTimeout (tag : Nat) (d : Dev) : Dev :=
  match d.host.reads.find? fun r => r.tag == tag with
  | none => d
  | some r => (respond r.hp r.req 1 [] ((endOutRead tag d).countHp r.hp 5)).raise 0x8E r.hp r.req.part

/-- At DL_Down every outbound read that awaits a completion is answered TGTERR (R264). -/
def dropOutReads (d : Dev) : Dev := Dev.fold d.host.reads (fun r e => respond r.hp r.req 1 [] (endOutRead r.tag e)) d

/-! MSI-X. -/

/-- MSI-X table size of a function. -/
def msixSize (f : Nat) : Nat := if f = 0 then 2048 else 256

/-- The write of vector `v` of function `f` is sent by HP NI `h` (R340). -/
def sendMsix (h f v : Nat) (d : Dev) : Dev :=
  let e := (d.fn f).table.get {} v
  handOver f e.addr (leBytes 4 e.data) ((d.upFn f fun x => { x with table := x.table.set v { e with pending := false, box := false } }).countHp h 3)

/-- Whether vector `v` of function `f` is blocked (R340). -/
def msixBlocked (d : Dev) (f v : Nat) : Bool :=
  let x := d.fn f
  x.mask || bitOf (x.table.get {} v).ctl 0 || !x.bme

/-- An interrupt for vector `v` of function `f` at HP NI `h`; `quiet` for a message of source 0x90 itself (R340, R492), `box` for
a mailbox's. -/
def msix (h f v : Nat) (quiet : Bool) (d : Dev) (box : Bool := false) : Dev :=
  if d.fnExists f = false ∨ msixSize f ≤ v ∨ (d.fn f).msixEnable = false then
    (d.countHp h 4).when (!quiet) (Dev.raise 0x90 h f)
  else if msixBlocked d f v then
    d.upFn f fun x => { x with table := x.table.modify {} v fun e => { e with pending := true, box := e.box || box } }
  else sendMsix h f v d

/-- What SECDED finds in the MSI-X entry that an interrupt names: an uncorrectable one masks its vector (R345). -/
def msixError (f v : Nat) (err : MemErr) (d : Dev) : Dev :=
  if d.fnExists f = true ∧ v < msixSize f then
    match err with
    | .none => d
    | .corrected => d.raise 0x84 (hpOf f) f
    | .uncorrectable =>
      (d.upFn f fun x => { x with table := x.table.modify {} v fun e => { e with ctl := setBit e.ctl 0 true } }).raise 0x85 (hpOf f) f
  else d

/-- MSIX_REQUEST: the front interrupt MESSAGE of HP NI `h`; `err` is what SECDED finds in the entry that it names (R340). One of a fenced partition that has reached its queue is refused like one that arrives (R255). -/
def msixRequest (h : Nat) (err : MemErr) (d : Dev) : Dev :=
  match d.mqFront h 0 with
  | some m =>
    if m.code = 0x0010 then
      let f := m.data.le 2 1
      let v := m.data.le 0 2
      if fenceApplies d h m then discardAt h 0x4A m.part (mqTake h 0 d)
      else msix h f v (m.data.length == 6 && m.data.le 5 1 == 0x90) (msixError f v err (mqTake h 0 d))
    else d
  | none => d

/-- The pending vectors of function `f` that are no longer blocked are sent in ascending order (R340); while its partition is
fenced only those of its mailbox are (R255). -/
def sendPending (f : Nat) (d : Dev) : Dev :=
  if d.fnExists f = true ∧ (d.fn f).msixEnable = true then
    Dev.fold ((d.fn f).table.filter fun e => e.2.pending && !msixBlocked d f e.1 && (e.2.box || !d.fenceBit f)) (fun e y => sendMsix (hpOf f) f e.1 y) d
  else d

/-- The block of R340 that ends is lifted. -/
def unblock (f : Nat) : Unblock → Dev → Dev
  | .vector v, d =>
    if v < msixSize f then d.upFn f fun x => { x with table := x.table.modify {} v fun e => { e with ctl := setBit e.ctl 0 false } } else d
  | .functionMask, d => d.upFn f fun x => { x with mask := false }
  | .busMaster, d => d.upFn f fun x => { x with bme := true }
  | .msixEnable, d => d.upFn f fun x => { x with msixEnable := true }

/-- MSIX_UNMASK: a block of function `f` ends and its pending MSI-X are sent (R340). -/
def msixUnmask (f : Nat) (what : Unblock) (d : Dev) : Dev :=
  let shut : Bool := match what with
    | .vector _ => d.door f 0 != .serve
    | _ => !(d.fnExists f) || (d.fn f).flr
  if shut then d else sendPending f (unblock f what d)

/-- A 32-bit word of the MSI-X table is written: `o` is its offset in the table. -/
def msixWriteWord (f o w : Nat) (d : Dev) : Dev :=
  let v := o / 16
  if v < msixSize f then
    d.upFn f fun x => { x with table := x.table.modify {} v fun e =>
      if o % 16 = 0 then { e with addr := e.addr / 2 ^ 32 * 2 ^ 32 + w }
      else if o % 16 = 4 then { e with addr := e.addr % 2 ^ 32 + w * 2 ^ 32 }
      else if o % 16 = 8 then { e with data := w }
      else { e with ctl := w } }
  else d

/-- A word of the MSI-X table. -/
def msixReadWord (d : Dev) (f o : Nat) : Nat :=
  let e := (d.fn f).table.get {} (o / 16)
  if msixSize f ≤ o / 16 then 0
  else if o % 16 = 0 then e.addr % 2 ^ 32
  else if o % 16 = 4 then e.addr / 2 ^ 32
  else if o % 16 = 8 then e.data
  else e.ctl

/-- The 32 pending bits of a word of the PBA. -/
def pbaWord (d : Dev) (f o : Nat) : Nat :=
  (List.range 32).foldl (fun a i => a + b2n ((d.fn f).table.get {} (8 * o + i)).pending * 2 ^ i) 0

/-- A 64-bit register of the partition control block (R321). -/
def pcRead (d : Dev) (f o : Nat) : Nat :=
  let x := d.fn f
  if o = 0 then f + 16 * (d.part f).state + 256 * hpOf f
  else if o = 8 then x.window
  else if o = 0x10 then x.refused
  else if o = 0x18 then x.refusedAddr
  else if o = 0x20 then d.domVersion 4
  else 0

/-! Resets. -/

/-- The inbound reads of function `f` that HP NI `hpOf f` abandons: they complete as failed, or are discarded where an
FLR runs (R254, R342). -/
def abandonReads (f : Nat) (d : Dev) : Dev :=
  let mine := d.host.inbound.filter fun r => r.f == f
  let d1 := { d with host := { d.host with inbound := d.host.inbound.filter fun r => r.f != f } }
  if (d.fn f).flr then d1
  else Dev.fold (mine.filter (·.reply)) (fun r e => failRead r.len e) d1

/-- A forced drain at the HP NIs: what they were answered is taken, and the rest of the partition's reads abandoned
(R254). -/
def hostForceDrain (p : Nat) (d : Dev) : Dev := abandonReads p (Dev.fold [40, 41, 42, 43] hostTake d)

/-- The partition reset of `p` at the endpoint (R323, R328, R334, R342). -/
def partResetHost (p : Nat) (d : Dev) : Dev :=
  let d1 := { d with host := { d.host with inbound := d.host.inbound.filter fun r => r.f != p } }
  dropAdmissions (fun n => d.region n 1 == p) (d1.upFn p fun x => { x with
    window := 0, refused := 0, refusedAddr := 0, table := [], lines := [], prevEnd := none })

/-- Link-loss reset at the endpoint: every function at its reset values, every admission gone (R341). -/
def linkLossHost (d : Dev) : Dev :=
  { d with host := { d.host with
      fn := [], vfEnable := false, numVfs := 0, bells := [], stuck := [], admissions := [], admStatus := [], reads := []
      inbound := [], flushReads := [], placedTo := [] } }

/-- Aperture and identity are latched from the HCLK shadow at a fundamental reset (R320, R331). -/
def latchHost (d : Dev) : Dev :=
  let c := d.shadow 4
  { d with host := { d.host with
      aperture := c.nat 0x2805 1
      ids := [(4, c.nat 0x2810 4), (5, c.nat 0x2810 5), (6, c.nat 0x2810 6)] } }

/-- The endpoint after power-on, PERST_N or chip reset (R346); what is latched stays for `latchHost`. -/
def resetHost (d : Dev) : Dev := { d with host := { aperture := d.host.aperture, ids := d.host.ids } }

/-! Meanings. -/

/-- RESPONSE_ARRIVAL: A response reaches the initiator NI and is delivered, reissued on RETRY, or discarded as late (R181). -/
def execResponseArrival (n : Nat) (vc : Nat) (err : MemErr) (s : State) : Host.Outcome State Fault Refusal :=
  actFclk (wfResponseArrival n vc err) (responseTaken n vc err) s

/-- RESPONSE_TIMEOUT: A tag's response timeout expires; the request completes TGTERR and the tag is quarantined (R193). -/
def execResponseTimeout (n : Nat) (tag : Nat) (s : State) : Host.Outcome State Fault Refusal :=
  actFclk (wfResponseTimeout n tag) (responseGivenUp n tag) s

/-- FENCED_MESSAGE_INJECT: All marks of a fenced message are answered, and the message becomes eligible carrying MSTAT (R190). -/
def execFencedMessageInject (n : Nat) (s : State) : Host.Outcome State Fault Refusal :=
  actFclk (wfFencedMessageInject n) (fencedMessageInject n) s

/-- DOORBELL: A doorbell write reaches an HP NI, is checked and enters the coalescing store (R289). -/
def execDoorbell (f : Nat) (value : Nat) (full : Bool) (poisoned : Bool) (s : State) : Host.Outcome State Fault Refusal :=
  act (wfDoorbell f value full poisoned) (doorbell f value full poisoned) s

/-- DOORBELL_NOTICE_SEND: The HP NI sends a pending doorbell entry as a fenced notice to the queue's SE (R291). -/
def execDoorbellNoticeSend (h : Nat) (s : State) : Host.Outcome State Fault Refusal :=
  actFclk (wfDoorbellNoticeSend h) (doorbellNoticeSend h) s

/-- FLUSH_HP: An HP NI receives a FLUSH message, issues the partition's combined writes, empties overlapping lines and answers fenced (R299). -/
def execFlushHp (h : Nat) (s : State) : Host.Outcome State Fault Refusal :=
  actFclk (wfFlushHp h) (flushHp h) s

/-- WINDOW_READ: A BAR2 read is translated and checked, then issued, served from prefetch, or refused (R324). -/
def execWindowRead (f : Nat) (offset : Nat) (len : Nat) (err : MemErr) (s : State) : Host.Outcome State Fault Refusal :=
  act (wfWindowRead f offset len err) (windowRead f offset len err) s

/-- WINDOW_WRITE: A BAR2 write is translated, checked and issued, or discarded (R324). -/
def execWindowWrite (f : Nat) (offset : Nat) (data : Bytes) (poisoned : Bool) (s : State) : Host.Outcome State Fault Refusal :=
  act (wfWindowWrite f offset data poisoned) (windowWrite f offset data poisoned) s

/-- WINDOW_BASE_WRITE: A 64-bit write of WINDOW_BASE moves the window, or is discarded and raises 0x8B (R322). -/
def execWindowBaseWrite (f : Nat) (data : Bytes) (poisoned : Bool) (s : State) : Host.Outcome State Fault Refusal :=
  act (wfWindowBaseWrite f data poisoned) (windowBaseWrite f data poisoned) s

/-- PC_CLR: A write of PC_CLR clears WIN_REFUSED and WIN_REFUSED_ADDR (R321). -/
def execPcClr (f : Nat) (value : Nat) (poisoned : Bool) (s : State) : Host.Outcome State Fault Refusal :=
  act (wfPcClr f value poisoned) (pcClr f value poisoned) s

/-- PREFETCH_LINE_EXPIRY: A window prefetch line exceeds its lifetime and is emptied (R328). -/
def execPrefetchLineExpiry (f : Nat) (addr : Nat) (s : State) : Host.Outcome State Fault Refusal :=
  act (wfPrefetchLineExpiry f addr) (prefetchLineExpiry f addr) s

/-- ADMISSION: An admission write with OP = 1 admits a requester for a region, or is refused (R332). -/
def execAdmission (rid : Nat) (offset : Nat) (data : Bytes) (poisoned : Bool) (s : State) : Host.Outcome State Fault Refusal :=
  act (wfAdmission rid offset data poisoned) (admission rid offset data poisoned) s

/-- REVOKE: An admission write with OP = 0 removes the requester-region pair (R332). -/
def execRevoke (rid : Nat) (data : Bytes) (poisoned : Bool) (s : State) : Host.Outcome State Fault Refusal :=
  act (wfRevoke rid data poisoned) (revoke rid data poisoned) s

/-- ADMISSION_STATUS_READ: A read of the admission port returns the status of the requester's last admission write (R333). -/
def execAdmissionStatusRead (rid : Nat) (offset : Nat) (len : Nat) (s : State) : Host.Outcome State Fault Refusal :=
  act (wfAdmissionStatusRead rid offset len) (admissionStatusRead rid offset len) s

/-- PLACEMENT_WRITE: A BAR4 write TLP is checked as a whole and issued as posted WRITEs, or dropped (R335). -/
def execPlacementWrite (rid : Nat) (offset : Nat) (data : Bytes) (poisoned : Bool) (s : State) : Host.Outcome State Fault Refusal :=
  act (wfPlacementWrite rid offset data poisoned) (placementWrite rid offset data poisoned) s

/-- PLACEMENT_FLUSH_READ: A BAR4 read is answered zero once every earlier BAR4 write has been performed (R336). -/
def execPlacementFlushRead (rid : Nat) (offset : Nat) (len : Nat) (s : State) : Host.Outcome State Fault Refusal :=
  act (wfPlacementFlushRead rid offset len) (placementFlushRead rid offset len) s

/-- OUTBOUND_REQUEST: An HP NI issues an outbound request on PCIe, or refuses it (R338). -/
def execOutboundRequest (h : Nat) (vc : Nat) (s : State) : Host.Outcome State Fault Refusal :=
  actFclk (wfOutboundRequest h vc) (outboundRequest h vc) s

/-- OUTBOUND_COMPLETION: A PCIe completion for an outbound read arrives and is answered to the fabric (R339). -/
def execOutboundCompletion (tag : Nat) (cpl : PcieCpl) (s : State) : Host.Outcome State Fault Refusal :=
  act (wfOutboundCompletion tag cpl) (outboundCompletion tag cpl) s

/-- OUTBOUND_COMPLETION_TIMEOUT: An outbound read times out, is answered TGTERR and raises 0x8E (R339). -/
def execOutboundCompletionTimeout (tag : Nat) (s : State) : Host.Outcome State Fault Refusal :=
  act (wfOutboundCompletionTimeout tag) (outboundCompletionTimeout tag) s

/-- MSIX_REQUEST: An interrupt MESSAGE at an HP NI sends, pends or drops an MSI-X (R340). -/
def execMsixRequest (h : Nat) (err : MemErr) (s : State) : Host.Outcome State Fault Refusal :=
  actFclk (wfMsixRequest h err) (msixRequest h err) s

/-- MSIX_UNMASK: A vector or function becomes unblocked and its pending MSI-X is sent (R340). -/
def execMsixUnmask (f : Nat) (what : Unblock) (s : State) : Host.Outcome State Fault Refusal :=
  act (wfMsixUnmask f what) (msixUnmask f what) s

/-- UNSUPPORTED_REQUEST: A locked read or atomic request is completed Unsupported Request and raises 0x8C (R318). -/
def execUnsupportedRequest (f : Nat) (s : State) : Host.Outcome State Fault Refusal :=
  act (wfUnsupportedRequest f) (unsupportedRequest f) s

end Sys2Proof.Machine
end

