-- ==== Sys2Proof/Machine/Converter.lean ====
section
/-! DEFINITION. Converter ports and stream queues (spec/13, R286, R300, R302, R305, R506): links and their locks, samples
in memory, records, triggers, playback, and the trace drain. Sample times are whole numbers of 2⁻¹⁶ ns since TAI 0. -/
namespace Sys2Proof.Machine

/-! Links and lanes. -/

/-- Link `k`. -/
def Dev.link (d : Dev) (k : Nat) : Link := d.conv.link.get {} k

/-- The device with `f` applied to link `k`. -/
def Dev.upLink (k : Nat) (f : Link → Link) (d : Dev) : Dev :=
  { d with conv := { d.conv with link := d.conv.link.modify {} k f } }

/-- Lane `l`. -/
def Dev.lane (d : Dev) (l : Nat) : Lane := d.conv.lane.get {} l

/-- The device with `f` applied to lane `l`. -/
def Dev.upLane (l : Nat) (f : Lane → Lane) (d : Dev) : Dev :=
  { d with conv := { d.conv with lane := d.conv.lane.modify {} l f } }

/-- A counter of link `k` (0x2A40 + k:13 to :17). -/
def Dev.countLink (k sub : Nat) (d : Dev) : Dev := d.upLink k fun x => { x with counts := x.counts.modify 0 sub inc32 }

/-- An object of link `k` as its CPs see it. -/
def Dev.linkObj (d : Dev) (k sub : Nat) : Nat := (d.dcfg k).nat (0x2A40 + k) sub

/-- Whether a direction of link `k` is enabled: 1 RX, 2 TX. -/
def linkOn (c : Cfg) (k dir : Nat) : Bool := c.nat (0x2A40 + k) dir == 1

/-- Whether link `k` is enabled in some direction. -/
def linkUsed (c : Cfg) (k : Nat) : Bool := linkOn c k 1 || linkOn c k 2

/-- The enabled link that uses lane `l`; none where no enabled link does. `c` gives the configuration that each link goes by. -/
def linkOfLane (c : Nat → Cfg) (l : Nat) : Option Nat :=
  (List.range 24).find? fun k => linkUsed (c k) k && decide (k ≤ l ∧ l < k + lanesOf (c k) k)

/-- Owner of link `k`. -/
def linkOwner (c : Cfg) (k : Nat) : Nat := c.nat 0x2650 (k + 1)

/-- Owner of lane `l` (R374). -/
def laneOwner (c : Nat → Cfg) (l : Nat) : Nat :=
  let k := (linkOfLane c l).getD l
  linkOwner (c k) k

/-- Extended multiblock in multiblocks, from F (R352). -/
def embOf (f : Nat) : Nat := if 256 % (max 1 f) = 0 then 1 else 3

/-- An event of source 0xA0 + l with its cause (R375). -/
def laneEvent (l cause : Nat) (inj : Bool) (d : Dev) : Dev :=
  (d.upLane l fun x => { x with cause := cause }).raise (0xA0 + l) 0xFF (laneOwner d.dcfg l) cause inj

/-- Lanes of link `k`. -/
def Dev.lanes (d : Dev) (k : Nat) : List Nat := span k (k + lanesOf (d.dcfg k) k)

/-- Whether the power domain of link `k` is on, so that its SerDes can lock (R355, R381). -/
def linkPowered (d : Dev) (k : Nat) : Bool :=
  (d.lanes k).all fun l => ((unitPd l).map fun p => (d.pds.get {} p).state != 0 && (d.pds.get {} p).state != 6) == some true

/-- Whether the CPs of link `k` are out of reset: its DCLK runs and has been captured in (R231). While they are held nothing
that they would see is counted (R243). -/
def linkRuns (d : Dev) (k : Nat) : Bool := (d.lanes k).all fun l => !d.held l

/-- Whether the CPs of link `k` take new work (R252, R266). -/
def linkUp (d : Dev) (k : Nat) : Bool := (d.lanes k).all fun l => d.unitUp l

/-- Sets the RX state of a link and of its lanes. -/
def setRx (k st : Nat) (d : Dev) : Dev :=
  Dev.fold (d.lanes k)
    (fun l e => e.upLane l fun x => { x with state := st, arrival := if st < 4 ∨ st = 6 then 0xFFFF else x.arrival })
    (d.upLink k fun x => { x with rx := st })

/-- Sets the TX state of a link. -/
def setTx (k st : Nat) (d : Dev) : Dev := d.upLink k fun x => { x with tx := st, out := if st = 5 then x.out else none }

/-- A link starts: PLL_LOCK where its power domain is on, else NO_POWER, for each enabled direction (R355). -/
def startLink (k : Nat) (d : Dev) : Dev :=
  let st := if linkPowered d k then 2 else 1
  let d1 := d.upLink k fun x => { x with pll := false, cdr := false, lemc := false, condRaised := false }
  let d2 := setRx k (if linkOn (d.dcfg k) k 1 then st else 0) d1
  setTx k (if linkOn (d.dcfg k) k 2 then st else 0) d2

/-- TX runs once the PLL has locked and a SYSREF edge has started the LEMC (R355, R356, R381). -/
def txRunIfReady (k : Nat) (d : Dev) : Dev :=
  let x := d.link k
  if x.pll = true ∧ x.lemc = true ∧ (x.tx = 2 ∨ x.tx = 6) then setTx k 5 d else d

/-- LINK_PLL_LOCKED: the SerDes PLL and the CDRs of link `k` have locked (R355). -/
def linkPllLocked (k : Nat) (d : Dev) : Dev :=
  let x := d.link k
  let starts (s : Nat) : Bool := s == 2 || s == 6
  if starts x.rx ∨ starts x.tx then
    let d1 := d.upLink k fun y => { y with pll := true, cdr := true }
    let d2 := if x.rx = 6 then setRx k 2 d1 else d1
    txRunIfReady k (if x.tx = 6 then setTx k 2 d2 else d2)
  else d

/-- LINK_LOCK_TIMEOUT: the PLL or a CDR has not locked within 10 ms (R355). -/
def linkLockTimeout (k : Nat) (d : Dev) : Dev :=
  let x := d.link k
  let d1 := if x.rx = 2 ∧ (x.pll && x.cdr) = false then setRx k 6 d else d
  if x.tx = 2 ∧ x.pll = false then setTx k 6 d1 else d1

/-- SYNC_HEADER_LOCK: every RX lane has locked its sync headers (R355). -/
def syncHeaderLock (k : Nat) (d : Dev) : Dev :=
  let x := d.link k
  if x.rx = 2 ∧ x.pll = true ∧ x.cdr = true ∧ linkRuns d k = true then setRx k 3 d else d

/-- The release condition of R358 over the arrivals that the lanes hold. -/
def releaseMet (d : Dev) (k : Nat) : Bool :=
  (d.lanes k).all fun l => decide ((d.lane l).arrival + 2 ≤ d.linkObj k 0xA)

/-- A link in EMB_LOCK runs if every lane meets the release condition; else cause 0x05 is raised once (R358). -/
def tryRelease (k : Nat) (d : Dev) : Dev :=
  if (d.link k).rx ≠ 4 then d
  else if releaseMet d k then setRx k 5 d
  else if (d.link k).condRaised then d
  else laneEvent k 5 false (d.upLink k fun x => { x with condRaised := true })

/-- EXTENDED_MULTIBLOCK_LOCK: every lane has locked; arrivals are measured from the LEMC (R358). -/
def extendedMultiblockLock (k : Nat) (arrivals : List Nat) (d : Dev) : Dev :=
  let x := d.link k
  if x.rx = 3 ∧ x.lemc = true ∧ linkRuns d k = true ∧ arrivals.length = lanesOf (d.dcfg k) k then
    let d1 := setRx k 4 (d.upLink k fun y => { y with condRaised := false })
    tryRelease k (Dev.fold arrivals.zipIdx (fun a e => e.upLane (k + a.2) fun y => { y with arrival := a.1 }) d1)
  else d

/-- LANE_LOCK_LOSS: lane `l` loses sync header lock (3), extended multiblock lock (4) or its CDR (7); its link retrains (R355,
R375, R376). -/
def laneLockLoss (l cause : Nat) (d : Dev) : Dev :=
  match linkOfLane d.dcfg l with
  | none => d
  | some k =>
    if (d.link k).rx < 2 ∨ (d.link k).rx = 6 ∨ linkRuns d k = false then d
    else
      let d1 := laneEvent l cause false (d.upLane l fun y => { y with losses := inc32 y.losses })
      if cause = 4 then setRx k 3 d1
      else if cause = 3 then setRx k 2 d1
      else setRx k 2 (d1.upLink k fun y => { y with cdr := false })

/-- The SerDes PLL of the link that uses lane `l` loses lock: both directions retrain from PLL_LOCK (R355, R375). The DCLK stops
with it (R230), which `pllLoss` adds. -/
def linkPllLoss (l k : Nat) (d : Dev) : Dev :=
  let d1 := (laneEvent l 7 false d).upLink k fun y => { y with pll := false, cdr := false }
  let back (s : Nat) : Bool := decide (2 ≤ s) && s != 6
  let d2 := if back (d.link k).rx then setRx k 2 d1 else d1
  if back (d.link k).tx then setTx k 2 d2 else d2

/-- SYSREF_EDGE_SAMPLED: the first edge starts the LEMC; a later one off the boundary records cause 0x06 and, where
0x2A40 + k:0C is 1, restarts the LEMC (R356, R357). -/
def sysrefEdgeSampled (k : Nat) (onBoundary : Bool) (d : Dev) : Dev :=
  if ((d.link k).rx < 2 ∧ (d.link k).tx < 2) ∨ linkRuns d k = false then d
  else if (d.link k).lemc = false then txRunIfReady k (d.upLink k fun x => { x with lemc := true })
  else if onBoundary then d
  else
    let d1 := laneEvent k 6 false d
    if d.linkObj k 0xC = 1 then d1.countLink k 0x17 else d1

/-! Samples in memory (R360). -/

/-- One converter sample as bytes, for N′ = 8, 16 and unpacked 12. -/
def sampleBytes (n w : Nat) : Bytes :=
  if n = 8 then [byte w] else if n = 16 then leBytes 2 w else leBytes 2 (w % 4096 * 16)

/-- Samples of N′ = 12 two to three bytes. -/
def pack12 : List Nat → Bytes
  | [] => []
  | [a] => [byte a, byte (a / 256 % 16)]
  | a :: b :: t => byte a :: byte (a / 256 % 16 + b % 16 * 16) :: byte (b / 16) :: pack12 t

/-- A frame in the memory layout. -/
def encodeFrame (n pack : Nat) (ws : List Nat) : Bytes :=
  if n = 12 ∧ pack = 1 then pack12 ws else (ws.map (sampleBytes n)).flatten

/-- A byte of playback; one whose read failed counts as missing. -/
abbrev PlayByte := Option Byte

/-- The sample of a string of playback bytes; `idle` where one is missing. -/
def decodeSample (n idle : Nat) (bs : List PlayByte) : Nat :=
  match bs.mapM id with
  | some l => let v := Bytes.toNat l
              if n = 12 then v / 16 % 4096 else v
  | none => idle

/-- Two packed 12-bit samples of three playback bytes. -/
def unpack12 (idle : Nat) : List PlayByte → List Nat
  | some a :: some b :: some c :: t =>
    (a.toNat + b.toNat % 16 * 256) :: (b.toNat / 16 + c.toNat * 16) :: unpack12 idle t
  | _ :: _ :: _ :: t => idle :: idle :: unpack12 idle t
  | [some a, some b] => [a.toNat + b.toNat % 16 * 256]
  | [] => []
  | _ => [idle]

/-- Cuts a list into pieces of two. -/
def pairs2 : List PlayByte → List (List PlayByte)
  | a :: b :: t => [a, b] :: pairs2 t
  | [a] => [[a]]
  | [] => []

/-- The sample words of a frame in the memory layout. -/
def decodeFrame (n pack idle : Nat) (bs : List PlayByte) : List Nat :=
  if n = 12 ∧ pack = 1 then unpack12 idle bs
  else if n = 8 then bs.map fun b => decodeSample 8 idle [b]
  else (pairs2 bs).map (decodeSample n idle)

/-- The idle frame of link `k` (R373). -/
def idleFrame (d : Dev) (k : Nat) : List Nat := List.replicate (d.linkObj k 5 * d.linkObj k 6) (d.linkObj k 0xE)

/-- The `i`-th frame's offset from the first in 2⁻¹⁶ ns: a frame of F octets takes 8.25 F bit times of its lane (R352). -/
def frameOffset (d : Dev) (k i : Nat) : Int := ((i * d.linkObj k 8 * 540672000000 / max 1 (d.linkObj k 4) : Nat) : Int)

/-- A latency adjust in picoseconds as 2⁻¹⁶ ns, rounded down. -/
def adjustOf (d : Dev) (k sub : Nat) : Int := (d.dcfg k).int (0x2A40 + k) sub * 65536 / 1000

/-- Offset of the last sample of a frame, (S − 1)/S frame periods (R359). -/
def lastSample (d : Dev) (k : Nat) : Int :=
  let s := max 1 (d.linkObj k 6)
  frameOffset d k 1 * ((s - 1 : Nat) : Int) / (s : Int)

/-! Streams. -/

/-- The stream of a queue. -/
def Dev.stream? (d : Dev) (q : Nat) : Option Stream := d.conv.stream.find? q

/-- The device with `f` applied to the stream of queue `q` where it exists. -/
def Dev.upStream (q : Nat) (f : Stream → Stream) (d : Dev) : Dev :=
  match d.stream? q with
  | some x => { d with conv := { d.conv with stream := d.conv.stream.set q (f x) } }
  | none => d

/-- Header size of a queue's records. -/
def Queue.hdr (x : Queue) : Nat := if bitOf (x.kparam.le 1 1) 1 then 64 else 0

/-- START_TRIG. -/
def Queue.startTrig (x : Queue) : Nat := x.kparam.le 2 1

/-- REC_TRIG. -/
def Queue.recTrig (x : Queue) : Nat := x.kparam.le 3 1

/-- PRE. -/
def Queue.pre (x : Queue) : Nat := x.kparam.le 12 4

/-- Address of a slot of a stream queue by ring index. -/
def Queue.slotAddr (x : Queue) (i : Nat) : Nat := x.base + i % x.depth * x.slotBytes

/-- The armed stream of a link and direction, with its queue. -/
def armedStream (d : Dev) (k : Nat) (tx : Bool) : Option Nat :=
  (List.find? (fun e => e.2.src == k && e.2.tx == tx && (e.2.armed || e.2.arming)) d.conv.stream).map (·.1)

/-- Whether a stream is idle (R302). -/
def Stream.idle (s : Stream) : Bool := !s.armed && !s.arming && s.cur.isNone && s.ended.isEmpty

/-- A stream after its last record or a stop: disarmed, its unused slots back with the SE. -/
def Stream.disarm (s : Stream) : Stream :=
  { s with
    armed := false, arming := false, started := false, startAt := none, startLate := false, stopAtEnd := false
    given := s.ended.length, slots := [], cur := none, trigAt := none, playing := [], play := [], fetch := none }

/-- Key of the reads of stream `q` at the NIs of its CPs. -/
def playKey (q : Nat) : Nat := 4 + q

/-- What stream `q` has asked to read belongs to nobody from now on. -/
def dropReads (q : Nat) (d : Dev) : Dev :=
  match d.stream? q with
  | some s => if s.tx then Dev.fold (d.lanes s.src) (fun l e => forgetKeys l (fun k => k == playKey q) e) d else d
  | none => d

/-- The command that arms or stops a stream and waits for it. -/
def waitsFor (op q : Nat) (k : Cmd) : Bool := k.st == .waiting && k.bytes.le 0 1 == op && k.bytes.le 8 2 == q

/-- The commands of stream `q`'s SE that wait with an opcode end with a status. -/
def endWaiting (op q status : Nat) (d : Dev) : Dev :=
  let n := seOf q
  Dev.fold ((d.eng n).cmds.filter (waitsFor op q)) (fun k e => endCmd k.q k.index status 0 0 e) d

/-- STREAM_STOP commands complete when their stream is idle (R302). -/
def finishStops (q : Nat) (d : Dev) : Dev :=
  match d.stream? q with
  | some s => if s.idle then endWaiting 0xA q 0 d else d
  | none => d

/-- A record ends at the CPs (R370): it waits for its record-end messages; a record without a slot leaves nothing (R368). -/
def endRec (q : Nat) (r : Rec) (d : Dev) : Dev :=
  match d.stream? q with
  | none => d
  | some s =>
    let need := if s.src = 0x80 then 0 else lanesOf (d.dcfg s.src) s.src
    let s1 : Stream := { s with
      cur := none, playing := s.playing.filter fun x => x.no != r.no
      ended := if r.slot.isSome then s.ended ++ [{ r with need := need }] else s.ended }
    let last := s1.stopAtEnd || (s1.limit != 0 && decide (s1.limit ≤ r.no + 1))
    finishStops q (if last then dropReads q (d.upStream q fun _ => s1.disarm) else d.upStream q fun _ => s1)

/-- The record in progress of a stream: an RX or trace record being filled, or a TX record that has begun to play. -/
def Stream.inProgress (s : Stream) : Option Rec :=
  match s.cur with
  | some r => some r
  | none => s.playing.find? fun r => decide (0 < r.done)

/-- The STREAM_ARM that armed stream `q` in this very cycle completes CONFLICT (R305). -/
def conflictArm (q : Nat) (d : Dev) : Dev :=
  match (d.stream? q).bind (·.armedBy) with
  | some (aq, i, at_) =>
    if at_ = d.clock.wall then
      upCmd aq (fun k => k.index == i && k.bytes.le 0 1 == 9 && k.st != .fetched) (fun k => { k with st := .done, status := 7 }) d
    else d
  | none => d

/-- A stop order acts now: the record in progress ends with a status, the stream is idle and disarmed (R305, R373). What was
ordered in the same cycle to start it gives way: the commands between two idle steps stand in one cycle. -/
def stopNow (q status : Nat) (d0 : Dev) : Dev :=
  let d := d0.upStream q fun x => { x with stoppedAt := some d0.clock.wall }
  match d.stream? q with
  | none => d
  | some s =>
    if (s.armed || s.arming) = false then d
    else
      let d1 := match s.inProgress with
        | some r => endRec q { r with status := status } (d.upStream q fun x => { x with stopAtEnd := true })
        | none => dropReads q (d.upStream q Stream.disarm)
      finishStops q (conflictArm q (endWaiting 9 q 7 d1))

/-- STREAM_STOP at record end (R302); a stream that this very cycle armed stays idle (R305). -/
def stopAtEnd (q : Nat) (d : Dev) : Dev :=
  match d.stream? q with
  | none => d
  | some s =>
    if s.inProgress.isSome ∧ (s.armedBy.map fun a => a.2.2) ≠ some d.clock.wall then
      d.upStream q fun x => { x with stopAtEnd := true, stoppedAt := some d.clock.wall }
    else stopNow q 8 d

/-- Whether a stop order of this cycle has reached stream `s` (R305). -/
def stoppedNow (d : Dev) (s : Nat) : Bool := ((d.stream? s).bind (·.stoppedAt)) == some d.clock.wall

/-- Whether a STREAM_ARM or STREAM_STOP of queue `q` names a stream queue that it may name (R302); one that is destroyed in the
same cycle counts (R305). -/
def namesStream (d : Dev) (x : Queue) (q s : Nat) : Bool :=
  match d.queue? s with
  | some y => y.kind == 2 && y.part == x.part && seOf s == seOf q && (y.state == 1 || stoppedNow d s) && (d.stream? s).isSome
  | none => false

/-- The checks of STREAM_ARM after its queue: status and DETAIL; (0, 0) passes (R363, R495, R505). -/
def armCheck (d : Dev) (x : Queue) (sq mode : Nat) : Nat × Nat :=
  match d.stream? sq with
  | none => (0xA, 0)
  | some s =>
    if s.src = 0x80 then
      if mode ≠ 0 then (2, 24)
      else if d.fcfg.nat (0x2F08 + s.fifo) 1 ≠ x.part then (3, 3)
      else if s.idle = true ∧ stoppedNow d sq = false then (0, 0) else (7, 0)
    else if 2 < mode then (2, 24)
    else if linkOwner d.fcfg s.src ≠ x.part then (3, 3)
    else
      let run := (if s.tx then (d.link s.src).tx else (d.link s.src).rx) == 5
      if run = false ∨ (armedStream d s.src s.tx).isSome = true ∨ s.idle = false ∨ stoppedNow d sq = true
          ∨ (s.tx = true ∧ d.inhibit.active = true) then (7, 0)
      else (0, 0)

/-- The device as a STREAM_ARM of queue `q` finds stream `sq`: an arm of this very cycle from a higher queue number gives way to
it (R305). -/
def armBefore (q sq : Nat) (d : Dev) : Dev :=
  match (d.stream? sq).bind (·.armedBy) with
  | some (aq, _, at_) =>
    if at_ = d.clock.wall ∧ q < aq ∧ (d.stream? sq).any (fun s => s.armed || s.arming) = true then
      dropReads sq ((conflictArm sq (endWaiting 9 sq 7 d)).upStream sq Stream.disarm)
    else d
  | none => d

/-- STREAM_ARM (R302, R363): an RX or trace stream is armed at once, a TX stream arms with its first prefetch. -/
def streamArm (q : Nat) (d : Dev) : Dev :=
  runCmd q 9 (fun x k e =>
    let sq := k.a
    let e0 := armBefore q sq e
    let r := if namesStream e x q sq then armCheck e0 x sq k.c else (3, 3)
    if r.1 = 2 then refuseCmd q k.index 2 r.2 e
    else if r.1 = 3 then accessFault q k.index r.2 e
    else if r.1 ≠ 0 then endCmd q k.index r.1 r.2 0 e
    else
      let tx := ((e0.stream? sq).map (·.tx)).getD false
      let e1 := e0.upStream sq fun s => { s.disarm with
        armed := !tx, arming := tx, mode := k.c, limit := k.b, next := 0, started := false
        armedBy := some (q, k.index, e.clock.wall) }
      if tx then upCmd q (atIndex k.index) (fun c => { c with st := .waiting }) e1 else endCmd q k.index 0 0 0 e1) d

/-- STREAM_STOP (R302). -/
def streamStop (q : Nat) (d : Dev) : Dev :=
  runCmd q 0xA (fun x k e =>
    let sq := k.a
    if 1 < k.c then refuseCmd q k.index 2 24 e
    else if namesStream e x q sq = false then accessFault q k.index 3 e
    else
      let e1 := upCmd q (atIndex k.index) (fun c => { c with st := .waiting }) e
      finishStops sq (if k.c = 1 then stopNow sq 8 e1 else stopAtEnd sq e1)) d

/-- TIMED_NOTIFY (R300): a TIMED_MESSAGE of class T to the stream's converter port or to the TTU. The command completes when the
message is injected; its ADDR, which a message does not use, names the command. -/
def timedNotify (q : Nat) (d : Dev) : Dev :=
  runCmd q 7 (fun x k e =>
    let n := seNi (seOf q)
    let tgt := k.a % 256
    let sq := k.a / 65536 % 65536
    let line := k.a / 256 % 256
    let send (dest mq code : Nat) (data : Bytes) : Dev :=
      let p : Packet := { messagePkt n x.part 0 dest mq code data with
        ty := 5, relS := k.b, relNs := k.c, addr := 65536 * q + k.index + 1 }
      upCmd q (atIndex k.index) (fun c => { c with st := .waiting }) (sendMessage p e)
    if 2 < tgt ∨ (tgt < 2 ∧ line ≠ 0) ∨ (tgt = 2 ∧ sq ≠ 0) then refuseCmd q k.index 2 8 e
    else if 1000000000 ≤ k.c then refuseCmd q k.index 2 24 e
    else if beyondHorizon e n k.b k.c then refuseCmd q k.index 2 16 e
    else if tgt = 2 then
      if 1 ≤ line ∧ line ≤ 0x0D ∧ e.fcfg.nat (0x2D30 + line) 1 = x.part then send 64 1 0x0040 [byte line]
      else accessFault q k.index 3 e
    else if namesStream e x q sq = true ∧ ((e.stream? sq).map fun s => decide (s.src < 24)) = some true then
      send (((e.stream? sq).map (·.src)).getD 0) 0 (0x0010 + tgt) (leBytes 2 sq)
    else accessFault q k.index 3 e) d

/-! Destroying queues (R286). -/

/-- DESTROY_QUEUE (R286). -/
def destroyQueue (p : Nat) (d : Dev) : Dev :=
  runAdmin p 0x41 [(8, 10)] (fun aq k e =>
    let q := k.bytes.le 8 2
    if mayDestroy e p q = false then endCmd aq k.index 0xA 0 0 e
    else
      let gone := ((e.eng (seOf q)).cmds.filter fun c => c.q == q && c.st == .fetched).length
      let e1 := (e.upQueue q fun x => { x with state := 2 }).upSe (seOf q) fun s =>
        { s with cmds := s.cmds.filter fun c => !(c.q == q && c.st == .fetched) }
      upCmd aq (atIndex k.index) (fun c => { c with st := .waiting, result := gone }) (stopNow q 8 e1)) d

/-- DESTROY_QUEUE_DONE: the last command of a queue being destroyed has completed, and its stream is idle (R286). -/
def destroyQueueDone (q : Nat) (d : Dev) : Dev :=
  match d.queue? q with
  | none => d
  | some x =>
    let busy := ((d.eng (seOf q)).cmds.any fun c => c.q == q) || ((d.eng (seOf q)).held.any fun c => c.q == q)
      || (((d.stream? q).map fun s => !s.idle).getD false)
    if x.state ≠ 2 ∨ busy = true then d
    else match adminOf d x.part with
      | none => dropQueue q d
      | some aq =>
        match (d.eng (seOf aq)).cmds.find? fun k => k.q == aq && waitsFor 0x41 q k with
        | some k => endCmd aq k.index 0 0 k.result (dropQueue q d)
        | none => dropQueue q d

/-! Slots and records. -/

/-- SLOT_GRANT: the SE hands the next ring slot of a stream queue to the CPs of its link by MESSAGE to MQ 0 (R361), in
class B (R17). The spec gives the message's contents and not its code or places: queue and ring index. A trace queue's slots stay with the
SE. -/
def slotGrant (q : Nat) (d : Dev) : Dev :=
  match d.queue? q, d.stream? q with
  | some x, some s =>
    let i := (x.ci + s.given) % 65536
    if x.kind = 2 ∧ x.state = 1 ∧ (s.armed || s.arming) = true ∧ s.given < idxDiff x.pi x.ci
        ∧ unitAdmits d (seNi (seOf q)) x.part = true then
      let d1 := d.upStream q fun y => { y with given := y.given + 1 }
      if s.src = 0x80 then d1.upStream q fun y => { y with slots := y.slots ++ [i] }
      else Dev.fold (span s.src (s.src + lanesOf d.fcfg s.src)) (fun l e =>
        sendMessage (messagePkt (seNi (seOf q)) x.part 2 l 0 0x0030 (leBytes 2 q ++ leBytes 2 i)) e) d1
    else d
  | _, _ => d

/-- Ring index of the slot that a CP expects next: after those it has been handed. -/
def expectedSlot (x : Queue) (s : Stream) : Nat :=
  (x.ci + s.ended.length + s.slots.length + s.playing.length + (if (s.cur.bind (·.slot)).isSome then 1 else 0)) % 65536

/-- A CP takes a slot message at the front of its MQ 0; the CP of the link's lowest lane keeps the slots (R361). -/
def takeSlot (n : Nat) (d : Dev) : Dev :=
  match d.mqFront n 0 with
  | none => d
  | some m =>
    let q := m.data.le 0 2
    let i := m.data.le 2 2
    let d1 := mqTake n 0 d
    match d.queue? q, d.stream? q with
    | some x, some s =>
      if m.code = 0x0030 ∧ m.src = seNi (seOf q) ∧ s.src = n ∧ (s.armed || s.arming) = true ∧ i = expectedSlot x s then
        d1.upStream q fun y => { y with slots := y.slots ++ [i] }
      else d1
    | _, _ => d1

/-- An RX record begins: it takes the next slot, or is lost (R366, R368). -/
def beginRec (q k : Nat) (t : Int) (trig flags : Nat) (d : Dev) : Dev :=
  match d.stream? q with
  | none => d
  | some s =>
    let r : Rec := { no := s.next, slot := s.slots.head?, first := t, trig := trig, flags := flags, late := s.startLate && s.next == 0 }
    let d1 := d.upStream q fun y => { y with slots := y.slots.drop 1, next := y.next + 1, cur := some r, trigAt := none }
    if r.slot.isSome then d1 else laneEvent k 8 false (d1.countLink k 0x13)

/-- Whole 64-byte blocks of a record are written by the CPs of its lanes in turn (R361). -/
def writeBlocks (x : Queue) (k : Nat) (base : Nat) : Nat → Nat → Bytes → Dev → Dev
  | 0, _, _, d => d
  | fuel + 1, b, bs, d =>
    if bs.length < 64 then d
    else writeBlocks x k base fuel (b + 1) (bs.drop 64)
      (engineWrite (k + b % max 1 (lanesOf (d.dcfg k) k)) x.part x.cls (base + 64 * b) (bs.take 64) d)

/-- Bits [28:24] of RESULT and its count (R370). -/
def recResult (r : Rec) : Nat := r.done / 64 % 2 ^ 24 + r.flags % 32 * 2 ^ 24

/-- A time in 2⁻¹⁶ ns as TAI seconds, nanoseconds and fraction. -/
def splitTime (t : Int) : Nat × Nat × Nat :=
  let v := t.toNat
  (v / 65536000000000, v / 65536 % 1000000000, v % 65536)

/-- The record header (R369). -/
def recHeader (r : Rec) (frames k : Nat) : Bytes :=
  let t := splitTime r.first
  leBytes 8 r.no ++ leBytes 6 t.1 ++ leBytes 2 0 ++ leBytes 4 t.2.1 ++ leBytes 2 t.2.2 ++ leBytes 2 (r.flags % 32)
    ++ leBytes 4 r.trig ++ leBytes 4 frames ++ [byte k] ++ List.replicate 31 (byte 0)

/-- A frame enters the RX record in progress: written block by block, ended when RECORD bytes are in (R366, R369). -/
def putFrame (q k : Nat) (f : HistFrame) (zero bad : Bool) (d : Dev) : Dev :=
  match d.queue? q, d.stream? q with
  | some x, some s =>
    match s.cur with
    | none => d
    | some r =>
      let fl := Nat.lor r.flags (b2n f.crc + 2 * b2n zero + 4 * b2n bad)
      let all := r.buf ++ f.bytes
      let whole := all.length / 64 * 64
      let written := r.done - r.buf.length
      let r1 := { r with done := r.done + f.bytes.length, buf := all.drop whole, flags := fl }
      let d1 := match r.slot with
        | some i => writeBlocks x k (x.slotAddr i) (all.length / 64) ((x.hdr + written) / 64) all d
        | none => d
      let d2 := d1.upStream q fun y => { y with cur := some r1 }
      if r1.done < x.record then d2
      else
        let frames := x.record / max 1 (frameBytes (d.dcfg k) k)
        let d3 := match r.slot with
          | some i => if x.hdr = 64 then engineWrite k x.part x.cls (x.slotAddr i) (recHeader r1 frames k) d2 else d2
          | none => d2
        endRec q r1 d3
  | _, _ => d

/-- The history that a link holds: the newest frames that fit in 64 KiB of each lane (R367); frames have one size. -/
def trimHistory (cap : Nat) (l : List HistFrame) : List HistFrame :=
  let size := max 1 ((l.map fun f => f.bytes.length).getD 0 1)
  l.drop (l.length - cap / size)

/-- Whether the start of an armed stream has come for a frame at time `t` (R365). -/
def startsAt (s : Stream) (t : Int) : Bool :=
  s.started || s.mode == 0 || (match s.startAt with
    | some u => decide (u ≤ t)
    | none => false)

/-- Whether the sample of a trigger time is no longer held: a frame that a full history has dropped held it (R367). -/
def sampleGone (d : Dev) (k : Nat) (t : Int) : Bool :=
  match (d.link k).history.head? with
  | some f => decide (65536 * lanesOf (d.dcfg k) k < ((d.link k).history.length + 1) * max 1 f.bytes.length)
      && decide (t ≤ f.time - frameOffset d k 1 + lastSample d k)
  | none => false

/-- A trigger is placed in the history (R366, R367): the record takes PRE bytes before its frame, and the frames held
from there on. `hist` ends with the newest frame. -/
def placeTrigger (q k : Nat) (t : Int) (d : Dev) : Dev :=
  match d.queue? q with
  | none => d
  | some x =>
    let hist := (d.link k).history
    let last := lastSample d k
    let want := x.pre / max 1 (frameBytes (d.dcfg k) k)
    let at_ := (hist.findIdx? fun f => decide (t ≤ f.time + last)).getD hist.length
    let gone := sampleGone d k t
    let pre := min want at_
    let from_ := hist.drop (at_ - pre)
    match from_.head? with
    | none => d
    | some f0 =>
      let flags := (if pre < want then 8 else 0) + (if gone then 24 - (if pre < want then 8 else 0) else 0)
      Dev.fold from_ (fun f e => putFrame q k f false false e) (beginRec q k f0.time pre flags d)

/-- A frame that the link releases reaches its armed RX stream: the start, the record's start or trigger, and the
record itself (R365, R366). A fenced partition begins no record, nor does a fenced power domain (R252, R266). -/
def streamFrame (k : Nat) (f : HistFrame) (zero bad : Bool) (d : Dev) : Dev :=
  match armedStream d k false with
  | none => d
  | some q =>
    match d.stream? q, d.queue? q with
    | some s, some x =>
      if s.cur.isSome then putFrame q k f zero bad d
      else if startsAt s f.time = false ∨ d.fenceBit x.part = true ∨ linkUp d k = false ∨ zero = true then d
      else
        let d1 := d.upStream q fun y => { y with started := true }
        if x.recTrig = 0 then putFrame q k f false bad (beginRec q k f.time 0xFFFFFFFF 0 d1)
        else match s.trigAt with
          | some t => if t ≤ f.time + lastSample d k then placeTrigger q k t d1 else d1
          | none => d1
    | _, _ => d

/-- An armed field injection on lane `l` with a cause is spent (R375, R482). -/
def takeLaneInjection (l cause : Nat) (d : Dev) : Bool × Dev :=
  let i := d.faults.inj
  if i.state = 1 ∧ i.src = 0xA0 + l ∧ i.cause = cause then (true, d.spend) else (false, d)

/-- The lanes of a link that a mask names, and one whose injection is armed. -/
def hitLanes (k mask cause : Nat) (d : Dev) : List (Nat × Bool) :=
  (d.lanes k).filterMap fun l =>
    if (takeLaneInjection l cause d).1 then some (l, true) else if bitOf mask l then some (l, false) else none

/-- What the CRC-12 and sync header checks of a release find (R375). -/
def laneErrors (k crcLanes syncLanes : Nat) (d : Dev) : Dev :=
  let d1 := Dev.fold (hitLanes k crcLanes 1 d) (fun e y =>
    laneEvent e.1 1 e.2 ((if e.2 then y.spend else y).upLane e.1 fun x => { x with crc := satAdd 48 x.crc 1 })) d
  Dev.fold ((d.lanes k).filter (bitOf syncLanes)) (fun l y =>
    laneEvent l 2 false (y.upLane l fun x => { x with badSync := inc32 x.badSync })) d1

/-- What SECDED finds in a history or playback buffer word of a link; injection counts as such (R375). -/
def bufferError (k : Nat) (err : MemErr) (d : Dev) : Bool × Dev :=
  let c := takeLaneInjection k 0xB d
  let u := takeLaneInjection k 0xC c.2
  match err with
  | .corrected => (u.1, (laneEvent k 0xB c.1 u.2).when u.1 (laneEvent k 0xC true))
  | .uncorrectable => (true, laneEvent k 0xC u.1 u.2)
  | .none =>
    if u.1 then (true, laneEvent k 0xC true u.2)
    else if c.1 then (false, laneEvent k 0xB true c.2)
    else (false, d)

/-- RX_FRAME_RELEASE: the link releases frames, the first at `at_` (R358, R359). Frames that a link out of lock should
have released are written as zero into the record in progress (R376). -/
def rxFrameRelease (k : Nat) (at_ : Int) (frames : List (List Nat)) (crcLanes syncLanes : Nat) (err : MemErr) (d : Dev) : Dev :=
  let c := d.dcfg k
  let up := (d.link k).rx == 5
  let n := d.linkObj k 7
  let fb := frameBytes c k
  let t0 := at_ - adjustOf d k 0xF
  if linkOn c k 1 = false ∨ linkRuns d k = false then d
  else if up then
    let crc := !(hitLanes k crcLanes 1 d).isEmpty
    let b := bufferError k err (laneErrors k crcLanes syncLanes d)
    Dev.fold frames.zipIdx (fun w e =>
      let body := if b.1 = true ∧ w.2 = 0 then List.replicate fb (byte 0) else padTo fb (encodeFrame n (d.linkObj k 0xD) w.1)
      let f : HistFrame := { time := t0 + frameOffset d k w.2, bytes := body, crc := crc }
      streamFrame k f false (b.1 && w.2 == 0) (e.upLink k fun x => { x with
        history := trimHistory (65536 * lanesOf c k) (x.history ++ [f]) })) b.2
  else
    Dev.fold frames.zipIdx (fun w e =>
      streamFrame k { time := t0 + frameOffset d k w.2, bytes := List.replicate fb (byte 0) } true false e) d

/-! Triggers and timed orders. -/

/-- A trigger with a source and a time reaches the streams of link `k` (R365 to R367, R377); none starts work while the partition
or the power domain is fenced (R252, R266). -/
def triggerStream (k src : Nat) (t : Int) (q : Nat) (d : Dev) : Dev :=
  match d.stream? q, d.queue? q with
  | some s, some x =>
    if (s.armed = false ∧ s.arming = false) ∨ d.fenceBit x.part = true ∨ linkUp d k = false then d
    else if s.mode = 2 ∧ s.started = false ∧ s.startAt.isNone = true ∧ x.startTrig = src then
      let old := !s.tx && sampleGone d k t
      let d1 := d.upStream q fun y => { y with startAt := some t }
      if s.tx then d1
      else
        let d2 := Dev.fold ((d.link k).history.filter fun f => decide (t ≤ f.time)) (fun f e => streamFrame k f false false e) d1
        d2.when old (Dev.upStream q fun y => { y with cur := y.cur.map fun r => { r with flags := Nat.lor r.flags 24 } })
    else if s.tx = false ∧ s.started = true ∧ x.recTrig = src ∧ src ≠ 0 then
      if s.cur.isSome then d.countLink k 0x15
      else match s.trigAt with
        | some u => (d.upStream q fun y => { y with trigAt := some (min u t) }).countLink k 0x15
        | none =>
          if ((d.link k).history.any fun f => decide (t ≤ f.time + lastSample d k)) then placeTrigger q k t d
          else d.upStream q fun y => { y with trigAt := some t }
    else d
  | _, _ => d

/-- A trigger reaches every stream of link `k`. -/
def triggerLink (k src : Nat) (t : Int) (d : Dev) : Dev :=
  Dev.fold (d.conv.stream.filter fun e => e.2.src == k) (fun e y => triggerStream k src t e.1 y) d

/-- The time of a trigger message's payload: seconds, nanoseconds and fraction (R364). -/
def triggerTime (b : Bytes) : Int := ((b.le 1 6 * 65536000000000 + b.le 7 4 * 65536 + b.le 11 2 : Nat) : Int)

/-- A release time in 2⁻¹⁶ ns. -/
def releaseTime (p : Packet) : Int := ((p.relS * 65536000000000 + p.relNs * 65536 : Nat) : Int)

/-- The oldest released timed message of NI `n` leaves the release port. -/
def dropReleased (n : Nat) (d : Dev) : Dev := d.upNi n fun x => { x with released := x.released.drop 1 }

/-- CP_TRIGGER: the front trigger message of CP `n`, or a released timed trigger (R364, R366). -/
def cpTrigger (n : Nat) (d : Dev) : Dev :=
  match d.mqFront n 1, (d.ni n).released.head? with
  | some m, _ =>
    let d1 := mqTake n 1 d
    if m.code = 0x0020 then triggerLink n (m.data.le 0 1) (triggerTime m.data) d1 else d1
  | none, some h =>
    if h.pkt.code = 0x0020 then triggerLink n (h.pkt.data.le 0 1) (releaseTime h.pkt) (dropReleased n d) else d
  | none, none => d

/-- The armed stream that a timed order of CP `n` names, of the partition that sent it. -/
def timedTarget (d : Dev) (n : Nat) (p : Packet) : Option Nat :=
  let q := p.data.le 0 2
  match d.stream? q, d.queue? q with
  | some s, some x => if s.src = n ∧ x.part = p.part ∧ (s.armed || s.arming) = true then some q else none
  | _, _ => none

/-- CP_TIMED_START: a released start starts a stream armed in mode 1 that has not started, else it is counted (R365, R378). -/
def cpTimedStart (n : Nat) (d : Dev) : Dev :=
  match (d.ni n).released.head? with
  | none => d
  | some h =>
    if h.pkt.code ≠ 0x0010 then d
    else
      let d1 := dropReleased n d
      match timedTarget d n h.pkt with
      | none => d1.countLink n 0x16
      | some q =>
        match d.stream? q with
        | some s =>
          if s.mode = 1 ∧ s.started = false ∧ s.startAt.isNone = true then
            d1.upStream q fun y => { y with startAt := some (if h.late then 0 else releaseTime h.pkt), startLate := h.late }
          else d1.countLink n 0x16
        | none => d1

/-- CP_TIMED_STOP: a released stop stops an armed stream, else it is counted (R373, R378). -/
def cpTimedStop (n : Nat) (d : Dev) : Dev :=
  match (d.ni n).released.head? with
  | none => d
  | some h =>
    if h.pkt.code ≠ 0x0011 then d
    else match timedTarget d n h.pkt with
      | none => (dropReleased n d).countLink n 0x16
      | some q => stopNow q 8 (dropReleased n d)

/-! Record ends and completions. -/

/-- RECORD_END: the CP of lane `l` has ended its share of a record: a fenced message to the stream's SE (R370). The spec
names no MQ or CODE for it: MQ 1, CODE 0x0012, class B (R17), with the queue, the record number and the lane. -/
def recordEnd (l : Nat) (d : Dev) : Dev :=
  let ready (r : Rec) : Bool := !bitOf r.sentBy l && decide (0 < r.need)
  match List.find? (fun (e : Nat × Stream) => (d.lanes e.2.src).contains l && decide (e.2.src < 24) && e.2.ended.any ready)
      d.conv.stream with
  | none => d
  | some (q, s) =>
    match s.ended.find? ready, d.queue? q with
    | some r, some x =>
      let d1 := d.upStream q fun y => { y with ended := y.ended.map fun z =>
        if (z.no = r.no) then { z with sentBy := setBit z.sentBy l true } else z }
      startFenced (messagePkt l x.part 2 (seNi (seOf q)) 1 0x0012 (leBytes 2 q ++ leBytes 8 r.no ++ [byte l])) none d1
    | _, _ => d

/-- A record-end message has arrived at the SE; a mark that was not answered OK makes the record WRITE_FAILED (R297, R370). -/
def recordEndIn (m : Packet) (d : Dev) : Dev :=
  d.upStream (m.data.le 0 2) fun y => { y with ended := y.ended.map fun z =>
    if (z.no = m.data.le 2 8) then
      { z with
        ends := z.ends + 1
        status := if m.mstat ≠ 0 ∧ z.status = 0 then 9 else z.status
        detail := if m.mstat ≠ 0 ∧ z.status = 0 then m.mstat else z.detail }
    else z }

/-- Destinations and classes that the SE has written for a trace record. -/
def traceWrote (d : Dev) (q : Nat) (r : Rec) : Bytes :=
  match d.queue? q, r.slot with
  | some x, some i => writtenTo d (seNi (seOf q)) (d.fcfg.nat 0x2F01 1) (x.slotAddr i) r.done
  | _, _ => []

/-- RECORD_COMPLETE: every record-end message of the oldest ended record has arrived; its completion is written, behind the marks
of the SE's own writes where it is a trace record (R29, R506), and its slot is free (R302, R370, R371). -/
def recordComplete (q : Nat) (d : Dev) : Dev :=
  match d.stream? q with
  | none => d
  | some s =>
    match s.ended with
    | [] => d
    | r :: t =>
      if r.ends < r.need then d
      else
        let k : Cpl := {
          q := q, index := (r.slot.getD 0) % ((d.queue? q).map Queue.depth).getD 1, status := r.status, detail := r.detail, op := 0x80
          late := r.late, irq := false, tag := r.no % 2 ^ 32, result := recResult r
          wrote := if s.src = 0x80 then traceWrote d q r else [] }
        let d1 := (d.upStream q fun y => { y with ended := t, given := y.given - 1 }).upQueue q fun x => { x with ci := (x.ci + 1) % 65536 }
        finishStops q (reportCpl k d1)

/-! Playback. -/

/-- The record whose slot is read next (R371): one partly read, or one that takes the next slot. -/
def nextRead (s : Stream) (record : Nat) : Option (Rec × Bool) :=
  match s.playing.find? fun r => decide (max r.got r.done < record) with
  | some r => some (r, false)
  | none =>
    if s.limit ≠ 0 ∧ s.limit ≤ s.next then none
    else s.slots.head?.map fun i => ({ no := s.next, slot := some i, late := s.startLate && s.next == 0 }, true)

/-- The 64-byte blocks of a slot from `lo` to `hi` that CP `l` of the link reads, as spans: adjoining blocks go in one READ of up
to 256 bytes (R361). -/
def laneSpans (d : Dev) (k l base lo hi : Nat) : List (Nat × Nat) :=
  let n := max 1 (lanesOf (d.dcfg k) k)
  if n = 1 then [(base + 64 * lo, 64 * (hi - lo))]
  else ((span lo hi).filter fun b => k + b % n == l).map fun b => (base + 64 * b, 64)

/-- The CPs of link `k` issue the reads of the blocks from `lo` to `hi` of a slot. -/
def readSlot (q : Nat) (x : Queue) (k base lo hi : Nat) (d : Dev) : Dev :=
  Dev.fold (d.lanes k) (fun l e => engineRead l x.part x.cls (playKey q) (laneSpans d k l base lo hi) e) d

/-- The answer that holds the block at an address: its STATUS and the block's bytes. -/
def blockAnswer (l : List Delivered) (a : Nat) : Nat × List PlayByte :=
  match l.find? fun r => decide (r.req.addr ≤ a ∧ a < r.req.addr + r.req.size) with
  | some r => if r.status = 0 then (0, ((padTo r.req.size r.data).slice (a - r.req.addr) 64).map some) else (r.status, List.replicate 64 none)
  | none => (1, List.replicate 64 none)

/-- A piece of a transmit record has come: `st` is the first bad STATUS. Bytes whose frames have passed meanwhile are of no use
(R372). -/
def takePiece (q k no lo : Nat) (fresh : Bool) (bs : List PlayByte) (st : Nat) (d : Dev) : Dev :=
  match d.stream? q with
  | none => d
  | some s =>
    let err := if st = 6 then (5, 0) else if st = 4 then (6, 0) else (4, st)
    let r0 : Rec := (s.playing.find? fun z => z.no == no).getD { no := no, slot := s.slots.head?, late := s.startLate && no == 0 }
    let r1 := { r0 with
      got := lo + bs.length
      status := if st ≠ 0 ∧ r0.status = 0 then err.1 else r0.status
      detail := if st ≠ 0 ∧ r0.status = 0 then err.2 else r0.detail }
    (d.upStream q fun y => { y with
      play := y.play ++ bs.drop (r0.done - lo)
      playing := if fresh then y.playing ++ [r1] else y.playing.map fun z => if (z.no = no) then r1 else z
      slots := if fresh then y.slots.drop 1 else y.slots
      next := if fresh then y.next + 1 else y.next }).when (st != 0) (laneEvent k 0xA false)

/-- An arming TX stream is armed once min(RECORD, 64 KiB × L) bytes are held, and its STREAM_ARM completes (R371). -/
def armIfHeld (q cap record : Nat) (d : Dev) : Dev :=
  match d.stream? q with
  | some s =>
    if s.arming = true ∧ min record cap ≤ s.play.length then
      endWaiting 9 q 0 (d.upStream q fun y => { y with arming := false, armed := true })
    else d
  | none => d

/-- TX_PREFETCH_DONE: the CPs of an armed TX stream ask for the next bytes of its slots, as many as the playback buffers have room
for; once every READ is answered, a run takes what has come (R361, R371, R372). A fenced partition or power domain asks for
nothing new (R252, R266). -/
def txPrefetchDone (q : Nat) (d : Dev) : Dev :=
  match d.stream? q, d.queue? q with
  | some s, some x =>
    let k := s.src
    let cap := 65536 * lanesOf (d.dcfg k) k
    if s.tx = false ∨ (s.armed || s.arming) = false then d
    else match s.fetch with
      | some (no, from_, n) =>
        if (d.lanes k).any fun l => keyOpen d l (playKey q) then d
        else
          let d1 := Dev.fold (d.lanes k) (fun l e => takeAnswers l (playKey q) e) (d.upStream q fun y => { y with fetch := none })
          match nextRead s x.record with
          | some (r, fresh) =>
            if r.no ≠ no then d1
            else
              let base := x.slotAddr (r.slot.getD 0)
              let blocks := (span (from_ / 64) ((from_ + n) / 64)).map fun b =>
                blockAnswer (keyAnswers d (k + b % max 1 (lanesOf (d.dcfg k) k)) (playKey q)) (base + 64 * b)
              let bs := ((blocks.map (·.2)).flatten).drop (from_ % 64)
              let st := ((blocks.map (·.1)).find? (· != 0)).getD 0
              armIfHeld q cap x.record (takePiece q k no from_ fresh bs st d1)
          | none => d1
      | none =>
        match nextRead s x.record with
        | none => d
        | some (r, _) =>
          let from_ := max r.got r.done
          let n := min (x.record - from_) (cap - s.play.length)
          if d.fenceBit x.part = true ∨ linkUp d k = false ∨ (from_ + n) / 64 ≤ from_ / 64 then d
          else
            readSlot q x k (x.slotAddr (r.slot.getD 0)) (from_ / 64) ((from_ + n) / 64)
              (d.upStream q fun y => { y with fetch := some (r.no, from_, n) })
  | _, _ => d

/-- One TX frame of an armed stream: the words that leave, and the device (R371, R372). -/
def playFrame (q k : Nat) (t : Int) (bad : Bool) (d : Dev) : List Nat × Dev :=
  match d.stream? q, d.queue? q with
  | some s, some x =>
    let fb := frameBytes (d.dcfg k) k
    let idle := idleFrame d k
    match s.playing with
    | [] => (idle, d)
    | r :: rest =>
      if s.armed = false ∨ startsAt s t = false then (idle, d)
      else
        let have_ := decide (fb ≤ s.play.length ∧ r.done + fb ≤ r.got)
        let ws := if have_ = true ∧ bad = false then decodeFrame (d.linkObj k 7) (d.linkObj k 0xD) (d.linkObj k 0xE) (s.play.take fb) else idle
        let drop := if have_ then fb else min s.play.length (r.got - r.done)
        let r1 := { r with
          done := r.done + fb, first := if r.done = 0 then t else r.first
          flags := if have_ = true ∧ bad = false then r.flags else Nat.lor r.flags 4 }
        let d1 := d.upStream q fun y => { y with started := true, playing := r1 :: rest, play := y.play.drop drop }
        let d2 := if have_ then d1 else laneEvent k 9 false (d1.countLink k 0x14)
        (ws, if x.record ≤ r1.done then endRec q r1 d2 else d2)
  | _, _ => (idleFrame d k, d)

/-- TX_FRAME_DUE: a frame of link `k` enters the serializers at `at_`: its samples, or idle samples (R371 to R373). -/
def txFrameDue (k : Nat) (at_ : Int) (err : MemErr) (d : Dev) : Dev :=
  if (d.link k).tx ≠ 5 ∨ linkRuns d k = false then d
  else
    match armedStream d k true with
    | none => d.upLink k fun x => { x with out := some (idleFrame d k) }
    | some q =>
      let b := bufferError k err d
      let r := playFrame q k (at_ + adjustOf d k 0x10) b.1 b.2
      r.2.upLink k fun x => { x with out := some r.1 }

/-! The trace drain (R506). -/

/-- The armed trace queue bound to FIFO `f`. -/
def traceStream (d : Dev) (f : Nat) : Option Nat :=
  (List.find? (fun e => e.2.src == 0x80 && e.2.fifo == f && e.2.armed) d.conv.stream).map (·.1)

/-- A trace record begins in the next slot, where there is one. -/
def beginTrace (q f : Nat) (d : Dev) : Dev :=
  match d.stream? q with
  | some s =>
    match s.cur, s.slots.head? with
    | none, some i => d.upStream q fun y => { y with
        slots := y.slots.drop 1, next := y.next + 1, lostAt := (d.fifo f).lost, cur := some { no := s.next, slot := some i } }
    | _, _ => d
  | none => d

/-- The whole records present move into the record in progress, as far as it has room (R506). -/
def drainTrace (q f : Nat) (d : Dev) : Dev :=
  match d.queue? q, d.stream? q with
  | some x, some s =>
    match s.cur with
    | none => d
    | some r =>
      let n := min (d.fifo f).recs.length ((x.record - r.done) / 32)
      let bs := ((d.fifo f).recs.take n).flatten
      let d1 := d.upFifo f fun y => { y with recs := y.recs.drop n }
      let d2 := if n = 0 then d1
        else engineWrite (seNi (seOf q)) x.part (d.fcfg.nat 0x2F01 1) (x.slotAddr (r.slot.getD 0) + r.done) bs d1
      let r1 := { r with done := r.done + 32 * n }
      if x.record ≤ r1.done then
        endRec q { r1 with flags := if s.lostAt < (d2.fifo f).lost then 4 else 0 } d2
      else d2.upStream q fun y => { y with cur := some r1 }
  | _, _ => d

/-- TRACE_DRAIN_POLL: the SE of the armed trace queue of FIFO `f` moves what is present (R506). -/
def traceDrainPoll (f : Nat) (d : Dev) : Dev :=
  match traceStream d f with
  | none => d
  | some q =>
    let p := ((d.queue? q).map (·.part)).getD 0
    if unitAdmits d (seNi (seOf q)) p = false then d else drainTrace q f (beginTrace q f d)

/-! Flips, fences and resets. -/

/-- Streams that `sel` names are stopped now with a status (R305). -/
def stopStreams (sel : Queue → Stream → Bool) (status : Nat) (d : Dev) : Dev :=
  Dev.fold d.conv.stream (fun e y => match y.queue? e.1 with
    | some x => if sel x e.2 then stopNow e.1 status y else y
    | none => y) d

/-- The output inhibit stops every TX stream now; its outputs carry idle samples (R373). -/
def inhibitStops (d : Dev) : Dev := stopStreams (fun _ s => s.tx) 8 d

/-- Step 4 of a lock cycle: the TX streams of `p` (R252, R373). -/
def convTxIdle (p : Nat) (d : Dev) : Dev := stopStreams (fun x s => x.part == p && s.tx) 8 d

/-- The forced drain: every stream of `p` (R254, R313). -/
def convAbandon (p : Nat) (d : Dev) : Dev := stopStreams (fun x _ => x.part == p) 6 d

/-- Whether a stream of `p` still works on a record (R253). -/
def convBusy (d : Dev) (p : Nat) : Bool :=
  d.conv.stream.any fun e => ((d.queue? e.1).map (·.part)) == some p && (!e.2.ended.isEmpty || (e.2.cur.isSome && !e.2.tx))

/-- A unit reset of any CP of an enabled link: its streams end ABORTED and the link retrains (R379). -/
def linkReset (k : Nat) (d : Dev) : Dev :=
  startLink k ((stopStreams (fun _ s => s.src == k) 8 d).upLink k fun x => { x with history := [], out := none })

/-- Link `k` at the DCLK apply edge (R380), and at a flip while its DCLK does not run (R355). -/
def applyLink (k : Nat) (d : Dev) : Dev :=
  let x := d.link k
  let c := d.dcfg k
  let off (dir st : Nat) : Bool := !(linkOn c k dir) && st != 0
  let d1 := if off 1 x.rx then setRx k 0 (stopStreams (fun _ s => s.src == k && !s.tx) 8 d) else d
  let d2 := if off 2 x.tx then setTx k 0 (stopStreams (fun _ s => s.src == k && s.tx) 8 d1) else d1
  let st := if linkPowered d k then 2 else 1
  let idle := x.rx == 0 && x.tx == 0
  let d3 := if idle = true ∧ linkUsed c k = true then d2.upLink k fun y => { y with pll := false, cdr := false, lemc := false } else d2
  let d4 := if linkOn c k 1 = true ∧ x.rx = 0 then setRx k st d3 else d3
  let d5 := if linkOn c k 2 = true ∧ x.tx = 0 then txRunIfReady k (setTx k st d4) else d4
  tryRelease k d5

/-- The links whose lanes lie in a power domain that comes up (R355, R381). -/
def linksPowered (d : Dev) : Dev :=
  Dev.fold (List.range 24) (fun k e =>
    if (e.link k).rx = 1 ∨ (e.link k).tx = 1 then (if linkPowered e k then startLink k e else e) else e) d

/-- The links whose lanes lose their power domain or clock go to NO_POWER with idle outputs (R381). -/
def linksUnpowered (d : Dev) : Dev :=
  Dev.fold (List.range 24) (fun k e =>
    if linkUsed (e.dcfg k) k = true ∧ linkPowered e k = false ∧ (1 < (e.link k).rx ∨ 1 < (e.link k).tx) then linkReset k e else e) d

/-- Clear of the converter counters of partition `p`'s lanes and links (R374). -/
def clearConvCounts (p : Nat) (d : Dev) : Dev :=
  let d1 := Dev.fold ((List.range 24).filter fun l => laneOwner (fun _ => d.cfg) l == p) (fun l e =>
    e.upLane l fun x => { x with crc := 0, badSync := 0, losses := 0 }) d
  Dev.fold ((List.range 24).filter fun k => linkOwner d.cfg k == p) (fun k e => e.upLink k fun x => { x with counts := [] }) d1

/-! Meanings. -/

/-- DESTROY_QUEUE: The admin command DESTROY_QUEUE sets STATE destroying and stops fetching from the queue (R286). -/
def execDestroyQueue (p : Nat) (s : State) : Host.Outcome State Fault Refusal :=
  act (wfDestroyQueue p) (destroyQueue p) s

/-- DESTROY_QUEUE_DONE: The running commands of a destroyed queue have completed; the context is zeroed and the completion written (R286). -/
def execDestroyQueueDone (q : Nat) (s : State) : Host.Outcome State Fault Refusal :=
  act (wfDestroyQueueDone q) (destroyQueueDone q) s

/-- TIMED_NOTIFY: The command TIMED_NOTIFY sends a TIMED_MESSAGE to start or stop a stream or drive a trigger output (R300). -/
def execTimedNotify (q : Nat) (s : State) : Host.Outcome State Fault Refusal :=
  act (wfTimedNotify q) (timedNotify q) s

/-- STREAM_ARM: The command STREAM_ARM arms a stream queue with a start mode and record count (R302). -/
def execStreamArm (q : Nat) (s : State) : Host.Outcome State Fault Refusal :=
  act (wfStreamArm q) (streamArm q) s

/-- STREAM_STOP: The command STREAM_STOP stops a stream now or at record end (R302). -/
def execStreamStop (q : Nat) (s : State) : Host.Outcome State Fault Refusal :=
  act (wfStreamStop q) (streamStop q) s

/-- LINK_PLL_LOCKED: A converter link's SerDes PLL and CDRs lock and the link moves toward SH_LOCK or RUNNING (R355). -/
def execLinkPllLocked (k : Nat) (s : State) : Host.Outcome State Fault Refusal :=
  act (wfLinkPllLocked k) (linkPllLocked k) s

/-- SYNC_HEADER_LOCK: Every RX lane of a link locks its sync headers (R355). -/
def execSyncHeaderLock (k : Nat) (s : State) : Host.Outcome State Fault Refusal :=
  act (wfSyncHeaderLock k) (syncHeaderLock k) s

/-- EXTENDED_MULTIBLOCK_LOCK: Every lane locks its extended multiblock and its arrival is measured against RBD (R358). -/
def execExtendedMultiblockLock (k : Nat) (arrivals : List Nat) (s : State) : Host.Outcome State Fault Refusal :=
  act (wfExtendedMultiblockLock k arrivals) (extendedMultiblockLock k arrivals) s

/-- LINK_LOCK_TIMEOUT: The PLL or CDR is not locked within 10 ms; the link goes FAILED and retries every 10 ms (R355). -/
def execLinkLockTimeout (k : Nat) (s : State) : Host.Outcome State Fault Refusal :=
  act (wfLinkLockTimeout k) (linkLockTimeout k) s

/-- SYSREF_EDGE_SAMPLED: A CP samples a SYSREF edge; it starts the LEMC or checks, and may realign, the boundary (R357). -/
def execSysrefEdgeSampled (k : Nat) (onBoundary : Bool) (s : State) : Host.Outcome State Fault Refusal :=
  act (wfSysrefEdgeSampled k onBoundary) (sysrefEdgeSampled k onBoundary) s

/-- RX_FRAME_RELEASE: Every RBD cycles after an LEMC edge the link releases an extended multiblock into the record (R358). -/
def execRxFrameRelease (k : Nat) (at_ : Int) (frames : List (List Nat)) (crcLanes : Nat) (syncLanes : Nat) (err : MemErr) (s : State) : Host.Outcome State Fault Refusal :=
  act (wfRxFrameRelease k at_ frames crcLanes syncLanes err) (rxFrameRelease k at_ frames crcLanes syncLanes err) s

/-- SLOT_GRANT: The SE hands ring slots of a stream queue to the link's CPs by MESSAGE to MQ 0 (R361). -/
def execSlotGrant (q : Nat) (s : State) : Host.Outcome State Fault Refusal :=
  act (wfSlotGrant q) (slotGrant q) s

/-- CP_TRIGGER: A trigger message at a CP places a record trigger or a start trigger in the sample history (R366). -/
def execCpTrigger (n : Nat) (s : State) : Host.Outcome State Fault Refusal :=
  act (wfCpTrigger n) (cpTrigger n) s

/-- CP_TIMED_START: A released timed start starts an armed stream, or is counted as ignored (R365). -/
def execCpTimedStart (n : Nat) (s : State) : Host.Outcome State Fault Refusal :=
  act (wfCpTimedStart n) (cpTimedStart n) s

/-- CP_TIMED_STOP: A released timed stop stops a stream, or is counted as ignored (R373). -/
def execCpTimedStop (n : Nat) (s : State) : Host.Outcome State Fault Refusal :=
  act (wfCpTimedStop n) (cpTimedStop n) s

/-- RECORD_END: A CP finishes its share of a record and sends a fenced record-end MESSAGE to the SE (R370). -/
def execRecordEnd (l : Nat) (s : State) : Host.Outcome State Fault Refusal :=
  act (wfRecordEnd l) (recordEnd l) s

/-- RECORD_COMPLETE: All L record-end messages have arrived and the SE writes the record completion (R370). -/
def execRecordComplete (q : Nat) (s : State) : Host.Outcome State Fault Refusal :=
  act (wfRecordComplete q) (recordComplete q) s

/-- TX_PREFETCH_DONE: The playback buffers hold the first record's prefetch and STREAM_ARM completes (R371). -/
def execTxPrefetchDone (q : Nat) (s : State) : Host.Outcome State Fault Refusal :=
  act (wfTxPrefetchDone q) (txPrefetchDone q) s

/-- TX_FRAME_DUE: A TX frame is due; its samples play, or idle samples replace missing data (R372). -/
def execTxFrameDue (k : Nat) (at_ : Int) (err : MemErr) (s : State) : Host.Outcome State Fault Refusal :=
  act (wfTxFrameDue k at_ err) (txFrameDue k at_ err) s

/-- TRACE_DRAIN_POLL: The SE polls a trace FIFO and moves the whole records present into the current slot (R506). -/
def execTraceDrainPoll (f : Nat) (s : State) : Host.Outcome State Fault Refusal :=
  act (wfTraceDrainPoll f) (traceDrainPoll f) s

end Sys2Proof.Machine
end

