-- ==== Sys2Proof/Machine/Ethernet.lean ====
section
/-! DEFINITION. Ethernet ports (spec/14): classification, priority flow control, PTP timestamps, queue pairs as requester
and responder, RoCEv2 placement and raw datagrams. The wire formats of Ethernet, IP, UDP, PTP and the RoCEv2 transport
headers are those of their standards (PRESUMED, log entry 43). -/
namespace Sys2Proof.Machine

/-! Ports. -/

/-- NI of port `p`. -/
def epNi (p : Nat) : Nat := 44 + p

/-- Port `p`. -/
def Dev.eport (d : Dev) (p : Nat) : EthPort := d.eth.port.get {} p

/-- The device with `f` applied to port `p`. -/
def Dev.upPort (p : Nat) (f : EthPort → EthPort) (d : Dev) : Dev :=
  { d with eth := { d.eth with port := d.eth.port.modify {} p f } }

/-- A counter of port `p` (0x2B60 + p) plus `n`; saturating at its width. -/
def Dev.countPort (p sub n : Nat) (d : Dev) : Dev :=
  let w := if sub = 2 ∨ sub = 3 ∨ sub = 8 ∨ sub = 9 then 64 else 32
  d.upPort p fun x => { x with counts := x.counts.modify 0 sub fun v => satAdd w v n }

/-- An object of port `p` in the shadow of its ECLK domain (spec/09). -/
def Dev.portObj (d : Dev) (p sub : Nat) : Nat := (d.shadow (5 + p)).nat (0x2B00 + p) sub

/-- A frame leaves port `p` where its link is up (R410). -/
def sendFrame (p : Nat) (f : EthFrame) (d : Dev) : Dev :=
  if (d.eport p).link = 2 then (d.upPort p fun x => { x with sent := some f }).countPort p 3 1 else d

/-- Whether a received PFC XOFF stops a priority of port `p` (R387). -/
def paused (d : Dev) (p prio : Nat) : Bool := decide (0 < (d.eport p).paused.get 0 prio)

/-- A frame of a priority leaves port `p`, or waits while the priority is stopped (R387). -/
def transmit (p prio : Nat) (f : EthFrame) (d : Dev) : Dev :=
  if (d.eport p).link = 2 ∧ paused d p prio = true then d.upPort p fun x => { x with held := x.held ++ [(prio, f)] }
  else sendFrame p f d

/-- The frames whose priorities are stopped no more leave in order (R387). -/
def releaseHeld (p : Nat) (d : Dev) : Dev :=
  let x := d.eport p
  Dev.fold (x.held.filter fun h => !(paused d p h.1)) (fun h e => sendFrame p h.2 e)
    (d.upPort p fun y => { y with held := x.held.filter fun h => paused d p h.1 })

/-- Whether work of a partition is stopped at port `p`: its fence, or PD_ETH not running (R405, R412). -/
def portFenced (d : Dev) (p part : Nat) : Bool := d.fenceBit part || !(d.unitUp (epNi p))

/-! Frames. -/

/-- A big-endian field. -/
def be (b : Bytes) (o n : Nat) : Nat := Bytes.toNatBE (b.slice o n)

/-- What classification reads of a frame (R386). -/
structure Parsed where
  /-- Destination MAC, first octet in bits [47:40]. -/
  dst : Nat
  /-- VLAN tag control information. -/
  tci : Option Nat
  /-- EtherType after the tag. -/
  ety : Nat
  /-- What follows the EtherType. -/
  body : Bytes
  /-- UDP destination port, IP destination as 16 bytes, UDP payload. -/
  udp : Option (Nat × Bytes × Bytes)

/-- IPv4 as ::ffff:a.b.c.d (R396). -/
def mapped (ip4 : Bytes) : Bytes := List.replicate 10 (byte 0) ++ [byte 255, byte 255] ++ ip4

/-- The UDP part of an IPv4 or IPv6 packet that holds its headers. -/
def udpOf (ety : Nat) (b : Bytes) : Option (Nat × Bytes × Bytes) :=
  let l4 (o : Nat) (ip : Bytes) : Option (Nat × Bytes × Bytes) :=
    if o + 8 ≤ b.length then some (be b (o + 2) 2, ip, b.slice (o + 8) (be b (o + 4) 2 - 8)) else none
  if ety = 0x0800 ∧ be b 0 1 / 16 = 4 ∧ be b 9 1 = 17 then l4 (be b 0 1 % 16 * 4) (mapped (b.slice 16 4))
  else if ety = 0x86DD ∧ be b 0 1 / 16 = 6 ∧ be b 6 1 = 17 then l4 40 (b.slice 24 16)
  else none

/-- A frame with the octets that it lacks of Ethernet's least frame, 60 without the FCS. What a port reads there is a free value:
the spec states nothing for a shorter frame. -/
def padFrame (d : Dev) (f : Bytes) : Bytes :=
  f ++ (List.range (60 - f.length)).map fun i => Config.absentOctet d.free (f.length + i)

/-- A frame taken apart. -/
def parseFrame (f : Bytes) : Parsed :=
  let tagged := be f 12 2 == 0x8100
  let o := if tagged then 18 else 14
  let ety := be f (o - 2) 2
  let body := f.drop o
  { dst := be f 0 6, tci := if tagged then some (be f 14 2) else none, ety := ety, body := body, udp := udpOf ety body }

/-- Whether step 1 of R386 drops a frame. -/
def filtered (d : Dev) (p : Nat) (x : Parsed) : Bool :=
  let c := d.shadow (5 + p)
  let fl := d.portObj p 4
  let group := x.dst / 2 ^ 40 % 2 == 1
  let bcast := x.dst == 2 ^ 48 - 1
  let listed (lo : Nat) : Bool := x.dst != 0 && (List.range 16).any fun i => c.nat (0x2B08 + p) (lo + i) == x.dst
  let known := x.dst == d.portObj p 3 % 2 ^ 48 || listed 1 || listed 0x11 || (bcast && bitOf fl 0) || (group && !bcast && bitOf fl 1)
  let vlan := match x.tci with
    | some t => (List.range 16).any fun i => c.nat (0x2B08 + p) (0x21 + i) == t % 4096
    | none => bitOf fl 4
  !known || (bitOf fl 3 && !vlan)

/-- Picoseconds as 2⁻¹⁶ ns. -/
def psTime (v : Int) : Int := v * 65536 / 1000

/-- Whether a timestamp of port `p` is valid (R388, R413). -/
def stampValid (d : Dev) (p : Nat) : Bool := (d.ni (epNi p)).loaded && !(d.ni (epNi p)).outOfStep

/-- Ingress timestamp (R388). -/
def ingressStamp (d : Dev) (p : Nat) (t : Int) : Int :=
  t - psTime (Config.ethLatency (d.portObj p 2) 0 : Nat) + psTime ((d.shadow (5 + p)).int (0x2B00 + p) 0xA)

/-- Egress timestamp (R388). -/
def egressStamp (d : Dev) (p : Nat) (t : Int) : Int :=
  t + psTime (Config.ethLatency (d.portObj p 2) 1 : Nat) + psTime ((d.shadow (5 + p)).int (0x2B00 + p) 0xB)

/-- A frame for the firmware (R389). -/
def toFirmware (p : Nat) (f : Bytes) (t : Int) (d : Dev) : Dev :=
  d.upPort p fun x => { x with toFw := x.toFw ++ [{ frame := f, stamp := ingressStamp d p t, valid := stampValid d p }] }

/-- A PFC frame: a quanta field per enabled priority; 0 resumes it (R387). -/
def takePfc (p : Nat) (b : Bytes) (d : Dev) : Dev :=
  releaseHeld p (Dev.fold ((List.range 8).filter (bitOf (be b 2 2))) (fun i e =>
    e.upPort p fun x => { x with paused := x.paused.set i (be b (4 + 2 * i) 2) }) d)

/-- Bytes in a port's receive buffer: the frames that wait there and the data that its NI has not injected yet (R387). -/
def portLevel (d : Dev) (p : Nat) : Nat :=
  let x := d.ni (epNi p)
  (d.eport p).buf.foldl (fun a f => a + f.length) 0
    + ((x.atUnit ++ x.out).filter fun o => o.kind == .posted).foldl (fun a o => a + o.pkt.size) 0

/-- XOFF and XON by the buffer's level (R387). -/
def pfcLevel (p : Nat) (d : Dev) : Dev :=
  let x := d.eport p
  let thr := d.portObj p 8 * 1024
  let prios := d.portObj p 7
  if prios = 0 then d
  else if x.xoff = false ∧ thr < portLevel d p then sendFrame p (.pfc prios true) (d.upPort p fun y => { y with xoff := true })
  else if x.xoff = true ∧ portLevel d p + 32768 ≤ thr then sendFrame p (.pfc prios false) (d.upPort p fun y => { y with xoff := false })
  else d

/-- Whether a frame finds no room in the receive buffer of port `p` (R387). -/
def noRoom (d : Dev) (p : Nat) (f : Bytes) : Bool := decide (262144 < portLevel d p + f.length)

/-! Network queues. -/

/-- QP of a network queue. -/
def Queue.qpNo (x : Queue) : Nat := x.kparam.le 0 2

/-- ROLE. -/
def Queue.role (x : Queue) : Nat := x.kparam.le 2 1

/-- PORT. -/
def Queue.port (x : Queue) : Nat := x.kparam.le 3 1

/-- SEL. -/
def Queue.sel (x : Queue) : Nat := x.kparam.le 4 1

/-- The queue of a QP with a role. -/
def qpQueue (d : Dev) (n role : Nat) : Option (Nat × Queue) :=
  List.find? (fun (e : Nat × Queue) => e.2.kind == 3 && e.2.role == role && e.2.qpNo == n) d.queues.q

/-- The raw receive queue bound to rule `r` of port `p`. -/
def ruleQueue (d : Dev) (p r : Nat) : Option (Nat × Queue) :=
  List.find? (fun (e : Nat × Queue) => e.2.kind == 3 && e.2.role == 3 && e.2.port == p && e.2.sel == r) d.queues.q

/-- QP `n`. -/
def Dev.qp (d : Dev) (n : Nat) : Qp := d.eth.qp.get {} n

/-- The device with `f` applied to QP `n`. -/
def Dev.upQp (n : Nat) (f : Qp → Qp) (d : Dev) : Dev := { d with eth := { d.eth with qp := d.eth.qp.modify {} n f } }

/-- The next RECV entry of a queue (R401, R404). -/
def nextRecv (d : Dev) (q : Nat) : Option Cmd :=
  (d.eng (seOf q)).cmds.find? fun k => k.q == q && k.st == .waiting && k.bytes.le 0 1 == 0x20 && !k.delivered

/-- A unit reports the end of an entry with a fenced MESSAGE to the SE (R401). The spec names no MQ or CODE for it: MQ 3,
CODE 0x0013, with queue, index, status, DETAIL, OPCODE and RESULT. -/
def reportDone (n part q i status detail op result : Nat) (d : Dev) : Dev :=
  let d1 := upCmd q (atIndex i) (fun k => { k with delivered := true }) d
  startFenced (messagePkt n part 2 (seNi (seOf q)) 3 0x0013
    (leBytes 2 q ++ leBytes 2 i ++ [byte status, byte detail, byte op] ++ leBytes 4 result)) none d1

/-- A unit's report has arrived at the SE: the entry that waits for it ends; a mark not answered OK makes it WRITE_FAILED (R297, R401). -/
def doneIn (m : Packet) (d : Dev) : Dev :=
  let q := m.data.le 0 2
  let i := m.data.le 2 2
  let status := m.data.le 4 1
  let st := if m.mstat ≠ 0 ∧ status = 0 then (9, m.mstat) else (status, m.data.le 5 1)
  upCmd q (fun k => k.index == i && k.st == .waiting && k.delivered) (fun k => { k with
    st := .done, status := st.1, detail := st.2, result := m.data.le 7 4, cop := m.data.le 6 1 }) (forgetCmd q i d)

/-- A raw frame goes to its queue (R404, R405). -/
def rawDeliver (p q : Nat) (x : Queue) (f : Bytes) (d : Dev) : Dev :=
  if portFenced d p x.part then d.countPort p 0x12 1
  else match nextRecv d q with
    | none => d.countPort p 5 1
    | some k =>
      if k.bytes.le 16 4 < f.length then d.countPort p 5 1
      else reportDone (epNi p) x.part q k.index 0 0 0x93 f.length (pfcLevel p (engineWrite (epNi p) x.part (d.portObj p 5) k.a f d))

/-- Object of rule `r` of port `p`: 1 UDP port, 3 partition. -/
def ruleObj (d : Dev) (p r k : Nat) : Nat := (d.shadow (5 + p)).nat (0x2B18 + p) (3 * r + k)

/-- Whether rule `r` of port `p` matches a UDP destination (R404). -/
def ruleMatches (d : Dev) (p r port : Nat) (ip : Bytes) : Bool :=
  let rip := (d.shadow (5 + p)).bytesAt 0 (0x2B18 + p) (3 * r + 2)
  ruleObj d p r 3 != 0xFF && ruleObj d p r 1 == port && port != 0 && ((rip.all fun b => b == byte 0) || rip == ip)

/-- Whether a UDP payload is a transport packet of UC, UD or XRC for the device's QPN range: it takes step 7 (R397). -/
def otherTransport (u : Nat × Bytes × Bytes) : Bool :=
  let op := be u.2.2 0 1
  u.1 == 4791 && decide (12 ≤ u.2.2.length) && be u.2.2 5 3 / 4096 == 0x10 && (op / 32 == 1 || op / 32 == 3 || op / 32 == 5)

/-- Steps 6 and 7 of R386. -/
def rawSteps (p : Nat) (x : Parsed) (f : Bytes) (d : Dev) : Dev :=
  let rule := x.udp.bind fun u =>
    if otherTransport u then none else (List.range 16).find? fun r => ruleMatches d p r u.1 u.2.1
  let target := match rule with
    | some r => ruleQueue d p r
    | none => (List.range 16).findSome? fun r =>
        if ruleObj d p r 1 = 0 ∧ ruleObj d p r 3 ≠ 0xFF then ruleQueue d p r else none
  match target with
  | some (q, y) => rawDeliver p q y f d
  | none => d.countPort p 6 1

/-- Whether a UDP payload is a RoCEv2 packet for one of the device's QPs (step 5 of R386); UC, UD and XRC packets are
not (R397). -/
def isRoce (u : Nat × Bytes × Bytes) : Bool :=
  let op := be u.2.2 0 1
  u.1 == 4791 && decide (12 ≤ u.2.2.length) && be u.2.2 5 3 / 4096 == 0x10 && (op / 32 == 0 || op == 0x81)

/-- A frame that passed the FCS check is classified (R386). -/
def classify (p : Nat) (f : Bytes) (t : Int) (d : Dev) : Dev :=
  let x := parseFrame (padFrame d f)
  if filtered d p x then d.countPort p 6 1
  else if x.ety = 0x8808 then
    if be x.body 0 2 = 0x0101 then takePfc p x.body d
    else if be x.body 0 2 = 0x0001 then d.countPort p 4 1
    else d
  else if noRoom d p f then d.countPort p 5 1
  else if x.ety = 0x88F7 ∨ (x.udp.map fun u => u.1 == 319 || u.1 == 320) = some true then toFirmware p f t d
  else if x.ety = 0x8809 ∧ be x.body 0 1 = 0x0A then toFirmware p f t d
  else if (x.udp.map isRoce) = some true then pfcLevel p (d.upPort p fun y => { y with buf := y.buf ++ [f] })
  else rawSteps p x f d

/-- An armed field injection at port `p` (R407, R482). -/
def portInjected (d : Dev) (src p : Nat) : Bool := d.armedFor src p

/-- FRAME_RECEIVE: a frame arrives on port `p` with what the FCS and the FEC found; `at_` is the event time (R386, R388). -/
def frameReceive (p : Nat) (frame : Bytes) (fcsOk : Bool) (at_ : Int) (corr uncorr : Nat) (d : Dev) : Dev :=
  if (d.eport p).link ≠ 2 ∨ d.unitUp (epNi p) = false then d
  else
    let d1 := (d.countPort p 8 corr).countPort p 9 uncorr
    let d2 := if 0 < uncorr then d1.raise 0xBB p else d1
    let inj := portInjected d 0xBA p
    if fcsOk = false ∨ inj = true then
      ((if inj then d2.spend else d2).countPort p 7 1).raise 0xBA p 0xFF 0 inj
    else (classify p frame at_ (d2.countPort p 2 1)).when (decide (frame.length < 60)) (Dev.onFree (· + 1))

/-- PFC_PAUSE_EXPIRY (R387). -/
def pfcPauseExpiry (p prio : Nat) (d : Dev) : Dev :=
  releaseHeld p (d.upPort p fun x => { x with paused := x.paused.erase prio })

/-! PTP frames of the firmware (R389 to R391). -/

/-- Offset of the PTP message in a frame, and whether it travels over IPv4, IPv6. -/
def ptpOffset (f : Bytes) : Nat × Bool × Bool :=
  let o := if be f 12 2 = 0x8100 then 18 else 14
  let ety := be f (o - 2) 2
  if ety = 0x0800 then (o + 28, true, false) else if ety = 0x86DD then (o + 48, false, true) else (o, false, false)

/-- A frame with `bs` in place at offset `o`. -/
def patch (f : Bytes) (o : Nat) (bs : Bytes) : Bytes := f.take o ++ bs ++ f.drop (o + bs.length)

/-- Ones-complement sum of 16-bit words, big-endian. -/
def onesSum : Bytes → Nat → Nat
  | a :: b :: t, acc => onesSum t (acc + a.toNat * 256 + b.toNat)
  | [a], acc => acc + a.toNat * 256
  | [], acc => acc

/-- The folded ones-complement sum. -/
def fold16 (v : Nat) : Nat :=
  let w := v % 65536 + v / 65536
  let u := w % 65536 + w / 65536
  u % 65536 + u / 65536

/-- The Internet checksum of a byte string, with 0 sent as all ones where `udp`. -/
def inetSum (udp : Bool) (v : Nat) : Nat :=
  let c := 65535 - fold16 v
  if udp = true ∧ c = 0 then 65535 else c

/-- The egress timestamp written into a one-step Sync (R390). The checksum-neutral trailer of the last two octets keeps
the ones-complement sum of the message as it was. -/
def oneStepFrame (f : Bytes) (t : Int) : Bytes :=
  let o := ptpOffset f
  let v := t.toNat
  let corr := (be f (o.1 + 8) 8 + v % 65536) % 2 ^ 64
  let g := patch (patch f (o.1 + 8) (beBytes 8 corr)) (o.1 + 34) (beBytes 6 (v / 65536000000000) ++ beBytes 4 (v / 65536 % 1000000000))
  if o.2.1 then patch g (o.1 - 2) [byte 0, byte 0]
  else if o.2.2 then
    let old := fold16 (onesSum (f.drop o.1) 0)
    let new := fold16 (onesSum ((patch g (g.length - 2) [byte 0, byte 0]).drop o.1) 0)
    patch g (g.length - 2) (beBytes 2 ((old + 65535 - new) % 65535))
  else g

/-- The priority of a frame: its VLAN PCP, 0 where it is untagged (R387). -/
def framePrio (f : Bytes) : Nat := if be f 12 2 = 0x8100 then be f 14 1 / 32 else 0

/-- PTP_TRANSMIT: the port sends a frame of the firmware; a Sync marked one-step carries its timestamp, another event
message leaves a two-step entry, and a Follow_Up is sent from the Sync's entry, which the firmware has read (R389 to R391). A
frame that does not hold a PTP message's 44 octets is sent as it is. -/
def ptpTransmit (p : Nat) (frame : Bytes) (oneStep : Bool) (at_ : Int) (d : Dev) : Dev :=
  if (d.eport p).link ≠ 2 ∨ d.unitUp (epNi p) = false ∨ paused d p (framePrio frame) = true then d
  else
    let o := (ptpOffset frame).1
    let ty := be frame o 1 % 16
    let x := parseFrame frame
    let isPtp := decide (o + 44 ≤ frame.length) && (x.ety == 0x88F7 || (x.udp.map fun u => u.1 == 319 || u.1 == 320) == some true)
    let t := egressStamp d p at_
    if isPtp = true ∧ ty = 0 ∧ oneStep = true ∧ d.portObj p 0xC = 1 then sendFrame p (.firmware (oneStepFrame frame t)) d
    else
      let d1 := sendFrame p (.firmware frame) d
      if isPtp = true ∧ ty ≤ 3 then
        if 64 ≤ (d.eport p).fifo.length then (d1.countPort p 0xE 1).raise 0xBF p
        else d1.upPort p fun y => { y with
          fifo := y.fifo ++ [{ ty := ty, dom := be frame (o + 4) 1, seqId := be frame (o + 30) 2, stamp := t, valid := stampValid d p }] }
      else if isPtp = true ∧ ty = 8 then
        d1.upPort p fun y => { y with fifo := y.fifo.filter fun e => !(e.ty == 0 && e.seqId == be frame (o + 30) 2) }
      else d1

/-! Queue pairs: requester (R395, R396, R398). -/

/-- Byte `i` of the QP_MODIFY that made the QP READY. -/
def Qp.attr (x : Qp) (i : Nat) : Nat := x.attrs.le (i - 9) 1

/-- MTU in bytes. -/
def Qp.mtu (x : Qp) : Nat := 128 * 2 ^ x.attr 9

/-- The VLAN priority of the QP's frames; untagged frames have priority 0 (R387). -/
def Qp.prio (x : Qp) : Nat :=
  let v := x.attrs.le 21 2
  if bitOf v 15 then bitsOf v 14 12 else 0

/-- Serial difference of PSNs: `a` at or after `b`. -/
def psnAfter (a b : Nat) : Bool := decide ((a + 2 ^ 24 - b % 2 ^ 24) % 2 ^ 24 < 2 ^ 23)

/-- A PSN plus `n`. -/
def psnAdd (a n : Nat) : Nat := (a + n) % 2 ^ 24

/-- The started entries of a network queue that have not ended complete ABORTED (R398). -/
def flushEntries (q : Nat) (d : Dev) : Dev :=
  let live := (d.eng (seOf q)).cmds.filter fun k => k.q == q && (k.st == .waiting || k.st == .running) && !k.delivered && k.bytes.le 0 1 != 0x10
  Dev.fold live (fun k e => endCmd q k.index 8 0 0 (forgetCmd q k.index e)) d

/-- Both queues of a QP are flushed. -/
def flushQp (n : Nat) (d : Dev) : Dev :=
  Dev.fold [0, 1] (fun r e => match qpQueue e n r with
    | some (q, _) => flushEntries q e
    | none => e) d

/-- A QP enters ERROR (R398, R399). -/
def enterError (n p : Nat) (d : Dev) : Dev :=
  let part := match qpQueue d n 0 with
    | some (_, x) => x.part
    | none => 0xFF
  flushQp n ((d.upQp n fun x => { x with state := 2, msgs := [], rnrAt := none, rx := none, unacked := 0 }).raise 0xBD p part)

/-- BTH opcode of packet `i` of `n` of a message (R397). -/
def packetOp (op i n : Nat) : Nat :=
  let base := if op = 1 then 0 else 6
  if n = 1 then (if op = 3 then 0xB else base + 4)
  else if i = 0 then base
  else if i + 1 < n then base + 1
  else if op = 3 then 9 else base + 2

/-- Packets of a message of `len` bytes. -/
def packetCount (len mtu : Nat) : Nat := max 1 ((len + mtu - 1) / max 1 mtu)

/-- Sends the packets of a message from packet `lo` on. -/
def sendPackets (p n : Nat) (m : OutMsg) (lo : Nat) (d : Dev) : Dev :=
  let mtu := (d.qp n).mtu
  let k := packetCount m.data.length mtu
  Dev.fold (span lo k) (fun i e =>
    let op := packetOp m.op i k
    transmit p (d.qp n).prio (.roce {
      qp := n, op := op, psn := psnAdd m.first i, data := m.data.slice (i * mtu) mtu
      reth := if m.op ≠ 1 ∧ i = 0 then some (m.va, m.rkey, m.data.length) else none
      imm := if op = 9 ∨ op = 0xB then some m.imm else none }) e) d

/-- Retransmission is go-back-N from a PSN (R398). -/
def goBack (p n psn : Nat) (d : Dev) : Dev :=
  Dev.fold ((d.qp n).msgs.filter fun m => psnAfter m.last psn) (fun m e =>
    let lo := if psnAfter psn m.first then (psn + 2 ^ 24 - m.first) % 2 ^ 24 else 0
    (sendPackets p n m lo e).countPort p 0xC (packetCount m.data.length (d.qp n).mtu - lo)) d

/-- Transport retries that a QP has anew. -/
def Qp.freshRetries (x : Qp) : Qp := { x with retries := x.attr 11 % 8, rnrs := x.attr 11 / 16 % 8 }

/-- The oldest messages that `covered` names complete with their bytes (R398). -/
def completeMsgs (n : Nat) (covered : OutMsg → Bool) (d : Dev) : Dev :=
  let done := (d.qp n).msgs.takeWhile covered
  match qpQueue d n 0 with
  | none => d
  | some (q, _) =>
    if done.isEmpty then d
    else Dev.fold done (fun m e => endCmd q m.index 0 0 m.data.length e)
      (d.upQp n fun x => { x.freshRetries with msgs := x.msgs.drop done.length })

/-- The oldest message of a QP ends with a status and the QP enters ERROR. -/
def failOldest (n p status detail : Nat) (d : Dev) : Dev :=
  match qpQueue d n 0, (d.qp n).msgs with
  | some (q, _), m :: _ => enterError n p (endCmd q m.index status detail 0 d)
  | _, _ => d

/-- A transport retry: go-back-N from `psn`, or RETRY_EXCEEDED (R398). -/
def transportRetry (n p psn : Nat) (d : Dev) : Dev :=
  if (d.qp n).retries = 0 then failOldest n p 0x0D 0 d
  else goBack p n psn (d.upQp n fun x => { x with retries := x.retries - 1 })

/-- The field checks of R395: the DETAIL of the first field that fails. -/
def netFault (op : Nat) (b : Bytes) : Option Nat :=
  let fl := b.le 1 1
  let inl := bitOf fl 0
  let il := b.le 2 2
  let len := b.le 16 4
  if op = 4 ∨ op = 0x20 then
    if 8 ≤ fl ∨ inl = true then some 1
    else if il ≠ 0 then some 2
    else if op = 4 ∧ len = 0 then some 16
    else if anySet b 20 64 then some 20
    else none
  else
    if 8 ≤ fl then some 1
    else if (inl = false ∧ il ≠ 0) ∨ 28 < il ∨ (inl = true ∧ il = 0 ∧ op ≠ 3) then some 2
    else if inl = true ∧ anySet b 8 16 = true then some 8
    else if (if inl then len ≠ 0 else (len = 0 ∧ op ≠ 3) ∨ 2 ^ 31 < len) then some 16
    else if op ≠ 3 ∧ anySet b 20 24 = true then some 20
    else if op = 1 ∧ anySet b 24 32 = true then some 24
    else if op = 1 ∧ anySet b 32 36 = true then some 32
    else if anySet b (36 + il) 64 then some 36
    else none

/-- Runs a work entry of a network queue after its checks (R395, R283). -/
def runNet (q op : Nat) (act_ : Queue → Cmd → Dev → Dev) (d : Dev) : Dev :=
  match d.queue? q, runningCmd d q op with
  | some x, some k =>
    if x.kind ≠ 3 ∨ portFenced d x.port x.part = true then d
    else match netFault op k.bytes with
      | some det => refuseCmd q k.index 2 det d
      | none =>
        let len := k.bytes.le 16 4
        let f := if len = 0 then 0 else spanFault d.fcfg x.part k.a len
        if f ≠ 0 then accessFault q k.index f d else act_ x k d
  | _, _ => d

/-- The pieces of a span that do not cross a multiple of 64: a QP's local reads (R398). -/
def reads64 (a len : Nat) : List (Nat × Nat) :=
  if len = 0 then []
  else (span (a / 64) ((a + len - 1) / 64 + 1)).map fun b =>
    let lo := max a (64 * b)
    (lo, min (a + len) (64 * b + 64) - lo)

/-- Whether an entry is the oldest of its queue in execution: messages are sent in ring order (R398). -/
def oldestRunning (d : Dev) (q : Nat) (k : Cmd) : Bool :=
  ((d.eng (seOf q)).cmds.find? fun c => c.q == q && c.st == .running) == some k

/-- The message of an entry whose local data is `data` is sent (R398). -/
def sendMsg (op : Nat) (x : Queue) (k : Cmd) (data : Bytes) (d : Dev) : Dev :=
  let n := x.qpNo
  let y := d.qp n
  let cnt := packetCount data.length y.mtu
  let m : OutMsg := {
    index := k.index, first := y.sqPsn, last := psnAdd y.sqPsn (cnt - 1), op := op, data := data
    va := k.bytes.le 24 8, rkey := k.bytes.le 32 4, imm := k.bytes.le 20 4 }
  let d1 := upCmd k.q (atIndex k.index) (fun c => { c with st := .waiting }) d
  sendPackets x.port n m 0 (d1.upQp n fun z => { z with sqPsn := psnAdd z.sqPsn cnt, msgs := z.msgs ++ [m] })

/-- A message of a send queue (R398): READY reads its data and sends it, ERROR aborts it, RESET keeps it waiting. The local
data are the inline bytes, or come by READs in the port's data class; a later run sends once they have come. -/
def sendEntry (op q : Nat) (d : Dev) : Dev :=
  runNet q op (fun x k e =>
    let y := e.qp x.qpNo
    if y.state = 2 then endCmd q k.index 8 0 0 (forgetCmd q k.index e)
    else if y.state = 0 ∨ oldestRunning e q k = false ∨ paused e x.port y.prio = true then e
    else if bitOf (k.bytes.le 1 1) 0 then sendMsg op x k (k.bytes.slice 36 (k.bytes.le 2 2)) e
    else withRead (epNi x.port) x.part (e.portObj x.port 5) (queueKey q k.index 2) (reads64 k.a (k.bytes.le 16 4)) (fun st bs f =>
      if st ≠ 0 then endOnStatus q k.index st 0 f else sendMsg op x k bs f) e) d

/-- SEND (R398). -/
def send (q : Nat) (d : Dev) : Dev := sendEntry 1 q d

/-- RDMA_WRITE (R398). -/
def rdmaWrite (q : Nat) (d : Dev) : Dev := sendEntry 2 q d

/-- RDMA_WRITE_IMM (R398). -/
def rdmaWriteImm (q : Nat) (d : Dev) : Dev := sendEntry 3 q d

/-- RECV: a receive buffer is posted; in ERROR it completes ABORTED (R395, R398, R401). -/
def recv (q : Nat) (d : Dev) : Dev :=
  runNet q 0x20 (fun x k e =>
    if x.role = 1 ∧ (e.qp x.qpNo).state = 2 then endCmd q k.index 8 0 0 e
    else upCmd q (atIndex k.index) (fun c => { c with st := .waiting }) e) d

/-- The DETAIL of the first QP_MODIFY field that fails (R396). -/
def qpModifyFault (now : Nat) (b : Bytes) : Option Nat :=
  let t := b.le 8 1
  let ready := now == 0 && t == 1
  if 8 ≤ b.le 1 1 ∨ bitOf (b.le 1 1) 0 = true then some 1
  else if b.le 2 2 ≠ 0 then some 2
  else if 2 < t ∨ (now = 2 ∧ t = 1) then some 8
  else if ready then
    if b.le 9 1 = 0 ∨ 5 < b.le 9 1 then some 9
    else if b.le 10 1 = 0 ∨ 31 < b.le 10 1 then some 10
    else if bitOf (b.le 11 1) 3 = true ∨ bitOf (b.le 11 1) 7 = true then some 11
    else if 31 < b.le 12 1 then some 12
    else if 7 < b.le 13 1 then some 13
    else if b.le 19 1 ≠ 0 then some 16
    else if b.le 23 1 ≠ 0 then some 20
    else if b.le 27 1 ≠ 0 then some 24
    else if anySet b 38 40 then some 38
    else if anySet b 56 256 then some 56
    else none
  else (span 9 256).find? fun i => anySet b i (i + 1)

/-- QP_MODIFY (R396): the QP moves among RESET, READY and ERROR. Leaving READY for RESET flushes its entries. -/
def qpModify (q : Nat) (d : Dev) : Dev :=
  match d.queue? q, runningCmd d q 0x10 with
  | some x, some k =>
    let n := x.qpNo
    let y := d.qp n
    if x.kind ≠ 3 ∨ portFenced d x.port x.part = true then d
    else match qpModifyFault y.state k.bytes with
      | some det => refuseCmd q k.index 2 det d
      | none =>
        let t := k.bytes.le 8 1
        let d1 :=
          if y.state = 0 ∧ t = 1 then
            let z : Qp := { state := 1, attrs := k.bytes.slice 9 47, sqPsn := k.bytes.le 20 3, rqPsn := k.bytes.le 24 3 }
            d.upQp n fun _ => z.freshRetries
          else if t = 2 ∧ y.state ≠ 2 then enterError n x.port d
          else if t = 0 then flushQp n { d with eth := { d.eth with qp := d.eth.qp.erase n } }
          else d
        endCmd q k.index 0 0 0 d1
  | _, _ => d

/-! RoCEv2 packets (R397 to R401). -/

/-- The front RoCEv2 frame of a port: BTH opcode, QP, PSN, what follows the BTH with the pad and the ICRC taken off. -/
def frontRoce (d : Dev) (p : Nat) : Option (Nat × Nat × Nat × Bytes) :=
  (d.eport p).buf.head?.bind fun f => (parseFrame f).udp.map fun u =>
    let b := u.2.2
    let pad := be b 1 1 / 16 % 4
    (be b 0 1, be b 5 3 % 4096, be b 9 3, (b.drop 12).take (b.length - 12 - 4 - pad))

/-- The front frame leaves the receive buffer. -/
def popRoce (p : Nat) (d : Dev) : Dev := pfcLevel p (d.upPort p fun x => { x with buf := x.buf.drop 1 })

/-- A QP_MODIFY to ERROR or RESET that QP `n` has been handed takes effect before a packet that reaches the QP (R409). -/
def modifyFirst (n : Nat) (d : Dev) : Dev :=
  match qpQueue d n 0 with
  | none => d
  | some (q, _) =>
    match runningCmd d q 0x10 with
    | some k => if k.bytes.le 8 1 = 1 then d else qpModify q d
    | none => d

/-- What an arriving RoCEv2 packet meets before its QP acts: `some` the device where it is dropped (R397, R393, R405,
R407). `err` is what SECDED finds in the packet's buffer words, `qpErr` in the entry of the QP table. -/
def roceDrop (p n : Nat) (icrcOk : Bool) (err qpErr : MemErr) (d : Dev) : Option Dev :=
  if err = .uncorrectable then some (d.raise 0xB9 p)
  else if icrcOk = false then some ((d.countPort p 7 1).raise 0xBA p)
  else match qpQueue d n 0 with
    | none => some (d.countPort p 6 1)
    | some (_, x) =>
      if x.port ≠ p then some (d.countPort p 6 1)
      else if portFenced d p x.part then some (d.countPort p 0x12 1)
      else if qpErr = .uncorrectable then
        some ((if (d.qp n).state = 2 then d else enterError n p d).raise 0xB9 p x.part)
      else if (d.qp n).state ≠ 1 then some d
      else none

/-- An acknowledgement leaves port `p` (R399). -/
def sendAck (p n psn syndrome : Nat) (d : Dev) : Dev :=
  (transmit p (d.qp n).prio (.roce { qp := n, op := 0x11, psn := psn, syndrome := some syndrome }) d).when (syndrome / 32 == 3) fun e => e.countPort p 0xA 1

/-- An ACK of everything accepted. -/
def ackAll (p n : Nat) (d : Dev) : Dev :=
  sendAck p n (psnAdd (d.qp n).rqPsn (2 ^ 24 - 1)) 0x1F (d.upQp n fun x => { x with unacked := 0 })

/-- The check of an RDMA WRITE message (R400): the region number where it fails. -/
def regionFault (d : Dev) (part va rkey dlen : Nat) : Option Nat :=
  let n := bitsOf va 63 52
  let o := bitsOf va 38 0
  let owner := d.region n 1
  let ok := bitsOf va 51 39 == 0 && bitOf (d.region n 5) 1 && owner == part && rkey == d.region n 2
    && decide (o + dlen ≤ d.region n 4) && inRanges d.fcfg owner (d.region n 3 + o) dlen
  if ok then none else some n

/-- A message that fails the region check: NAK 0x62, counted, 0xBE, ERROR (R400). -/
def refuseRegion (p n region : Nat) (d : Dev) : Dev :=
  let part := d.region region 1
  enterError n p ((sendAck p n (d.qp n).rqPsn 0x62 (countRegionDrop region d)).raise 0xBE p part)

/-- A packet is accepted in order; an ACK goes after 16 packets and at the end of a message (R399). -/
def acceptPacket (p n : Nat) (last : Bool) (rx : Option RxMsg) (d : Dev) : Dev :=
  let d1 := d.upQp n fun x => { x with rqPsn := psnAdd x.rqPsn 1, nak := false, rx := rx, unacked := x.unacked + 1 }
  if last = true ∨ 16 ≤ (d1.qp n).unacked then ackAll p n d1 else d1

/-- NAK Remote Invalid Request; the QP stays READY (R397). -/
def nakInvalid (p n part : Nat) (d : Dev) : Dev := (sendAck p n (d.qp n).rqPsn 0x61 d).raise 0xBD p part

/-- RNR NAK (R399). -/
def nakRnr (p n : Nat) (d : Dev) : Dev := sendAck p n (d.qp n).rqPsn (0x20 + (d.qp n).attr 12 % 32) d

/-- A SEND packet (R399, R401). -/
def sendPacketIn (p n part : Nat) (first last : Bool) (data : Bytes) (d : Dev) : Dev :=
  match qpQueue d n 1 with
  | none => nakRnr p n d
  | some (rq, _) =>
    let cur : Option (Cmd × Nat) :=
      if first then (nextRecv d rq).map fun k => (k, 0)
      else (d.qp n).rx.bind fun m => if m.write then none else (nextRecv d rq).map fun k => (k, m.off)
    match cur with
    | none => if first then nakRnr p n d else nakInvalid p n part d
    | some (k, off) =>
      if k.bytes.le 16 4 < off + data.length then
        enterError n p (reportDone (epNi p) part rq k.index 0x0E 0 0x91 0 (sendAck p n (d.qp n).rqPsn 0x61 d))
      else
        let d1 := pfcLevel p (engineWrite (epNi p) part (d.portObj p 5) (k.a + off) data d)
        let total := off + data.length
        if last then acceptPacket p n true none (reportDone (epNi p) part rq k.index 0 0 0x91 total d1)
        else acceptPacket p n false (some { write := false, off := total, recv := k.index }) d1

/-- The check of an RDMA WRITE packet: the whole message at its first packet, and later only that no flip has changed its
region (R400, R408). -/
def writeFault (d : Dev) (part : Nat) (first : Bool) (m : RxMsg) : Option Nat :=
  if first then regionFault d part m.va m.rkey m.dlen else if m.stale then some (bitsOf m.va 63 52) else none

/-- Region changes at the FCLK apply edge reach the messages being placed (R408). -/
def messagesAtApply (old new : Cfg) (d : Dev) : Dev :=
  let changed (m : RxMsg) : Bool :=
    m.write && [1, 2, 3, 4, 5].any fun k =>
      old.find? (okey (0x3000 + bitsOf m.va 63 52) k) != new.find? (okey (0x3000 + bitsOf m.va 63 52) k)
  { d with eth := { d.eth with qp := d.eth.qp.map fun (e : Nat × Qp) =>
      (e.1, { e.2 with rx := e.2.rx.map fun m => if changed m then { m with stale := true } else m }) } }

/-- Whether an RDMA WRITE packet is for a region whose owner is fenced (R405). -/
def regionFenced (d : Dev) (part : Nat) (first : Bool) (m : RxMsg) : Bool :=
  let owner := d.region (bitsOf m.va 63 52) 1
  first && owner != part && decide (owner < 16) && d.fenceBit owner

/-- An RDMA WRITE packet (R400, R401, R405, R408). -/
def writePacketIn (p n part : Nat) (first last : Bool) (imm : Option Nat) (reth : Nat × Nat × Nat) (data : Bytes) (d : Dev) : Dev :=
  let cur : Option RxMsg :=
    if first then some { write := true, va := reth.1, rkey := reth.2.1, dlen := reth.2.2 }
    else (d.qp n).rx.bind fun m => if m.write then some m else none
  match cur with
  | none => nakInvalid p n part d
  | some m =>
    if regionFenced d part first m then d.countPort p 0x12 1
    else match writeFault d part first m with
    | some r => refuseRegion p n r d
    | none =>
      if m.dlen < m.off + data.length then nakInvalid p n part d
      else
        let entry := match imm, qpQueue d n 1 with
          | some _, some (rq, _) => (nextRecv d rq).map fun k => (rq, k)
          | _, _ => none
        if imm.isSome = true ∧ entry.isNone = true then nakRnr p n d
        else
          let a := d.region (bitsOf m.va 63 52) 3 + bitsOf m.va 38 0 + m.off
          let d1 := pfcLevel p (engineWrite (epNi p) part (d.portObj p 5) a data d)
          let d2 := match imm, entry with
            | some v, some (rq, k) => reportDone (epNi p) part rq k.index 0 0 0x92 v d1
            | _, _ => d1
          acceptPacket p n last (if last then none else some { m with off := m.off + data.length }) d2

/-- An in-order packet of a READY QP by its opcode (R397, R399). -/
def packetIn (p n part op : Nat) (b : Bytes) (d : Dev) : Dev :=
  let reth := (be b 0 8, be b 8 4, be b 12 4)
  if op = 0 then sendPacketIn p n part true false b d
  else if op = 1 then sendPacketIn p n part false false b d
  else if op = 2 then sendPacketIn p n part false true b d
  else if op = 4 then sendPacketIn p n part true true b d
  else if op = 6 then writePacketIn p n part true false none reth (b.drop 16) d
  else if op = 7 then writePacketIn p n part false false none (0, 0, 0) b d
  else if op = 8 then writePacketIn p n part false true none (0, 0, 0) b d
  else if op = 9 then writePacketIn p n part false true (some (be b 0 4)) (0, 0, 0) (b.drop 4) d
  else if op = 0xA then writePacketIn p n part true true none reth (b.drop 16) d
  else if op = 0xB then writePacketIn p n part true true (some (be b 16 4)) reth (b.drop 20) d
  else if op = 3 ∨ op = 5 ∨ op = 0x0C ∨ op = 0x13 ∨ op = 0x14 ∨ op = 0x16 ∨ op = 0x17 then nakInvalid p n part d
  else d

/-- ROCE_PACKET_RECEIVE: the front request packet of port `p` (R399); `err` and `qpErr` are what SECDED finds in the
buffers and in the QP table. -/
def rocePacketReceive (p : Nat) (icrcOk : Bool) (err qpErr : MemErr) (d : Dev) : Dev :=
  match frontRoce d p with
  | none => d
  | some (op, n, psn, b) =>
    if op = 0x11 then d
    else
      let d0 := (popRoce p (modifyFirst n d)).when (err == .corrected || qpErr == .corrected) (Dev.raise 0xB8 p)
      match roceDrop p n icrcOk err qpErr d0 with
      | some e => e
      | none =>
        let x := d0.qp n
        let part := match qpQueue d0 n 0 with
          | some (_, y) => y.part
          | none => 0
        if op = 0x81 then d0.countPort p 0xD 1
        else if psn = x.rqPsn then packetIn p n part op b d0
        else if psnAfter psn x.rqPsn then
          if x.nak then d0 else sendAck p n x.rqPsn 0x60 (d0.upQp n fun y => { y with nak := true })
        else ackAll p n d0

/-- ACK_RECEIVE: the front acknowledgement of port `p` reaches its QP (R398). -/
def ackReceive (p : Nat) (icrcOk : Bool) (err qpErr : MemErr) (d : Dev) : Dev :=
  match frontRoce d p with
  | none => d
  | some (op, n, psn, b) =>
    if op ≠ 0x11 then d
    else
      let d0 := (popRoce p (modifyFirst n d)).when (err == .corrected || qpErr == .corrected) (Dev.raise 0xB8 p)
      match roceDrop p n icrcOk err qpErr d0 with
      | some e => e
      | none =>
        let syn := be b 0 1
        if syn / 32 = 0 then completeMsgs n (fun m => psnAfter psn m.last) d0
        else
          let d1 := completeMsgs n (fun m => !psnAfter m.last psn) d0
          if (d1.qp n).msgs.isEmpty then d1
          else if syn / 32 = 1 then d1.upQp n fun x => { x with rnrAt := some psn }
          else if syn = 0x60 then transportRetry n p psn (d1.countPort p 0xB 1)
          else if 0x61 ≤ syn ∧ syn ≤ 0x63 then failOldest n p 0x0C syn (d1.countPort p 0xB 1)
          else d1

/-- The port of a QP that may act: READY and not fenced. -/
def readyPort (d : Dev) (n : Nat) : Option Nat :=
  match qpQueue d n 0 with
  | some (_, x) => if (d.qp n).state = 1 ∧ portFenced d x.port x.part = false then some x.port else none
  | none => none

/-- RETRANSMIT_TIMEOUT of QP `n` (R398, R410). -/
def retransmitTimeout (n : Nat) (d : Dev) : Dev :=
  match readyPort d n, (d.qp n).msgs with
  | some p, m :: _ => if (d.qp n).rnrAt.isSome then d else transportRetry n p m.first d
  | _, _ => d

/-- RNR_RETRY_DELAY of QP `n` (R398). -/
def rnrRetryDelay (n : Nat) (d : Dev) : Dev :=
  match readyPort d n, (d.qp n).rnrAt with
  | some p, some psn =>
    let x := d.qp n
    let d1 := d.upQp n fun y => { y with rnrAt := none }
    if x.attr 11 / 16 % 8 = 7 then goBack p n psn d1
    else if x.rnrs = 0 then failOldest n p 0x0D 1 d1
    else goBack p n psn (d1.upQp n fun y => { y with rnrs := y.rnrs - 1 })
  | _, _ => d

/-- ACK_TIMER of QP `n` (R399). -/
def ackTimer (n : Nat) (d : Dev) : Dev :=
  match readyPort d n with
  | some p => if 0 < (d.qp n).unacked then ackAll p n d else d
  | none => d

/-! Raw datagrams (R402, R403). -/

/-- RAW_SEND: the entry is checked and begins; its datagrams leave one by one (R403). -/
def rawSend (q : Nat) (d : Dev) : Dev :=
  runNet q 4 (fun _ k e => upCmd q (atIndex k.index) (fun c => { c with st := .waiting }) e) d

/-- A datagram under a template header (R403): lengths, identification and checksums are filled in. -/
def datagram (hdr : Bytes) (flags seqNo tag off : Nat) (last : Bool) (data : Bytes) : Bytes :=
  let v6 := bitOf flags 0
  let sh := if bitOf flags 2 then leBytes 4 seqNo ++ leBytes 4 tag ++ leBytes 4 off ++ leBytes 4 (b2n last) else []
  let body := sh ++ data
  let ip := if v6 then hdr.length - 48 else hdr.length - 28
  let u := hdr.length - 8
  let ulen := 8 + body.length
  let h1 := patch (patch hdr (u + 4) (beBytes 2 ulen)) (u + 6) [byte 0, byte 0]
  let h2 :=
    if v6 then patch h1 (ip + 4) (beBytes 2 ulen)
    else
      let g := patch (patch (patch h1 (ip + 2) (beBytes 2 (20 + ulen))) (ip + 4) (beBytes 2 (seqNo % 65536))) (ip + 10) [byte 0, byte 0]
      patch g (ip + 10) (beBytes 2 (inetSum false (onesSum (g.slice ip 20) 0)))
  let pseudo := onesSum (if v6 then h2.slice (ip + 8) 32 else h2.slice (ip + 12) 8) 0 + 17 + ulen
  let sum := if v6 = true ∨ bitOf flags 1 = true then inetSum true (onesSum (h2.drop u ++ body) pseudo) else 0
  patch h2 (u + 6) (beBytes 2 sum) ++ body

/-- The datagram of `n` bytes at the offset that queue `q` has reached leaves with its data (R403). -/
def sendDatagram (q n : Nat) (x : Queue) (k : Cmd) (data : Bytes) (d : Dev) : Dev :=
  let c := d.shadow (5 + x.port)
  let t := 0x2B20 + x.sel
  let hdr := c.bytesAt 0 t 1
  let s := d.eth.raw.get {} q
  let len := k.bytes.le 16 4
  let last := decide (len ≤ s.off + n)
  let d1 := transmit x.port (framePrio hdr) (.raw (datagram hdr (c.nat t 2) s.seqNo (k.bytes.le 4 4) s.off last data)) d
  let d2 := { d1 with eth := { d1.eth with raw := d1.eth.raw.set q {
    seqNo := (s.seqNo + 1) % 2 ^ 32, off := if last then 0 else s.off + n } } }
  if last then endCmd q k.index 0 0 len d2 else d2

/-- The entry of raw send queue `q` that is being sent. -/
def rawEntry (d : Dev) (q : Nat) : Option Cmd :=
  (d.eng (seOf q)).cmds.find? fun k => k.q == q && k.st == .waiting && k.bytes.le 0 1 == 4

/-- A raw send queue has no entry in progress. -/
def rawRestart (q : Nat) (d : Dev) : Dev :=
  { d with eth := { d.eth with raw := d.eth.raw.modify {} q fun y => { y with off := 0 } } }

/-- RAW_DATAGRAM_SEND: PACE has passed and the next datagram of queue `q` leaves once its data have been read (R403, R410). -/
def rawDatagramSend (q : Nat) (d : Dev) : Dev :=
  match d.queue? q, rawEntry d q with
  | some x, some k =>
    let p := x.port
    let c := d.shadow (5 + p)
    let t := 0x2B20 + x.sel
    if portFenced d p x.part = true ∨ (d.eport p).link ≠ 2 ∨ paused d p (framePrio (c.bytesAt 0 t 1)) = true then d
    else
      let s := d.eth.raw.get {} q
      let n := min (c.nat t 4) (k.bytes.le 16 4 - s.off)
      withRead (epNi p) x.part (d.portObj p 5) (queueKey q k.index 2) (reads64 (k.a + s.off) n) (fun st bs e =>
        if st ≠ 0 then endOnStatus q k.index st s.off (rawRestart q e) else sendDatagram q n x k bs e) d
  | _, _ => d

/-! Links, fences and resets. -/

/-- A port's link goes down: counted, 0xBC (R410); it trains again where it is enabled and powered. -/
def portDown (p : Nat) (d : Dev) : Dev :=
  if (d.eport p).link ≠ 2 then d
  else
    let st := if d.portObj p 1 = 1 ∧ d.unitUp (epNi p) = true then 1 else 0
    ((d.upPort p fun x => { x with link := st, paused := [], xoff := false, held := [] }).countPort p 0x11 1).raise 0xBC p

/-- A port's link comes up (R392). -/
def portUp (p : Nat) (d : Dev) : Dev :=
  if (d.eport p).link = 1 ∧ d.unitUp (epNi p) = true then d.upPort p fun x => { x with link := 2 } else d

/-- The port enable, in the shadow of a running clock and else in the active configuration, and PD_ETH set whether a port trains (R406, R412). -/
def applyPort (p : Nat) (d : Dev) : Dev :=
  let on := (if d.clockRuns (5 + p) then d.shadow (5 + p) else d.cfg).nat (0x2B00 + p) 1 == 1 && d.unitUp (epNi p)
  let st := (d.eport p).link
  if on = true ∧ st = 0 then d.upPort p fun x => { x with link := 1 }
  else if on = false ∧ st ≠ 0 then (portDown p d).upPort p fun x => { x with link := 0 }
  else d

/-- Whether a queue pair or raw queue of `p` has work in progress (R253). -/
def ethBusy (d : Dev) (p : Nat) : Bool :=
  d.queues.q.any fun e => e.2.kind == 3 && e.2.part == p &&
    (d.eng (seOf e.1)).cmds.any fun k => k.q == e.1 && k.st != .fetched && k.bytes.le 0 1 != 0x20

/-- The reset step of `p` (R405): its QPs are RESET; its queues, and with them its rules' bindings, are destroyed. -/
def ethPartReset (p : Nat) (d : Dev) : Dev :=
  Dev.fold (d.queues.q.filter fun e => e.2.kind == 3 && e.2.part == p && e.2.role == 0) (fun e y =>
    { y with eth := { y.eth with qp := y.eth.qp.erase e.2.qpNo } }) d

/-- The entry of a raw send queue that is partly sent ends ABORTED, and the queue goes on at its next entry (R411). -/
def restartRaw (q : Nat) (d : Dev) : Dev :=
  match rawEntry d q with
  | some k =>
    let d1 := forgetCmd q k.index d
    if (d.eth.raw.get {} q).off = 0 then d1 else rawRestart q (endCmd q k.index 8 0 0 d1)
  | none => d

/-- A forced drain of partition `part` at port `p`: messages not yet acknowledged and the datagrams left to send are abandoned,
with what they were reading (R254). -/
def ethForceDrain (p part : Nat) (d : Dev) : Dev :=
  Dev.fold (d.queues.q.filter fun e => e.2.kind == 3 && e.2.port == p && e.2.part == part) (fun e y =>
    let z := forgetQueue e.1 y
    if e.2.role = 0 ∧ z.eth.qp.has e.2.qpNo = true then z.upQp e.2.qpNo fun x => { x with msgs := [], rnrAt := none, rx := none, unacked := 0 }
    else if e.2.role = 2 then rawRestart e.1 z
    else z) d

/-- A unit reset of EP `p` (R411). -/
def epReset (p : Nat) (d : Dev) : Dev :=
  let qs := d.queues.q.filter fun e => e.2.kind == 3 && e.2.port == p
  let d1 := d.upPort p fun x => { x with fifo := [], buf := [], toFw := [], paused := [], xoff := false, held := [], link := if x.link = 0 then 0 else 1 }
  Dev.fold qs (fun e y =>
    if e.2.role = 0 then (if (y.qp e.2.qpNo).state = 2 then y else enterError e.2.qpNo p y)
    else if e.2.role = 2 then restartRaw e.1 y
    else y) d1

/-- Clear of the Ethernet counters (R406). -/
def clearEthCounts (d : Dev) : Dev :=
  Dev.fold (List.range 4) (fun p e => e.upPort p fun x => { x with counts := [] }) d

/-- NI_INJECT at any NI; at a port, data that leave its receive buffer may end its XOFF (R387). -/
def injectPort (n : Nat) (err : MemErr) (d : Dev) : Dev :=
  (injectCycle n err d).when (decide (44 ≤ n ∧ n < 48)) (pfcLevel (n - 44))

/-! Meanings. -/

/-- NI_INJECT: An NI ranks its eligible packets and injects one head onto its local link, taking a tag for a non-posted request (R155). -/
def execNiInject (n : Nat) (err : MemErr) (s : State) : Host.Outcome State Fault Refusal :=
  actFclk (wfNiInject n err) (injectPort n err) s

/-- FRAME_RECEIVE: A received Ethernet frame is classified and dropped, consumed, or delivered (R386). -/
def execFrameReceive (p : Nat) (frame : Bytes) (fcsOk : Bool) (at_ : Int) (corr : Nat) (uncorr : Nat) (s : State) : Host.Outcome State Fault Refusal :=
  act (wfFrameReceive p frame fcsOk at_ corr uncorr) (frameReceive p frame fcsOk at_ corr uncorr) s

/-- PFC_PAUSE_EXPIRY: The quanta of a received PFC XOFF expire and transmission of that priority resumes (R387). -/
def execPfcPauseExpiry (p : Nat) (prio : Nat) (s : State) : Host.Outcome State Fault Refusal :=
  act (wfPfcPauseExpiry p prio) (pfcPauseExpiry p prio) s

/-- PTP_TRANSMIT: The port sends a firmware PTP frame, stamping it one-step or queuing a two-step entry (R390). -/
def execPtpTransmit (p : Nat) (frame : Bytes) (oneStep : Bool) (at_ : Int) (s : State) : Host.Outcome State Fault Refusal :=
  act (wfPtpTransmit p frame oneStep at_) (ptpTransmit p frame oneStep at_) s

/-- QP_MODIFY: The work entry QP_MODIFY moves a queue pair among RESET, READY and ERROR (R396). -/
def execQpModify (q : Nat) (s : State) : Host.Outcome State Fault Refusal :=
  act (wfQpModify q) (qpModify q) s

/-- SEND: The work entry SEND sends a RoCEv2 message from local memory (R398). -/
def execSend (q : Nat) (s : State) : Host.Outcome State Fault Refusal :=
  act (wfSend q) (send q) s

/-- RDMA_WRITE: The work entry RDMA_WRITE writes local data into a remote region (R398). -/
def execRdmaWrite (q : Nat) (s : State) : Host.Outcome State Fault Refusal :=
  act (wfRdmaWrite q) (rdmaWrite q) s

/-- RDMA_WRITE_IMM: The work entry RDMA_WRITE_IMM writes remote data with an immediate value (R398). -/
def execRdmaWriteImm (q : Nat) (s : State) : Host.Outcome State Fault Refusal :=
  act (wfRdmaWriteImm q) (rdmaWriteImm q) s

/-- RAW_SEND: The work entry RAW_SEND splits a span into UDP datagrams under a header template (R403). -/
def execRawSend (q : Nat) (s : State) : Host.Outcome State Fault Refusal :=
  act (wfRawSend q) (rawSend q) s

/-- RECV: The work entry RECV posts a receive buffer to a queue pair or raw queue (R401). -/
def execRecv (q : Nat) (s : State) : Host.Outcome State Fault Refusal :=
  act (wfRecv q) (recv q) s

/-- ROCE_PACKET_RECEIVE: A RoCEv2 packet for a ready QP is checked in PSN order and placed, acknowledged or NAKed (R399). -/
def execRocePacketReceive (p : Nat) (icrcOk : Bool) (err : MemErr) (qpErr : MemErr) (s : State) : Host.Outcome State Fault Refusal :=
  act (wfRocePacketReceive p icrcOk err qpErr) (rocePacketReceive p icrcOk err qpErr) s

/-- ACK_RECEIVE: An ACK or NAK reaches a requester QP and completes messages or starts go-back-N (R398). -/
def execAckReceive (p : Nat) (icrcOk : Bool) (err : MemErr) (qpErr : MemErr) (s : State) : Host.Outcome State Fault Refusal :=
  act (wfAckReceive p icrcOk err qpErr) (ackReceive p icrcOk err qpErr) s

/-- RETRANSMIT_TIMEOUT: A QP's retransmit timer expires and it retransmits, or ends RETRY_EXCEEDED (R398). -/
def execRetransmitTimeout (n : Nat) (s : State) : Host.Outcome State Fault Refusal :=
  act (wfRetransmitTimeout n) (retransmitTimeout n) s

/-- ACK_TIMER: 4 us pass without an ACK and the responder sends one (R399). -/
def execAckTimer (n : Nat) (s : State) : Host.Outcome State Fault Refusal :=
  act (wfAckTimer n) (ackTimer n) s

/-- RAW_DATAGRAM_SEND: The next datagram of a RAW_SEND leaves once PACE has passed since the previous start (R403). -/
def execRawDatagramSend (q : Nat) (s : State) : Host.Outcome State Fault Refusal :=
  act (wfRawDatagramSend q) (rawDatagramSend q) s

/-- RNR_RETRY_DELAY: The delay advertised in a received RNR NAK expires, and the requester QP resends the message, or ends RETRY_EXCEEDED when its RNR retries are used up (R398). -/
def execRnrRetryDelay (n : Nat) (s : State) : Host.Outcome State Fault Refusal :=
  act (wfRnrRetryDelay n) (rnrRetryDelay n) s

end Sys2Proof.Machine
end

