-- ==== Sys2Proof/Machine/Operators.lean ====
section
/-! DEFINITION. Stream operators (spec/15): descriptors and their checks, delivery and sharing, the seven operations, and
the end of a descriptor. -/
namespace Sys2Proof.Machine

/-- NI of OP unit `n`. -/
def opNi (n : Nat) : Nat := 32 + n

/-- A counter of unit `n` (0x2C20 + n) plus `k`. -/
def Dev.countOp (n sub k : Nat) (d : Dev) : Dev :=
  let w := if sub = 4 then 64 else 32
  d.upOp n fun x => { x with counts := x.counts.modify 0 sub fun v => satAdd w v k }

/-! Descriptors (R417 to R419). A descriptor's fields by their offsets. -/

/-- OPER. -/
def dOper (b : Bytes) : Nat := b.le 0 1

/-- IFMT. -/
def dIfmt (b : Bytes) : Nat := b.le 1 1

/-- OFMT. -/
def dOfmt (b : Bytes) : Nat := b.le 2 1

/-- CPLX as a factor: 1 or 2 values per sample. -/
def dVals (b : Bytes) : Nat := 1 + b.le 3 1 % 2

/-- SAT. -/
def dSat (b : Bytes) : Bool := bitOf (b.le 3 1) 1

/-- COUNT. -/
def dCount (b : Bytes) : Nat := b.le 4 4

/-- BATCH. -/
def dBatch (b : Bytes) : Nat := b.le 8 4

/-- SCALE. -/
def dScale (b : Bytes) : Nat := b.le 12 4

/-- SRC. -/
def dSrc (b : Bytes) : Nat := b.le 16 8

/-- DST. -/
def dDst (b : Bytes) : Nat := b.le 24 8

/-- Bytes of `n` values of a format (R418). -/
def fmtBytes (f n : Nat) : Nat :=
  if f = 1 then n else if f = 3 then (3 * n + 1) / 2 else if f = 5 ∨ f = 7 then 4 * n else if f = 0 then 0 else 2 * n

/-- Input record bytes (R419). -/
def dInBytes (b : Bytes) : Nat := if dOper b = 7 then dCount b else fmtBytes (dIfmt b) (dCount b * dVals b)

/-- Points of an FFT. -/
def dPoints (b : Bytes) : Nat := 2 ^ b.le 48 1

/-- Decimation factor; 1 for a FIR. -/
def dDecim (b : Bytes) : Nat := if dOper b = 3 then b.le 60 2 else 1

/-- Output values per record. -/
def dOutVals (b : Bytes) : Nat :=
  if dOper b = 1 then dPoints b * (if b.le 51 1 = 0 then 2 else 1)
  else if dOper b = 3 then ceilDiv (dCount b) (dDecim b) * dVals b
  else dCount b * dVals b

/-- Output record bytes. -/
def dOutBytes (b : Bytes) : Nat :=
  if dOper b = 5 then 32 * b.le 88 4 else if dOper b = 7 then 0 else fmtBytes (dOfmt b) (dOutVals b)

/-- Output records. -/
def dOutRecs (b : Bytes) : Nat := if dOper b = 4 ∨ dOper b = 5 then 1 else dBatch b

/-- Stride of the input records. -/
def dInStride (b : Bytes) : Nat := if b.le 32 4 = 0 then dInBytes b else b.le 32 4

/-- Stride of the output records. -/
def dOutStride (b : Bytes) : Nat := if b.le 36 4 = 0 then dOutBytes b else b.le 36 4

/-- Bytes of the whole input span. -/
def dInSpan (b : Bytes) : Nat := (dBatch b - 1) * dInStride b + dInBytes b

/-- Bytes of the whole output span. -/
def dOutSpan (b : Bytes) : Nat := (dOutRecs b - 1) * dOutStride b + dOutBytes b

/-- The table of a descriptor: address and bytes; none where it has none (R420, R421). -/
def dTable (b : Bytes) : Option (Nat × Nat) :=
  if dOper b = 1 then (if b.le 50 1 = 3 then some (b.le 52 8, 4 * dPoints b) else none)
  else if dOper b = 2 ∨ dOper b = 3 then
    (if b.le 52 8 = 0 then none else some (b.le 52 8, 4 * b.le 48 2 * (if b.le 50 1 = 1 then 2 else 1)))
  else none

/-- The DETAIL of a descriptor field. -/
def dField (o : Nat) : Nat := 32 + o

/-- The checks of the common fields: the offset of the first that fails (R417 to R419). -/
def commonFault (b : Bytes) : Option Nat :=
  let op := dOper b
  let n := dCount b * dVals b
  let s := b.le 32 4
  let t := b.le 36 4
  if op = 0 ∨ 7 < op then some 0
  else if (if op = 7 then dIfmt b ≠ 0 else dIfmt b = 0 ∨ 7 < dIfmt b) then some 1
  else if (if op = 5 ∨ op = 7 then dOfmt b ≠ 0 else dOfmt b = 0 ∨ 7 < dOfmt b) then some 2
  else if 4 ≤ b.le 3 1 ∨ (op = 7 ∧ b.le 3 1 ≠ 0) then some 3
  else if dCount b = 0 ∨ (op = 1 ∧ dPoints b < dCount b) ∨ (op = 4 ∧ 65536 < n) ∨ (dIfmt b = 3 ∧ n % 2 = 1) then some 4
  else if dBatch b = 0 ∨ 65536 < dBatch b then some 8
  else if op = 7 ∧ dScale b ≠ 0 then some 12
  else if op = 7 ∧ dDst b ≠ 0 then some 24
  else if s ≠ 0 ∧ s < dInBytes b then some 32
  else if (t ≠ 0 ∧ t < dOutBytes b) ∨ (op = 7 ∧ t ≠ 0) then some 36
  else if anySet b 40 48 then some 40
  else none

/-- The checks of the parameters of an operation: the offset of the first that fails (R420 to R425). -/
def paramFault (b : Bytes) : Option Nat :=
  let op := dOper b
  if op = 1 then
    if b.le 48 1 < 6 ∨ 16 < b.le 48 1 ∨ (dVals b = 2 ∧ 15 < b.le 48 1) then some 48
    else if 1 < b.le 49 1 then some 49
    else if 3 < b.le 50 1 then some 50
    else if 2 < b.le 51 1 then some 51
    else if b.le 50 1 ≠ 3 ∧ b.le 52 8 ≠ 0 then some 52
    else if anySet b 60 96 then some 60
    else none
  else if op = 2 ∨ op = 3 then
    if b.le 48 2 = 0 ∨ 256 < b.le 48 2 then some 48
    else if 1 < b.le 50 1 ∨ (b.le 50 1 = 1 ∧ dVals b = 1) then some 50
    else if b.le 51 1 ≠ 0 then some 51
    else if (if op = 2 then b.le 60 2 ≠ 0 else b.le 60 2 < 2 ∨ 4096 < b.le 60 2) then some 60
    else if anySet b 62 96 then some 62
    else none
  else if op = 4 then (if 3 < b.le 48 1 then some 48 else if anySet b 49 96 then some 49 else none)
  else if op = 5 then
    let trig := b.le 57 1
    if (fmt32.unpack 0).le (fmt32.unpack (b.le 52 4)) = false then some 52
    else if 2 < b.le 56 1 then some 56
    else if 7 < trig ∨ (bitOf trig 2 = true ∧ bitOf trig 1 = false) then some 57
    else if (if bitOf trig 2 then b.le 58 1 = 0 ∨ 0x0D < b.le 58 1 else b.le 58 1 ≠ 0) then some 58
    else if b.le 59 1 ≠ 0 then some 59
    else if b.le 67 1 ≠ 0 then some 64
    else if 1000000000 ≤ b.le 74 4 then some 74
    else if b.le 80 2 = 0 then some 80
    else if b.le 82 2 = 0 then some 82
    else if (b.le 88 4 = 0) ≠ (dDst b = 0) then some 88
    else if anySet b 92 96 then some 92
    else none
  else if op = 6 then (if anySet b 52 96 then some 52 else none)
  else (if 1 < b.le 48 1 then some 48 else if anySet b 49 96 then some 49 else none)

/-- Whether a CONVERT works in place as R425 allows. -/
def inPlace (b : Bytes) : Bool :=
  dOper b == 6 && dDst b == dSrc b && dOutStride b == dInStride b && decide (fmtBytes (dOfmt b) 2 ≤ fmtBytes (dIfmt b) 2)

/-- The offset of the first descriptor field that fails (R419). -/
def descFault (b : Bytes) : Option Nat :=
  match commonFault b with
  | some o => some o
  | none =>
    match paramFault b with
    | some o => some o
    | none =>
      if 0 < dOutSpan b ∧ overlaps (dSrc b) (dInSpan b) (dDst b) (dOutSpan b) = true ∧ inPlace b = false then some 24 else none

/-- The access checks of a descriptor at unit `n` for partition `p`: a DETAIL of ACCESS_FAULT, 0 passes (R419, R420). -/
def descAccess (d : Dev) (n p : Nat) (b : Bytes) : Nat :=
  let c := d.fcfg
  let fin := spanFault c p (dSrc b) (dInSpan b)
  let fout := if dOutSpan b = 0 then 0 else spanFault c p (dDst b) (dOutSpan b)
  let ftab := match dTable b with
    | some t => spanFault c p t.1 t.2
    | none => 0
  let cps := (List.range 24).filter (bitOf (b.le 64 4))
  let trig := b.le 57 1
  if fin ≠ 0 then fin
  else if fout ≠ 0 then fout
  else if ftab ≠ 0 then ftab
  else if c.nat (0x2C10 + n) (p + 1) = 0 then 3
  else if dOper b = 5 ∧ (cps.all fun k => (linkOfLane (fun _ => c) k).isSome && laneOwner (fun _ => c) k == p) = false then 3
  else if dOper b = 5 ∧ bitOf trig 2 = true ∧ c.nat (0x2D30 + b.le 58 1) 1 ≠ p then 3
  else 0

/-- The descriptor of an OP_EXEC. -/
def Cmd.desc (k : Cmd) : Bytes := k.bytes.slice 32 96

/-- OP_EXEC: the SE checks the descriptor; one that passes waits for its delivery (R417, R419). -/
def opExec (q : Nat) (d : Dev) : Dev :=
  match d.queue? q, runningCmd d q 0xB with
  | some x, some k =>
    let p := x.part
    if bitOf (k.bytes.le 1 1) 0 = false then refuseCmd q k.index 2 1 d
    else if k.bytes.le 2 2 ≠ 96 then refuseCmd q k.index 2 2 d
    else match fieldFault 0xB k.index k.bytes with
      | some det => refuseCmd q k.index 2 det d
      | none =>
        match descFault k.desc with
        | some o => refuseCmd q k.index 2 (dField o) d
        | none =>
          let a := descAccess d (x.kparam.le 0 1) p k.desc
          if a ≠ 0 then accessFault q k.index a d
          else upCmd q (atIndex k.index) (fun c => { c with st := .waiting }) d
  | _, _ => d

/-! Delivery and sharing (R416, R424). -/

/-- OP_EXECs that SE `s` has delivered to unit `n` for partition `p` and that have not been reported. -/
def deliveredCount (d : Dev) (s n p : Nat) : Nat :=
  ((d.eng s).cmds.filter fun k => k.delivered && k.st == .waiting && k.bytes.le 0 1 == 0xB &&
    ((d.queue? k.q).map fun x => x.part == p && x.kparam.le 0 1 == n) == some true).length

/-- An OP_EXEC of queue `q` whose delivery has been answered: its unit's answer waits for the SE. -/
def deliveryAnswered (d : Dev) (q : Nat) : Option (Cmd × Delivered) :=
  (d.eng (seOf q)).cmds.findSome? fun k =>
    if k.q = q ∧ k.st = .waiting ∧ k.delivered = true ∧ k.bytes.le 0 1 = 0xB then
      (keyAnswers d (seNi (seOf q)) (queueKey q k.index 2)).head?.map fun r => (k, r)
    else none

/-- The oldest checked OP_EXEC of queue `q` that has not been delivered. -/
def nextDelivery (d : Dev) (q : Nat) : Option Cmd :=
  (d.eng (seOf q)).cmds.find? fun k => k.q == q && k.st == .waiting && !k.delivered && k.bytes.le 0 1 == 0xB

/-- DESCRIPTOR_DELIVERY: the SE takes the answer to a delivery, by which a refused one ends; or, while its count is below 4, it
sends the next descriptor to the queue's unit with a WRITE_NP of the queue's class (R416, R428, R429). -/
def descriptorDelivery (q : Nat) (d : Dev) : Dev :=
  let s := seNi (seOf q)
  match d.queue? q with
  | none => d
  | some x =>
    match deliveryAnswered d q with
    | some (k, r) =>
      let e := takeAnswers s (queueKey q k.index 2) d
      if r.status = 0 then e else endOnStatus q k.index r.status 0 e
    | none =>
      match nextDelivery d q with
      | none => d
      | some k =>
        let n := x.kparam.le 0 1
        if 4 ≤ deliveredCount d (seOf q) n x.part ∨ d.unitUp s = false ∨ d.fenceBit x.part = true then d
        else engineWriteNp s x.part x.cls (queueKey q k.index 2) (0x88000000 + opNi n * 0x100000)
          (jobBytes { q := q, index := k.index, part := x.part, desc := k.desc } (k.bytes.le 4 4))
          (upCmd q (atIndex k.index) (fun c => { c with delivered := true }) d)

/-- The descriptor that a free unit starts next: the lowest pass, then the lower partition, then the oldest (R424). -/
def selectJob (x : OpUnit) : Option Job :=
  let ps := queuedParts x
  match leastPass x ps with
  | none => none
  | some v =>
    match ps.find? fun p => x.pass.get 0 p == v with
    | some p => x.store.find? fun j => j.part == p
    | none => none

/-- The unit's done message: fenced, class B, MQ 3 of the SE, CODE 0x0030 (R416). -/
def sendDone (n : Nat) (r : Ran) (d : Dev) : Dev :=
  startFenced (messagePkt (opNi n) r.job.part 2 (seNi (seOf r.job.q)) 3 0x0030
    (leBytes 2 r.job.q ++ leBytes 2 r.job.index ++ [byte r.status, byte r.detail, byte 0x0B] ++ leBytes 4 r.result)) none d

/-! Sample formats (R418). -/

/-- A value as it stands in memory: an integer, or binary32 bits. -/
inductive Val where
  | int (v : Int)
  | flt (bits : Nat)
  deriving DecidableEq, Repr

/-- A value as binary32 bits: int32 is rounded. -/
def Val.f32 : Val → Nat
  | .int v => fmt32.pack (fpOfInt v 0)
  | .flt b => b

/-- Values of packed 12-bit samples. -/
def packed12 : Bytes → List Val
  | a :: b :: c :: t =>
    .int (decInt 12 (a.toNat + b.toNat % 16 * 256)) :: .int (decInt 12 (b.toNat / 16 + c.toNat * 16)) :: packed12 t
  | _ => []

/-- Cuts bytes into pieces of `k`; `fuel` bounds the pieces. -/
def chunks (k : Nat) : Nat → Bytes → List Bytes
  | 0, _ => []
  | fuel + 1, bs => if bs.isEmpty then [] else bs.take k :: chunks k fuel (bs.drop k)

/-- The values of an input record. -/
def readVals (f : Nat) (bs : Bytes) : List Val :=
  if f = 3 then packed12 bs
  else
    let k := max 1 (fmtBytes f 1)
    (chunks k (bs.length / k + 1) bs).map fun c =>
      if f = 1 then .int (decInt 8 c.toNat)
      else if f = 2 then .int (decInt 12 (c.toNat / 16))
      else if f = 4 then .int (decInt 16 c.toNat)
      else if f = 5 then .int (decInt 32 c.toNat)
      else if f = 6 then .flt (fmt32.pack (fmt16.unpack c.toNat))
      else .flt c.toNat

/-- An integer output of `w` bits and its range DETAIL: 0, 1 saturated, 2 wrapped (R418, R421). -/
def intOut (w : Nat) (sat : Bool) (b : Nat) : Nat × Nat :=
  let hi : Int := ((2 ^ (w - 1) : Nat) : Int) - 1
  let lo : Int := -((2 ^ (w - 1) : Nat) : Int)
  match fmt32.unpack b with
  | .nan => (Config.floatToInt w b % 2 ^ w, if sat then 1 else 2)
  | .inf neg => if sat then (encInt w (if neg then lo else hi), 1) else (Config.floatToInt w b % 2 ^ w, 2)
  | .fin neg m e =>
    let v := fpToInt neg m e
    if lo ≤ v ∧ v ≤ hi then (encInt w v, 0)
    else if sat then (encInt w (if v < lo then lo else hi), 1)
    else (encInt w v, 2)

/-- A binary16 output and its range DETAIL. -/
def halfOut (sat : Bool) (b : Nat) : Nat × Nat :=
  let h := fmt16.pack (fmt32.unpack b)
  if h % fmt16.signBit < fmt16.infBits then (h, 0)
  else if sat = true ∧ fmt32.unpack b ≠ .nan then (h - 1, 1)
  else (h, 3)

/-- One output value as its bits and its DETAIL. -/
def outVal (f : Nat) (sat : Bool) (b : Nat) : Nat × Nat :=
  if f = 1 then intOut 8 sat b
  else if f = 2 ∨ f = 3 then intOut 12 sat b
  else if f = 4 then intOut 16 sat b
  else if f = 5 then intOut 32 sat b
  else if f = 6 then halfOut sat b
  else (b % 2 ^ 32, if f32Special b then 3 else 0)

/-- The bytes of an output record and its highest DETAIL. -/
def writeVals (f : Nat) (sat : Bool) (vs : List Nat) : Bytes × Nat :=
  let os := vs.map (outVal f sat)
  let det := os.foldl (fun a o => max a o.2) 0
  let bs := if f = 3 then pack12 (os.map (·.1))
    else if f = 2 then (os.map fun o => leBytes 2 (o.1 * 16)).flatten
    else (os.map fun o => leBytes (fmtBytes f 1) o.1).flatten
  (bs, det)

/-! Operations. -/

/-- Pairs of a list of complex values. -/
def pairsOf : List Nat → List (Nat × Nat)
  | a :: b :: t => (a, b) :: pairsOf t
  | _ => []

/-- Product of complex binary32 values, each operation rounded. -/
def cMul (a b : Nat × Nat) : Nat × Nat :=
  (f32Sub (f32Mul a.1 b.1) (f32Mul a.2 b.2), f32Add (f32Mul a.1 b.2) (f32Mul a.2 b.1))

/-- Sum over the taps in ascending t, each product and sum rounded (R421, R418). -/
def tapSum (cs xs : List (Nat × Nat)) (cplx : Bool) (at_ : Nat) : Nat × Nat :=
  cs.zipIdx.foldl (fun acc c =>
    let x := if c.2 ≤ at_ then xs.getD (at_ - c.2) (0, 0) else (0, 0)
    let p := if cplx then cMul c.1 x else (f32Mul c.1.1 x.1, f32Mul c.1.1 x.2)
    (f32Add acc.1 p.1, f32Add acc.2 p.2)) (0, 0)

/-- binary32 of 1/k. -/
def f32Recip (k : Nat) : Nat := fmt32.pack ((Fp.fin false 1 0).divNat k)

/-- The coefficients of a FIR or DECIMATE (R421). -/
def coefs (b tab : Bytes) : List (Nat × Nat) :=
  let taps := b.le 48 2
  if b.le 52 8 = 0 then List.replicate taps (f32Recip taps, 0)
  else
    let vs := (chunks 4 (tab.length / 4 + 1) tab).map fun c => Bytes.toNat c
    if b.le 50 1 = 1 then pairsOf vs else vs.map fun v => (v, 0)

/-- The outputs of a FIR or DECIMATE record (R421). -/
def firRecord (b tab : Bytes) (vs : List Val) : List Nat :=
  let xs := if dVals b = 2 then pairsOf (vs.map Val.f32) else vs.map fun v => (v.f32, 0)
  let cs := coefs b tab
  let outs := (List.range (ceilDiv (dCount b) (dDecim b))).map fun j => tapSum cs xs (b.le 50 1 == 1) (j * dDecim b)
  (outs.map fun y => if dVals b = 2 then [f32Mul (dScale b) y.1, f32Mul (dScale b) y.2] else [f32Mul (dScale b) y.1]).flatten

/-- The outputs of a CONVERT record (R425). -/
def convertRecord (b : Bytes) (vs : List Val) : List Nat :=
  vs.map fun v => f32Add (f32Mul (dScale b) v.f32) (b.le 48 4)

/-- The outputs of an FFT record: free values (R420). -/
def fftRecord (b tab raw : Bytes) : List Nat := (List.range (dOutVals b)).map fun i => Config.fftValue b tab raw i % 2 ^ 32

/-- What a run of a descriptor has come to. -/
structure OpRun where
  /-- STATUS of the read that stopped it; 0 none. -/
  bad : Nat := 0
  /-- Output bytes written. -/
  written : Nat := 0
  /-- Highest range DETAIL. -/
  detail : Nat := 0
  /-- The device. -/
  dev : Dev

/-- Class of a partition's operator traffic (0x2C01). -/
def opClass (d : Dev) (p : Nat) : Nat := d.fcfg.nat 0x2C01 (p + 1)

/-- The key of a unit's reads: it runs one descriptor at a time (R415). -/
def opKey : Nat := 4

/-- The span of input record `i`. -/
def inRecord (b : Bytes) (i : Nat) : Nat × Nat := (dSrc b + i * dInStride b, dInBytes b)

/-- What a descriptor reads: its table, then its records (R419). -/
def opSpans (b : Bytes) : List (Nat × Nat) := (dTable b).toList ++ (List.range (dBatch b)).map (inRecord b)

/-- The STATUS and the bytes of a span among a unit's answers. -/
def answered (l : List Delivered) (s : Nat × Nat) : Nat × Bytes := gathered l (spanBlocks [s])

/-- An output of a descriptor is written (R421). -/
def opWrite (n : Nat) (j : Job) (addr : Nat) (o : Bytes × Nat) (r : OpRun) : OpRun :=
  { bad := 0, written := r.written + o.1.length, detail := max r.detail o.2
    dev := engineWrite (opNi n) j.part (opClass r.dev j.part) addr o.1 r.dev }

/-- Record by record: compute and write, up to a record whose read was not answered OK (R419, R421). -/
def mapRecords (n : Nat) (j : Job) (l : List Delivered) (f : Bytes → List Val → List Nat) : List Nat → OpRun → OpRun
  | [], r => r
  | i :: t, r =>
    let b := j.desc
    let rd := answered l (inRecord b i)
    if rd.1 ≠ 0 then { r with bad := rd.1 }
    else mapRecords n j l f t
      (opWrite n j (dDst b + i * dOutStride b) (writeVals (dOfmt b) (dSat b) (f rd.2 (readVals (dIfmt b) rd.2))) r)

/-- The input records before the first whose read was not answered OK, and that STATUS. -/
def readRecords (b : Bytes) (l : List Delivered) : List Nat → List Bytes → List Bytes × Nat
  | [], acc => (acc, 0)
  | i :: t, acc =>
    let rd := answered l (inRecord b i)
    if rd.1 ≠ 0 then (acc, rd.1) else readRecords b l t (acc ++ [rd.2])

/-- Every input record of a descriptor. -/
def allRecords (b : Bytes) (l : List Delivered) : List Bytes × Nat := readRecords b l (List.range (dBatch b)) []

/-- The table of a descriptor, and the STATUS of its read. -/
def readTable (b : Bytes) (l : List Delivered) : Nat × Bytes :=
  match dTable b with
  | none => (0, [])
  | some t => answered l t

/-- The outcome of a run: a read's status first, then the range DETAIL (R421). -/
def outcome (j : Job) (r : OpRun) (result : Nat) : Ran :=
  if r.bad = 6 then { job := j, status := 5, result := result }
  else if r.bad ≠ 0 then { job := j, status := 4, detail := r.bad, result := result }
  else if r.detail ≠ 0 then { job := j, status := 0x0F, detail := r.detail, result := result }
  else { job := j, result := result }

/-- The descriptor that a unit has started: once its reads are all answered, `run` computes its outcome from the answers. -/
def continueOp (n oper : Nat) (err : MemErr) (run : Job → List Delivered → Dev → Ran × Dev) (r : Ran) (d : Dev) : Dev :=
  if r.ended = true ∨ dOper r.job.desc ≠ oper ∨ keyOpen d (opNi n) opKey = true then d
  else
    let l := keyAnswers d (opNi n) opKey
    let d1 := takeAnswers (opNi n) opKey d
    let r2 : Ran × Dev := match err with
      | .uncorrectable => ({ job := r.job, status := 5 }, d1.raise 0x39 n r.job.part)
      | .corrected => run r.job l (d1.raise 0x38 n r.job.part)
      | .none => run r.job l d1
    r2.2.upOp n fun y => { y with run := some r2.1 }

/-- A unit at a descriptor whose operation is `oper`: a free unit starts the selected one and issues its reads; a later run goes
on with it (R424, R427, R419). `err` is what SECDED finds in its stores. -/
def runOp (n oper : Nat) (err : MemErr) (run : Job → List Delivered → Dev → Ran × Dev) (d : Dev) : Dev :=
  let x := d.op n
  if d.unitUp (opNi n) = false then d
  else match x.run, selectJob x with
  | some r, _ => continueOp n oper err run r d
  | none, some j =>
    if dOper j.desc ≠ oper then d
    else engineRead (opNi n) j.part (opClass d j.part) opKey (opSpans j.desc)
      (d.upOp n fun y => { y with store := y.store.erase j, run := some { job := j, ended := false } })
  | none, none => d

/-- RESULT of the operations that write samples. -/
def bytesResult (r : OpRun) : Nat := min r.written (2 ^ 32 - 1)

/-- A record-wise operation. -/
def runMap (n : Nat) (f : Bytes → Bytes → Bytes → List Val → List Nat) (j : Job) (l : List Delivered) (d : Dev) : Ran × Dev :=
  let t := readTable j.desc l
  let r := if t.1 ≠ 0 then { bad := t.1, dev := d } else mapRecords n j l (f j.desc t.2) (List.range (dBatch j.desc)) { dev := d }
  (outcome j r (bytesResult r), r.dev)

/-- OP_FFT (R420). -/
def opFft (n : Nat) (err : MemErr) (d : Dev) : Dev :=
  runOp n 1 err (runMap n fun b tab raw _ => fftRecord b tab raw) d

/-- OP_FIR (R421). -/
def opFir (n : Nat) (err : MemErr) (d : Dev) : Dev :=
  runOp n 2 err (runMap n fun b tab _ vs => firRecord b tab vs) d

/-- OP_DECIMATE (R421). -/
def opDecimate (n : Nat) (err : MemErr) (d : Dev) : Dev :=
  runOp n 3 err (runMap n fun b tab _ vs => firRecord b tab vs) d

/-- OP_CONVERT (R425). -/
def opConvert (n : Nat) (err : MemErr) (d : Dev) : Dev :=
  runOp n 6 err (runMap n fun b _ _ vs => convertRecord b vs) d

/-- Greater (or lesser) of two binary32 values; a NaN propagates. -/
def f32Pick (greater : Bool) (a b : Nat) : Nat :=
  if fmt32.unpack a = .nan ∨ fmt32.unpack b = .nan then fmt32.pack .nan
  else if (fmt32.unpack a).lt (fmt32.unpack b) = greater then b else a

/-- One element of an AVERAGE over the records, as binary32 before SCALE (R422). -/
def averageElem (mode batch : Nat) (vs : List Val) : Nat :=
  let isInt := vs.all fun v => match v with
    | .int _ => true
    | .flt _ => false
  let ints := vs.map fun v => match v with
    | .int i => i
    | .flt _ => 0
  let fs := vs.map Val.f32
  if mode ≤ 1 then
    let s : Fp := if isInt then fpOfInt (ints.foldl (· + ·) 0) 0 else fmt32.unpack (fs.foldl f32Add 0)
    fmt32.pack (if mode = 0 then s.divNat (max 1 batch) else s)
  else match fs with
    | [] => 0
    | a :: t => t.foldl (f32Pick (mode == 2)) a

/-- OP_AVERAGE (R422). -/
def opAverage (n : Nat) (err : MemErr) (d : Dev) : Dev :=
  runOp n 4 err (fun j l e =>
    let b := j.desc
    let rs := allRecords b l
    if rs.2 ≠ 0 then (outcome j { bad := rs.2, dev := e } 0, e)
    else
      let recs := rs.1.map (readVals (dIfmt b))
      let outs := (List.range (dCount b * dVals b)).map fun i =>
        f32Mul (dScale b) (averageElem (b.le 48 1) (dBatch b) (recs.map fun r => r.getD i (.int 0)))
      let r := opWrite n j (dDst b) (writeVals (dOfmt b) (dSat b) outs) { dev := e }
      (outcome j r (bytesResult r), r.dev)) d

/-! CHECKSUM. -/

/-- One bit of CRC-32 of IEEE 802.3, reflected. -/
def crc32Bit (c : Nat) : Nat := if c % 2 = 0 then c / 2 else Nat.xor (c / 2) 0xEDB88320

/-- One byte of CRC-32. -/
def crc32Byte (c : Nat) (b : Byte) : Nat :=
  crc32Bit (crc32Bit (crc32Bit (crc32Bit (crc32Bit (crc32Bit (crc32Bit (crc32Bit (Nat.xor c b.toNat))))))))

/-- CRC-32 of IEEE 802.3 (R425). -/
def crc32 (bs : Bytes) : Nat := Nat.xor (bs.foldl crc32Byte 0xFFFFFFFF) 0xFFFFFFFF

/-- OP_CHECKSUM (R425). -/
def opChecksum (n : Nat) (err : MemErr) (d : Dev) : Dev :=
  runOp n 7 err (fun j l e =>
    let rs := allRecords j.desc l
    let all := rs.1.flatten
    let crc := if j.desc.le 48 1 = 0 then crc32c all else crc32 all
    (outcome j { bad := rs.2, dev := e } (if rs.2 = 0 then crc else 0), e)) d

/-! THRESHOLD. -/

/-- One detected event: sample index, rising, falling. -/
structure ThEvent where
  /-- Sample index. -/
  i : Nat
  /-- The rising detector fired. -/
  rise : Bool
  /-- The falling detector fired. -/
  fall : Bool
  deriving DecidableEq, Repr

/-- The detectors while samples pass: armed flags, the sample from which events are taken again, events found. -/
structure ThState where
  /-- Rising armed. -/
  up : Bool := false
  /-- Falling armed. -/
  down : Bool := false
  /-- First sample at which an event may be taken. -/
  next : Nat := 0
  /-- Events, newest first. -/
  found : List ThEvent := []

/-- One sample of the detectors (R423). A detector that meets its level within the hold-off keeps its arming. -/
def thStep (edge holdoff : Nat) (level lo hi : Fp) (s : ThState) (i : Nat) (v : Fp) : ThState :=
  let free := decide (s.next ≤ i)
  let rise := edge != 1 && s.up && level.le v && free
  let fall := edge != 0 && s.down && v.le level && free
  let up := (s.up && !rise) || v.lt lo
  let down := (s.down && !fall) || hi.lt v
  if rise || fall then { up := up, down := down, next := i + 1 + holdoff, found := ⟨i, rise, fall⟩ :: s.found }
  else { s with up := up, down := down }

/-- The processed value of a sample (R423): |x| of a complex one from its rounded square sum. -/
def thValue (scale : Nat) (x : Nat × Option Nat) : Nat :=
  match x.2 with
  | none => f32Mul scale x.1
  | some q => f32Mul scale (f32Sqrt (f32Add (f32Mul x.1 x.1) (f32Mul q q)))

/-- Time of sample `i` in 2⁻¹⁶ ns, rounded down (R423). -/
def thTime (b : Bytes) (i : Nat) : Nat :=
  b.le 68 6 * 65536000000000 + b.le 74 4 * 65536 + b.le 78 2 + i * b.le 80 2 * 65536 / max 1 (b.le 82 2)

/-- The 32 bytes of an event record (R423). -/
def thRecord (b : Bytes) (e : ThEvent) (dropped : Bool) : Bytes :=
  let t := splitTime ((thTime b e.i : Nat) : Int)
  leBytes 8 e.i ++ leBytes 6 t.1 ++ leBytes 2 t.2.2 ++ leBytes 4 t.2.1
    ++ [byte (b2n e.rise + 2 * b2n e.fall + 4 * b2n dropped)] ++ List.replicate 11 (byte 0)

/-- The messages of an event (R420, R364, R300). -/
def thMessages (n : Nat) (j : Job) (e : ThEvent) : List Packet :=
  let b := j.desc
  let trig := b.le 57 1
  let t := thTime b e.i
  let rel := (t + b.le 84 4 * 65536 + 65535) / 65536
  let cps := (List.range 24).filter (bitOf (b.le 64 4))
  let s := splitTime ((t : Nat) : Int)
  let timed (dest code : Nat) (data : Bytes) : Packet :=
    { messagePkt (opNi n) j.part 0 dest 1 code data with ty := 5, relS := rel / 1000000000, relNs := rel % 1000000000 }
  let plain := cps.map fun k => messagePkt (opNi n) j.part 0 k 1 0x0020
    ([byte (0x10 + n)] ++ leBytes 6 s.1 ++ leBytes 4 s.2.1 ++ leBytes 2 s.2.2)
  if bitOf trig 1 then
    (cps.map fun k => timed k 0x0020 [byte (0x10 + n)]) ++ (if bitOf trig 2 then [timed 64 0x0040 [b.le 58 1 |> byte]] else [])
  else if bitOf trig 0 then plain
  else []

/-- The samples of a stream of records as one or two binary32 values each. -/
def thSamples (b : Bytes) (recs : List Bytes) : List (Nat × Option Nat) :=
  let vs := ((recs.map (readVals (dIfmt b))).flatten).map Val.f32
  if dVals b = 2 then (pairsOf vs).map fun p => (p.1, some p.2) else vs.map fun v => (v, none)

/-- The events of a THRESHOLD descriptor in order. -/
def thEvents (b : Bytes) (recs : List Bytes) : List ThEvent :=
  let level := b.le 48 4
  let lo := fmt32.unpack (f32Sub level (b.le 52 4))
  let hi := fmt32.unpack (f32Add level (b.le 52 4))
  let s := (thSamples b recs).zipIdx.foldl (fun (s : ThState) x =>
    thStep (b.le 56 1) (b.le 60 4) (fmt32.unpack level) lo hi s x.2 (fmt32.unpack (thValue (dScale b) x.1))) {}
  s.found.reverse

/-- OP_THRESHOLD (R423, R420): events are recorded and their trigger messages sent; `dropped` names the events that found
the unit's store of 16 messages full. -/
def opThreshold (n : Nat) (err : MemErr) (dropped : List Nat) (d : Dev) : Dev :=
  runOp n 5 err (fun j l e =>
    let b := j.desc
    let rs := allRecords b l
    let evs := (thEvents b rs.1).zipIdx
    let drop (x : ThEvent × Nat) : Bool := dropped.contains x.2 && !(thMessages n j x.1).isEmpty
    let d1 := Dev.fold evs (fun x y =>
      if drop x then (y.countOp n 7 1).raise 0x3B n j.part
      else Dev.fold (thMessages n j x.1) (fun p z => sendMessage p (z.countOp n 6 1)) y) e
    let out := ((evs.take (b.le 88 4)).map fun x => thRecord b x.1 (drop x)).flatten
    let d2 := engineWrite (opNi n) j.part (opClass d1 j.part) (dDst b) out d1
    (outcome j { bad := rs.2, dev := d2 } (if rs.2 = 0 then evs.length else out.length), d2)) d

/-! The end of a descriptor. -/

/-- A descriptor ends after `cycles` FCLK: its done message leaves and its partition's pass grows (R416, R424). -/
def endJob (n cycles : Nat) (r : Ran) (d : Dev) : Dev :=
  let w := max 1 (d.fcfg.nat (0x2C10 + n) (r.job.part + 1))
  let d1 := (d.countOp n 3 1).countOp n 4 cycles
  let d2 := if r.status = 0x0F then d1.countOp n 8 1 else d1
  sendDone n r (d2.upOp n fun x => { x with
    run := none, pass := x.pass.modify 0 r.job.part (· + ceilDiv (65536 * cycles) w) })

/-- DESCRIPTOR_END of a descriptor whose outcome stands (R421, R424). -/
def descriptorEnd (n cycles : Nat) (d : Dev) : Dev :=
  match (d.op n).run with
  | some r => if r.ended then endJob n cycles r d else d
  | none => d

/-- DESCRIPTOR_TIME_LIMIT: the running descriptor is stopped; what its reads bring is discarded (R425). -/
def descriptorTimeLimit (n cycles : Nat) (d : Dev) : Dev :=
  match (d.op n).run with
  | some r => endJob n cycles { r with status := 8, detail := 0, ended := true }
      (forgetKeys (opNi n) (· == opKey) ((d.countOp n 5 1).raise 0x3A n r.job.part))
  | none => d

/-! Fences and resets. -/

/-- Queued descriptors that `sel` names are reported FENCED (R428, R429). -/
def reportFenced (n : Nat) (sel : Job → Bool) (d : Dev) : Dev :=
  Dev.fold ((d.op n).store.filter sel) (fun j e => sendDone n { job := j, status := 6 } e)
    (d.upOp n fun x => { x with store := x.store.filter fun j => !sel j })

/-- Step 2 of a lock cycle of `p` at the units (R428). -/
def opsFence (p : Nat) (d : Dev) : Dev := Dev.fold (List.range 8) (fun n e => reportFenced n (fun j => j.part == p) e) d

/-- PD_OPS is fenced (R429). -/
def opsPdFence (d : Dev) : Dev := Dev.fold (List.range 8) (fun n e => reportFenced n (fun _ => true) e) d

/-- Whether a unit still holds work of `p` (R253). -/
def opsBusy (d : Dev) (p : Nat) : Bool :=
  (List.range 8).any fun n => ((d.op n).store.any fun j => j.part == p) || ((d.op n).run.map fun r => r.job.part == p) == some true

/-- What a unit has read for a descriptor that it gives up belongs to nobody. -/
def dropRun (n : Nat) (d : Dev) : Dev := (forgetKeys (opNi n) (· == opKey) d).upOp n fun x => { x with run := none }

/-- The forced drain or the reset step of `p`: what is left of it is discarded (R254, R256, R428). -/
def opsDiscard (p : Nat) (d : Dev) : Dev :=
  Dev.fold (List.range 8) (fun n e =>
    let e1 := e.upOp n fun x => { x with store := x.store.filter fun j => j.part != p }
    match (e.op n).run with
    | some r => if r.job.part = p then dropRun n e1 else e1
    | none => e1) d

/-- A unit reset of OP `n` (R430): the SEs complete what they delivered to it with ABORTED. -/
def opReset (n : Nat) (d : Dev) : Dev :=
  let mine (e : Dev) (k : Cmd) : Bool := k.delivered && k.st == .waiting && k.bytes.le 0 1 == 0xB &&
    ((e.queue? k.q).map fun x => x.kparam.le 0 1 == n) == some true
  let d1 := Dev.fold (List.range 8) (fun s e =>
    Dev.fold ((e.eng s).cmds.filter (mine e)) (fun k y => endCmd k.q k.index 8 0 0 (forgetCmd k.q k.index y)) e) d
  d1.upOp n fun x => { x with store := [], run := none }

/-- Unit state of 0x2C20 + n:01. -/
def opState (d : Dev) (n : Nat) : Nat :=
  if d.unitUp (opNi n) = false then 0 else if (d.op n).run.isSome then 2 else 1

/-- Clear of the operator counters (R426). -/
def clearOpCounts (d : Dev) : Dev := Dev.fold (List.range 8) (fun n e => e.upOp n fun x => { x with counts := [] }) d

/-! Meanings. -/

/-- OP_EXEC: The command OP_EXEC hands a 96-byte descriptor to the queue's OP unit (R417). -/
def execOpExec (q : Nat) (s : State) : Host.Outcome State Fault Refusal :=
  act (wfOpExec q) (opExec q) s

/-- DESCRIPTOR_DELIVERY: The SE delivers a descriptor to an OP unit with a WRITE_NP, within the per-partition count (R416). -/
def execDescriptorDelivery (q : Nat) (s : State) : Host.Outcome State Fault Refusal :=
  act (wfDescriptorDelivery q) (descriptorDelivery q) s

/-- OP_FFT: The unit runs an FFT descriptor (R420). -/
def execOpFft (n : Nat) (err : MemErr) (s : State) : Host.Outcome State Fault Refusal :=
  act (wfOpFft n err) (opFft n err) s

/-- OP_FIR: The unit runs a FIR descriptor (R421). -/
def execOpFir (n : Nat) (err : MemErr) (s : State) : Host.Outcome State Fault Refusal :=
  act (wfOpFir n err) (opFir n err) s

/-- OP_DECIMATE: The unit runs a DECIMATE descriptor (R421). -/
def execOpDecimate (n : Nat) (err : MemErr) (s : State) : Host.Outcome State Fault Refusal :=
  act (wfOpDecimate n err) (opDecimate n err) s

/-- OP_AVERAGE: The unit runs an AVERAGE descriptor over the batch (R422). -/
def execOpAverage (n : Nat) (err : MemErr) (s : State) : Host.Outcome State Fault Refusal :=
  act (wfOpAverage n err) (opAverage n err) s

/-- OP_THRESHOLD: The unit runs a THRESHOLD descriptor, recording events and sending trigger messages (R423). -/
def execOpThreshold (n : Nat) (err : MemErr) (dropped : List Nat) (s : State) : Host.Outcome State Fault Refusal :=
  act (wfOpThreshold n err dropped) (opThreshold n err dropped) s

/-- OP_CONVERT: The unit runs a CONVERT descriptor (R425). -/
def execOpConvert (n : Nat) (err : MemErr) (s : State) : Host.Outcome State Fault Refusal :=
  act (wfOpConvert n err) (opConvert n err) s

/-- OP_CHECKSUM: The unit runs a CHECKSUM descriptor (R425). -/
def execOpChecksum (n : Nat) (err : MemErr) (s : State) : Host.Outcome State Fault Refusal :=
  act (wfOpChecksum n err) (opChecksum n err) s

/-- DESCRIPTOR_END: A descriptor ends; the unit sends its fenced done message and updates the pass value (R421). -/
def execDescriptorEnd (n : Nat) (cycles : Nat) (s : State) : Host.Outcome State Fault Refusal :=
  act (wfDescriptorEnd n cycles) (descriptorEnd n cycles) s

/-- DESCRIPTOR_TIME_LIMIT: A descriptor exceeds the time limit and is stopped, completing ABORTED (R425). -/
def execDescriptorTimeLimit (n : Nat) (cycles : Nat) (s : State) : Host.Outcome State Fault Refusal :=
  act (wfDescriptorTimeLimit n cycles) (descriptorTimeLimit n cycles) s

end Sys2Proof.Machine
end

