-- ==== Sys2Proof/Machine/Timing.lean ====
section
/-! DEFINITION. Timing, references and triggers (spec/16): the reference selector, chassis time and the strobe, trigger
lines, SYSREF and the election of a chassis leader. -/
namespace Sys2Proof.Machine

/-- The TCLK shadow, which the TTU uses (R23). -/
def Dev.tcfg (d : Dev) : Cfg := d.shadow 0x29

/-! References (R434 to R440). -/

/-- Reference `r`. -/
def Timing.reference (t : Timing) (r : Nat) : Reference := t.ref.get {} r

/-- Rank of reference `r`; the OCXO has none. -/
def rankOf (c : Cfg) (r : Nat) : Nat := if r < 6 then c.nat 0x2D01 (r + 1) else 0

/-- Whether a reference may be selected: qualified, with a rank that is not 0 (R436). -/
def selectable (c : Cfg) (t : Timing) (r : Nat) : Bool := (t.reference r).qualified && rankOf c r != 0

/-- The reference that R436 selects. -/
def bestRef (c : Cfg) (t : Timing) : Option Nat :=
  let f := c.nat 0x2D01 8
  if selectable c t f then some f
  else (sortBy (fun a b => decide (rankOf c a < rankOf c b)) ((List.range 6).filter (selectable c t))).head?

/-- A reference of lower rank than the selected one that waits for wait-to-restore (R438). -/
def upgrade (c : Cfg) (t : Timing) : Option Nat :=
  match bestRef c t with
  | some b => if t.state ≤ 1 ∧ b ≠ t.selected ∧ rankOf c b < rankOf c t.selected then some b else none
  | none => none

/-- Wait-to-restore left in ms, 0x2D02:05 (R438). -/
def waitLeft (c : Cfg) (t : Timing) : Nat :=
  match upgrade c t with
  | some b => c.nat 0x2D01 9 * 1000 - (t.reference b).held
  | none => 0

/-- A switch to a reference begins (R437). -/
def startSwitch (b : Nat) (t : Timing) : Timing :=
  { t with selected := b, state := 1, switches := inc32 t.switches, history := [] }

/-- The device with `f` applied to reference `r`. -/
def Timing.upRef (r : Nat) (f : Reference → Reference) (t : Timing) : Timing := { t with ref := t.ref.modify {} r f }

/-- Holdover is entered without build-out (R439). -/
def enterHoldover (d : Dev) : Dev :=
  (d.onTiming fun t => { t with
    state := 2, selected := 6, holdovers := inc32 t.holdovers
    correction := (t.history.foldl (· + ·) 0, t.history.length), history := [] }).raise 0xC2

/-- The selection changes that need no wait (R436 to R438, R464). -/
def reselect (d : Dev) : Dev :=
  let c := d.tcfg
  let t := d.timing
  let go (e : Dev) : Dev := match bestRef c e.timing with
    | some b => e.onTiming (startSwitch b)
    | none => e
  if t.state = 0 then
    if selectable c t t.selected = false then
      (if (bestRef c t).isSome then go d else enterHoldover d)
    else if c.nat 0x2D01 8 ≠ t.selected ∧ selectable c t (c.nat 0x2D01 8) = true then go d
    else if (upgrade c t).isSome = true ∧ c.nat 0x2D01 9 = 0 then go d
    else d
  else if t.state = 1 then
    if (t.reference t.selected).qualified then d else go (enterHoldover d)
  else go d

/-- A reference loses what it had: qualification restarts from zero, and a qualified one is disqualified (R434). -/
def loseRef (r : Nat) (d : Dev) : Dev :=
  let was := (d.timing.reference r).qualified
  let used := d.timing.state ≤ 1 && d.timing.selected == r
  let d1 := d.onTiming fun t => t.upRef r fun x => { x with progress := 0, qualified := false, held := 0 }
  if was then d1.raise (if used then 0xC0 else 0xC1) r else d1

/-- Whether a reference can give edges: the recovered clock of a port exists while its link is up (R392). -/
def refClock (d : Dev) (r : Nat) : Bool :=
  !(decide (2 ≤ r ∧ r < 6) && (d.eport (r - 2)).link != 2)

/-- One reference at the end of a 10 ms measurement (R434, R440). -/
def measureRef (r : Nat) (m : Option Int) (d : Dev) : Dev :=
  match (if refClock d r then m else none) with
  | none => loseRef r (d.onTiming fun t => t.upRef r fun x => { x with present := false })
  | some off =>
    let d1 := d.onTiming fun t => t.upRef r fun x => { x with present := true }
    if d.timing.ocxo = false then d1
    else
      let d2 := d1.onTiming fun t => t.upRef r fun x => { x with offset := off }
      if 50000 < off.natAbs then loseRef r d2
      else
        let limit := 100 * d.tcfg.nat 0x2D01 0xA
        d2.onTiming fun t =>
          let u := t.upRef r fun x => { x with
            progress := min 2000 (x.progress + 10)
            qualified := decide (2000 ≤ x.progress + 10)
            held := if x.qualified && t.state != 1 then x.held + 10 else x.held }
          if u.state = 0 ∧ u.selected = r then { u with history := (off :: u.history).take limit } else u

/-- REFERENCE_MEASUREMENT: at the end of 10 ms every reference's frequency is judged; then selection runs (R434, R463).
`m` holds the offsets of the references 0 to 5 and of the OCXO against the selected reference. -/
def referenceMeasurement (m : List (Option Int)) (d : Dev) : Dev :=
  let d1 := Dev.fold (List.range 6) (fun r e => measureRef r (m.getD r none) e) d
  let d2 := match m.getD 6 none with
    | some x => d1.onTiming fun t => { t with ocxoOffset := x }
    | none => d1
  reselect d2

/-- REFERENCE_EDGE_LOSS: a reference misses an edge (R434). -/
def referenceEdgeLoss (r : Nat) (d : Dev) : Dev := reselect (loseRef r d)

/-- REFERENCE_SWITCH_DONE: the build-out ends and the reference is locked; wait-to-restore counts from here (R437, R438). -/
def referenceSwitchDone (d : Dev) : Dev :=
  if d.timing.state = 1 then
    reselect (d.onTiming fun t => { t with
      state := 0, ref := t.ref.map fun e => (e.1, { e.2 with held := 0 }) })
  else d

/-- WAIT_TO_RESTORE_EXPIRY: a reference of lower rank has been qualified for the wait-to-restore time (R438). -/
def waitToRestoreExpiry (d : Dev) : Dev :=
  let c := d.tcfg
  let t := d.timing
  match upgrade c t with
  | some b => if t.state = 0 ∧ waitLeft c t = 0 then d.onTiming (startSwitch b) else d
  | none => d

/-- OCXO_ABSENT: qualification is suspended and 0xC3 is raised (R440). -/
def ocxoAbsent (d : Dev) : Dev :=
  if d.timing.ocxo then (d.onTiming fun t => { t with ocxo := false }).raise 0xC3 else d

/-- OCXO_RETURN: qualification goes on (R440). -/
def ocxoReturn (d : Dev) : Dev := d.onTiming fun t => { t with ocxo := true }

/-- PLL_LOCK_LOSS of the fabric PLL or the TTU PLL (R440). -/
def pllLockLoss (ttu : Bool) (d : Dev) : Dev := d.raise (if ttu then 0xC5 else 0xC4)

/-- ETH_LINK_DOWN: the port's link and its recovered clock are lost (R410, R392). -/
def ethLinkDown (p : Nat) (d : Dev) : Dev :=
  if (d.eport p).link = 2 then reselect (loseRef (2 + p) (portDown p d)) else d

/-- ETH_LINK_UP: the recovered clock is offered as a reference (R392). -/
def ethLinkUp (p : Nat) (d : Dev) : Dev := portUp p d

/-! Chassis time (R441 to R445). -/

/-- Units of 1/3 ns in a second. -/
def unitsPerSec : Nat := 3000000000

/-- Master chassis time in units of 1/3 ns (R441). -/
def Dev.chassis (d : Dev) : Int := 2 * (d.clock.edges : Int) + d.timing.master

/-- Master chassis time as TAI seconds and whole nanoseconds. -/
def Dev.timeNow (d : Dev) : Nat × Nat :=
  let u := d.chassis.toNat
  (u / unitsPerSec, u % unitsPerSec / 3)

/-- Chassis time as the 12 bytes of 0x2D10:01. -/
def Dev.timeBytes (d : Dev) : Bytes := leBytes 6 d.timeNow.1 ++ leBytes 4 d.timeNow.2 ++ leBytes 2 0

/-- Place of a TTU message in the order of R445: trigger messages, then LOAD and ADD, then SYNC. -/
def ttuRank (p : Packet) : Nat :=
  if p.src = 64 ∧ p.ty = 4 ∧ p.mq = 0xFE then (if p.code = 0 then 2 else 1) else 0

/-- The TTU hands its NI a one-flit message of class T; it waits behind those that R445 puts first. -/
def ttuSend (p : Packet) (d : Dev) : Dev :=
  d.upNi 64 fun x =>
    let after (o : Out) : Bool := decide (ttuRank p < ttuRank o.pkt)
    { x with out := (x.out.filter fun o => !after o) ++ [{ pkt := p, kind := .message }] ++ x.out.filter after }

/-- The message that carries a replica's change (R443). -/
def changeMessage (n : Nat) : TimeChange → Packet
  | .load => messagePkt 64 0 0 n 0xFE 2 []
  | .add k => messagePkt 64 0 0 n 0xFE 3 (leBytes 8 (encInt 64 k))

/-- The messages of a change go out; the TTU's own NI takes its change directly (R443). -/
def startChange (q : TimeReq) (d : Dev) : Dev :=
  Dev.fold q.nis (fun e acc =>
    if e.1 = 64 then acc.upNi 64 fun x => { x with change := some e.2 } else ttuSend (changeMessage e.1 e.2) acc)
    (d.onTiming fun t => { t with pending := some q })

/-- Two changes of one replica in one strobe: a LOAD stands for both, counts add up. -/
def joinChange : TimeChange → TimeChange → TimeChange
  | .add a, .add b => .add (a + b)
  | _, _ => .load

/-- Two changes of the master in one strobe. -/
def joinMaster : MasterChange → MasterChange → MasterChange
  | a, .none => a
  | _, .load o => .load o
  | .load o, .add k => .load (o + k)
  | .add j, .add k => .add (j + k)
  | .none, .add k => .add k

/-- A change of chassis time; one that is requested while a strobe is pending waits for the next strobe (R443). -/
def requestChange (q : TimeReq) (d : Dev) : Dev :=
  if d.timing.pending.isNone then startChange q d
  else d.onTiming fun t => { t with next := {
    master := joinMaster t.next.master q.master
    nis := q.nis.foldl (fun acc e => match Tbl.find? acc e.1 with
      | some old => Tbl.set acc e.1 (joinChange old e.2)
      | none => Tbl.set acc e.1 e.2) t.next.nis } }

/-- The same change for every NI. -/
def everyNi (c : TimeChange) : Tbl TimeChange := (List.range 67).map fun n => (n, c)

/-- The master's value after the strobe. -/
def MasterChange.apply (m : Int) : MasterChange → Int
  | .none => m
  | .load o => o
  | .add k => m + k

/-- What the strobe does to an NI's status and replica (R443, R461): a LOAD takes the master's instant, rounded down to a count. -/
def applyChange (master : Int) (x : Ni) : Ni :=
  match x.change with
  | none => x
  | some .load => { (x.count 32 0x5020) with offset := master / 2, change := none, loaded := true, outOfStep := false }
  | some (.add k) => { (x.count 32 0x5020) with offset := x.offset + k, change := none }

/-- Held messages that a forward step passes over are late (R197). -/
def markLate (old new : Int) (x : Ni) : Ni :=
  { x with hold := x.hold.map fun h =>
      let rel := timeCount h.pkt.relS h.pkt.relNs
      { h with late := h.late || decide (old < rel ∧ rel < new) } }

/-- What the strobe does at an NI at an FCLK edge. -/
def strobeNi (edges master : Int) (x : Ni) : Ni :=
  markLate (edges + x.offset) (edges + (applyChange master x).offset) (applyChange master x)

/-- Whether SYSREF output `k` is enabled. -/
def sysrefOn (c : Cfg) (k : Nat) : Bool := c.nat (0x2D40 + k) 1 == 1

/-- SYSREF output `k`. -/
def Timing.out (t : Timing) (k : Nat) : Sysref := t.sysref.get {} k

/-- The device with `f` applied to SYSREF output `k`. -/
def Dev.upSysref (k : Nat) (f : Sysref → Sysref) (d : Dev) : Dev :=
  d.onTiming fun t => { t with sysref := t.sysref.modify {} k f }

/-- The SYSREF grids when chassis time moves by some units (R454): mode 0 follows, mode 1 keeps its real-time spacing. -/
def moveGrids (by_ : Int) (d : Dev) : Dev :=
  if by_ = 0 then d
  else Dev.fold (List.range 6) (fun k e =>
    if sysrefOn e.tcfg k = false then e
    else if e.tcfg.nat (0x2D40 + k) 5 = 0 then e.raise 0xCD k
    else e.upSysref k fun x => { x with offset := x.offset + by_ }) d

/-- Whether a LOAD or ADD of the pending change has not been injected yet. -/
def changesWait (d : Dev) : Bool := (d.ni 64).out.any fun o => ttuRank o.pkt == 1

/-- TIME_STROBE: the strobe arrives; pending changes apply at the NIs and the master, and the next change starts (R443,
R465). -/
def timeStrobe (d : Dev) : Dev :=
  match d.timing.pending with
  | none => d
  | some q =>
    if changesWait d then d
    else
      let m := q.master.apply d.timing.master
      let d1 := d.onTiming fun t => { t with master := m, pending := none, next := {} }
      let d2 := Dev.fold (List.range 67) (fun n e => if (e.ni n).change.isSome then e.upNi n (strobeNi d.clock.edges m) else e) d1
      let d3 := moveGrids (m - d.timing.master) d2
      if d.timing.next.nis.isEmpty then d3 else startChange d.timing.next d3

/-- A step of `x` ns is recorded and raises 0xC6 (R444). -/
def noteStep (x : Int) (d : Dev) : Dev :=
  (d.onTiming fun t => { t with steps := inc32 t.steps, lastStep := x }).raise 0xC6

/-- δ of R444: x ns in counts, half away from zero. -/
def countsOf (x : Int) : Int :=
  let k : Int := ((3 * x.natAbs + 1) / 2 : Nat)
  if x < 0 then -k else k

/-- An adjustment of `x` ns (R444). -/
def adjust (x : Int) (d : Dev) : Dev :=
  if x.natAbs ≤ d.tcfg.nat 0x2D10 4 then d.onTiming fun t => { t with backlog := t.backlog + countsOf x }
  else
    requestChange { master := .add (2 * countsOf x), nis := everyNi (.add (countsOf x)) }
      (noteStep x (d.onTiming fun t => { t with backlog := 0 }))

/-- SLEW_TICK: one count of the backlog's sign is applied by ADD (R444). -/
def slewTick (d : Dev) : Dev :=
  let b := d.timing.backlog
  if b = 0 then d
  else
    let k : Int := if b < 0 then -1 else 1
    requestChange { master := .add (2 * k), nis := everyNi (.add k) } (d.onTiming fun t => { t with backlog := b - k })

/-- The change that makes chassis time stand at a TAI time now. -/
def loadTime (d : Dev) (s ns : Nat) : TimeReq :=
  { master := .load (3 * ((s * 1000000000 + ns : Nat) : Int) - 2 * (d.clock.edges : Int)), nis := everyNi .load }

/-- Chassis time is set: a LOAD to every NI, which counts as a step (R444, R448). -/
def setTime (s ns : Nat) (d : Dev) : Dev :=
  let now := d.timeNow
  let x : Int := ((s * 1000000000 + ns : Nat) : Int) - ((now.1 * 1000000000 + now.2 : Nat) : Int)
  let d1 := noteStep x (d.onTiming fun t => { t with backlog := 0, valid := max 1 t.valid })
  requestChange (loadTime d s ns) d1

/-- Whether a write of the time from a path is refused with detail 0x70 (R442). -/
def timeWriteRefused (d : Dev) (path : Nat) : Bool :=
  let src := d.tcfg.nat 0x2D10 2
  (src == 1 && path != 1) || (src == 2 && d.timing.role == 3)

/-- SYNC_SEND: every other NI is sent a SYNC message (R445); the TTU's own NI is never out of step with itself. -/
def syncSend (d : Dev) : Dev :=
  Dev.fold ((List.range 67).filter (· != 64)) (fun n e => ttuSend (messagePkt 64 0 0 n 0xFE 0 []) e) d

/-- REPLICA_RELOAD: a report of an NI out of step is absorbed at the TTU, which reloads that NI (R445). -/
def replicaReload (vc : Nat) (d : Dev) : Dev :=
  match d.front 64 vc with
  | some (p, bad) =>
    if p.ty = 4 ∧ p.mq = 0xFE then
      let d1 := popEj 64 vc d
      if bad then d1.raise 0x4B 64 p.part
      else requestChange { nis := [(p.src, .load)] }
        ((d1.onTiming fun t => { t with reloads := inc32 t.reloads }).raise 0xCC p.src)
    else d
  | none => d

/-! UTC (R447, R448). -/

/-- Leap years of the Gregorian calendar. -/
def isLeap (y : Nat) : Bool := (y % 4 == 0 && y % 100 != 0) || y % 400 == 0

/-- Days of a year. -/
def yearDays (y : Nat) : Nat := 365 + b2n (isLeap y)

/-- Days of month `m` of a year. -/
def monthDays (y m : Nat) : Nat :=
  if m = 2 then 28 + b2n (isLeap y) else if m = 4 ∨ m = 6 ∨ m = 9 ∨ m = 11 then 30 else 31

/-- Days from 1970-01-01 to a date. -/
def daysTo (y m day : Nat) : Nat :=
  ((List.range (y - 1970)).foldl (fun a i => a + yearDays (1970 + i)) 0)
    + ((List.range (m - 1)).foldl (fun a i => a + monthDays y (i + 1)) 0) + (day - 1)

/-- Whether R448 accepts a calendar value. -/
def calendarOk (v : Nat) : Bool :=
  let y := bitsOf v 63 48
  let m := bitsOf v 47 40
  let day := bitsOf v 39 32
  decide (2000 ≤ y ∧ y ≤ 2399) && decide (1 ≤ m ∧ m ≤ 12) && decide (1 ≤ day ∧ day ≤ monthDays y m)
    && decide (bitsOf v 31 24 ≤ 23) && decide (bitsOf v 23 16 ≤ 59) && decide (bitsOf v 15 8 ≤ 59) && decide (v % 256 = 0)

/-- TAI seconds of a calendar value (R447). -/
def calendarTai (c : Cfg) (v : Nat) : Nat :=
  86400 * daysTo (bitsOf v 63 48) (bitsOf v 47 40) (bitsOf v 39 32) + 3600 * bitsOf v 31 24 + 60 * bitsOf v 23 16
    + bitsOf v 15 8 + c.nat 0x2D20 3

/-- The year, and the day within it, of a day count; `fuel` bounds the years. -/
def splitYear : Nat → Nat → Nat → Nat × Nat
  | 0, y, n => (y, n)
  | fuel + 1, y, n => if n < yearDays y then (y, n) else splitYear fuel (y + 1) (n - yearDays y)

/-- The month, and the day within it, of a day of a year. -/
def splitMonth : Nat → Nat → Nat → Nat → Nat × Nat
  | 0, _, m, n => (m, n)
  | fuel + 1, y, m, n => if n < monthDays y m then (m, n) else splitMonth fuel y (m + 1) (n - monthDays y m)

/-- 0x2D20:01: TAI seconds converted back; 0 outside the calendar range (R448). -/
def calendarOf (c : Cfg) (tai : Nat) : Nat :=
  let off := c.nat 0x2D20 3
  if tai < off + 86400 * 10957 then 0
  else
    let s := tai - off
    let a := splitYear 400 2000 (s / 86400 - 10957)
    if 2400 ≤ a.1 then 0
    else
      let b := splitMonth 12 a.1 1 a.2
      a.1 * 2 ^ 48 + b.1 * 2 ^ 40 + (b.2 + 1) * 2 ^ 32 + s % 86400 / 3600 * 2 ^ 24 + s % 3600 / 60 * 2 ^ 16 + s % 60 * 2 ^ 8

/-- UTC now, 0x2D20:01. -/
def utcNow (d : Dev) : Nat := if d.timing.valid = 0 then 0 else calendarOf d.tcfg d.timeNow.1

/-! PTP (R446). -/

/-- Whether a frame for the firmware is a PTP message of the configured domain and transport. -/
def ptpWanted (d : Dev) (f : Bytes) : Bool :=
  let c := d.tcfg
  let x := parseFrame f
  let o := ptpOffset f
  let transport := if o.2.1 then 1 else if o.2.2 then 2 else 0
  (x.ety == 0x88F7 || (x.udp.map fun u => u.1 == 319 || u.1 == 320) == some true)
    && transport == c.nat 0x2D12 3 && be f (o.1 + 4) 1 == c.nat 0x2D12 2

/-- Ten good Sync messages in a row lock chassis time to PTP; the first lock loads every replica (R446, R469). -/
def ptpLock (d : Dev) : Dev :=
  if 10 ≤ d.timing.ptpGood ∧ d.tcfg.nat 0x2D10 2 = 1 ∧ d.timing.valid ≠ 2 then
    let first := d.timing.valid == 0
    let d1 := d.onTiming fun t => { t with valid := 2 }
    if first then requestChange { nis := everyNi .load } d1 else d1
  else d

/-- The firmware takes the oldest frame of the PTP port. Where it is a wanted PTP message, the port state, the offset and
the path delay that IEEE 1588 gives are reported, a message that completes a Sync is judged, and the servo's adjustment
is made (R446). The UTC offset of an Announce comes back for the caller to write. -/
def ptpTake (st : Nat) (off : Int) (delay : Nat) (adj : Int) (d : Dev) : Dev × Option Nat :=
  let p := d.tcfg.nat 0x2D12 1
  match (d.eport p).toFw with
  | [] => (d, none)
  | f :: rest =>
    let d1 := d.upPort p fun x => { x with toFw := rest }
    if 4 ≤ p ∨ ptpWanted d f.frame = false then (d1, none)
    else
      let o := (ptpOffset f.frame).1
      let ty := be f.frame o 1 % 16
      let st' := if d.tcfg.nat 0x2D12 6 = 1 ∧ 5 ≤ st ∧ st ≤ 7 then 4 else st
      let slave := st' == 9
      let sync := (ty == 0 && !bitOf (be f.frame (o + 6) 1) 1) || ty == 8
      let good := if slave && decide (off.natAbs ≤ 1000) then d.timing.ptpGood + 1 else 0
      let d2 := d1.onTiming fun t => { t with
        ptpState := st', ptpOffset := off, ptpDelay := delay
        ptpGood := if sync then good else if slave then t.ptpGood else 0 }
      let d3 := if ty = 9 then
          d2.upPort p fun x => { x with fifo := x.fifo.filter fun e => !(e.ty == 1 && e.seqId == be f.frame (o + 30) 2) }
        else d2
      if sync = true ∧ slave = true then
        (ptpLock (if d.tcfg.nat 0x2D10 2 = 1 ∧ adj ≠ 0 then adjust adj d3 else d3), none)
      else if ty = 0xB ∧ slave = true then (d3, some (be f.frame (o + 44) 2))
      else (d3, none)

/-- PTP_MASTER_LOSS: time valid returns to 1 and 0xC7 is raised (R446). -/
def ptpMasterLoss (st : Nat) (d : Dev) : Dev :=
  let locked := d.tcfg.nat 0x2D10 2 == 1 && d.timing.valid == 2
  let d1 := d.onTiming fun t => { t with ptpState := st, ptpGood := 0 }
  if locked then (d1.onTiming fun t => { t with valid := 1 }).raise 0xC7 else d1

/-! Trigger lines (R449 to R452). -/

/-- Trigger line `c`. -/
def Dev.line (d : Dev) (c : Nat) : TrigLine := d.timing.line.get {} c

/-- The device with `f` applied to trigger line `c`. -/
def Dev.upLine (c : Nat) (f : TrigLine → TrigLine) (d : Dev) : Dev :=
  d.onTiming fun t => { t with line := t.line.modify {} c f }

/-- A counter of a trigger line. -/
def Dev.countLine (c sub : Nat) (d : Dev) : Dev := d.upLine c fun x => { x with counts := x.counts.modify 0 sub inc32 }

/-- An object of trigger line `c` under the TCLK shadow. -/
def Dev.lineObj (d : Dev) (c sub : Nat) : Nat := d.tcfg.nat (0x2D30 + c) sub

/-- Owner of trigger line `c`; it changes at the flip (R449, R467). -/
def Dev.lineOwner (d : Dev) (c : Nat) : Nat := d.cfg.nat (0x2D30 + c) 1

/-- Trigger messages that wait in the TTU (R450). -/
def triggersWaiting (d : Dev) : Nat := ((d.ni 64).out.filter fun o => o.pkt.ty == 4 && o.pkt.mq == 1 && o.pkt.code == 0x20).length

/-- The payload of a trigger message (R364): source code, then the time in seconds, nanoseconds and 2⁻¹⁶ ns. -/
def triggerPayload (src t : Nat) : Bytes :=
  [byte src] ++ leBytes 6 (t / 65536000000000) ++ leBytes 4 (t / 65536 % 1000000000) ++ leBytes 2 (t % 65536)

/-- TRIGGER_INPUT_EDGE: a filtered edge of line `c` at chassis time `t`, in 2⁻¹⁶ ns at the balls (R450, R508). -/
def triggerInputEdge (c : Nat) (asserted : Bool) (t : Nat) (d : Dev) : Dev :=
  let sel := d.lineObj c 3
  if bitOf (d.lineObj c 2) 0 = false ∨ (sel ≠ 2 ∧ sel ≠ (if asserted then 0 else 1)) then d
  else
    let owner := d.lineOwner c
    let stamp := ((t : Int) - d.tcfg.int (0x2D30 + c) 5 * 1024).toNat
    let d1 := signalLine c ((d.countLine c 0xB).upLine c fun x => { x with last := stamp })
    let links := (List.range 24).filter fun k =>
      linkUsed (d.dcfg k) k && linkOwner d.cfg k == owner && bitOf (d.lineObj c 6) k && unitAdmits d 64 owner
    let room := 32 - triggersWaiting d
    let d2 := Dev.fold (links.take room) (fun k e => ttuSend (messagePkt 64 owner 0 k 1 0x20 (triggerPayload c stamp)) e) d1
    if room < links.length then (d2.countLine c 0xE).raise 0xCB c owner else d2

/-- Chassis time in fine steps of 1/64 ns, rounded up. -/
def Dev.fineNow (d : Dev) : Int := -((-(d.chassis * 64)) / 3)

/-- Edges that a line holds in the scheduler (R452). -/
def TrigLine.edges (x : TrigLine) : Nat := x.toggles.length + x.pulses.foldl (fun a p => a + if p.on then 1 else 2) 0

/-- The pulses of a line with one more order (R452): pulses that meet become one, which ends :08 ns after the latest E. -/
def addPulse (e width : Int) (l : List Pulse) : List Pulse :=
  let meets (p : Pulse) : Bool := decide (p.start ≤ e + width ∧ e ≤ p.stop)
  let one : Pulse := { start := e, last := e, stop := e + width }
  let join (a p : Pulse) : Pulse := {
    start := min a.start p.start, last := max a.last p.last
    stop := if a.last < p.last then p.stop else a.stop, on := a.on || p.on }
  insertBy (fun a b => decide (a.start < b.start)) ((l.filter meets).foldl join one) (l.filter fun p => !meets p)

/-- An order to drive line `c` at its release (R451, R452). -/
def driveLine (c : Nat) (h : Released) (d : Dev) : Dev :=
  if bitOf (d.lineObj c 2) 1 = false ∨ d.lineOwner c ≠ h.pkt.part then d.countLine c 0xE
  else
    let e0 : Int := ((h.pkt.relS * 1000000000 + h.pkt.relNs) * 64 + d.lineObj c 9 : Nat)
    let soonest := d.fineNow + 1280
    let late := h.late || decide (e0 < soonest)
    let e := if late then soonest else e0
    let x := d.line c
    let y := if d.lineObj c 7 = 1 then
        (if x.toggles.contains e then x else { x with toggles := insertBy (fun a b => decide (a < b)) e x.toggles })
      else { x with pulses := addPulse e ((d.lineObj c 8 * 64 : Nat) : Int) x.pulses }
    let all := (span 1 14).foldl (fun a i => a + (if i = c then y.edges else (d.line i).edges)) 0
    if 64 < all then (d.countLine c 0xE).raise 0xCB c h.pkt.part
    else
      let d1 := d.upLine c fun _ => y
      if late then (d1.countLine c 0xD).raise 0xCA c h.pkt.part else d1

/-- TRIGGER_ORDER: the oldest released order at the TTU (R451). -/
def triggerOrder (d : Dev) : Dev :=
  match (d.ni 64).released.head? with
  | none => d
  | some h =>
    let c := h.pkt.data.le 0 1
    let d1 := dropReleased 64 d
    if 1 ≤ c ∧ c ≤ 13 then driveLine c h d1 else d1

/-- The earliest scheduled edge of line `c` is driven: a toggle, or the first edge of a pulse (R451). -/
def driveEdge (c : Nat) (d : Dev) : Dev :=
  let x := d.line c
  match x.toggles, x.pulses.filter fun p => !p.on with
  | t :: ts, p :: _ =>
    if t ≤ p.start then d.upLine c fun y => { y with out := !y.out, toggles := ts }
    else d.upLine c fun y => { y with out := true, pulses := y.pulses.map fun q => if q = p then { q with on := true } else q }
  | _ :: ts, [] => d.upLine c fun y => { y with out := !y.out, toggles := ts }
  | [], p :: _ => d.upLine c fun y => { y with out := true, pulses := y.pulses.map fun q => if q = p then { q with on := true } else q }
  | [], [] => d

/-- The earliest entry of line `c` is discarded and counted (0x2D30 + c:0E). -/
def discardEdge (c : Nat) (d : Dev) : Dev :=
  let x := d.line c
  match x.toggles, x.pulses.filter fun p => !p.on with
  | t :: ts, p :: _ =>
    if t ≤ p.start then (d.upLine c fun y => { y with toggles := ts }).countLine c 0xE
    else (d.upLine c fun y => { y with pulses := y.pulses.filter fun q => q != p }).countLine c 0xE
  | _ :: ts, [] => (d.upLine c fun y => { y with toggles := ts }).countLine c 0xE
  | [], p :: _ => (d.upLine c fun y => { y with pulses := y.pulses.filter fun q => q != p }).countLine c 0xE
  | [], [] => d

/-- TRIGGER_EDGE_FIRE: the earliest scheduled edge of line `c` falls due (R451). `err` is what SECDED finds in its entry:
an uncorrectable one is discarded and counted (0xCE, 0xCF). -/
def triggerEdgeFire (c : Nat) (err : MemErr) (d : Dev) : Dev :=
  if (d.line c).toggles.isEmpty && ((d.line c).pulses.all fun p => p.on) then d
  else match err with
    | .none => driveEdge c d
    | .corrected => driveEdge c (d.raise 0xCE)
    | .uncorrectable => discardEdge c (d.raise 0xCF)

/-- TRIGGER_PULSE_END: an active pulse of line `c` ends (R451, R452). -/
def triggerPulseEnd (c : Nat) (d : Dev) : Dev :=
  if ((d.line c).pulses.any fun p => p.on) then
    d.upLine c fun y => { y with out := false, pulses := y.pulses.filter fun p => !p.on }
  else d

/-! SYSREF (R453, R454). -/

/-- A re-anchoring that is due is made, in one move (R454). -/
def anchorGrids (d : Dev) : Dev :=
  Dev.fold (List.range 6) (fun k e =>
    match (e.timing.out k).anchorAt with
    | none => e
    | some s =>
      if s ≤ e.timeNow.1 then
        let moved := (e.timing.out k).offset != 0
        let e1 := e.upSysref k fun x => { x with offset := 0, anchorAt := none }
        if moved && sysrefOn e.tcfg k then e1.raise 0xCD k else e1
      else e) d

/-- One FCLK period passes with no command: the wall clock advances, FCLK's edge count where FCLK runs outside reset, and
with it chassis time (R441, R186). -/
def idleEdge (d : Dev) : Dev :=
  let c := d.clock
  if c.running && d.power.released then anchorGrids { d with clock := { c with wall := c.wall + 1, edges := c.edges + 1 } }
  else { d with clock := { c with wall := c.wall + 1 } }

/-- The level that the grid of output `k` gives it now (R453): with y the fine steps since the phase of the second, it is high
from each multiple of the period, rounded down, for half the period, rounded down. -/
def sysrefLevel (d : Dev) (k : Nat) : Bool :=
  let c := d.tcfg
  let num := 64 * c.nat (0x2D40 + k) 2
  let den := c.nat (0x2D40 + k) 3
  let phase := c.nat (0x2D40 + k) 4
  let x := ((d.chassis - (d.timing.out k).offset).emod (unitsPerSec : Int)).toNat * 64 / 3
  let y := if x < phase then x + 64000000000 - phase else x - phase
  let j := ((y + 1) * den - 1) / num
  decide (y < j * num / den + num / (2 * den))

/-- SYSREF_EDGE: an enabled output takes the level of its grid, in which it rises or falls (R453); a disabled one stays low
(R555). -/
def sysrefEdge (k : Nat) (d : Dev) : Dev :=
  let d1 := anchorGrids d
  if sysrefOn d1.tcfg k then d1.upSysref k fun x => { x with high := sysrefLevel d1 k } else d1

/-- SYSREF_REANCHOR: the grid of output `k` is re-anchored at the next whole second (R454). -/
def reanchor (k : Nat) (d : Dev) : Dev := d.upSysref k fun x => { x with anchorAt := some (d.timeNow.1 + 1) }

/-- 0x2D40 + k:06 in picoseconds (R454). -/
def anchorOffset (x : Sysref) : Int := x.offset * 1000 / 3

/-! Chassis leader election (R455 to R458). -/

/-- The card's candidacy word: priority, then serial number. -/
def ownWord (d : Dev) : Nat := d.tcfg.nat 0x2D60 2 * 2 ^ 60 + Config.serialNumber % 2 ^ 60

/-- Whether the card takes part: its election line is set. -/
def electionOn (d : Dev) : Bool := d.tcfg.nat 0x2D60 1 < 8

/-- The bits of a number, most significant first. -/
def msbBits (w v : Nat) : List Bool := (List.range w).map fun i => bitOf v (w - 1 - i)

/-- CRC-8 of a frame: polynomial 0x07, initial value 0, most significant bit first. -/
def crc8 (bs : List Bool) : Nat :=
  bs.foldl (fun c b => let s := if (decide (128 ≤ c)) != b then 7 else 0; Nat.xor (c * 2 % 256) s) 0

/-- An election frame of a card with a word: start, word, type 0b0001, CRC-8. -/
def electionFrame (word : Nat) : List Bool :=
  [false] ++ msbBits 64 word ++ msbBits 4 1 ++ msbBits 8 (crc8 (msbBits 4 1))

/-- A heartbeat frame: start, word, type 0b0010, the marker's time, CRC-8, and the marker. -/
def heartbeatFrame (word s ns : Nat) : List Bool :=
  let body := msbBits 4 2 ++ msbBits 48 s ++ msbBits 32 ns
  [false] ++ msbBits 64 word ++ body ++ msbBits 8 (crc8 body) ++ [false]

/-- ELECTION_FRAME_START: the card starts the election frame it has to start (R455, R458, R468). -/
def electionFrameStart (d : Dev) : Dev :=
  if electionOn d = true ∧ d.timing.electing = true ∧ d.tcfg.nat 0x2D60 2 ≠ 15 then
    d.onTiming fun t => { t with role := 2, electing := false, frame := electionFrame (ownWord d) }
  else d

/-- Another card leads (R456, R458). -/
def follow (word : Nat) (d : Dev) : Dev :=
  d.onTiming fun t => { t with role := 3, leader := word, electing := false, beatDue := false }

/-- A leader sees a valid frame (R458): a lower word makes it a follower, a higher one is answered with a heartbeat. -/
def leaderSees (word : Nat) (d : Dev) : Dev :=
  if word < ownWord d then (follow word d).raise 0xC8
  else if ownWord d < word then d.onTiming fun t => { t with beatDue := true }
  else d

/-- ELECTION_FRAME_END: an election frame with a winner's word has ended (R456). -/
def electionFrameEnd (word : Nat) (crcOk : Bool) (d : Dev) : Dev :=
  if electionOn d = false then d
  else if crcOk = false ∨ d.armedSrc 0xC9 = true then
    (d.onTiming fun t => { t with role := if t.role = 2 then 1 else t.role }).raise 0xC9
  else
    let d1 := d.onTiming fun t => { t with elections := inc32 t.elections }
    if d.timing.role = 4 then leaderSees word d1
    else if d.timing.role = 2 ∧ word = ownWord d then
      d1.onTiming fun t => { t with role := 4, leader := word, beatDue := true, valid := min 1 t.valid }
    else follow word d1

/-- HEARTBEAT_SEND: the leader sends a heartbeat with its chassis time at the marker (R457). -/
def heartbeatSend (d : Dev) : Dev :=
  if electionOn d = true ∧ d.timing.role = 4 then
    d.onTiming fun t => { t with beatDue := false, beat := d.timeNow, frame := heartbeatFrame (ownWord d) d.timeNow.1 d.timeNow.2 }
  else d

/-- A follower takes the leader's time (R457): the first heartbeat after reset loads it, later ones adjust. -/
def takeBeat (s ns : Nat) (d : Dev) : Dev :=
  if d.tcfg.nat 0x2D10 2 ≠ 2 then d
  else
    let d1 := d.onTiming fun t => { t with valid := 2, loaded := true }
    if d.timing.loaded then
      let now := d.timeNow
      let x : Int := ((s * 1000000000 + ns : Nat) : Int) - ((now.1 * 1000000000 + now.2 : Nat) : Int)
      if x = 0 then d1 else adjust x d1
    else requestChange (loadTime d s ns) (d1.onTiming fun t => { t with backlog := 0 })

/-- HEARTBEAT_RECEIVE: a heartbeat frame of another card, at its marker (R457, R458). -/
def heartbeatReceive (word s ns : Nat) (crcOk : Bool) (d : Dev) : Dev :=
  if electionOn d = false then d
  else if crcOk = false ∨ d.armedSrc 0xC9 = true then d.raise 0xC9
  else if d.timing.role = 4 then
    (if word < ownWord d then takeBeat s ns (leaderSees word d) else leaderSees word d)
  else takeBeat s ns (follow word d)

/-- HEARTBEAT_LOSS: 3 heartbeat periods without a valid heartbeat (R458). A card of priority 15 starts no election. -/
def heartbeatLoss (d : Dev) : Dev :=
  let starts := d.tcfg.nat 0x2D60 2 != 15
  if electionOn d = false then d
  else if d.timing.role = 1 then d.onTiming fun t => { t with electing := starts }
  else if d.timing.role = 3 then
    let d1 := d.onTiming fun t => { t with
      role := 1, electing := starts, losses := inc32 t.losses
      valid := if d.tcfg.nat 0x2D10 2 = 2 then min 1 t.valid else t.valid }
    if d.tcfg.nat 0x2D10 2 = 2 then d1.raise 0xC7 else d1
  else d

/-! Apply edges, clears and reset. -/

/-- What a new configuration changes at the TCLK apply edge (R464, R442, R453, R454, R458).
A chip reset leaves the role at 0: its own apply makes a card listen again where the line is still configured (R469). -/
def applyTiming (old : Cfg) (d : Dev) : Dev :=
  let c := d.tcfg
  let d1 := if old.nat 0x2D60 1 = c.nat 0x2D60 1 ∧ (d.timing.role != 0 || c.nat 0x2D60 1 ≥ 8) then d
    else d.onTiming fun t => { t with role := if c.nat 0x2D60 1 < 8 then 1 else 0, electing := false, beatDue := false }
  let d2 := if old.nat 0x2D10 2 = c.nat 0x2D10 2 then d1
    else d1.onTiming fun t => { t with valid := min 1 t.valid, ptpGood := 0 }
  let d3 := Dev.fold (List.range 6) (fun k e =>
    let off := sysrefOn c k == false
    let follows := c.nat (0x2D40 + k) 5 == 0
    let moved := !off && follows && (e.timing.out k).offset != 0
    let e1 := if off || follows then
        e.upSysref k fun x => { x with high := if off then false else x.high, offset := 0 }
      else e
    if moved then e1.raise 0xCD k else e1) d2
  reselect d3

/-- Every counter of the timing table (R459). -/
def clearTiming (d : Dev) : Dev :=
  d.onTiming fun t => { t with
    switches := 0, holdovers := 0, steps := 0, reloads := 0, elections := 0, losses := 0
    line := t.line.map fun e => (e.1, { e.2 with counts := [] }) }

/-! Meanings. -/

/-- REFERENCE_MEASUREMENT: At each 10 ms measurement a reference's frequency is checked and it qualifies or is disqualified (R434). -/
def execReferenceMeasurement (m : List (Option Int)) (s : State) : Host.Outcome State Fault Refusal :=
  act (wfReferenceMeasurement m) (referenceMeasurement m) s

/-- REFERENCE_EDGE_LOSS: A reference misses an edge and is disqualified within 2 nominal periods (R434). -/
def execReferenceEdgeLoss (r : Nat) (s : State) : Host.Outcome State Fault Refusal :=
  act (wfReferenceEdgeLoss r) (referenceEdgeLoss r) s

/-- REFERENCE_SWITCH_DONE: A 1 ms phase build-out switch completes and the state becomes locked (R437). -/
def execReferenceSwitchDone (s : State) : Host.Outcome State Fault Refusal :=
  act wfReferenceSwitchDone referenceSwitchDone s

/-- WAIT_TO_RESTORE_EXPIRY: A better reference has been qualified for the wait-to-restore time and the device switches to it (R438). -/
def execWaitToRestoreExpiry (s : State) : Host.Outcome State Fault Refusal :=
  act wfWaitToRestoreExpiry waitToRestoreExpiry s

/-- OCXO_ABSENT: The OCXO is absent; qualification is suspended and 0xC3 is raised (R440). -/
def execOcxoAbsent (s : State) : Host.Outcome State Fault Refusal :=
  act wfOcxoAbsent ocxoAbsent s

/-- OCXO_RETURN: OCXO edges return after an absence, and reference qualification resumes (R440). -/
def execOcxoReturn (s : State) : Host.Outcome State Fault Refusal :=
  act wfOcxoReturn ocxoReturn s

/-- PLL_LOCK_LOSS: The fabric or TTU PLL loses lock and raises 0xC4 or 0xC5 (R440). -/
def execPllLockLoss (ttu : Bool) (s : State) : Host.Outcome State Fault Refusal :=
  act (wfPllLockLoss ttu) (pllLockLoss ttu) s

/-- ETH_LINK_DOWN: A port's link goes down; transmission drops and SyncE loses the reference (R410). -/
def execEthLinkDown (p : Nat) (s : State) : Host.Outcome State Fault Refusal :=
  act (wfEthLinkDown p) (ethLinkDown p) s

/-- ETH_LINK_UP: A port's link comes up and its recovered clock is offered as a reference (R392). -/
def execEthLinkUp (p : Nat) (s : State) : Host.Outcome State Fault Refusal :=
  act (wfEthLinkUp p) (ethLinkUp p) s

/-- SLEW_TICK: Every slew interval, one count of the backlog is applied by ADD (R444). -/
def execSlewTick (s : State) : Host.Outcome State Fault Refusal :=
  act wfSlewTick slewTick s

/-- TIME_STROBE: 96 FCLK after the last LOAD or ADD message, the TTU fires the strobe and the pending changes apply (R443). -/
def execTimeStrobe (s : State) : Host.Outcome State Fault Refusal :=
  act wfTimeStrobe timeStrobe s

/-- SYNC_SEND: Each replica check period, the TTU sends every NI a SYNC message (R445). -/
def execSyncSend (s : State) : Host.Outcome State Fault Refusal :=
  act wfSyncSend syncSend s

/-- REPLICA_RELOAD: An out-of-step report reaches the TTU and it reloads that NI with LOAD and a strobe (R445). -/
def execReplicaReload (vc : Nat) (s : State) : Host.Outcome State Fault Refusal :=
  act (wfReplicaReload vc) (replicaReload vc) s

/-- PTP_MASTER_LOSS: 3 announce intervals pass without a master; time valid returns to 1 and 0xC7 is raised (R446). -/
def execPtpMasterLoss (state : Nat) (s : State) : Host.Outcome State Fault Refusal :=
  act (wfPtpMasterLoss state) (ptpMasterLoss state) s

/-- TRIGGER_INPUT_EDGE: A filtered input edge of a trigger line is timestamped and sent as trigger messages to owned links (R450). -/
def execTriggerInputEdge (c : Nat) (asserted : Bool) (t : Nat) (s : State) : Host.Outcome State Fault Refusal :=
  act (wfTriggerInputEdge c asserted t) (triggerInputEdge c asserted t) s

/-- TRIGGER_ORDER: A released order at TTU MQ 1 schedules an output edge of a trigger line, or is discarded (R451). -/
def execTriggerOrder (s : State) : Host.Outcome State Fault Refusal :=
  act wfTriggerOrder triggerOrder s

/-- TRIGGER_EDGE_FIRE: A scheduled trigger edge is asserted or toggled at its time (R451). -/
def execTriggerEdgeFire (c : Nat) (err : MemErr) (s : State) : Host.Outcome State Fault Refusal :=
  act (wfTriggerEdgeFire c err) (triggerEdgeFire c err) s

/-- TRIGGER_PULSE_END: A pulse-mode trigger output is released when its pulse width ends (R452). -/
def execTriggerPulseEnd (c : Nat) (s : State) : Host.Outcome State Fault Refusal :=
  act (wfTriggerPulseEnd c) (triggerPulseEnd c) s

/-- SYSREF_EDGE: An enabled SYSREF output rises or falls at its grid time (R453). -/
def execSysrefEdge (k : Nat) (s : State) : Host.Outcome State Fault Refusal :=
  act (wfSysrefEdge k) (sysrefEdge k) s

/-- ELECTION_FRAME_START: A card starts an election frame at a SYNC100 edge after the line has been idle (R455). -/
def execElectionFrameStart (s : State) : Host.Outcome State Fault Refusal :=
  act wfElectionFrameStart electionFrameStart s

/-- ELECTION_FRAME_END: An election frame ends; the winner becomes leader, or a bad CRC raises 0xC9 (R456). -/
def execElectionFrameEnd (word : Nat) (crcOk : Bool) (s : State) : Host.Outcome State Fault Refusal :=
  act (wfElectionFrameEnd word crcOk) (electionFrameEnd word crcOk) s

/-- HEARTBEAT_SEND: The leader sends a heartbeat frame every heartbeat period (R457). -/
def execHeartbeatSend (s : State) : Host.Outcome State Fault Refusal :=
  act wfHeartbeatSend heartbeatSend s

/-- HEARTBEAT_RECEIVE: A follower receives a heartbeat marker and loads or adjusts its time (R457). -/
def execHeartbeatReceive (word : Nat) (secs : Nat) (ns : Nat) (crcOk : Bool) (s : State) : Host.Outcome State Fault Refusal :=
  act (wfHeartbeatReceive word secs ns crcOk) (heartbeatReceive word secs ns crcOk) s

/-- HEARTBEAT_LOSS: 3 heartbeat periods pass without a valid heartbeat and the card starts an election (R458). -/
def execHeartbeatLoss (s : State) : Host.Outcome State Fault Refusal :=
  act wfHeartbeatLoss heartbeatLoss s

end Sys2Proof.Machine
end

