-- ==== Sys2Proof/Machine/Partitions.lean ====
section
/-! DEFINITION. Partitions, lock cycles, resets, power domains and clock domains (spec/09, spec/10, spec/20). -/
namespace Sys2Proof.Machine

/-- The device with `f` applied to partition `p`. -/
def Dev.upPart (p : Nat) (f : Part → Part) (d : Dev) : Dev := { d with parts := d.parts.modify {} p f }

/-- Power domain `k`. -/
def Dev.pd (d : Dev) (k : Nat) : Pd := d.pds.get {} k

/-- The device with `f` applied to power domain `k`. -/
def Dev.upPd (k : Nat) (f : Pd → Pd) (d : Dev) : Dev := { d with pds := d.pds.modify {} k f }

/-- The outcome of a class I action: the device and the detail code, 0 for OK (R34). -/
abbrev Action := Dev × Nat

/-! The lock cycle (R250 to R257). -/

/-- The reset values of a mailbox, with its path's chamber emptied (R36, R87). -/
def resetMailbox (f : Nat) (d : Dev) : Dev :=
  { d with
    boxes := d.boxes.erase f
    store := { d.store with chambers := d.store.chambers.erase (16 + f), waiting := d.store.waiting.erase (16 + f) } }

/-- Domain of a unit's clock; a CP takes the DCLK of the link that uses its lane, and else that of its own number. -/
def unitDomain (d : Dev) (u : Nat) : Nat :=
  if u < 24 then 9 + (linkOfLane d.dcfg u).getD u
  else if 40 ≤ u ∧ u < 44 then 4
  else if 44 ≤ u ∧ u < 48 then 5 + (u - 44)
  else if 48 ≤ u ∧ u < 56 then 0x21 + (u - 48)
  else if u = 64 then 0x29
  else if u = 65 then 3
  else 1

/-- Whether a unit's power domain is on. -/
def unitPowered (d : Dev) (u : Nat) : Bool :=
  match unitPd u with
  | some p => (d.pd p).state != 0 && (d.pd p).state != 6
  | none => true

/-- Whether a held unit may leave reset: its clock runs, its store crossing has captured and its power is on (R231, R47). -/
def mayLeave (d : Dev) (u : Nat) : Bool :=
  d.resets.unitHeld.get false u && d.clockRuns (unitDomain d u) && unitPowered d u

/-- A unit reset that runs is abandoned when a stronger reset starts: the unit leaves reset as soon as R231 lets it (R262). -/
def endUnitResets (d : Dev) : Dev := d.onResets fun r => { r with unitHeld := r.unitHeld.filter fun e => !(mayLeave d e.1) }

/-- Whether a reset stronger than a unit reset runs: a link-loss reset, or a partition's reset (R262). -/
def strongerRuns (d : Dev) : Bool :=
  d.resets.linkLoss == 2 || (List.range 16).any fun p => (d.part p).state == 3 || ((d.part p).state == 1 && (d.part p).thenReset)

/-- A partition reset or FLR of `p` begins: a PENDING mailbox request is withdrawn, an ACTIVE one ends unanswered, and weaker
resets are abandoned (R87, R262). -/
def beginReset (p : Nat) (d : Dev) : Dev := endUnitResets (resetMailbox p d)

/-- Steps 1 and 2 of the lock cycle of `p` (R252): its fence bit is set, every NI and unit refuses new work of it. -/
def startFence (p : Nat) (reset : Bool) (d : Dev) : Dev :=
  let d1 := d.upPart p fun x => { x with
    state := 1, fenceBit := true, thenReset := reset, txIdle := false, startedAt := d.clock.wall }
  opsFence p (Dev.fold (List.range 67) (fun n e => niFence n p e) (d1.when reset (beginReset p)))

/-- Step 6 is added to a lock cycle that runs (R272, R273). -/
def addReset (p : Nat) (d : Dev) : Dev := beginReset p (d.upPart p fun x => { x with thenReset := true })

/-- Step 6 begins (R252). -/
def startReset (p : Nat) (d : Dev) : Dev :=
  beginReset p (d.upPart p fun x => { x with state := 3, thenReset := false, fenceBit := true })

/-- A lock command, a write of 0x2610 + p:01 (R250). While a link-loss reset runs, a partition that it has taken to
RESET_DONE waits there: RESET and RELEASE have no effect on it (R262, R273). -/
def lockCommand (p v : Nat) (d : Dev) : Action :=
  let st := (d.part p).state
  if d.resets.linkLoss = 2 ∧ st = 4 ∧ (v = 2 ∨ v = 3) then (d, 0) else
  if v = 1 then
    if st = 0 then (startFence p false d, 0) else if st = 5 then (d, 0x60) else (d, 0)
  else if v = 2 then
    if st = 0 then (startFence p true (d.upPart p fun x => { x with autoRelease := false, awaitVf := false }), 0)
    else if st = 2 ∨ st = 4 then (startReset p d, 0)
    else (d, 0x60)
  else if v = 3 then
    if st = 2 ∨ st = 4 then (d.upPart p fun x => { x with state := 5, autoRelease := false, awaitVf := false }, 0)
    else if st = 0 ∨ st = 5 then (d, 0)
    else (d, 0x60)
  else (d, 0x06)

/-- The firmware presents a frame of its own on path 1, behind those that wait there already (R30); without firmware none. -/
def fwFrame (f : Frame) (d : Dev) : Dev :=
  if d.boot.firmware = false then d
  else if d.store.waiting.has 1 then d.onStore fun st => { st with own := st.own ++ [f] }
  else d.onStore fun st => { st with waiting := st.waiting.set 1 f }

/-- The firmware writes a value on path 1. -/
def fwWrite (idx sub : Nat) (b : Bytes) (d : Dev) : Dev :=
  fwFrame { op := 2, idx := idx, sub := sub, len := b.length, data := b, crcOk := true } d

/-- The firmware writes RELEASE for partition `p` (R251). -/
def fwRelease (p : Nat) (d : Dev) : Dev := fwWrite (0x2610 + p) 1 [byte 3] d

/-- Whether every unit has ended the work of `p` (R253). -/
def unitsIdle (d : Dev) (p : Nat) : Bool :=
  (startedOf d p).isEmpty && !convBusy d p && !ethBusy d p && !opsBusy d p

/-- The drain condition of `p` (R253). -/
def drained (d : Dev) (p : Nat) : Bool :=
  ((List.range 67).filter isInitiator).all (fun n => niDrained d n p) && unitsIdle d p

/-- Step 4 begins: the TX streams of `p` go idle (R252). -/
def startTxIdle (p : Nat) (d : Dev) : Dev := convTxIdle p (d.upPart p fun x => { x with txIdle := true })

/-- DRAIN_COMPLETE: the drain condition of `p` holds (R253, R270). -/
def drainComplete (p : Nat) (d : Dev) : Dev :=
  if (d.part p).state = 1 ∧ (d.part p).txIdle = false ∧ drained d p = true then startTxIdle p d else d

/-- DRAIN_TIMEOUT: the drain of `p` is forced (R254); one whose condition holds completes without it (R270). -/
def drainTimeout (p : Nat) (d : Dev) : Dev :=
  if (d.part p).state ≠ 1 ∨ (d.part p).txIdle = true then d
  else if drained d p then startTxIdle p d
  else
    let d1 := hostForceDrain p (Dev.fold ((List.range 67).filter isInitiator) (fun n e => niForceDrain n p e) d)
    let d2 := Dev.fold (List.range 4) (fun e y => ethForceDrain e p y) (opsDiscard p (convAbandon p (abandonCmds p d1)))
    let d3 := (d2.upPart p fun x => { x with drainTimeouts := inc32 x.drainTimeouts }).raise 0xF8 p p
    startTxIdle p d3

/-- FENCE_ACKNOWLEDGE: step 5 ends in FENCED; a reset that follows starts (R252). -/
def fenceAcknowledge (p : Nat) (d : Dev) : Dev :=
  let x := d.part p
  if x.state ≠ 1 ∨ x.txIdle = false then d
  else
    let ns := (d.clock.wall - x.startedAt) * 2 / 3
    let d1 := d.upPart p fun y => { y with state := 2, cycles := inc32 y.cycles, fenceTime := min ns (2 ^ 32 - 1) }
    if x.thenReset then startReset p d1 else d1

/-- Sources in the severe state, ascending. -/
def severeSources (d : Dev) : List Nat := (d.faults.src.filter fun e => e.2.severe).map (·.1)

/-- The error register 0x1001 (R86). -/
def errorRegister (d : Dev) : Nat :=
  let l := severeSources d
  b2n (!l.isEmpty) + 16 * b2n (l.any fun s => decide (0x80 ≤ s ∧ s ≤ 0xBF)) + 128 * b2n (l.any fun s => decide (s < 0x80 ∨ 0xBF < s))

/-- Error code of a source's EMCY (R83). -/
def emcyCode (s : Nat) : Nat :=
  if s < 0x80 ∨ (0xD0 ≤ s ∧ s ≤ 0xDF) then 0x5000
  else if s < 0xC0 then 0x8100
  else if s < 0xD0 then 0xFF01
  else if s < 0xF0 then 0x6100
  else 0xFF02

/-- The firmware queues the EMCY of a source that enters or leaves the severe state; beyond 16 it is dropped and counted
(R83). -/
def queueEmcy (s : Nat) (enter : Bool) (count : Nat) (d : Dev) : Dev :=
  if d.boot.firmware = false ∨ d.can.enabled = false then d
  else if 16 ≤ d.can.emcy.length then d.onCan fun c => { c with emcyDropped := inc32 c.emcyDropped }
  else
    let m := leBytes 2 (if enter then emcyCode s else 0) ++ [byte (errorRegister d), byte s, byte (b2n enter), byte (d.cfg.nat (0x4000 + s) 1)]
      ++ leBytes 2 (min count 0xFFFF)
    d.onCan fun c => { c with emcy := c.emcy ++ [m] }

/-- The severe state, the FAULT_N latch, the counts and the window of source `s` are cleared (R474, R479, R481); `all`
clears its record and pre-enable latch too. -/
def clearSourceState (all : Bool) (s : Nat) (d : Dev) : Dev :=
  let x := d.faults.src.get {} s
  let y : SourceState := if all then {} else { pre := x.pre, last := x.last }
  let d1 := d.onFaults fun f => { f with src := f.src.set s y }
  if x.severe then queueEmcy s false 0 d1 else d1

/-- Fault sources of `p` after its reset step (R256, R474). -/
def clearOwned (p : Nat) (d : Dev) : Dev :=
  Dev.fold (d.faults.src.filter fun e => d.cfg.nat (0x4000 + e.1) 1 == p) (fun e => clearSourceState false e.1) d

/-- What step 6 clears for `p` (R256). -/
def clearPartition (p : Nat) (d : Dev) : Dev :=
  let d1 := ethPartReset p d
  let d2 := destroyQueuesOf p d1
  let d3 := bridgePartReset p (opsDiscard p (partResetHost p (resetMailbox p d2)))
  let d4 := clearOwned p d3
  Dev.fold ((List.range 16).filter fun j => d4.probeCfg j 7 == 2 ^ p) probeStop d4

/-- A unit is held in reset until its store crossing has captured (R231, R242). -/
def holdUnit (u : Nat) (d : Dev) : Dev := d.onResets fun r => { r with unitHeld := r.unitHeld.set u false }

/-- Every partition has reached RESET_DONE in a link-loss reset: the endpoint is reset, its store crossing captures again,
and the firmware releases partitions as after boot (R264, R251, R242). -/
def finishLinkLoss (d : Dev) : Dev :=
  if d.resets.linkLoss = 2 ∧ ((List.range 16).all fun p => (d.part p).state == 4) = true then
    let d1 := (Dev.fold [40, 41, 42, 43] (fun u e => holdUnit u (niUnitReset u e)) (linkLossHost d)).upDom 4 fun x => { x with
      version := 0, capturing := x.running }
    let d2 := d1.onResets fun r => { r with linkLoss := 3 }
    Dev.fold ((List.range 16).filter fun p => p == 0 || bitOf (d.cfg.nat 0x2600 4) p) fwRelease d2
  else d

/-- RESET_STEP_DONE: the reset step of `p` has cleared what R256 lists (R256, R258, R272). -/
def resetStepDone (p : Nat) (d : Dev) : Dev :=
  let x := d.part p
  if x.state ≠ 3 then d
  else
    let d1 := clearPartition p d
    if x.again then d1.upPart p fun y => { y with again := false }
    else
      let d2 := (d1.upPart p fun y => { y with state := 4 }).upFn p fun y => { y with flr := false }
      let auto := x.autoRelease && bitOf (d.cfg.nat 0x2600 3) p && d.resets.linkLoss != 2
      let d3 := if x.awaitVf then d2 else d2.upPart p fun y => { y with autoRelease := false }
      finishLinkLoss (if auto && !x.awaitVf then fwRelease p d3 else d3)

/-- Whether every running domain reports the current version; one that reports 0 is not counted (R257, R40, R47). -/
def allApplied (d : Dev) : Bool := (span 1 0x2A).all fun k => d.domVersion k == 0 || d.domVersion k == d.store.version

/-- RELEASE_EXECUTE of partition `p` (R257): its fence bit clears, its buckets are full, its admin pair
starts, and its function sends the interrupts that wait (R255, R340). -/
def releasePartition (p : Nat) (d : Dev) : Dev :=
  if (d.part p).state = 5 ∧ allApplied d = true then
    sendPending p (startAdmin d.cfg p (fillBuckets p (d.upPart p fun x => { x with
      state := 0, fenceBit := false, txIdle := false, releasedAt := some d.clock.wall })))
  else d

/-! FLR (R258, R259, R272). -/

/-- Whether an FLR of `p` meets the clearing of its fence bit: the release would occur, or has occurred, in this cycle (R271). -/
def meetsRelease (d : Dev) (p : Nat) : Bool :=
  ((d.part p).state == 5 && allApplied d) || ((d.part p).state == 0 && (d.part p).releasedAt == some d.clock.wall)

/-- An FLR of function `p` starts RESET of its partition, whatever its state (R258, R271, R272); `await` defers the release
until VF Enable is set again (R259). -/
def flrPartition (p : Nat) (await : Bool) (d : Dev) : Dev :=
  let st := (d.part p).state
  let tie := meetsRelease d p
  let d0 := d.upFn p fun x => { x with flr := true, bme := false, msixEnable := false, mask := false }
  let d1 := d0.upPart p fun x => { x with autoRelease := st == 0 && !tie, awaitVf := await }
  if st = 0 ∨ tie = true then startFence p true d1
  else if st = 1 then addReset p d1
  else if st = 3 then beginReset p (d1.upPart p fun x => { x with again := true })
  else startReset p d1

/-- FLR_VF (R258): of a VF that exists; during a link-loss reset it has no effect (R262). -/
def flrVf (k : Nat) (d : Dev) : Dev := if d.fnExists k = true ∧ d.resets.linkLoss ≠ 2 then flrPartition k false d else d

/-- FLR_PF0 (R259): VF Enable is cleared, and every partition is reset; during a link-loss reset it has no effect (R262). -/
def flrPf0 (d : Dev) : Dev :=
  if d.resets.linkLoss = 2 then d
  else
    let d1 := d.onHost fun h => { h with vfEnable := false, numVfs := 0 }
    Dev.fold (List.range 16) (fun p e => flrPartition p (p != 0) e) d1

/-- VF_ENABLE_SET: the firmware releases the partitions 1 to 15 that wait for it (R259). -/
def vfEnableSet (n : Nat) (d : Dev) : Dev :=
  let d1 := d.onHost fun h => { h with vfEnable := true, numVfs := n }
  Dev.fold (span 1 16) (fun p e =>
    let x := e.part p
    if x.awaitVf = false then e
    else
      let e1 := e.upPart p fun y => { y with awaitVf := false }
      if x.state = 4 then
        let e2 := e1.upPart p fun y => { y with autoRelease := false }
        if x.autoRelease && bitOf (e.cfg.nat 0x2600 3) p then fwRelease p e2 else e2
      else e1) d1

/-! Units and their clocks (R231, R261). -/

/-- The contents of DDR5 channel `c` become undefined (R260). -/
def forgetChannel (c : Nat) (d : Dev) : Dev := d.memForget 0x100000000 0x80FFFFFFFF (chan := some (d.ddr, c))

/-- A domain's clock stops and its shadow counts no more (R47, R244). -/
def clockOff (k : Nat) (off : Bool) (d : Dev) : Dev :=
  d.upDom k fun x => { x with
    running := false, locked := false, powerOff := off, capturing := false, version := 0, freq := 0, whole := false }

/-- Link `k` retrains: its DCLK stops until its PLL has locked again, and its CPs and their NIs are held (R379, R230, R231, R196). -/
def linkHeld (k : Nat) (d : Dev) : Dev :=
  let ls := d.lanes k
  linkReset k (clockOff (9 + k) (d.dom (9 + k)).powerOff (Dev.fold ls (fun l e => holdUnit l (niUnitReset l e)) d))

/-- What a reset does to unit `u` and its NI (R196, R261, and each unit's chapter); the unit is held until it may leave. -/
def resetUnit (u : Nat) (d : Dev) : Dev :=
  let d1 := holdUnit u (niUnitReset u d)
  if u < 24 then (match linkOfLane d.dcfg u with
    | some k => linkHeld k d1
    | none => d1)
  else if u < 32 then seReset (u - 24) d1
  else if u < 40 then opReset (u - 32) d1
  else if 44 ≤ u ∧ u < 48 then epReset (u - 44) d1
  else if 48 ≤ u ∧ u < 56 then forgetChannel (u - 48) d1
  else if u = 65 then bridgeUnitReset d1
  else if u = 66 then resetProbes d1
  else d1

/-- An armed injection ends when its instance's unit is reset or loses power (R484). -/
def endInjection (u : Nat) (d : Dev) : Dev :=
  if d.faults.inj.state = 1 ∧ d.faults.inj.inst = u then d.onFaults fun f => { f with inj := { f.inj with state := 4 } } else d

/-- Units that a unit reset may name (R261). -/
def unitResettable (u : Nat) : Bool := decide (u < 40 ∨ (44 ≤ u ∧ u < 56) ∨ u = 65 ∨ u = 66)

/-- UNIT_RESET (R261): the unit is held in reset until UNIT_RESET_RELEASE, and its store crossing captures again; without effect
while a stronger reset runs (R262). -/
def unitReset (u v : Nat) (d : Dev) : Action :=
  if v ≠ 1 then (d, 0x06)
  else if unitResettable u = false then (d, 0x61)
  else if strongerRuns d then (d, 0)
  else ((endInjection u (resetUnit u d)).upDom (unitDomain d u) fun x => { x with capturing := x.running }, 0)

/-- UNIT_RESET_RELEASE (R231): the clock has run for 64 cycles and the unit's crossing has captured. -/
def unitResetRelease (u : Nat) (d : Dev) : Dev :=
  if mayLeave d u then linksPowered (d.onResets fun r => { r with unitHeld := r.unitHeld.erase u }) else d

/-- A domain clock stops: its units are reset and held (R231, R242). -/
def stopDomain (k : Nat) (off : Bool) (d : Dev) : Dev :=
  let us := domainUnits d k
  let d1 := Dev.fold us (fun u e => resetUnit u e) d
  (clockOff k off d1).when (k == 1) (Dev.onClock fun c => { c with running := false })

/-- CLOCK_LOSS: a domain clock stops; while a store crossing of the domain is held in reset this is no loss (R245). -/
def clockLoss (k : Nat) (d : Dev) : Dev :=
  if d.clockRuns k = false then d
  else if d.crossingHeld k then stopDomain k (d.dom k).powerOff d
  else (stopDomain k (d.dom k).powerOff (d.upDom k fun x => { x with losses := inc32 x.losses })).raise 0xD4 k

/-- LANE_LOCK_LOSS: a lane loses a lock (R355, R375, R376), or its link's SerDes PLL, with which its DCLK stops (R230, R245). -/
def laneOrPllLoss (l cause : Nat) (pll : Bool) (d : Dev) : Dev :=
  if pll then (match linkOfLane d.dcfg l with
    | some k => clockLoss (9 + k) (linkPllLoss l k d)
    | none => d)
  else laneLockLoss l cause d

/-- Whether a domain's clock can run (R230): its power is on, a port or link is enabled, a link's PLL has locked, a channel has
capacity or is being powered up, and the PLLs have the OCXO's edges (R440). -/
def domainPowered (d : Dev) (k : Nat) : Bool :=
  if k ≤ 3 ∨ k = 0x29 then d.timing.ocxo
  else if 5 ≤ k ∧ k ≤ 8 then (d.pd 3).state != 0 && (d.ecfg (k - 5)).nat (0x2B00 + (k - 5)) 1 == 1
  else if 9 ≤ k ∧ k ≤ 0x20 then linkUsed (d.dcfg (k - 9)) (k - 9) && linkPowered d (k - 9) && (d.link (k - 9)).pll
  else if 0x21 ≤ k ∧ k ≤ 0x28 then
    (d.pd (4 + (k - 0x21))).state == 1 || ((d.pd (4 + (k - 0x21))).state != 0 && d.cfg.nat 0x24E0 (k - 0x20) != 0)
  else true

/-- DOMAIN_CLOCK_START: a stopped domain clock runs; its store crossings capture the active configuration before its units leave
reset (R47, R246). -/
def domainClockStart (k : Nat) (d : Dev) : Dev :=
  if (d.dom k).running = true ∨ domainPowered d k = false then d
  else
    (d.upDom k fun x => { x with
      running := true, locked := true, powerOff := false, capturing := true, version := 0, freq := 0
      whole := false }).when (k == 1) (Dev.onClock fun c => { c with running := true })

/-- FREQUENCY_MEASUREMENT_PERIOD: a period of TCLK ends; a domain whose clock ran throughout it takes its word in kHz, code 0x01
first, any other 0 (R244). -/
def frequencyMeasurementPeriod (f : List Nat) (d : Dev) : Dev :=
  if d.clockRuns 0x29 = false then d
  else Dev.fold (span 1 0x2A) (fun k e => e.upDom k fun x => { x with
    freq := if x.running && x.whole then f.getD (k - 1) 0 else 0
    whole := x.running }) d

/-- CAPTURE_TIMEOUT: a running domain has not captured within 1 µs of a flip (R238). -/
def captureTimeout (k : Nat) (d : Dev) : Dev := if d.clockRuns k = true ∧ (d.dom k).capturing = true then d.raise 0xD5 k else d

/-- Clear of the clock-crossing records (R244). -/
def clearCrossings (d : Dev) : Dev :=
  Dev.fold (span 1 0x2A) (fun k e => e.upDom k fun x => { x with losses := 0, restarts := 0, longest := 0 }) d

/-! Power domains (R265 to R268). -/

/-- Units of power domain `k` (R264). -/
def pdUnits (k : Nat) : List Nat := (List.range 67).filter fun u => unitPd u == some k

/-- Clock domains that stop with power domain `k`. -/
def pdClocks (d : Dev) (k : Nat) : List Nat :=
  if k < 2 then (span 9 0x21).filter fun c => (span (c - 9) (c - 9 + max 1 (lanesOf (d.dcfg (c - 9)) (c - 9)))).any fun l => unitPd l == some k
  else if k = 3 then [5, 6, 7, 8]
  else if 4 ≤ k then [0x21 + (k - 4)]
  else []

/-- FENCE of a domain begins (R266): steps 2 to 5 at its units, for every partition. -/
def pdStartFence (k : Nat) (off : Bool) (d : Dev) : Dev :=
  let d1 := d.upPd k fun x => { x with state := 4, offToFollow := off }
  let d2 := Dev.fold (pdUnits k) (fun n e => Dev.fold (List.range 16) (fun p y => niFence n p y) e) d1
  if k = 2 then opsPdFence d2 else d2

/-- OFF: units isolated and held in reset, power removed (R266, R242, R26). -/
def pdSwitchOff (k : Nat) (d : Dev) : Dev :=
  let d1 := d.upPd k fun x => { x with state := 0, offToFollow := false }
  let d2 := Dev.fold (pdUnits k) (fun u e => endInjection u (resetUnit u e)) d1
  let d3 := Dev.fold (pdClocks d k) (fun c e => clockOff c true e) d2
  if k < 2 then linksUnpowered d3
  else if k = 3 then reselect (Dev.fold (List.range 4) (fun p e => applyPort p (loseRef (2 + p) e)) d3)
  else d3

/-- ON: power is applied (R267). -/
def pdSwitchOn (k : Nat) (d : Dev) : Dev :=
  let d1 := Dev.fold (pdClocks d k) (fun c e => e.upDom c fun x => { x with powerOff := false }) (d.upPd k fun x => { x with state := 1 })
  if k < 2 then linksPowered d1 else d1

/-- A domain command, a write of 0x2630 + k:01 (R265): 1 FENCE, 2 OFF, 3 ON, 4 RELEASE. -/
def pdCommand (k v : Nat) (d : Dev) : Action :=
  let st := (d.pd k).state
  if v = 1 then
    if st = 3 then (pdStartFence k false d, 0) else if st = 5 then (d, 0x62) else (d, 0)
  else if v = 2 then
    if st = 3 then (pdStartFence k true d, 0)
    else if st = 4 then (d.upPd k fun x => { x with offToFollow := true }, 0)
    else if st = 2 ∨ st = 6 then (pdSwitchOff k d, 0)
    else if st = 0 then (d, 0)
    else (d, 0x62)
  else if v = 3 then
    if st = 0 ∨ st = 6 then (pdSwitchOn k d, 0) else (d, 0)
  else if v = 4 then
    if st = 2 then (d.upPd k fun x => { x with state := 5 }, 0)
    else if st = 3 ∨ st = 5 then (d, 0)
    else (d, 0x62)
  else (d, 0x06)

/-- The firmware writes RELEASE for power domain `k` (R268). -/
def fwPdRelease (k : Nat) (d : Dev) : Dev := fwWrite (0x2630 + k) 1 [byte 4] d

/-- Whether the units of power domain `k` have drained (R266). -/
def pdDrained (d : Dev) (k : Nat) : Bool :=
  ((pdUnits k).filter isInitiator).all (fun n => (List.range 16).all fun p => niDrained d n p)
    && (if k < 2 then !(d.conv.stream.any fun e => decide (e.2.src < 24) && unitPd e.2.src == some k && (!e.2.ended.isEmpty || (e.2.cur.isSome && !e.2.tx)))
        else if k = 2 then (List.range 8).all fun n => (d.op n).run.isNone && (d.op n).store.isEmpty
        else if k = 3 then !((List.range 16).any fun p => ethBusy d p)
        else true)

/-- The domain reaches FENCED: its CPs output idle samples; OFF follows where it was asked (R266). -/
def pdFenceEnds (k : Nat) (d : Dev) : Dev :=
  let d1 := if k < 2 then stopStreams (fun _ s => s.tx && decide (s.src < 24) && unitPd s.src == some k) 8 d else d
  let d2 := d1.upPd k fun x => { x with state := 2 }
  if (d.pd k).offToFollow then pdSwitchOff k d2 else d2

/-- PD_DRAIN_COMPLETE (R266, R274). -/
def pdDrainComplete (k : Nat) (d : Dev) : Dev := if (d.pd k).state = 4 ∧ pdDrained d k = true then pdFenceEnds k d else d

/-- The network entries that a port has begun end FENCED where PD_ETH's drain is forced (R266, R254). -/
def pdAbandonNet (d : Dev) : Dev :=
  let mine := d.queues.q.filter fun e => e.2.kind == 3
  let d1 := Dev.fold mine (fun e y =>
    Dev.fold ((y.eng (seOf e.1)).cmds.filter fun k =>
      k.q == e.1 && (k.st == .waiting || k.st == .running) && k.bytes.le 0 1 != 0x20 && k.bytes.le 0 1 != 0x10)
      (fun k z => endCmd k.q k.index 6 0 0 (forgetCmd k.q k.index z)) y) d
  Dev.fold (List.range 4) (fun p e => Dev.fold (List.range 16) (fun q y => ethForceDrain p q y) e) d1

/-- The running descriptors are abandoned and reported FENCED where PD_OPS's drain is forced (R266, R428). -/
def pdAbandonOps (d : Dev) : Dev :=
  Dev.fold (List.range 8) (fun n e => match (e.op n).run with
    | some r => sendDone n { r with status := 6, detail := 0, ended := true } (dropRun n e)
    | none => e) d

/-- The units of domain `k` abandon their work in progress (R266, R254). -/
def pdAbandon (k : Nat) (d : Dev) : Dev :=
  if k < 2 then stopStreams (fun _ s => !s.tx && decide (s.src < 24) && unitPd s.src == some k) 6 d
  else if k = 2 then pdAbandonOps d
  else if k = 3 then pdAbandonNet d
  else d

/-- PD_DRAIN_TIMEOUT (R266): tags and work in progress are abandoned and 0xF9 is raised. -/
def pdDrainTimeout (k : Nat) (d : Dev) : Dev :=
  if (d.pd k).state ≠ 4 then d
  else if pdDrained d k then pdFenceEnds k d
  else
    let d1 := Dev.fold (pdUnits k) (fun n e => Dev.fold (List.range 16) (fun p y => niForceDrain n p y) e) d
    pdFenceEnds k ((pdAbandon k d1).raise 0xF9 k)

/-- The channels that form the interleave set at a boot (R104): capacity not 0, training passed. -/
def bootDdr (c : Nat) (ok : Bool) (d : Dev) : Dev :=
  let cap := d.cfg.nat 0x24E0 (c + 1)
  let d1 := d.onDdr fun x => { x with
    trained := setBit x.trained c ok
    failed := setBit x.failed c !ok }
  if (d.pd (4 + c)).releaseToFollow = true ∧ ok = true ∧ cap ≠ 0 then
    d1.onDdr fun x => { x with set := setBit x.set c true, caps := x.caps.set c cap, gran := d.cfg.nat 0x24E0 9 }
  else d1

/-- Units of power domain `k` that its power-up waits for: a CP or a port only where its link or port is enabled (R267, R231). -/
def pdNeeded (d : Dev) (k : Nat) : List Nat :=
  (pdUnits k).filter fun u =>
    if u < 24 then (linkOfLane d.dcfg u).isSome else if k = 3 then (d.ecfg (u - 44)).nat (0x2B00 + (u - 44)) 1 == 1 else true

/-- A power-up has failed (R267); what would have followed it does not. -/
def pdFails (k : Nat) (d : Dev) : Dev := (d.upPd k fun x => { x with state := 6, releaseToFollow := false }).raise 0xD8 k

/-- PD_POWER_UP_DONE: power-good has been seen, the clocks run, the units have left reset, and DDR5 training has ended, `trained`
being its outcome (R267). The MEMCLK of a channel without capacity, which ran for the training, stops (R230, R268). -/
def pdPowerUpDone (k : Nat) (trained : Bool) (d : Dev) : Dev :=
  let up := (pdNeeded d k).all fun u => !(d.held u) && d.clockRuns (unitDomain d u)
  if (d.pd k).state ≠ 1 then d
  else if 4 ≤ k ∧ trained = false then (pdFails k (bootDdr (k - 4) false d)).raise 0x77 (48 + (k - 4))
  else if up = false then d
  else
    let d1 := if 4 ≤ k then bootDdr (k - 4) trained d else d
    let d2 := d1.upPd k fun x => { x with state := 2, powerUps := inc32 x.powerUps }
    let d3 := if 4 ≤ k ∧ d.cfg.nat 0x24E0 (k - 3) = 0 then stopDomain (0x21 + (k - 4)) false d2 else d2
    if (d.pd k).releaseToFollow then fwPdRelease k (d3.upPd k fun x => { x with releaseToFollow := false }) else d3

/-- PD_POWER_GOOD_TIMEOUT (R267). -/
def pdPowerGoodTimeout (k : Nat) (d : Dev) : Dev := if (d.pd k).state = 1 then pdFails k d else d

/-- RELEASE_EXECUTE of power domain `k` (R266, R257). -/
def releasePd (k : Nat) (d : Dev) : Dev :=
  if (d.pd k).state = 5 ∧ allApplied d = true then
    let d1 := d.upPd k fun x => { x with state := 3 }
    if k < 2 then linksPowered d1
    else if k = 3 then Dev.fold (List.range 4) applyPort d1
    else d1
  else d

/-- RELEASE_EXECUTE: of partition `t` below 16, or of power domain `t` − 16 (R257, R266). -/
def releaseExecute (t : Nat) (d : Dev) : Dev := if t < 16 then releasePartition t d else releasePd (t - 16) d

/-! Device resets (R260, R262, R536 to R538). -/

/-- The store at PERST_N or chip reset: the configuration and the chamber of path 0 stay (R36, R60). A SAVE in progress
stays marked until the restarted firmware judges it (R50). -/
def Store.afterReset (st : Store) : Store :=
  { st with
    chambers := st.chambers.filter fun e => e.1 == 0
    owner := none, waiting := [], own := [], spiPending := false, loads := []
    spi := { st.spi with granted := false, served := false, ignoring := st.spi.csLow } }

/-- The clock domains at PERST_N and chip reset: no clock runs before its next lock but HCLK, which follows the PCIe reference
clock and whose crossings capture again; every shadow holds the defaults until it captures (R230, R47, R173). The crossing
records survive a chip reset only (R244, R260). -/
def domainsAfter (keep : Bool) (d : Dev) : Tbl Domain :=
  (span 1 0x2A).map fun k =>
    let o := d.dom k
    let x : Domain := if k = 4 then { running := o.running, locked := o.locked, capturing := o.running } else {}
    (k, if keep then { x with losses := o.losses, restarts := o.restarts, longest := o.longest } else x)

/-- The collector at power-on, PERST_N and chip reset: what AON holds stays, an armed injection ends (R260, R476, R480,
R481, R484). -/
def Faults.afterReset (f : Faults) : Faults :=
  { resetFlag := f.resetFlag, chipResetTimes := f.chipResetTimes
    inj := if f.inj.state = 1 then { f.inj with state := 4 } else f.inj }

/-- The scope of PERST_N and chip reset (R260): everything but what AON, the store, the flash and the fuses hold.
`keep` is the chip reset, which keeps link error records and crossing records. -/
def deviceReset (keep : Bool) (d : Dev) : Dev :=
  let st := d.store.afterReset
  ({ clock := { wall := d.clock.wall }, power := d.power, free := d.free, store := st, flash := d.flash, otp := d.otp
     resets := { d.resets with linkLoss := 0, linkUp := false, unitHeld := allHeld }
     net := (resetNet keep d).net, doms := domainsAfter keep d, faults := d.faults.afterReset
     inhibit := { aLevel := d.inhibit.aLevel, bLevel := d.inhibit.bLevel, longest := d.inhibit.longest }
     monitors := d.monitors, host := (resetHost d).host
     can := { nodeId := st.active.nat 0x1FF0 1, dataRate := st.active.nat 0x1FF0 2, enabled := false }
     mem := d.mem, undef := d.undef } : Dev).memForget 0 (2 ^ 64 - 1)

/-- A chip reset; `kind` 3 by a fault with its source, 4 promoted from link loss (R260, R269). -/
def chipResetNow (kind src : Nat) (d : Dev) : Dev :=
  (deviceReset true d).onResets fun r => { r with
    kind := kind, chipSource := if kind = 3 then src else r.chipSource, chipResets := inc32 r.chipResets }

/-- CHIP_RESET by a fault source (R260, R477). -/
def chipReset (src : Nat) (d : Dev) : Dev := chipResetNow 3 src d

/-- PERST_N_ASSERT (R260): reset is held until RESET_RELEASE. -/
def perstNAssert (d : Dev) : Dev :=
  ((deviceReset false d).onResets fun r => { r with kind := 2 }).onPower fun p => { p with perstLow := true, released := false }

/-- POWER_ON: VDD_AON comes up or is lost; everything is reset, the store included; the flash and the fuses stay (R260),
but the slot of an interrupted SAVE fails its CRC (R51). -/
def powerOn (d : Dev) : Dev :=
  let flash := match d.store.save with
    | some j => { d.flash with config := d.flash.config.erase j.target }
    | none => d.flash
  ({ clock := { wall := d.clock.wall }, free := d.free, flash := flash, otp := d.otp, mem := d.mem
     undef := d.undef, resets := { unitHeld := allHeld }, power := { d.power with released := false }
     inhibit := { aLevel := d.inhibit.aLevel, bLevel := d.inhibit.bLevel }, monitors := d.monitors } : Dev).memForget 0 (2 ^ 64 - 1)

/-- RAIL_FALL of a supply code (R538): VDD_AON loses everything, another rail takes the scope of PERST_N. -/
def railFall (rail : Nat) (d : Dev) : Dev :=
  let bad := fun (p : Power) => { p with railsBad := setBit p.railsBad rail true, released := false }
  if rail = 2 then (powerOn d).onPower bad
  else ((deviceReset false d).onResets fun r => { r with kind := 2 }).onPower bad

/-- RESET_RELEASE: 2 ms after every rail is good and PERST_N is high; the straps are sampled (R536, R545). -/
def resetRelease (testMode : Bool) (bootSel : Nat) (d : Dev) : Dev :=
  if d.power.released then d
  else d.onPower fun p => { p with railsBad := 0, perstLow := false, released := true, testMode := testMode, bootSel := bootSel }

/-- SUPPLY_MONITOR_SAMPLE: a sample of a rail below (1) or above (2) its monitor limits (R539). -/
def supplyMonitorSample (rail : Nat) (above : Bool) (d : Dev) : Dev := d.raise (if above then 0xD3 else 0xD2) rail

/-- TEMPERATURE_THRESHOLD: a sensor's reading, in 0.125 °C, has crossed the warning threshold or 110 °C (R563, R471). -/
def temperatureThreshold (sensor : Nat) (reading : Int) (d : Dev) : Dev :=
  let old := decInt 16 (d.monitors.temp.get 0 sensor)
  let warn : Int := ((d.shadow 3).nat 0x2E40 5 * 8 : Nat)
  let d1 := d.onMonitors fun m => { m with temp := m.temp.set sensor (encInt 16 reading) }
  let d2 := if old < warn ∧ warn ≤ reading then d1.raise 0xD0 sensor else d1
  if old < 880 ∧ 880 ≤ reading then d2.raise 0xD1 sensor else d2

/-! Link loss (R263, R264). -/

/-- A link-loss reset starts (R264, R273): every partition runs through RESET_DONE. -/
def startLinkLoss (d : Dev) : Dev :=
  let d1 := (d.onResets fun r => { r with kind := 5, linkLoss := 2, linkUp := false, linkLossResets := inc32 r.linkLossResets }).raise 0x98
  let d2 := Dev.fold (List.range 16) (fun p e =>
    let st := (e.part p).state
    let e1 := e.upPart p fun x => { x with autoRelease := false, awaitVf := false }
    if st = 0 ∨ st = 5 then startFence p true e1
    else if st = 1 then addReset p e1
    else if st = 3 then e1
    else startReset p e1) d1
  finishLinkLoss d2

/-- A link-loss reset, or a chip reset where 0x2603:02 promotes it (R263). -/
def linkLossOrPromote (d : Dev) : Dev := if d.cfg.nat 0x2603 2 = 1 then chipResetNow 4 0 d else startLinkLoss d

/-- DL_DOWN: the debounce starts; outbound requests end from here on (R263, R264). -/
def dlDown (d : Dev) : Dev :=
  if d.resets.linkLoss = 0 then dropOutReads (d.onResets fun r => { r with linkLoss := 1, linkUp := false }) else d

/-- DL_UP: during the debounce, no reset follows; after a reset, the link is up again (R263). -/
def dlUp (rate width : Nat) (d : Dev) : Dev :=
  if d.resets.linkLoss = 2 then d
  else (d.onResets fun r => { r with linkLoss := 0, linkUp := true }).onHost fun h => { h with linkRate := rate, linkWidth := width }

/-- LINK_LOSS_DEBOUNCE_EXPIRY (R263). -/
def linkLossDebounceExpiry (d : Dev) : Dev := if d.resets.linkLoss = 1 then linkLossOrPromote d else d

/-- HOT_RESET: from upstream, without debounce (R263). -/
def hotReset (d : Dev) : Dev := if d.resets.linkLoss ≤ 1 then linkLossOrPromote (dropOutReads d) else d

/-! Meanings. -/

/-- DRAIN_COMPLETE: The drain condition of a fenced partition holds, and the TX-idle step starts (R253). -/
def execDrainComplete (p : Nat) (s : State) : Host.Outcome State Fault Refusal :=
  act (wfDrainComplete p) (drainComplete p) s

/-- DRAIN_TIMEOUT: The drain timeout expires; outstanding work is abandoned and fault 0xF8 counts an event (R254). -/
def execDrainTimeout (p : Nat) (s : State) : Host.Outcome State Fault Refusal :=
  act (wfDrainTimeout p) (drainTimeout p) s

/-- FENCE_ACKNOWLEDGE: The converter TX streams of the partition are idle, and the state becomes FENCED (R252). -/
def execFenceAcknowledge (p : Nat) (s : State) : Host.Outcome State Fault Refusal :=
  act (wfFenceAcknowledge p) (fenceAcknowledge p) s

/-- RESET_STEP_DONE: The reset step of a partition completes its clearing and the state becomes RESET_DONE (R256). -/
def execResetStepDone (p : Nat) (s : State) : Host.Outcome State Fault Refusal :=
  act (wfResetStepDone p) (resetStepDone p) s

/-- RELEASE_EXECUTE: Every running domain reports the current version; the fence bit clears and the partition becomes RUNNING (R257). -/
def execReleaseExecute (t : Nat) (s : State) : Host.Outcome State Fault Refusal :=
  act (wfReleaseExecute t) (releaseExecute t) s

/-- FLR_VF: An FLR of VF k starts RESET of partition k (R258). -/
def execFlrVf (k : Nat) (s : State) : Host.Outcome State Fault Refusal :=
  act (wfFlrVf k) (flrVf k) s

/-- FLR_PF0: An FLR of PF0 starts RESET of all 16 partitions (R259). -/
def execFlrPf0 (s : State) : Host.Outcome State Fault Refusal :=
  act wfFlrPf0 flrPf0 s

/-- VF_ENABLE_SET: VF Enable is set again and the firmware releases partitions 1-15 as R258 allows (R259). -/
def execVfEnableSet (n : Nat) (s : State) : Host.Outcome State Fault Refusal :=
  act (wfVfEnableSet n) (vfEnableSet n) s

/-- LANE_LOCK_LOSS: A lane loses lock; its link retrains from the state that the cause asks for (R355). -/
def execLaneLockLoss (l : Nat) (cause : Nat) (pll : Bool) (s : State) : Host.Outcome State Fault Refusal :=
  act (wfLaneLockLoss l cause pll) (laneOrPllLoss l cause pll) s

/-- CLOCK_LOSS: A domain clock stops while the domain is not in reset; RUNNING clears and fault 0xD4 counts an event (R245). -/
def execClockLoss (d : Nat) (s : State) : Host.Outcome State Fault Refusal :=
  act (wfClockLoss d) (clockLoss d) s

/-- DOMAIN_CLOCK_START: A stopped domain clock starts running, for example when the PCIe reference clock returns; RUNNING sets and the domain's store crossings capture the active configuration (R47). -/
def execDomainClockStart (d : Nat) (s : State) : Host.Outcome State Fault Refusal :=
  act (wfDomainClockStart d) (domainClockStart d) s

/-- UNIT_RESET_RELEASE: After 64 clock cycles and a capture, a held unit leaves reset (R231). -/
def execUnitResetRelease (u : Nat) (s : State) : Host.Outcome State Fault Refusal :=
  act (wfUnitResetRelease u) (unitResetRelease u) s

/-- FREQUENCY_MEASUREMENT_PERIOD: At the end of each 1 ms TCLK period, the measured frequency words are updated (R244). -/
def execFrequencyMeasurementPeriod (f : List Nat) (s : State) : Host.Outcome State Fault Refusal :=
  act (wfFrequencyMeasurementPeriod f) (frequencyMeasurementPeriod f) s

/-- CAPTURE_TIMEOUT: A running domain has not completed its capture within 1 us of a flip and raises fault 0xD5 (R238). -/
def execCaptureTimeout (d : Nat) (s : State) : Host.Outcome State Fault Refusal :=
  act (wfCaptureTimeout d) (captureTimeout d) s

/-- PD_DRAIN_COMPLETE: The units of a fencing domain have drained and the domain reaches FENCED (R266). -/
def execPdDrainComplete (k : Nat) (s : State) : Host.Outcome State Fault Refusal :=
  act (wfPdDrainComplete k) (pdDrainComplete k) s

/-- PD_DRAIN_TIMEOUT: The domain drain timeout expires, tags are abandoned and fault 0xF9 counts an event (R266). -/
def execPdDrainTimeout (k : Nat) (s : State) : Host.Outcome State Fault Refusal :=
  act (wfPdDrainTimeout k) (pdDrainTimeout k) s

/-- PD_POWER_UP_DONE: Power-good, the unit capture and any DDR training complete, and the domain becomes FENCED or FAILED (R267). -/
def execPdPowerUpDone (k : Nat) (trained : Bool) (s : State) : Host.Outcome State Fault Refusal :=
  act (wfPdPowerUpDone k trained) (pdPowerUpDone k trained) s

/-- PD_POWER_GOOD_TIMEOUT: Power-good is not seen within 1 ms; the domain becomes FAILED and fault 0xD8 counts an event (R267). -/
def execPdPowerGoodTimeout (k : Nat) (s : State) : Host.Outcome State Fault Refusal :=
  act (wfPdPowerGoodTimeout k) (pdPowerGoodTimeout k) s

/-- POWER_ON: VDD_AON comes up or is lost, and everything including the store is reset (R260). -/
def execPowerOn (s : State) : Host.Outcome State Fault Refusal :=
  actAlways wfPowerOn powerOn s

/-- RESET_RELEASE: 2 ms after all rails are good and PERST_N is high, reset is released and the straps are sampled (R536). -/
def execResetRelease (testMode : Bool) (bootSel : Nat) (s : State) : Host.Outcome State Fault Refusal :=
  actAlways (wfResetRelease testMode bootSel) (resetRelease testMode bootSel) s

/-- SUPPLY_MONITOR_SAMPLE: A 1 MHz rail sample outside its monitor limits raises 0xD2 or 0xD3 (R539). -/
def execSupplyMonitorSample (rail : Nat) (above : Bool) (s : State) : Host.Outcome State Fault Refusal :=
  act (wfSupplyMonitorSample rail above) (supplyMonitorSample rail above) s

/-- TEMPERATURE_THRESHOLD: The junction temperature crosses the warning threshold or 110 C and sources 0xD0 or 0xD1 count an event (R563). -/
def execTemperatureThreshold (sensor : Nat) (reading : Int) (s : State) : Host.Outcome State Fault Refusal :=
  act (wfTemperatureThreshold sensor reading) (temperatureThreshold sensor reading) s

/-- DL_DOWN: The PCIe data link layer reports DL_Down and the link-loss debounce timer starts (R263). -/
def execDlDown (s : State) : Host.Outcome State Fault Refusal :=
  act wfDlDown dlDown s

/-- DL_UP: DL_Up returns during the debounce and no reset follows (R263). -/
def execDlUp (rate : Nat) (width : Nat) (s : State) : Host.Outcome State Fault Refusal :=
  act (wfDlUp rate width) (dlUp rate width) s

end Sys2Proof.Machine
end

