-- ==== Sys2Proof/Machine/Faults.lean ====
section
/-! DEFINITION. The fault collector, its reactions and injections, FAULT_N, and the output inhibit (spec/17). -/
namespace Sys2Proof.Machine

/-- Source `s`. -/
def Dev.source (d : Dev) (s : Nat) : SourceState := d.faults.src.get {} s

/-- The device with `f` applied to source `s`. -/
def Dev.upSource (s : Nat) (f : SourceState → SourceState) (d : Dev) : Dev :=
  d.onFaults fun x => { x with src := x.src.modify {} s f }

/-- The collector's configuration: the PCLK shadow. -/
def Dev.pcfg (d : Dev) : Cfg := d.shadow 3

/-- Sources that are reserved and never raised (R470). -/
def reservedSource (s : Nat) : Bool :=
  [(0x09, 0x1F), (0x2B, 0x2F), (0x35, 0x37), (0x3C, 0x3F), (0x58, 0x5F), (0x78, 0x7F), (0x92, 0x97), (0x99, 0x9F),
   (0xD6, 0xD7), (0xD9, 0xDF), (0xED, 0xEF), (0xF5, 0xF7), (0xFA, 0xFF)].any fun r => decide (r.1 ≤ s ∧ s ≤ r.2)

/-- Whether a source with a cause can be injected in the field (R470). -/
def fieldInjectable (s cause : Nat) : Bool :=
  if 0xA0 ≤ s ∧ s ≤ 0xB7 then [0x01, 0x0B, 0x0C].contains cause
  else
    [(0x00, 0x06), (0x20, 0x23), (0x2A, 0x2A), (0x30, 0x31), (0x38, 0x39), (0x40, 0x47), (0x60, 0x77), (0x80, 0x87),
     (0xB8, 0xBA), (0xC9, 0xC9), (0xCE, 0xCF), (0xEA, 0xEB), (0xF2, 0xF3)].any fun r => decide (r.1 ≤ s ∧ s ≤ r.2)

/-- The unit that the instance of a source's event names (R477). -/
def unitNamed (s inst : Nat) : Option Nat :=
  if inst = 0xFF then none
  else if (0x30 ≤ s ∧ s ≤ 0x34) ∨ (0x40 ≤ s ∧ s ≤ 0x57) ∨ s = 0x77 ∨ (0x80 ≤ s ∧ s ≤ 0x91) then some inst
  else if 0x38 ≤ s ∧ s ≤ 0x3B then some (32 + inst)
  else if (0x60 ≤ s ∧ s ≤ 0x6F) ∨ s = 0x75 ∨ s = 0x76 then some (48 + inst)
  else if s = 0x70 ∨ s = 0x71 then some (56 + inst)
  else if 0xA0 ≤ s ∧ s ≤ 0xB7 then some (s - 0xA0)
  else if 0xB8 ≤ s ∧ s ≤ 0xBF then some (44 + inst)
  else none

/-- The time of registration: the replica of the LK NI (R472). -/
def registrationTime (d : Dev) : Nat × Nat :=
  let c := (d.replica 65).toNat
  (c / fclkPerSec, c % fclkPerSec * 2 / 3)

/-- The event record (R472). -/
def eventRecord (d : Dev) (e : FaultEvent) (pre severe : Bool) : Bytes :=
  let t := registrationTime d
  leBytes 6 t.1 ++ leBytes 4 t.2 ++
    [byte e.inst, byte e.part, byte (if 0xA0 ≤ e.src ∧ e.src ≤ 0xB7 then e.cause else 0),
     byte (b2n e.injected + 2 * b2n pre + 4 * b2n severe), byte 0, byte 0]

/-- What one registration cycle has collected: reactions by source, with the instance of the source's last event. -/
abbrev Reactions := Tbl (Nat × Nat)

/-- One event is counted against its window; its record is kept, and with it the queue that a doorbell's event names (R473 to
R475, R289). -/
def countEvent (e : FaultEvent) (pre : Bool) (a : Dev × Reactions) : Dev × Reactions :=
  let d := a.1
  let s := e.src
  let x := d.source s
  let n := x.count + 1
  let severe := !x.severe && decide (d.pcfg.nat (0x4000 + s) 3 ≤ n)
  let r := eventRecord d e pre severe
  let y : SourceState := { x with
    total := inc32 x.total
    count := if x.severe then x.count else if severe then 0 else n
    windowOpen := if x.severe then x.windowOpen else !severe
    severe := x.severe || severe
    last := r
    queue := e.queue }
  let d1 := d.onFaults fun f => { f with
    src := f.src.set s y
    registered := inc32 f.registered
    first := if severe ∧ f.first = 0xFFFF then s else f.first
    firstRec := if severe ∧ f.first = 0xFFFF then r else f.firstRec }
  let d2 := if severe then queueEmcy s true n d1 else d1
  let set := d.pcfg.nat (0x4000 + s) (if severe then 6 else 5)
  (d2, a.2.set s (Nat.lor (a.2.get (0, 0) s).1 set, e.inst))

/-- An interrupt of source `s` to its owner; one that still waits for its marks absorbs it (R477, R190). The owner is the one
of the active configuration: a new owner counts from the flip (R479, R491). -/
def faultIrq (s : Nat) (d : Dev) : Dev :=
  let own := d.cfg.nat (0x4000 + s) 1
  let m := irqMessage 65 (40 + own % 4) own own (d.pcfg.nat (0x4000 + s) 7)
  if (d.ni 65).fenced.any (fun k => k.faultSrc == some s) = true ∨ unitAdmits d 65 own = false then d
  else startFenced { m with data := m.data ++ leBytes 2 0xFFFF ++ [byte s] } (some s) d

/-- Whether the chip reset limit suppresses a further chip reset (R480). -/
def chipResetLimited (d : Dev) : Bool :=
  let lim := d.pcfg.nat 0x2E00 2
  let recent := d.faults.chipResetTimes.filter fun t => decide (d.clock.wall < t + d.pcfg.nat 0x2E00 3 * fclkPerSec)
  lim != 0 && decide (lim ≤ recent.length)

/-- Sources of one cycle whose reactions hold bit `b`, ascending. -/
def Reactions.having (r : Reactions) (b : Nat) : List (Nat × (Nat × Nat)) := r.filter fun e => bitOf e.2.1 b

/-- The unit reset reaction of one source (R477, R261). -/
def reactUnitReset (e : Nat × (Nat × Nat)) (d : Dev) : Dev :=
  match unitNamed e.1 e.2.2 with
  | some u => if unitResettable u then (unitReset u 1 d).1 else d.onFaults fun f => { f with skipped := inc32 f.skipped }
  | none => d.onFaults fun f => { f with skipped := inc32 f.skipped }

/-- The partition reset reaction of one source: a RESET lock command for its owner (R477, R250). -/
def reactPartReset (e : Nat × (Nat × Nat)) (d : Dev) : Dev := (lockCommand (d.cfg.nat (0x4000 + e.1) 1) 2 d).1

/-- Of the resets of one cycle the strongest kind runs: chip, partition, unit (R478, R262, R493). -/
def reactResets (r : Reactions) (d : Dev) : Dev :=
  match r.having 4 with
  | e :: rest =>
    let flag := (e :: rest).any fun k => bitOf k.2.1 5
    chipReset e.1 (d.onFaults fun f => { f with
      resetFlag := f.resetFlag || flag
      chipResetTimes := (d.clock.wall :: f.chipResetTimes).take 15 })
  | [] =>
    if (r.having 3).isEmpty then Dev.fold (r.having 2) reactUnitReset d else Dev.fold (r.having 3) reactPartReset d

/-- The reactions of one registration cycle in the order of R478; a chip reset above the limit becomes FAULT_N and NMI
(R480). -/
def react (r0 : Reactions) (d : Dev) : Dev :=
  let held := chipResetLimited d
  let r : Reactions := if held then r0.map fun e =>
      if bitOf e.2.1 4 then (e.1, (Nat.lor (setBit e.2.1 4 false) 0x22, e.2.2)) else e
    else r0
  let d0 := if held then Dev.fold (r0.having 4) (fun e => Dev.raise 0xF4 e.1) d else d
  let d1 := Dev.fold (r.having 5) (fun e => Dev.upSource e.1 fun x => { x with faultN := true }) d0
  let d2 := d1.onFaults fun f => { f with nmis := satAdd 32 f.nmis (r.having 1).length }
  reactResets r (Dev.fold (r.having 0) (fun e => faultIrq e.1) d2)

/-- Events registered in one PCLK cycle: records and counts, then reactions (R472, R478). -/
def registerCycle (evs : List FaultEvent) (pre : Bool) (d : Dev) : Dev :=
  let a := evs.foldl (fun a e => countEvent e pre a) (d, ([] : Reactions))
  react a.2 a.1

/-- What SECDED finds in the collector's word of source `s` (R471): an uncorrectable word leaves the count at N − 1 with
its window open. -/
def collectorWord (s : Nat) (err : MemErr) (d : Dev) : Dev :=
  match err with
  | .none => d
  | .corrected => d.raise 0xF2
  | .uncorrectable =>
    let n := d.pcfg.nat (0x4000 + s) 3 - 1
    (d.upSource s fun x => if x.severe then { x with last := [] } else { x with count := n, windowOpen := true, last := [] }).raise 0xF3

/-- FAULT_EVENT_REGISTER: the events that have crossed are registered in one PCLK cycle (R472); while the collector is
disabled the first of each source sets its pre-enable latch (R476). `err` is what SECDED finds in the collector's word of
the first of them; `seen` lists the sources and instances of checkers that no other row reports. -/
def faultEventRegister (err : MemErr) (seen : List (Nat × Nat)) (d0 : Dev) : Dev :=
  let d := Dev.fold seen (fun e y => y.raise e.1 e.2) d0
  let evs := d.faults.crossing
  let d1 := d.onFaults fun f => { f with crossing := [] }
  match evs with
  | [] => d
  | e :: _ =>
    if d.faults.enabled then registerCycle evs false (collectorWord e.src err d1)
    else Dev.fold evs (fun k y => y.upSource k.src fun x => { x with pre := x.pre <|> some k }) d1

/-- FAULT_WINDOW_EXPIRY: M × 10^E µs have elapsed in the window of source `s` (R473). -/
def faultWindowExpiry (s : Nat) (d : Dev) : Dev :=
  d.upSource s fun x => { x with windowOpen := false, count := if x.severe then x.count else 0 }

/-- The collector at the PCLK apply edge (R476). -/
def applyCollector (d : Dev) : Dev :=
  if d.pcfg.nat 0x2E00 1 = 1 then
    if d.faults.enabled then d
    else
      let latched := d.faults.src.filterMap fun e => e.2.pre
      let d1 := d.onFaults fun f => { f with
        enabled := true, everEnabled := true, src := f.src.map fun e => (e.1, { e.2 with pre := none }) }
      registerCycle latched true d1
  else d.onFaults fun f => { f with
    enabled := false, src := f.src.map fun e => (e.1, { e.2 with windowOpen := false, count := 0 }) }

/-! Class I objects (R481 to R484, R487 to R489). -/

/-- The key value of the clear objects, "clun". -/
def clearKey : Nat := 0x6E756C63

/-- A write of 0x4000 + s:0C (R474, R489). -/
def clearSource (s v : Nat) (d : Dev) : Action := if v = clearKey then (clearSourceState true s d, 0) else (d, 0x06)

/-- A write of 0x2E03:01 (R488). -/
def clearAllSources (v : Nat) (d : Dev) : Action :=
  if v = clearKey then
    ((Dev.fold d.faults.src (fun e => clearSourceState true e.1) d).onFaults fun f => { f with
      first := 0xFFFF, firstRec := [], nmis := 0, skipped := 0, registered := 0 }, 0)
  else (d, 0x06)

/-- A write of 0x2E01:02 (R481). -/
def clearFaultN (v : Nat) (d : Dev) : Action :=
  if v = clearKey then
    (d.onFaults fun f => { f with resetFlag := false, src := f.src.map fun e => (e.1, { e.2 with faultN := false }) }, 0)
  else (d, 0x06)

/-- FAULT_N is asserted (R481). -/
def faultNLow (d : Dev) : Bool := !d.faults.everEnabled || d.faults.resetFlag || d.faults.src.any fun e => e.2.faultN

/-- A write of 0x2E10:01 (R482, R484). -/
def fieldInjection (v : Nat) (d : Dev) : Action :=
  let s := bitsOf v 7 0
  let cause := bitsOf v 23 16
  let lane := decide (0xA0 ≤ s ∧ s ≤ 0xB7)
  if v / 2 ^ 24 ≠ 0 ∨ (lane = false ∧ cause ≠ 0) then (d, 0x06)
  else if fieldInjectable s cause = false then (d, 0x81)
  else if d.faults.inj.state = 1 then (d, 0x83)
  else (d.onFaults fun f => { f with inj := { state := 1, src := s, inst := bitsOf v 15 8, cause := cause } }, 0)

/-- A write of 0x2E10:03 (R484). -/
def cancelInjection (d : Dev) : Action :=
  (if d.faults.inj.state = 1 then d.onFaults fun f => { f with inj := { f.inj with state := 3 } } else d, 0)

/-- A write of 0x2E11:01 (R483, R198). -/
def factoryInjection (v : Nat) (d : Dev) : Action :=
  let s := bitsOf v 7 0
  if (d.power.testMode && d.otp.testOn) = false then (d, 0x80)
  else if reservedSource s then (d, 0x81)
  else (d.raise s (bitsOf v 15 8) 0xFF 0 true, 0)

/-! The output inhibit (R485 to R487, R496). -/

/-- The discrepancy fault is latched (R486). -/
def latchDiscrepancy (t : Nat) (d : Dev) : Dev := (d.onInhibit fun x => { x with latched := true, count := t }).raise 0xF0

/-- T_d in microseconds. -/
def discrepancyTime (d : Dev) : Nat := 1000 * (d.shadow 0x29).nat 0x2E30 1

/-- INHIBIT_TICK: the monitor samples both channels (R485, R486). -/
def inhibitTick (a b : Bool) (d : Dev) : Dev :=
  let x := d.inhibit
  let da := !a
  let t := discrepancyTime d
  let d1 := d.onInhibit fun y => { y with aLevel := a, bLevel := b }
  let d2 :=
    if x.latched then d1
    else if da != b then
      if t ≤ x.count + 1 then latchDiscrepancy t d1 else d1.onInhibit fun y => { y with count := x.count + 1 }
    else d1.onInhibit fun y => { y with count := 0, longest := max x.longest (min x.count 0xFFFF) }
  let active := da || b || d2.inhibit.latched
  let d3 := d2.onInhibit fun y => { y with active := active }
  if active = true ∧ x.active = false then
    let ch := if da = true ∧ b = true then 2 else if da then 0 else if b then 1 else 2
    inhibitStops ((d3.onInhibit fun y => { y with activations := inc32 y.activations }).raise 0xF1 ch)
  else d3

/-- A new T_d at the TCLK apply edge (R488). -/
def applyInhibit (d : Dev) : Dev :=
  let x := d.inhibit
  let t := discrepancyTime d
  if x.latched = false ∧ 0 < x.count ∧ t ≤ x.count then latchDiscrepancy t d else d

/-- A write of 0x2E30:03 (R487). -/
def acknowledgeDiscrepancy (v : Nat) (d : Dev) : Action :=
  let x := d.inhibit
  if v ≠ clearKey then (d, 0x06)
  else if x.aLevel = false ∨ x.bLevel = true then (d, 0x82)
  else (if x.latched then d.onInhibit fun y => { y with latched := false, count := 0 } else d, 0)

/-! Meanings. -/

/-- FAULT_WINDOW_EXPIRY: A source's counting window expires and its window count returns to 0 (R473). -/
def execFaultWindowExpiry (src : Nat) (s : State) : Host.Outcome State Fault Refusal :=
  act (wfFaultWindowExpiry src) (faultWindowExpiry src) s

/-- INHIBIT_TICK: At each 1 MHz tick the monitor samples both inhibit channels, sets the inhibit and counts disagreement (R486). -/
def execInhibitTick (a : Bool) (b : Bool) (s : State) : Host.Outcome State Fault Refusal :=
  act (wfInhibitTick a b) (inhibitTick a b) s

end Sys2Proof.Machine
end

