-- ==== Sys2Proof/Machine/Commit.lean ====
section
/-! DEFINITION. The configuration store: chambers, ownership, the checks and the flip of a commit, revert, images and
SAVE (spec/02, and the commit checks and flip effects of the other chapters). -/
namespace Sys2Proof.Machine

/-- The partition that an access path acts for (R68). -/
def pathPart (path : Nat) : Nat := if 16 ≤ path then path - 16 else 0

/-- The owner of an instance (R69, R90 and the ownership sentences of the chapters); 0x2008 belongs to every path. -/
def ownerOf (c : Cfg) (idx sub : Nat) : Nat :=
  let within (base n : Nat) : Bool := decide (base ≤ idx ∧ idx < base + n)
  if within 0x2230 16 ∨ within 0x2330 16 ∨ within 0x2610 16 ∨ within 0x2710 16 ∨ within 0x2820 16 then idx % 16
  else if within 0x3000 0x1000 then (if 2 ≤ sub then c.nat idx 1 else 0)
  else if within 0x4000 0x100 then (if 3 ≤ sub then c.nat idx 1 else 0)
  else if within 0x2A00 24 then (if 1 ≤ sub ∧ sub ≤ 5 then 0 else laneOwner (fun _ => c) (idx - 0x2A00))
  else if within 0x2A40 24 then linkOwner c (idx - 0x2A40)
  else if within 0x2D31 13 then (if 2 ≤ sub then c.nat idx 1 else 0)
  else if within 0x2F08 4 ∨ within 0x2F10 16 then (if sub = 1 then 0 else c.nat idx 1)
  else if within 0x2F20 16 then c.nat (idx - 0x10) 1
  else 0

/-- What a commit applies: instances with their new cells; none is the default. -/
abbrev Change := Tbl (Option Bytes)

/-- The configuration after a change. -/
def Cfg.apply (c : Cfg) (chg : Change) : Cfg := chg.foldl (fun x e => x.restore e.1 e.2) c

/-- The chamber of a path. -/
def Dev.chamber (d : Dev) (path : Nat) : Cfg := d.store.chambers.get [] path

/-- Bytes that an entry occupies in a chamber (R33). -/
def entrySize (b : Bytes) : Nat := 8 + (b.length + 3) / 4 * 4

/-- Bytes used in a chamber. -/
def chamberBytes (c : Cfg) : Nat := c.foldl (fun n e => n + entrySize e.2) 0

/-- The change that a chamber asks for. -/
def chamberChange (c : Cfg) : Change := c.map fun e => (e.1, some e.2)

/-! Fences (R38, R105, R249, R308). -/

/-- Channels of the interleave set after a commit that holds an entry of 0x24E0 (R104). -/
def newDdrSet (d : Dev) (new : Cfg) : Nat :=
  (List.range 8).foldl (fun m c =>
    if new.nat 0x24E0 (c + 1) ≠ 0 ∧ (bitOf d.ddr.set c = true ∨ bitOf d.ddr.trained c = true) then setBit m c true else m) 0

/-- Partitions whose fence a class F entry needs. -/
def partFences (old new : Cfg) (idx sub : Nat) : List Nat :=
  if 0x2720 ≤ idx ∧ idx ≤ 0x272F then [idx - 0x2720]
  else if 0x2C10 ≤ idx ∧ idx ≤ 0x2C17 then (if old.nat idx sub = 0 ∧ new.nat idx sub = 0 then [] else [sub - 1])
  else if idx = 0x24E0 ∨ (0x2B00 ≤ idx ∧ idx ≤ 0x2B03) then []
  else [old.nat idx sub, new.nat idx sub]

/-- Power domains whose fence a class F entry needs. -/
def pdFences (d : Dev) (new : Cfg) (idx : Nat) : List Nat :=
  if idx = 0x24E0 then ((List.range 8).filter fun c => bitOf d.ddr.set c || bitOf (newDdrSet d new) c).map (· + 4)
  else if 0x2B00 ≤ idx ∧ idx ≤ 0x2B03 then [3]
  else []

/-- The detail of the fencing check for one entry, 0 where it passes (R38). -/
def fenceDetail (d : Dev) (new : Cfg) (key : Nat) : Nat :=
  let idx := key / 256
  let sub := key % 256
  match objRow idx sub with
  | none => 0
  | some r =>
    if r.cls ≠ .f then 0
    else if (partFences d.cfg new idx sub).any fun p => p != 0 && !(d.partFenced p) then 0x21
    else if (pdFences d new idx).any fun k => !(d.pdFenced k) then 0x22
    else 0

/-! Cross-object constraints (R38). Each definition tells whether the instance with subindex `sub` of its object takes part in a
violation of the constraint. -/

/-- Whether subindex `s` of 0x2201 takes part in a violation of R146: 2i + 1 and 2i + 2 are base and cap of a class, P first. -/
def badUrgency (c : Cfg) (s : Nat) : Bool :=
  let v := c.nat 0x2201
  let i := (s - 1) / 2
  decide (1022 < v (2 * i + 1) + v (2 * i + 2)) || ([1, 3].contains s && decide (v 1 < v 3)) || ([3, 5].contains s && decide (v 3 < v 5))

/-- Whether the tag minimum (`min`) or ceiling of partition `p` at NI `n` takes part in a violation of R177. -/
def badQuota (c : Cfg) (p n : Nat) (min : Bool) : Bool :=
  let mn (q : Nat) : Nat := c.nat (0x2310 + q) (n + 1)
  hasTags n && ((min && decide (128 < (List.range 16).foldl (fun s q => s + mn q) 0)) || decide (c.nat (0x2320 + p) (n + 1) < mn p))

/-- Addresses at which the peripheral map changes target (R96). -/
def mapEdges : List Nat :=
  [0x40000, 0x200000, 0x10000000, 0x10040000, 0x10200000, 0x20000000, 0x20010000, 0x20020000, 0x20030000, 0x20040000,
   0x20050000, 0x20060000, 0x20070000, 0x20080000, 0x20081000, 0x20090000, 0x30000000]

/-- Whether subindex `s` of attribute entry `j` takes part in a violation of R107, which every entry must meet, or of R223, which
valid entries must meet. -/
def badAttr (remap : Bool) (c : Cfg) (j s : Nat) : Bool :=
  let b := c.nat (0x2410 + j) 1
  let l := c.nat (0x2410 + j) 2
  let fl := c.nat (0x2410 + j) 3
  let parts := if l < b then [] else (b :: mapEdges.filter fun e => decide (b < e ∧ e ≤ l)).map (mxDecode remap)
  (s == 1 && decide (0x3FFFFFFF < b)) || (s == 2 && decide (0x3FFFFFFF < l))
    || (bitOf fl 1 && parts.any fun t => !t.mayPrefetch) || (bitOf fl 2 && parts.any fun t => !t.mayPost)
    || (bitOf fl 0 && (decide (l < b)
      || (List.range 16).any fun i => i != j && bitOf (c.nat (0x2410 + i) 3) 0
          && decide (c.nat (0x2410 + i) 1 ≤ l ∧ b ≤ c.nat (0x2410 + i) 2)))

/-- Whether subindex `s` of the memory ranges of partition `p` takes part in a violation of R308. -/
def badRange (c : Cfg) (p s : Nat) : Bool :=
  let r := (s - 1) % 8
  let b := c.nat (0x2720 + p) (r + 1)
  let l := c.nat (0x2720 + p) (r + 9)
  !(b == 0 && l == 0)
    && ((decide (s ≤ 8 ∧ b % 4096 ≠ 0)) || (decide (8 < s ∧ l % 4096 ≠ 4095)) || decide (l < b) || touchesQctx b (l + 1 - b))

/-- Whether subindex `s` of the admin rings of partition `p` is a base that breaks R308. -/
def badAdmin (c : Cfg) (p s : Nat) : Bool := [1, 3].contains s && decide (c.nat (0x2710 + p) s % 4096 ≠ 0)

/-- Whether subindex `s` of region `n` takes part in a violation of R345. -/
def badRegion (c : Cfg) (n s : Nat) : Bool :=
  let o := c.nat (0x3000 + n)
  let b := o 3
  let len := o 4
  let basin := decide (0x40000000 ≤ b ∧ b + len ≤ 0x43C00000)
  let ddr := decide (0x100000000 ≤ b ∧ b + len ≤ 0x8100000000)
  o 5 % 4 != 0
    && (([3, 5].contains s && b % 4096 != 0) || ([4, 5].contains s && len == 0) || ([3, 4, 5].contains s && !(basin || ddr))
      || ([1, 3, 4, 5].contains s && o 1 != 0 && !(inRanges c (o 1) b len)))

/-- Whether subindex `s` of link `k` takes part in a violation of R353 or of a range of spec/13 (R352, R358). -/
def badGeometry (c : Cfg) (k s : Nat) : Bool :=
  let o := c.nat (0x2A40 + k)
  let f := o 8
  (s == 8 && !([1, 2, 3, 4, 6, 8, 12, 16, 24, 32, 48, 64].contains f))
    || ([3, 5, 6, 7, 8].contains s && f * 8 * o 3 != o 5 * o 6 * o 7)
    || ([8, 0xA].contains s && decide (32 * embOf f ≤ o 0xA))

/-- Whether the enables or L of link `k` take part in a violation of R354: its lanes, or a lane that another enabled link uses. -/
def badLanes (c : Cfg) (k : Nat) : Bool :=
  let hi := k + lanesOf c k
  linkUsed c k && (decide (24 < hi ∨ (k < 12 ∧ 12 < hi))
    || (List.range 24).any fun i => i != k && linkUsed c i && decide (i < hi ∧ k < i + lanesOf c i))

/-- Whether subindex `s` of an enabled link `k` takes part in a change of its geometry without a disable (R354). -/
def badReconfig (old new : Cfg) (k s : Nat) : Bool :=
  let moved (t : Nat) : Bool := old.nat (0x2A40 + k) t != new.nat (0x2A40 + k) t
  linkUsed old k && linkUsed new k && (if s < 3 then (span 3 0xE).any moved else decide (s < 0xE) && moved s)

/-- Whether the SYSREF output that an enabled link `k` names is no whole multiple of its LEMC period (R356). -/
def badSysref (c : Cfg) (k : Nat) : Bool :=
  let o := c.nat (0x2A40 + k)
  let out := 0x2D40 + o 0xB
  linkUsed c k && decide ((c.nat out 2 * o 4) % (max 1 (c.nat out 3) * 2112 * embOf (o 8) * 1000000) ≠ 0)

/-- Whether subindex `s` of link `k` takes part in a violation of a constraint. -/
def badLink (old new : Cfg) (k s : Nat) : Bool :=
  badGeometry new k s || (decide (s ≤ 3) && badLanes new k) || badReconfig old new k s
    || ([1, 2, 4, 8, 0xB].contains s && badSysref new k)

/-- Whether subindex `s` of template `t` takes part in a disagreement of EtherType, IP version and length, or has a UDP
destination port that is taken (R402). -/
def badHeader (c : Cfg) (t s : Nat) : Bool :=
  let h := c.bytesAt 0 (0x2B20 + t) 1
  let n := h.length
  let vlan := be h 12 2 == 0x8100
  let ip := if vlan then 18 else 14
  let shape :=
    if bitOf (c.nat (0x2B20 + t) 2) 0 then be h (ip - 2) 2 == 0x86DD && be h ip 1 / 16 == 6 && n == ip + 48
    else be h (ip - 2) 2 == 0x0800 && be h ip 1 == 0x45 && n == ip + 28
  let port := be h (n - 6) 2
  n != 0 && (([1, 2].contains s && !shape) || (s == 1 && (port == 319 || port == 320 || port == 4791)))

/-- Whether the source MAC of template `t` is no address of a port that it may be used on (R402). -/
def badMac (c : Cfg) (t : Nat) : Bool :=
  let h := c.bytesAt 0 (0x2B20 + t) 1
  !h.isEmpty && !((List.range 4).any fun p =>
    Nat.land (c.nat (0x2B00 + p) 6) (c.nat (0x2B20 + t) 3) != 0 && be h 6 6 == c.nat (0x2B00 + p) 3 % 2 ^ 48)

/-- Whether rule `r` of port `p` has the UDP port and address of another enabled rule (R407). -/
def badRule (c : Cfg) (p r : Nat) : Bool :=
  let on (i : Nat) : Bool := c.nat (0x2B18 + p) (3 * i + 3) != 0xFF
  on r && (List.range 16).any fun i => i != r && on i && c.nat (0x2B18 + p) (3 * i + 1) == c.nat (0x2B18 + p) (3 * r + 1)
    && c.bytesAt 0 (0x2B18 + p) (3 * i + 2) == c.bytesAt 0 (0x2B18 + p) (3 * r + 2)

/-- Whether a raw send queue is bound to template `t` (R402, R407). -/
def templateBound (d : Dev) (t : Nat) : Bool := d.queues.q.any fun e => e.2.kind == 3 && e.2.role == 2 && e.2.sel == t

/-- Whether subindex `s` of SYSREF output `k` takes part in a violation of R453. -/
def badGrid (c : Cfg) (k s : Nat) : Bool :=
  let o := c.nat (0x2D40 + k)
  let den := max 1 (o 3)
  ([2, 3].contains s && (decide (o 2 = 0) || decide (1000000000 * den % max 1 (o 2) ≠ 0 ∨ o 2 < 10 * den)))
    || ([2, 3, 4].contains s && decide (o 2 * 64 ≤ o 4 * den))

/-- Whether rank `i` is not 0 and equals another (R460). -/
def badRank (c : Cfg) (i : Nat) : Bool :=
  c.nat 0x2D01 i != 0 && (span 1 7).any fun j => i != j && c.nat 0x2D01 i == c.nat 0x2D01 j

/-- Whether the election line is enabled as a trigger line (R460). -/
def badElection (c : Cfg) : Bool :=
  let e := c.nat 0x2D60 1
  decide (e < 8) && c.nat (0x2D31 + e) 2 % 4 != 0

/-- Whether subindex `s` of source `n` takes part in a violation of R479. -/
def badSource (c : Cfg) (n s : Nat) : Bool :=
  let o := c.nat (0x4000 + n)
  let outside (set : Nat) : Bool := Nat.lor (o set) (o 2) != o 2
  let masked := if s = 5 ∨ s = 6 then outside s else [1, 2].contains s && (outside 5 || outside 6)
  (o 1 != 0 && masked) || ([1, 7].contains s && decide (msixSize (o 1) ≤ o 7))

/-- What probe `j` of a partition other than 0 names that another partition owns (R509): the subindexes that take part, and the
owner object 256·index + subindex of the thing named, where one is. -/
def probeFaults (c : Cfg) (j : Nat) : List (List Nat × Option Nat) :=
  let o := c.nat (0x2F10 + j)
  let k := o 1
  let foreign (idx : Nat) : Bool := c.nat idx 1 != k
  let refers (s : Nat) (probe line : Nat) : List (List Nat × Option Nat) :=
    let x := o (s + 1)
    if o s = probe ∧ foreign (0x2F10 + x % 16) = true then [([1, s, s + 1], some (okey (0x2F10 + x % 16) 1))]
    else if o s = line ∧ 1 ≤ x ∧ x ≤ 13 ∧ foreign (0x2D30 + x) = true then [([1, s, s + 1], some (okey (0x2D30 + x) 1))]
    else []
  if k = 0 then []
  else
    (if o 7 ≠ 2 ^ k then [([1, 7], none)] else [])
      ++ (if o 0xA ≠ 0xFF ∧ foreign (0x2F08 + o 0xA) = true then [([1, 0xA], some (okey (0x2F08 + o 0xA) 1))] else [])
      ++ refers 0xB 2 3 ++ refers 0xE 3 4

/-- Whether an instance takes part in a violation of R509. -/
def badProbe (c : Cfg) (idx sub : Nat) : Bool :=
  (List.range 16).any fun j => (probeFaults c j).any fun f =>
    (idx == 0x2F10 + j && f.1.contains sub) || f.2 == some (okey idx sub)

/-- Whether an entry of a commit takes part in a violated cross-object constraint (R38). -/
def badEntry (d : Dev) (new : Cfg) (key : Nat) : Bool :=
  let old := d.cfg
  let idx := key / 256
  let sub := key % 256
  let within (base n : Nat) : Bool := decide (base ≤ idx ∧ idx < base + n)
  let i := idx % 256
  let changed := old.find? key != new.find? key
  if idx = 0x2201 then badUrgency new sub
  else if within 0x2310 16 then badQuota new (i - 0x10) (sub - 1) true
  else if within 0x2320 16 then badQuota new (i - 0x20) (sub - 1) false
  else if within 0x2410 16 then badAttr d.matrix.remap new (i - 0x10) sub
  else if within 0x2710 16 then badAdmin new (i - 0x10) sub
  else if within 0x2721 15 then badRange new (i - 0x20) sub
  else if within 0x3000 0x1000 then badRegion new (idx - 0x3000) sub
  else if within 0x2A40 24 then badLink old new (i - 0x40) sub
  else if within 0x2B00 4 then [3, 6].contains sub && (List.range 64).any fun t => badMac new t
  else if within 0x2B18 4 then
    let r := (sub - 1) / 3
    badRule new (i - 0x18) r || ((ruleQueue d (i - 0x18) r).isSome && changed)
  else if within 0x2B20 64 then
    badHeader new (i - 0x20) sub || ([1, 3].contains sub && badMac new (i - 0x20)) || (templateBound d (i - 0x20) && changed)
  else if within 0x2D40 6 then
    badGrid new (i - 0x40) sub
      || ([2, 3].contains sub && (List.range 24).any fun k => new.nat (0x2A40 + k) 0xB == i - 0x40 && badSysref new k)
  else if idx = 0x2D01 then badRank new sub
  else if idx = 0x2D60 then sub == 1 && badElection new
  else if within 0x2D31 13 then badProbe new idx sub || (sub == 2 && new.nat 0x2D60 1 == i - 0x31 && badElection new)
  else if within 0x2F08 24 then badProbe new idx sub
  else if within 0x4000 0x100 then badSource new (idx - 0x4000) sub
  else false

/-! Acceptance (R38, R39, R43). -/

/-- The first entry of a change for which `f` gives a detail, with it: keys rise with index and subindex. -/
def firstBad (chg : Change) (f : Nat → Nat) : Option (Nat × Nat) :=
  chg.findSome? fun e => if f e.1 = 0 then none else some (f e.1, e.1)

/-- The acceptance checks at tail edge 1, in the order of R38: the detail and the entry named, none where accepted.
`own` is the detail of a failed ownership check, `fencing` is false where the fencing check is skipped (R53). An expected
version 0 is always refused (R44). -/
def refuseCommit (d : Dev) (path : Nat) (chg : Change) (expected : Option Nat) (own : Nat) (fencing : Bool) : Option (Nat × Nat) :=
  let new := d.cfg.apply chg
  let p := pathPart path
  if (match expected with
      | some v => v == 0 || v != d.store.version
      | none => false) then some (0x20, 0)
  else if chg.isEmpty then none
  else
    let f1 := if fencing then firstBad chg (fenceDetail d new) else none
    let f2 := if p = 0 then none else firstBad chg fun k => if ownerOf d.cfg (k / 256) (k % 256) = p then 0 else own
    let f3 := firstBad chg fun k => if badEntry d new k then 0x24 else 0
    f1 <|> f2 <|> f3

/-! The flip (R37, R44, R45). -/

/-- The version after `v`: it stays 0 until the boot load has set 1 (R44). -/
def nextVersion (v : Nat) : Nat := if v = 0 then 0 else if 0xFFFFFFFF ≤ v then 1 else v + 1

/-- Cells that a change replaces: the journal of the commit. -/
def journalOf (old : Cfg) (chg : Change) : Change := chg.map fun e => (e.1, old.find? e.1)

/-- The CAN node stops when it is disabled: a session ends without an abort, a bus-off is over, and the chamber and the waiting
frame of path 2 are gone (R92). When it is enabled again it runs on in its NMT state: the spec says nothing of that
(DESIGN CHOICE, log entry 67). -/
def canAtFlip (d : Dev) : Dev :=
  let on := d.cfg.nat 0x1FF0 5 == 1
  if on = d.can.enabled then d
  else if on then d.onCan fun c => { c with enabled := true }
  else { d with
    can := { d.can with enabled := false, busOff := false, usdo := none }
    store := { d.store with chambers := d.store.chambers.erase 2, waiting := d.store.waiting.erase 2 } }

/-- The interleave map at the flip of a commit with an entry of 0x24E0; the contents of DDR become undefined (R104, R105). -/
def ddrAtFlip (new : Cfg) (d : Dev) : Dev :=
  let set := newDdrSet d new
  (d.onDdr fun x => { x with
    set := set
    caps := (List.range 8).foldl (fun t c => if bitOf set c then t.set c (new.nat 0x24E0 (c + 1)) else t.erase c) x.caps
    gran := new.nat 0x24E0 9 }).memForget 0x100000000 0x80FFFFFFFF

/-- Probes and trace FIFOs whose owner changes (R509). -/
def probesAtFlip (old new : Cfg) (d : Dev) : Dev :=
  let d1 := Dev.fold (List.range 16) (fun j e =>
    if old.nat (0x2F10 + j) 1 = new.nat (0x2F10 + j) 1 then e
    else probeClear j (e.upProbe j fun x => { x with state := 0, interval := 0 })) d
  Dev.fold (List.range 4) (fun f e =>
    if old.nat (0x2F08 + f) 1 = new.nat (0x2F08 + f) 1 then e else e.upFifo f fun x => { x with recs := [] }) d1

/-- Fault sources whose owner changes (R479, R491). -/
def sourcesAtFlip (old new : Cfg) (chg : Change) (d : Dev) : Dev :=
  Dev.fold (chg.filter fun e => decide (0x400001 ≤ e.1 ∧ e.1 ≤ 0x40FF01) && e.1 % 256 == 1) (fun e y =>
    if old.nat (e.1 / 256) 1 = new.nat (e.1 / 256) 1 then y else clearSourceState false (e.1 / 256 - 0x4000) y) d

/-- Links and ports whose clock does not run see the change at the flip (R355, R406). -/
def portsAtFlip (d : Dev) : Dev :=
  let d1 := Dev.fold (List.range 24) (fun k e => if e.clockRuns (9 + k) then e else applyLink k e) d
  Dev.fold (List.range 4) (fun p e => if e.clockRuns (5 + p) then e else applyPort p e) d1

/-- The epoch flip: every entry becomes active at once, the version and the epoch advance, every running domain starts to
capture (R37, R44, R45), and what the chapters do at the flip happens. -/
def flip (chg : Change) (version : Nat) (d : Dev) : Dev :=
  let old := d.cfg
  let new := old.apply chg
  let has (lo hi : Nat) : Bool := chg.any fun e => decide (256 * lo ≤ e.1 ∧ e.1 < 256 * (hi + 1))
  let d1 := d.onStore fun st => { st with
    active := new, journal := journalOf old chg, version := version, epoch := st.epoch + 1, valid := st.valid || version != 0 }
  let d2 := Dev.fold (span 1 0x2A) (fun k e => if e.clockRuns k then e.upDom k fun x => { x with capturing := true } else e) d1
  let d3 := if has 0x2700 0x272F then queuesAtFlip old new d2 else d2
  let d4 := if has 0x3000 0x3FFF then admissionsAtFlip old new d3 else d3
  let d5 := if has 0x4000 0x40FF then sourcesAtFlip old new chg d4 else d4
  let d6 := if has 0x2F08 0x2F1F then probesAtFlip old new d5 else d5
  let d7 := if has 0x24E0 0x24E0 then ddrAtFlip new d6 else d6
  let d8 := if has 0x1FF0 0x1FF0 then canAtFlip d7 else d7
  if has 0x2A40 0x2A57 || has 0x2B00 0x2B03 then portsAtFlip d8 else d8

/-! Commit, revert and discard of a path: the device, the detail and the object that 0x2001 names. -/

/-- The outcome of a store transaction: the device, the detail (0 OK) and 256·index + subindex of the object named. -/
structure Outcome where
  /-- The device. -/
  dev : Dev
  /-- Detail code. -/
  detail : Nat := 0
  /-- Object. -/
  key : Nat := 0

/-- COMMIT of a path's chamber (R38 to R41). -/
def commitPath (path : Nat) (expected : Option Nat) (d : Dev) : Outcome :=
  let chg := chamberChange (d.chamber path)
  match refuseCommit d path chg expected 0x23 true with
  | some (e, k) => { dev := d, detail := e, key := k }
  | none =>
    if chg.isEmpty then { dev := d }
    else { dev := (flip chg (nextVersion d.store.version) d).onStore fun st => { st with chambers := st.chambers.erase path } }

/-- REVERT (R42, R43). -/
def revertPath (path : Nat) (expected : Option Nat) (d : Dev) : Outcome :=
  let chg := d.store.journal
  match refuseCommit d path chg expected 0x26 true with
  | some (e, k) => { dev := d, detail := e, key := k }
  | none => if chg.isEmpty then { dev := d, detail := 0x25 } else { dev := flip chg (nextVersion d.store.version) d }

/-- DISCARD (R36). -/
def discardPath (path : Nat) (d : Dev) : Dev := d.onStore fun st => { st with chambers := st.chambers.erase path }

/-- The first two edges of a transaction clear what an interrupted accepted commit left (R58); the count of rollbacks stays at
its highest value (DESIGN CHOICE, log entry 68). -/
def rollBack (d : Dev) : Dev :=
  match d.store.cut with
  | some p => (d.onStore fun st => { st with cut := none, rolledNow := true, rolledBack := inc32 st.rolledBack }).raise 0xE7 p
  | none => d.onStore fun st => { st with rolledNow := false }

/-! Staging (R33). -/

/-- Why a value may not be staged at or given to a stored instance, 0 where it may (R33, R65). -/
def valueDetail (idx : Nat) (r : ObjRow) (b : Bytes) : Nat :=
  if (r.ty.lenOk b.length) = false then 0x07 else if (r.inRange idx b) = false then 0x06 else 0

/-- A value enters the chamber of a path (R33). -/
def stage (path key : Nat) (b : Bytes) (d : Dev) : Outcome :=
  let c := (d.chamber path).set key b
  if 512 < c.length then { dev := d, detail := 0x10, key := key }
  else if 16384 < chamberBytes c then { dev := d, detail := 0x11, key := key }
  else { dev := d.onStore fun st => { st with chambers := st.chambers.set path c } }

/-! Images (R48 to R55). -/

/-- One entry of an image's body. -/
def imageEntry (key : Nat) (b : Bytes) : Bytes :=
  leBytes 2 (key / 256) ++ [byte key, byte 0] ++ leBytes 2 b.length ++ [byte 0, byte 0] ++ padTo ((b.length + 7) / 8 * 8) b

/-- A configuration image (R53). -/
def imageBytes (schema seqNo version : Nat) (c : Cfg) : Bytes :=
  let body := c.foldl (fun acc e => acc ++ imageEntry e.1 e.2) []
  let head := leBytes 4 0x48554347 ++ leBytes 2 schema ++ leBytes 2 0 ++ leBytes 4 seqNo ++ leBytes 4 version
    ++ leBytes 4 c.length ++ leBytes 4 body.length ++ leBytes 8 0
  head ++ body ++ leBytes 4 (crc32c (head ++ body))

/-- The entries of an image's body: `n` of them, and whether they fill it exactly (R51). -/
def readEntries : Nat → Bytes → Option (List (Nat × Bytes))
  | 0, bs => if bs.isEmpty then some [] else none
  | n + 1, bs =>
    let len := Bytes.le bs 4 2
    let size := 8 + (len + 7) / 8 * 8
    if bs.length < size then none
    else (readEntries n (bs.drop size)).map fun l => (okey (Bytes.le bs 0 2) (Bytes.le bs 2 1), Bytes.slice bs 8 len) :: l

/-- What a configuration slot holds. -/
structure Image where
  /-- Schema version. -/
  schema : Nat
  /-- Sequence number. -/
  seqNo : Nat
  /-- Version of the snapshot. -/
  version : Nat
  /-- Entries in image order. -/
  entries : List (Nat × Bytes)

/-- The image of a slot's bytes; none where the slot is not valid (R51). -/
def readImage (bs : Bytes) : Option Image :=
  let b := Bytes.le bs 20 4
  let n := Bytes.le bs 16 4
  if Bytes.le bs 0 4 ≠ 0x48554347 ∨ 0x200000 < 36 + b ∨ bs.length < 36 + b ∨ b < 8 * n then none
  else if Bytes.le bs (32 + b) 4 ≠ crc32c (bs.take (32 + b)) then none
  else (readEntries n (Bytes.slice bs 32 b)).map fun es =>
    { schema := Bytes.le bs 4 2, seqNo := Bytes.le bs 8 4, version := Bytes.le bs 12 4, entries := es }

/-- The image of configuration slot `i` (0 A, 1 B). -/
def Dev.image (d : Dev) (i : Nat) : Option Image := readImage (d.flash.config.get [] i)

/-- Whether sequence `a` is newer than `b` (R51). -/
def newerSeq (a b : Nat) : Bool := a != b && decide ((a + 2 ^ 32 - b % 2 ^ 32) % 2 ^ 32 < 2 ^ 31)

/-- The newest valid configuration slot; slot A where both hold the same sequence number (R51, R63), and where the numbers differ
by exactly 2³¹, so that neither is newer (DESIGN CHOICE, log entry 69). -/
def newestSlot (d : Dev) : Option Nat :=
  match d.image 0, d.image 1 with
  | some a, some b => some (if newerSeq b.seqNo a.seqNo then 1 else 0)
  | some _, none => some 0
  | none, some _ => some 1
  | none, none => none

/-- The target slot of a SAVE and the sequence number it takes (R48). -/
def saveTarget (d : Dev) : Nat × Nat :=
  let next (s : Nat) : Nat := (s + 1) % 2 ^ 32
  match d.image 0, d.image 1 with
  | some a, some b => if newerSeq b.seqNo a.seqNo then (0, next b.seqNo) else (1, next a.seqNo)
  | some a, none => (1, next a.seqNo)
  | none, some b => (0, next b.seqNo)
  | none, none => (0, 1)

/-- The schema range of the running firmware: lowest, highest (R524). -/
def schemaRange (d : Dev) : Nat × Nat :=
  let f := d.flash.firmware.get [] d.boot.running
  if d.boot.firmware then (Bytes.le f 28 2, Bytes.le f 30 2)
  else (Config.absentFirmware 1 % 65536, Config.absentFirmware 2 % 65536)

/-- SAVE is asked for (R48 to R50). -/
def saveStart (path key : Nat) (d : Dev) : Outcome :=
  if d.store.save.isSome then { dev := d, detail := 0x30, key := key }
  else
    let t := saveTarget d
    { dev := d.onStore fun st => { st with
        saveState := 1
        save := some { target := t.1, seq := t.2, path := path, key := key, startVersion := st.version, snapshot := st.active, attempts := 0
                       schema := if d.boot.firmware then some (schemaRange d).2 else none } } }

/-- What an image would change: every class S and F instance not named in it returns to its default (R53). -/
def imageChange (old : Cfg) (es : List (Nat × Bytes)) : Change :=
  let new : Cfg := es.foldl (fun (c : Cfg) (e : Nat × Bytes) => Cfg.put c e.1 e.2) []
  let keys : Tbl Bool := (old ++ new).foldl (fun (t : Tbl Bool) (e : Nat × Bytes) => t.set e.1 true) []
  (keys.filter fun (k : Nat × Bool) => Tbl.find? old k.1 != Tbl.find? new k.1).map fun (k : Nat × Bool) => (k.1, Tbl.find? new k.1)

/-- The detail of an image's entry that cannot be stored (R54). -/
def imageEntryBad (e : Nat × Bytes) : Bool :=
  match objRow (e.1 / 256) (e.1 % 256) with
  | some r => (r.cls != .s && r.cls != .f) || valueDetail (e.1 / 256) r e.2 != 0
  | none => true

/-- The checks of R54 on an image before its commit: the detail and the object named. -/
def refuseImage (d : Dev) (im : Image) : Option (Nat × Nat) :=
  let r := schemaRange d
  if im.schema < r.1 ∨ r.2 < im.schema then some (0x40, 0)
  else if 32768 < im.entries.length ∨ 0x100000 < im.entries.foldl (fun n e => n + entrySize e.2) 0 then some (0x43, 0)
  else (im.entries.find? imageEntryBad).map fun e => (0x41, e.1)

/-- An image load is committed on path 1: `boot` skips the fencing check, `first` is the boot load, which sets version 1
(R44, R53). -/
def loadEntries (es : List (Nat × Bytes)) (source schema : Nat) (boot first : Bool) (d : Dev) : Outcome :=
  let chg := imageChange d.cfg es
  match refuseCommit d 1 chg none 0x23 (!boot) with
  | some (e, k) => { dev := d, detail := e, key := k }
  | none =>
    let d1 := if first then flip chg 1 d
      else if chg.isEmpty then d else flip chg (nextVersion d.store.version) d
    { dev := d1.onStore fun st => { st with loadSource := source, schema := schema } }

/-- Slot `i` is loaded as an image (R54). -/
def loadSlotNow (i source : Nat) (boot first : Bool) (d : Dev) : Outcome :=
  match d.image i with
  | none => { dev := d, detail := 0x42 }
  | some im =>
    match refuseImage d im with
    | some (e, k) => { dev := d, detail := e, key := k }
    | none => loadEntries im.entries source im.schema boot first d

/-- Defaults are applied as an image load with no entries (R52, R524). -/
def loadDefaults (boot first : Bool) (d : Dev) : Outcome := loadEntries [] 0 (schemaRange d).2 boot first d

/-- The boot load of a store that holds no configuration (R52): the newest valid slot, or defaults with 0xE4 or 0xE5. -/
def bootLoad (d : Dev) : Dev :=
  match newestSlot d with
  | none => (loadDefaults true true d).dev.raise 0xE4
  | some i =>
    let r := loadSlotNow i (i + 1) true true d
    if r.detail = 0 then r.dev
    else ((loadDefaults true true d).dev.raise 0xE5 i).onStore fun st => { st with results := st.results.set 1 (256 * r.key + r.detail) }

/-! Domain capture (R45 to R47). -/

/-- What a domain's units do at its apply edge from `old`. A port or link that is disabled, and a channel without capacity,
lose their clock (R230). -/
def applyDomain (k : Nat) (old : Cfg) (d : Dev) : Dev :=
  if k = 1 then
    bridgeAtApply old d.fcfg <| metersAtApply old d.fcfg <| messagesAtApply old d.fcfg <| applyWeirs old d.fcfg <|
      linesAtApply old d.fcfg d
  else if k = 3 then applyCollector d
  else if 5 ≤ k ∧ k ≤ 8 then
    let d1 := applyPort (k - 5) d
    if (d1.shadow k).nat (0x2B00 + (k - 5)) 1 = 1 then d1 else stopDomain k false d1
  else if 9 ≤ k ∧ k ≤ 0x20 then
    let d1 := applyLink (k - 9) d
    if linkUsed (d1.shadow k) (k - 9) then d1 else stopDomain k false d1
  else if 0x21 ≤ k ∧ k ≤ 0x28 then
    if (d.shadow k).nat 0x24E0 (k - 0x20) = 0 ∧ (d.pd (4 + (k - 0x21))).state ≠ 1 then stopDomain k false d else d
  else if k = 0x29 then applyInhibit (applyTiming old d)
  else d

/-- DOMAIN_CAPTURE: a running domain has captured the store's outputs and applies them at one edge (R45, R46, R238); the
crossings of its held units have captured with it (R47, R231). -/
def domainCapture (k elapsedNs restarts : Nat) (d : Dev) : Dev :=
  let x := d.dom k
  if d.clockRuns k = false ∨ x.capturing = false then d
  else
    let d1 := d.upDom k fun y => { y with
      capturing := false, version := d.store.version, epoch := d.store.epoch, shadow := d.store.active
      restarts := satAdd 32 y.restarts restarts, longest := max y.longest elapsedNs }
    applyDomain k x.shadow (d1.onResets fun r => { r with
      unitHeld := r.unitHeld.map fun e => (e.1, e.2 || unitDomain d1 e.1 == k) })

/-! Meanings. -/

/-- DOMAIN_CAPTURE: A clock domain sees a new epoch, captures its shadow words by agreement and reports the version in 0x2003 (R238). -/
def execDomainCapture (d : Nat) (elapsedNs : Nat) (restarts : Nat) (s : State) : Host.Outcome State Fault Refusal :=
  act (wfDomainCapture d elapsedNs restarts) (domainCapture d elapsedNs restarts) s

end Sys2Proof.Machine
end

