-- ==== Sys2Proof/Machine/Boot.lean ====
section
/-! DEFINITION. Boot, firmware images, safe-harbour mode and the update objects (spec/19). -/
namespace Sys2Proof.Machine

/-! Firmware slots (R516 to R518). -/

/-- The bytes of firmware slot `i` (0 A, 1 B). -/
def Dev.fwSlot (d : Dev) (i : Nat) : Bytes := d.flash.firmware.get [] i

/-- Body length of a slot's header. -/
def fwBody (b : Bytes) : Nat := Bytes.le b 12 4

/-- Bytes of a slot as read back, `n` of them at least: what is not programmed reads erased. -/
def erasedPad (n : Nat) (b : Bytes) : Bytes := b ++ List.replicate (n - b.length) erasedByte

/-- Whether magic and body length are right (R517). -/
def fwFormat (b : Bytes) : Bool :=
  let n := fwBody b
  Bytes.le b 0 4 == 0x48554657 && decide (4096 ≤ n ∧ n ≤ 1835008 ∧ n % 4 = 0)

/-- Whether body hash, signature and key are right (R517). -/
def fwSigned (d : Dev) (b : Bytes) : Bool :=
  let n := fwBody b
  let key := Bytes.slice b (256 + n) 97
  let i := Bytes.le b 19 1
  Config.sha384 (Bytes.slice b 256 n) == Bytes.slice b 36 48
    && Config.signatureValid (Config.sha384 (b.take (256 + n))) key (Bytes.slice b (356 + n) 96)
    && d.otp.keys.find? i == some (Config.sha384 key) && decide (i < 4) && !(bitOf d.otp.revoked i)

/-- The silicon revision (0x2000:03) and the NI microcode version (0x2000:06) of A1. -/
def siliconRevision : Nat := 0xA1

/-- NI microcode version of A1 (R516). -/
def microcodeVersion : Nat := 0x0102

/-- Whether a valid image fits the device (R518). -/
def fwFits (b : Bytes) : Bool :=
  let n := Bytes.le b 18 1
  decide (Bytes.le b 16 1 ≤ siliconRevision ∧ siliconRevision ≤ Bytes.le b 17 1)
    && ((Bytes.slice b 20 8).take n).contains (byte siliconRevision) && Bytes.le b 32 2 == microcodeVersion

/-- What VERIFY finds wrong in a slot, 0 for nothing (R517, R518, R527). -/
def slotFault (d : Dev) (i : Nat) : Nat :=
  let h := erasedPad 256 (d.fwSlot i)
  if fwFormat h = false then 0x94
  else
    let b := erasedPad (512 + fwBody h) (d.fwSlot i)
    if fwSigned d b = false then 0x95 else if fwFits b = false then 0x96 else 0

/-- Slot state of 0x1F57. -/
def slotState (d : Dev) (i : Nat) : Nat :=
  let f := slotFault d i
  if f = 0 then 3 else if f = 0x96 then 2 else if f = 0x95 then 1 else 0

/-- Whether a slot is valid. -/
def slotValid (d : Dev) (i : Nat) : Bool := decide (2 ≤ slotState d i)

/-- Whether a slot is a candidate (R520). -/
def candidate (d : Dev) (i : Nat) : Bool := slotState d i == 3

/-- Whether a slot is erased: it fails the magic check and raises nothing (R517). -/
def slotErased (d : Dev) (i : Nat) : Bool := (d.fwSlot i).all fun b => b == erasedByte

/-- Of two slots with a property, the newer; slot A where both sequences are equal (R520). -/
def newerOf (d : Dev) (ok : Nat → Bool) : Option Nat :=
  if ok 0 then
    if ok 1 && newerSeq (Bytes.le (d.fwSlot 1) 8 4) (Bytes.le (d.fwSlot 0) 8 4) then some 1 else some 0
  else if ok 1 then some 1 else none

/-! The boot record (R519). -/

/-- The copy that is the boot record. -/
def recordCopy (d : Dev) : Option Nat :=
  match d.flash.record.find? 0, d.flash.record.find? 1 with
  | some a, some b => some (if newerSeq b.1 a.1 then 1 else 0)
  | some _, none => some 0
  | none, some _ => some 1
  | none, none => none

/-- The boot record. -/
def Dev.record (d : Dev) : BootRecord :=
  match recordCopy d with
  | some i => (d.flash.record.get (0, {}) i).2
  | none => {}

/-- The device writes the boot record. -/
def writeRecord (r : BootRecord) (d : Dev) : Dev :=
  match recordCopy d with
  | some i =>
    let s := (d.flash.record.get (0, {}) i).1
    d.onFlash fun f => { f with record := f.record.set (1 - i) ((s + 1) % 2 ^ 32, r) }
  | none => d.onFlash fun f => { f with record := f.record.set 0 (1, r) }

/-! Starts (R520 to R525). -/

/-- Outcome of the boot ROM's choice (R520). -/
structure Choice where
  /-- The slot to start; none for safe-harbour mode. -/
  slot : Option Nat
  /-- A trial starts. -/
  trying : Bool := false
  /-- A trial has failed. -/
  failed : Bool := false

/-- The choice of R520. -/
def bootChoice (d : Dev) : Choice :=
  let r := d.record
  let sel := d.power.bootSel
  let rest :=
    if sel = 1 ∧ candidate d 0 = true then some 0
    else if sel = 2 ∧ candidate d 1 = true then some 1
    else if r.pin < 2 ∧ candidate d r.pin = true then some r.pin
    else newerOf d (candidate d)
  if sel = 3 then { slot := none }
  else if r.trial ≠ 0xFF then
    if r.attempts = 1 ∧ r.trial < 2 ∧ candidate d r.trial = true then { slot := some r.trial, trying := true }
    else { slot := rest, failed := true }
  else { slot := rest }

/-- What the boot ROM finds and writes in a start: the slots' faults, the record, and 0xE2 (R517, R518, R520). -/
def romStart (c : Choice) (d : Dev) : Dev :=
  let d1 := Dev.fold [0, 1] (fun i e =>
    if slotState d i < 2 ∧ slotErased d i = false then e.raise 0xE0 i
    else if slotState d i = 2 then e.raise 0xE1 i else e) d
  let d2 := if c.trying then writeRecord { d.record with attempts := 0 } d1
    else if c.failed then writeRecord { d.record with trial := 0xFF, outcome := 2 } d1
    else d1
  let older : Bool := match c.slot with
    | some i => newerOf d (slotValid d) != some i
    | none => false
  d2.when (c.failed || older) (Dev.raise 0xE2 (c.slot.getD 0xFF))

/-- The restarted firmware judges a SAVE that was cut off (R50, R51): its slot proves valid where the header was
programmed before the cut (`programmed`), and otherwise fails its CRC. A SAVE that no firmware had taken up waits. -/
def judgeSave (programmed : Bool) (d : Dev) : Dev :=
  match d.store.save with
  | none => d
  | some j =>
    match j.schema with
    | none => d
    | some v =>
      if programmed then
        (d.onFlash fun f => { f with config := f.config.set j.target (imageBytes v j.seq j.startVersion j.snapshot) }).onStore
          fun st => { st with save := none, saveState := 2, lastSaved := j.startVersion }
      else
        (d.onFlash fun f => { f with config := f.config.erase j.target }).onStore fun st => { st with save := none, saveState := 3 }

/-- The firmware takes up a SAVE that was asked for before it ran (R48, R49). -/
def takeUpSave (d : Dev) : Dev :=
  match d.store.save with
  | none => d
  | some j => d.onStore fun st => { st with
      save := some { j with schema := some (schemaRange d).2, startVersion := st.version, snapshot := st.active } }

/-- The chosen body is loaded into MSRAM, which REMAP then puts at address 0 (R521, steps 4 and 7). -/
def loadBody (i : Nat) (d : Dev) : Dev := d.memWrite (msramKey 0) (Bytes.slice (d.fwSlot i) 256 (fwBody (d.fwSlot i)))

/-- Whether the node runs on the bus: the lockkeeper serves it, it is enabled and its controller is not in bus-off. -/
def canRuns (d : Dev) : Bool :=
  (d.boot.firmware || d.boot.safeHarbour) && d.can.enabled && !d.can.busOff && d.can.nmt != .initialising

/-- Whether USDO and EMCY run (R80). -/
def canServes (d : Dev) : Bool := canRuns d && d.can.nmt != .stopped

/-- The node sends a frame in CAN FD format with bit-rate switching (R81). -/
def canSend (cob : Nat) (bs : Bytes) (d : Dev) : Dev :=
  d.onCan fun c => { c with sent := some { cob := cob, data := bs, fd := true, rate := c.dataRate } }

/-- The node sends a heartbeat or a boot-up message, in classical format (R79, R81). -/
def canBeat (state : Nat) (d : Dev) : Dev :=
  d.onCan fun c => { c with sent := some { cob := 0x700 + c.nodeId, data := [byte state], fd := false, rate := 1 } }

/-- The open USDO session ends with an abort code or data; in Stopped and in bus-off nothing is sent (R80, R82). -/
def usdoAnswer (abort : Nat) (data : Bytes) (d : Dev) : Dev :=
  (d.when (canServes d) (canSend (0x580 + d.can.nodeId) (leBytes 4 abort ++ data))).onCan fun c => { c with usdo := none }

/-- The CAN node starts (R80, R566, R525). EMCYs that wait in its queue stay there: the spec says nothing of them (DESIGN CHOICE,
log entry 70). -/
def canStart (d : Dev) : Dev :=
  let c : Cfg := if d.boot.safeHarbour = true ∧ d.store.valid = false then [] else d.cfg
  let node := c.nat 0x1FF0 1
  let on := c.nat 0x1FF0 5 == 1
  let d1 := d.onCan fun x => { x with
    nodeId := node, dataRate := c.nat 0x1FF0 2, enabled := on, usdo := none, busOff := false
    nmt := if c.nat 0x1FF0 3 = 1 ∧ d.boot.safeHarbour = false then .operational else .preOperational }
  d1.when on (canBeat 0)

/-- Every partition but 0 and every running power domain are fenced before a start under R522 applies defaults (R524). -/
def fenceAll (d : Dev) : Dev :=
  let d1 := Dev.fold (span 1 16) (fun p e => if e.partFenced p then e else fwWrite (0x2610 + p) 1 [byte 1] e) d
  Dev.fold (List.range 12) (fun k e => if (e.pd k).state = 3 then fwWrite (0x2630 + k) 1 [byte 1] e else e) d1

/-- Whether the active schema lies outside the range of the firmware that starts (R524). -/
def schemaForeign (d : Dev) : Bool :=
  let r := schemaRange d
  decide (d.store.schema < r.1 ∨ r.2 < d.store.schema)

/-- Whether step 8 of the boot commits an image load (R52, R524). -/
def bootLoads (d : Dev) : Bool := !d.store.valid || (schemaForeign d && !d.boot.warm)

/-- Step 8 of the boot: the configuration (R52, R524). -/
def bootConfig (d : Dev) : Dev :=
  if d.store.valid = false then bootLoad (rollBack d)
  else if schemaForeign d then
    let d1 := d.raise 0xE5 0xFF
    if d.boot.warm then (fenceAll d1).onStore fun st => { st with loads := [{ slot := 2, path := 1, key := 0 }] }
    else (loadDefaults true false (rollBack d1)).dev
  else d

/-- Whether the SPI port holds the store or is granted it next (R30). -/
def spiFirst (d : Dev) : Bool := d.store.owner.isSome || d.store.spiPending

/-- Whether LKC is in the boot ROM. -/
def inRom (d : Dev) : Bool := !d.boot.firmware && !d.boot.safeHarbour

/-- FIRMWARE_START: the chosen slot's firmware starts, with the configuration of step 8 (R521, R522, R96). `programmed`
says of a SAVE that was cut off that its header had been programmed (R50). A start that commits an image load waits while the
SPI port has the store (R30, R52). -/
def firmwareStart (programmed : Bool) (d : Dev) : Dev :=
  let c := bootChoice d
  match c.slot with
  | none => d
  | some i =>
    if inRom d = false then d
    else
      let d1 := remapSet (loadBody i (romStart c d))
      let d2 := d1.onBoot fun b => { b with firmware := true, running := i, trying := c.trying }
      if bootLoads d2 = true ∧ spiFirst d2 = true then d
      else canStart (takeUpSave (bootConfig (judgeSave programmed d2)))

/-- SAFE_HARBOUR_ENTRY: no slot can be started (R520, R525). -/
def safeHarbourEntry (d : Dev) : Dev :=
  let c := bootChoice d
  if inRom d = false ∨ c.slot.isSome = true then d
  else canStart (((romStart c d).onBoot fun b => { b with safeHarbour := true, running := 0xFF, trying := false }).raise 0xE3)

/-- END_OF_BOOT: steps 9 and 10 (R521): partitions are released (R251), power domains are switched on and will be
released (R268), all by writes of path 1, and PF0 answers configuration requests; aperture and identity are latched (R320,
R331). -/
def endOfBoot (d : Dev) : Dev :=
  if d.boot.firmware = false ∨ d.boot.ended = true ∨ d.boot.warm = true then d
  else
    let d1 := latchHost (d.onBoot fun b => { b with ended := true })
    let d2 := Dev.fold ((List.range 16).filter fun p => p == 0 || bitOf (d.cfg.nat 0x2600 4) p) fwRelease d1
    let wanted := (List.range 12).filter fun k =>
      d.cfg.nat (0x2630 + k) 3 == 1 && (decide (k < 4) || d.cfg.nat 0x24E0 (k - 3) != 0)
    Dev.fold wanted (fun k e =>
      let e1 := fwWrite (0x2630 + k) 1 [byte 3] e
      if (e.pd k).state = 2 then fwPdRelease k e1 else e1.upPd k fun x => { x with releaseToFollow := true }) d2

/-- TRIAL_CONFIRM (R523). -/
def trialConfirm (d : Dev) : Dev :=
  if d.boot.firmware = false ∨ d.boot.trying = false ∨ d.boot.ended = false then d
  else
    let i := d.boot.running
    let pin := if newerOf d (slotValid d) = some i then 0xFF else i
    writeRecord { d.record with trial := 0xFF, outcome := 1, pin := pin } (d.onBoot fun b => { b with trying := false })

/-! Mailbox results and the restart of LKC (R76, R88). -/

/-- The result of function `f`'s request is written, DONE sets and the interrupt is sent (R76). -/
def mailboxEnd (f stat abort : Nat) (data : Bytes) (d : Dev) : Dev :=
  let x := d.boxes.get {} f
  let d1 := d.onBoxes fun t => t.set f { x with
    pending := false, active := false, done := true, rseq := x.seq, stat := stat, abort := abort, rlen := data.length, rspData := data }
  if x.ie then msix (hpOf f) f x.vector false d1 (box := true) else d1

/-- LKC restarts (R522, R88): requests of mailboxes and CAN end with detail 0x53, frames of the firmware are lost, a release that
was still to follow a reset step or a power-up is lost (R277), and the update is idle. -/
def restartLkc (d : Dev) : Dev :=
  let d1 := Dev.fold (d.boxes.filter fun e => e.2.pending || e.2.active) (fun e y =>
    (mailboxEnd e.1 1 0x08000000 [] y).onStore fun st => { st with results := st.results.set (16 + e.1) (256 * e.2.key + 0x53) }) d
  let d2 := match d.can.usdo with
    | some u => (usdoAnswer 0x08000000 [] d1).onStore fun st => { st with results := st.results.set 2 (256 * u.key + 0x53) }
    | none => d1
  let d3 := d2.onStore fun st => { st with waiting := [], own := [], loads := [] }
  let d4 := Dev.fold (List.range 16) (fun p e =>
    if (e.part p).state = 4 then e.upPart p fun x => { x with autoRelease := false, awaitVf := false } else e) d3
  let d5 := Dev.fold (List.range 12) (fun k e => e.upPd k fun x => { x with releaseToFollow := false }) d4
  d5.onBoot fun b => { warm := b.firmware && b.ended, ended := b.ended, running := b.running }

/-- The watchdog restarts LKC (R522, R471). -/
def lkcRestart (d : Dev) : Dev := (restartLkc d).raise 0xEC

/-! The update objects (R526, R527). -/

/-- The update returns to idle. -/
def updateIdle (d : Dev) : Dev := d.onBoot fun b => { b with update := 0, path := 0xFF, target := 0xFF }

/-- The slot that OPEN erases. -/
def openTarget (d : Dev) : Nat :=
  if d.boot.running < 2 then 1 - d.boot.running
  else if slotValid d 0 = false then 0
  else if slotValid d 1 = false then 1
  else if newerOf d (slotValid d) = some 0 then 1 else 0

/-- Whether the update command or data comes from the update's own path. -/
def updateOwner (d : Dev) (path : Nat) : Bool := d.boot.path == 0xFF || d.boot.path == path

/-- OPEN. -/
def openAct (path : Nat) (d : Dev) : Action :=
  if [0, 4, 5].contains d.boot.update = false then (d, 0x90)
  else if updateOwner d path = false then (d, 0x91)
  else
    let t := openTarget d
    ((d.onFlash fun f => { f with firmware := f.firmware.erase t }).onBoot fun b => { b with
      update := 1, received := 0, path := path, target := t, buffer := [] }, 0)

/-- The firmware programs the buffer's first `n` bytes, in order (R527). -/
def programBuffer (n : Nat) (d : Dev) : Dev :=
  let bs := d.boot.buffer.take n
  (d.onFlash fun f => { f with firmware := f.firmware.set d.boot.target (f.firmware.get [] d.boot.target ++ bs) }).onBoot fun b => { b with
    buffer := b.buffer.drop n }

/-- UPDATE_ERASE_DONE: the erase of the target slot has ended, well or not (R527). -/
def updateEraseDone (ok : Bool) (d : Dev) : Dev :=
  if d.boot.update ≠ 1 then d
  else if ok then d.onBoot fun b => { b with update := 2, received := 0 }
  else d.onBoot fun b => { b with update := 5, failure := 0x98 }

/-- Why update data is refused, 0 where it is taken. -/
def dataDetail (path n : Nat) (d : Dev) : Nat :=
  if d.boot.update ≠ 1 ∧ d.boot.update ≠ 2 then 0x90
  else if updateOwner d path = false then 0x91
  else if d.boot.update = 1 ∨ 65536 < d.boot.buffer.length + n then 0x92
  else if 4194304 < d.boot.received + n then 0x93
  else 0

/-- The firmware has programmed `n` more bytes of the receive buffer while it receives. -/
def programSome (n : Nat) (d : Dev) : Dev := if d.boot.update = 2 then programBuffer n d else d

/-- A write of 0x1F50:01 (R527). -/
def dataAct (path : Nat) (bs : Bytes) (d : Dev) : Action :=
  let e := dataDetail path bs.length d
  if e = 0 then (d.onBoot fun b => { b with buffer := b.buffer ++ bs, received := b.received + bs.length }, 0)
  else (d.onBoot fun b => { b with failure := e }, e)

/-- VERIFY. -/
def verifyAct (path : Nat) (d : Dev) : Action :=
  if d.boot.update ≠ 2 then (d, 0x90) else if updateOwner d path = false then (d, 0x91)
  else (d.onBoot fun b => { b with update := 3 }, 0)

/-- UPDATE_VERIFY_DONE: the rest is programmed and the slot checked (R527). -/
def updateVerifyDone (ok : Bool) (d : Dev) : Dev :=
  if d.boot.update ≠ 3 then d
  else
    let d1 := programBuffer d.boot.buffer.length d
    let e := if ok then slotFault d1 d.boot.target else 0x98
    if e = 0 then d1.onBoot fun b => { b with update := 4 } else d1.onBoot fun b => { b with update := 5, failure := e }

/-- CANCEL. -/
def cancelAct (path : Nat) (d : Dev) : Action :=
  if d.boot.update = 0 then (d, 0x90) else if updateOwner d path = false then (d, 0x91)
  else (updateIdle (d.onBoot fun b => { b with buffer := [] }), 0)

/-- ACTIVATE, and ACTIVATE_FORCE without the schema check. -/
def activateAct (path : Nat) (force : Bool) (d : Dev) : Action :=
  let t := d.boot.target
  let f := d.fwSlot t
  if d.boot.update ≠ 4 then (d, 0x90) else if updateOwner d path = false then (d, 0x91)
  else if force = false ∧ (d.store.schema < Bytes.le f 28 2 ∨ Bytes.le f 30 2 < d.store.schema) then (d, 0x97)
  else (updateIdle (writeRecord { d.record with trial := t, attempts := 1 } d), 0)

/-- ROLLBACK. -/
def rollbackAct (d : Dev) : Action :=
  let other := 1 - d.boot.running
  if d.boot.update ≠ 0 then (d, 0x90)
  else if 2 ≤ d.boot.running ∨ candidate d other = false then (d, 0x99)
  else (writeRecord { d.record with pin := other, trial := 0xFF } d, 0)

/-- RESTART. -/
def restartAct (d : Dev) : Action :=
  if d.boot.update ≠ 0 then (d, 0x90) else (d.onBoot fun b => { b with restart := true }, 0)

/-- A write of 0x1F51:01 (R527). -/
def updateCommand (path v : Nat) (d : Dev) : Action :=
  if v = 1 then openAct path d
  else if v = 2 then verifyAct path d
  else if v = 3 then cancelAct path d
  else if v = 4 then activateAct path false d
  else if v = 5 then activateAct path true d
  else if v = 6 then rollbackAct d
  else if v = 7 then restartAct d
  else (d, 0x06)

/-! Meanings. -/

/-- FIRMWARE_START: The boot ROM has chosen, loaded and verified a slot, sets REMAP and jumps to the firmware (R521). -/
def execFirmwareStart (programmed : Bool) (s : State) : Host.Outcome State Fault Refusal :=
  act (wfFirmwareStart programmed) (firmwareStart programmed) s

/-- SAFE_HARBOUR_ENTRY: No candidate slot is found, or BOOT_SEL is 0b11, and the boot ROM enters safe-harbour mode (R525). -/
def execSafeHarbourEntry (s : State) : Host.Outcome State Fault Refusal :=
  act wfSafeHarbourEntry safeHarbourEntry s

/-- END_OF_BOOT: Partitions and domains are released and PF0 answers configuration requests normally (R521). -/
def execEndOfBoot (s : State) : Host.Outcome State Fault Refusal :=
  act wfEndOfBoot endOfBoot s

/-- TRIAL_CONFIRM: 10 s after the end of boot, the firmware confirms a trial in the boot record (R523). -/
def execTrialConfirm (s : State) : Host.Outcome State Fault Refusal :=
  act wfTrialConfirm trialConfirm s

/-- UPDATE_ERASE_DONE: The target slot erase completes and the update state becomes receiving (R527). -/
def execUpdateEraseDone (ok : Bool) (s : State) : Host.Outcome State Fault Refusal :=
  act (wfUpdateEraseDone ok) (updateEraseDone ok) s

/-- UPDATE_VERIFY_DONE: Verification ends and the update state becomes verified or failed (R527). -/
def execUpdateVerifyDone (ok : Bool) (s : State) : Host.Outcome State Fault Refusal :=
  act (wfUpdateVerifyDone ok) (updateVerifyDone ok) s

end Sys2Proof.Machine
end

