-- ==== Sys2Proof/Machine/Live.lean ====
section
/-! DEFINITION. What a read of an object returns: the active value of a stored object, and the present value of every
status object of the chapters (R35, R59, R86 and the object tables). -/
namespace Sys2Proof.Machine

/-! The latency bounds (R162 to R165). -/

/-- rate(p, n, k) of R164. -/
def boundRate (c : Cfg) (n p k : Nat) : Frac :=
  match weirRate c n p k with
  | .closed => Frac.ofNat 0
  | .unlimited => Frac.ofNat 1
  | .every v => ⟨1, v⟩

/-- The initiator NIs. -/
def initiators : List Nat := (List.range 67).filter isInitiator

/-- r_k(n), for T with the aggregate bucket. -/
def boundLoad (c : Cfg) (k n : Nat) : Frac :=
  let all := Frac.sum ((List.range 16).map fun p => boundRate c n p k)
  let g := c.nat 0x2240 1
  if k = 0 then (if g = 65535 then Frac.ofNat 0 else Frac.min ⟨1, g⟩ all) else Frac.min (Frac.ofNat 1) all

/-- λ_k. -/
def lambdaOf (c : Cfg) (k : Nat) : Frac := Frac.sum (initiators.map (boundLoad c k))

/-- s_k(n). -/
def boundBurst (c : Cfg) (k n : Nat) : Nat :=
  if k = 0 then (if (boundLoad c 0 n).num = 0 then 0 else 1)
  else (List.range 16).foldl (fun a p => match weirRate c n p k with
    | .every _ => a + weirBurst c n p k + 8
    | _ => a) 0

/-- σ_k. -/
def sigmaOf (c : Cfg) (k : Nat) : Nat := initiators.foldl (fun a n => a + boundBurst c k n) 0

/-- Ceiling U_k of a class's urgency. -/
def ceilingOf (c : Cfg) (k : Nat) : Nat := c.nat 0x2201 (2 * k - 1) + c.nat 0x2201 (2 * k)

/-- H of R164: the classes above class `k`. -/
def superior (c : Cfg) (k : Nat) : List Nat := [1, 2, 3].filter fun j => decide (ceilingOf c k < ceilingOf c j)

/-- λ_H of R164. -/
def superiorLoad (c : Cfg) (k : Nat) : Frac :=
  (superior c k).foldl (fun a j => a.add (Frac.scale 10 (lambdaOf c j))) (lambdaOf c 0)

/-- σ_H of R164. -/
def superiorBurst (c : Cfg) (k : Nat) : Nat := (superior c k).foldl (fun a j => a + 10 * sigmaOf c j) (sigmaOf c 0)

/-- Whether a class has an unlimited weir at some initiator. -/
def hasUnlimited (c : Cfg) (k : Nat) : Bool :=
  initiators.any fun n => (List.range 16).any fun p => weirRate c n p k == .unlimited

/-- The bound of VC `v` (R163, R164). -/
def boundOf (c : Cfg) (v : Nat) : Nat :=
  if v = 6 then 96
  else
    let k := if v < 6 then v % 3 + 1 else v - 6
    let f := if v < 6 then 9 else 2
    let l := superiorLoad c k
    if l.den ≤ l.num ∨ ((superior c k).any fun j => hasUnlimited c j) = true then 0xFFFFFFFF
    else
      let w := ceilDiv ((superiorBurst c k + 7 * f + 1) * l.den) (l.den - l.num)
      min 0xFFFFFFFE (28 + 8 * c.nat 0x2201 (2 * k) + 8 * w)

/-- λ_H in 1/65,536 flit per FCLK, rounded up and saturated. -/
def loadWord (c : Cfg) (k : Nat) : Nat :=
  let l := superiorLoad c k
  min 65536 (ceilDiv (65536 * l.num) l.den)

/-! Strings. -/

/-- Bytes of an ASCII string. -/
def asciiBytes (cs : List Nat) : Bytes := cs.map byte

/-- A hex digit. -/
def hexDigit (v : Nat) : Nat := if v < 10 then 48 + v else (if Config.hexUpper then 55 else 87) + v

/-- Version of the running firmware, 0x2000:05 (R516). -/
def firmwareVersion (d : Dev) : Nat :=
  if d.boot.firmware then Bytes.le (d.fwSlot d.boot.running) 4 4 else Config.absentFirmware 0 % 2 ^ 32

/-- The string objects that the device computes. -/
def liveString (d : Dev) (idx sub : Nat) : Bytes :=
  if idx = 0x1008 then asciiBytes [72, 84, 45, 54, 52, 50, 52]
  else if idx = 0x1009 then asciiBytes [65, 49]
  else if idx = 0x100A then (List.range 8).map fun i => byte (hexDigit (firmwareVersion d / 16 ^ (7 - i) % 16))
  else if idx = 0x2D10 then d.timeBytes
  else if idx = 0x2E02 then padTo 16 d.faults.firstRec
  else if 0x4000 ≤ idx then padTo 16 (d.source (idx - 0x4000)).last
  else if sub = 0xC then
    let t := (d.line (idx - 0x2D30)).last
    leBytes 6 (t / 65536000000000) ++ leBytes 4 (t / 65536 % 1000000000) ++ leBytes 2 t
  else []

/-! Numbers, by chapter. -/

/-- Objects of 0x1000 to 0x1FFF. -/
def liveNode (d : Dev) (idx sub : Nat) : Nat :=
  if idx = 0x1001 then errorRegister d
  else if idx = 0x1018 then
    (if sub = 3 then siliconRevision * 65536 + firmwareVersion d % 65536 else Config.serialNumber % 2 ^ 32)
  else if idx < 0x1F00 then Config.tpdoMapping (idx - 0x1A00) sub
  else if idx = 0x1FF0 then (if sub = 6 then d.can.emcyDropped else d.can.busOffs)
  else if idx = 0x1F51 then
    (if sub = 2 then d.boot.update else if sub = 3 then d.boot.received else if sub = 4 then d.boot.path
     else if sub = 5 then d.boot.target else d.boot.failure)
  else if idx = 0x1F56 then (if slotValid d (sub - 1) then Bytes.le (d.fwSlot (sub - 1)) 4 4 else 0)
  else if sub ≤ 2 then slotState d (sub - 1)
  else if sub = 3 then d.boot.running
  else
    let r := d.record
    r.pin + 2 ^ 8 * r.trial + 2 ^ 16 * r.attempts + 2 ^ 24 * r.outcome

/-- State of a configuration slot, 0x2004:04 and :06. -/
def configSlotState (d : Dev) (i : Nat) : Nat :=
  match d.image i with
  | none => 0
  | some im => if im.schema < (schemaRange d).1 ∨ (schemaRange d).2 < im.schema then 2 else 1

/-- Sequence of a configuration slot. -/
def configSlotSeq (d : Dev) (i : Nat) : Nat := ((d.image i).map (·.seqNo)).getD 0

/-- Store flags, 0x2002:03. -/
def storeFlags (d : Dev) : Nat := b2n d.store.valid + 2 * b2n d.store.save.isSome + 4 * d.store.loadSource

/-- Objects of 0x2000 to 0x20FF (R59). -/
def liveStore (d : Dev) (idx sub : Nat) : Nat :=
  let st := d.store
  if idx = 0x2000 then
    (if sub = 4 then Config.serialNumber % 2 ^ 60 else if sub = 5 then firmwareVersion d
     else if sub = 6 then microcodeVersion else if sub = 7 then (schemaRange d).1 else (schemaRange d).2)
  else if idx = 0x2001 then st.results.get 0 (sub - 1)
  else if idx = 0x2002 then
    (if sub = 1 then st.version else if sub = 2 then st.journal.length else if sub = 3 then storeFlags d
     else if sub = 4 then st.schema else st.rolledBack)
  else if idx = 0x2003 then d.domVersion sub
  else if idx = 0x2004 then
    (if sub = 1 then st.saveState else if sub = 2 then st.lastSaved else if sub = 3 then configSlotSeq d 0
     else if sub = 4 then configSlotState d 0 else if sub = 5 then configSlotSeq d 1 else configSlotState d 1)
  else 65536 * chamberBytes (d.chamber (sub - 1)) + (d.chamber (sub - 1)).length

/-- Objects of 0x2100 to 0x22FF (R133, R166). -/
def liveMesh (d : Dev) (idx sub : Nat) : Nat :=
  if idx = 0x2180 then
    let c := d.net.cap
    (if sub = 1 then b2n c.valid else if sub = 2 then c.source else if sub = 3 then c.router else if sub = 4 then c.port
     else if sub = 5 then c.vc else if sub = 6 then c.syndrome else c.further)
  else if idx = 0x2280 then
    (if sub ≤ 9 then boundOf d.fcfg (sub - 1) else if sub = 0xA then (d.dom 1).version else loadWord d.fcfg (sub - 0xA))
  else if idx < 0x2140 then
    let r := idx - 0x2110
    (if sub = 1 then rx r else if sub = 2 then ry r else if sub = 3 then portMask r
     else if sub = 4 then (if rx r < 4 then r + 4 else r - 4) else if sub = 5 then (if ry r < 3 then r + 24 else r - 24)
     else routerNi r (sub - 6))
  else if sub = 5 then (d.router (idx - 0x2140)).stopped
  else (d.router (idx - 0x2140)).counts.get 0 sub

/-- Shadow words of a clock domain (R238). -/
def shadowWords (k : Nat) : Nat :=
  if k = 1 then 512 else if k = 2 then 16 else if k = 3 then 128 else if k = 4 then 64 else if k < 9 then 48
  else if k < 0x21 then 16 else if k < 0x29 then 32 else 64

/-- Objects of 0x2400 to 0x25FF (R104, R222, R244). -/
def livePeriph (d : Dev) (idx sub : Nat) : Nat :=
  if idx = 0x2400 then (if sub = 1 then b2n d.matrix.remap else b2n d.dbgLocked)
  else if idx = 0x2430 then d.bridge.counts.get 0 sub
  else if idx = 0x2432 then (if sub = 1 then d.bridge.errAddr else if sub = 2 then d.bridge.errSrc else d.bridge.errResp)
  else if idx = 0x24E1 then
    let x := d.ddr
    let p := x.members.length
    (if sub = 1 then x.set else if sub = 2 then p else if sub = 3 then x.smallest else if sub = 4 then p * x.smallest * gib
     else if sub = 5 then x.members.foldl (fun a c => a + (x.caps.get 0 c - x.smallest)) 0 else x.failed)
  else
    let x := d.dom sub
    (if idx = 0x2500 then shadowWords sub
     else if idx = 0x2501 then
       b2n x.running + 2 * b2n x.locked + 4 * b2n (x.running && d.crossingHeld sub) + 8 * b2n x.powerOff + 16 * b2n x.capturing
     else if idx = 0x2502 then (if x.running then x.freq else 0)
     else if idx = 0x2503 then x.losses else if idx = 0x2504 then x.restarts else min x.longest 0xFFFF)

/-- Objects of 0x2600 to 0x27FF (R273, R307). -/
def livePartitions (d : Dev) (idx sub : Nat) : Nat :=
  if idx = 0x2601 then
    let r := d.resets
    (if sub = 1 then r.kind else if sub = 2 then r.chipSource else if sub = 3 then r.linkLossResets else r.chipResets)
  else if idx = 0x2603 then d.resets.linkLoss
  else if idx < 0x2620 then
    let x := d.part (idx - 0x2610)
    (if sub = 2 then x.state else if sub = 3 then x.drainTimeouts else if sub = 4 then x.fenceTime else x.cycles)
  else if idx < 0x2700 then (if sub = 2 then (d.pd (idx - 0x2630)).state else (d.pd (idx - 0x2630)).powerUps)
  else if idx = 0x2748 then d.host.bellCounts.get 0 sub
  else
    let n := idx - 0x2740
    (if sub = 1 then (d.queues.q.filter fun e => seOf e.1 == n && !e.2.admin).length
     else if sub = 2 then ((d.eng n).cmds.filter fun k => k.st != .fetched).length
     else (d.eng n).counts.get 0 sub)

/-- Objects of 0x2800 to 0x28FF and 0x3000 to 0x3FFF (R343). -/
def liveHost (d : Dev) (idx sub : Nat) : Nat :=
  let h := d.host
  if idx = 0x2800 then (if linkDown d then 0 else if sub = 3 then h.linkRate else h.linkWidth)
  else if idx = 0x2805 then (if sub = 2 then h.aperture else d.slotSize / 1024)
  else if idx = 0x2806 then h.admissions.length
  else if idx = 0x2810 then Config.pcieId sub
  else if idx < 0x2850 then h.counts.get 0 (8 * (idx - 0x2840) + sub)
  else if idx = 0x2850 then (if sub = 1 then h.placed else h.dropped)
  else if idx = 0x2851 then h.lastDrop.get 0 sub
  else h.regionDrops.get 0 (idx - 0x3000)

/-- Objects of 0x2A00 to 0x2CFF (R374, R406, R426). -/
def livePorts (d : Dev) (idx sub : Nat) : Nat :=
  if idx < 0x2A40 then
    let x := d.lane (idx - 0x2A00)
    (if sub = 6 then x.state else if sub = 7 then x.crc else if sub = 8 then x.badSync else if sub = 9 then x.losses
     else if sub = 0xA then x.arrival else x.cause)
  else if idx < 0x2B00 then
    let x := d.link (idx - 0x2A40)
    (if sub = 9 then embOf (d.cfg.nat idx 8) else if sub = 0x11 then x.rx else if sub = 0x12 then x.tx
     else x.counts.get 0 sub)
  else if idx < 0x2C00 then
    let p := idx - 0x2B60
    (if sub = 1 then (d.eport p).link
     else if sub = 0xF ∨ sub = 0x10 then Config.ethLatency (d.portObj p 2) (sub - 0xF)
     else (d.eport p).counts.get 0 sub)
  else
    let n := idx - 0x2C20
    (if sub = 1 then opState d n
     else if sub = 2 then ((d.op n).run.map (·.job.part)).getD 0xFF
     else (d.op n).counts.get 0 sub)

/-- Bits of a set of numbers. -/
def maskOf (n : Nat) (p : Nat → Bool) : Nat := (List.range n).foldl (fun a i => a + (if p i then 2 ^ i else 0)) 0

/-- NIs out of step now, 0x2D50:02. -/
def outOfStepNow (d : Dev) : Nat := ((List.range 67).filter fun n => (d.ni n).outOfStep).length

/-- Objects of 0x2D00 to 0x2DFF (R459). -/
def liveTiming (d : Dev) (idx sub : Nat) : Nat :=
  let t := d.timing
  if idx = 0x2D02 then
    (if sub = 1 then t.selected else if sub = 2 then t.state
     else if sub = 3 then maskOf 6 fun i => (t.reference i).qualified
     else if sub = 4 then maskOf 6 fun i => (t.reference i).present
     else if sub = 5 then waitLeft d.tcfg t else if sub = 6 then t.switches else t.holdovers)
  else if idx = 0x2D03 then encInt 32 (if sub = 7 then t.ocxoOffset else (t.reference (sub - 1)).offset)
  else if idx = 0x2D04 then (t.reference (sub - 1)).progress
  else if idx = 0x2D10 then
    (if sub = 3 then t.valid else if sub = 6 then t.steps else if sub = 7 then encInt 64 t.lastStep else encInt 32 t.backlog)
  else if idx = 0x2D12 then (if sub = 7 then t.ptpState else if sub = 8 then encInt 64 t.ptpOffset else t.ptpDelay)
  else if idx = 0x2D20 then utcNow d
  else if idx < 0x2D40 then (d.line (idx - 0x2D30)).counts.get 0 sub
  else if idx < 0x2D50 then encInt 64 (anchorOffset (t.out (idx - 0x2D40)))
  else if idx = 0x2D50 then
    (if sub = 2 then outOfStepNow d else if sub = 3 then t.reloads else encInt 16 t.largest)
  else (if sub = 5 then t.role else if sub = 6 then t.leader else if sub = 7 then t.elections else t.losses)

/-- Inhibit state, 0x2E30:02, and byte 0 of TPDO 4. -/
def inhibitState (d : Dev) : Nat :=
  let x := d.inhibit
  b2n x.aLevel + 2 * b2n x.bLevel + 4 * b2n x.active + 8 * b2n (decide (0 < x.count) && !x.latched) + 16 * b2n x.latched

/-- Injection state, 0x2E10:02. -/
def injectionState (d : Dev) : Nat := d.faults.inj.state + 2 ^ 8 * d.faults.inj.src + 2 ^ 16 * d.faults.inj.inst

/-- State of a fault source, 0x4000 + s:0A. -/
def sourceFlags (d : Dev) (s : Nat) : Nat :=
  let x := d.source s
  b2n x.severe + 2 * b2n x.faultN + 4 * b2n x.pre.isSome + 8 * b2n x.windowOpen + 16 * b2n (d.armedSrc s)

/-- The lowest severe source; 0xFFFF none. -/
def lowestSevere (d : Dev) : Nat := (severeSources d).headD 0xFFFF

/-- Objects of 0x2E00 to 0x2EFF and 0x4000 to 0x40FF (R489). -/
def liveFaults (d : Dev) (idx sub : Nat) : Nat :=
  let f := d.faults
  if idx = 0x2E01 then (if sub = 1 then b2n (faultNLow d) else b2n f.resetFlag)
  else if idx = 0x2E02 then
    (if sub = 1 then (severeSources d).length else if sub = 2 then lowestSevere d else if sub = 3 then f.first
     else if sub = 5 then f.nmis else if sub = 6 then f.skipped else f.registered)
  else if idx = 0x2E10 then injectionState d
  else if idx = 0x2E30 then
    (if sub = 2 then inhibitState d else if sub = 4 then d.inhibit.activations
     else if sub = 5 then min d.inhibit.count 0xFFFF else d.inhibit.longest)
  else if idx = 0x2E40 then d.monitors.temp.get 0 (sub - 1)
  else
    let s := idx - 0x4000
    (if sub = 8 then (d.source s).total else if sub = 9 then (d.source s).count else sourceFlags d s)

/-- Objects of 0x2F00 to 0x2FFF (R510). -/
def liveProbes (d : Dev) (idx sub : Nat) : Nat :=
  if idx < 0x2F10 then (if sub = 3 then (d.fifo (idx - 0x2F08)).recs.length else (d.fifo (idx - 0x2F08)).lost)
  else
    let x := d.probe (idx - 0x2F20)
    (if sub = 2 then x.state + 4 * b2n x.valid else if sub = 3 then x.packets else if sub = 4 then x.flits
     else if sub = 5 then x.records else if sub = 6 then x.lost else if sub = 7 then x.last else x.peak)

/-- The present value of a numeric status object. -/
def liveNumber (d : Dev) (idx sub : Nat) : Nat :=
  if idx < 0x2000 then liveNode d idx sub
  else if idx < 0x2100 then liveStore d idx sub
  else if idx < 0x2300 then liveMesh d idx sub
  else if idx < 0x2600 then livePeriph d idx sub
  else if idx < 0x2800 then livePartitions d idx sub
  else if idx < 0x2900 then liveHost d idx sub
  else if idx < 0x2D00 then livePorts d idx sub
  else if idx < 0x2E00 then liveTiming d idx sub
  else if idx < 0x2F00 then liveFaults d idx sub
  else if idx < 0x3000 then liveProbes d idx sub
  else if idx < 0x4000 then liveHost d idx sub
  else liveFaults d idx sub

/-- Whether a row's value is computed by the machine: every `ro` object, and the constants without a fixed default. -/
def ObjRow.isLive (r : ObjRow) : Bool := r.acc == .ro || (r.acc == .cst && r.dflt == .live)

/-- The bytes that a read of an instance finds (R35): the active value of a stored object, else its present value.
Bit 0 of 0x2600:04 reads 1 (R251). -/
def objectBytes (d : Dev) (r : ObjRow) (idx sub : Nat) : Bytes :=
  if r.isLive then
    match r.ty.len with
    | some n => leBytes n (liveNumber d idx sub)
    | none => liveString d idx sub
  else if r.cls = .v then r.default 0 idx sub
  else
    let b := d.cfg.bytesAt d.can.nodeId idx sub
    if idx = 0x2600 ∧ sub = 4 then leBytes 2 (Nat.lor b.toNat 1) else b

end Sys2Proof.Machine
end

