-- ==== Sys2Proof/Machine/Access.lean ====
section
/-! DEFINITION. Access to the object dictionary (spec/02, spec/03): the class I actions, the checks of a frame, store
transactions and their serializer, the SPI port, SAVE, image loads and the function mailboxes. -/
namespace Sys2Proof.Machine

/-! Codes. -/

/-- Abort code of a detail code (R59, R67 and the detail tables of the chapters). -/
def abortOf (e : Nat) : Nat :=
  if e = 0x04 then 0x06020000
  else if e = 0x05 then 0x06090011
  else if [0x06, 0x61, 0x81, 0x93].contains e then 0x06090030
  else if e = 0x07 then 0x06070010
  else if e = 0x08 then 0x06010002
  else if e = 0x09 then 0x06010001
  else if [0x0A, 0x0B, 0x23, 0x26].contains e then 0x06010000
  else if e = 0x10 ∨ e = 0x11 then 0x05040005
  else if e = 0x51 then 0x05040000
  else if e = 0x52 then 0x05040001
  else if e = 0x53 then 0x08000000
  else if [0x31, 0x32, 0x33, 0x40, 0x41, 0x42, 0x43, 0x55, 0x94, 0x95, 0x96, 0x98].contains e then 0x08000020
  else if e = 0 then 0
  else 0x08000022

/-- The signature of SAVE and STORE_ALL, "save". -/
def saveKey : Nat := 0x65766173

/-- The signature of RESTORE, "load". -/
def loadKey : Nat := 0x64616F6C

/-! Class I actions (R34). -/

/-- An action that a signature protects (0x0609_0030 otherwise). -/
def signed (v : Nat) (f : Dev → Dev) (d : Dev) : Action := if v = clearKey then (f d, 0) else (d, 0x06)

/-- A write of 0x2D11:01 (R442, R459). -/
def setTimeAct (path : Nat) (b : Bytes) (d : Dev) : Action :=
  if 1000000000 ≤ b.le 6 4 ∨ b.le 10 2 ≠ 0 then (d, 0x06)
  else if timeWriteRefused d path then (d, 0x70)
  else (setTime (b.le 0 6) (b.le 6 4) d, 0)

/-- A write of 0x2D11:02 (R442, R444). -/
def adjustTimeAct (path : Nat) (x : Int) (d : Dev) : Action :=
  if timeWriteRefused d path then (d, 0x70) else (adjust x d, 0)

/-- A write of 0x2D20:02 (R442, R448). -/
def setUtcAct (path v : Nat) (d : Dev) : Action :=
  if calendarOk v = false then (d, 0x06)
  else if timeWriteRefused d path then (d, 0x70)
  else (setTime (calendarTai d.tcfg v) 0 d, 0)

/-- A write of 0x2F20 + j:01 (R507). -/
def probeCommand (j v : Nat) (d : Dev) : Action :=
  if v = 1 then (probeArm j d, 0) else if v = 2 then (probeStop j d, 0) else if v = 3 then (probeClear j d, 0) else (d, 0x06)

/-- The class I objects whose action is the chapter's own: all but SAVE, load, COMMIT, REVERT and DISCARD. -/
def objAction (path idx sub : Nat) (bs : Bytes) (d : Dev) : Action :=
  let v := bs.toNat
  if idx = 0x1F50 then dataAct path bs d
  else if idx = 0x1F51 then updateCommand path v d
  else if idx = 0x2181 then signed v clearLinkErrors d
  else if idx = 0x2431 then signed v clearBridge d
  else if idx = 0x2506 then signed v clearCrossings d
  else if idx = 0x2602 then unitReset (sub - 1) v d
  else if 0x2610 ≤ idx ∧ idx ≤ 0x261F then lockCommand (idx - 0x2610) v d
  else if 0x2630 ≤ idx ∧ idx ≤ 0x263B then pdCommand (idx - 0x2630) v d
  else if idx = 0x2750 then signed v clearQueueCounts d
  else if idx = 0x2806 then signed v clearAllAdmissions d
  else if idx = 0x2860 then signed v clearHostCounts d
  else if idx = 0x2A80 then signed v (clearConvCounts (pathPart path)) d
  else if idx = 0x2B70 then signed v clearEthCounts d
  else if idx = 0x2C30 then signed v clearOpCounts d
  else if idx = 0x2D11 then (if sub = 1 then setTimeAct path bs d else adjustTimeAct path bs.toInt d)
  else if idx = 0x2D20 then setUtcAct path v d
  else if 0x2D40 ≤ idx ∧ idx ≤ 0x2D45 then signed v (reanchor (idx - 0x2D40)) d
  else if idx = 0x2D70 then signed v clearTiming d
  else if idx = 0x2E01 then clearFaultN v d
  else if idx = 0x2E03 then clearAllSources v d
  else if idx = 0x2E10 then (if sub = 1 then fieldInjection v d else cancelInjection d)
  else if idx = 0x2E11 then factoryInjection v d
  else if idx = 0x2E30 then acknowledgeDiscrepancy v d
  else if 0x2F20 ≤ idx ∧ idx ≤ 0x2F2F then probeCommand (idx - 0x2F20) v d
  else clearSource (idx - 0x4000) v d

/-- A run-time image load is asked for: 0 newest valid, 1 slot A, 2 slot B (R55, R60). -/
def loadStart (path key slot : Nat) (d : Dev) : Outcome :=
  let i := if slot = 0 then newestSlot d else if (d.image (slot - 1)).isSome then some (slot - 1) else none
  match i with
  | none => { dev := d, detail := 0x33, key := key }
  | some i => { dev := d.onStore fun st => { st with loads := st.loads ++ [{ slot := i, path := path, key := key }] } }

/-- Expected version of a write of 0x2008:01 or :02. -/
def expectedOf (v : Nat) : Option Nat := if v = 0 then none else some v

/-- A class I write acts (R34, R59, R60, R86). -/
def actOn (path idx sub : Nat) (bs : Bytes) (d : Dev) : Outcome :=
  let v := bs.toNat
  let key := okey idx sub
  if idx = 0x1010 then (if v = saveKey then saveStart path key d else { dev := d, detail := 0x55, key := key })
  else if idx = 0x1011 then (if v = loadKey then loadStart path key 0 d else { dev := d, detail := 0x55, key := key })
  else if idx = 0x2008 then
    (if path = 0 then { dev := d, detail := 0x28, key := key }
     else if sub = 1 then commitPath path (expectedOf v) d
     else if sub = 2 then revertPath path (expectedOf v) d
     else if sub = 3 then { dev := discardPath path d }
     else if sub = 4 then (if v = saveKey then saveStart path key d else { dev := d, detail := 0x06, key := key })
     else loadStart path key v d)
  else
    let a := objAction path idx sub bs d
    { dev := a.1, detail := a.2, key := if a.2 = 0 then 0 else key }

/-! Frames (R56, R57). -/

/-- Whether a length field is one that the opcode allows. -/
def lenAllowed (op n : Nat) : Bool :=
  if op = 1 ∨ op = 2 then decide (1 ≤ n ∧ n ≤ 256)
  else if op = 3 ∨ op = 4 then n == 0 || n == 4
  else n == 0

/-- STAT of the frame checks of R57, 0 where they pass. -/
def frameStat (f : Frame) : Nat :=
  if f.op = 0 ∨ 7 < f.op then 3 else if lenAllowed f.op f.len = false then 4 else if f.crcOk = false then 2 else 0

/-- Detail code of a failed frame check. -/
def statDetail (s : Nat) : Nat := if s = 3 then 0x03 else if s = 4 then 0x02 else if s = 2 then 0x01 else 0

/-- The object that a frame names in 0x2001. -/
def frameKey (f : Frame) : Nat := if f.op = 1 ∨ f.op = 2 then okey f.idx f.sub else 0

/-- What safe-harbour mode accepts (R525). -/
def safeHarbourTakes (f : Frame) : Bool :=
  if f.op = 1 then
    [0x1000, 0x1001, 0x1008, 0x1009, 0x100A, 0x1018, 0x2601].contains f.idx
      || decide ((0x1F50 ≤ f.idx ∧ f.idx ≤ 0x1F57) ∨ (0x2000 ≤ f.idx ∧ f.idx ≤ 0x2005))
  else if f.op = 2 then f.sub == 1 && (f.idx == 0x1F50 || f.idx == 0x1F51)
  else f.op == 6

/-- Whether an index exists at all. -/
def indexExists (idx : Nat) : Bool := (List.range 256).any fun s => (objRow idx s).isSome

/-- The detail of a missing object (R64). -/
def missingDetail (idx : Nat) : Nat := if indexExists idx then 0x05 else 0x04

/-- Whether partition `k` may read an instance (R70). -/
def mayRead (d : Dev) (path : Nat) (r : ObjRow) (idx sub : Nat) : Bool :=
  let k := pathPart path
  let own := ownerOf d.cfg idx sub
  k == 0
    || (if idx = 0x2001 ∨ idx = 0x2005 then sub == path + 1
        else if idx < 0x2000 then false
        else own == k || (own == 0 && (r.acc == .cst || r.cls == .v)))

/-- Whether a path may write an instance (R70, R59). -/
def mayWrite (d : Dev) (path idx sub : Nat) : Bool :=
  pathPart path == 0 || idx == 0x2008 || ownerOf d.cfg idx sub == pathPart path

/-- What a store transaction answers: the device, the detail with the object named, the data read, and whether the
request ends only later (R50, R55). -/
structure Reply where
  /-- The device. -/
  dev : Dev
  /-- STAT. -/
  stat : Nat := 0
  /-- Detail. -/
  detail : Nat := 0
  /-- Object named in 0x2001. -/
  key : Nat := 0
  /-- Data of the response. -/
  data : Bytes := []
  /-- The answer waits for SAVE or an image load. -/
  later : Bool := false

/-- A refusal. -/
def Reply.refuse (d : Dev) (e key : Nat) : Reply := { dev := d, stat := 1, detail := e, key := key }

/-- The reply of an outcome. -/
def Outcome.reply (o : Outcome) : Reply := { dev := o.dev, stat := if o.detail = 0 then 0 else 1, detail := o.detail, key := o.key }

/-- READ (R35, R66, R70): existence, write-only, length, then ownership; the spec does not order the last three (DESIGN CHOICE, log
entry 72). -/
def readObj (path : Nat) (f : Frame) (d : Dev) : Reply :=
  let key := okey f.idx f.sub
  match objRow f.idx f.sub with
  | none => Reply.refuse d (missingDetail f.idx) key
  | some r =>
    if r.acc = .wo then Reply.refuse d 0x09 key
    else if r.ty.len.isSome = true ∧ r.ty.len ≠ some f.len then Reply.refuse d 0x07 key
    else if mayRead d path r f.idx f.sub = false then Reply.refuse d 0x0B key
    else
      let b := (objectBytes d r f.idx f.sub).take f.len
      { dev := d, data := if path = 0 then padTo f.len b else b }

/-- The value that staging keeps: bit 0 of 0x2600:04 ignores writes (R251). -/
def stagedValue (idx sub : Nat) (b : Bytes) : Bytes := if idx = 0x2600 ∧ sub = 4 then leBytes 2 (Nat.lor b.toNat 1) else b

/-- The requests that end later on a path other than 0 (R50, R55). -/
def endsLater (path idx sub : Nat) : Bool :=
  path != 0 && (idx == 0x1010 || idx == 0x1011 || (idx == 0x2008 && (sub == 4 || sub == 5)))

/-- WRITE_STAGE (R33, R34, R60, R70): existence, access, length, value range, ownership, then staging or the action. -/
def writeObj (path : Nat) (f : Frame) (d : Dev) : Reply :=
  let key := okey f.idx f.sub
  let b := padTo f.len f.data
  match objRow f.idx f.sub with
  | none => Reply.refuse d (missingDetail f.idx) key
  | some r =>
    let e := valueDetail f.idx r b
    if r.cls = .v ∨ r.acc = .cst ∨ r.acc = .ro then Reply.refuse d 0x08 key
    else if e ≠ 0 then Reply.refuse d e key
    else if r.cls = .i then
      let o := actOn path f.idx f.sub b d
      if mayWrite d path f.idx f.sub = false then Reply.refuse d (if o.detail = 0x06 then 0x06 else 0x0A) key
      else { o.reply with later := o.detail == 0 && endsLater path f.idx f.sub }
    else if mayWrite d path f.idx f.sub = false then Reply.refuse d 0x0A key
    else (stage path key (stagedValue f.idx f.sub b) d).reply

/-- STATUS data (R56). -/
def statusBytes (d : Dev) : Bytes :=
  let c := d.chamber 0
  beBytes 4 d.store.version ++ beBytes 2 c.length ++ beBytes 2 (chamberBytes c) ++ beBytes 2 d.store.journal.length
    ++ [byte (b2n d.store.valid + 2 * b2n d.store.save.isSome + 4 * b2n d.store.rolledNow), byte 0]
    ++ beBytes 4 (d.store.results.get 0 0)

/-- The expected version that a COMMIT or REVERT frame carries. -/
def frameVersion (f : Frame) : Option Nat := if f.len = 4 then some f.data.toNat else none

/-- A frame whose frame checks pass is carried out. -/
def perform (path : Nat) (f : Frame) (d : Dev) : Reply :=
  if d.boot.safeHarbour = true ∧ safeHarbourTakes f = false then Reply.refuse d 0x54 (frameKey f)
  else if f.op = 1 then readObj path f d
  else if f.op = 2 then writeObj path f d
  else if f.op = 3 then (commitPath path (frameVersion f) d).reply
  else if f.op = 4 then (revertPath path (frameVersion f) d).reply
  else if f.op = 5 then (saveStart path 0 d).reply
  else if f.op = 6 then { dev := d, data := statusBytes d }
  else { dev := discardPath path d }

/-- The response bytes before their CRC (R56). With STAT 0x02 to 0x04 the abort code bytes are 0: the spec gives them no value there
(DESIGN CHOICE, log entry 71). -/
def Reply.bytes (r : Reply) : Bytes := byte r.stat :: beBytes 4 (if r.stat = 1 then abortOf r.detail else 0) ++ r.data

/-- One whole store transaction of a path: rollback, frame checks, the operation, the result in 0x2001, the response, and SMP's
count of refused frames (R56 to R58, R237). -/
def transact (path : Nat) (f : Frame) (d : Dev) : Reply :=
  let d0 := rollBack d
  let s := frameStat f
  let r := if s = 0 then perform path f d0 else { dev := d0, stat := s, detail := statDetail s, key := frameKey f }
  { r with dev := r.dev.onStore fun st => { st with
      results := st.results.set path (if r.detail = 0 then 0 else 256 * r.key + r.detail)
      responses := st.responses.set path r.bytes
      refused := if r.stat = 0 then st.refused else inc32 st.refused } }

/-! The answers of the mailboxes and the CAN node. -/

/-- The abort code that a mailbox or the CAN node reports; a length field that the frame cannot carry is a wrong length. -/
def Reply.abort (r : Reply) : Nat := if r.stat = 0 then 0 else if r.stat = 4 then 0x06070010 else abortOf r.detail

/-- Largest value that a USDO carries in one frame. -/
def usdoExpedited : Nat := 56

/-- The CAN node takes the outcome of its frame: a long value is held for its segments (R82). -/
def usdoOutcome (r : Reply) (d : Dev) : Dev :=
  match d.can.usdo with
  | none => d
  | some u =>
    if u.busy = false then d
    else if u.write = false ∧ usdoExpedited < r.data.length then
      if canServes d then
        (canSend (0x580 + d.can.nodeId) (leBytes 4 0 ++ leBytes 4 r.data.length) d).onCan fun c => { c with
          usdo := some { u with busy := false, data := r.data, total := r.data.length, seqNo := 0 } }
      else usdoAnswer 0 [] d
    else usdoAnswer r.abort (if r.stat = 0 then r.data else []) d

/-- A request of a path that ends later has ended, with its detail and the abort code of it (R50, R54, R55, R76). -/
def answerLater (path key detail abort : Nat) (d : Dev) : Dev :=
  let d1 := if path = 0 ∨ detail = 0 then d
    else d.onStore fun st => { st with results := st.results.set path (256 * key + detail) }
  if 16 ≤ path then
    let x := d1.boxes.get {} (path - 16)
    if x.active = true ∧ x.key = key then mailboxEnd (path - 16) (if detail = 0 then 0 else 1) abort [] d1 else d1
  else if path = 2 then
    match d1.can.usdo with
    | some u => if u.busy = true ∧ u.key = key then usdoAnswer abort [] d1 else d1
    | none => d1
  else d1

/-! The serializer (R30, R31, R72). -/

/-- Whether the lockkeeper serves a path now: its firmware all of them, safe-harbour mode paths 2 and 16 (R30, R525). -/
def pathServed (d : Dev) (path : Nat) : Bool :=
  path == 0 || d.boot.firmware || (d.boot.safeHarbour && (path == 2 || path == 16))

/-- A frame of a path other than 0 has the store: it is carried whole, and its mailbox or CAN session answered (R76,
R82). -/
def runPath (path : Nat) (f : Frame) (d : Dev) : Dev :=
  let box := d.boxes.get {} (path - 16)
  let asked := decide (16 ≤ path) && box.pending
  let d0 := if asked then
      d.onBoxes fun t => t.set (path - 16) { box with pending := false, active := true }
    else d
  let r := transact path f d0
  if asked then
    if r.later then r.dev
    else if r.dev.boxes.has (path - 16) then mailboxEnd (path - 16) r.stat (if r.stat = 1 then abortOf r.detail else 0) r.data r.dev
    else r.dev
  else if path = 2 then (if r.later then r.dev else usdoOutcome r r.dev)
  else r.dev

/-- A frame is presented on a path other than 0 and waits for the store; the firmware presents its own frames on path 1 one after
another, and a path that waits already presents no other (R30). -/
def presentFrame (path : Nat) (f : Frame) (d : Dev) : Dev :=
  if path = 1 then fwFrame f d
  else if d.store.waiting.has path then d
  else d.onStore fun st => { st with waiting := st.waiting.set path f }

/-- A frame of path 0: the port must hold the store, and one transaction is made per MGMT_CS_N period (R31, R56). -/
def presentSpi (f : Frame) (d : Dev) : Dev :=
  if d.store.spi.granted = true ∧ d.store.spi.served = false then
    (transact 0 f d).dev.onStore fun st => { st with spi := { st.spi with served := true } }
  else d

/-- A frame arrives on an access path. -/
def frameIn (path : Nat) (f : Frame) (d : Dev) : Dev :=
  if path = 0 then presentSpi f d else if pathServed d path then presentFrame path f d else d

/-- The SPI port takes the store and MGMT_MISO goes high (R31). -/
def grantSpi (d : Dev) : Dev :=
  d.onStore fun st => { st with owner := some 0, spiPending := false, spi := { st.spi with granted := true, served := false } }

/-- The highest-ranked path other than 0 that is pending, with its frame (R30). -/
def nextPath (d : Dev) : Option (Nat × Frame) := List.find? (fun (e : Nat × Frame) => pathServed d e.1) d.store.waiting

/-- A path is pending no more; the firmware presents the next frame of its own (R30). -/
def takeFrame (path : Nat) (d : Dev) : Dev :=
  d.onStore fun st =>
    match path == 1, st.own with
    | true, g :: rest => { st with waiting := Tbl.set st.waiting 1 g, own := rest }
    | _, _ => { st with waiting := Tbl.erase st.waiting path }

/-- STORE_GRANT: at a transaction boundary the highest-ranked pending path has the store (R30, R72). -/
def storeGrant (d : Dev) : Dev :=
  if d.store.owner.isSome then d
  else if d.store.spiPending then grantSpi d
  else
    match nextPath d with
    | some e => runPath e.1 e.2 (takeFrame e.1 d)
    | none => d

/-- MGMT_CS_N_FALL: path 0 is pending until it is granted the store (R30, R31, R32). -/
def mgmtCsNFall (d : Dev) : Dev :=
  if d.store.spi.csLow then d
  else d.onStore fun st => { st with spiPending := true, spi := { csLow := true } }

/-- Tail edges of a frame of a path (R56). -/
def tailEdges (path : Nat) (d : Dev) (f : Frame) : Nat :=
  if f.op = 3 then 16 + 2 * (d.chamber path).length else if f.op = 4 then 16 + 2 * d.store.journal.length else 8

/-- A transaction of `path` is cut off (R58): its first two edges roll back what another left; one that had all its tail edges is
complete, and a COMMIT or REVERT that would have flipped and was past tail edge 1 leaves its new journal behind. -/
def cutFrame (path : Nat) (f : Frame) (edges : Nat) (whole : Dev → Dev) (d : Dev) : Dev :=
  if tailEdges path d f ≤ edges then whole d
  else
    let d1 := rollBack d
    let flips := (perform path f d1).dev.store.epoch != d1.store.epoch && (f.op == 3 || f.op == 4) && frameStat f == 0
    if 1 < edges ∧ flips = true then d1.onStore fun st => { st with cut := some path } else d1

/-- The transaction in progress on path 0 is cut off (R58). -/
def cutSpi (cut : SpiCut) (d : Dev) : Dev :=
  if d.store.spi.granted = false ∨ d.store.spi.served = true then d
  else
    match cut with
    | .idle => d
    | .inFrame => rollBack d
    | .inTail f edges => cutFrame 0 f edges (presentSpi f) d

/-- The lockkeeper is reset while the towpath may carry the frame of the highest-ranked path, which counts as MGMT_CS_N rising
(R58, R88); `cut` says how far it had come. -/
def cutTowpath (cut : SpiCut) (d : Dev) : Dev :=
  if spiFirst d then d
  else
    match nextPath d, cut with
    | some _, .inFrame => rollBack d
    | some e, .inTail _ edges => cutFrame e.1 e.2 edges (fun x => runPath e.1 e.2 (takeFrame e.1 x)) d
    | _, _ => d

/-- A reset of the device cuts off the transaction that has the store, as MGMT_CS_N rising does (R58). -/
def cutStore (cut : SpiCut) (d : Dev) : Dev := if d.store.owner = some 0 then cutSpi cut d else cutTowpath cut d

/-- Whether an effect is or starts a chip reset: one that is counts. -/
def chipResets (f : Dev → Dev) (d : Dev) : Bool := (f (d.onResets fun r => { r with chipResets := 0 })).resets.chipResets != 0

/-- An effect that may be or start a chip reset: where it is, it cuts off the transaction that has the store. -/
def cutIfReset (cut : SpiCut) (f : Dev → Dev) (d : Dev) : Dev := if chipResets f d then f (cutStore cut d) else f d

/-- MGMT_CS_N_RISE (R58). -/
def mgmtCsNRise (cut : SpiCut) (d : Dev) : Dev :=
  let held := d.store.spi.granted
  (cutSpi cut d).onStore fun st => { st with
    spi := {}, spiPending := false, owner := if held then none else st.owner }

/-- SPI_IDLE_TIMEOUT (R32). -/
def spiIdleTimeout (cut : SpiCut) (d : Dev) : Dev :=
  if d.store.spi.granted = false then d
  else
    ((cutSpi cut d).onStore fun st => { st with
      spi := { csLow := true, ignoring := true }, spiPending := false, owner := none }).raise 0xE8

/-! SAVE (R48 to R50). -/

/-- SAVE ends with a detail. -/
def endSave (j : SaveJob) (state detail : Nat) (d : Dev) : Dev :=
  let d1 := d.onStore fun st => { st with save := none, saveState := state }
  answerLater j.path j.key detail (abortOf detail) (if detail = 0 then d1 else d1.raise 0xE6 j.target)

/-- SAVE_COMPLETE: the second version read of an attempt; a stable snapshot is programmed (R48, R49, R53). -/
def saveComplete (d : Dev) : Dev :=
  match d.store.save with
  | none => d
  | some j =>
    if d.boot.firmware = false then d
    else if d.store.version = j.startVersion then
      let image := imageBytes (schemaRange d).2 j.seq j.startVersion j.snapshot
      endSave j 2 0 ((d.onFlash fun f => { f with config := f.config.set j.target image }).onStore fun st => { st with
        lastSaved := j.startVersion })
    else if 4 ≤ j.attempts + 1 then endSave j 3 0x32 d
    else d.onStore fun st => { st with
      save := some { j with attempts := j.attempts + 1, startVersion := st.version, snapshot := st.active } }

/-- SAVE_FLASH_ERROR: the firmware erases the first sector of the target slot (R50). -/
def saveFlashError (d : Dev) : Dev :=
  match d.store.save with
  | none => d
  | some j =>
    if d.boot.firmware then endSave j 3 0x31 (d.onFlash fun f => { f with config := f.config.erase j.target }) else d

/-! Image loads (R53 to R55, R524). -/

/-- Whether every partition but 0 and every power domain stands fenced (R524). -/
def allFenced (d : Dev) : Bool :=
  ((span 1 16).all fun p => d.partFenced p) && (List.range 12).all fun k => d.pdFenced k

/-- IMAGE_LOAD_COMMIT: the oldest image load asked for is committed in one store transaction of path 1, or rejected; the path that
asked is answered 0x0800_0020 (R54). -/
def imageLoadCommit (d : Dev) : Dev :=
  match d.store.loads with
  | [] => d
  | j :: rest =>
    if d.boot.firmware = false ∨ spiFirst d = true ∨ (2 ≤ j.slot ∧ allFenced d = false) then d
    else
      let d1 := rollBack (d.onStore fun st => { st with loads := rest })
      let o := if 2 ≤ j.slot then loadDefaults false false d1 else loadSlotNow j.slot 3 false false d1
      let d2 := o.dev.onStore fun st => { st with
        results := st.results.set 1 (if o.detail = 0 then 0 else 256 * o.key + o.detail) }
      if j.path = 1 then d2 else answerLater j.path j.key o.detail (if o.detail = 0 then 0 else 0x08000020) d2

/-! Function mailboxes (R75 to R78). -/

/-- The frame that the firmware carries for a write: one of 0x2008:01 to :03 is the frame of that name (R76, R82). -/
def carried (f : Frame) : Frame :=
  if f.op = 2 ∧ f.idx = 0x2008 ∧ f.len = 4 ∧ 1 ≤ f.sub ∧ f.sub ≤ 3 then
    let n := if f.sub = 3 ∨ f.data.toNat = 0 then 0 else 4
    { op := if f.sub = 3 then 7 else f.sub + 2, idx := 0, sub := 0, len := n, data := f.data.take n, crcOk := true }
  else f

/-- The frame that the firmware carries for a mailbox's request area. -/
def boxFrame (x : Mailbox) : Frame :=
  let op := x.req0 % 256
  carried { op := if op = 1 ∨ op = 2 then op else 0xFF, idx := x.req0 / 65536, sub := x.req0 / 256 % 256, len := x.reqLen
            data := if op = 2 then padTo x.reqLen x.reqData else [], crcOk := true }

/-- CANCEL (R77): a request still PENDING is withdrawn; `quiet` where a GO follows in the same write. -/
def cancelBox (f : Nat) (quiet : Bool) (d : Dev) : Dev :=
  let x := d.boxes.get {} f
  if x.pending then
    let d1 := (d.onBoxes fun t => t.set f { x with pending := false, cancelled := true, rseq := x.seq }).onStore fun st => { st with
      waiting := st.waiting.erase (16 + f) }
    if x.ie = true ∧ quiet = false then msix (hpOf f) f x.vector false d1 (box := true) else d1
  else d

/-- GO (R76, R77). -/
def goBox (f seqNo : Nat) (d : Dev) : Dev :=
  let x := d.boxes.get {} f
  if x.pending = true ∨ x.active = true then d.onBoxes fun t => t.set f { x with overrun := true }
  else
    let y := { x with
      pending := true, done := false, cancelled := false, overrun := false, seq := seqNo
      key := okey (x.req0 / 65536) (x.req0 / 256 % 256) }
    (d.onBoxes fun t => t.set f y).onStore fun st => { st with waiting := st.waiting.set (16 + f) (boxFrame x) }

/-- A write of MB_CTRL: CANCEL, then GO (R77). -/
def writeMbCtrl (f v : Nat) (d : Dev) : Dev :=
  let active := (d.boxes.get {} f).active
  let d1 := if bitOf v 9 = true ∧ active = false then cancelBox f (bitOf v 8) d else d
  if bitOf v 8 then goBox f (v % 256) d1 else d1

/-- Whether the mailbox of function `f` takes a write (R75, R89). -/
def boxOpen (d : Dev) (f : Nat) : Bool := d.door f 0 == .serve

/-- MB_GO: a write of MB_CTRL with GO set. -/
def mbGo (f v : Nat) (d : Dev) : Dev := if boxOpen d f = true ∧ bitOf v 8 = true then writeMbCtrl f v d else d

/-- MB_CANCEL: a write of MB_CTRL with CANCEL set. -/
def mbCancel (f v : Nat) (d : Dev) : Dev := if boxOpen d f = true ∧ bitOf v 9 = true then writeMbCtrl f v d else d

/-- One 32-bit word of a mailbox is written (R75). -/
def boxWord (f o w : Nat) (d : Dev) : Dev :=
  if o = 0 then writeMbCtrl f w d
  else if o = 8 then
    d.onBoxes fun t => t.modify {} f fun x => { x with ie := bitOf w 0, vector := if f = 0 then bitsOf w 26 16 else bitsOf w 23 16 }
  else if o = 0x100 then d.onBoxes fun t => t.modify {} f fun x => { x with req0 := w }
  else if o = 0x104 then d.onBoxes fun t => t.modify {} f fun x => { x with reqLen := w % 65536 }
  else if 0x108 ≤ o ∧ o < 0x208 then
    d.onBoxes fun t => t.modify {} f fun x => { x with
      reqData := let b := padTo 256 x.reqData; b.take (o - 0x108) ++ leBytes 4 w ++ b.drop (o - 0x108 + 4) }
  else d

/-! Registers (R102, R321). -/

/-- The 32-bit words of an aligned register write: offset and value. -/
def words (o : Nat) : Bytes → List (Nat × Nat)
  | a :: b :: c :: e :: t => (o, Bytes.toNat [a, b, c, e]) :: words (o + 4) t
  | _ => []

/-- The word that a mailbox register holds (R75). -/
def boxReadWord (x : Mailbox) (o : Nat) : Nat :=
  if o = 4 then b2n x.pending + 2 * b2n x.active + 4 * b2n x.done + 8 * b2n x.cancelled + 16 * b2n x.overrun + 256 * x.rseq
  else if o = 8 then b2n x.ie + 65536 * x.vector
  else if o = 0x100 then x.req0
  else if o = 0x104 then x.reqLen
  else if 0x108 ≤ o ∧ o < 0x208 then x.reqData.le (o - 0x108) 4
  else if o = 0x300 then x.stat
  else if o = 0x304 then x.abort
  else if o = 0x308 then x.rlen
  else if 0x310 ≤ o ∧ o < 0x410 then x.rspData.le (o - 0x310) 4
  else 0

/-- The word at an offset of BAR0 of function `f`, for requester `rid` (R321, R288, R333). -/
def bar0Word (d : Dev) (f rid o : Nat) : Nat :=
  let x := d.fn f
  if o = 0x100000 then f + 16 * (d.part f).state + 256 * hpOf f
  else if o = 0x100008 then x.window % 2 ^ 32
  else if o = 0x10000C then x.window / 2 ^ 32
  else if o = 0x100010 then x.refused
  else if o = 0x100018 then x.refusedAddr % 2 ^ 32
  else if o = 0x10001C then x.refusedAddr / 2 ^ 32
  else if o = 0x100020 then d.domVersion 4
  else if 0x1000000 ≤ o ∧ o < 0x1008000 then msixReadWord d f (o - 0x1000000)
  else if 0x1080000 ≤ o ∧ o < 0x1080100 then pbaWord d f (o - 0x1080000)
  else if 0x1E00000 ≤ o ∧ o < 0x1E00008 ∧ f = 0 ∧ d.boot.safeHarbour = false then
    admissionStatus d rid / 2 ^ (8 * (o - 0x1E00000)) % 2 ^ 32
  else if 0x1F00000 ≤ o ∧ o < 0x1F01000 then boxReadWord (d.boxes.get {} f) (o - 0x1F00000)
  else 0

/-- The data of a BAR0 read; another size or alignment reads 0 (R321). -/
def bar0Data (d : Dev) (f rid o len : Nat) : Bytes :=
  if regAligned o len then leBytes len (bar0Word d f rid o + 2 ^ 32 * (if len = 8 then bar0Word d f rid (o + 4) else 0))
  else List.replicate len (byte 0)

/-- A BAR0 read of function `f` from requester `rid` is completed (R321, R89). The table has no row for it. -/
def bar0Read (f rid o len : Nat) (d : Dev) : Dev :=
  match d.door f 0 with
  | .absent => d
  | .closed => completeUr f d
  | .serve => completeRead 0 false (bar0Data d f rid o len) d

/-- The doorbells that one write carries, one per aligned 8 bytes that it touches, and whether every byte of it is enabled
(R288). -/
def doorbellWords (o : Nat) (data : Bytes) : List (Nat × Bool) :=
  (List.range ((o + data.length + 7) / 8 - o / 8)).map fun i =>
    let lo := 8 * (o / 8 + i)
    let pre := o - lo
    (((data.slice (lo - o) (8 - pre)).toNat) * 256 ^ pre, pre == 0 && decide (lo + 8 ≤ o + data.length))

/-- A BAR0 write of function `f` from requester `rid` (R321, R75, R89, R322, R332, R340). -/
def bar0Write (f rid o : Nat) (data : Bytes) (poisoned : Bool) (d : Dev) : Dev :=
  if d.door f 0 ≠ .serve then d
  else if poisoned then d.raise 0x8D (hpOf f) f
  else if o < 0x10000 then Dev.fold (doorbellWords o data) (fun w e => doorbell f w.1 w.2 false e) d
  else if regAligned o data.length = false then d
  else if o = 0x100008 ∨ o = 0x10000C then windowBaseWrite f data false d
  else if o = 0x100030 then pcClr f data.toNat false d
  else if 0x1000000 ≤ o ∧ o < 0x1008000 then
    sendPending f (Dev.fold (words (o - 0x1000000) data) (fun w e => msixWriteWord f w.1 w.2 e) d)
  else if 0x1E00000 ≤ o ∧ o < 0x1E00008 ∧ f = 0 then portDoor rid (o - 0x1E00000) data false d
  else if 0x1F00000 ≤ o ∧ o < 0x1F01000 then
    Dev.fold (words (o - 0x1F00000) data) (fun w e => boxWord f w.1 w.2 e) d
  else d

/-- Whether configuration space answers (R521, R89). -/
def configOpen (d : Dev) (f : Nat) : Bool := (d.boot.ended || d.boot.safeHarbour) && d.fnExists f && !(d.fn f).flr

/-- REGISTER_WRITE: a write of a register takes effect, or is discarded for its size or alignment (R102, R321). -/
def registerWrite (door : RegDoor) (posted : Bool) (o : Nat) (data : Bytes) (d : Dev) : Dev :=
  match door with
  | .ni n =>
    if 0x10000 ≤ o then d
    else if regAligned o data.length then niRegWrite n o data.toNat d
    else if posted then discardAt n 0x54 0xFF d
    else d
  | .unit n =>
    if 0x100000 ≤ o ∨ n = 65 ∨ regAligned o data.length = true then d
    else if posted then discardAt n 0x54 0xFF d
    else d
  | .bar0 f rid poisoned => bar0Write f rid o data poisoned d
  | .command f => if configOpen d f then sendPending f (d.upFn f fun x => { x with bme := bitOf data.toNat 2 }) else d
  | .msixControl f =>
    if configOpen d f then
      sendPending f (d.upFn f fun x => { x with msixEnable := bitOf data.toNat 15, mask := bitOf data.toNat 14 })
    else d

/-! Frames of the rows. -/

/-- A frame of an opcode without index and data. -/
def plainFrame (op len : Nat) (crcOk : Bool) : Frame := { op := op, idx := 0, sub := 0, len := len, data := [], crcOk := crcOk }

/-- READ. -/
def read (path idx sub len : Nat) (crcOk : Bool) (d : Dev) : Dev :=
  frameIn path { op := 1, idx := idx, sub := sub, len := len, data := [], crcOk := crcOk } d

/-- WRITE_STAGE. -/
def writeStage (path idx sub len : Nat) (data : Bytes) (crcOk : Bool) (d : Dev) : Dev :=
  frameIn path { op := 2, idx := idx, sub := sub, len := len, data := data, crcOk := crcOk } d

/-- A write of an object by its own row: a whole, correct frame. -/
def writeRow (path idx sub : Nat) (data : Bytes) (d : Dev) : Dev := writeStage path idx sub data.length data true d

/-- COMMIT. -/
def commit (path len expected : Nat) (crcOk : Bool) (d : Dev) : Dev :=
  frameIn path { op := 3, idx := 0, sub := 0, len := len, data := leBytes 4 expected, crcOk := crcOk } d

/-- REVERT. -/
def revert (path len expected : Nat) (crcOk : Bool) (d : Dev) : Dev :=
  frameIn path { op := 4, idx := 0, sub := 0, len := len, data := leBytes 4 expected, crcOk := crcOk } d

/-- DISCARD. -/
def discard (path len : Nat) (crcOk : Bool) (d : Dev) : Dev := frameIn path (plainFrame 7 len crcOk) d

/-- STATUS. -/
def status (path len : Nat) (crcOk : Bool) (d : Dev) : Dev := frameIn path (plainFrame 6 len crcOk) d

/-- SAVE. -/
def save (path len : Nat) (crcOk : Bool) (d : Dev) : Dev := frameIn path (plainFrame 5 len crcOk) d

/-- UNKNOWN_OPCODE_FRAME. -/
def unknownOpcodeFrame (path op : Nat) (d : Dev) : Dev := frameIn path (plainFrame op 0 true) d

/-- LOAD_SLOT: a write of 0x2008:05 (R55). -/
def loadSlot (path slot : Nat) (d : Dev) : Dev := writeRow path 0x2008 5 (leBytes 1 slot) d

/-- STORE_ALL: a write of 0x1010:01 (R86). -/
def storeAll (path value : Nat) (d : Dev) : Dev := writeRow path 0x1010 1 (leBytes 4 value) d

/-- RESTORE: a write of 0x1011:01 (R55, R86). -/
def restore (path value : Nat) (d : Dev) : Dev := writeRow path 0x1011 1 (leBytes 4 value) d

/-! Meanings. -/

/-- MGMT_CS_N_FALL: MGMT_CS_N falls and makes SPI path 0 pending at the towpath serializer within 3 PCLK (R30). -/
def execMgmtCsNFall (s : State) : Host.Outcome State Fault Refusal :=
  act wfMgmtCsNFall mgmtCsNFall s

/-- MGMT_CS_N_RISE: MGMT_CS_N rises and cuts off the SPI transaction; the outcome follows the interruption table (R58). -/
def execMgmtCsNRise (cut : SpiCut) (s : State) : Host.Outcome State Fault Refusal :=
  act (wfMgmtCsNRise cut) (mgmtCsNRise cut) s

/-- STORE_GRANT: The serializer grants the store to the highest-ranked pending path at a transaction boundary (R30). -/
def execStoreGrant (s : State) : Host.Outcome State Fault Refusal :=
  act wfStoreGrant storeGrant s

/-- SPI_IDLE_TIMEOUT: The SPI idle timeout expires while MGMT_CS_N is low; the port is released and fault 0xE8 counts an event (R32). -/
def execSpiIdleTimeout (cut : SpiCut) (s : State) : Host.Outcome State Fault Refusal :=
  act (wfSpiIdleTimeout cut) (spiIdleTimeout cut) s

/-- READ: A READ frame returns the active value of an object instance after the access checks (R35). -/
def execRead (path : Nat) (idx : Nat) (sub : Nat) (len : Nat) (crcOk : Bool) (s : State) : Host.Outcome State Fault Refusal :=
  act (wfRead path idx sub len crcOk) (read path idx sub len crcOk) s

/-- WRITE_STAGE: A WRITE_STAGE frame stages an S or F value into the writer's chamber, or performs a class I action at tail edge 8 (R33). -/
def execWriteStage (path : Nat) (idx : Nat) (sub : Nat) (len : Nat) (data : Bytes) (crcOk : Bool) (s : State) : Host.Outcome State Fault Refusal :=
  act (wfWriteStage path idx sub len data crcOk) (writeStage path idx sub len data crcOk) s

/-- COMMIT: COMMIT checks and applies the path's chamber as one atomic change ending in the epoch flip (R38). -/
def execCommit (path : Nat) (len : Nat) (expected : Nat) (crcOk : Bool) (s : State) : Host.Outcome State Fault Refusal :=
  act (wfCommit path len expected crcOk) (commit path len expected crcOk) s

/-- REVERT: REVERT applies the committed journal as a new commit, swapping the prior and active cells (R42). -/
def execRevert (path : Nat) (len : Nat) (expected : Nat) (crcOk : Bool) (s : State) : Host.Outcome State Fault Refusal :=
  act (wfRevert path len expected crcOk) (revert path len expected crcOk) s

/-- DISCARD: DISCARD empties the issuing path's staging chamber at tail edge 8 (R36). -/
def execDiscard (path : Nat) (len : Nat) (crcOk : Bool) (s : State) : Host.Outcome State Fault Refusal :=
  act (wfDiscard path len crcOk) (discard path len crcOk) s

/-- STATUS: STATUS returns the version, the chamber and journal counts, the flags and the previous result of path 0 (R56). -/
def execStatus (path : Nat) (len : Nat) (crcOk : Bool) (s : State) : Host.Outcome State Fault Refusal :=
  act (wfStatus path len crcOk) (status path len crcOk) s

/-- SAVE: A SAVE request starts the firmware writing the active configuration into the target flash slot (R48). -/
def execSave (path : Nat) (len : Nat) (crcOk : Bool) (s : State) : Host.Outcome State Fault Refusal :=
  act (wfSave path len crcOk) (save path len crcOk) s

/-- SAVE_COMPLETE: The firmware finishes a consistent snapshot and programs the slot header, or fails after four attempts (R49). -/
def execSaveComplete (s : State) : Host.Outcome State Fault Refusal :=
  act wfSaveComplete saveComplete s

/-- SAVE_FLASH_ERROR: A flash error fails the SAVE, and the firmware erases the first sector of the target slot (R50). -/
def execSaveFlashError (s : State) : Host.Outcome State Fault Refusal :=
  act wfSaveFlashError saveFlashError s

/-- UNKNOWN_OPCODE_FRAME: A frame with an opcode outside 0x01-0x07 is answered STAT 0x03 after an 8-edge tail (R57). -/
def execUnknownOpcodeFrame (path : Nat) (op : Nat) (s : State) : Host.Outcome State Fault Refusal :=
  act (wfUnknownOpcodeFrame path op) (unknownOpcodeFrame path op) s

/-- LOAD_SLOT: A write of 0x2008:05 starts a run-time image load of a configuration slot (R55). -/
def execLoadSlot (path : Nat) (slot : Nat) (s : State) : Host.Outcome State Fault Refusal :=
  act (wfLoadSlot path slot) (loadSlot path slot) s

/-- STORE_ALL: A write of 0x1010:01 with the signature starts a SAVE; other values are refused (R86). -/
def execStoreAll (path : Nat) (value : Nat) (s : State) : Host.Outcome State Fault Refusal :=
  act (wfStoreAll path value) (storeAll path value) s

/-- RESTORE: A write of 0x1011:01 with the signature loads the newest valid configuration slot (R55). -/
def execRestore (path : Nat) (value : Nat) (s : State) : Host.Outcome State Fault Refusal :=
  act (wfRestore path value) (restore path value) s

/-- IMAGE_LOAD_COMMIT: The firmware commits a staged image load in one store transaction, or rejects the image under R54 (R53). -/
def execImageLoadCommit (s : State) : Host.Outcome State Fault Refusal :=
  act wfImageLoadCommit imageLoadCommit s

/-- MB_GO: A write of MB_CTRL with GO submits the mailbox request area, or sets OVERRUN while a request is outstanding (R76). -/
def execMbGo (f : Nat) (value : Nat) (s : State) : Host.Outcome State Fault Refusal :=
  act (wfMbGo f value) (mbGo f value) s

/-- MB_CANCEL: A write of MB_CTRL with CANCEL withdraws a PENDING mailbox request (R77). -/
def execMbCancel (f : Nat) (value : Nat) (s : State) : Host.Outcome State Fault Refusal :=
  act (wfMbCancel f value) (mbCancel f value) s

/-- REGISTER_WRITE: A write to a register without behaviour of its own takes effect, or is refused for size or alignment (R102). -/
def execRegisterWrite (door : RegDoor) (posted : Bool) (offset : Nat) (data : Bytes) (s : State) : Host.Outcome State Fault Refusal :=
  act (wfRegisterWrite door posted offset data) (registerWrite door posted offset data) s

end Sys2Proof.Machine
end

