-- ==== Sys2Proof/Machine/CanNode.lean ====
section
/-! DEFINITION. The CANopen FD node (R79 to R84, R91): network management, heartbeats, the USDO server, EMCY and
TPDOs. -/
namespace Sys2Proof.Machine

/-- Whether an NMT command addresses the node: node-ID 0 addresses all. -/
def nmtMine (d : Dev) (node : Nat) : Bool := canRuns d && (node == 0 || node == d.can.nodeId)

/-- An NMT command that changes the state. -/
def nmtTo (target : Nmt) (node : Nat) (d : Dev) : Dev := if nmtMine d node then d.onCan fun c => { c with nmt := target } else d

/-- NMT_START (R80). -/
def nmtStart (node : Nat) (d : Dev) : Dev := nmtTo .operational node d

/-- NMT_STOP (R80). -/
def nmtStop (node : Nat) (d : Dev) : Dev := nmtTo .stopped node d

/-- NMT_ENTER_PRE_OPERATIONAL (R80). -/
def nmtEnterPreOperational (node : Nat) (d : Dev) : Dev := nmtTo .preOperational node d

/-- The chamber of path 2 is emptied and its frame that waits is lost. -/
def emptyPath2 (d : Dev) : Dev :=
  d.onStore fun st => { st with chambers := st.chambers.erase 2, waiting := st.waiting.erase 2 }

/-- NMT_RESET_COMMUNICATION: the controller starts again with the node-ID and bit rate now active (R80, R566). -/
def nmtResetCommunication (node : Nat) (d : Dev) : Dev := if nmtMine d node then canStart (emptyPath2 d) else d

/-- NMT_RESET_APPLICATION: the node's objects follow the active configuration anyway; the node starts with the node-ID
and bit rate it had (R80). -/
def nmtResetApplication (node : Nat) (d : Dev) : Dev :=
  if nmtMine d node then
    let id := d.can.nodeId
    let rate := d.can.dataRate
    canBeat 0 ((canStart (emptyPath2 d)).onCan fun c => { c with nodeId := id, dataRate := rate })
  else d

/-- The state a heartbeat reports: 4 Stopped, 5 Operational, 127 Pre-operational. -/
def Nmt.heartbeat : Nmt → Nat
  | .initialising => 0
  | .preOperational => 127
  | .operational => 5
  | .stopped => 4

/-- HEARTBEAT_PRODUCE: the producer time of 0x1017 has passed (R79). -/
def heartbeatProduce (d : Dev) : Dev :=
  if canRuns d = true ∧ d.cfg.nat 0x1017 0 ≠ 0 then canBeat d.can.nmt.heartbeat d else d

/-! USDO (R82). -/

/-- A result in 0x2001 of path 2 that no frame gives. -/
def noteUsdo (key e : Nat) (d : Dev) : Dev :=
  d.onStore fun st => { st with results := st.results.set 2 (256 * key + e) }

/-- Bytes that a read asks for: the type's length, or as many as a string may have. -/
def readLength (key : Nat) : Nat :=
  match objRow (key / 256) (key % 256) with
  | some r => (r.ty.len).getD 256
  | none => 1

/-- The node presents the frame of its session on path 2 (R79). -/
def usdoPresent (u : Usdo) (d : Dev) : Dev :=
  let n := if u.write then u.data.length else readLength u.key
  let f := carried {
    op := if u.write then 2 else 1, idx := u.key / 256, sub := u.key % 256, len := n
    data := if u.write then u.data else [], crcOk := true }
  (d.onCan fun c => { c with usdo := some { u with busy := true } }).onStore fun st => { st with waiting := st.waiting.set 2 f }

/-- USDO_INITIATE: a session opens, or is refused while one is open (R82). `total` and `data` are the bytes announced and
the first of them, of a write. -/
def usdoInitiate (write : Bool) (idx sub total : Nat) (data : Bytes) (d : Dev) : Dev :=
  let key := okey idx sub
  if canServes d = false then d
  else if d.can.usdo.isSome then
    noteUsdo key 0x50 (canSend (0x580 + d.can.nodeId) (leBytes 4 (abortOf 0x50)) d)
  else
    let u : Usdo := { write := write, key := key, total := total, data := if write then data else [], seqNo := 0 }
    if write = false ∨ total ≤ data.length then usdoPresent u d
    else (canSend (0x580 + d.can.nodeId) (leBytes 4 0) d).onCan fun c => { c with usdo := some u }

/-- A session ends with an abort that the node decides (R82). -/
def usdoAbort (u : Usdo) (e : Nat) (d : Dev) : Dev := noteUsdo u.key e (usdoAnswer (abortOf e) [] d)

/-- Bytes that a USDO segment carries at most. -/
def segmentBytes : Nat := 60

/-- USDO_SEGMENT: the next segment of a write arrives, or the client asks for the next of a read (R82). -/
def usdoSegment (seqNo : Nat) (data : Bytes) (last : Bool) (d : Dev) : Dev :=
  match d.can.usdo with
  | none => d
  | some u =>
    if canServes d = false ∨ u.busy = true then d
    else if seqNo ≠ u.seqNo then usdoAbort u 0x52 d
    else if u.write then
      let v := { u with data := u.data ++ data, seqNo := (u.seqNo + 1) % 256 }
      if last = true ∨ u.total ≤ v.data.length then
        if v.data.length = u.total then usdoPresent v d else usdoAbort u 0x52 d
      else (canSend (0x580 + d.can.nodeId) (leBytes 4 0) d).onCan fun c => { c with usdo := some v }
    else
      let rest := u.data.drop segmentBytes
      (canSend (0x580 + d.can.nodeId) (leBytes 4 0 ++ u.data.take segmentBytes) d).onCan fun c => { c with
        usdo := if rest.isEmpty then none else some { u with data := rest, seqNo := (u.seqNo + 1) % 256 } }

/-- USDO_TIMEOUT: no segment has come within 0x1FF0:04, and the session ends; its abort is sent where the node may send (R82,
R80). -/
def usdoTimeout (d : Dev) : Dev :=
  match d.can.usdo with
  | none => d
  | some u => if u.busy then d else usdoAbort u 0x51 d

/-! EMCY and TPDOs. -/

/-- A COB-ID object of the node: identifier, and whether bit 31 disables it (R79, R566). -/
def cobOf (d : Dev) (idx sub : Nat) : Nat × Bool :=
  let v := (d.cfg.bytesAt d.can.nodeId idx sub).toNat
  (v % 2 ^ 29, bitOf v 31)

/-- EMCY_TRANSMIT: the inhibit time has passed and the oldest EMCY is sent (R83); a disabled EMCY is not sent. -/
def emcyTransmit (d : Dev) : Dev :=
  match d.can.emcy with
  | [] => d
  | m :: rest =>
    let cob := cobOf d 0x1014 0
    if canServes d = false then d
    else if cob.2 then d.onCan fun c => { c with emcy := rest }
    else canSend cob.1 m (d.onCan fun c => { c with emcy := rest })

/-- Payload of TPDO `k + 1` (R79). -/
def tpdoPayload (d : Dev) (k : Nat) : Bytes :=
  if k = 0 then
    leBytes 2 (severeSources d).length ++ leBytes 2 (lowestSevere d)
      ++ [byte (b2n (faultNLow d) + 2 * b2n d.boot.safeHarbour)] ++ leBytes 3 0
  else if k = 1 then d.timeBytes.take 10 ++ leBytes 2 (d.cfg.nat 0x2D20 3)
  else if k = 2 then
    let t := d.timing
    [byte t.selected, byte (maskOf 6 fun i => (t.reference i).qualified), byte t.state,
      byte (b2n (d.dom 1).locked + 2 * b2n (d.dom 0x29).locked + 4 * b2n (t.role == 4))] ++ leBytes 4 0
  else byte (inhibitState d) :: leBytes 7 0

/-- TPDO_EVENT: the mapped state has changed, but for TPDO 2, or the event timer has run (R79, R83, R84); in safe-harbour mode
TPDO 1 only (R525). -/
def tpdoEvent (k : Nat) (d : Dev) : Dev :=
  let cob := cobOf d (0x1800 + k) 1
  let p := tpdoPayload d k
  let due := d.cfg.nat (0x1800 + k) 5 != 0 || (k != 1 && d.can.tpdo.find? k != some p)
  if canRuns d = false ∨ d.can.nmt ≠ .operational ∨ cob.2 = true ∨ due = false ∨ (d.boot.safeHarbour = true ∧ k ≠ 0) then d
  else canSend cob.1 p (d.onCan fun c => { c with tpdo := c.tpdo.set k p })

/-- CAN_BUS_OFF (R91). -/
def canBusOff (d : Dev) : Dev :=
  if canRuns d then (d.onCan fun c => { c with busOff := true, busOffs := inc32 c.busOffs }).raise 0xE9 else d

/-- CAN_BUS_OFF_RECOVERY: the node sends a boot-up message and goes on in its NMT state (R91). -/
def canBusOffRecovery (d : Dev) : Dev :=
  if d.can.busOff then canBeat 0 (d.onCan fun c => { c with busOff := false }) else d

/-! Meanings. -/

/-- NMT_START: The NMT start command moves the CAN node to Operational (R80). -/
def execNmtStart (node : Nat) (s : State) : Host.Outcome State Fault Refusal :=
  act (wfNmtStart node) (nmtStart node) s

/-- NMT_STOP: The NMT stop command moves the CAN node to Stopped (R80). -/
def execNmtStop (node : Nat) (s : State) : Host.Outcome State Fault Refusal :=
  act (wfNmtStop node) (nmtStop node) s

/-- NMT_ENTER_PRE_OPERATIONAL: The NMT command moves the CAN node to Pre-operational (R80). -/
def execNmtEnterPreOperational (node : Nat) (s : State) : Host.Outcome State Fault Refusal :=
  act (wfNmtEnterPreOperational node) (nmtEnterPreOperational node) s

/-- NMT_RESET_APPLICATION: The NMT reset application reloads the node objects and empties the chamber of path 2 (R80). -/
def execNmtResetApplication (node : Nat) (s : State) : Host.Outcome State Fault Refusal :=
  act (wfNmtResetApplication node) (nmtResetApplication node) s

/-- NMT_RESET_COMMUNICATION: The NMT reset communication re-initialises the CAN controller with the active node-ID and bit rate (R80). -/
def execNmtResetCommunication (node : Nat) (s : State) : Host.Outcome State Fault Refusal :=
  act (wfNmtResetCommunication node) (nmtResetCommunication node) s

/-- HEARTBEAT_PRODUCE: The heartbeat timer of 0x1017 expires and the node sends a heartbeat (R79). -/
def execHeartbeatProduce (s : State) : Host.Outcome State Fault Refusal :=
  act wfHeartbeatProduce heartbeatProduce s

/-- USDO_INITIATE: A USDO initiate opens a session, or is refused while a session is open (R82). -/
def execUsdoInitiate (write : Bool) (idx : Nat) (sub : Nat) (total : Nat) (data : Bytes) (s : State) : Host.Outcome State Fault Refusal :=
  act (wfUsdoInitiate write idx sub total data) (usdoInitiate write idx sub total data) s

/-- USDO_SEGMENT: A USDO segment of the open session is received and processed (R82). -/
def execUsdoSegment (seqNo : Nat) (data : Bytes) (last : Bool) (s : State) : Host.Outcome State Fault Refusal :=
  act (wfUsdoSegment seqNo data last) (usdoSegment seqNo data last) s

/-- USDO_TIMEOUT: No segment arrives within 0x1FF0:04 and the session is aborted with 0x0504_0000 (R82). -/
def execUsdoTimeout (s : State) : Host.Outcome State Fault Refusal :=
  act wfUsdoTimeout usdoTimeout s

/-- EMCY_TRANSMIT: A queued EMCY is sent once the inhibit time since the previous EMCY has passed (R83). -/
def execEmcyTransmit (s : State) : Host.Outcome State Fault Refusal :=
  act wfEmcyTransmit emcyTransmit s

/-- TPDO_EVENT: A change of the mapped state, or the TPDO event timer, sends a TPDO, subject to its inhibit time (R79). -/
def execTpdoEvent (k : Nat) (s : State) : Host.Outcome State Fault Refusal :=
  act (wfTpdoEvent k) (tpdoEvent k) s

/-- CAN_BUS_OFF: The CAN controller enters bus-off; the bus-off count and fault 0xE9 increment (R91). -/
def execCanBusOff (s : State) : Host.Outcome State Fault Refusal :=
  act wfCanBusOff canBusOff s

/-- CAN_BUS_OFF_RECOVERY: After 128 occurrences of 11 recessive bits the node recovers and sends a boot-up message (R91). -/
def execCanBusOffRecovery (s : State) : Host.Outcome State Fault Refusal :=
  act wfCanBusOffRecovery canBusOffRecovery s

end Sys2Proof.Machine
end

