-- ==== Sys2Proof/Machine/ObjectWrites.lean ====
section
/-! DEFINITION. The rows that are a write of one class I object on a path (R34), the PTP message that writes the UTC
offset, and the consumers of the message queues (R183). -/
namespace Sys2Proof.Machine

/-- CLEAR_CROSSING_RECORDS: 0x2506:01 (R244). -/
def clearCrossingRecordsRow (path value : Nat) (d : Dev) : Dev := writeRow path 0x2506 1 (leBytes 4 value) d

/-- PARTITION_FENCE: the lock command FENCE (R250). -/
def partitionFenceRow (path p : Nat) (d : Dev) : Dev := writeRow path (0x2610 + p) 1 [byte 1] d

/-- PARTITION_RESET: the lock command RESET (R250). -/
def partitionResetRow (path p : Nat) (d : Dev) : Dev := writeRow path (0x2610 + p) 1 [byte 2] d

/-- PARTITION_RELEASE: the lock command RELEASE (R250). -/
def partitionReleaseRow (path p : Nat) (d : Dev) : Dev := writeRow path (0x2610 + p) 1 [byte 3] d

/-- UNIT_RESET: 0x2602:(u + 1) (R261). -/
def unitResetRow (path u value : Nat) (d : Dev) : Dev := writeRow path 0x2602 (u + 1) [byte value] d

/-- PD_FENCE: the domain command FENCE (R265). -/
def pdFenceRow (path k : Nat) (d : Dev) : Dev := writeRow path (0x2630 + k) 1 [byte 1] d

/-- PD_OFF: the domain command OFF (R265). -/
def pdOffRow (path k : Nat) (d : Dev) : Dev := writeRow path (0x2630 + k) 1 [byte 2] d

/-- PD_ON: the domain command ON (R265). -/
def pdOnRow (path k : Nat) (d : Dev) : Dev := writeRow path (0x2630 + k) 1 [byte 3] d

/-- PD_RELEASE: the domain command RELEASE (R265). -/
def pdReleaseRow (path k : Nat) (d : Dev) : Dev := writeRow path (0x2630 + k) 1 [byte 4] d

/-- CLEAR_QUEUE_COUNTERS: 0x2750:01 (R307). -/
def clearQueueCountersRow (path value : Nat) (d : Dev) : Dev := writeRow path 0x2750 1 (leBytes 4 value) d

/-- CLEAR_ADMISSIONS: 0x2806:03 (R334, R343). -/
def clearAdmissionsRow (path value : Nat) (d : Dev) : Dev := writeRow path 0x2806 3 (leBytes 4 value) d

/-- CLEAR_HOST_COUNTERS: 0x2860:01 (R343). -/
def clearHostCountersRow (path value : Nat) (d : Dev) : Dev := writeRow path 0x2860 1 (leBytes 4 value) d

/-- CLEAR_CONVERTER_COUNTERS: 0x2A80:01 (R374). -/
def clearConverterCountersRow (path value : Nat) (d : Dev) : Dev := writeRow path 0x2A80 1 (leBytes 4 value) d

/-- CLEAR_ETHERNET_COUNTERS: 0x2B70:03 (R406). -/
def clearEthernetCountersRow (path value : Nat) (d : Dev) : Dev := writeRow path 0x2B70 3 (leBytes 4 value) d

/-- CLEAR_OPERATOR_COUNTERS: 0x2C30:01 (R426). -/
def clearOperatorCountersRow (path value : Nat) (d : Dev) : Dev := writeRow path 0x2C30 1 (leBytes 4 value) d

/-- SET_TIME: 0x2D11:01 (R442, R459). -/
def setTimeRow (path : Nat) (data : Bytes) (d : Dev) : Dev := writeRow path 0x2D11 1 data d

/-- ADJUST_TIME: 0x2D11:02 (R444). -/
def adjustTimeRow (path : Nat) (x : Int) (d : Dev) : Dev := writeRow path 0x2D11 2 (leBytes 8 (encInt 64 x)) d

/-- SET_UTC: 0x2D20:02 (R448). -/
def setUtcRow (path value : Nat) (d : Dev) : Dev := writeRow path 0x2D20 2 (leBytes 8 value) d

/-- SYSREF_REANCHOR: 0x2D40 + k:07 (R454). -/
def sysrefReanchorRow (path k value : Nat) (d : Dev) : Dev := writeRow path (0x2D40 + k) 7 (leBytes 4 value) d

/-- CLEAR_TIMING_COUNTERS: 0x2D70:01 (R459). -/
def clearTimingCountersRow (path value : Nat) (d : Dev) : Dev := writeRow path 0x2D70 1 (leBytes 4 value) d

/-- CLEAR_SOURCE: 0x4000 + s:0C (R474, R489). -/
def clearSourceRow (path src value : Nat) (d : Dev) : Dev := writeRow path (0x4000 + src) 0xC (leBytes 4 value) d

/-- CLEAR_ALL_SOURCES: 0x2E03:01 (R489). -/
def clearAllSourcesRow (path value : Nat) (d : Dev) : Dev := writeRow path 0x2E03 1 (leBytes 4 value) d

/-- CLEAR_FAULT_N: 0x2E01:02 (R481). -/
def clearFaultNRow (path value : Nat) (d : Dev) : Dev := writeRow path 0x2E01 2 (leBytes 4 value) d

/-- FIELD_INJECTION: 0x2E10:01 (R482). -/
def fieldInjectionRow (path value : Nat) (d : Dev) : Dev := writeRow path 0x2E10 1 (leBytes 4 value) d

/-- CANCEL_INJECTION: 0x2E10:03 (R484). -/
def cancelInjectionRow (path value : Nat) (d : Dev) : Dev := writeRow path 0x2E10 3 (leBytes 4 value) d

/-- FACTORY_INJECTION: 0x2E11:01 (R483). -/
def factoryInjectionRow (path value : Nat) (d : Dev) : Dev := writeRow path 0x2E11 1 (leBytes 4 value) d

/-- ACKNOWLEDGE_DISCREPANCY: 0x2E30:03 (R487). -/
def acknowledgeDiscrepancyRow (path value : Nat) (d : Dev) : Dev := writeRow path 0x2E30 3 (leBytes 4 value) d

/-- CLEAR_LINK_ERROR_RECORDS: 0x2181:01 (R133). -/
def clearLinkErrorRecordsRow (path value : Nat) (d : Dev) : Dev := writeRow path 0x2181 1 (leBytes 4 value) d

/-- CLEAR_BRIDGE_COUNTERS: 0x2431:01 (R222). -/
def clearBridgeCountersRow (path value : Nat) (d : Dev) : Dev := writeRow path 0x2431 1 (leBytes 4 value) d

/-- PROBE_ARM: the command ARM (R507). -/
def probeArmRow (path j : Nat) (d : Dev) : Dev := writeRow path (0x2F20 + j) 1 [byte 1] d

/-- PROBE_STOP: the command STOP (R507). -/
def probeStopRow (path j : Nat) (d : Dev) : Dev := writeRow path (0x2F20 + j) 1 [byte 2] d

/-- PROBE_CLEAR: the command CLEAR (R507). -/
def probeClearRow (path j : Nat) (d : Dev) : Dev := writeRow path (0x2F20 + j) 1 [byte 3] d

/-- OPEN (R527). -/
def openUpdateRow (path : Nat) (d : Dev) : Dev := writeRow path 0x1F51 1 [byte 1] d

/-- VERIFY (R527). -/
def verifyRow (path : Nat) (d : Dev) : Dev := writeRow path 0x1F51 1 [byte 2] d

/-- CANCEL (R527). -/
def cancelRow (path : Nat) (d : Dev) : Dev := writeRow path 0x1F51 1 [byte 3] d

/-- ACTIVATE (R527). -/
def activateRow (path : Nat) (d : Dev) : Dev := writeRow path 0x1F51 1 [byte 4] d

/-- ACTIVATE_FORCE (R527). -/
def activateForceRow (path : Nat) (d : Dev) : Dev := writeRow path 0x1F51 1 [byte 5] d

/-- ROLLBACK (R527). -/
def rollbackRow (path : Nat) (d : Dev) : Dev := writeRow path 0x1F51 1 [byte 6] d

/-- RESTART (R527). -/
def restartRow (path : Nat) (d : Dev) : Dev := writeRow path 0x1F51 1 [byte 7] d

/-- UPDATE_DATA: 0x1F50:01; `programmed` bytes of the receive buffer have been programmed since the last write (R527). -/
def updateDataRow (path : Nat) (data : Bytes) (programmed : Nat) (d : Dev) : Dev :=
  writeRow path 0x1F50 1 data (programSome programmed d)

/-- The firmware stages a value on path 1 and commits it. -/
def firmwareSets (idx sub : Nat) (b : Bytes) (d : Dev) : Dev :=
  if d.cfg.bytesAt d.can.nodeId idx sub = b then d else fwFrame (plainFrame 3 0 true) (fwWrite idx sub b d)

/-- PTP_MESSAGE: the firmware takes the oldest frame of the PTP port; while SLAVE it writes the UTC offset of the master's
Announce to 0x2D20:03 (R446). -/
def ptpMessage (state : Nat) (offset : Int) (delay : Nat) (adj : Int) (d : Dev) : Dev :=
  if d.boot.firmware then
    let r := ptpTake state offset delay adj d
    match r.2 with
    | some u => firmwareSets 0x2D20 3 (leBytes 2 u) r.1
    | none => r.1
  else d

/-- MQ_DEQUEUE: the unit of NI `n` removes the front message of queue `q`, and does what the message asks (R183, R292,
R299, R300, R302, R340, R366, R369, R404). `err` is what SECDED finds in the message store: an uncorrectable message is
discarded (R192). -/
def mqDequeue (n q : Nat) (err : MemErr) (d0 : Dev) : Dev :=
  match d0.mqFront n q with
  | none => d0
  | some m =>
    if d0.unitUp n = false then d0
    else if err = .uncorrectable then (mqTake n q d0).raise 0x45 n m.part
    else
      let d := d0.when (err == .corrected) (Dev.raise 0x44 n m.part)
      let k := niKind n
      let e :=
        if k = 1 then
          (if q = 0 then doorbellNotice (n - 24) .none d
           else if q = 1 then recordEndIn m (mqTake n 1 d)
           else if q = 2 then (if m.code = 0x0003 then flushAnswer (m.data.le 0 2) m.mstat (mqTake n 2 d) else d)
           else doneIn m (mqTake n 3 d))
        else if k = 3 then (if q = 0 then msixRequest n .none d else if q = 1 then flushHp n d else d)
        else if k = 0 then (if q = 0 then takeSlot n d else cpTrigger n d)
        else d
      if (e.ni n).mq.get [] q = (d.ni n).mq.get [] q then mqTake n q d else e

/-! Resets with the transaction that they cut off (R58). -/

/-- CHIP_RESET. -/
def chipResetRow (src : Nat) (cut : SpiCut) (d : Dev) : Dev := chipReset src (cutStore cut d)

/-- PERST_N_ASSERT. -/
def perstRow (cut : SpiCut) (d : Dev) : Dev := perstNAssert (cutStore cut d)

/-- RAIL_FALL. -/
def railFallRow (rail : Nat) (cut : SpiCut) (d : Dev) : Dev := railFall rail (cutStore cut d)

/-- LKC_RESTART. -/
def lkcRestartRow (cut : SpiCut) (d : Dev) : Dev := if inRom d then d else lkcRestart (cutTowpath cut d)

/-- RESTART_DELAY_EXPIRY: 100 ms after RESTART (R527). -/
def restartDelayExpiry (cut : SpiCut) (d : Dev) : Dev := if d.boot.restart then restartLkc (cutTowpath cut d) else d

/-! Meanings. -/

/-- CHIP_RESET: A chip reset resets units, fabric, lockkeeper and TTU while keeping the configuration (R260). -/
def execChipReset (src : Nat) (cut : SpiCut) (s : State) : Host.Outcome State Fault Refusal :=
  act (wfChipReset src cut) (chipResetRow src cut) s

/-- PERST_N_ASSERT: PERST_N is asserted and the device takes the PERST_N reset scope (R260). -/
def execPerstNAssert (cut : SpiCut) (s : State) : Host.Outcome State Fault Refusal :=
  actAlways (wfPerstNAssert cut) (perstRow cut) s

/-- RAIL_FALL: A rail falls below its power-good threshold; the I/O isolates and the PERST_N scope is taken (R538). -/
def execRailFall (rail : Nat) (cut : SpiCut) (s : State) : Host.Outcome State Fault Refusal :=
  actAlways (wfRailFall rail cut) (railFallRow rail cut) s

/-- LINK_LOSS_DEBOUNCE_EXPIRY: The debounce expires with the link down, and the link-loss reset, or the chip reset it is promoted to, starts (R263). -/
def execLinkLossDebounceExpiry (cut : SpiCut) (s : State) : Host.Outcome State Fault Refusal :=
  act (wfLinkLossDebounceExpiry cut) (cutIfReset cut linkLossDebounceExpiry) s

/-- HOT_RESET: A hot reset from upstream starts the link-loss reset, or the chip reset it is promoted to (R263). -/
def execHotReset (cut : SpiCut) (s : State) : Host.Outcome State Fault Refusal :=
  act (wfHotReset cut) (cutIfReset cut hotReset) s

/-- FAULT_EVENT_REGISTER: A source's event is registered at FCOL, counted against its window and its reactions are applied (R472). -/
def execFaultEventRegister (err : MemErr) (seen : List (Nat × Nat)) (cut : SpiCut) (s : State) : Host.Outcome State Fault Refusal :=
  act (wfFaultEventRegister err seen cut) (cutIfReset cut (faultEventRegister err seen)) s

/-- LKC_RESTART: LKC restarts by watchdog or RESTART and runs boot steps 2-8, ending mailbox and CAN requests in progress (R522). -/
def execLkcRestart (cut : SpiCut) (s : State) : Host.Outcome State Fault Refusal :=
  act (wfLkcRestart cut) (lkcRestartRow cut) s

/-- RESTART_DELAY_EXPIRY: 100 ms after RESTART, LKC restarts, or the boot ROM repeats slot selection in safe-harbour mode (R527). -/
def execRestartDelayExpiry (cut : SpiCut) (s : State) : Host.Outcome State Fault Refusal :=
  act (wfRestartDelayExpiry cut) (restartDelayExpiry cut) s

/-- CLEAR_CROSSING_RECORDS: A write of 0x2506:01 with the signature clears the clock-crossing records (R244). -/
def execClearCrossingRecords (path : Nat) (value : Nat) (s : State) : Host.Outcome State Fault Refusal :=
  act (wfClearCrossingRecords path value) (clearCrossingRecordsRow path value) s

/-- PARTITION_FENCE: The FENCE lock command starts steps 1-5 of the lock cycle of a partition (R252). -/
def execPartitionFence (path : Nat) (p : Nat) (s : State) : Host.Outcome State Fault Refusal :=
  act (wfPartitionFence path p) (partitionFenceRow path p) s

/-- PARTITION_RESET: The RESET lock command starts the lock cycle with a reset step, or repeats the reset step (R250). -/
def execPartitionReset (path : Nat) (p : Nat) (s : State) : Host.Outcome State Fault Refusal :=
  act (wfPartitionReset path p) (partitionResetRow path p) s

/-- PARTITION_RELEASE: The RELEASE lock command sets RELEASING and requests the clearing of the fence bit (R257). -/
def execPartitionRelease (path : Nat) (p : Nat) (s : State) : Host.Outcome State Fault Refusal :=
  act (wfPartitionRelease path p) (partitionReleaseRow path p) s

/-- UNIT_RESET: A write of 0x2602 holds a unit in reset for 64 cycles of its clock, or is refused for HP, BS and TTU units (R261). -/
def execUnitReset (path : Nat) (u : Nat) (value : Nat) (s : State) : Host.Outcome State Fault Refusal :=
  act (wfUnitReset path u value) (unitResetRow path u value) s

/-- PD_FENCE: The FENCE command of a power domain stops new work at its units and starts their drain (R266). -/
def execPdFence (path : Nat) (k : Nat) (s : State) : Host.Outcome State Fault Refusal :=
  act (wfPdFence path k) (pdFenceRow path k) s

/-- PD_OFF: The OFF command isolates the domain's units, holds them in reset and removes power (R266). -/
def execPdOff (path : Nat) (k : Nat) (s : State) : Host.Outcome State Fault Refusal :=
  act (wfPdOff path k) (pdOffRow path k) s

/-- PD_ON: The ON command applies power and moves the domain to POWERING (R267). -/
def execPdOn (path : Nat) (k : Nat) (s : State) : Host.Outcome State Fault Refusal :=
  act (wfPdOn path k) (pdOnRow path k) s

/-- PD_RELEASE: The RELEASE command of a power domain releases it under R257 (R266). -/
def execPdRelease (path : Nat) (k : Nat) (s : State) : Host.Outcome State Fault Refusal :=
  act (wfPdRelease path k) (pdReleaseRow path k) s

/-- CLEAR_QUEUE_COUNTERS: A write of 0x2750:01 with the signature clears the queue counters (R307). -/
def execClearQueueCounters (path : Nat) (value : Nat) (s : State) : Host.Outcome State Fault Refusal :=
  act (wfClearQueueCounters path value) (clearQueueCountersRow path value) s

/-- CLEAR_ADMISSIONS: A write of 0x2806:03 with the signature removes every admission (R334). -/
def execClearAdmissions (path : Nat) (value : Nat) (s : State) : Host.Outcome State Fault Refusal :=
  act (wfClearAdmissions path value) (clearAdmissionsRow path value) s

/-- CLEAR_HOST_COUNTERS: A write of 0x2860:01 with the signature clears the host counters (R343). -/
def execClearHostCounters (path : Nat) (value : Nat) (s : State) : Host.Outcome State Fault Refusal :=
  act (wfClearHostCounters path value) (clearHostCountersRow path value) s

/-- CLEAR_CONVERTER_COUNTERS: A write of 0x2A80:01 with the signature clears the writer's own lane and link counters (R374). -/
def execClearConverterCounters (path : Nat) (value : Nat) (s : State) : Host.Outcome State Fault Refusal :=
  act (wfClearConverterCounters path value) (clearConverterCountersRow path value) s

/-- CLEAR_ETHERNET_COUNTERS: A write of 0x2B70:03 with the signature clears the Ethernet counters (R406). -/
def execClearEthernetCounters (path : Nat) (value : Nat) (s : State) : Host.Outcome State Fault Refusal :=
  act (wfClearEthernetCounters path value) (clearEthernetCountersRow path value) s

/-- CLEAR_OPERATOR_COUNTERS: A write of 0x2C30:01 with the signature clears the operator counters (R426). -/
def execClearOperatorCounters (path : Nat) (value : Nat) (s : State) : Host.Outcome State Fault Refusal :=
  act (wfClearOperatorCounters path value) (clearOperatorCountersRow path value) s

/-- SET_TIME: A write of 0x2D11:01 loads chassis time into every replica as a step (R444). -/
def execSetTime (path : Nat) (data : Bytes) (s : State) : Host.Outcome State Fault Refusal :=
  act (wfSetTime path data) (setTimeRow path data) s

/-- ADJUST_TIME: A write of 0x2D11:02 adds to the slew backlog or steps the time (R444). -/
def execAdjustTime (path : Nat) (x : Int) (s : State) : Host.Outcome State Fault Refusal :=
  act (wfAdjustTime path x) (adjustTimeRow path x) s

/-- SET_UTC: A write of 0x2D20:02 converts a UTC calendar value and sets chassis time (R448). -/
def execSetUtc (path : Nat) (value : Nat) (s : State) : Host.Outcome State Fault Refusal :=
  act (wfSetUtc path value) (setUtcRow path value) s

/-- SYSREF_REANCHOR: A write of 0x2D40+k:07 re-anchors the SYSREF grid at the next whole second (R454). -/
def execSysrefReanchor (path : Nat) (k : Nat) (value : Nat) (s : State) : Host.Outcome State Fault Refusal :=
  act (wfSysrefReanchor path k value) (sysrefReanchorRow path k value) s

/-- CLEAR_TIMING_COUNTERS: A write of 0x2D70:01 with the signature clears the timing counters (R459). -/
def execClearTimingCounters (path : Nat) (value : Nat) (s : State) : Host.Outcome State Fault Refusal :=
  act (wfClearTimingCounters path value) (clearTimingCountersRow path value) s

/-- CLEAR_SOURCE: A write of 0x4000+s:0C clears a source's counts, record, severe state and FAULT_N latch (R474). -/
def execClearSource (path : Nat) (src : Nat) (value : Nat) (s : State) : Host.Outcome State Fault Refusal :=
  act (wfClearSource path src value) (clearSourceRow path src value) s

/-- CLEAR_ALL_SOURCES: A write of 0x2E03:01 clears every source and the global records (R474). -/
def execClearAllSources (path : Nat) (value : Nat) (s : State) : Host.Outcome State Fault Refusal :=
  act (wfClearAllSources path value) (clearAllSourcesRow path value) s

/-- CLEAR_FAULT_N: A write of 0x2E01:02 clears every FAULT_N latch and the reset flag (R481). -/
def execClearFaultN (path : Nat) (value : Nat) (s : State) : Host.Outcome State Fault Refusal :=
  act (wfClearFaultN path value) (clearFaultNRow path value) s

/-- FIELD_INJECTION: A write of 0x2E10:01 arms a field injection of a checker-based source (R482). -/
def execFieldInjection (path : Nat) (value : Nat) (s : State) : Host.Outcome State Fault Refusal :=
  act (wfFieldInjection path value) (fieldInjectionRow path value) s

/-- CANCEL_INJECTION: A write of 0x2E10:03 cancels the armed injection (R484). -/
def execCancelInjection (path : Nat) (value : Nat) (s : State) : Host.Outcome State Fault Refusal :=
  act (wfCancelInjection path value) (cancelInjectionRow path value) s

/-- FACTORY_INJECTION: A write of 0x2E11:01 in factory test mode raises one event of any source (R483). -/
def execFactoryInjection (path : Nat) (value : Nat) (s : State) : Host.Outcome State Fault Refusal :=
  act (wfFactoryInjection path value) (factoryInjectionRow path value) s

/-- ACKNOWLEDGE_DISCREPANCY: A write of 0x2E30:03 clears the latched discrepancy fault when both channels release (R487). -/
def execAcknowledgeDiscrepancy (path : Nat) (value : Nat) (s : State) : Host.Outcome State Fault Refusal :=
  act (wfAcknowledgeDiscrepancy path value) (acknowledgeDiscrepancyRow path value) s

/-- CLEAR_LINK_ERROR_RECORDS: A write of 0x2181:01 with the signature clears the link error counters and capture (R138). -/
def execClearLinkErrorRecords (path : Nat) (value : Nat) (s : State) : Host.Outcome State Fault Refusal :=
  act (wfClearLinkErrorRecords path value) (clearLinkErrorRecordsRow path value) s

/-- CLEAR_BRIDGE_COUNTERS: A write of 0x2431:01 with the signature clears the bridge counters and error record (R222). -/
def execClearBridgeCounters (path : Nat) (value : Nat) (s : State) : Host.Outcome State Fault Refusal :=
  act (wfClearBridgeCounters path value) (clearBridgeCountersRow path value) s

/-- PROBE_ARM: The probe command ARM moves a probe to ARMED, or with start mode 0 to RUNNING (R507). -/
def execProbeArm (path : Nat) (j : Nat) (s : State) : Host.Outcome State Fault Refusal :=
  act (wfProbeArm path j) (probeArmRow path j) s

/-- PROBE_STOP: The probe command STOP moves a probe to STOPPED (R507). -/
def execProbeStop (path : Nat) (j : Nat) (s : State) : Host.Outcome State Fault Refusal :=
  act (wfProbeStop path j) (probeStopRow path j) s

/-- PROBE_CLEAR: The probe command CLEAR zeroes a probe's counters and rate meter (R507). -/
def execProbeClear (path : Nat) (j : Nat) (s : State) : Host.Outcome State Fault Refusal :=
  act (wfProbeClear path j) (probeClearRow path j) s

/-- OPEN: The update command OPEN erases the target firmware slot for receiving (R527). -/
def execOpenUpdate (path : Nat) (s : State) : Host.Outcome State Fault Refusal :=
  act (wfOpenUpdate path) (openUpdateRow path) s

/-- VERIFY: The update command VERIFY programs the rest and checks the slot (R527). -/
def execVerify (path : Nat) (s : State) : Host.Outcome State Fault Refusal :=
  act (wfVerify path) (verifyRow path) s

/-- CANCEL: The update command CANCEL returns the update state to idle (R527). -/
def execCancel (path : Nat) (s : State) : Host.Outcome State Fault Refusal :=
  act (wfCancel path) (cancelRow path) s

/-- ACTIVATE: The update command ACTIVATE writes a trial into the boot record after the schema check (R527). -/
def execActivate (path : Nat) (s : State) : Host.Outcome State Fault Refusal :=
  act (wfActivate path) (activateRow path) s

/-- ACTIVATE_FORCE: The update command ACTIVATE_FORCE writes a trial without the schema check (R527). -/
def execActivateForce (path : Nat) (s : State) : Host.Outcome State Fault Refusal :=
  act (wfActivateForce path) (activateForceRow path) s

/-- ROLLBACK: The update command ROLLBACK pins the other candidate slot (R527). -/
def execRollback (path : Nat) (s : State) : Host.Outcome State Fault Refusal :=
  act (wfRollback path) (rollbackRow path) s

/-- RESTART: The update command RESTART schedules an LKC restart 100 ms later (R527). -/
def execRestart (path : Nat) (s : State) : Host.Outcome State Fault Refusal :=
  act (wfRestart path) (restartRow path) s

/-- UPDATE_DATA: A write of 0x1F50:01 appends image bytes to the target slot (R527). -/
def execUpdateData (path : Nat) (data : Bytes) (programmed : Nat) (s : State) : Host.Outcome State Fault Refusal :=
  act (wfUpdateData path data programmed) (updateDataRow path data programmed) s

/-- PTP_MESSAGE: The firmware processes a timestamped PTP message and runs its servo (R446). -/
def execPtpMessage (state : Nat) (offset : Int) (delay : Nat) (adj : Int) (s : State) : Host.Outcome State Fault Refusal :=
  act (wfPtpMessage state offset delay adj) (ptpMessage state offset delay adj) s

/-- MQ_DEQUEUE: The destination unit removes a message from a queue, and its credits become owed to the source (R183). -/
def execMqDequeue (n : Nat) (q : Nat) (err : MemErr) (s : State) : Host.Outcome State Fault Refusal :=
  act (wfMqDequeue n q err) (mqDequeue n q err) s

end Sys2Proof.Machine
end

