-- ==== Sys2Proof/Machine/Dispatch.lean ====
section
/-! DEFINITION. The meaning of each command: one arm per constructor of Instr. -/
namespace Sys2Proof.Machine

/-- The effect of a command on the device. -/
def exec (i : Instr) (s : State) : Host.Outcome State Fault Refusal :=
  match i with
  | .mgmtCsNFall => Sys2Proof.Machine.execMgmtCsNFall s
  | .mgmtCsNRise cut => Sys2Proof.Machine.execMgmtCsNRise cut s
  | .storeGrant => Sys2Proof.Machine.execStoreGrant s
  | .spiIdleTimeout cut => Sys2Proof.Machine.execSpiIdleTimeout cut s
  | .read path idx sub len crcOk => Sys2Proof.Machine.execRead path idx sub len crcOk s
  | .writeStage path idx sub len data crcOk => Sys2Proof.Machine.execWriteStage path idx sub len data crcOk s
  | .commit path len expected crcOk => Sys2Proof.Machine.execCommit path len expected crcOk s
  | .revert path len expected crcOk => Sys2Proof.Machine.execRevert path len expected crcOk s
  | .discard path len crcOk => Sys2Proof.Machine.execDiscard path len crcOk s
  | .status path len crcOk => Sys2Proof.Machine.execStatus path len crcOk s
  | .save path len crcOk => Sys2Proof.Machine.execSave path len crcOk s
  | .saveComplete => Sys2Proof.Machine.execSaveComplete s
  | .saveFlashError => Sys2Proof.Machine.execSaveFlashError s
  | .unknownOpcodeFrame path op => Sys2Proof.Machine.execUnknownOpcodeFrame path op s
  | .loadSlot path slot => Sys2Proof.Machine.execLoadSlot path slot s
  | .storeAll path value => Sys2Proof.Machine.execStoreAll path value s
  | .restore path value => Sys2Proof.Machine.execRestore path value s
  | .imageLoadCommit => Sys2Proof.Machine.execImageLoadCommit s
  | .domainCapture d elapsedNs restarts => Sys2Proof.Machine.execDomainCapture d elapsedNs restarts s
  | .captureTimeout d => Sys2Proof.Machine.execCaptureTimeout d s
  | .mbGo f value => Sys2Proof.Machine.execMbGo f value s
  | .mbCancel f value => Sys2Proof.Machine.execMbCancel f value s
  | .nmtStart node => Sys2Proof.Machine.execNmtStart node s
  | .nmtStop node => Sys2Proof.Machine.execNmtStop node s
  | .nmtEnterPreOperational node => Sys2Proof.Machine.execNmtEnterPreOperational node s
  | .nmtResetApplication node => Sys2Proof.Machine.execNmtResetApplication node s
  | .nmtResetCommunication node => Sys2Proof.Machine.execNmtResetCommunication node s
  | .heartbeatProduce => Sys2Proof.Machine.execHeartbeatProduce s
  | .usdoInitiate write idx sub total data => Sys2Proof.Machine.execUsdoInitiate write idx sub total data s
  | .usdoSegment seqNo data last => Sys2Proof.Machine.execUsdoSegment seqNo data last s
  | .usdoTimeout => Sys2Proof.Machine.execUsdoTimeout s
  | .emcyTransmit => Sys2Proof.Machine.execEmcyTransmit s
  | .tpdoEvent k => Sys2Proof.Machine.execTpdoEvent k s
  | .canBusOff => Sys2Proof.Machine.execCanBusOff s
  | .canBusOffRecovery => Sys2Proof.Machine.execCanBusOffRecovery s
  | .ageTick => Sys2Proof.Machine.execAgeTick s
  | .routerFlitArrival at_ err crcErr => Sys2Proof.Machine.execRouterFlitArrival at_ err crcErr s
  | .switchAllocation r => Sys2Proof.Machine.execSwitchAllocation r s
  | .expressSetupPhase r parityX parityY => Sys2Proof.Machine.execExpressSetupPhase r parityX parityY s
  | .creditReturn at_ err => Sys2Proof.Machine.execCreditReturn at_ err s
  | .niInject n err => Sys2Proof.Machine.execNiInject n err s
  | .weirToken n b => Sys2Proof.Machine.execWeirToken n b s
  | .unitPostedWrite n part cls addr data => Sys2Proof.Machine.execUnitPostedWrite n part cls addr data s
  | .combineTimeout n k => Sys2Proof.Machine.execCombineTimeout n k s
  | .unitNonpostedRequest n part ty cls addr size data => Sys2Proof.Machine.execUnitNonpostedRequest n part ty cls addr size data s
  | .unitMessage n timed part cls dest mq code data relS relNs => Sys2Proof.Machine.execUnitMessage n timed part cls dest mq code data relS relNs s
  | .fencedMessage n part cls dest mq code data => Sys2Proof.Machine.execFencedMessage n part cls dest mq code data s
  | .fencedMessageInject n => Sys2Proof.Machine.execFencedMessageInject n s
  | .targetRequest n vc err => Sys2Proof.Machine.execTargetRequest n vc err s
  | .targetPostedWrite n vc => Sys2Proof.Machine.execTargetPostedWrite n vc s
  | .fenceMarkAnswer n vc => Sys2Proof.Machine.execFenceMarkAnswer n vc s
  | .responseArrival n vc err => Sys2Proof.Machine.execResponseArrival n vc err s
  | .retryReissue n tag => Sys2Proof.Machine.execRetryReissue n tag s
  | .responseTimeout n tag => Sys2Proof.Machine.execResponseTimeout n tag s
  | .messageArrival n vc => Sys2Proof.Machine.execMessageArrival n vc s
  | .mqDequeue n q err => Sys2Proof.Machine.execMqDequeue n q err s
  | .creditReturnSend n src => Sys2Proof.Machine.execCreditReturnSend n src s
  | .creditReturnRepeat n src => Sys2Proof.Machine.execCreditReturnRepeat n src s
  | .creditReturnReceive n vc => Sys2Proof.Machine.execCreditReturnReceive n vc s
  | .timedMessageArrival n vc => Sys2Proof.Machine.execTimedMessageArrival n vc s
  | .timedRelease n err => Sys2Proof.Machine.execTimedRelease n err s
  | .syncCheck n vc => Sys2Proof.Machine.execSyncCheck n vc s
  | .niDecerrClr n value => Sys2Proof.Machine.execNiDecerrClr n value s
  | .niStatClr n value => Sys2Proof.Machine.execNiStatClr n value s
  | .weirClr n value => Sys2Proof.Machine.execWeirClr n value s
  | .registerWrite door posted offset data => Sys2Proof.Machine.execRegisterWrite door posted offset data s
  | .matrixArbitration raised parityBad => Sys2Proof.Machine.execMatrixArbitration raised parityBad s
  | .matrixAccessComplete m fail err => Sys2Proof.Machine.execMatrixAccessComplete m fail err s
  | .debugPortReset => Sys2Proof.Machine.execDebugPortReset s
  | .remapSet => Sys2Proof.Machine.execRemapSet s
  | .bridgeRead vc err => Sys2Proof.Machine.execBridgeRead vc err s
  | .bridgeFetchDone => Sys2Proof.Machine.execBridgeFetchDone s
  | .delayedReadDiscard k => Sys2Proof.Machine.execDelayedReadDiscard k s
  | .prefetchFetchAhead src => Sys2Proof.Machine.execPrefetchFetchAhead src s
  | .bridgeWrite vc => Sys2Proof.Machine.execBridgeWrite vc s
  | .postedWritePerform err => Sys2Proof.Machine.execPostedWritePerform err s
  | .interruptLineEdge line => Sys2Proof.Machine.execInterruptLineEdge line s
  | .lkOutboundRequest lkc ty addr size data excl => Sys2Proof.Machine.execLkOutboundRequest lkc ty addr size data excl s
  | .clockLoss d => Sys2Proof.Machine.execClockLoss d s
  | .unitResetRelease u => Sys2Proof.Machine.execUnitResetRelease u s
  | .frequencyMeasurementPeriod f => Sys2Proof.Machine.execFrequencyMeasurementPeriod f s
  | .clearCrossingRecords path value => Sys2Proof.Machine.execClearCrossingRecords path value s
  | .partitionFence path p => Sys2Proof.Machine.execPartitionFence path p s
  | .partitionReset path p => Sys2Proof.Machine.execPartitionReset path p s
  | .partitionRelease path p => Sys2Proof.Machine.execPartitionRelease path p s
  | .drainComplete p => Sys2Proof.Machine.execDrainComplete p s
  | .drainTimeout p => Sys2Proof.Machine.execDrainTimeout p s
  | .fenceAcknowledge p => Sys2Proof.Machine.execFenceAcknowledge p s
  | .resetStepDone p => Sys2Proof.Machine.execResetStepDone p s
  | .releaseExecute t => Sys2Proof.Machine.execReleaseExecute t s
  | .flrVf k => Sys2Proof.Machine.execFlrVf k s
  | .flrPf0 => Sys2Proof.Machine.execFlrPf0 s
  | .vfEnableSet n => Sys2Proof.Machine.execVfEnableSet n s
  | .unitReset path u value => Sys2Proof.Machine.execUnitReset path u value s
  | .dlDown => Sys2Proof.Machine.execDlDown s
  | .dlUp rate width => Sys2Proof.Machine.execDlUp rate width s
  | .linkLossDebounceExpiry cut => Sys2Proof.Machine.execLinkLossDebounceExpiry cut s
  | .hotReset cut => Sys2Proof.Machine.execHotReset cut s
  | .pdFence path k => Sys2Proof.Machine.execPdFence path k s
  | .pdOff path k => Sys2Proof.Machine.execPdOff path k s
  | .pdOn path k => Sys2Proof.Machine.execPdOn path k s
  | .pdRelease path k => Sys2Proof.Machine.execPdRelease path k s
  | .pdDrainComplete k => Sys2Proof.Machine.execPdDrainComplete k s
  | .pdDrainTimeout k => Sys2Proof.Machine.execPdDrainTimeout k s
  | .pdPowerUpDone k trained => Sys2Proof.Machine.execPdPowerUpDone k trained s
  | .pdPowerGoodTimeout k => Sys2Proof.Machine.execPdPowerGoodTimeout k s
  | .chipReset src cut => Sys2Proof.Machine.execChipReset src cut s
  | .perstNAssert cut => Sys2Proof.Machine.execPerstNAssert cut s
  | .powerOn => Sys2Proof.Machine.execPowerOn s
  | .railFall rail cut => Sys2Proof.Machine.execRailFall rail cut s
  | .resetRelease testMode bootSel => Sys2Proof.Machine.execResetRelease testMode bootSel s
  | .supplyMonitorSample rail above => Sys2Proof.Machine.execSupplyMonitorSample rail above s
  | .temperatureThreshold sensor reading => Sys2Proof.Machine.execTemperatureThreshold sensor reading s
  | .createQueue p => Sys2Proof.Machine.execCreateQueue p s
  | .destroyQueue p => Sys2Proof.Machine.execDestroyQueue p s
  | .destroyQueueDone q => Sys2Proof.Machine.execDestroyQueueDone q s
  | .modifyCq p => Sys2Proof.Machine.execModifyCq p s
  | .queryQueue p => Sys2Proof.Machine.execQueryQueue p s
  | .doorbell f value full poisoned => Sys2Proof.Machine.execDoorbell f value full poisoned s
  | .doorbellNoticeSend h => Sys2Proof.Machine.execDoorbellNoticeSend h s
  | .doorbellNotice n err => Sys2Proof.Machine.execDoorbellNotice n err s
  | .commandFetch q ctxPoison => Sys2Proof.Machine.execCommandFetch q ctxPoison s
  | .contextWriteback q => Sys2Proof.Machine.execContextWriteback q s
  | .nop q => Sys2Proof.Machine.execNop q s
  | .copy q => Sys2Proof.Machine.execCopy q s
  | .copyInline q => Sys2Proof.Machine.execCopyInline q s
  | .fillCmd q => Sys2Proof.Machine.execFillCmd q s
  | .fenceCmd q => Sys2Proof.Machine.execFenceCmd q s
  | .flushCmd q => Sys2Proof.Machine.execFlushCmd q s
  | .flushHp h => Sys2Proof.Machine.execFlushHp h s
  | .notify q => Sys2Proof.Machine.execNotify q s
  | .timedNotify q => Sys2Proof.Machine.execTimedNotify q s
  | .waitTime q => Sys2Proof.Machine.execWaitTime q s
  | .waitTimeReached q => Sys2Proof.Machine.execWaitTimeReached q s
  | .streamArm q => Sys2Proof.Machine.execStreamArm q s
  | .streamStop q => Sys2Proof.Machine.execStreamStop q s
  | .opExec q => Sys2Proof.Machine.execOpExec q s
  | .completionWrite q err => Sys2Proof.Machine.execCompletionWrite q err s
  | .cqModerationTimeout cq => Sys2Proof.Machine.execCqModerationTimeout cq s
  | .clearQueueCounters path value => Sys2Proof.Machine.execClearQueueCounters path value s
  | .windowRead f offset len err => Sys2Proof.Machine.execWindowRead f offset len err s
  | .windowWrite f offset data poisoned => Sys2Proof.Machine.execWindowWrite f offset data poisoned s
  | .windowBaseWrite f data poisoned => Sys2Proof.Machine.execWindowBaseWrite f data poisoned s
  | .pcClr f value poisoned => Sys2Proof.Machine.execPcClr f value poisoned s
  | .prefetchLineExpiry f addr => Sys2Proof.Machine.execPrefetchLineExpiry f addr s
  | .admission rid offset data poisoned => Sys2Proof.Machine.execAdmission rid offset data poisoned s
  | .revoke rid data poisoned => Sys2Proof.Machine.execRevoke rid data poisoned s
  | .admissionStatusRead rid offset len => Sys2Proof.Machine.execAdmissionStatusRead rid offset len s
  | .placementWrite rid offset data poisoned => Sys2Proof.Machine.execPlacementWrite rid offset data poisoned s
  | .placementFlushRead rid offset len => Sys2Proof.Machine.execPlacementFlushRead rid offset len s
  | .clearAdmissions path value => Sys2Proof.Machine.execClearAdmissions path value s
  | .clearHostCounters path value => Sys2Proof.Machine.execClearHostCounters path value s
  | .outboundRequest h vc => Sys2Proof.Machine.execOutboundRequest h vc s
  | .outboundCompletion tag cpl => Sys2Proof.Machine.execOutboundCompletion tag cpl s
  | .outboundCompletionTimeout tag => Sys2Proof.Machine.execOutboundCompletionTimeout tag s
  | .msixRequest h err => Sys2Proof.Machine.execMsixRequest h err s
  | .msixUnmask f what => Sys2Proof.Machine.execMsixUnmask f what s
  | .unsupportedRequest f => Sys2Proof.Machine.execUnsupportedRequest f s
  | .linkPllLocked k => Sys2Proof.Machine.execLinkPllLocked k s
  | .syncHeaderLock k => Sys2Proof.Machine.execSyncHeaderLock k s
  | .extendedMultiblockLock k arrivals => Sys2Proof.Machine.execExtendedMultiblockLock k arrivals s
  | .linkLockTimeout k => Sys2Proof.Machine.execLinkLockTimeout k s
  | .laneLockLoss l cause pll => Sys2Proof.Machine.execLaneLockLoss l cause pll s
  | .sysrefEdgeSampled k onBoundary => Sys2Proof.Machine.execSysrefEdgeSampled k onBoundary s
  | .rxFrameRelease k at_ frames crcLanes syncLanes err => Sys2Proof.Machine.execRxFrameRelease k at_ frames crcLanes syncLanes err s
  | .slotGrant q => Sys2Proof.Machine.execSlotGrant q s
  | .cpTrigger n => Sys2Proof.Machine.execCpTrigger n s
  | .cpTimedStart n => Sys2Proof.Machine.execCpTimedStart n s
  | .cpTimedStop n => Sys2Proof.Machine.execCpTimedStop n s
  | .recordEnd l => Sys2Proof.Machine.execRecordEnd l s
  | .recordComplete q => Sys2Proof.Machine.execRecordComplete q s
  | .txPrefetchDone q => Sys2Proof.Machine.execTxPrefetchDone q s
  | .txFrameDue k at_ err => Sys2Proof.Machine.execTxFrameDue k at_ err s
  | .clearConverterCounters path value => Sys2Proof.Machine.execClearConverterCounters path value s
  | .frameReceive p frame fcsOk at_ corr uncorr => Sys2Proof.Machine.execFrameReceive p frame fcsOk at_ corr uncorr s
  | .pfcPauseExpiry p prio => Sys2Proof.Machine.execPfcPauseExpiry p prio s
  | .ptpTransmit p frame oneStep at_ => Sys2Proof.Machine.execPtpTransmit p frame oneStep at_ s
  | .ethLinkDown p => Sys2Proof.Machine.execEthLinkDown p s
  | .ethLinkUp p => Sys2Proof.Machine.execEthLinkUp p s
  | .qpModify q => Sys2Proof.Machine.execQpModify q s
  | .send q => Sys2Proof.Machine.execSend q s
  | .rdmaWrite q => Sys2Proof.Machine.execRdmaWrite q s
  | .rdmaWriteImm q => Sys2Proof.Machine.execRdmaWriteImm q s
  | .rawSend q => Sys2Proof.Machine.execRawSend q s
  | .recv q => Sys2Proof.Machine.execRecv q s
  | .rocePacketReceive p icrcOk err qpErr => Sys2Proof.Machine.execRocePacketReceive p icrcOk err qpErr s
  | .ackReceive p icrcOk err qpErr => Sys2Proof.Machine.execAckReceive p icrcOk err qpErr s
  | .retransmitTimeout n => Sys2Proof.Machine.execRetransmitTimeout n s
  | .ackTimer n => Sys2Proof.Machine.execAckTimer n s
  | .rawDatagramSend q => Sys2Proof.Machine.execRawDatagramSend q s
  | .clearEthernetCounters path value => Sys2Proof.Machine.execClearEthernetCounters path value s
  | .descriptorDelivery q => Sys2Proof.Machine.execDescriptorDelivery q s
  | .opFft n err => Sys2Proof.Machine.execOpFft n err s
  | .opFir n err => Sys2Proof.Machine.execOpFir n err s
  | .opDecimate n err => Sys2Proof.Machine.execOpDecimate n err s
  | .opAverage n err => Sys2Proof.Machine.execOpAverage n err s
  | .opThreshold n err dropped => Sys2Proof.Machine.execOpThreshold n err dropped s
  | .opConvert n err => Sys2Proof.Machine.execOpConvert n err s
  | .opChecksum n err => Sys2Proof.Machine.execOpChecksum n err s
  | .descriptorEnd n cycles => Sys2Proof.Machine.execDescriptorEnd n cycles s
  | .descriptorTimeLimit n cycles => Sys2Proof.Machine.execDescriptorTimeLimit n cycles s
  | .clearOperatorCounters path value => Sys2Proof.Machine.execClearOperatorCounters path value s
  | .referenceMeasurement m => Sys2Proof.Machine.execReferenceMeasurement m s
  | .referenceEdgeLoss r => Sys2Proof.Machine.execReferenceEdgeLoss r s
  | .referenceSwitchDone => Sys2Proof.Machine.execReferenceSwitchDone s
  | .waitToRestoreExpiry => Sys2Proof.Machine.execWaitToRestoreExpiry s
  | .ocxoAbsent => Sys2Proof.Machine.execOcxoAbsent s
  | .pllLockLoss ttu => Sys2Proof.Machine.execPllLockLoss ttu s
  | .setTime path data => Sys2Proof.Machine.execSetTime path data s
  | .adjustTime path x => Sys2Proof.Machine.execAdjustTime path x s
  | .setUtc path value => Sys2Proof.Machine.execSetUtc path value s
  | .slewTick => Sys2Proof.Machine.execSlewTick s
  | .timeStrobe => Sys2Proof.Machine.execTimeStrobe s
  | .syncSend => Sys2Proof.Machine.execSyncSend s
  | .replicaReload vc => Sys2Proof.Machine.execReplicaReload vc s
  | .ptpMessage state offset delay adj => Sys2Proof.Machine.execPtpMessage state offset delay adj s
  | .ptpMasterLoss state => Sys2Proof.Machine.execPtpMasterLoss state s
  | .triggerInputEdge c asserted t => Sys2Proof.Machine.execTriggerInputEdge c asserted t s
  | .triggerOrder => Sys2Proof.Machine.execTriggerOrder s
  | .triggerEdgeFire c err => Sys2Proof.Machine.execTriggerEdgeFire c err s
  | .triggerPulseEnd c => Sys2Proof.Machine.execTriggerPulseEnd c s
  | .sysrefEdge k => Sys2Proof.Machine.execSysrefEdge k s
  | .sysrefReanchor path k value => Sys2Proof.Machine.execSysrefReanchor path k value s
  | .electionFrameStart => Sys2Proof.Machine.execElectionFrameStart s
  | .electionFrameEnd word crcOk => Sys2Proof.Machine.execElectionFrameEnd word crcOk s
  | .heartbeatSend => Sys2Proof.Machine.execHeartbeatSend s
  | .heartbeatReceive word secs ns crcOk => Sys2Proof.Machine.execHeartbeatReceive word secs ns crcOk s
  | .heartbeatLoss => Sys2Proof.Machine.execHeartbeatLoss s
  | .clearTimingCounters path value => Sys2Proof.Machine.execClearTimingCounters path value s
  | .faultEventRegister err seen cut => Sys2Proof.Machine.execFaultEventRegister err seen cut s
  | .faultWindowExpiry src => Sys2Proof.Machine.execFaultWindowExpiry src s
  | .clearSource path src value => Sys2Proof.Machine.execClearSource path src value s
  | .clearAllSources path value => Sys2Proof.Machine.execClearAllSources path value s
  | .clearFaultN path value => Sys2Proof.Machine.execClearFaultN path value s
  | .fieldInjection path value => Sys2Proof.Machine.execFieldInjection path value s
  | .cancelInjection path value => Sys2Proof.Machine.execCancelInjection path value s
  | .factoryInjection path value => Sys2Proof.Machine.execFactoryInjection path value s
  | .inhibitTick a b => Sys2Proof.Machine.execInhibitTick a b s
  | .acknowledgeDiscrepancy path value => Sys2Proof.Machine.execAcknowledgeDiscrepancy path value s
  | .clearLinkErrorRecords path value => Sys2Proof.Machine.execClearLinkErrorRecords path value s
  | .clearBridgeCounters path value => Sys2Proof.Machine.execClearBridgeCounters path value s
  | .probeArm path j => Sys2Proof.Machine.execProbeArm path j s
  | .probeStop path j => Sys2Proof.Machine.execProbeStop path j s
  | .probeClear path j => Sys2Proof.Machine.execProbeClear path j s
  | .probeStartCondition j => Sys2Proof.Machine.execProbeStartCondition j s
  | .probeStopCondition j => Sys2Proof.Machine.execProbeStopCondition j s
  | .rateIntervalEnd j => Sys2Proof.Machine.execRateIntervalEnd j s
  | .traceDrainPoll f => Sys2Proof.Machine.execTraceDrainPoll f s
  | .firmwareStart programmed => Sys2Proof.Machine.execFirmwareStart programmed s
  | .safeHarbourEntry => Sys2Proof.Machine.execSafeHarbourEntry s
  | .endOfBoot => Sys2Proof.Machine.execEndOfBoot s
  | .trialConfirm => Sys2Proof.Machine.execTrialConfirm s
  | .lkcRestart cut => Sys2Proof.Machine.execLkcRestart cut s
  | .openUpdate path => Sys2Proof.Machine.execOpenUpdate path s
  | .updateEraseDone ok => Sys2Proof.Machine.execUpdateEraseDone ok s
  | .updateData path data programmed => Sys2Proof.Machine.execUpdateData path data programmed s
  | .verify path => Sys2Proof.Machine.execVerify path s
  | .updateVerifyDone ok => Sys2Proof.Machine.execUpdateVerifyDone ok s
  | .cancel path => Sys2Proof.Machine.execCancel path s
  | .activate path => Sys2Proof.Machine.execActivate path s
  | .activateForce path => Sys2Proof.Machine.execActivateForce path s
  | .rollback path => Sys2Proof.Machine.execRollback path s
  | .restart path => Sys2Proof.Machine.execRestart path s
  | .restartDelayExpiry cut => Sys2Proof.Machine.execRestartDelayExpiry cut s
  | .domainClockStart d => Sys2Proof.Machine.execDomainClockStart d s
  | .ocxoReturn => Sys2Proof.Machine.execOcxoReturn s
  | .rnrRetryDelay n => Sys2Proof.Machine.execRnrRetryDelay n s

end Sys2Proof.Machine
end

