-- ==== Sys2Proof/Machine/Pins.lean ====
section
/-! DEFINITION. What the single-ended output pins show, as functions of the state (R544, R546). No command changes a pin
but through the state that drives it. -/
namespace Sys2Proof.Machine

/-- What an output pin shows. -/
inductive PinLevel where
  /-- High impedance, or an open-drain output that is not asserted. -/
  | released
  | low
  | high
  deriving DecidableEq, Repr

/-- A level that is high when `b` holds. -/
def levelOf (b : Bool) : PinLevel := if b then .high else .low

/-- A rail is below its threshold, so every I/O but FAULT_N is isolated (R536). -/
def isolated (d : Dev) : Bool := d.power.railsBad != 0

/-- FAULT_N has its own cell: low while another rail is not good, before reset release, and as R481 asserts it, whenever
VDD_IO33 (rail 7) is good (R546). -/
def pinFaultN (d : Dev) : PinLevel :=
  if bitOf d.power.railsBad 7 then .released
  else if isolated d || !d.power.released || faultNLow d then .low
  else .released

/-- The bytes that MGMT_MISO clocks out once a frame has run: the response and its CRC, both bytes most significant
first (R56). -/
def spiResponse (d : Dev) : Bytes :=
  let b := d.store.responses.get [] 0
  b ++ beBytes 2 (crc16 b)

/-- MGMT_MISO: low from the fall of MGMT_CS_N until the port holds the store, then high; high impedance otherwise. Once the frame
has run, `edges` SCK edges after its tail, it shows that bit of the response, most significant bit first, and low after its last
bit (R31, R32, R56). -/
def pinMgmtMiso (edges : Nat) (d : Dev) : PinLevel :=
  let p := d.store.spi
  let bs := spiResponse d
  if isolated d || !d.power.released || !p.csLow || p.ignoring then .released
  else if !p.granted then .low
  else if p.served then
    levelOf (decide (edges < 8 * bs.length) && bitOf (bs.getD (edges / 8) 0).toNat (7 - edges % 8))
  else .high

/-- The output of trigger line `c`: TRIG lines are open-drain and low when asserted, STAR and FTRIG lines drive the level
of :0A when asserted and the other level when not, while their output is enabled (R449 to R452, R544). -/
def pinTrigger (d : Dev) (c : Nat) : PinLevel :=
  let on := (d.line c).out
  if isolated d || !d.power.released || !(bitOf (d.lineObj c 2) 1) then (if c = 9 ∧ isolated d = false then .low else .released)
  else if isTrigLine (0x2D30 + c) then (if on then .low else .released)
  else levelOf (on == (d.lineObj c 10 == 1))

/-- FTRIG_OEn is 1 while FTRIGn, line 0x0A + n, is an enabled output (R543, R544). -/
def pinFtrigOe (d : Dev) (n : Nat) : PinLevel :=
  if isolated d then .released else levelOf (d.power.released && bitOf (d.lineObj (0x0A + n) 2) 1)

/-- SYSREFk (R453, R544). -/
def pinSysref (d : Dev) (k : Nat) : PinLevel :=
  if isolated d then .released else levelOf (d.power.released && (d.timing.out k).high)

end Sys2Proof.Machine
end

