-- ==== Sys2Proof/Safety.lean ====
section
/-! DEFINITION. What claims speak of: the invariant that every step keeps, a device that takes commands, and a command
that completes. -/
namespace Sys2Proof.Machine

/-- Main memory is in its canonical form and no command's memory change is left over. -/
abbrev State.Inv (s : State) : Prop := Memory.wf s.dev.mem = true ∧ s.dev.bus = []

/-- The device has left reset (R27) and no memory change is left over: it takes every command. -/
abbrev State.Ready (s : State) : Prop := s.dev.power.released = true ∧ s.dev.bus = []

/-- The device takes every command, and FCLK runs. -/
abbrev State.Live (s : State) : Prop := s.Ready ∧ s.dev.clock.running = true

/-- Command `c` completes at `s` in a state of which `P` holds, and leaves the queue alone. -/
def Completes (c : Instr) (s : State) (P : Dev → Prop) : Prop :=
  ∃ t, exec c s = .next { s with dev := t } ∧ P t

/-- Command `k` is the first running one of queue `q` with opcode `op`, and no earlier command of the queue that its SE
holds has its ring index. -/
abbrev RunsAt (d : Dev) (q op : Nat) (pre : List Cmd) (k : Cmd) (post : List Cmd) : Prop :=
  (d.eng (seOf q)).cmds = pre ++ k :: post ∧ k.q = q ∧ k.st = .running ∧ k.bytes.le 0 1 = op ∧
    ∀ j, j ∈ pre → j.q = q → j.index ≠ k.index ∧ (j.st ≠ .running ∨ j.bytes.le 0 1 ≠ op)

/-- SE `n` holds the commands `l`; everything else of every SE is as it was. -/
abbrev SeHolds (d t : Dev) (n : Nat) (l : List Cmd) : Prop :=
  t.eng n = { d.eng n with cmds := l } ∧ ∀ i, i ≠ n → t.eng i = d.eng i

/-- Only NI `n` has changed among the NIs. -/
abbrev NiOnly (d t : Dev) (n : Nat) : Prop := ∀ i, i ≠ n → t.ni i = d.ni i

/-- The posted WRITE of the bytes `bs` at `a` has been presented at NI `n` by its unit, with what it raises; its NI splits, combines
and sends it (R95, R176). -/
abbrev Writes (d t : Dev) (n part cls a : Nat) (bs : Bytes) : Prop :=
  t.nis = (engineWrite n part cls a bs d).nis ∧ t.faults = (engineWrite n part cls a bs d).faults

/-- The bytes `bs` stand at `a`, and every other byte of memory is as it was. -/
abbrev Stored (d t : Dev) (a : Nat) (bs : Bytes) : Prop :=
  ∀ i, t.stored i = if a ≤ i ∧ i < a + bs.length then bs.getD (i - a) (byte 0) else d.stored i

/-- A request of `path` can be served at once: nothing waits to be rolled back and the device is not in safe-harbour mode; path 0 holds
the store and has had no transaction in this MGMT_CS_N period; on another path the firmware serves it, the store is free, nothing else
waits for it, and no session or request of the path is in progress. -/
abbrev PathFree (d : Dev) (path : Nat) : Prop :=
  d.store.cut = none ∧ d.boot.safeHarbour = false ∧
    ((path = 0 ∧ d.store.spi.granted = true ∧ d.store.spi.served = false) ∨
      (path ≠ 0 ∧ d.boot.firmware = true ∧ d.store.owner = none ∧ d.store.spiPending = false ∧ d.store.waiting = [] ∧
        d.store.own = [] ∧ d.can.usdo = none ∧ (16 ≤ path → (d.boxes.get {} (path - 16)).pending = false)))

/-- The frame of command `row` is carried as one store transaction of `path`, in a state of which `P` holds: on path 0 the command
itself completes so; on another path the command completes with its frame waiting for the store, and the STORE_GRANT that follows
completes so. -/
def Carried (path : Nat) (row : Instr) (s : State) (P : Dev → Prop) : Prop :=
  if path = 0 then Completes row s P else Completes row s fun d => Completes .storeGrant { s with dev := d } P

/-- The store after a transaction of `path` has been answered with detail `e`, naming object `key`, and the data read. -/
def storeAnswered (st : Store) (path e key : Nat) (data : Bytes) : Store :=
  { st with
    rolledNow := false
    results := st.results.set path (if e = 0 then 0 else 256 * key + e)
    responses := st.responses.set path (byte (if e = 0 then 0 else 1) :: beBytes 4 (abortOf e) ++ data)
    refused := if e = 0 then st.refused else inc32 st.refused
    spi := if path = 0 then { st.spi with served := true } else st.spi }

/-- The reset of partition `p` has begun (R87, R262): its mailbox is at its reset values, its chamber is empty, no request of its path
waits, and the unit resets that may end have ended. -/
abbrev ResetBegun (d t : Dev) (p : Nat) : Prop :=
  t.boxes = d.boxes.erase p ∧
    t.store = { d.store with chambers := d.store.chambers.erase (16 + p), waiting := d.store.waiting.erase (16 + p) } ∧
    (∀ u, t.resets.unitHeld.find? u = if mayLeave d u then none else d.resets.unitHeld.find? u) ∧
    t.resets = { d.resets with unitHeld := t.resets.unitHeld }

/-- A link-loss reset has begun, where every partition stood FENCED, RESETTING or RESET_DONE: every one that
was not in its reset step has begun it, no release follows, and 0x98 is raised (R264). -/
abbrev LinkLossBegun (d t : Dev) : Prop :=
  t.resets = { d.resets with
      kind := 5, linkLoss := 2, linkUp := false, linkLossResets := inc32 d.resets.linkLossResets, unitHeld := t.resets.unitHeld } ∧
    (∀ u, t.resets.unitHeld.find? u =
      if mayLeave d u = true ∧ ((List.range 16).any fun p => (d.part p).state != 3) = true then none else d.resets.unitHeld.find? u) ∧
    t.faults.crossing = d.faults.crossing ++ [{ src := 0x98, inst := 0xFF, part := 0xFF, cause := 0, injected := false }] ∧
    (∀ p, p < 16 → t.part p = { d.part p with
      autoRelease := false, awaitVf := false
      state := 3
      thenReset := if (d.part p).state = 3 then (d.part p).thenReset else false
      fenceBit := if (d.part p).state = 3 then (d.part p).fenceBit else true }) ∧
    (∀ p, p < 16 → t.boxes.get {} p = if (d.part p).state = 3 then d.boxes.get {} p else {}) ∧
    (∀ p, p < 16 → t.store.chambers.get [] (16 + p) = if (d.part p).state = 3 then d.store.chambers.get [] (16 + p) else []) ∧
    (∀ q, q < 16 → t.store.chambers.get [] q = d.store.chambers.get [] q) ∧
    t = { d with
      resets := t.resets, parts := t.parts, boxes := t.boxes
      store := { d.store with chambers := t.store.chambers, waiting := t.store.waiting }
      faults := { d.faults with crossing := t.faults.crossing } }

/-- The frame that writes the byte `v` to an object. -/
def byteFrame (idx sub v : Nat) : Frame := { op := 2, idx := idx, sub := sub, len := 1, data := [byte v], crcOk := true }

/-- The store with a frame that the running firmware presents on path 1, behind those that wait there (R30). -/
def withOwn (d : Dev) (st : Store) (f : Frame) : Store :=
  if d.boot.firmware = false then st
  else if st.waiting.has 1 then { st with own := st.own ++ [f] }
  else { st with waiting := st.waiting.set 1 f }

/-- A command of the supplies, the pins and the reset sequence: it acts although the device is held in reset. -/
def actsInReset : Instr → Bool
  | .perstNAssert _ => true
  | .powerOn => true
  | .railFall _ _ => true
  | .resetRelease _ _ => true
  | _ => false

/-- The endpoint as it leaves a reset (R346): no prefetch line is held and every function is cold, nothing is admitted,
WINDOW_BASE has EN = 0 and every MSI-X vector is masked. -/
abbrev ColdHost (d : Dev) : Prop :=
  d.host.admissions = [] ∧
    ∀ f, (d.fn f).lines = [] ∧ (d.fn f).prevEnd = none ∧ bitOf (d.fn f).window 0 = false ∧
      ∀ v, bitOf ((d.fn f).table.get {} v).ctl 0 = true

/-- The OP units as they leave a reset (R433): stores empty, pass values 0, every unit off. -/
abbrev ColdOps (d : Dev) : Prop :=
  ∀ n, n < 8 → (d.op n).store = [] ∧ (∀ p, (d.op n).pass.get 0 p = 0) ∧ opState d n = 0

end Sys2Proof.Machine
end

