-- ==== Sys2Proof/Certificates/Slice0/Obligations.lean ====
section
/-! DEFINITION. The statements about this device: each formalises rules of spec/ named in OBLIGATIONS.json. -/
open Sys2Proof Sys2Proof.Machine

/-- For every command c and state s with c at the front of its queue, step of s is exec of c on s with the queue's
rest. The queue is the model's form of what is sent to the device. -/
def Obligations.StepRunsFrontCommand : Prop :=
  ∀ (c : Instr) (rest : List Instr) (s : State), s.pending = c :: rest → step s = exec c { s with pending := rest }

/-- On an empty queue a step answers a next state in which the wall clock has advanced by one FCLK period, FCLK's
edge count by one where FCLK runs outside reset, and nothing but the clock and the SYSREF outputs has changed.
The tick is a DESIGN CHOICE of log entry 2, no rule of the spec. -/
def Obligations.IdleStep : Prop :=
  ∀ (s : State), s.pending = [] →
    ∃ t, step s = .next t ∧ t.pending = [] ∧ t.dev.clock.wall = s.dev.clock.wall + 1 ∧
      t.dev.clock.edges = s.dev.clock.edges + (if s.dev.clock.running = true ∧ s.dev.power.released = true then 1 else 0) ∧
      t.dev = { s.dev with clock := t.dev.clock, timing := { s.dev.timing with sysref := t.dev.timing.sysref } }

/-- A command whose operands name nothing that exists is refused as ill-formed; every other command answers a next
state, keeps the queue and leaves memory canonical with no change left over; while the device is held in
reset, a command other than PERST_N_ASSERT, POWER_ON, RAIL_FALL and RESET_RELEASE leaves the state as it is.
No command faults. Where the spec leaves a choice, this follows the model's readings of log entries 10, 11,
12. -/
def Obligations.Answers : Prop :=
  ∀ (c : Instr) (s : State),
    (c.wellFormed = false → exec c s = .refused .illFormed) ∧
    (c.wellFormed = true → s.Inv → ∃ t, exec c s = .next t ∧ t.pending = s.pending ∧ t.Inv) ∧
    (c.wellFormed = true → s.dev.power.released = false → actsInReset c = false → exec c s = .next s)

/-- From every state whose memory is in its canonical form (addresses strictly rising, no cell equal to what an
unlisted address reads as) with no memory change left over, whatever command is in front, a step that answers
a next state keeps both. The canonical form is the model's. -/
def Obligations.InvKeptByEveryStep : Prop :=
  ∀ (s t : State), s.Inv → step s = .next t → t.Inv

/-- In the state right after the release of the power-on reset the invariant holds, no command waits and the device
takes commands; every partition stands in RESET_DONE with its fence bit set, every power domain is OFF, no queue
exists, the configuration is empty with version 0 and not valid, no clock domain runs before its first lock and every
one reports version 0, the PCI Express link is down, chassis time is not set, every unit is held in reset, and every
byte of memory is undefined. Where the spec leaves a choice, this follows the model's readings of log entries 1, 3,
13. -/
def Obligations.ResetState : Prop :=
  State.reset.Inv ∧ State.reset.Ready ∧ State.reset.pending = [] ∧
    (∀ p, (State.reset.dev.part p).state = 4 ∧ State.reset.dev.fenceBit p = true) ∧
    (∀ k, (State.reset.dev.pd k).state = 0) ∧ (∀ q, State.reset.dev.queue? q = none) ∧
    State.reset.dev.cfg = [] ∧ State.reset.dev.store.version = 0 ∧ State.reset.dev.store.valid = false ∧
    (∀ k, State.reset.dev.domRuns k = false ∧ State.reset.dev.domVersion k = 0) ∧ linkDown State.reset.dev = true ∧
    State.reset.dev.timing.valid = 0 ∧ State.reset.dev.timing.state = 3 ∧
    (∀ u, u < 67 → State.reset.dev.held u = true) ∧ (∀ a, a < 2 ^ 64 → State.reset.dev.stored a = Config.memoryByte 0 a)

/-- When the device leaves power-on reset or PERST_N at RESET_RELEASE, and after a chip reset, every prefetch line
is empty and every function is cold, the admission table is empty, WINDOW_BASE has EN = 0 and every MSI-X
vector is masked; every operator store is empty, every pass value is 0 and every unit is off; and a unit is
off in every state in which PD_OPS is not RUNNING. So it is in the state right after reset. -/
def Obligations.LeavesReset : Prop :=
  (∀ (testMode : Bool) (bootSel : Nat) (s : State),
    s.dev.bus = [] → (Instr.resetRelease testMode bootSel).wellFormed = true →
    Completes .powerOn s (fun d => Completes (.resetRelease testMode bootSel) { s with dev := d } fun t =>
      t.power.released = true ∧ ColdHost t ∧ ColdOps t) ∧
    (∀ cut, (Instr.perstNAssert cut).wellFormed = true →
      Completes (.perstNAssert cut) s (fun d => Completes (.resetRelease testMode bootSel) { s with dev := d } fun t =>
        t.power.released = true ∧ ColdHost t ∧ ColdOps t))) ∧
  (∀ (src : Nat) (cut : SpiCut) (s : State),
    (Instr.chipReset src cut).wellFormed = true → s.Ready →
    Completes (.chipReset src cut) s fun t => ColdHost t ∧ ColdOps t) ∧
  (∀ (d : Dev) (n : Nat), n < 8 → (d.pd 2).state ≠ 3 → opState d n = 0) ∧
  ColdHost State.reset.dev ∧ ColdOps State.reset.dev

/-- DISCARD empties the chamber of the path that issues it and no other; the reset step of partition p empties the
chamber of path 16 + p and no other; PERST_N and chip reset empty the chambers of paths 1, 2 and 16 to 31 and keep the
chamber of path 0, after the transaction that they cut off. (A frame is one command, so tail edge 8 is the command's
end.) -/
def Obligations.ChamberResets : Prop :=
  (∀ (path : Nat) (s : State),
     (Instr.discard path 0 true).wellFormed = true →
     s.Ready →
     PathFree s.dev path →
     Carried path (.discard path 0 true) s fun t =>
       t.chamber path = [] ∧ (∀ q, q ≠ path → t.chamber q = s.dev.chamber q)) ∧
  (∀ (p : Nat) (s : State),
     (Instr.resetStepDone p).wellFormed = true →
     s.Ready →
     (s.dev.part p).state = 3 →
     Completes (.resetStepDone p) s fun t =>
       t.chamber (16 + p) = [] ∧ (∀ q, q ≠ 16 + p → t.chamber q = s.dev.chamber q)) ∧
  (∀ (cut : SpiCut) (d : Dev) (s : State),
     (Instr.perstNAssert cut).wellFormed = true →
     s.dev.bus = [] →
     cutStore cut s.dev = d →
     Completes (.perstNAssert cut) s fun t =>
       t.chamber 0 = d.chamber 0 ∧ (∀ q, q ≠ 0 → t.chamber q = [])) ∧
  (∀ (src : Nat) (cut : SpiCut) (d : Dev) (s : State),
     (Instr.chipReset src cut).wellFormed = true →
     s.Ready →
     cutStore cut s.dev = d →
     Completes (.chipReset src cut) s fun t =>
       t.chamber 0 = d.chamber 0 ∧ (∀ q, q ≠ 0 → t.chamber q = []))

/-- PROBE_START_CONDITION moves an armed probe whose start condition holds (and whose stop condition does not fall
in the same cycle) to RUNNING with a cleared rate meter; PROBE_STOP_CONDITION moves a running probe whose stop
condition holds to STOPPED; RATE_INTERVAL_END of a running probe latches LAST and PEAK and restarts the
interval. Only the probe named changes. -/
def Obligations.ProbeStateMachine : Prop :=
  (∀ (j : Nat) (s : State),
     (Instr.probeStartCondition j).wellFormed = true →
     s.Ready →
     (s.dev.probe j).state = 1 →
     startHolds s.dev j = true →
     stopWithStart s.dev j = false →
     Completes (.probeStartCondition j) s fun t =>
       (t.probe j).state = 2 ∧ (t.probe j).valid = false ∧ (t.probe j).last = 0 ∧ (t.probe j).interval = 0 ∧
         (t.probe j).peak = (s.dev.probe j).peak ∧ (t.probe j).packets = (s.dev.probe j).packets ∧
         (∀ i, i ≠ j → t.probe i = s.dev.probe i) ∧
         t = { s.dev with probes := { s.dev.probes with probe := t.probes.probe } }) ∧
  (∀ (j : Nat) (s : State),
     (Instr.probeStopCondition j).wellFormed = true →
     s.Ready →
     (s.dev.probe j).state = 2 →
     stopHolds s.dev j = true →
     Completes (.probeStopCondition j) s fun t =>
       t.probe j = { s.dev.probe j with state := 3, interval := 0 } ∧ (∀ i, i ≠ j → t.probe i = s.dev.probe i) ∧
         t = { s.dev with probes := { s.dev.probes with probe := t.probes.probe } }) ∧
  (∀ (j : Nat) (s : State),
     (Instr.rateIntervalEnd j).wellFormed = true →
     s.Ready →
     (s.dev.probe j).state = 2 →
     Completes (.rateIntervalEnd j) s fun t =>
       t.probe j = { s.dev.probe j with
           last := (s.dev.probe j).interval, peak := max (s.dev.probe j).peak (s.dev.probe j).interval, valid := true, interval := 0 } ∧
         (∀ i, i ≠ j → t.probe i = s.dev.probe i) ∧
         t = { s.dev with probes := { s.dev.probes with probe := t.probes.probe } })

/-- While FCLK runs: ROUTER_FLIT_ARRIVAL without a link error at a router input takes the next flit off the link into
the buffer of its VC where its route is possible; an uncorrectable control error there stops the link direction, drops
the flit and counts an event of source 0x03; at an NI it takes a body flit that is no tail behind the flits that have
come on its VC. SWITCH_ALLOCATION with one candidate sends its flit on the granted output and spends a credit.
EXPRESS_SETUP_PHASE with one request and no contender reserves its output, and a credit, for the next cycle.
CREDIT_RETURN gives the sender, a router or an NI, one credit back. At an age tick a head flit that waited at a router
input gains one unit of AGE, up to 1,023; an input VC whose front did not wait is unchanged, and nothing but routers
and NIs changes. Which FCLK edge is a tick is the sender's (log entry 6). Where the spec leaves a choice, this follows
the model's readings of log entries 6, 31, 34. -/
def Obligations.RouterFlits : Prop :=
  (∀ (r p : Nat) (crcErr : Bool) (f : Flit) (rest : List Flit) (s : State),
     (Instr.routerFlitArrival (.router r p) .none crcErr).wellFormed = true →
     s.Live →
     hasPort r p = true →
     bitOf (s.dev.router r).stopped p = false →
     s.dev.net.wireR.get [] (8 * r + p) = f :: rest →
     s.dev.faults.inj.state ≠ 1 →
     ((s.dev.router r).vc (16 * p + f.vc)).dropping = false →
     routeBad r p f = false →
     Completes (.routerFlitArrival (.router r p) .none crcErr) s fun t =>
       t.net.wireR = s.dev.net.wireR.set (8 * r + p) rest ∧
         ((t.router r).vc (16 * p + f.vc)).q = ((s.dev.router r).vc (16 * p + f.vc)).q ++ [f] ∧
         (∀ i, i ≠ r → t.router i = s.dev.router i) ∧
         t = { s.dev with net := { s.dev.net with wireR := t.net.wireR, routers := t.net.routers } }) ∧
  (∀ (r p : Nat) (e : WordErr) (crcErr : Bool) (f : Flit) (rest : List Flit) (s : State),
     (Instr.routerFlitArrival (.router r p) { ctl := e } crcErr).wellFormed = true →
     s.Live →
     hasPort r p = true →
     bitOf (s.dev.router r).stopped p = false →
     s.dev.net.wireR.get [] (8 * r + p) = f :: rest →
     s.dev.faults.inj.state ≠ 1 →
     errFinds 16 6 e = .uncorrectable →
     Completes (.routerFlitArrival (.router r p) { ctl := e } crcErr) s fun t =>
       t.net.wireR = s.dev.net.wireR.set (8 * r + p) rest ∧
         (t.router r).stopped = setBit (s.dev.router r).stopped p true ∧ (t.router r).inp = (s.dev.router r).inp ∧
         (∀ i, i ≠ r → t.router i = s.dev.router i) ∧
         t.faults.crossing = s.dev.faults.crossing ++ [{ src := 0x03, inst := r, part := 0xFF, cause := 0, injected := false }] ∧
         t = { s.dev with
           net := { s.dev.net with wireR := t.net.wireR, routers := t.net.routers, cap := t.net.cap }, faults := t.faults }) ∧
  (∀ (n : Nat) (f : Flit) (rest : List Flit) (s : State),
     (Instr.routerFlitArrival (.ni n) .none false).wellFormed = true →
     s.Live →
     (s.dev.ni n).stopped = false →
     s.dev.net.wireN.get [] n = f :: rest →
     s.dev.faults.inj.state ≠ 1 →
     f.pkt = none →
     f.tail = false →
     f.crcBad = false →
     Completes (.routerFlitArrival (.ni n) .none false) s fun t =>
       t.net.wireN = s.dev.net.wireN.set n rest ∧
         (t.ni n).taken.get [] f.vc ++ (t.ni n).ej.get [] f.vc =
           (s.dev.ni n).taken.get [] f.vc ++ (s.dev.ni n).ej.get [] f.vc ++ [f] ∧
         (∀ i, i ≠ n → t.ni i = s.dev.ni i) ∧
         t = { s.dev with net := { s.dev.net with wireN := t.net.wireN, credR := t.net.credR }, nis := t.nis }) ∧
  (∀ (r port vc out r2 p2 : Nat) (v : InVc) (f : Flit) (rest : List Flit) (q : Packet) (s : State),
     (Instr.switchAllocation r).wellFormed = true →
     s.Live →
     port < 4 →
     vc < 9 →
     (s.dev.router r).inp = [(16 * port + vc, v)] →
     v.q = f :: rest →
     f.pkt = some q →
     f.nxt = out →
     out < 6 →
     neighbour r out = some (r2, p2) →
     mayUse (s.dev.router r) port vc out = true →
     (s.dev.router r).resNow = [] →
     Completes (.switchAllocation r) s fun t =>
       ((t.router r).vc (16 * port + vc)).q = rest ∧
         (t.router r).used.get 0 (16 * out + vc) = (s.dev.router r).used.get 0 (16 * out + vc) + 1 ∧
         t.net.wireR = s.dev.net.wireR.modify [] (8 * r2 + p2) (· ++ [{ f with nxt := routePort r2 q.dest }]) ∧
         (∀ i, i ≠ r → t.router i = s.dev.router i) ∧
         t = { s.dev with net := { s.dev.net with
           routers := t.net.routers, wireR := t.net.wireR, credR := t.net.credR } }) ∧
  (∀ (r : Nat) (w : Cand) (f : Flit) (s : State),
     (Instr.expressSetupPhase r false false).wellFormed = true →
     s.Live →
     (s.dev.router r).setupDone = false →
     setupRequest s.dev.fcfg s.dev r 4 = some (w, f) →
     setupRequest s.dev.fcfg s.dev r 5 = none →
     meshCands s.dev.fcfg (s.dev.router r) = [] →
     s.dev.faults.inj.state ≠ 1 →
     Completes (.expressSetupPhase r false false) s fun t =>
       (t.router r).resNext =
           (s.dev.router r).resNext.set w.out { key := 16 * w.port + w.vc, fresh := f.pkt.isSome } ∧
         (t.router r).used.get 0 (16 * w.out + w.vc) = (s.dev.router r).used.get 0 (16 * w.out + w.vc) + 1 ∧
         (t.router r).inp = (s.dev.router r).inp ∧ (∀ i, i ≠ r → t.router i = s.dev.router i) ∧
         t = { s.dev with net := { s.dev.net with routers := t.net.routers } }) ∧
  (∀ (r p v : Nat) (rest : List Nat) (s : State),
     (Instr.creditReturn (.router r p) {}).wellFormed = true →
     s.Live →
     bitOf (s.dev.router r).stopped p = false →
     s.dev.net.credR.get [] (8 * r + p) = v :: rest →
     (s.dev.router r).used.get 0 (16 * p + v) ≠ 0 →
     Completes (.creditReturn (.router r p) {}) s fun t =>
       t.net.credR = s.dev.net.credR.set (8 * r + p) rest ∧
         (t.router r).used.get 0 (16 * p + v) = (s.dev.router r).used.get 0 (16 * p + v) - 1 ∧
         (∀ i, i ≠ r → t.router i = s.dev.router i) ∧
         t = { s.dev with net := { s.dev.net with credR := t.net.credR, routers := t.net.routers } }) ∧
  (∀ (n v : Nat) (rest : List Nat) (s : State),
     (Instr.creditReturn (.ni n) {}).wellFormed = true →
     s.Live →
     (s.dev.ni n).stopped = false →
     s.dev.net.credN.get [] n = v :: rest →
     (s.dev.ni n).used.get 0 v ≠ 0 →
     Completes (.creditReturn (.ni n) {}) s fun t =>
       t.net.credN = s.dev.net.credN.set n rest ∧ (t.ni n).used.get 0 v = (s.dev.ni n).used.get 0 v - 1 ∧
         (∀ i, i ≠ n → t.ni i = s.dev.ni i) ∧
         t = { s.dev with net := { s.dev.net with credN := t.net.credN }, nis := t.nis }) ∧
  (∀ (r k : Nat) (f : Flit) (q : Packet) (rest : List Flit) (s : State),
     (Instr.ageTick).wellFormed = true →
     s.Live →
     ((s.dev.router r).vc k).waited = true →
     ((s.dev.router r).vc k).q = f :: rest →
     f.pkt = some q →
     Completes (.ageTick) s fun t =>
       ((t.router r).vc k).q = { f with pkt := some { q with age := min 1023 (q.age + 1) } } :: rest ∧
         (∀ i j, ((s.dev.router i).vc j).waited = false → (t.router i).vc j = (s.dev.router i).vc j) ∧
         t = { s.dev with net := { s.dev.net with routers := t.net.routers }, nis := t.nis })

/-- While FCLK runs: where one waiting packet that is no message is the only candidate of an NI other than an EP's,
and nothing waits at its unit, the NI injects its head onto its local link, spends a credit and, for a request, takes
the free tag; a weir token returns one token; a posted write of one block that is not full, which fits, opens an entry
of the write-combining buffer and sends nothing; the combining timeout closes the oldest entry, here the only one, and
queues its write; a read of one block that the grant rule and the slot let through is queued as a request. No other NI
changes. Where the spec leaves a choice, this follows the model's readings of log entries 31, 35. -/
def Obligations.NiInjection : Prop :=
  (∀ (n vc part urg : Nat) (o : Out) (s : State),
     (Instr.niInject n .none).wellFormed = true →
     s.Live →
     niKind n ≠ 4 →
     (s.dev.ni n).answers = [] →
     s.dev.host.flushReads = [] →
     (s.dev.ni n).atUnit = [] →
     owedMarks n s.dev = s.dev →
     (s.dev.ni n).out = [o] →
     o.kind ≠ .message →
     niCands s.dev.fcfg n (s.dev.ni n) = [{ pos := some 0, vc := vc, part := part, urg := urg }] →
     Completes (.niInject n .none) s fun t =>
       (t.ni n).out = [] ∧ (t.ni n).used.get 0 vc = (s.dev.ni n).used.get 0 vc + 1 ∧
         (t.net.wireR.get [] (8 * (niPlace n).1 + 6 + (niPlace n).2)).length =
           (s.dev.net.wireR.get [] (8 * (niPlace n).1 + 6 + (niPlace n).2)).length + 1 ∧
         (o.kind = .request → (t.ni n).tags.has (freeTag (s.dev.ni n)) = true) ∧
         (∀ i, i ≠ n → t.ni i = s.dev.ni i) ∧
         t = { s.dev with net := { s.dev.net with wireR := t.net.wireR }, nis := t.nis, probes := t.probes }) ∧
  (∀ (n p k i : Nat) (s : State),
     (Instr.weirToken n (.weir p k)).wellFormed = true →
     s.Live →
     weirRate s.dev.fcfg n p k = .every i →
     0 < (s.dev.ni n).spent.get 0 (4 * p + k) →
     Completes (.weirToken n (.weir p k)) s fun t =>
       (t.ni n).spent.get 0 (4 * p + k) = (s.dev.ni n).spent.get 0 (4 * p + k) - 1 ∧
         t.ni n = { s.dev.ni n with spent := (t.ni n).spent } ∧ (∀ i, i ≠ n → t.ni i = s.dev.ni i) ∧ t = { s.dev with nis := t.nis }) ∧
  (∀ (n part cls addr dest : Nat) (data : Bytes) (p : Packet) (s : State),
     (Instr.unitPostedWrite n part cls addr data).wellFormed = true →
     s.Live →
     p = { dest := dest, src := n, ty := 1, cls := cls, part := if n = 64 then 0 else part,
           addr := addr, size := data.length, data := data } →
     mayIssue n 1 = true →
     unitAdmits s.dev n p.part = true →
     wcbFits s.dev n p = true →
     splitBlocks 17 addr data.length = [(addr, data.length)] →
     addr % 256 + data.length < 256 →
     s.dev.fcfg.nat 0x2301 4 ≠ 0 →
     (s.dev.ni n).atUnit = [] →
     (s.dev.ni n).wcb = [] →
     s.dev.decodeAddr n addr = some dest →
     dest ≠ n →
     Completes (.unitPostedWrite n part cls addr data) s fun t =>
       (t.ni n).wcb = [{ pkt := p, isOpen := true }] ∧ (t.ni n).out = (s.dev.ni n).out ∧
         t.ni n = { s.dev.ni n with wcb := (t.ni n).wcb, regs := (t.ni n).regs } ∧ (∀ i, i ≠ n → t.ni i = s.dev.ni i) ∧ t = { s.dev with nis := t.nis }) ∧
  (∀ (n : Nat) (e : WcbEntry) (s : State),
     (Instr.combineTimeout n 0).wellFormed = true →
     s.Live →
     (s.dev.ni n).wcb = [e] →
     Completes (.combineTimeout n 0) s fun t =>
       (t.ni n).wcb = [] ∧ (t.ni n).out = (s.dev.ni n).out ++ [{ pkt := e.pkt, kind := .posted }] ∧
         t.ni n = { s.dev.ni n with wcb := [], out := (t.ni n).out } ∧ (∀ i, i ≠ n → t.ni i = s.dev.ni i) ∧ t = { s.dev with nis := t.nis }) ∧
  (∀ (n part cls addr size dest : Nat) (s : State),
     (Instr.unitNonpostedRequest n part 0 cls addr size []).wellFormed = true →
     s.Live →
     mayIssue n 0 = true →
     unitAdmits s.dev n part = true →
     slotOpen s.dev n part = true →
     lkRoom s.dev n 0 = true →
     splitBlocks 17 addr size = [(addr, size)] →
     (s.dev.ni n).atUnit = [] →
     (s.dev.ni n).wcb = [] →
     s.dev.decodeAddr n addr = some dest →
     dest ≠ n →
     Completes (.unitNonpostedRequest n part 0 cls addr size []) s fun t =>
       (t.ni n).out = (s.dev.ni n).out ++ [{
           pkt := { dest := dest, src := n, ty := 0, cls := cls, part := part, addr := addr, size := size }, kind := .request }] ∧
         t.ni n = { s.dev.ni n with out := (t.ni n).out } ∧ (∀ i, i ≠ n → t.ni i = s.dev.ni i) ∧ t = { s.dev with nis := t.nis })

/-- While FCLK runs, an unfenced MESSAGE or TIMED_MESSAGE of a class and length that it may have is queued with its
destination, queue, code and data; a fenced message of an NI that has nothing queued or waiting is kept with its
marks, which are queued first; with every mark answered it is queued with MSTAT and leaves the fence set empty; an
arriving message for a queue that the unit defines enters it; credits owed to a source are sent in one message,
repeated in another, and an answer within the share sets what has come back. The front message that an SE takes from
queue 2 leaves its queue, here without a FLUSH answer's code, and its credit is owed. No other NI changes. Where the
spec leaves a choice, this follows the model's readings of log entries 32, 33. -/
def Obligations.NiMessages : Prop :=
  (∀ (n part cls dest mq code relS relNs : Nat) (timed : Bool) (data : Bytes) (s : State),
     (Instr.unitMessage n timed part cls dest mq code data relS relNs).wellFormed = true →
     s.Live →
     mayIssue n (if timed then 5 else 4) = true →
     unitAdmits s.dev n part = true →
     cls ≠ 3 →
     ¬ (cls = 0 ∧ 16 < data.length) →
     Completes (.unitMessage n timed part cls dest mq code data relS relNs) s fun t =>
       (t.ni n).out = (s.dev.ni n).out ++ [{
           pkt := { messagePkt n part cls dest mq code data with ty := if timed then 5 else 4, relS := relS, relNs := relNs }
           kind := .message }] ∧
         t.ni n = { s.dev.ni n with out := (t.ni n).out } ∧ (∀ i, i ≠ n → t.ni i = s.dev.ni i) ∧ t = { s.dev with nis := t.nis }) ∧
  (∀ (n part cls dest mq code : Nat) (data : Bytes) (s : State),
     (Instr.fencedMessage n part cls dest mq code data).wellFormed = true →
     s.Live →
     mayIssue n 3 = true →
     unitAdmits s.dev n part = true →
     cls ≠ 3 →
     ¬ (cls = 0 ∧ 16 < data.length) →
     (s.dev.ni n).atUnit = [] →
     (s.dev.ni n).wcb = [] →
     (s.dev.ni n).out = [] →
     Completes (.fencedMessage n part cls dest mq code data) s fun t =>
       (t.ni n).out = marksFor n part (s.dev.ni n).fenceId ((s.dev.ni n).fenceSet.map (·.1)) ∧
         (t.ni n).fenced = (s.dev.ni n).fenced ++ [{
           id := (s.dev.ni n).fenceId
           pkt := messagePkt n part cls dest mq code data
           marks := (marksFor n part (s.dev.ni n).fenceId ((s.dev.ni n).fenceSet.map (·.1))).length }] ∧
         t.ni n = { s.dev.ni n with out := (t.ni n).out, fenced := (t.ni n).fenced, fenceId := (s.dev.ni n).fenceId + 1 } ∧ (∀ i, i ≠ n → t.ni i = s.dev.ni i) ∧ t = { s.dev with nis := t.nis }) ∧
  (∀ (n : Nat) (m : FencedMsg) (s : State),
     (Instr.fencedMessageInject n).wellFormed = true →
     s.Live →
     (s.dev.ni n).fenced.find? (fun k => k.marks == 0 && k.pkt.ty != 3) = some m →
     Completes (.fencedMessageInject n) s fun t =>
       (t.ni n).out = (s.dev.ni n).out ++ [{ pkt := { m.pkt with mstat := m.mstat }, kind := .message }] ∧
         (t.ni n).fenced = (s.dev.ni n).fenced.filter (fun k => k.id != m.id) ∧ (t.ni n).fenceSet = [] ∧
         t.ni n = { s.dev.ni n with out := (t.ni n).out, fenced := (t.ni n).fenced, fenceSet := [] } ∧ (∀ i, i ≠ n → t.ni i = s.dev.ni i) ∧ t = { s.dev with nis := t.nis }) ∧
  (∀ (n vc : Nat) (p : Packet) (s : State),
     (Instr.messageArrival n vc).wellFormed = true →
     s.Live →
     s.dev.front n vc = some (p, false) →
     p.ty = 4 →
     mqDefined n p.mq = true →
     s.dev.unitUp n = true →
     fenceApplies s.dev n p = false →
     Completes (.messageArrival n vc) s fun t =>
       (t.ni n).mq.get [] p.mq = (s.dev.ni n).mq.get [] p.mq ++ [p] ∧
         (∀ i, i ≠ n → t.ni i = s.dev.ni i) ∧
         t = { s.dev with nis := t.nis, net := { s.dev.net with credR := t.net.credR } }) ∧
  (∀ (n src : Nat) (s : State),
     (Instr.creditReturnSend n src).wellFormed = true →
     s.Live →
     owedTo (s.dev.ni n).owed src ≠ [] →
     Completes (.creditReturnSend n src) s fun t =>
       (t.ni n).out = (s.dev.ni n).out ++ [{
           pkt := messagePkt n 0 1 src 0xFF 0 (creditPairs (s.dev.ni n) (owedTo (s.dev.ni n).owed src)), kind := .own }] ∧
         (t.ni n).owed = (s.dev.ni n).owed.filter (fun e => !(owedTo (s.dev.ni n).owed src).contains e.1) ∧
         t.ni n = { s.dev.ni n with out := (t.ni n).out, owed := (t.ni n).owed, again := (t.ni n).again } ∧ (∀ i, i ≠ n → t.ni i = s.dev.ni i) ∧ t = { s.dev with nis := t.nis }) ∧
  (∀ (n src : Nat) (s : State),
     (Instr.creditReturnRepeat n src).wellFormed = true →
     s.Live →
     owedTo (s.dev.ni n).again src ≠ [] →
     Completes (.creditReturnRepeat n src) s fun t =>
       (t.ni n).out = (s.dev.ni n).out ++ [{
           pkt := messagePkt n 0 1 src 0xFF 0 (creditPairs (s.dev.ni n) (owedTo (s.dev.ni n).again src)), kind := .own }] ∧
         (t.ni n).again = (s.dev.ni n).again.filter (fun e => !(owedTo (s.dev.ni n).again src).contains e.1) ∧
         t.ni n = { s.dev.ni n with out := (t.ni n).out, again := (t.ni n).again } ∧ (∀ i, i ≠ n → t.ni i = s.dev.ni i) ∧ t = { s.dev with nis := t.nis }) ∧
  (∀ (n vc : Nat) (q v : Byte) (p : Packet) (s : State),
     (Instr.creditReturnReceive n vc).wellFormed = true →
     s.Live →
     s.dev.front n vc = some (p, false) →
     p.ty = 4 →
     p.mq = 0xFF →
     p.data = [q, v] →
     ((s.dev.ni n).sent.get 0 (256 * p.src + q.toNat) + 256 - v.toNat) % 256 ≤ (if q.toNat = 0xFE then 4 else 2) →
     Completes (.creditReturnReceive n vc) s fun t =>
       (t.ni n).freed.get 0 (256 * p.src + q.toNat) = v.toNat ∧ (∀ i, i ≠ n → t.ni i = s.dev.ni i) ∧
         t = { s.dev with nis := t.nis, net := { s.dev.net with credR := t.net.credR } }) ∧
  (∀ (n : Nat) (m : Packet) (rest : List Packet) (s : State),
     (Instr.mqDequeue n 2 .none).wellFormed = true →
     s.Ready →
     niKind n = 1 →
     (s.dev.ni n).mq.get [] 2 = m :: rest →
     s.dev.unitUp n = true →
     m.ty = 4 →
     m.mq = 2 →
     m.code ≠ 3 →
     Completes (.mqDequeue n 2 .none) s fun t =>
       (t.ni n).mq.get [] 2 = rest ∧ (t.ni n).owed.get false (256 * m.src + 2) = true ∧
         (∀ i, i ≠ n → t.ni i = s.dev.ni i) ∧ t = { s.dev with nis := t.nis })

/-- While FCLK runs, at a basin NI whose partition fence and power let it: a READ of its memory that is next to act
answers its bytes with status OK and leaves memory as it is; a posted WRITE of it that is next to act changes exactly
its bytes and sends nothing. A fence mark that is next to act at a powered NI other than NI 65, of a partition whose
fence does not apply, is answered OK. No other NI changes. Where the spec leaves a choice, this follows the model's
readings of log entries 3, 31. -/
def Obligations.NiTargets : Prop :=
  (∀ (n vc : Nat) (q : Packet) (s : State),
     (Instr.targetRequest n vc .none).wellFormed = true →
     s.Live →
     niKind n = 6 →
     s.dev.front n vc = some (q, false) →
     isNext s.dev n vc = true →
     q.ty = 0 →
     accepts n q.ty q.addr = true →
     regPlace n q.addr = .none →
     inQctx q.addr = false →
     s.dev.unitUp n = true →
     fenceApplies s.dev n q = false →
     Completes (.targetRequest n vc .none) s fun t =>
       (t.ni n).out = (s.dev.ni n).out ++ [{
           pkt := {
             dest := q.src, src := n, ty := 8, cls := q.cls, part := q.part, tag := q.tag, addr := q.addr % 256, size := q.size
             data := s.dev.memRead q.addr q.size, status := 0 }
           kind := .response }] ∧
         (∀ i, i ≠ n → t.ni i = s.dev.ni i) ∧
         t = { s.dev with nis := t.nis, net := { s.dev.net with credR := t.net.credR } }) ∧
  (∀ (n vc : Nat) (q : Packet) (s : State),
     (Instr.targetPostedWrite n vc).wellFormed = true →
     s.Live →
     niKind n = 6 →
     s.dev.front n vc = some (q, false) →
     isNext s.dev n vc = true →
     q.ty = 1 →
     accepts n q.ty q.addr = true →
     regPlace n q.addr = .none →
     inQctx q.addr = false →
     s.dev.unitUp n = true →
     fenceApplies s.dev n q = false →
     Completes (.targetPostedWrite n vc) s fun t =>
       Stored s.dev t q.addr q.data ∧
         (t.ni n).out = (s.dev.ni n).out ∧ (∀ i, i ≠ n → t.ni i = s.dev.ni i) ∧
         t = { s.dev with nis := t.nis, net := { s.dev.net with credR := t.net.credR }, mem := t.mem, undef := t.undef }) ∧
  (∀ (n vc : Nat) (q : Packet) (s : State),
     (Instr.fenceMarkAnswer n vc).wellFormed = true →
     s.Ready →
     n ≠ 65 →
     s.dev.front n vc = some (q, false) →
     isNext s.dev n vc = true →
     q.ty = 3 →
     s.dev.unitUp n = true →
     fenceApplies s.dev n q = false →
     Completes (.fenceMarkAnswer n vc) s fun t =>
       (t.ni n).out = (s.dev.ni n).out ++ [{
           pkt := {
             dest := q.src, src := n, ty := 9, cls := q.cls, part := q.part, tag := q.tag, addr := q.addr % 256, size := q.size }
           kind := .response }] ∧
         (∀ i, i ≠ n → t.ni i = s.dev.ni i) ∧
         t = { s.dev with nis := t.nis, net := { s.dev.net with credR := t.net.credR } })

/-- While FCLK runs, at an NI other than an HP's: the OK response of a request in flight that no issue order holds
back frees its tag and is delivered with its data; a request that waits for its retry is queued again with AGE 0 and
one reissue more; the timeout of a request whose response has not come delivers TGTERR, quarantines its tag and raises
0x4D. No other NI changes. Where the spec leaves a choice, this follows the model's readings of log entry 31. -/
def Obligations.NiTags : Prop :=
  (∀ (n vc : Nat) (r : Packet) (g : Tag) (s : State),
     (Instr.responseArrival n vc .none).wellFormed = true →
     s.Live →
     s.dev.front n vc = some (r, false) →
     r.ty = 8 →
     niKind n ≠ 3 →
     (s.dev.ni n).tags.find? r.tag = some g →
     g.st = .inFlight →
     g.req.dest = r.src →
     g.req.code < 3 →
     g.ordered = false →
     g.fence = none →
     r.status = 0 →
     Completes (.responseArrival n vc .none) s fun t =>
       (t.ni n).tags = (s.dev.ni n).tags.erase r.tag ∧
         (t.ni n).delivered = some { req := g.req, status := 0, data := r.data } ∧
         (∀ i, i ≠ n → t.ni i = s.dev.ni i) ∧
         t = { s.dev with nis := t.nis, net := { s.dev.net with credR := t.net.credR } }) ∧
  (∀ (n tag : Nat) (g : Tag) (s : State),
     (Instr.retryReissue n tag).wellFormed = true →
     s.Live →
     (s.dev.ni n).tags.find? tag = some g →
     g.st = .retryWait →
     Completes (.retryReissue n tag) s fun t =>
       (t.ni n).tags = (s.dev.ni n).tags.set tag { g with st := .reissue, reissues := g.reissues + 1 } ∧
         (t.ni n).out = (s.dev.ni n).out ++ [{ pkt := { g.req with age := 0 }, kind := .reissue tag }] ∧
         t.ni n = { s.dev.ni n with tags := (t.ni n).tags, out := (t.ni n).out, regs := (t.ni n).regs } ∧ (∀ i, i ≠ n → t.ni i = s.dev.ni i) ∧ t = { s.dev with nis := t.nis }) ∧
  (∀ (n tag : Nat) (g : Tag) (s : State),
     (Instr.responseTimeout n tag).wellFormed = true →
     s.Live →
     niKind n ≠ 3 →
     (s.dev.ni n).tags.find? tag = some g →
     g.st ≠ .quarantined →
     responseHere s.dev n tag = false →
     g.req.code < 3 →
     g.ordered = false →
     g.fence = none →
     s.dev.faults.inj.state ≠ 1 →
     Completes (.responseTimeout n tag) s fun t =>
       (t.ni n).tags = (s.dev.ni n).tags.set tag { g with st := .quarantined } ∧
         (t.ni n).delivered = some { req := g.req, status := 1, data := [] } ∧
         t.faults.crossing = s.dev.faults.crossing ++ [{ src := 0x4D, inst := n, part := g.req.part, cause := 0, injected := false }] ∧
         (∀ i, i ≠ n → t.ni i = s.dev.ni i) ∧ t = { s.dev with nis := t.nis, faults := t.faults })

/-- While FCLK runs: a timed message whose release lies ahead within the horizon, at an NI that holds such messages
and for a powered unit that takes it, is held; the one held message is released when the replica has reached its time;
a SYNC message within the allowed error notes the error and reports nothing; a write of an odd value to the clear
registers zeroes the decode-error record, the statistics, or the weir statistics of that NI. No other NI changes.
Where the spec leaves a choice, this follows the model's readings of log entries 33, 60. -/
def Obligations.NiTimeAndClears : Prop :=
  (∀ (n vc : Nat) (p : Packet) (s : State),
     (Instr.timedMessageArrival n vc).wellFormed = true →
     s.Live →
     s.dev.front n vc = some (p, false) →
     p.ty = 5 →
     hasHold n = true →
     s.dev.unitUp n = true →
     fenceApplies s.dev n p = false →
     timedDefined n p.mq p.code = true →
     s.dev.replica n < timeCount p.relS p.relNs →
     timeCount p.relS p.relNs - s.dev.replica n ≤ ((s.dev.fcfg.nat 0x2301 5 * 1500000 : Nat) : Int) →
     Completes (.timedMessageArrival n vc) s fun t =>
       (t.ni n).hold = (s.dev.ni n).hold ++ [{ pkt := p, late := false }] ∧ (t.ni n).released = (s.dev.ni n).released ∧
         (∀ i, i ≠ n → t.ni i = s.dev.ni i) ∧
         t = { s.dev with nis := t.nis, net := { s.dev.net with credR := t.net.credR } }) ∧
  (∀ (n : Nat) (h : Released) (s : State),
     (Instr.timedRelease n .none).wellFormed = true →
     s.Live →
     (s.dev.ni n).hold = [h] →
     h.late = false →
     timeCount h.pkt.relS h.pkt.relNs ≤ s.dev.replica n →
     Completes (.timedRelease n .none) s fun t =>
       (t.ni n).hold = [] ∧ (t.ni n).released = (s.dev.ni n).released ++ [h] ∧
         (∀ i, i ≠ n → t.ni i = s.dev.ni i) ∧ t = { s.dev with nis := t.nis }) ∧
  (∀ (n vc : Nat) (p : Packet) (s : State),
     (Instr.syncCheck n vc).wellFormed = true →
     s.Live →
     s.dev.front n vc = some (p, false) →
     p.ty = 4 →
     p.mq = 0xFE →
     p.code = 0 →
     n ≠ 64 →
     0 ≤ s.dev.replica n - (stampOf p.data + (2 * hops (niPlace 64).1 (niPlace n).1 + 6 : Nat)) →
     s.dev.replica n - (stampOf p.data + (2 * hops (niPlace 64).1 (niPlace n).1 + 6 : Nat))
       ≤ 90 - (2 * hops (niPlace 64).1 (niPlace n).1 : Nat) →
     Completes (.syncCheck n vc) s fun t =>
       (t.ni n).lastE = s.dev.replica n - (stampOf p.data + (2 * hops (niPlace 64).1 (niPlace n).1 + 6 : Nat)) ∧
         (t.ni n).outOfStep = (s.dev.ni n).outOfStep ∧ (t.ni n).out = (s.dev.ni n).out ∧
         (∀ i, i ≠ n → t.ni i = s.dev.ni i) ∧
         t = { s.dev with nis := t.nis, net := { s.dev.net with credR := t.net.credR }, timing := { s.dev.timing with largest := t.timing.largest } }) ∧
  (∀ (n value : Nat) (s : State),
     (Instr.niDecerrClr n value).wellFormed = true →
     s.Live →
     value % 2 = 1 →
     Completes (.niDecerrClr n value) s fun t =>
       (t.ni n).regs = ((s.dev.ni n).regs.erase 0x10).erase 0x18 ∧ (t.ni n).reg 0x10 = 0 ∧ (t.ni n).reg 0x18 = 0 ∧
         t.ni n = { s.dev.ni n with regs := (t.ni n).regs } ∧ (∀ i, i ≠ n → t.ni i = s.dev.ni i) ∧ t = { s.dev with nis := t.nis }) ∧
  (∀ (n value : Nat) (s : State),
     (Instr.niStatClr n value).wellFormed = true →
     s.Live →
     value % 2 = 1 →
     Completes (.niStatClr n value) s fun t =>
       (t.ni n).regs = (s.dev.ni n).regs.filter (fun e => decide (e.1 < 0x100 ∨ 0x4000 ≤ e.1)) ∧
         (∀ o, 0x100 ≤ o → o < 0x4000 → (t.ni n).reg o = 0) ∧
         t.ni n = { s.dev.ni n with regs := (t.ni n).regs } ∧ (∀ i, i ≠ n → t.ni i = s.dev.ni i) ∧ t = { s.dev with nis := t.nis }) ∧
  (∀ (n value : Nat) (s : State),
     (Instr.weirClr n value).wellFormed = true →
     s.Live →
     value % 2 = 1 →
     Completes (.weirClr n value) s fun t =>
       (t.ni n).regs = (s.dev.ni n).regs.filter (fun e => decide (e.1 < 0x4000 ∨ 0x5000 ≤ e.1)) ∧
         (∀ o, 0x4000 ≤ o → o < 0x5000 → (t.ni n).reg o = 0) ∧
         t.ni n = { s.dev.ni n with regs := (t.ni n).regs } ∧ (∀ i, i ≠ n → t.ni i = s.dev.ni i) ∧ t = { s.dev with nis := t.nis })

/-- A beat that LKC or LDMA alone writes into MSRAM, on an idle matrix that is not parked, is granted, changes exactly
its bytes and waits for its end; the end of an access of LKC, LDMA or DBG whose beats are all granted hands the answer
to its master, with an error where the target failed; a reset of the debug port drops DBG's access, answer and open
piece alone; REMAP is set while it reads 0 and frees the stored delayed reads; the edge of an interrupt line whose
forwarding is off sets its IRQ bit; a read of one block that LKC or LDMA sends to the fabric within its limit, and
that the grant rule and the slot let through, waits at NI 65 with the class of 0x2401:04. Nothing else changes. Where
the spec leaves a choice, this follows the model's readings of log entries 33, 36. -/
def Obligations.MatrixAccesses : Prop :=
  (∀ (m a n : Nat) (bs : Bytes) (s : State),
     (Instr.matrixArbitration [{ master := m, write := true, addr := a, len := n, data := bs, excl := false }] 0).wellFormed = true →
     s.Ready →
     m ≤ 1 →
     mxDecode s.dev.matrix.remap a = .msram →
     1 ≤ n →
     a % 8 + n ≤ 8 →
     bs.length = n →
     s.dev.matrix.acc = [] →
     s.dev.matrix.openBy = [] →
     s.dev.matrix.parked = false →
     s.dev.bridge.order = [] →
     s.dev.faults.inj.state ≠ 1 →
     Completes (.matrixArbitration [{ master := m, write := true, addr := a, len := n, data := bs, excl := false }] 0) s fun t =>
       Stored s.dev t (msramKey a) bs ∧
         t.matrix.acc = [(m, {
           write := true, addr := a, len := n, data := bs, excl := false, granted := 1, waiting := true, port := MxTarget.msram.port })] ∧
         t = { s.dev with matrix := t.matrix, bridge := t.bridge, mem := t.mem, undef := t.undef }) ∧
  (∀ (m : Nat) (fail : Bool) (x : MxAccess) (s : State),
     (Instr.matrixAccessComplete m fail .none).wellFormed = true →
     s.Ready →
     m ≠ 2 →
     s.dev.matrix.acc.find? m = some x →
     x.waiting = true →
     x.beats ≤ x.granted →
     Completes (.matrixAccessComplete m fail .none) s fun t =>
       t.matrix.acc = s.dev.matrix.acc.erase m ∧
         t.matrix.answer = s.dev.matrix.answer.set m { resp := if x.resp = 0 ∧ fail = true then 1 else x.resp, data := x.got } ∧
         t = { s.dev with matrix := { s.dev.matrix with acc := t.matrix.acc, answer := t.matrix.answer } }) ∧
  (∀ (s : State),
     (Instr.debugPortReset).wellFormed = true →
     s.Ready →
     Completes (.debugPortReset) s fun t =>
       t = { s.dev with matrix := { s.dev.matrix with
           held := false, acc := s.dev.matrix.acc.erase 3, answer := s.dev.matrix.answer.erase 3
           openBy := s.dev.matrix.openBy.filter fun e => e.2 != 3 } }) ∧
  (∀ (s : State),
     (Instr.remapSet).wellFormed = true →
     s.Ready →
     s.dev.matrix.remap = false →
     Completes (.remapSet) s fun t =>
       t.matrix = { s.dev.matrix with remap := true } ∧
         (∀ e, e ∈ t.bridge.entries → e.stored = false) ∧
         t = { s.dev with matrix := t.matrix, bridge := t.bridge }) ∧
  (∀ (line : Nat) (s : State),
     (Instr.interruptLineEdge line).wellFormed = true →
     s.Ready →
     bitOf (s.dev.fcfg.nat 0x2420 (line + 1)) 31 = false →
     Completes (.interruptLineEdge line) s fun t =>
       t = { s.dev with bridge := { s.dev.bridge with irq := setBit s.dev.bridge.irq line true } }) ∧
  (∀ (lkc : Bool) (addr size dest : Nat) (s : State),
     (Instr.lkOutboundRequest lkc 0 addr size [] false).wellFormed = true →
     s.Ready →
     lkRoom s.dev 65 (if lkc then 1 else 2) = true →
     unitAdmits s.dev 65 0 = true →
     slotOpen s.dev 65 0 = true →
     splitBlocks 17 addr size = [(addr, size)] →
     (s.dev.ni 65).atUnit = [] →
     (s.dev.ni 65).wcb = [] →
     s.dev.decodeAddr 65 addr = some dest →
     dest ≠ 65 →
     Completes (.lkOutboundRequest lkc 0 addr size [] false) s fun t =>
       (t.ni 65).out = (s.dev.ni 65).out ++ [{
           pkt := {
             dest := dest, src := 65, ty := 0, cls := s.dev.fcfg.nat 0x2401 4, part := 0, addr := addr, size := size
             code := if lkc then 1 else 2 }
           kind := .request }] ∧
         t = { s.dev with nis := t.nis })

/-- At a bridge with no delayed read held, a READ of the peripheral range that is not prefetchable, of a partition
whose fence does not apply, is taken as a delayed read, put in order and answered RETRY; the end of its matrix access
stores answer and status; the discard timer of a stored answer, here the only one, frees it and raises 0x24; a
fetch-ahead of the only stream starts its next line while the bridge is idle; a posted WRITE is put in order behind
what waits and sends nothing, and a buffered one that is performed without error leaves the order and nothing else.
Where the spec leaves a choice, this follows the model's readings of log entry 37. -/
def Obligations.BridgeAccesses : Prop :=
  (∀ (vc : Nat) (q : Packet) (s : State),
     (Instr.bridgeRead vc .none).wellFormed = true →
     s.Ready →
     s.dev.front 65 vc = some (q, false) →
     q.ty = 0 →
     q.addr < 0x40000000 →
     s.dev.bridge.blocked = false →
     s.dev.bridge.entries = [] →
     s.dev.unitUp 65 = true →
     fenceApplies s.dev 65 q = false →
     allPrefetch s.dev q = false →
     Completes (.bridgeRead vc .none) s fun t =>
       t.bridge.entries = [{ id := s.dev.bridge.nextId, req := q }] ∧
         t.bridge.order = s.dev.bridge.order ++ [.fetch s.dev.bridge.nextId] ∧
         (t.ni 65).out = (s.dev.ni 65).out ++ [{
           pkt := {
             dest := q.src, src := 65, ty := 9, cls := q.cls, part := q.part, tag := q.tag, addr := q.addr % 256, size := q.size
             status := 3 }
           kind := .response }] ∧
         t = { s.dev with nis := t.nis, bridge := t.bridge, net := { s.dev.net with credR := t.net.credR } }) ∧
  (∀ (i : Nat) (rest : List BridgeOp) (ans : MxAnswer) (e : DelayedRead) (s : State),
     (Instr.bridgeFetchDone).wellFormed = true →
     s.Ready →
     s.dev.matrix.answer.find? 2 = some ans →
     s.dev.bridge.job = .front →
     s.dev.bridge.order = .fetch i :: rest →
     s.dev.bridge.entries = [e] →
     e.id = i →
     Completes (.bridgeFetchDone) s fun t =>
       t.bridge = { s.dev.bridge with
           job := .idle, drop := false, order := rest
           entries := [{ e with stored := true, status := mxStatus ans.resp, data := ans.data }] } ∧
         t = { s.dev with bridge := t.bridge, matrix := { s.dev.matrix with answer := s.dev.matrix.answer.erase 2 } }) ∧
  (∀ (e : DelayedRead) (s : State),
     (Instr.delayedReadDiscard 0).wellFormed = true →
     s.Ready →
     s.dev.bridge.entries = [e] →
     e.stored = true →
     s.dev.faults.inj.state ≠ 1 →
     Completes (.delayedReadDiscard 0) s fun t =>
       t.bridge.entries = [] ∧
         t.faults.crossing = s.dev.faults.crossing ++ [{ src := 0x24, inst := 0xFF, part := e.req.part, cause := 0, injected := false }] ∧
         t = { s.dev with bridge := { s.dev.bridge with entries := [], counts := t.bridge.counts }, faults := t.faults }) ∧
  (∀ (src l : Nat) (rest : List Nat) (st : PfStream) (s : State),
     (Instr.prefetchFetchAhead src).wellFormed = true →
     s.Ready →
     s.dev.bridge.job = .idle →
     s.dev.bridge.order = [] →
     s.dev.matrix.acc.has 2 = false →
     s.dev.bridge.streams = [st] →
     st.src = src →
     st.ahead = l :: rest →
     Completes (.prefetchFetchAhead src) s fun t =>
       t.bridge = { s.dev.bridge with job := .ahead src l true, streams := [{ st with ahead := rest }] } ∧
         t.matrix = { s.dev.matrix with
           acc := s.dev.matrix.acc.set 2 { write := false, addr := l, len := 64, data := [], excl := false } } ∧
         t = { s.dev with bridge := t.bridge, matrix := t.matrix }) ∧
  (∀ (vc : Nat) (q : Packet) (s : State),
     (Instr.bridgeWrite vc).wellFormed = true →
     s.Ready →
     s.dev.front 65 vc = some (q, false) →
     q.ty = 1 →
     q.addr < 0x40000000 →
     s.dev.bridge.blocked = false →
     s.dev.unitUp 65 = true →
     fenceApplies s.dev 65 q = false →
     s.dev.bridge.entries = [] →
     s.dev.bridge.streams = [] →
     Completes (.bridgeWrite vc) s fun t =>
       t.bridge.order = s.dev.bridge.order ++ [.write q (allPosted s.dev q)] ∧ (t.ni 65).out = (s.dev.ni 65).out ∧
         t = { s.dev with nis := t.nis, bridge := t.bridge, net := { s.dev.net with credR := t.net.credR } }) ∧
  (∀ (q : Packet) (rest : List BridgeOp) (ans : MxAnswer) (s : State),
     (Instr.postedWritePerform .none).wellFormed = true →
     s.Ready →
     s.dev.bridge.order = .write q true :: rest →
     s.dev.bridge.job = .front →
     s.dev.matrix.answer.find? 2 = some ans →
     ans.resp = 0 →
     Completes (.postedWritePerform .none) s fun t =>
       t = { s.dev with
           bridge := { s.dev.bridge with order := rest, job := .idle, drop := false }
           matrix := { s.dev.matrix with answer := s.dev.matrix.answer.erase 2 } })

/-- A running NOP or FENCE of a queue that passes the field checks ends with STATUS 0 and RESULT 0, a NOTIFY with
operand C as its RESULT; a WAIT_TIME whose time lies ahead within the horizon waits, one whose time has passed ends at
once with LATE; and WAIT_TIME_REACHED ends the first command of its queue, a waiting WAIT_TIME whose time the replica
has reached. Only that command of that SE changes. Where the spec leaves a choice, this follows the model's readings
of log entry 40. -/
def Obligations.CommandsEnd : Prop :=
  (∀ (q : Nat) (x : Queue) (pre : List Cmd) (k : Cmd) (post : List Cmd) (s : State),
     (Instr.nop q).wellFormed = true →
     s.Ready →
     s.dev.queue? q = some x →
     RunsAt s.dev q 0 pre k post →
     fieldFault 0 k.index k.bytes = none →
     Completes (.nop q) s fun t =>
       SeHolds s.dev t (seOf q) (pre ++ { k with st := .done, status := 0, detail := 0, result := 0 } :: post) ∧
         t = { s.dev with queues := { s.dev.queues with se := t.queues.se } }) ∧
  (∀ (q : Nat) (x : Queue) (pre : List Cmd) (k : Cmd) (post : List Cmd) (s : State),
     (Instr.notify q).wellFormed = true →
     s.Ready →
     s.dev.queue? q = some x →
     RunsAt s.dev q 6 pre k post →
     fieldFault 6 k.index k.bytes = none →
     Completes (.notify q) s fun t =>
       SeHolds s.dev t (seOf q) (pre ++ { k with st := .done, status := 0, detail := 0, result := k.c } :: post) ∧
         t = { s.dev with queues := { s.dev.queues with se := t.queues.se } }) ∧
  (∀ (q : Nat) (x : Queue) (pre : List Cmd) (k : Cmd) (post : List Cmd) (s : State),
     (Instr.fenceCmd q).wellFormed = true →
     s.Ready →
     s.dev.queue? q = some x →
     RunsAt s.dev q 4 pre k post →
     fieldFault 4 k.index k.bytes = none →
     Completes (.fenceCmd q) s fun t =>
       SeHolds s.dev t (seOf q) (pre ++ { k with st := .done, status := 0, detail := 0, result := 0 } :: post) ∧
         t = { s.dev with queues := { s.dev.queues with se := t.queues.se } }) ∧
  (∀ (q : Nat) (x : Queue) (pre : List Cmd) (k : Cmd) (post : List Cmd) (s : State),
     (Instr.waitTime q).wellFormed = true →
     s.Ready →
     s.dev.queue? q = some x →
     RunsAt s.dev q 8 pre k post →
     fieldFault 8 k.index k.bytes = none →
     k.c < 1000000000 →
     beyondHorizon s.dev (seNi (seOf q)) k.b k.c = false →
     Completes (.waitTime q) s fun t =>
       SeHolds s.dev t (seOf q) (pre ++
           (if timeCount k.b k.c ≤ s.dev.replica (seNi (seOf q)) then
             { k with st := .done, status := 0, detail := 0, result := 0, late := true }
           else { k with st := .waiting }) :: post) ∧
         t = { s.dev with queues := { s.dev.queues with se := t.queues.se } }) ∧
  (∀ (q : Nat) (pre : List Cmd) (k : Cmd) (post : List Cmd) (s : State),
     (Instr.waitTimeReached q).wellFormed = true →
     s.Ready →
     (s.dev.eng (seOf q)).cmds = pre ++ k :: post →
     k.q = q →
     k.st = .waiting →
     k.bytes.le 0 1 = 8 →
     (∀ j, j ∈ pre → j.q ≠ q) →
     timeCount k.b k.c ≤ s.dev.replica (seNi (seOf q)) →
     Completes (.waitTimeReached q) s fun t =>
       SeHolds s.dev t (seOf q) (pre ++ { k with st := .done, status := 0, detail := 0, result := 0 } :: post) ∧
         t = { s.dev with queues := { s.dev.queues with se := t.queues.se } })

/-- COPY_INLINE presents its inline bytes at A as a posted WRITE at its SE's NI, FILL the pattern of B over its span;
COPY first issues the READ of its span at B and, once it is answered OK, presents the bytes that it brought at A.
Where no block of the span meets the default target, each then ends with STATUS 0 (COPY with its length as RESULT) and
has its destinations noted for its marks. FLUSH sends one message for its range to each of the four HP NIs and waits
for four answers. Nothing but that command, the NIs and the fault events changes. Where the spec leaves a choice, this
follows the model's readings of log entries 16, 33. -/
def Obligations.CommandsWrite : Prop :=
  (∀ (q : Nat) (x : Queue) (pre : List Cmd) (k : Cmd) (post : List Cmd) (bs : Bytes) (s : State),
     (Instr.copyInline q).wellFormed = true →
     s.Ready →
     s.dev.queue? q = some x →
     RunsAt s.dev q 2 pre k post →
     fieldFault 2 k.index k.bytes = none →
     spanFault s.dev.fcfg x.part k.a (k.bytes.le 2 2) = 0 →
     bs = k.bytes.slice 32 (k.bytes.le 2 2) →
     meetsDefault s.dev (seNi (seOf q)) k.a bs.length = false →
     Completes (.copyInline q) s fun t =>
       Writes s.dev t (seNi (seOf q)) x.part x.cls k.a bs ∧
         SeHolds s.dev t (seOf q) (pre ++ { k with
           st := .done, status := 0, detail := 0, result := 0, wrote := writtenTo s.dev (seNi (seOf q)) x.cls k.a bs.length } :: post) ∧
         t = { s.dev with queues := { s.dev.queues with se := t.queues.se }, nis := t.nis, faults := t.faults }) ∧
  (∀ (q : Nat) (x : Queue) (pre : List Cmd) (k : Cmd) (post : List Cmd) (bs : Bytes) (s : State),
     (Instr.fillCmd q).wellFormed = true →
     s.Ready →
     s.dev.queue? q = some x →
     RunsAt s.dev q 3 pre k post →
     fieldFault 3 k.index k.bytes = none →
     k.c ≠ 0 →
     spanFault s.dev.fcfg x.part k.a k.c = 0 →
     bs = fillBytes k.a k.c k.b →
     meetsDefault s.dev (seNi (seOf q)) k.a bs.length = false →
     Completes (.fillCmd q) s fun t =>
       Writes s.dev t (seNi (seOf q)) x.part x.cls k.a bs ∧
         SeHolds s.dev t (seOf q) (pre ++ { k with
           st := .done, status := 0, detail := 0, result := 0, wrote := writtenTo s.dev (seNi (seOf q)) x.cls k.a bs.length } :: post) ∧
         t = { s.dev with queues := { s.dev.queues with se := t.queues.se }, nis := t.nis, faults := t.faults }) ∧
  (∀ (q : Nat) (x : Queue) (pre : List Cmd) (k : Cmd) (post : List Cmd) (s : State),
     (Instr.copy q).wellFormed = true →
     s.Ready →
     s.dev.queue? q = some x →
     RunsAt s.dev q 1 pre k post →
     fieldFault 1 k.index k.bytes = none →
     k.c ≠ 0 →
     overlaps k.a k.c k.b k.c = false →
     spanFault s.dev.fcfg x.part k.a k.c = 0 →
     spanFault s.dev.fcfg x.part k.b k.c = 0 →
     readState s.dev (seNi (seOf q)) (queueKey q k.index 2) [(k.b, k.c)] = .idle →
     Completes (.copy q) s fun t =>
       t = engineRead (seNi (seOf q)) x.part x.cls (queueKey q k.index 2) [(k.b, k.c)] s.dev) ∧
  (∀ (q : Nat) (x : Queue) (pre : List Cmd) (k : Cmd) (post : List Cmd) (bs : Bytes) (s : State),
     (Instr.copy q).wellFormed = true →
     s.Ready →
     s.dev.queue? q = some x →
     RunsAt s.dev q 1 pre k post →
     fieldFault 1 k.index k.bytes = none →
     readState s.dev (seNi (seOf q)) (queueKey q k.index 2) [(k.b, k.c)] = .done 0 bs →
     meetsDefault s.dev (seNi (seOf q)) k.a bs.length = false →
     Completes (.copy q) s fun t =>
       Writes (takeAnswers (seNi (seOf q)) (queueKey q k.index 2) s.dev) t (seNi (seOf q)) x.part x.cls k.a bs ∧
         SeHolds s.dev t (seOf q) (pre ++ { k with
           st := .done, status := 0, detail := 0, result := k.c, wrote := writtenTo s.dev (seNi (seOf q)) x.cls k.a bs.length } :: post) ∧
         t = { s.dev with queues := { s.dev.queues with se := t.queues.se }, nis := t.nis, faults := t.faults }) ∧
  (∀ (q : Nat) (x : Queue) (pre : List Cmd) (k : Cmd) (post : List Cmd) (s : State),
     (Instr.flushCmd q).wellFormed = true →
     s.Ready →
     s.dev.queue? q = some x →
     RunsAt s.dev q 5 pre k post →
     fieldFault 5 k.index k.bytes = none →
     k.c ≠ 0 →
     spanFault s.dev.fcfg x.part k.a k.c = 0 →
     Completes (.flushCmd q) s fun t =>
       SeHolds s.dev t (seOf q) (pre ++ { k with
           st := .waiting, need := 4, wrote := if k.a < 0x40000000 then [byte 65, byte x.cls] else [] } :: post) ∧
         t.ni (seNi (seOf q)) = { s.dev.ni (seNi (seOf q)) with
           out := (s.dev.ni (seNi (seOf q))).out ++
             [0, 1, 2, 3].map fun h => { pkt := flushMessage q x.part h k.a k.c, kind := .message } } ∧
         NiOnly s.dev t (seNi (seOf q)) ∧
         t = { s.dev with queues := { s.dev.queues with se := t.queues.se }, nis := t.nis })

/-- COMPLETION_WRITE of a queue whose oldest command has ended and owes no mark, where its completion queue has room
and asks for no interrupt, presents the 16 bytes of the completion at the entry that PI names as a posted WRITE,
advances PI, PHASE and UNSIG of the completion queue, counts it and frees the command; of one that has written and
whose marks are not asked for yet, it asks for the marks. CQ_MODERATION_TIMEOUT keeps the interrupt of a completion
queue with unsignalled completions as a fenced message, at an NI with nothing before it. CONTEXT_WRITEBACK presents
the 64 context bytes at the queue's place in the basin. Where the spec leaves a choice, this follows the model's
readings of log entries 16, 33, 40. -/
def Obligations.Completions : Prop :=
  (∀ (q : Nat) (x y : Queue) (k : Cmd) (post : List Cmd) (s : State),
     (Instr.completionWrite q .none).wellFormed = true →
     s.Ready →
     s.dev.queue? q = some x →
     s.dev.queue? x.cq = some y →
     seOf x.cq = seOf q →
     (s.dev.eng (seOf q)).cmds = k :: post →
     k.q = q →
     k.st = .done →
     k.wrote = [] →
     ¬ (k.status = 0 ∧ bitOf (k.bytes.le 1 1) 1 = true) →
     k.status ≠ 7 →
     ¬ (k.cop = 0x42 ∧ k.status = 0) →
     y.cqRoom = true →
     y.vector = 0xFFFF →
     Completes (.completionWrite q .none) s fun t =>
       Writes s.dev t (seNi (seOf q)) y.part y.cls (y.base + 16 * (y.pi % y.depth)) (cplBytes k.cpl y.phase) ∧
         t.queues.q = s.dev.queues.q.set x.cq { y with
           pi := (y.pi + 1) % 65536
           phase := if (y.pi + 1) % 65536 % y.depth = 0 then !y.phase else y.phase
           unsig := y.unsig + 1 } ∧
         (t.eng (seOf q)).cmds = post ∧
         (t.eng (seOf q)).counts = (s.dev.eng (seOf q)).counts.modify 0 5 (fun v => satAdd 32 v 1) ∧
         (∀ i, i ≠ seOf q → t.eng i = s.dev.eng i) ∧
         t = { s.dev with queues := { s.dev.queues with q := t.queues.q, se := t.queues.se }, nis := t.nis, faults := t.faults }) ∧
  (∀ (q : Nat) (x : Queue) (k : Cmd) (post : List Cmd) (s : State),
     (Instr.completionWrite q .none).wellFormed = true →
     s.Ready →
     s.dev.queue? q = some x →
     (s.dev.eng (seOf q)).cmds = k :: post →
     k.q = q →
     k.st = .done →
     k.wrote ≠ [] →
     marksDone s.dev (seNi (seOf q)) (queueKey q k.index 3) = none →
     marksAsked s.dev (seNi (seOf q)) (queueKey q k.index 3) = false →
     Completes (.completionWrite q .none) s fun t =>
       t = askMarks (seNi (seOf q)) x.part (queueKey q k.index 3) (if k.cop = 5 then 1 else 0) k.wrote s.dev) ∧
  (∀ (cq : Nat) (x : Queue) (s : State),
     (Instr.cqModerationTimeout cq).wellFormed = true →
     s.Ready →
     s.dev.queue? cq = some x →
     x.kind = 1 →
     x.vector ≠ 0xFFFF →
     x.mtime ≠ 0 →
     0 < x.unsig →
     s.dev.queues.sig.has cq = false →
     (s.dev.ni (seNi (seOf cq))).atUnit = [] →
     (s.dev.ni (seNi (seOf cq))).wcb = [] →
     (s.dev.ni (seNi (seOf cq))).out = [] →
     (s.dev.ni (seNi (seOf cq))).fenceSet = [] →
     Completes (.cqModerationTimeout cq) s fun t =>
       (t.ni (seNi (seOf cq))).fenced = (s.dev.ni (seNi (seOf cq))).fenced ++ [{
           id := (s.dev.ni (seNi (seOf cq))).fenceId
           pkt := { irqMessage (seNi (seOf cq)) (40 + x.part % 4) x.part x.part x.vector with
             data := (irqMessage (seNi (seOf cq)) (40 + x.part % 4) x.part x.part x.vector).data ++ leBytes 2 cq }
           marks := 0 }] ∧
         t.queues.sig = s.dev.queues.sig.set cq { count := x.unsig } ∧ NiOnly s.dev t (seNi (seOf cq)) ∧
         t = { s.dev with queues := { s.dev.queues with sig := t.queues.sig }, nis := t.nis }) ∧
  (∀ (q : Nat) (x : Queue) (s : State),
     (Instr.contextWriteback q).wellFormed = true →
     s.Ready →
     s.dev.queue? q = some x →
     Completes (.contextWriteback q) s fun t =>
       Writes s.dev t (seNi (seOf q)) x.part 1 (contextAddr q) (contextBytes x (s.dev.active q)) ∧
         t = { s.dev with nis := t.nis, faults := t.faults })

/-- COMMAND_FETCH of a queue whose SE may fetch its next entry issues the READ of its 64 bytes, here with no command
at the SE; once it is answered OK and no extended entry stands there, the entry enters its SE and CI advances.
DOORBELL_NOTICE with a valid index sets PI of a queue (CI of a completion queue) and counts it. CREATE_QUEUE that
passes every check makes the queue, enabled with PI = CI = 0, and presents its context; MODIFY_CQ of a completion
queue of the partition ends its command, and VECTOR, MCOUNT and MTIME change when COMPLETION_WRITE writes its
completion; QUERY_QUEUE answers PI, CI and STATE. Where the spec leaves a choice, this follows the model's readings of
log entries 16, 40. -/
def Obligations.QueueAdministration : Prop :=
  (∀ (q : Nat) (x : Queue) (s : State),
     (Instr.commandFetch q false).wellFormed = true →
     s.Ready →
     s.dev.queue? q = some x →
     mayFetch s.dev x q = true →
     (s.dev.eng (seOf q)).cmds = [] →
     readState s.dev (seNi (seOf q)) (queueKey q x.ci 0) [(x.base + 64 * (x.ci % x.depth), 64)] = .idle →
     Completes (.commandFetch q false) s fun t =>
       t = engineRead (seNi (seOf q)) x.part x.cls (queueKey q x.ci 0) [(x.base + 64 * (x.ci % x.depth), 64)] s.dev) ∧
  (∀ (q : Nat) (x : Queue) (bs : Bytes) (s : State),
     (Instr.commandFetch q false).wellFormed = true →
     s.Ready →
     s.dev.queue? q = some x →
     mayFetch s.dev x q = true →
     x.kind ≠ 3 →
     readState s.dev (seNi (seOf q)) (queueKey q x.ci 0) [(x.base + 64 * (x.ci % x.depth), 64)] = .done 0 bs →
     bitOf (bs.le 1 1) 0 = false →
     Completes (.commandFetch q false) s fun t =>
       t.queue? q = some { x with ci := (x.ci + 1) % 65536 } ∧ (∀ i, i ≠ q → t.queue? i = s.dev.queue? i) ∧
         (t.eng (seOf q)).cmds.map (fun k => (k.q, k.index, k.bytes)) =
           (s.dev.eng (seOf q)).cmds.map (fun k => (k.q, k.index, k.bytes)) ++ [(q, x.ci, bs)] ∧
         (∀ i, i ≠ seOf q → t.eng i = s.dev.eng i) ∧
         t = { s.dev with
           queues := { s.dev.queues with q := t.queues.q, se := t.queues.se }
           nis := (takeAnswers (seNi (seOf q)) (queueKey q x.ci 0) s.dev).nis
           faults := { s.dev.faults with crossing := t.faults.crossing, inj := t.faults.inj } }) ∧
  (∀ (n q i : Nat) (x : Queue) (m : Packet) (rest : List Packet) (s : State),
     (Instr.doorbellNotice n .none).wellFormed = true →
     s.Ready →
     (s.dev.ni (seNi n)).mq.get [] 0 = m :: rest →
     m.code = 1 →
     m.data.le 0 2 = q →
     m.data.le 2 2 = i →
     s.dev.queue? q = some x →
     x.state = 1 →
     seOf q = n →
     noticeValid x i = true →
     Completes (.doorbellNotice n .none) s fun t =>
       t.queue? q = some (if x.kind = 1 then { x with ci := i } else { x with pi := i }) ∧
         (∀ j, j ≠ q → t.queue? j = s.dev.queue? j) ∧
         t.eng n = { s.dev.eng n with counts := (s.dev.eng n).counts.modify 0 3 (fun v => satAdd 32 v 1) } ∧
         (∀ j, j ≠ n → t.eng j = s.dev.eng j) ∧ (t.ni (seNi n)).mq.get [] 0 = rest ∧ NiOnly s.dev t (seNi n) ∧
         t = { s.dev with queues := { s.dev.queues with q := t.queues.q, se := t.queues.se }, nis := t.nis }) ∧
  (∀ (p aq q kind log2 cls limit cq base : Nat) (y : Queue) (pre : List Cmd) (k : Cmd) (post : List Cmd) (s : State),
     (Instr.createQueue p).wellFormed = true →
     s.Ready →
     adminOf s.dev p = some aq →
     RunsAt s.dev aq 0x40 pre k post →
     k.bytes.le 1 1 < 8 ∧ bitOf (k.bytes.le 1 1) 0 = false →
     anySet k.bytes 2 4 = false ∧ anySet k.bytes 27 28 = false ∧ anySet k.bytes 30 32 = false →
     k.bytes.le 8 2 = q ∧ k.bytes.le 10 1 = kind ∧ k.bytes.le 11 1 = log2 ∧ k.bytes.le 12 1 = cls →
     k.bytes.le 13 1 = limit ∧ k.bytes.le 14 2 = cq ∧ k.bytes.le 16 8 = base →
     blockOwner s.dev.fcfg (q / 256) = p →
     isAdminQueue s.dev q = false →
     s.dev.queue? q = none →
     (kind ≠ 1 → namesCq s.dev p q cq = true) →
     s.dev.created p < s.dev.fcfg.nat 0x2730 (p + 1) →
     kind < 5 →
     4 ≤ log2 ∧ log2 ≤ 15 →
     1 ≤ cls ∧ cls ≤ 3 →
     (if kind = 0 ∨ kind = 4 then 1 ≤ limit ∧ limit ≤ 16 else limit = 0) →
     (kind = 1 → cq = 0xFFFF) →
     base % 4096 = 0 ∧ base < 2 ^ 48 →
     (kind ≠ 1 → anySet k.bytes 24 27 = false ∧ anySet k.bytes 28 30 = false) →
     kindCheck s.dev p q kind (k.bytes.slice 32 32) = (0, 0) →
     spanFault s.dev.fcfg p base (2 ^ log2 * (if kind = 1 then 16 else if kind = 2 then (k.bytes.slice 32 32).le 4 4 else 64)) = 0 →
     y = {
       base := base, log2 := log2, kind := kind, cls := cls, part := p, cq := cq, limit := limit
       vector := (if kind = 1 then k.bytes.le 24 2 else 0), mcount := (if kind = 1 then k.bytes.le 26 1 else 0)
       mtime := (if kind = 1 then k.bytes.le 28 2 else 0), kparam := k.bytes.slice 32 32 } →
     Completes (.createQueue p) s fun t =>
       t.queue? q = some y ∧ (∀ j, j ≠ q → t.queue? j = s.dev.queue? j) ∧
         Writes s.dev t (seNi (seOf q)) p 1 (contextAddr q) (contextBytes y (s.dev.active q)) ∧
         SeHolds s.dev t (seOf aq) (pre ++ { k with st := .done, status := 0, detail := 0, result := 0 } :: post) ∧
         t = { s.dev with
           queues := { s.dev.queues with q := t.queues.q, se := t.queues.se }, nis := t.nis, faults := t.faults
           conv := if kind = 2 then { s.dev.conv with stream := t.conv.stream } else s.dev.conv }) ∧
  (∀ (p aq q : Nat) (x : Queue) (pre : List Cmd) (k : Cmd) (post : List Cmd) (s : State),
     (Instr.modifyCq p).wellFormed = true →
     s.Ready →
     adminOf s.dev p = some aq →
     RunsAt s.dev aq 0x42 pre k post →
     k.bytes.le 1 1 < 8 ∧ bitOf (k.bytes.le 1 1) 0 = false →
     anySet k.bytes 2 4 = false ∧ anySet k.bytes 10 24 = false ∧ anySet k.bytes 27 28 = false ∧ anySet k.bytes 30 64 = false →
     k.bytes.le 8 2 = q →
     s.dev.queue? q = some x →
     x.part = p →
     x.kind = 1 →
     x.admin = false →
     x.state = 1 →
     Completes (.modifyCq p) s fun t =>
       SeHolds s.dev t (seOf aq) (pre ++ { k with st := .done, status := 0, detail := 0, result := 0 } :: post) ∧
         t = { s.dev with queues := { s.dev.queues with se := t.queues.se } }) ∧
  (∀ (q m : Nat) (x y z : Queue) (k : Cmd) (post : List Cmd) (s : State),
     (Instr.completionWrite q .none).wellFormed = true →
     s.Ready →
     s.dev.queue? q = some x →
     s.dev.queue? x.cq = some y →
     seOf x.cq = seOf q →
     (s.dev.eng (seOf q)).cmds = k :: post →
     k.q = q →
     k.st = .done →
     k.wrote = [] →
     k.cop = 0x42 →
     k.status = 0 →
     bitOf (k.bytes.le 1 1) 1 = false →
     y.cqRoom = true →
     y.vector = 0xFFFF →
     k.bytes.le 8 2 = m →
     m ≠ x.cq →
     s.dev.queue? m = some z →
     z.unsig = 0 ∨ z.unsig < k.bytes.le 26 1 →
     Completes (.completionWrite q .none) s fun t =>
       t.queue? m = some { z with vector := k.bytes.le 24 2, mcount := k.bytes.le 26 1, mtime := k.bytes.le 28 2 } ∧
         t.queue? x.cq = some { y with
           pi := (y.pi + 1) % 65536
           phase := if (y.pi + 1) % 65536 % y.depth = 0 then !y.phase else y.phase
           unsig := y.unsig + 1 } ∧
         (∀ j, j ≠ m → j ≠ x.cq → t.queue? j = s.dev.queue? j) ∧
         (t.eng (seOf q)).cmds = post ∧ (∀ i, i ≠ seOf q → t.eng i = s.dev.eng i) ∧
         (∀ i, i ≠ seNi (seOf q) → i ≠ seNi (seOf m) → t.ni i = s.dev.ni i) ∧
         t = { s.dev with queues := { s.dev.queues with q := t.queues.q, se := t.queues.se }, nis := t.nis, faults := t.faults }) ∧
  (∀ (p aq q : Nat) (x : Queue) (pre : List Cmd) (k : Cmd) (post : List Cmd) (s : State),
     (Instr.queryQueue p).wellFormed = true →
     s.Ready →
     adminOf s.dev p = some aq →
     RunsAt s.dev aq 0x43 pre k post →
     k.bytes.le 1 1 < 8 ∧ bitOf (k.bytes.le 1 1) 0 = false →
     anySet k.bytes 2 4 = false ∧ anySet k.bytes 10 64 = false →
     k.bytes.le 8 2 = q →
     blockOwner s.dev.fcfg (q / 256) = p →
     s.dev.queue? q = some x →
     Completes (.queryQueue p) s fun t =>
       SeHolds s.dev t (seOf aq) (pre ++ { k with st := .done, status := 0, detail := x.state, result := x.pi + 65536 * x.ci } :: post) ∧
         t = { s.dev with queues := { s.dev.queues with se := t.queues.se } })

/-- A 64-bit write of WINDOW_BASE whose bits [25:1] and [63:48] are 0 sets WINDOW_BASE; a 64-bit write with one of
them set and a 32-bit write change no register and raise fault source 0x8B; a read of WINDOW_BASE returns the
value that the last accepted write set. Nothing else changes. -/
def Obligations.WindowBase : Prop :=
  (∀ (f : Nat) (data : Bytes) (s : State),
     (Instr.windowBaseWrite f data false).wellFormed = true →
     s.Ready →
     s.dev.door f 0 = .serve →
     data.length = 8 →
     bitsOf data.toNat 25 1 = 0 →
     bitsOf data.toNat 63 48 = 0 →
     Completes (.windowBaseWrite f data false) s fun t =>
       pcRead t f 8 = data.toNat ∧ t.fn f = { s.dev.fn f with window := data.toNat } ∧ (∀ g, g ≠ f → t.fn g = s.dev.fn g) ∧
         t = { s.dev with host := { s.dev.host with fn := t.host.fn } }) ∧
  (∀ (f : Nat) (data : Bytes) (s : State),
     (Instr.windowBaseWrite f data false).wellFormed = true →
     s.Ready →
     s.dev.door f 0 = .serve →
     data.length = 8 ∨ data.length = 4 →
     ¬ (data.length = 8 ∧ bitsOf data.toNat 25 1 = 0 ∧ bitsOf data.toNat 63 48 = 0) →
     Completes (.windowBaseWrite f data false) s fun t =>
       pcRead t f 8 = pcRead s.dev f 8 ∧
         (∃ i, t.faults.crossing = s.dev.faults.crossing ++ [{ src := 0x8B, inst := hpOf f, part := f, cause := 0, injected := i }]) ∧
         t = { s.dev with faults := { s.dev.faults with crossing := t.faults.crossing, inj := t.faults.inj } })

/-- A whole doorbell write of a function of an unfenced partition that owns the queue enters the coalescing store of
its HP NI, and one for a pending queue replaces its index, is counted, and takes back a notice that has not been
injected. While FCLK runs, at an HP NI that has nothing queued or waiting, DOORBELL_NOTICE_SEND sends the first entry
without a notice as a fenced message to MQ 0 of the queue's SE, and FLUSH_HP empties the lines that the range overlaps
and sends its answer fenced. PC_CLR clears the refusal registers of one function. Where the spec leaves a choice, this
follows the model's readings of log entries 33, 40. -/
def Obligations.Doorbells : Prop :=
  (∀ (f value : Nat) (s : State),
     (Instr.doorbell f value true false).wellFormed = true →
     s.Ready →
     s.dev.door f 0 = .serve →
     s.dev.boot.safeHarbour = false →
     (s.dev.bells (hpOf f)).length < 64 →
     s.dev.fenceBit f = false →
     value < 2 ^ 32 →
     blockOwner s.dev.fcfg (value % 65536 / 256) = f →
     ((s.dev.bells (hpOf f)).any fun b => b.q == value % 65536) = false →
     Completes (.doorbell f value true false) s fun t =>
       t.bells (hpOf f) = s.dev.bells (hpOf f) ++ [{ q := value % 65536, index := value / 65536 }] ∧
         (∀ i, i ≠ hpOf f → t.bells i = s.dev.bells i) ∧
         t = { s.dev with host := { s.dev.host with bells := t.host.bells } }) ∧
  (∀ (f value : Nat) (s : State),
     (Instr.doorbell f value true false).wellFormed = true →
     s.Ready →
     s.dev.door f 0 = .serve →
     s.dev.boot.safeHarbour = false →
     (s.dev.bells (hpOf f)).length < 64 →
     s.dev.fenceBit f = false →
     value < 2 ^ 32 →
     blockOwner s.dev.fcfg (value % 65536 / 256) = f →
     ((s.dev.bells (hpOf f)).any fun b => b.q == value % 65536) = true →
     Completes (.doorbell f value true false) s fun t =>
       t.bells (hpOf f) = ((s.dev.bells (hpOf f)).map fun b =>
           if b.q = value % 65536 then { b with index := value / 65536, sent := false } else b) ∧
         (∀ i, i ≠ hpOf f → t.bells i = s.dev.bells i) ∧
         t.host.bellCounts = s.dev.host.bellCounts.modify 0 (9 + (hpOf f - 40)) inc32 ∧
         t.nis = (takeBackNotice (hpOf f) (value % 65536) s.dev).nis ∧ NiOnly s.dev t (hpOf f) ∧
         t = { s.dev with host := { s.dev.host with bells := t.host.bells, bellCounts := t.host.bellCounts }, nis := t.nis }) ∧
  (∀ (h : Nat) (b : Bell) (s : State),
     (Instr.doorbellNoticeSend h).wellFormed = true →
     s.Live →
     ((s.dev.bells h).find? fun b => !b.sent) = some b →
     unitAdmits s.dev h (blockOwner s.dev.fcfg (b.q / 256)) = true →
     (s.dev.ni h).atUnit = [] →
     (s.dev.ni h).wcb = [] →
     (s.dev.ni h).out = [] →
     Completes (.doorbellNoticeSend h) s fun t =>
       (t.ni h).fenced = (s.dev.ni h).fenced ++ [{
           id := (s.dev.ni h).fenceId
           pkt := messagePkt h (blockOwner s.dev.fcfg (b.q / 256)) 1 (seNi (seOf b.q)) 0 1 (leBytes 2 b.q ++ leBytes 2 b.index)
           marks := (marksFor h (blockOwner s.dev.fcfg (b.q / 256)) (s.dev.ni h).fenceId ((s.dev.ni h).fenceSet.map (·.1))).length }] ∧
         (t.ni h).out = marksFor h (blockOwner s.dev.fcfg (b.q / 256)) (s.dev.ni h).fenceId ((s.dev.ni h).fenceSet.map (·.1)) ∧
         t.bells h = ((s.dev.bells h).map fun c => if c.q = b.q then { c with sent := true } else c) ∧
         (∀ i, i ≠ h → t.bells i = s.dev.bells i) ∧ NiOnly s.dev t h ∧
         t = { s.dev with host := { s.dev.host with bells := t.host.bells }, nis := t.nis }) ∧
  (∀ (h p : Nat) (m : Packet) (rest : List Packet) (s : State),
     (Instr.flushHp h).wellFormed = true →
     s.Live →
     (s.dev.ni h).mq.get [] 1 = m :: rest →
     m.code = 2 →
     m.data.le 11 1 = p →
     p < 16 →
     hpOf p = h →
     (s.dev.ni h).atUnit = [] →
     (s.dev.ni h).wcb = [] →
     (s.dev.ni h).out = [] →
     Completes (.flushHp h) s fun t =>
       (t.fn p).lines = (s.dev.fn p).lines.filter (fun l => !overlaps l.addr 256 (m.data.le 0 6) (m.data.le 6 5)) ∧
         t.fn p = { s.dev.fn p with lines := (t.fn p).lines } ∧ (∀ i, i ≠ p → t.fn i = s.dev.fn i) ∧
         (t.ni h).mq.get [] 1 = rest ∧
         (t.ni h).fenced = (s.dev.ni h).fenced ++ [{
           id := (s.dev.ni h).fenceId
           pkt := messagePkt h p 2 m.src 2 3 (m.data.slice 12 2)
           marks := (marksFor h p (s.dev.ni h).fenceId ((s.dev.ni h).fenceSet.map (·.1))).length }] ∧ NiOnly s.dev t h ∧
         t = { s.dev with host := { s.dev.host with fn := t.host.fn, inbound := t.host.inbound }, nis := t.nis }) ∧
  (∀ (f value : Nat) (s : State),
     (Instr.pcClr f value false).wellFormed = true →
     s.Ready →
     s.dev.door f 0 = .serve →
     value % 2 = 1 →
     Completes (.pcClr f value false) s fun t =>
       t.fn f = { s.dev.fn f with refused := 0, refusedAddr := 0 } ∧ (∀ g, g ≠ f → t.fn g = s.dev.fn g) ∧
         t = { s.dev with host := { s.dev.host with fn := t.host.fn } })

/-- With prefetch off, at an HP NI at which nothing waits, a window read that is not refused of blocks that decode to
another NI presents one request for each 256-byte block it touches and is held as an inbound read; with prefetch on, a
read that lies in the function's one line and follows no other completes with the bytes of that line; a refused read
completes with all ones (where the configuration asks for no abort), is counted and recorded, and raises 0x8B. A
window write that stays below the end of one block enters the write-combining buffer, here empty, and empties
overlapping lines. PREFETCH_LINE_EXPIRY empties one line. Where the spec leaves a choice, this follows the model's
readings of log entry 41. -/
def Obligations.WindowAccesses : Prop :=
  (∀ (f offset len : Nat) (s : State),
     (Instr.windowRead f offset len .none).wellFormed = true →
     s.Ready →
     s.dev.door f 2 = .serve →
     unitAdmits s.dev (hpOf f) f = true →
     windowRefused s.dev f (windowAddr (s.dev.fn f).window offset) len = false →
     s.dev.fcfg.nat (0x2820 + f) 1 ≠ 1 →
     exactRead (windowAddr (s.dev.fn f).window offset) = false →
     (s.dev.ni (hpOf f)).atUnit = [] →
     (s.dev.ni (hpOf f)).answers = [] →
     s.dev.host.flushReads = [] →
     (∀ b, b ∈ blocksOf (windowAddr (s.dev.fn f).window offset) len →
       (s.dev.decodeAddr (hpOf f) b).isSome = true ∧ s.dev.decodeAddr (hpOf f) b ≠ some (hpOf f)) →
     Completes (.windowRead f offset len .none) s fun t =>
       t.nis = (present (hpOf f) ((blocksOf (windowAddr (s.dev.fn f).window offset) len).map fun b => {
             pkt := {
               dest := 0, src := hpOf f, ty := 0, cls := s.dev.fcfg.nat 0x2801 1, part := f, addr := b, size := 256
               code := s.dev.host.nextKey }
             kind := .request }) s.dev).nis ∧
         t.host.inbound = s.dev.host.inbound ++ [{
           key := s.dev.host.nextKey, f := f, addr := windowAddr (s.dev.fn f).window offset, len := len
           blocks := (blocksOf (windowAddr (s.dev.fn f).window offset) len).map fun b => (b, 256)
           reply := true, keep := false }] ∧
         t.fn f = { s.dev.fn f with prevEnd := some (windowAddr (s.dev.fn f).window offset + len) } ∧
         (∀ g, g ≠ f → t.fn g = s.dev.fn g) ∧ NiOnly s.dev t (hpOf f) ∧
         t = { s.dev with
           nis := t.nis
           host := { s.dev.host with fn := t.host.fn, inbound := t.host.inbound, nextKey := s.dev.host.nextKey + 1, counts := t.host.counts } }) ∧
  (∀ (f offset len : Nat) (l : WinLine) (s : State),
     (Instr.windowRead f offset len .none).wellFormed = true →
     s.Ready →
     s.dev.door f 2 = .serve →
     unitAdmits s.dev (hpOf f) f = true →
     windowRefused s.dev f (windowAddr (s.dev.fn f).window offset) len = false →
     s.dev.fcfg.nat (0x2820 + f) 1 = 1 →
     exactRead (windowAddr (s.dev.fn f).window offset) = false →
     (s.dev.fn f).prevEnd = none →
     (s.dev.fn f).lines = [l] →
     blocksOf (windowAddr (s.dev.fn f).window offset) len = [l.addr] →
     (s.dev.ni (hpOf f)).answers = [] →
     s.dev.host.flushReads = [] →
     Completes (.windowRead f offset len .none) s fun t =>
       t.host.lastRead = some (0, false, l.data.slice (windowAddr (s.dev.fn f).window offset % 256) len) ∧
         t.fn f = { s.dev.fn f with prevEnd := some (windowAddr (s.dev.fn f).window offset + len) } ∧
         (∀ g, g ≠ f → t.fn g = s.dev.fn g) ∧ (∀ i, t.ni i = s.dev.ni i) ∧
         t = { s.dev with
           nis := t.nis
           host := { s.dev.host with fn := t.host.fn, lastRead := t.host.lastRead, counts := t.host.counts } }) ∧
  (∀ (f offset len : Nat) (s : State),
     (Instr.windowRead f offset len .none).wellFormed = true →
     s.Ready →
     s.dev.door f 2 = .serve →
     unitAdmits s.dev (hpOf f) f = true →
     windowRefused s.dev f (windowAddr (s.dev.fn f).window offset) len = true →
     s.dev.fcfg.nat 0x2801 3 ≠ 1 →
     s.dev.faults.inj.state ≠ 1 →
     Completes (.windowRead f offset len .none) s fun t =>
       t.host.lastRead = some (0, false, List.replicate len (BitVec.ofNat 8 255)) ∧
         t.fn f = { s.dev.fn f with
           refused := inc32 (s.dev.fn f).refused, refusedAddr := windowAddr (s.dev.fn f).window offset % 2 ^ 48 } ∧
         (∀ g, g ≠ f → t.fn g = s.dev.fn g) ∧
         t.faults.crossing = s.dev.faults.crossing ++ [{ src := 0x8B, inst := hpOf f, part := f, cause := 0, injected := false }] ∧
         t = { s.dev with
           host := { s.dev.host with fn := t.host.fn, lastRead := t.host.lastRead }
           faults := { s.dev.faults with crossing := t.faults.crossing } }) ∧
  (∀ (f offset a dest : Nat) (p : Packet) (data : Bytes) (s : State),
     (Instr.windowWrite f offset data false).wellFormed = true →
     s.Ready →
     s.dev.door f 2 = .serve →
     unitAdmits s.dev (hpOf f) f = true →
     windowAddr (s.dev.fn f).window offset = a →
     windowRefused s.dev f a data.length = false →
     p = { dest := dest, src := hpOf f, ty := 1, cls := s.dev.fcfg.nat 0x2801 1, part := f, addr := a, size := data.length, data := data } →
     wcbFits s.dev (hpOf f) p = true →
     splitBlocks 17 a data.length = [(a, data.length)] →
     a % 256 + data.length < 256 →
     s.dev.fcfg.nat 0x2301 4 ≠ 0 →
     (s.dev.ni (hpOf f)).atUnit = [] →
     (s.dev.ni (hpOf f)).wcb = [] →
     s.dev.decodeAddr (hpOf f) a = some dest →
     dest ≠ hpOf f →
     Completes (.windowWrite f offset data false) s fun t =>
       (t.ni (hpOf f)).wcb = [{ pkt := p, isOpen := true }] ∧
         t.ni (hpOf f) = { s.dev.ni (hpOf f) with wcb := (t.ni (hpOf f)).wcb, regs := (t.ni (hpOf f)).regs } ∧
         (t.fn f).lines = (s.dev.fn f).lines.filter
           (fun l => !overlaps l.addr 256 a data.length) ∧
         t.fn f = { s.dev.fn f with lines := (t.fn f).lines } ∧ (∀ g, g ≠ f → t.fn g = s.dev.fn g) ∧
         NiOnly s.dev t (hpOf f) ∧
         t = { s.dev with nis := t.nis, host := { s.dev.host with fn := t.host.fn, inbound := t.host.inbound } }) ∧
  (∀ (f addr : Nat) (s : State),
     (Instr.prefetchLineExpiry f addr).wellFormed = true →
     s.Ready →
     Completes (.prefetchLineExpiry f addr) s fun t =>
       t.fn f = { s.dev.fn f with lines := (s.dev.fn f).lines.filter (fun l => l.addr != addr) } ∧
         (∀ g, g ≠ f → t.fn g = s.dev.fn g) ∧ t = { s.dev with host := { s.dev.host with fn := t.host.fn } })

/-- An admission write that HP0 may grant adds the pair of requester and region where it is new and the store has
room, a revoke removes it, and each notes the requester's status; a status read returns the word of R333; a placement
write that passes every check and stays below the end of one block enters the write-combining buffer of an HP0 at
which nothing waits, here empty, at the region's base plus its slot offset, and its destination and class are noted; a
flush read of such an HP0 that has sent placement writes since the last one sends its marks, for every destination and
class noted, and waits for them. Where the spec leaves a choice, this follows the model's readings of log entry 41. -/
def Obligations.Placement : Prop :=
  (∀ (rid : Nat) (data : Bytes) (s : State),
     (Instr.admission rid 0 data false).wellFormed = true →
     s.Ready →
     s.dev.door 0 0 = .serve →
     s.dev.boot.safeHarbour = false →
     data.length = 8 →
     bitsOf data.toNat 62 44 = 0 →
     bitOf data.toNat 63 = true →
     mayAdmit s.dev rid (bitsOf data.toNat 43 32) (bitsOf data.toNat 31 0) = true →
     s.dev.host.admissions.contains (rid, bitsOf data.toNat 43 32) = false →
     s.dev.host.admissions.length < 256 →
     Completes (.admission rid 0 data false) s fun t =>
       t = { s.dev with host := { s.dev.host with
           admissions := s.dev.host.admissions ++ [(rid, bitsOf data.toNat 43 32)]
           admStatus := s.dev.host.admStatus.set rid { region := bitsOf data.toNat 43 32, refused := false } } } ∧
         admissionStatus t rid = bitsOf data.toNat 43 32 * 2 ^ 32 + 2 ^ 63) ∧
  (∀ (rid : Nat) (data : Bytes) (s : State),
     (Instr.revoke rid data false).wellFormed = true →
     s.Ready →
     s.dev.door 0 0 = .serve →
     s.dev.boot.safeHarbour = false →
     data.length = 8 →
     bitsOf data.toNat 62 44 = 0 →
     bitOf data.toNat 63 = false →
     Completes (.revoke rid data false) s fun t =>
       t = { s.dev with host := { s.dev.host with
           admissions := s.dev.host.admissions.filter (fun e => e != (rid, bitsOf data.toNat 43 32))
           admStatus := s.dev.host.admStatus.set rid { region := bitsOf data.toNat 43 32, refused := false } } } ∧
         t.host.admissions.contains (rid, bitsOf data.toNat 43 32) = false) ∧
  (∀ (rid : Nat) (s : State),
     (Instr.admissionStatusRead rid 0 8).wellFormed = true →
     s.Ready →
     s.dev.door 0 0 = .serve →
     s.dev.boot.safeHarbour = false →
     Completes (.admissionStatusRead rid 0 8) s fun t =>
       t = { s.dev with host := { s.dev.host with lastRead := some (0, false, leBytes 8 (admissionStatus s.dev rid)) } }) ∧
  (∀ (rid offset n o dest a : Nat) (p : Packet) (data : Bytes) (s : State),
     (Instr.placementWrite rid offset data false).wellFormed = true →
     s.Ready →
     s.dev.door 0 4 = .serve →
     1 ≤ s.dev.slotSize →
     offset / s.dev.slotSize = n ∧ offset % s.dev.slotSize = o ∧ s.dev.region n 3 + o = a →
     n < 4096 →
     o + data.length ≤ s.dev.slotSize ∧ o + data.length ≤ s.dev.region n 4 →
     bitOf (s.dev.region n 5) 0 = true →
     ownerTakes s.dev (s.dev.region n 1) = true →
     s.dev.host.admissions.contains (rid, n) = true →
     inRanges s.dev.fcfg (s.dev.region n 1) a data.length = true →
     unitAdmits s.dev 40 (s.dev.region n 1) = true →
     p = {
       dest := dest, src := 40, ty := 1, cls := s.dev.fcfg.nat 0x2801 2, part := s.dev.region n 1, addr := a
       size := data.length, data := data } →
     wcbFits s.dev 40 p = true →
     splitBlocks 17 a data.length = [(a, data.length)] →
     a % 256 + data.length < 256 →
     s.dev.fcfg.nat 0x2301 4 ≠ 0 →
     (s.dev.ni 40).atUnit = [] →
     (s.dev.ni 40).wcb = [] →
     s.dev.decodeAddr 40 a = some dest →
     dest ≠ 40 →
     Completes (.placementWrite rid offset data false) s fun t =>
       (t.ni 40).wcb = [{ pkt := p, isOpen := true }] ∧
         t.host.placedTo = s.dev.host.placedTo.set (fenceKey 0 dest (s.dev.fcfg.nat 0x2801 2)) true ∧
         t.ni 40 = { s.dev.ni 40 with wcb := (t.ni 40).wcb, regs := (t.ni 40).regs } ∧ NiOnly s.dev t 40 ∧
         t = { s.dev with nis := t.nis, host := { s.dev.host with placed := inc32 s.dev.host.placed, placedTo := t.host.placedTo } }) ∧
  (∀ (rid offset len : Nat) (s : State),
     (Instr.placementFlushRead rid offset len).wellFormed = true →
     s.Ready →
     s.dev.door 0 4 = .serve →
     offset < s.dev.slotSize * 4096 →
     s.dev.host.placedTo ≠ [] →
     s.dev.host.flushReads = [] →
     (s.dev.ni 40).atUnit = [] →
     (s.dev.ni 40).wcb = [] →
     (s.dev.ni 40).answers = [] →
     (s.dev.ni 40).fenced = [] →
     Completes (.placementFlushRead rid offset len) s fun t =>
       (t.ni 40).out = (s.dev.ni 40).out ++ marksFor 40 0 (s.dev.ni 40).fenceId (s.dev.host.placedTo.map (·.1)) ∧
         (t.ni 40).fenced.map (·.marks) = [(marksFor 40 0 (s.dev.ni 40).fenceId (s.dev.host.placedTo.map (·.1))).length] ∧
         t.host.flushReads = [(s.dev.host.nextKey, len)] ∧ t.host.lastRead = s.dev.host.lastRead ∧ NiOnly s.dev t 40 ∧
         t = { s.dev with nis := t.nis, host := { s.dev.host with placedTo := [], flushReads := t.host.flushReads, nextKey := s.dev.host.nextKey + 1 } })

/-- While FCLK runs, a sound front READ for the outbound range takes an endpoint tag and leaves the ejection buffer; a
completion with all its data answers the requester with them, a timeout answers TGTERR and raises 0x8E. An interrupt
message that no fence meets, for a vector of a function with MSI-X enabled, sends the vector's write, or sets its
pending bit where the vector is blocked; an unmask of a function that leaves its one entry unblocked sends it where it
is pending and its partition is not fenced, or a mailbox set it. A locked read completes with Unsupported Request and
0x8C. Where the spec leaves a choice, this follows the model's readings of log entries 18, 64. -/
def Obligations.Outbound : Prop :=
  (∀ (h vc tag : Nat) (q : Packet) (s : State),
     (Instr.outboundRequest h vc).wellFormed = true →
     s.Live →
     s.dev.front h vc = some (q, false) →
     inOutbound q.addr = true →
     q.ty = 0 →
     linkDown s.dev = false →
     outboundRefused s.dev q.part = false →
     freeOutTag s.dev = some tag →
     Completes (.outboundRequest h vc) s fun t =>
       t = { popEj h vc s.dev with
         host := { s.dev.host with reads := s.dev.host.reads ++ [{ tag := tag, hp := h, req := q }] } } ∧
         (t.ni h).out = (s.dev.ni h).out ∧ NiOnly s.dev t h) ∧
  (∀ (tag : Nat) (bs : Bytes) (r : OutRead) (s : State),
     (Instr.outboundCompletion tag (.data bs)).wellFormed = true →
     s.Ready →
     s.dev.host.reads = [r] →
     r.tag = tag →
     r.req.ty = 0 →
     bs.length = r.req.size →
     Completes (.outboundCompletion tag (.data bs)) s fun t =>
       t.host.reads = [] ∧
         (t.ni r.hp).out = (s.dev.ni r.hp).out ++ [{
           pkt := {
             dest := r.req.src, src := r.hp, ty := 8, cls := r.req.cls, part := r.req.part, tag := r.req.tag, addr := r.req.addr
             size := r.req.size, data := bs }
           kind := .response }] ∧
         NiOnly s.dev t r.hp ∧ t = { s.dev with nis := t.nis, host := { s.dev.host with reads := t.host.reads } }) ∧
  (∀ (tag : Nat) (r : OutRead) (s : State),
     (Instr.outboundCompletionTimeout tag).wellFormed = true →
     s.Ready →
     s.dev.host.reads = [r] →
     r.tag = tag →
     s.dev.faults.inj.state ≠ 1 →
     Completes (.outboundCompletionTimeout tag) s fun t =>
       t.host.reads = [] ∧
         (t.ni r.hp).out = (s.dev.ni r.hp).out ++ [{
           pkt := {
             dest := r.req.src, src := r.hp, ty := 9, cls := r.req.cls, part := r.req.part, tag := r.req.tag, addr := r.req.addr
             size := r.req.size, status := 1 }
           kind := .response }] ∧
         t.faults.crossing = s.dev.faults.crossing ++ [{ src := 0x8E, inst := r.hp, part := r.req.part, cause := 0, injected := false }] ∧
         NiOnly s.dev t r.hp ∧
         t = { s.dev with
           nis := t.nis, host := { s.dev.host with reads := t.host.reads, counts := t.host.counts }
           faults := { s.dev.faults with crossing := t.faults.crossing } }) ∧
  (∀ (f : Nat) (s : State),
     (Instr.unsupportedRequest f).wellFormed = true →
     s.Ready →
     s.dev.fnExists f = true →
     s.dev.faults.inj.state ≠ 1 →
     Completes (.unsupportedRequest f) s fun t =>
       t.host.lastRead = some (2, false, []) ∧
         t.faults.crossing = s.dev.faults.crossing ++ [{ src := 0x8C, inst := hpOf f, part := f, cause := 0, injected := false }] ∧
         t = { s.dev with
           host := { s.dev.host with lastRead := t.host.lastRead }
           faults := { s.dev.faults with crossing := t.faults.crossing } }) ∧
  (∀ (h f v : Nat) (m : Packet) (rest : List Packet) (s : State),
     (Instr.msixRequest h .none).wellFormed = true →
     s.Live →
     (s.dev.ni h).mq.get [] 0 = m :: rest →
     m.code = 0x0010 →
     fenceApplies s.dev h m = false →
     m.data.le 2 1 = f ∧ m.data.le 0 2 = v →
     s.dev.fnExists f = true →
     v < msixSize f →
     (s.dev.fn f).msixEnable = true →
     Completes (.msixRequest h .none) s fun t =>
       (t.ni h).mq.get [] 0 = rest ∧
         (if msixBlocked s.dev f v then
           t.fn f = { s.dev.fn f with
             table := Tbl.modify {} (s.dev.fn f).table v (fun e => { e with pending := true }) } ∧
           t.host.lastWrite = s.dev.host.lastWrite
         else
           t.fn f = { s.dev.fn f with
             table := (s.dev.fn f).table.set v { (s.dev.fn f).table.get {} v with pending := false, box := false } } ∧
           t.host.lastWrite = some {
             fn := f, addr := ((s.dev.fn f).table.get {} v).addr, data := leBytes 4 ((s.dev.fn f).table.get {} v).data
             noSnoop := (s.dev.shadow 4).nat 0x2801 4 == 1 }) ∧
         (∀ g, g ≠ f → t.fn g = s.dev.fn g) ∧ NiOnly s.dev t h ∧
         t = { s.dev with
           nis := t.nis, host := { s.dev.host with fn := t.host.fn, lastWrite := t.host.lastWrite, counts := t.host.counts } }) ∧
  (∀ (f v : Nat) (e : MsixEntry) (s : State),
     (Instr.msixUnmask f .functionMask).wellFormed = true →
     s.Ready →
     s.dev.fnExists f = true →
     (s.dev.fn f).flr = false →
     (s.dev.fn f).msixEnable = true →
     (s.dev.fn f).bme = true →
     (s.dev.fn f).table = [(v, e)] →
     e.pending = true →
     e.box = true ∨ s.dev.fenceBit f = false →
     bitOf e.ctl 0 = false →
     Completes (.msixUnmask f .functionMask) s fun t =>
       t.fn f = { s.dev.fn f with mask := false, table := [(v, { e with pending := false, box := false })] } ∧
         t.host.lastWrite = some { fn := f, addr := e.addr, data := leBytes 4 e.data, noSnoop := (s.dev.shadow 4).nat 0x2801 4 == 1 } ∧
         (∀ g, g ≠ f → t.fn g = s.dev.fn g) ∧
         t = { s.dev with host := { s.dev.host with fn := t.host.fn, lastWrite := t.host.lastWrite, counts := t.host.counts } })

/-- The lock of a link's PLL and CDRs lets a failed direction go back to PLL_LOCK and a waiting TX run once its LEMC
has started. Where the link's CPs are out of reset, sync header lock and extended multiblock lock whose arrivals meet
the release condition move RX on to RUNNING with the arrivals kept; a lock loss counts, raises the lane's source with
its cause and sends RX back; the first SYSREF edge starts the LEMC. A lock timeout fails the waiting directions. Every
other link is unchanged. The loss of a link's PLL stops its DCLK. Where the spec leaves a choice, this follows the
model's readings of log entry 42. -/
def Obligations.LinkTraining : Prop :=
  (∀ (k : Nat) (s : State),
     (Instr.linkPllLocked k).wellFormed = true →
     s.Ready →
     (s.dev.link k).rx = 2 ∨ (s.dev.link k).rx = 6 ∨ (s.dev.link k).tx = 2 ∨ (s.dev.link k).tx = 6 →
     Completes (.linkPllLocked k) s fun t =>
       (t.link k).pll = true ∧ (t.link k).cdr = true ∧
         (t.link k).rx = (if (s.dev.link k).rx = 6 then 2 else (s.dev.link k).rx) ∧
         (t.link k).tx = (if (s.dev.link k).tx = 2 ∨ (s.dev.link k).tx = 6 then (if (s.dev.link k).lemc then 5 else 2) else (s.dev.link k).tx) ∧
         (∀ j, j ≠ k → t.link j = s.dev.link j) ∧
         t = { s.dev with conv := { s.dev.conv with link := t.conv.link, lane := t.conv.lane } }) ∧
  (∀ (k : Nat) (s : State),
     (Instr.syncHeaderLock k).wellFormed = true →
     s.Ready →
     (s.dev.link k).rx = 2 →
     (s.dev.link k).pll = true →
     (s.dev.link k).cdr = true →
     linkRuns s.dev k = true →
     Completes (.syncHeaderLock k) s fun t =>
       t.link k = { s.dev.link k with rx := 3 } ∧ (∀ j, j ≠ k → t.link j = s.dev.link j) ∧
         (∀ l, k ≤ l → l < k + lanesOf (s.dev.dcfg k) k → (t.lane l).state = 3) ∧
         (∀ l, l < k ∨ k + lanesOf (s.dev.dcfg k) k ≤ l → t.lane l = s.dev.lane l) ∧
         t = { s.dev with conv := { s.dev.conv with link := t.conv.link, lane := t.conv.lane } }) ∧
  (∀ (k : Nat) (arrivals : List Nat) (s : State),
     (Instr.extendedMultiblockLock k arrivals).wellFormed = true →
     s.Ready →
     (s.dev.link k).rx = 3 →
     (s.dev.link k).lemc = true →
     linkRuns s.dev k = true →
     arrivals.length = lanesOf (s.dev.dcfg k) k →
     (∀ a, a ∈ arrivals → a + 2 ≤ s.dev.linkObj k 0xA) →
     Completes (.extendedMultiblockLock k arrivals) s fun t =>
       t.link k = { s.dev.link k with rx := 5, condRaised := false } ∧ (∀ j, j ≠ k → t.link j = s.dev.link j) ∧
         (∀ l, k ≤ l → l < k + lanesOf (s.dev.dcfg k) k → (t.lane l).state = 5 ∧ (t.lane l).arrival = arrivals.getD (l - k) 0) ∧
         (∀ l, l < k ∨ k + lanesOf (s.dev.dcfg k) k ≤ l → t.lane l = s.dev.lane l) ∧
         t = { s.dev with conv := { s.dev.conv with link := t.conv.link, lane := t.conv.lane } }) ∧
  (∀ (k : Nat) (s : State),
     (Instr.linkLockTimeout k).wellFormed = true →
     s.Ready →
     ((s.dev.link k).rx = 2 ∧ ((s.dev.link k).pll && (s.dev.link k).cdr) = false) ∨
       ((s.dev.link k).tx = 2 ∧ (s.dev.link k).pll = false) →
     Completes (.linkLockTimeout k) s fun t =>
       t.link k = { s.dev.link k with
           rx := if (s.dev.link k).rx = 2 ∧ ((s.dev.link k).pll && (s.dev.link k).cdr) = false then 6 else (s.dev.link k).rx
           tx := if (s.dev.link k).tx = 2 ∧ (s.dev.link k).pll = false then 6 else (s.dev.link k).tx
           out := if (s.dev.link k).tx = 2 ∧ (s.dev.link k).pll = false then none else (s.dev.link k).out } ∧
         (∀ j, j ≠ k → t.link j = s.dev.link j) ∧
         (∀ l, l < k ∨ k + lanesOf (s.dev.dcfg k) k ≤ l → t.lane l = s.dev.lane l) ∧
         t = { s.dev with conv := { s.dev.conv with link := t.conv.link, lane := t.conv.lane } }) ∧
  (∀ (l cause k : Nat) (s : State),
     (Instr.laneLockLoss l cause false).wellFormed = true →
     s.Ready →
     linkOfLane s.dev.dcfg l = some k →
     2 ≤ (s.dev.link k).rx →
     (s.dev.link k).rx ≠ 6 →
     linkRuns s.dev k = true →
     s.dev.faults.inj.state ≠ 1 →
     Completes (.laneLockLoss l cause false) s fun t =>
       t.link k = { s.dev.link k with
           rx := if cause = 4 then 3 else 2, cdr := if cause = 7 then false else (s.dev.link k).cdr } ∧
         (∀ j, j ≠ k → t.link j = s.dev.link j) ∧
         (t.lane l).losses = inc32 (s.dev.lane l).losses ∧ (t.lane l).cause = cause ∧
         t.faults.crossing = s.dev.faults.crossing ++
           [{ src := 0xA0 + l, inst := 0xFF, part := laneOwner s.dev.dcfg l, cause := cause, injected := false }] ∧
         t = { s.dev with
           conv := { s.dev.conv with link := t.conv.link, lane := t.conv.lane }
           faults := { s.dev.faults with crossing := t.faults.crossing } }) ∧
  (∀ (l k : Nat) (s : State),
     (Instr.laneLockLoss l 7 true).wellFormed = true →
     s.Ready →
     linkOfLane s.dev.dcfg l = some k →
     s.dev.clockRuns (9 + k) = true →
     Completes (.laneLockLoss l 7 true) s fun t =>
       t = clockLoss (9 + k) (linkPllLoss l k s.dev) ∧ t.clockRuns (9 + k) = false) ∧
  (∀ (k : Nat) (onBoundary : Bool) (s : State),
     (Instr.sysrefEdgeSampled k onBoundary).wellFormed = true →
     s.Ready →
     2 ≤ (s.dev.link k).rx ∨ 2 ≤ (s.dev.link k).tx →
     (s.dev.link k).lemc = false →
     linkRuns s.dev k = true →
     Completes (.sysrefEdgeSampled k onBoundary) s fun t =>
       t.link k = { s.dev.link k with
           lemc := true
           tx := if (s.dev.link k).pll = true ∧ ((s.dev.link k).tx = 2 ∨ (s.dev.link k).tx = 6) then 5 else (s.dev.link k).tx } ∧
         (∀ j, j ≠ k → t.link j = s.dev.link j) ∧
         t = { s.dev with conv := { s.dev.conv with link := t.conv.link } })

/-- STREAM_ARM of a stopped stream arms an RX stream and completes at once, and starts the prefetch of a TX stream and
waits; STREAM_STOP of a stream that no order of this cycle has armed and that has no record in progress disarms it and
completes; TIMED_NOTIFY to a CP sends a timed message in class T, whose injection ends it. DESTROY_QUEUE of a queue
that is no stream's makes the queue DRAINING, drops its unstarted commands and waits; its end, at an SE that holds
nothing else of the queue, removes the queue, writes its context as zeros and completes the admin command. A slot
grant of a converter stream names the next slot to every lane of the stream's link. Nothing else changes. Where the
spec leaves a choice, this follows the model's readings of log entries 16, 33, 42. -/
def Obligations.StreamCommands : Prop :=
  (∀ (q sq : Nat) (x : Queue) (st : Stream) (pre : List Cmd) (k : Cmd) (post : List Cmd) (s : State),
     (Instr.streamArm q).wellFormed = true →
     s.Ready →
     s.dev.queue? q = some x →
     RunsAt s.dev q 9 pre k post →
     fieldFault 9 k.index k.bytes = none →
     k.a = sq →
     namesStream s.dev x q sq = true →
     armCheck s.dev x sq k.c = (0, 0) →
     s.dev.stream? sq = some st →
     Completes (.streamArm q) s fun t =>
       t.stream? sq = some { st.disarm with
           armed := !st.tx, arming := st.tx, mode := k.c, limit := k.b, next := 0, started := false
           armedBy := some (q, k.index, s.dev.clock.wall) } ∧
         (∀ i, i ≠ sq → t.stream? i = s.dev.stream? i) ∧
         SeHolds s.dev t (seOf q) (pre ++
           (if st.tx then { k with st := .waiting } else { k with st := .done, status := 0, detail := 0, result := 0 }) :: post) ∧
         t = { s.dev with
           queues := { s.dev.queues with se := t.queues.se }, conv := { s.dev.conv with stream := t.conv.stream } }) ∧
  (∀ (q sq : Nat) (x : Queue) (st : Stream) (pre : List Cmd) (k : Cmd) (post : List Cmd) (s : State),
     (Instr.streamStop q).wellFormed = true →
     s.Ready →
     s.dev.queue? q = some x →
     RunsAt s.dev q 0xA pre k post →
     fieldFault 0xA k.index k.bytes = none →
     k.a = sq →
     k.c ≤ 1 →
     namesStream s.dev x q sq = true →
     s.dev.stream? sq = some st →
     (st.armed || st.arming) = true →
     st.inProgress = none →
     st.ended = [] →
     st.armedBy.all (fun a => decide (a.2.2 ≠ s.dev.clock.wall)) = true →
     (∀ j, j ∈ pre ++ post → waitsFor 9 sq j = false ∧ waitsFor 0xA sq j = false) →
     Completes (.streamStop q) s fun t =>
       t.stream? sq = some { st.disarm with stoppedAt := some s.dev.clock.wall } ∧
         (∀ i, i ≠ sq → t.stream? i = s.dev.stream? i) ∧ t.nis = (dropReads sq s.dev).nis ∧
         SeHolds s.dev t (seOf q) (pre ++ { k with st := .done, status := 0, detail := 0, result := 0 } :: post) ∧
         t = { s.dev with
           nis := t.nis, queues := { s.dev.queues with se := t.queues.se }, conv := { s.dev.conv with stream := t.conv.stream } }) ∧
  (∀ (q sq : Nat) (x : Queue) (st : Stream) (pre : List Cmd) (k : Cmd) (post : List Cmd) (s : State),
     (Instr.timedNotify q).wellFormed = true →
     s.Ready →
     s.dev.queue? q = some x →
     RunsAt s.dev q 7 pre k post →
     fieldFault 7 k.index k.bytes = none →
     k.a % 256 < 2 →
     k.a / 256 % 256 = 0 →
     k.a / 65536 % 65536 = sq →
     k.c < 1000000000 →
     beyondHorizon s.dev (seNi (seOf q)) k.b k.c = false →
     namesStream s.dev x q sq = true →
     s.dev.stream? sq = some st →
     st.src < 24 →
     Completes (.timedNotify q) s fun t =>
       t.ni (seNi (seOf q)) = { s.dev.ni (seNi (seOf q)) with
           out := (s.dev.ni (seNi (seOf q))).out ++ [{
             pkt := {
               messagePkt (seNi (seOf q)) x.part 0 st.src 0 (0x0010 + k.a % 256) (leBytes 2 sq) with
               ty := 5, relS := k.b, relNs := k.c, addr := 65536 * q + k.index + 1 }
             kind := .message }] } ∧
         NiOnly s.dev t (seNi (seOf q)) ∧
         SeHolds s.dev t (seOf q) (pre ++ { k with st := .waiting } :: post) ∧
         t = { s.dev with queues := { s.dev.queues with se := t.queues.se }, nis := t.nis }) ∧
  (∀ (p aq q : Nat) (x : Queue) (pre : List Cmd) (k : Cmd) (post : List Cmd) (s : State),
     (Instr.destroyQueue p).wellFormed = true →
     s.Ready →
     adminOf s.dev p = some aq →
     RunsAt s.dev aq 0x41 pre k post →
     k.bytes.le 1 1 < 8 ∧ bitOf (k.bytes.le 1 1) 0 = false →
     anySet k.bytes 2 4 = false ∧ anySet k.bytes 10 64 = false →
     k.bytes.le 8 2 = q →
     mayDestroy s.dev p q = true →
     s.dev.queue? q = some x →
     s.dev.stream? q = none →
     Completes (.destroyQueue p) s fun t =>
       t.queue? q = some { x with state := 2 } ∧ (∀ i, i ≠ q → t.queue? i = s.dev.queue? i) ∧
         (∀ c, c ∈ (t.eng (seOf q)).cmds → ¬ (c.q = q ∧ c.st = .fetched)) ∧
         { k with st := .waiting, result := ((s.dev.eng (seOf q)).cmds.filter fun c => c.q == q && c.st == .fetched).length }
           ∈ (t.eng (seOf aq)).cmds ∧
         t = { s.dev with queues := { s.dev.queues with q := t.queues.q, se := t.queues.se } }) ∧
  (∀ (q aq : Nat) (x : Queue) (pre : List Cmd) (k : Cmd) (post : List Cmd) (s : State),
     (Instr.destroyQueueDone q).wellFormed = true →
     s.Ready →
     s.dev.queue? q = some x →
     x.state = 2 →
     s.dev.stream? q = none →
     adminOf s.dev x.part = some aq →
     seOf aq = seOf q →
     (s.dev.eng (seOf q)).cmds = pre ++ k :: post →
     (s.dev.eng (seOf q)).held = [] →
     (∀ c, c ∈ (s.dev.eng (seOf q)).cmds → c.q ≠ q) →
     k.q = aq →
     waitsFor 0x41 q k = true →
     (∀ j, j ∈ pre → j.q ≠ aq) →
     Completes (.destroyQueueDone q) s fun t =>
       t.queue? q = none ∧ (∀ i, i ≠ q → t.queue? i = s.dev.queue? i) ∧
         t.nis = (putContext q x.part (List.replicate 64 (byte 0)) (forgetQueue q s.dev)).nis ∧
         SeHolds s.dev t (seOf q) (pre ++ { k with st := .done, status := 0, detail := 0 } :: post) ∧
         t = { s.dev with
           queues := { s.dev.queues with q := t.queues.q, se := t.queues.se, sig := s.dev.queues.sig.erase q }
           conv := { s.dev.conv with stream := s.dev.conv.stream.erase q }
           eth := { s.dev.eth with
             raw := s.dev.eth.raw.erase q
             qp := if x.kind = 3 ∧ x.kparam.le 2 1 = 0 then s.dev.eth.qp.erase (x.kparam.le 0 2) else s.dev.eth.qp }
           nis := t.nis, faults := t.faults }) ∧
  (∀ (q : Nat) (x : Queue) (st : Stream) (s : State),
     (Instr.slotGrant q).wellFormed = true →
     s.Ready →
     s.dev.queue? q = some x →
     s.dev.stream? q = some st →
     x.kind = 2 →
     x.state = 1 →
     st.src < 24 →
     (st.armed || st.arming) = true →
     st.given < idxDiff x.pi x.ci →
     unitAdmits s.dev (seNi (seOf q)) x.part = true →
     Completes (.slotGrant q) s fun t =>
       t.stream? q = some { st with given := st.given + 1 } ∧ (∀ i, i ≠ q → t.stream? i = s.dev.stream? i) ∧
         t.ni (seNi (seOf q)) = { s.dev.ni (seNi (seOf q)) with
           out := (s.dev.ni (seNi (seOf q))).out ++ ((span st.src (st.src + lanesOf s.dev.fcfg st.src)).map fun l => {
             pkt := messagePkt (seNi (seOf q)) x.part 2 l 0 0x0030 (leBytes 2 q ++ leBytes 2 ((x.ci + st.given) % 65536))
             kind := .message }) } ∧
         NiOnly s.dev t (seNi (seOf q)) ∧
         t = { s.dev with nis := t.nis, conv := { s.dev.conv with stream := t.conv.stream } })

/-- A released frame of an open record, where the link's CPs are out of reset, is encoded into the record and into the
link's history; a record trigger of an armed stream whose partition and domain are not fenced is noted with its time;
a timed start notes its instant, and a timed stop of a stream that no order of this cycle has armed and that has no
record in progress disarms it; the end of a record at a lane whose NI has nothing queued or waiting sends its fenced
report; a record whose reports have all come presents its completion for the completion queue, advances both queues
and leaves the stream. Nothing else changes. Where the spec leaves a choice, this follows the model's readings of log
entries 16, 33, 42. -/
def Obligations.Records : Prop :=
  (∀ (k q : Nat) (at_ : Int) (ws : List Nat) (x : Queue) (st : Stream) (r : Rec) (s : State),
     (Instr.rxFrameRelease k at_ [ws] 0 0 .none).wellFormed = true →
     s.Ready →
     linkOn (s.dev.dcfg k) k 1 = true →
     linkRuns s.dev k = true →
     (s.dev.link k).rx = 5 →
     s.dev.faults.inj.state ≠ 1 →
     armedStream s.dev k false = some q →
     s.dev.queue? q = some x →
     s.dev.stream? q = some st →
     st.cur = some r →
     r.buf.length + frameBytes (s.dev.dcfg k) k < 64 →
     r.done + frameBytes (s.dev.dcfg k) k < x.record →
     (encodeFrame (s.dev.linkObj k 7) (s.dev.linkObj k 0xD) ws).length = frameBytes (s.dev.dcfg k) k →
     Completes (.rxFrameRelease k at_ [ws] 0 0 .none) s fun t =>
       t.stream? q = some { st with cur := some { r with
           done := r.done + frameBytes (s.dev.dcfg k) k
           buf := r.buf ++ encodeFrame (s.dev.linkObj k 7) (s.dev.linkObj k 0xD) ws } } ∧
         (∀ i, i ≠ q → t.stream? i = s.dev.stream? i) ∧
         t.link k = { s.dev.link k with
           history := trimHistory (65536 * lanesOf (s.dev.dcfg k) k) ((s.dev.link k).history ++ [{
             time := at_ - adjustOf s.dev k 0xF + frameOffset s.dev k 0
             bytes := encodeFrame (s.dev.linkObj k 7) (s.dev.linkObj k 0xD) ws }]) } ∧
         (∀ j, j ≠ k → t.link j = s.dev.link j) ∧
         t = { s.dev with conv := { s.dev.conv with stream := t.conv.stream, link := t.conv.link } }) ∧
  (∀ (n q : Nat) (m : Packet) (rest : List Packet) (x : Queue) (st : Stream) (s : State),
     (Instr.cpTrigger n).wellFormed = true →
     s.Ready →
     (s.dev.ni n).mq.get [] 1 = m :: rest →
     m.code = 0x0020 →
     s.dev.conv.stream = [(q, st)] →
     s.dev.queue? q = some x →
     st.src = n →
     st.tx = false →
     st.armed = true →
     st.started = true →
     x.recTrig = m.data.le 0 1 →
     x.recTrig ≠ 0 →
     st.cur = none →
     st.trigAt = none →
     s.dev.fenceBit x.part = false →
     linkUp s.dev n = true →
     ((s.dev.link n).history.any fun f => decide (triggerTime m.data ≤ f.time + lastSample s.dev n)) = false →
     Completes (.cpTrigger n) s fun t =>
       t.conv.stream = [(q, { st with trigAt := some (triggerTime m.data) })] ∧
         (t.ni n).mq.get [] 1 = rest ∧ NiOnly s.dev t n ∧
         t = { s.dev with nis := t.nis, conv := { s.dev.conv with stream := t.conv.stream } }) ∧
  (∀ (n q : Nat) (h : Released) (rest : List Released) (st : Stream) (s : State),
     (Instr.cpTimedStart n).wellFormed = true →
     s.Ready →
     (s.dev.ni n).released = h :: rest →
     h.pkt.code = 0x0010 →
     timedTarget s.dev n h.pkt = some q →
     s.dev.stream? q = some st →
     st.mode = 1 →
     st.started = false →
     st.startAt = none →
     Completes (.cpTimedStart n) s fun t =>
       t.stream? q = some { st with startAt := some (if h.late then 0 else releaseTime h.pkt), startLate := h.late } ∧
         (∀ i, i ≠ q → t.stream? i = s.dev.stream? i) ∧ t.ni n = { s.dev.ni n with released := rest } ∧ NiOnly s.dev t n ∧
         t = { s.dev with nis := t.nis, conv := { s.dev.conv with stream := t.conv.stream } }) ∧
  (∀ (n q : Nat) (h : Released) (rest : List Released) (st : Stream) (s : State),
     (Instr.cpTimedStop n).wellFormed = true →
     s.Ready →
     (s.dev.ni n).released = h :: rest →
     h.pkt.code = 0x0011 →
     timedTarget s.dev n h.pkt = some q →
     s.dev.stream? q = some st →
     st.inProgress = none →
     st.ended = [] →
     st.armedBy.all (fun a => decide (a.2.2 ≠ s.dev.clock.wall)) = true →
     (∀ j, j ∈ (s.dev.eng (seOf q)).cmds → waitsFor 9 q j = false ∧ waitsFor 0xA q j = false) →
     Completes (.cpTimedStop n) s fun t =>
       t.stream? q = some { st.disarm with stoppedAt := some s.dev.clock.wall } ∧
         (∀ i, i ≠ q → t.stream? i = s.dev.stream? i) ∧
         t.nis = (dropReads q (s.dev.upNi n fun y => { y with released := rest })).nis ∧
         t = { s.dev with nis := t.nis, conv := { s.dev.conv with stream := t.conv.stream } }) ∧
  (∀ (l q : Nat) (x : Queue) (st : Stream) (r : Rec) (s : State),
     (Instr.recordEnd l).wellFormed = true →
     s.Ready →
     s.dev.conv.stream = [(q, st)] →
     s.dev.queue? q = some x →
     st.src < 24 →
     l ∈ s.dev.lanes st.src →
     st.ended = [r] →
     bitOf r.sentBy l = false →
     0 < r.need →
     (s.dev.ni l).atUnit = [] →
     (s.dev.ni l).wcb = [] →
     (s.dev.ni l).out = [] →
     Completes (.recordEnd l) s fun t =>
       t.conv.stream = [(q, { st with ended := [{ r with sentBy := setBit r.sentBy l true }] })] ∧
         (t.ni l).fenced = (s.dev.ni l).fenced ++ [{
           id := (s.dev.ni l).fenceId
           pkt := messagePkt l x.part 2 (seNi (seOf q)) 1 0x0012 (leBytes 2 q ++ leBytes 8 r.no ++ [byte l])
           marks := (marksFor l x.part (s.dev.ni l).fenceId ((s.dev.ni l).fenceSet.map (·.1))).length }] ∧
         NiOnly s.dev t l ∧ t = { s.dev with nis := t.nis, conv := { s.dev.conv with stream := t.conv.stream } }) ∧
  (∀ (q i : Nat) (x y : Queue) (st : Stream) (r : Rec) (rest : List Rec) (s : State),
     (Instr.recordComplete q).wellFormed = true →
     s.Ready →
     s.dev.queue? q = some x →
     s.dev.queue? x.cq = some y →
     x.cq ≠ q →
     seOf x.cq = seOf q →
     s.dev.stream? q = some st →
     st.armed = true →
     st.ended = r :: rest →
     r.need ≤ r.ends →
     st.src < 24 →
     r.slot = some i →
     y.cqRoom = true →
     y.vector = 0xFFFF →
     r.status ≠ 7 →
     (∀ h, h ∈ (s.dev.eng (seOf q)).held → h.q ≠ q) →
     Completes (.recordComplete q) s fun t =>
       Writes s.dev t (seNi (seOf x.cq)) y.part y.cls (y.base + 16 * (y.pi % y.depth)) (cplBytes {
           q := q, index := i % x.depth, status := r.status, detail := r.detail, op := 0x80, late := r.late, irq := false
           tag := r.no % 2 ^ 32, result := recResult r } y.phase) ∧
         t.stream? q = some { st with ended := rest, given := st.given - 1 } ∧ (∀ j, j ≠ q → t.stream? j = s.dev.stream? j) ∧
         t.queue? q = some { x with ci := (x.ci + 1) % 65536 } ∧
         t.queue? x.cq = some { y with
           pi := (y.pi + 1) % 65536
           phase := if (y.pi + 1) % 65536 % y.depth = 0 then !y.phase else y.phase
           unsig := y.unsig + 1 } ∧
         (∀ j, j ≠ q → j ≠ x.cq → t.queue? j = s.dev.queue? j) ∧
         (t.eng (seOf q)).cmds = (s.dev.eng (seOf q)).cmds ∧ (∀ j, j ≠ seOf q → t.eng j = s.dev.eng j) ∧
         t = { s.dev with
           queues := { s.dev.queues with q := t.queues.q, se := t.queues.se }, nis := t.nis, faults := t.faults
           conv := { s.dev.conv with stream := t.conv.stream } })

/-- For the first record of an arming TX stream, one that fits the playback buffers, the CPs of an unfenced link first
issue the READs of its slot; once all are answered OK, the bytes are loaded, the stream is armed, and the STREAM_ARM
that waits for it completes. A due frame of a playing record that holds it, at a link whose CPs are out of reset, is
decoded to the outputs and leaves the buffer. A poll of the trace drain presents the oldest trace records that leave
room in the record's slot, and removes them from the FIFO. Nothing else changes. Where the spec leaves a choice, this
follows the model's readings of log entries 16, 42, 57. -/
def Obligations.PlaybackAndTrace : Prop :=
  (∀ (q i : Nat) (x : Queue) (st : Stream) (rest : List Nat) (s : State),
     (Instr.txPrefetchDone q).wellFormed = true →
     s.Ready →
     s.dev.queue? q = some x →
     s.dev.stream? q = some st →
     s.dev.fenceBit x.part = false →
     linkUp s.dev st.src = true →
     st.tx = true →
     st.arming = true →
     st.limit = 0 →
     st.slots = i :: rest →
     st.playing = [] →
     st.play = [] →
     st.fetch = none →
     64 ≤ x.record →
     x.record ≤ 65536 * lanesOf (s.dev.dcfg st.src) st.src →
     Completes (.txPrefetchDone q) s fun t =>
       t.stream? q = some { st with fetch := some (st.next, 0, x.record) } ∧ (∀ j, j ≠ q → t.stream? j = s.dev.stream? j) ∧
         t.nis = (readSlot q x st.src (x.slotAddr i) 0 (x.record / 64) s.dev).nis ∧
         t = { s.dev with nis := t.nis, faults := t.faults, conv := { s.dev.conv with stream := t.conv.stream } }) ∧
  (∀ (q i : Nat) (bs : Bytes) (x : Queue) (st : Stream) (rest : List Nat) (s : State),
     (Instr.txPrefetchDone q).wellFormed = true →
     s.Ready →
     s.dev.queue? q = some x →
     s.dev.stream? q = some st →
     st.tx = true →
     st.arming = true →
     st.armed = false →
     st.limit = 0 →
     st.slots = i :: rest →
     st.playing = [] →
     st.play = [] →
     st.fetch = some (st.next, 0, x.record) →
     64 ≤ x.record →
     x.record % 64 = 0 →
     x.record ≤ 65536 * lanesOf (s.dev.dcfg st.src) st.src →
     (∀ l, l ∈ s.dev.lanes st.src → keyOpen s.dev l (playKey q) = false) →
     bs.length = x.record →
     (∀ b, b < x.record / 64 →
       blockAnswer (keyAnswers s.dev (st.src + b % max 1 (lanesOf (s.dev.dcfg st.src) st.src)) (playKey q))
         (x.slotAddr i + 64 * b) = (0, (bs.slice (64 * b) 64).map some)) →
     Completes (.txPrefetchDone q) s fun t =>
       t.stream? q = some { st with
           arming := false, armed := true, slots := rest, next := st.next + 1, fetch := none, play := bs.map some
           playing := [{ no := st.next, slot := some i, late := st.startLate && st.next == 0, got := x.record }] } ∧
         (∀ j, j ≠ q → t.stream? j = s.dev.stream? j) ∧
         t.nis = (Dev.fold (s.dev.lanes st.src) (fun l e => takeAnswers l (playKey q) e) s.dev).nis ∧
         t.queues.se = (endWaiting 9 q 0 s.dev).queues.se ∧
         t = { s.dev with
           nis := t.nis, queues := { s.dev.queues with se := t.queues.se }, conv := { s.dev.conv with stream := t.conv.stream } }) ∧
  (∀ (k q : Nat) (at_ : Int) (x : Queue) (st : Stream) (r : Rec) (rest : List Rec) (s : State),
     (Instr.txFrameDue k at_ .none).wellFormed = true →
     s.Ready →
     (s.dev.link k).tx = 5 →
     linkRuns s.dev k = true →
     s.dev.faults.inj.state ≠ 1 →
     armedStream s.dev k true = some q →
     s.dev.queue? q = some x →
     s.dev.stream? q = some st →
     st.armed = true →
     startsAt st (at_ + adjustOf s.dev k 0x10) = true →
     st.playing = r :: rest →
     frameBytes (s.dev.dcfg k) k ≤ st.play.length →
     r.done + frameBytes (s.dev.dcfg k) k ≤ r.got →
     r.done + frameBytes (s.dev.dcfg k) k < x.record →
     Completes (.txFrameDue k at_ .none) s fun t =>
       t.link k = { s.dev.link k with out := some (decodeFrame (s.dev.linkObj k 7) (s.dev.linkObj k 0xD) (s.dev.linkObj k 0xE)
           (st.play.take (frameBytes (s.dev.dcfg k) k))) } ∧
         (∀ j, j ≠ k → t.link j = s.dev.link j) ∧
         t.stream? q = some { st with
           started := true, play := st.play.drop (frameBytes (s.dev.dcfg k) k)
           playing := { r with
             done := r.done + frameBytes (s.dev.dcfg k) k
             first := if r.done = 0 then at_ + adjustOf s.dev k 0x10 else r.first } :: rest } ∧
         (∀ j, j ≠ q → t.stream? j = s.dev.stream? j) ∧
         t = { s.dev with conv := { s.dev.conv with link := t.conv.link, stream := t.conv.stream } }) ∧
  (∀ (f q n : Nat) (x : Queue) (st : Stream) (r : Rec) (s : State),
     (Instr.traceDrainPoll f).wellFormed = true →
     s.Ready →
     traceStream s.dev f = some q →
     s.dev.queue? q = some x →
     s.dev.stream? q = some st →
     unitAdmits s.dev (seNi (seOf q)) x.part = true →
     st.cur = some r →
     min (s.dev.fifo f).recs.length ((x.record - r.done) / 32) = n →
     0 < n →
     r.done + 32 * n < x.record →
     Completes (.traceDrainPoll f) s fun t =>
       Writes s.dev t (seNi (seOf q)) x.part (s.dev.fcfg.nat 0x2F01 1) (x.slotAddr (r.slot.getD 0) + r.done)
           ((s.dev.fifo f).recs.take n).flatten ∧
         t.fifo f = { s.dev.fifo f with recs := (s.dev.fifo f).recs.drop n } ∧ (∀ g, g ≠ f → t.fifo g = s.dev.fifo g) ∧
         t.stream? q = some { st with cur := some { r with done := r.done + 32 * n } } ∧
         (∀ j, j ≠ q → t.stream? j = s.dev.stream? j) ∧
         t = { s.dev with
           nis := t.nis, faults := t.faults, conv := { s.dev.conv with stream := t.conv.stream }
           probes := { s.dev.probes with fifo := t.probes.fifo } })

/-- On a port whose link is up, a frame with a bad FCS is counted and raises 0xBA; a whole Ethernet PTP frame that
passes the filter and finds room goes to the firmware with its ingress timestamp; the end of a pause clears it and
lets the frames of priorities that are not stopped leave; a two-step event frame of the firmware, over Ethernet and of
a priority that is not stopped, is sent and leaves an entry in the timestamp FIFO where it has room. Only the port
named changes. Where the spec leaves a choice, this follows the model's readings of log entries 43, 44. -/
def Obligations.EthernetFrames : Prop :=
  (∀ (p corr : Nat) (at_ : Int) (frame : Bytes) (s : State),
     (Instr.frameReceive p frame false at_ corr 0).wellFormed = true →
     s.Ready →
     (s.dev.eport p).link = 2 →
     s.dev.unitUp (epNi p) = true →
     s.dev.faults.inj.state ≠ 1 →
     Completes (.frameReceive p frame false at_ corr 0) s fun t =>
       (t.eport p).counts.get 0 7 = satAdd 32 ((s.dev.eport p).counts.get 0 7) 1 ∧
         t.eport p = { s.dev.eport p with counts := (t.eport p).counts } ∧ (∀ i, i ≠ p → t.eport i = s.dev.eport i) ∧
         t.faults.crossing = s.dev.faults.crossing ++ [{ src := 0xBA, inst := p, part := 0xFF, cause := 0, injected := false }] ∧
         t = { s.dev with eth := { s.dev.eth with port := t.eth.port }, faults := { s.dev.faults with crossing := t.faults.crossing } }) ∧
  (∀ (p corr : Nat) (at_ : Int) (frame : Bytes) (s : State),
     (Instr.frameReceive p frame true at_ corr 0).wellFormed = true →
     s.Ready →
     (s.dev.eport p).link = 2 →
     s.dev.unitUp (epNi p) = true →
     s.dev.faults.inj.state ≠ 1 →
     60 ≤ frame.length →
     filtered s.dev p (parseFrame frame) = false →
     noRoom s.dev p frame = false →
     (parseFrame frame).ety = 0x88F7 →
     Completes (.frameReceive p frame true at_ corr 0) s fun t =>
       (t.eport p).toFw = (s.dev.eport p).toFw ++
           [{ frame := frame, stamp := ingressStamp s.dev p at_, valid := stampValid s.dev p }] ∧
         (t.eport p).counts.get 0 2 = satAdd 64 ((s.dev.eport p).counts.get 0 2) 1 ∧
         t.eport p = { s.dev.eport p with toFw := (t.eport p).toFw, counts := (t.eport p).counts } ∧
         (∀ i, i ≠ p → t.eport i = s.dev.eport i) ∧ t = { s.dev with eth := { s.dev.eth with port := t.eth.port } }) ∧
  (∀ (p prio : Nat) (s : State),
     (Instr.pfcPauseExpiry p prio).wellFormed = true →
     s.Ready →
     Completes (.pfcPauseExpiry p prio) s fun t =>
       paused t p prio = false ∧ (t.eport p).paused = (s.dev.eport p).paused.erase prio ∧
         (t.eport p).held = (s.dev.eport p).held.filter (fun h => paused t p h.1) ∧
         t.eport p = { s.dev.eport p with
           paused := (t.eport p).paused, held := (t.eport p).held, sent := (t.eport p).sent, counts := (t.eport p).counts } ∧
         (∀ i, i ≠ p → t.eport i = s.dev.eport i) ∧ t = { s.dev with eth := { s.dev.eth with port := t.eth.port } }) ∧
  (∀ (p : Nat) (at_ : Int) (frame : Bytes) (s : State),
     (Instr.ptpTransmit p frame false at_).wellFormed = true →
     s.Ready →
     (s.dev.eport p).link = 2 →
     s.dev.unitUp (epNi p) = true →
     paused s.dev p (framePrio frame) = false →
     (parseFrame frame).ety = 0x88F7 →
     (ptpOffset frame).1 + 44 ≤ frame.length →
     be frame (ptpOffset frame).1 1 % 16 ≤ 3 →
     (s.dev.eport p).fifo.length < 64 →
     Completes (.ptpTransmit p frame false at_) s fun t =>
       (t.eport p).sent = some (.firmware frame) ∧
         (t.eport p).fifo = (s.dev.eport p).fifo ++ [{
           ty := be frame (ptpOffset frame).1 1 % 16, dom := be frame ((ptpOffset frame).1 + 4) 1
           seqId := be frame ((ptpOffset frame).1 + 30) 2, stamp := egressStamp s.dev p at_, valid := stampValid s.dev p }] ∧
         (t.eport p).counts.get 0 3 = satAdd 64 ((s.dev.eport p).counts.get 0 3) 1 ∧
         t.eport p = { s.dev.eport p with sent := (t.eport p).sent, fifo := (t.eport p).fifo, counts := (t.eport p).counts } ∧
         (∀ i, i ≠ p → t.eport i = s.dev.eport i) ∧ t = { s.dev with eth := { s.dev.eth with port := t.eth.port } })

/-- QP_MODIFY from RESET to READY sets the attributes and both PSNs. SEND, RDMA_WRITE and RDMA_WRITE_IMM of a READY
queue pair whose priority is not stopped, of one packet whose data are inline or have been read, send that packet with
the next PSN and wait for its acknowledgement; a SEND without inline data first issues its local READs. RECV and
RAW_SEND wait for their packets; RAW_DATAGRAM_SEND, once its data have been read, sends the last datagram of an entry
and ends it. Where the spec leaves a choice, this follows the model's readings of log entries 16, 43, 45. -/
def Obligations.QueuePairs : Prop :=
  (∀ (q : Nat) (x : Queue) (pre : List Cmd) (k : Cmd) (post : List Cmd) (s : State),
     (Instr.qpModify q).wellFormed = true →
     s.Ready →
     s.dev.queue? q = some x →
     RunsAt s.dev q 0x10 pre k post →
     x.kind = 3 →
     portFenced s.dev x.port x.part = false →
     (s.dev.qp x.qpNo).state = 0 →
     k.bytes.le 8 1 = 1 →
     qpModifyFault 0 k.bytes = none →
     Completes (.qpModify q) s fun t =>
       t.qp x.qpNo = ({ state := 1, attrs := k.bytes.slice 9 47, sqPsn := k.bytes.le 20 3, rqPsn := k.bytes.le 24 3 } : Qp).freshRetries ∧
         (∀ i, i ≠ x.qpNo → t.qp i = s.dev.qp i) ∧
         SeHolds s.dev t (seOf q) (pre ++ { k with st := .done, status := 0, detail := 0, result := 0 } :: post) ∧
         t = { s.dev with queues := { s.dev.queues with se := t.queues.se }, eth := { s.dev.eth with qp := t.eth.qp } }) ∧
  (∀ (q : Nat) (x : Queue) (pre : List Cmd) (k : Cmd) (post : List Cmd) (s : State),
     (Instr.send q).wellFormed = true →
     s.Ready →
     s.dev.queue? q = some x →
     RunsAt s.dev q 1 pre k post →
     x.kind = 3 →
     portFenced s.dev x.port x.part = false →
     netFault 1 k.bytes = none →
     spanFault s.dev.fcfg x.part k.a (k.bytes.le 16 4) = 0 →
     bitOf (k.bytes.le 1 1) 0 = false →
     readState s.dev (epNi x.port) (queueKey q k.index 2) (reads64 k.a (k.bytes.le 16 4)) = .idle →
     (s.dev.qp x.qpNo).state = 1 →
     oldestRunning s.dev q k = true →
     paused s.dev x.port (s.dev.qp x.qpNo).prio = false →
     Completes (.send q) s fun t =>
       t = engineRead (epNi x.port) x.part (s.dev.portObj x.port 5) (queueKey q k.index 2) (reads64 k.a (k.bytes.le 16 4)) s.dev) ∧
  (∀ (q : Nat) (data : Bytes) (x : Queue) (pre : List Cmd) (k : Cmd) (post : List Cmd) (s : State),
     (Instr.send q).wellFormed = true →
     s.Ready →
     s.dev.queue? q = some x →
     RunsAt s.dev q 1 pre k post →
     x.kind = 3 →
     portFenced s.dev x.port x.part = false →
     netFault 1 k.bytes = none →
     k.bytes.le 16 4 = 0 ∨ spanFault s.dev.fcfg x.part k.a (k.bytes.le 16 4) = 0 →
     (if bitOf (k.bytes.le 1 1) 0 then data = k.bytes.slice 36 (k.bytes.le 2 2) else
       readState s.dev (epNi x.port) (queueKey q k.index 2) (reads64 k.a (k.bytes.le 16 4)) = .done 0 data) →
     (s.dev.qp x.qpNo).state = 1 →
     oldestRunning s.dev q k = true →
     paused s.dev x.port (s.dev.qp x.qpNo).prio = false →
     (s.dev.eport x.port).link = 2 →
     packetCount data.length (s.dev.qp x.qpNo).mtu = 1 →
     data.length ≤ (s.dev.qp x.qpNo).mtu →
     Completes (.send q) s fun t =>
       (t.eport x.port).sent = some (.roce {
           qp := x.qpNo, op := 4, psn := psnAdd (s.dev.qp x.qpNo).sqPsn 0, data := data
           reth := none, imm := none }) ∧
         t.qp x.qpNo = { s.dev.qp x.qpNo with
           sqPsn := psnAdd (s.dev.qp x.qpNo).sqPsn 1
           msgs := (s.dev.qp x.qpNo).msgs ++ [{
             index := k.index, first := (s.dev.qp x.qpNo).sqPsn, last := psnAdd (s.dev.qp x.qpNo).sqPsn 0, op := 1
             data := data, va := k.bytes.le 24 8, rkey := k.bytes.le 32 4, imm := k.bytes.le 20 4 }] } ∧
         (∀ i, i ≠ x.qpNo → t.qp i = s.dev.qp i) ∧
         t.eport x.port = { s.dev.eport x.port with sent := (t.eport x.port).sent, counts := (t.eport x.port).counts } ∧
         (∀ i, i ≠ x.port → t.eport i = s.dev.eport i) ∧
         SeHolds s.dev t (seOf q) (pre ++ { k with st := .waiting } :: post) ∧
         t = { s.dev with
           queues := { s.dev.queues with se := t.queues.se }
           nis := if bitOf (k.bytes.le 1 1) 0 then s.dev.nis else (takeAnswers (epNi x.port) (queueKey q k.index 2) s.dev).nis
           eth := { s.dev.eth with qp := t.eth.qp, port := t.eth.port } }) ∧
  (∀ (q : Nat) (data : Bytes) (x : Queue) (pre : List Cmd) (k : Cmd) (post : List Cmd) (s : State),
     (Instr.rdmaWrite q).wellFormed = true →
     s.Ready →
     s.dev.queue? q = some x →
     RunsAt s.dev q 2 pre k post →
     x.kind = 3 →
     portFenced s.dev x.port x.part = false →
     netFault 2 k.bytes = none →
     k.bytes.le 16 4 = 0 ∨ spanFault s.dev.fcfg x.part k.a (k.bytes.le 16 4) = 0 →
     (if bitOf (k.bytes.le 1 1) 0 then data = k.bytes.slice 36 (k.bytes.le 2 2) else
       readState s.dev (epNi x.port) (queueKey q k.index 2) (reads64 k.a (k.bytes.le 16 4)) = .done 0 data) →
     (s.dev.qp x.qpNo).state = 1 →
     oldestRunning s.dev q k = true →
     paused s.dev x.port (s.dev.qp x.qpNo).prio = false →
     (s.dev.eport x.port).link = 2 →
     packetCount data.length (s.dev.qp x.qpNo).mtu = 1 →
     data.length ≤ (s.dev.qp x.qpNo).mtu →
     Completes (.rdmaWrite q) s fun t =>
       (t.eport x.port).sent = some (.roce {
           qp := x.qpNo, op := 10, psn := psnAdd (s.dev.qp x.qpNo).sqPsn 0, data := data
           reth := some (k.bytes.le 24 8, k.bytes.le 32 4, data.length), imm := none }) ∧
         t.qp x.qpNo = { s.dev.qp x.qpNo with
           sqPsn := psnAdd (s.dev.qp x.qpNo).sqPsn 1
           msgs := (s.dev.qp x.qpNo).msgs ++ [{
             index := k.index, first := (s.dev.qp x.qpNo).sqPsn, last := psnAdd (s.dev.qp x.qpNo).sqPsn 0, op := 2
             data := data, va := k.bytes.le 24 8, rkey := k.bytes.le 32 4, imm := k.bytes.le 20 4 }] } ∧
         (∀ i, i ≠ x.qpNo → t.qp i = s.dev.qp i) ∧
         t.eport x.port = { s.dev.eport x.port with sent := (t.eport x.port).sent, counts := (t.eport x.port).counts } ∧
         (∀ i, i ≠ x.port → t.eport i = s.dev.eport i) ∧
         SeHolds s.dev t (seOf q) (pre ++ { k with st := .waiting } :: post) ∧
         t = { s.dev with
           queues := { s.dev.queues with se := t.queues.se }
           nis := if bitOf (k.bytes.le 1 1) 0 then s.dev.nis else (takeAnswers (epNi x.port) (queueKey q k.index 2) s.dev).nis
           eth := { s.dev.eth with qp := t.eth.qp, port := t.eth.port } }) ∧
  (∀ (q : Nat) (data : Bytes) (x : Queue) (pre : List Cmd) (k : Cmd) (post : List Cmd) (s : State),
     (Instr.rdmaWriteImm q).wellFormed = true →
     s.Ready →
     s.dev.queue? q = some x →
     RunsAt s.dev q 3 pre k post →
     x.kind = 3 →
     portFenced s.dev x.port x.part = false →
     netFault 3 k.bytes = none →
     k.bytes.le 16 4 = 0 ∨ spanFault s.dev.fcfg x.part k.a (k.bytes.le 16 4) = 0 →
     (if bitOf (k.bytes.le 1 1) 0 then data = k.bytes.slice 36 (k.bytes.le 2 2) else
       readState s.dev (epNi x.port) (queueKey q k.index 2) (reads64 k.a (k.bytes.le 16 4)) = .done 0 data) →
     (s.dev.qp x.qpNo).state = 1 →
     oldestRunning s.dev q k = true →
     paused s.dev x.port (s.dev.qp x.qpNo).prio = false →
     (s.dev.eport x.port).link = 2 →
     packetCount data.length (s.dev.qp x.qpNo).mtu = 1 →
     data.length ≤ (s.dev.qp x.qpNo).mtu →
     Completes (.rdmaWriteImm q) s fun t =>
       (t.eport x.port).sent = some (.roce {
           qp := x.qpNo, op := 11, psn := psnAdd (s.dev.qp x.qpNo).sqPsn 0, data := data
           reth := some (k.bytes.le 24 8, k.bytes.le 32 4, data.length), imm := some (k.bytes.le 20 4) }) ∧
         t.qp x.qpNo = { s.dev.qp x.qpNo with
           sqPsn := psnAdd (s.dev.qp x.qpNo).sqPsn 1
           msgs := (s.dev.qp x.qpNo).msgs ++ [{
             index := k.index, first := (s.dev.qp x.qpNo).sqPsn, last := psnAdd (s.dev.qp x.qpNo).sqPsn 0, op := 3
             data := data, va := k.bytes.le 24 8, rkey := k.bytes.le 32 4, imm := k.bytes.le 20 4 }] } ∧
         (∀ i, i ≠ x.qpNo → t.qp i = s.dev.qp i) ∧
         t.eport x.port = { s.dev.eport x.port with sent := (t.eport x.port).sent, counts := (t.eport x.port).counts } ∧
         (∀ i, i ≠ x.port → t.eport i = s.dev.eport i) ∧
         SeHolds s.dev t (seOf q) (pre ++ { k with st := .waiting } :: post) ∧
         t = { s.dev with
           queues := { s.dev.queues with se := t.queues.se }
           nis := if bitOf (k.bytes.le 1 1) 0 then s.dev.nis else (takeAnswers (epNi x.port) (queueKey q k.index 2) s.dev).nis
           eth := { s.dev.eth with qp := t.eth.qp, port := t.eth.port } }) ∧
  (∀ (q : Nat) (x : Queue) (pre : List Cmd) (k : Cmd) (post : List Cmd) (s : State),
     (Instr.rawSend q).wellFormed = true →
     s.Ready →
     s.dev.queue? q = some x →
     RunsAt s.dev q 4 pre k post →
     x.kind = 3 →
     portFenced s.dev x.port x.part = false →
     netFault 4 k.bytes = none →
     spanFault s.dev.fcfg x.part k.a (k.bytes.le 16 4) = 0 →
     Completes (.rawSend q) s fun t =>
       SeHolds s.dev t (seOf q) (pre ++ { k with st := .waiting } :: post) ∧
         t = { s.dev with queues := { s.dev.queues with se := t.queues.se } }) ∧
  (∀ (q : Nat) (x : Queue) (pre : List Cmd) (k : Cmd) (post : List Cmd) (s : State),
     (Instr.recv q).wellFormed = true →
     s.Ready →
     s.dev.queue? q = some x →
     RunsAt s.dev q 32 pre k post →
     x.kind = 3 →
     portFenced s.dev x.port x.part = false →
     netFault 32 k.bytes = none →
     spanFault s.dev.fcfg x.part k.a (k.bytes.le 16 4) = 0 →
     ¬ (x.role = 1 ∧ (s.dev.qp x.qpNo).state = 2) →
     Completes (.recv q) s fun t =>
       SeHolds s.dev t (seOf q) (pre ++ { k with st := .waiting } :: post) ∧
         t = { s.dev with queues := { s.dev.queues with se := t.queues.se } }) ∧
  (∀ (q n : Nat) (bs : Bytes) (x : Queue) (r : RawSend) (pre : List Cmd) (k : Cmd) (post : List Cmd) (s : State),
     (Instr.rawDatagramSend q).wellFormed = true →
     s.Ready →
     s.dev.queue? q = some x →
     (s.dev.eng (seOf q)).cmds = pre ++ k :: post →
     k.q = q →
     k.st = .waiting →
     k.bytes.le 0 1 = 4 →
     (∀ j, j ∈ pre → j.q ≠ q) →
     portFenced s.dev x.port x.part = false →
     (s.dev.eport x.port).link = 2 →
     (s.dev.eport x.port).paused = [] →
     s.dev.eth.raw.get {} q = r →
     k.bytes.le 16 4 - r.off = n →
     0 < n →
     n ≤ (s.dev.shadow (5 + x.port)).nat (0x2B20 + x.sel) 4 →
     readState s.dev (epNi x.port) (queueKey q k.index 2) (reads64 (k.a + r.off) n) = .done 0 bs →
     Completes (.rawDatagramSend q) s fun t =>
       (t.eport x.port).sent = some (.raw (datagram ((s.dev.shadow (5 + x.port)).bytesAt 0 (0x2B20 + x.sel) 1)
           ((s.dev.shadow (5 + x.port)).nat (0x2B20 + x.sel) 2) r.seqNo (k.bytes.le 4 4) r.off true bs)) ∧
         t.eport x.port = { s.dev.eport x.port with sent := (t.eport x.port).sent, counts := (t.eport x.port).counts } ∧
         (∀ i, i ≠ x.port → t.eport i = s.dev.eport i) ∧
         t.eth.raw = s.dev.eth.raw.set q { seqNo := (r.seqNo + 1) % 2 ^ 32, off := 0 } ∧
         SeHolds s.dev t (seOf q) (pre ++ { k with st := .done, status := 0, detail := 0, result := k.bytes.le 16 4 } :: post) ∧
         t = { s.dev with
           queues := { s.dev.queues with se := t.queues.se }, nis := (takeAnswers (epNi x.port) (queueKey q k.index 2) s.dev).nis
           eth := { s.dev.eth with raw := t.eth.raw, port := t.eth.port } })

/-- On a port whose priority flow control is off and for a queue pair whose priority is not stopped and which has been
handed no QP_MODIFY: an in-order SEND of one packet is presented for the receive buffer of the next RECV entry, its
end is reported to the SE by a fenced message behind those writes, the expected PSN advances and an ACK goes back; an
ACK that covers the one message in flight completes its entry and gives the retries anew; a retransmit timeout and the
end of an RNR delay send a message of one packet again and take one retry; the ACK timer acknowledges what was
accepted. Where the spec leaves a choice, this follows the model's readings of log entries 16, 33, 43, 45. -/
def Obligations.RocePackets : Prop :=
  (∀ (p n sq rq : Nat) (x y : Queue) (k : Cmd) (b : Bytes) (s : State),
     (Instr.rocePacketReceive p true .none .none).wellFormed = true →
     s.Ready →
     frontRoce s.dev p = some (4, n, (s.dev.qp n).rqPsn, b) →
     qpQueue s.dev n 0 = some (sq, x) →
     qpQueue s.dev n 1 = some (rq, y) →
     x.port = p →
     portFenced s.dev p x.part = false →
     (s.dev.qp n).state = 1 →
     (s.dev.eport p).link = 2 →
     s.dev.portObj p 7 = 0 →
     paused s.dev p (s.dev.qp n).prio = false →
     runningCmd s.dev sq 0x10 = none →
     nextRecv s.dev rq = some k →
     b.length ≤ k.bytes.le 16 4 →
     Completes (.rocePacketReceive p true .none .none) s fun t =>
       t.nis = (startFenced (messagePkt (epNi p) x.part 2 (seNi (seOf rq)) 3 0x0013
           (leBytes 2 rq ++ leBytes 2 k.index ++ [byte 0, byte 0, byte 0x91] ++ leBytes 4 b.length)) none
           (engineWrite (epNi p) x.part (s.dev.portObj p 5) k.a b s.dev)).nis ∧
         t.queues.se = (upCmd rq (atIndex k.index) (fun c => { c with delivered := true }) s.dev).queues.se ∧
         t.qp n = { s.dev.qp n with rqPsn := psnAdd (s.dev.qp n).rqPsn 1, nak := false, rx := none, unacked := 0 } ∧
         (∀ i, i ≠ n → t.qp i = s.dev.qp i) ∧
         (t.eport p).sent = some (.roce {
           qp := n, op := 0x11, psn := psnAdd (psnAdd (s.dev.qp n).rqPsn 1) (2 ^ 24 - 1), syndrome := some 0x1F }) ∧
         (t.eport p).buf = (s.dev.eport p).buf.drop 1 ∧
         t.eport p = { s.dev.eport p with sent := (t.eport p).sent, buf := (t.eport p).buf, counts := (t.eport p).counts } ∧
         (∀ i, i ≠ p → t.eport i = s.dev.eport i) ∧
         t = { s.dev with
           queues := { s.dev.queues with se := t.queues.se }, nis := t.nis, faults := t.faults
           eth := { s.dev.eth with qp := t.eth.qp, port := t.eth.port } }) ∧
  (∀ (p n q psn : Nat) (x : Queue) (m : OutMsg) (b : Bytes) (pre : List Cmd) (k : Cmd) (post : List Cmd) (s : State),
     (Instr.ackReceive p true .none .none).wellFormed = true →
     s.Ready →
     frontRoce s.dev p = some (0x11, n, psn, b) →
     be b 0 1 / 32 = 0 →
     qpQueue s.dev n 0 = some (q, x) →
     x.port = p →
     portFenced s.dev p x.part = false →
     (s.dev.qp n).state = 1 →
     s.dev.portObj p 7 = 0 →
     runningCmd s.dev q 0x10 = none →
     (s.dev.qp n).msgs = [m] →
     psnAfter psn m.last = true →
     (s.dev.eng (seOf q)).cmds = pre ++ k :: post →
     k.q = q →
     k.index = m.index →
     k.st = .waiting →
     (∀ j, j ∈ pre → j.q ≠ q) →
     Completes (.ackReceive p true .none .none) s fun t =>
       t.qp n = { (s.dev.qp n).freshRetries with msgs := [] } ∧ (∀ i, i ≠ n → t.qp i = s.dev.qp i) ∧
         t.eport p = { s.dev.eport p with buf := (s.dev.eport p).buf.drop 1 } ∧ (∀ i, i ≠ p → t.eport i = s.dev.eport i) ∧
         SeHolds s.dev t (seOf q) (pre ++ { k with st := .done, status := 0, detail := 0, result := m.data.length } :: post) ∧
         t = { s.dev with
           queues := { s.dev.queues with se := t.queues.se }, eth := { s.dev.eth with qp := t.eth.qp, port := t.eth.port } }) ∧
  (∀ (n p : Nat) (m : OutMsg) (s : State),
     (Instr.retransmitTimeout n).wellFormed = true →
     s.Ready →
     readyPort s.dev n = some p →
     (s.dev.eport p).link = 2 →
     paused s.dev p (s.dev.qp n).prio = false →
     (s.dev.qp n).msgs = [m] →
     m.last = m.first →
     m.first < 2 ^ 24 →
     m.op = 1 →
     packetCount m.data.length (s.dev.qp n).mtu = 1 →
     m.data.length ≤ (s.dev.qp n).mtu →
     (s.dev.qp n).rnrAt = none →
     (s.dev.qp n).retries ≠ 0 →
     Completes (.retransmitTimeout n) s fun t =>
       (t.eport p).sent = some (.roce { qp := n, op := 4, psn := m.first, data := m.data }) ∧
         (t.eport p).counts.get 0 0xC = satAdd 32 ((s.dev.eport p).counts.get 0 0xC) 1 ∧
         t.eport p = { s.dev.eport p with sent := (t.eport p).sent, counts := (t.eport p).counts } ∧
         (∀ i, i ≠ p → t.eport i = s.dev.eport i) ∧
         t.qp n = { s.dev.qp n with retries := (s.dev.qp n).retries - 1 } ∧ (∀ i, i ≠ n → t.qp i = s.dev.qp i) ∧
         t = { s.dev with eth := { s.dev.eth with qp := t.eth.qp, port := t.eth.port } }) ∧
  (∀ (n p : Nat) (m : OutMsg) (s : State),
     (Instr.rnrRetryDelay n).wellFormed = true →
     s.Ready →
     readyPort s.dev n = some p →
     (s.dev.eport p).link = 2 →
     paused s.dev p (s.dev.qp n).prio = false →
     (s.dev.qp n).msgs = [m] →
     m.last = m.first →
     m.first < 2 ^ 24 →
     m.op = 1 →
     packetCount m.data.length (s.dev.qp n).mtu = 1 →
     m.data.length ≤ (s.dev.qp n).mtu →
     (s.dev.qp n).rnrAt = some m.first →
     (s.dev.qp n).attr 11 / 16 % 8 ≠ 7 →
     (s.dev.qp n).rnrs ≠ 0 →
     Completes (.rnrRetryDelay n) s fun t =>
       (t.eport p).sent = some (.roce { qp := n, op := 4, psn := m.first, data := m.data }) ∧
         (t.eport p).counts.get 0 0xC = satAdd 32 ((s.dev.eport p).counts.get 0 0xC) 1 ∧
         t.eport p = { s.dev.eport p with sent := (t.eport p).sent, counts := (t.eport p).counts } ∧
         (∀ i, i ≠ p → t.eport i = s.dev.eport i) ∧
         t.qp n = { s.dev.qp n with rnrAt := none, rnrs := (s.dev.qp n).rnrs - 1 } ∧ (∀ i, i ≠ n → t.qp i = s.dev.qp i) ∧
         t = { s.dev with eth := { s.dev.eth with qp := t.eth.qp, port := t.eth.port } }) ∧
  (∀ (n p : Nat) (s : State),
     (Instr.ackTimer n).wellFormed = true →
     s.Ready →
     readyPort s.dev n = some p →
     (s.dev.eport p).link = 2 →
     paused s.dev p (s.dev.qp n).prio = false →
     0 < (s.dev.qp n).unacked →
     Completes (.ackTimer n) s fun t =>
       (t.eport p).sent = some (.roce {
           qp := n, op := 0x11, psn := psnAdd (s.dev.qp n).rqPsn (2 ^ 24 - 1), syndrome := some 0x1F }) ∧
         t.eport p = { s.dev.eport p with sent := (t.eport p).sent, counts := (t.eport p).counts } ∧
         (∀ i, i ≠ p → t.eport i = s.dev.eport i) ∧
         t.qp n = { s.dev.qp n with unacked := 0 } ∧ (∀ i, i ≠ n → t.qp i = s.dev.qp i) ∧
         t = { s.dev with eth := { s.dev.eth with qp := t.eth.qp, port := t.eth.port } })

/-- An OP_EXEC whose descriptor passes every check waits for delivery; while fewer than 4 descriptors of its partition
are delivered to the unit, none of the queue's deliveries has been answered and nothing is fenced, a delivery sends
the descriptor to the unit with a WRITE_NP. The end of a descriptor frees the unit, counts it and its cycles, raises
its partition's pass by its share and, at a unit whose NI has nothing queued or waiting, reports it by a fenced
message; the time limit ends it ABORTED and raises 0x3A. Where the spec leaves a choice, this follows the model's
readings of log entries 33, 46. -/
def Obligations.OperatorDescriptors : Prop :=
  (∀ (q : Nat) (x : Queue) (pre : List Cmd) (k : Cmd) (post : List Cmd) (s : State),
     (Instr.opExec q).wellFormed = true →
     s.Ready →
     s.dev.queue? q = some x →
     RunsAt s.dev q 0xB pre k post →
     bitOf (k.bytes.le 1 1) 0 = true →
     k.bytes.le 2 2 = 96 →
     fieldFault 0xB k.index k.bytes = none →
     descFault k.desc = none →
     descAccess s.dev (x.kparam.le 0 1) x.part k.desc = 0 →
     Completes (.opExec q) s fun t =>
       SeHolds s.dev t (seOf q) (pre ++ { k with st := .waiting } :: post) ∧
         t = { s.dev with queues := { s.dev.queues with se := t.queues.se } }) ∧
  (∀ (q n : Nat) (x : Queue) (pre : List Cmd) (k : Cmd) (post : List Cmd) (s : State),
     (Instr.descriptorDelivery q).wellFormed = true →
     s.Ready →
     s.dev.queue? q = some x →
     (s.dev.eng (seOf q)).cmds = pre ++ k :: post →
     k.q = q →
     k.st = .waiting →
     k.delivered = false →
     k.bytes.le 0 1 = 0xB →
     (∀ j, j ∈ pre → j.q ≠ q) →
     x.kparam.le 0 1 = n →
     deliveredCount s.dev (seOf q) n x.part < 4 →
     deliveryAnswered s.dev q = none →
     s.dev.unitUp (seNi (seOf q)) = true →
     s.dev.fenceBit x.part = false →
     Completes (.descriptorDelivery q) s fun t =>
       t.nis = (engineWriteNp (seNi (seOf q)) x.part x.cls (queueKey q k.index 2) (0x88000000 + opNi n * 0x100000)
           (jobBytes { q := q, index := k.index, part := x.part, desc := k.desc } (k.bytes.le 4 4)) s.dev).nis ∧
         SeHolds s.dev t (seOf q) (pre ++ { k with delivered := true } :: post) ∧
         t = { s.dev with queues := { s.dev.queues with se := t.queues.se }, nis := t.nis, faults := t.faults }) ∧
  (∀ (n cycles : Nat) (r : Ran) (s : State),
     (Instr.descriptorEnd n cycles).wellFormed = true →
     s.Ready →
     (s.dev.op n).run = some r →
     r.ended = true →
     r.status ≠ 0x0F →
     (s.dev.ni (opNi n)).atUnit = [] →
     (s.dev.ni (opNi n)).wcb = [] →
     (s.dev.ni (opNi n)).out = [] →
     Completes (.descriptorEnd n cycles) s fun t =>
       t.op n = { s.dev.op n with
           run := none
           pass := (s.dev.op n).pass.modify 0 r.job.part
             (· + ceilDiv (65536 * cycles) (max 1 (s.dev.fcfg.nat (0x2C10 + n) (r.job.part + 1))))
           counts := (t.op n).counts } ∧
         (t.op n).counts.get 0 3 = satAdd 64 ((s.dev.op n).counts.get 0 3) 1 ∧
         (t.op n).counts.get 0 4 = satAdd 64 ((s.dev.op n).counts.get 0 4) cycles ∧
         (∀ i, i ≠ n → t.op i = s.dev.op i) ∧
         (t.ni (opNi n)).fenced.map (·.pkt) = (s.dev.ni (opNi n)).fenced.map (·.pkt) ++ [
           messagePkt (opNi n) r.job.part 2 (seNi (seOf r.job.q)) 3 0x0030
             (leBytes 2 r.job.q ++ leBytes 2 r.job.index ++ [byte r.status, byte r.detail, byte 0x0B] ++ leBytes 4 r.result)] ∧
         NiOnly s.dev t (opNi n) ∧ t = { s.dev with ops := t.ops, nis := t.nis }) ∧
  (∀ (n cycles : Nat) (r : Ran) (s : State),
     (Instr.descriptorTimeLimit n cycles).wellFormed = true →
     s.Ready →
     (s.dev.op n).run = some r →
     s.dev.faults.inj.state ≠ 1 →
     Completes (.descriptorTimeLimit n cycles) s fun t =>
       (t.op n).run = none ∧ (t.op n).store = (s.dev.op n).store ∧
         (t.op n).counts.get 0 5 = satAdd 32 ((s.dev.op n).counts.get 0 5) 1 ∧
         (∀ i, i ≠ n → t.op i = s.dev.op i) ∧
         t.nis = (startFenced (messagePkt (opNi n) r.job.part 2 (seNi (seOf r.job.q)) 3 0x0030
             (leBytes 2 r.job.q ++ leBytes 2 r.job.index ++ [byte 8, byte 0, byte 0x0B] ++ leBytes 4 r.result)) none
           (forgetKeys (opNi n) (· == opKey) s.dev)).nis ∧
         t.faults.crossing = s.dev.faults.crossing ++ [{ src := 0x3A, inst := n, part := r.job.part, cause := 0, injected := false }] ∧
         t = { s.dev with ops := t.ops, nis := t.nis, faults := { s.dev.faults with crossing := t.faults.crossing } })

/-- A free unit starts the descriptor that it selects, of any operation, and issues its READs. Once the READs of a
descriptor of one record are answered OK, FFT (free values), FIR, DECIMATE, CONVERT and AVERAGE present the output
record, computed from what was read, with the range DETAIL; THRESHOLD, whose messages all find room, sends them and
presents its event records; CHECKSUM keeps the CRC as RESULT and writes nothing; the unit then holds the outcome until
the descriptor's end. Where the spec leaves a choice, this follows the model's readings of log entries 16, 46. -/
def Obligations.OperatorRuns : Prop :=
  (∀ (n : Nat) (c : Nat × Instr) (j : Job) (s : State),
     c ∈ [(1, .opFft n .none), (2, .opFir n .none), (3, .opDecimate n .none), (4, .opAverage n .none),
       (5, .opThreshold n .none []), (6, .opConvert n .none), (7, .opChecksum n .none)] →
     c.2.wellFormed = true →
     s.Ready →
     (s.dev.op n).run = none →
     selectJob (s.dev.op n) = some j →
     dOper j.desc = c.1 →
     s.dev.unitUp (opNi n) = true →
     Completes (c.2) s fun t =>
       t.op n = { s.dev.op n with store := (s.dev.op n).store.erase j, run := some { job := j, ended := false } } ∧
         (∀ i, i ≠ n → t.op i = s.dev.op i) ∧
         t.nis = (engineRead (opNi n) j.part (opClass s.dev j.part) opKey (opSpans j.desc) s.dev).nis ∧
         t = { s.dev with ops := t.ops, nis := t.nis, faults := t.faults }) ∧
  (∀ (n : Nat) (raw tab : Bytes) (o : Bytes × Nat) (j : Job) (s : State),
     (Instr.opFft n .none).wellFormed = true →
     s.Ready →
     (s.dev.op n).run = some { job := j, ended := false } →
     dOper j.desc = 1 →
     s.dev.unitUp (opNi n) = true →
     keyOpen s.dev (opNi n) opKey = false →
     dBatch j.desc = 1 →
     answered (keyAnswers s.dev (opNi n) opKey) (inRecord j.desc 0) = (0, raw) →
     readTable j.desc (keyAnswers s.dev (opNi n) opKey) = (0, tab) →
     o = writeVals (dOfmt j.desc) (dSat j.desc) (fftRecord j.desc tab raw) →
     Completes (.opFft n .none) s fun t =>
       Writes (takeAnswers (opNi n) opKey s.dev) t (opNi n) j.part (opClass s.dev j.part) (dDst j.desc) o.1 ∧
         t.op n = { s.dev.op n with
           run := some { job := j, status := if o.2 ≠ 0 then 0x0F else 0, detail := o.2, result := min o.1.length (2 ^ 32 - 1) } } ∧
         (∀ i, i ≠ n → t.op i = s.dev.op i) ∧ t = { s.dev with ops := t.ops, nis := t.nis, faults := t.faults }) ∧
  (∀ (n : Nat) (raw tab : Bytes) (o : Bytes × Nat) (j : Job) (s : State),
     (Instr.opFir n .none).wellFormed = true →
     s.Ready →
     (s.dev.op n).run = some { job := j, ended := false } →
     dOper j.desc = 2 →
     s.dev.unitUp (opNi n) = true →
     keyOpen s.dev (opNi n) opKey = false →
     dBatch j.desc = 1 →
     answered (keyAnswers s.dev (opNi n) opKey) (inRecord j.desc 0) = (0, raw) →
     readTable j.desc (keyAnswers s.dev (opNi n) opKey) = (0, tab) →
     o = writeVals (dOfmt j.desc) (dSat j.desc) (firRecord j.desc tab (readVals (dIfmt j.desc) raw)) →
     Completes (.opFir n .none) s fun t =>
       Writes (takeAnswers (opNi n) opKey s.dev) t (opNi n) j.part (opClass s.dev j.part) (dDst j.desc) o.1 ∧
         t.op n = { s.dev.op n with
           run := some { job := j, status := if o.2 ≠ 0 then 0x0F else 0, detail := o.2, result := min o.1.length (2 ^ 32 - 1) } } ∧
         (∀ i, i ≠ n → t.op i = s.dev.op i) ∧ t = { s.dev with ops := t.ops, nis := t.nis, faults := t.faults }) ∧
  (∀ (n : Nat) (raw tab : Bytes) (o : Bytes × Nat) (j : Job) (s : State),
     (Instr.opDecimate n .none).wellFormed = true →
     s.Ready →
     (s.dev.op n).run = some { job := j, ended := false } →
     dOper j.desc = 3 →
     s.dev.unitUp (opNi n) = true →
     keyOpen s.dev (opNi n) opKey = false →
     dBatch j.desc = 1 →
     answered (keyAnswers s.dev (opNi n) opKey) (inRecord j.desc 0) = (0, raw) →
     readTable j.desc (keyAnswers s.dev (opNi n) opKey) = (0, tab) →
     o = writeVals (dOfmt j.desc) (dSat j.desc) (firRecord j.desc tab (readVals (dIfmt j.desc) raw)) →
     Completes (.opDecimate n .none) s fun t =>
       Writes (takeAnswers (opNi n) opKey s.dev) t (opNi n) j.part (opClass s.dev j.part) (dDst j.desc) o.1 ∧
         t.op n = { s.dev.op n with
           run := some { job := j, status := if o.2 ≠ 0 then 0x0F else 0, detail := o.2, result := min o.1.length (2 ^ 32 - 1) } } ∧
         (∀ i, i ≠ n → t.op i = s.dev.op i) ∧ t = { s.dev with ops := t.ops, nis := t.nis, faults := t.faults }) ∧
  (∀ (n : Nat) (raw : Bytes) (o : Bytes × Nat) (j : Job) (s : State),
     (Instr.opConvert n .none).wellFormed = true →
     s.Ready →
     (s.dev.op n).run = some { job := j, ended := false } →
     dOper j.desc = 6 →
     s.dev.unitUp (opNi n) = true →
     keyOpen s.dev (opNi n) opKey = false →
     dBatch j.desc = 1 →
     answered (keyAnswers s.dev (opNi n) opKey) (inRecord j.desc 0) = (0, raw) →
     o = writeVals (dOfmt j.desc) (dSat j.desc) (convertRecord j.desc (readVals (dIfmt j.desc) raw)) →
     Completes (.opConvert n .none) s fun t =>
       Writes (takeAnswers (opNi n) opKey s.dev) t (opNi n) j.part (opClass s.dev j.part) (dDst j.desc) o.1 ∧
         t.op n = { s.dev.op n with
           run := some { job := j, status := if o.2 ≠ 0 then 0x0F else 0, detail := o.2, result := min o.1.length (2 ^ 32 - 1) } } ∧
         (∀ i, i ≠ n → t.op i = s.dev.op i) ∧ t = { s.dev with ops := t.ops, nis := t.nis, faults := t.faults }) ∧
  (∀ (n : Nat) (raw : Bytes) (o : Bytes × Nat) (j : Job) (s : State),
     (Instr.opAverage n .none).wellFormed = true →
     s.Ready →
     (s.dev.op n).run = some { job := j, ended := false } →
     dOper j.desc = 4 →
     s.dev.unitUp (opNi n) = true →
     keyOpen s.dev (opNi n) opKey = false →
     dBatch j.desc = 1 →
     answered (keyAnswers s.dev (opNi n) opKey) (inRecord j.desc 0) = (0, raw) →
     o = writeVals (dOfmt j.desc) (dSat j.desc) ((List.range (dCount j.desc * dVals j.desc)).map fun i =>
       f32Mul (dScale j.desc) (averageElem (j.desc.le 48 1) 1 [(readVals (dIfmt j.desc) raw).getD i (.int 0)])) →
     Completes (.opAverage n .none) s fun t =>
       Writes (takeAnswers (opNi n) opKey s.dev) t (opNi n) j.part (opClass s.dev j.part) (dDst j.desc) o.1 ∧
         t.op n = { s.dev.op n with
           run := some { job := j, status := if o.2 ≠ 0 then 0x0F else 0, detail := o.2, result := min o.1.length (2 ^ 32 - 1) } } ∧
         (∀ i, i ≠ n → t.op i = s.dev.op i) ∧ t = { s.dev with ops := t.ops, nis := t.nis, faults := t.faults }) ∧
  (∀ (n : Nat) (raw : Bytes) (j : Job) (s : State),
     (Instr.opChecksum n .none).wellFormed = true →
     s.Ready →
     (s.dev.op n).run = some { job := j, ended := false } →
     dOper j.desc = 7 →
     s.dev.unitUp (opNi n) = true →
     keyOpen s.dev (opNi n) opKey = false →
     dBatch j.desc = 1 →
     answered (keyAnswers s.dev (opNi n) opKey) (inRecord j.desc 0) = (0, raw) →
     Completes (.opChecksum n .none) s fun t =>
       t.nis = (takeAnswers (opNi n) opKey s.dev).nis ∧
         t.op n = { s.dev.op n with
           run := some { job := j, result := if j.desc.le 48 1 = 0 then crc32c raw else crc32 raw } } ∧
         (∀ i, i ≠ n → t.op i = s.dev.op i) ∧ t = { s.dev with ops := t.ops, nis := t.nis }) ∧
  (∀ (n : Nat) (raw out : Bytes) (j : Job) (evs : List ThEvent) (s : State),
     (Instr.opThreshold n .none []).wellFormed = true →
     s.Ready →
     (s.dev.op n).run = some { job := j, ended := false } →
     dOper j.desc = 5 →
     s.dev.unitUp (opNi n) = true →
     keyOpen s.dev (opNi n) opKey = false →
     dBatch j.desc = 1 →
     answered (keyAnswers s.dev (opNi n) opKey) (inRecord j.desc 0) = (0, raw) →
     evs = thEvents j.desc [raw] →
     out = ((evs.take (j.desc.le 88 4)).map fun e => thRecord j.desc e false).flatten →
     Completes (.opThreshold n .none []) s fun t =>
       t.nis = (engineWrite (opNi n) j.part (opClass s.dev j.part) (dDst j.desc) out
           (Dev.fold ((evs.map (thMessages n j)).flatten) sendMessage (takeAnswers (opNi n) opKey s.dev))).nis ∧
         t.op n = { s.dev.op n with run := some { job := j, result := evs.length }, counts := (t.op n).counts } ∧
         (∀ i, i ≠ n → t.op i = s.dev.op i) ∧ t = { s.dev with ops := t.ops, nis := t.nis, faults := t.faults })

/-- A measurement of a present reference within 50,000 ppb records its offset and moves its qualification on by 10
ms; a missed edge restarts it; a finished switch is locked and restarts the wait; the end of the wait switches
to the better reference; OCXO and PLL losses raise their sources; a port's link moves between down, training
and up and takes its recovered clock along. No other reference or port changes. Where the spec leaves a
choice, this follows the model's readings of log entry 49. -/
def Obligations.References : Prop :=
  (∀ (m : List (Option Int)) (r : Nat) (off : Int) (s : State),
     (Instr.referenceMeasurement m).wellFormed = true →
     s.Ready →
     r < 6 →
     m.getD r none = some off →
     refClock s.dev r = true →
     s.dev.timing.ocxo = true →
     off.natAbs ≤ 50000 →
     Completes (.referenceMeasurement m) s fun t =>
       t.timing.reference r = { s.dev.timing.reference r with
           present := true, offset := off, progress := min 2000 ((s.dev.timing.reference r).progress + 10)
           qualified := decide (2000 ≤ (s.dev.timing.reference r).progress + 10)
           held := if (s.dev.timing.reference r).qualified = true ∧ s.dev.timing.state ≠ 1 then (s.dev.timing.reference r).held + 10
             else (s.dev.timing.reference r).held } ∧
         t = { s.dev with
           timing := { s.dev.timing with
             ref := t.timing.ref, ocxoOffset := t.timing.ocxoOffset, selected := t.timing.selected, state := t.timing.state
             switches := t.timing.switches, holdovers := t.timing.holdovers, history := t.timing.history
             correction := t.timing.correction }
           faults := { s.dev.faults with crossing := t.faults.crossing, inj := t.faults.inj } }) ∧
  (∀ (r : Nat) (s : State),
     (Instr.referenceEdgeLoss r).wellFormed = true →
     s.Ready →
     Completes (.referenceEdgeLoss r) s fun t =>
       t.timing.reference r = { s.dev.timing.reference r with progress := 0, qualified := false, held := 0 } ∧
         (∀ i, i ≠ r → t.timing.reference i = s.dev.timing.reference i) ∧
         t = { s.dev with
           timing := { s.dev.timing with
             ref := t.timing.ref, selected := t.timing.selected, state := t.timing.state
             switches := t.timing.switches, holdovers := t.timing.holdovers, history := t.timing.history
             correction := t.timing.correction }
           faults := { s.dev.faults with crossing := t.faults.crossing, inj := t.faults.inj } }) ∧
  (∀ (s : State),
     (Instr.referenceSwitchDone).wellFormed = true →
     s.Ready →
     s.dev.timing.state = 1 →
     bestRef s.dev.tcfg s.dev.timing = some s.dev.timing.selected →
     selectable s.dev.tcfg s.dev.timing s.dev.timing.selected = true →
     Completes (.referenceSwitchDone) s fun t =>
       (∀ r, t.timing.reference r = { s.dev.timing.reference r with held := 0 }) ∧
         t = { s.dev with timing := { s.dev.timing with state := 0, ref := t.timing.ref } }) ∧
  (∀ (r : Nat) (s : State),
     (Instr.waitToRestoreExpiry).wellFormed = true →
     s.Ready →
     s.dev.timing.state = 0 →
     upgrade s.dev.tcfg s.dev.timing = some r →
     waitLeft s.dev.tcfg s.dev.timing = 0 →
     Completes (.waitToRestoreExpiry) s fun t =>
       t = { s.dev with timing := { s.dev.timing with
           selected := r, state := 1, switches := inc32 s.dev.timing.switches, history := [] } }) ∧
  (∀ (s : State),
     (Instr.ocxoAbsent).wellFormed = true →
     s.Ready →
     s.dev.timing.ocxo = true →
     s.dev.faults.inj.state ≠ 1 →
     Completes (.ocxoAbsent) s fun t =>
       t.faults.crossing = s.dev.faults.crossing ++ [{ src := 0xC3, inst := 0xFF, part := 0xFF, cause := 0, injected := false }] ∧
         t = { s.dev with
           timing := { s.dev.timing with ocxo := false }, faults := { s.dev.faults with crossing := t.faults.crossing } }) ∧
  (∀ (s : State),
     (Instr.ocxoReturn).wellFormed = true →
     s.Ready →
     Completes (.ocxoReturn) s fun t =>
       t = { s.dev with timing := { s.dev.timing with ocxo := true } }) ∧
  (∀ (ttu : Bool) (s : State),
     (Instr.pllLockLoss ttu).wellFormed = true →
     s.Ready →
     s.dev.faults.inj.state ≠ 1 →
     Completes (.pllLockLoss ttu) s fun t =>
       t.faults.crossing = s.dev.faults.crossing ++
           [{ src := if ttu then 0xC5 else 0xC4, inst := 0xFF, part := 0xFF, cause := 0, injected := false }] ∧
         t = { s.dev with faults := { s.dev.faults with crossing := t.faults.crossing } }) ∧
  (∀ (p : Nat) (s : State),
     (Instr.ethLinkDown p).wellFormed = true →
     s.Ready →
     (s.dev.eport p).link = 2 →
     s.dev.faults.inj.state ≠ 1 →
     Completes (.ethLinkDown p) s fun t =>
       t.eport p = { s.dev.eport p with
           link := if s.dev.portObj p 1 = 1 ∧ s.dev.unitUp (epNi p) = true then 1 else 0
           paused := [], xoff := false, held := [], counts := (t.eport p).counts } ∧
         (t.eport p).counts.get 0 0x11 = satAdd 32 ((s.dev.eport p).counts.get 0 0x11) 1 ∧
         (∀ i, i ≠ p → t.eport i = s.dev.eport i) ∧
         (t.timing.reference (2 + p)).qualified = false ∧ (t.timing.reference (2 + p)).progress = 0 ∧
         (∀ i, i ≠ 2 + p → t.timing.reference i = s.dev.timing.reference i) ∧
         t = { s.dev with
           eth := { s.dev.eth with port := t.eth.port }
           timing := { s.dev.timing with
             ref := t.timing.ref, selected := t.timing.selected, state := t.timing.state
             switches := t.timing.switches, holdovers := t.timing.holdovers, history := t.timing.history
             correction := t.timing.correction }
           faults := { s.dev.faults with crossing := t.faults.crossing } }) ∧
  (∀ (p : Nat) (s : State),
     (Instr.ethLinkUp p).wellFormed = true →
     s.Ready →
     (s.dev.eport p).link = 1 →
     s.dev.unitUp (epNi p) = true →
     Completes (.ethLinkUp p) s fun t =>
       t.eport p = { s.dev.eport p with link := 2 } ∧ (∀ i, i ≠ p → t.eport i = s.dev.eport i) ∧
         t = { s.dev with eth := { s.dev.eth with port := t.eth.port } })

/-- With no change pending, a slew tick takes one count off the backlog and asks every replica to add it; once no
change message waits and no next change is asked for, the strobe applies what each NI holds and the master's change;
SYNC goes to every other NI; an out-of-step report is absorbed, counted, raises 0xCC and asks for a LOAD of that NI;
losing the PTP master while locked takes time valid back to 1 and raises 0xC7. Where the spec leaves a choice, this
follows the model's readings of log entries 33, 47, 48, 50. -/
def Obligations.ChassisTime : Prop :=
  (∀ (s : State),
     (Instr.slewTick).wellFormed = true →
     s.Ready →
     s.dev.timing.backlog ≠ 0 →
     s.dev.timing.pending = none →
     Completes (.slewTick) s fun t =>
       t.timing = { s.dev.timing with
           backlog := s.dev.timing.backlog - (if s.dev.timing.backlog < 0 then -1 else 1)
           pending := some {
             master := .add (2 * (if s.dev.timing.backlog < 0 then -1 else 1))
             nis := everyNi (.add (if s.dev.timing.backlog < 0 then -1 else 1)) } } ∧
         (t.ni 64).change = some (.add (if s.dev.timing.backlog < 0 then -1 else 1)) ∧
         (∀ n, n < 67 → n ≠ 64 → ({
           pkt := changeMessage n (.add (if s.dev.timing.backlog < 0 then -1 else 1)), kind := .message } : Out) ∈ (t.ni 64).out) ∧
         NiOnly s.dev t 64 ∧ t = { s.dev with timing := t.timing, nis := t.nis }) ∧
  (∀ (q : TimeReq) (m : Int) (s : State),
     (Instr.timeStrobe).wellFormed = true →
     s.Ready →
     s.dev.timing.pending = some q →
     changesWait s.dev = false →
     s.dev.timing.next.nis = [] →
     m = q.master.apply s.dev.timing.master →
     Completes (.timeStrobe) s fun t =>
       (∀ n, n < 67 →
         t.ni n = if (s.dev.ni n).change.isSome then strobeNi s.dev.clock.edges m (s.dev.ni n) else s.dev.ni n) ∧ (∀ n, 67 ≤ n → t.ni n = s.dev.ni n) ∧
         t.timing = { s.dev.timing with master := m, pending := none, next := {}, sysref := t.timing.sysref } ∧
         t = { s.dev with
           timing := t.timing, nis := t.nis
           faults := { s.dev.faults with crossing := t.faults.crossing, inj := t.faults.inj } }) ∧
  (∀ (s : State),
     (Instr.syncSend).wellFormed = true →
     s.Ready →
     Completes (.syncSend) s fun t =>
       (∀ n, n < 67 → n ≠ 64 → ({ pkt := messagePkt 64 0 0 n 0xFE 0 [], kind := .message } : Out) ∈ (t.ni 64).out) ∧
         t.ni 64 = { s.dev.ni 64 with out := (t.ni 64).out } ∧ NiOnly s.dev t 64 ∧ t = { s.dev with nis := t.nis }) ∧
  (∀ (vc : Nat) (p : Packet) (s : State),
     (Instr.replicaReload vc).wellFormed = true →
     s.Ready →
     s.dev.front 64 vc = some (p, false) →
     p.ty = 4 →
     p.mq = 0xFE →
     p.src ≠ 64 →
     s.dev.timing.pending = none →
     s.dev.faults.inj.state ≠ 1 →
     Completes (.replicaReload vc) s fun t =>
       t.timing = { s.dev.timing with
           reloads := inc32 s.dev.timing.reloads, pending := some { nis := [(p.src, .load)] } } ∧
         ({ pkt := changeMessage p.src .load, kind := .message } : Out) ∈ (t.ni 64).out ∧ NiOnly s.dev t 64 ∧
         t.faults.crossing = s.dev.faults.crossing ++ [{ src := 0xCC, inst := p.src, part := 0xFF, cause := 0, injected := false }] ∧
         t = { s.dev with
           timing := t.timing, nis := t.nis, net := { s.dev.net with credR := t.net.credR }
           faults := { s.dev.faults with crossing := t.faults.crossing } }) ∧
  (∀ (st : Nat) (s : State),
     (Instr.ptpMasterLoss st).wellFormed = true →
     s.Ready →
     s.dev.tcfg.nat 0x2D10 2 = 1 →
     s.dev.timing.valid = 2 →
     s.dev.faults.inj.state ≠ 1 →
     Completes (.ptpMasterLoss st) s fun t =>
       t.timing = { s.dev.timing with ptpState := st, ptpGood := 0, valid := 1 } ∧
         t.faults.crossing = s.dev.faults.crossing ++ [{ src := 0xC7, inst := 0xFF, part := 0xFF, cause := 0, injected := false }] ∧
         t = { s.dev with timing := t.timing, faults := { s.dev.faults with crossing := t.faults.crossing } })

/-- An enabled input edge is counted, stamped with its line's adjustment and, where the TTU has room for the messages,
sent to the owner's listed links; a released order that is not late schedules its toggle where the scheduler has room;
a due toggle inverts the output, the end of a pulse releases it, and a SYSREF edge of an enabled output with no
re-anchoring due gives it the level of its grid. No other line or output changes. Where the spec leaves a choice, this
follows the model's readings of log entry 51. -/
def Obligations.TriggerLines : Prop :=
  (∀ (c at_ : Nat) (asserted : Bool) (links : List Nat) (s : State),
     (Instr.triggerInputEdge c asserted at_).wellFormed = true →
     s.Ready →
     bitOf (s.dev.lineObj c 2) 0 = true →
     s.dev.lineObj c 3 = 2 ∨ s.dev.lineObj c 3 = (if asserted then 0 else 1) →
     links = ((List.range 24).filter fun k => linkUsed (s.dev.dcfg k) k && linkOwner s.dev.cfg k == s.dev.lineOwner c &&
     bitOf (s.dev.lineObj c 6) k && unitAdmits s.dev 64 (s.dev.lineOwner c)) →
     links.length + triggersWaiting s.dev ≤ 32 →
     Completes (.triggerInputEdge c asserted at_) s fun t =>
       (t.line c).last = ((at_ : Int) - s.dev.tcfg.int (0x2D30 + c) 5 * 1024).toNat ∧
         (t.line c).counts = (s.dev.line c).counts.modify 0 0xB inc32 ∧
         t.line c = { s.dev.line c with last := (t.line c).last, counts := (t.line c).counts } ∧
         (∀ i, i ≠ c → t.line i = s.dev.line i) ∧
         (∀ k, k ∈ links → ({
           pkt := messagePkt 64 (s.dev.lineOwner c) 0 k 1 0x20 (triggerPayload c (t.line c).last), kind := .message } : Out) ∈ (t.ni 64).out) ∧
         NiOnly s.dev t 64 ∧
         t = { s.dev with timing := { s.dev.timing with line := t.timing.line }, nis := t.nis, probes := t.probes }) ∧
  (∀ (c : Nat) (e : Int) (h : Released) (rest : List Released) (s : State),
     (Instr.triggerOrder).wellFormed = true →
     s.Ready →
     (s.dev.ni 64).released = h :: rest →
     h.pkt.data.le 0 1 = c →
     1 ≤ c ∧ c ≤ 13 →
     bitOf (s.dev.lineObj c 2) 1 = true →
     s.dev.lineOwner c = h.pkt.part →
     h.late = false →
     e = (((h.pkt.relS * 1000000000 + h.pkt.relNs) * 64 + s.dev.lineObj c 9 : Nat) : Int) →
     s.dev.fineNow + 1280 ≤ e →
     s.dev.lineObj c 7 = 1 →
     (s.dev.line c).toggles.contains e = false →
     (span 1 14).foldl (fun a i => a + (s.dev.line i).edges) 0 < 64 →
     Completes (.triggerOrder) s fun t =>
       t.line c = { s.dev.line c with toggles := insertBy (fun a b => decide (a < b)) e (s.dev.line c).toggles } ∧
         (∀ i, i ≠ c → t.line i = s.dev.line i) ∧ t.ni 64 = { s.dev.ni 64 with released := rest } ∧ NiOnly s.dev t 64 ∧
         t = { s.dev with timing := { s.dev.timing with line := t.timing.line }, nis := t.nis }) ∧
  (∀ (c : Nat) (e : Int) (rest : List Int) (s : State),
     (Instr.triggerEdgeFire c .none).wellFormed = true →
     s.Ready →
     (s.dev.line c).toggles = e :: rest →
     (s.dev.line c).pulses = [] →
     Completes (.triggerEdgeFire c .none) s fun t =>
       t.line c = { s.dev.line c with out := !(s.dev.line c).out, toggles := rest } ∧ (∀ i, i ≠ c → t.line i = s.dev.line i) ∧
         t = { s.dev with timing := { s.dev.timing with line := t.timing.line } }) ∧
  (∀ (c : Nat) (s : State),
     (Instr.triggerPulseEnd c).wellFormed = true →
     s.Ready →
     ((s.dev.line c).pulses.any fun p => p.on) = true →
     Completes (.triggerPulseEnd c) s fun t =>
       t.line c = { s.dev.line c with out := false, pulses := (s.dev.line c).pulses.filter fun p => !p.on } ∧
         (∀ i, i ≠ c → t.line i = s.dev.line i) ∧ t = { s.dev with timing := { s.dev.timing with line := t.timing.line } }) ∧
  (∀ (k : Nat) (s : State),
     (Instr.sysrefEdge k).wellFormed = true →
     s.Ready →
     sysrefOn s.dev.tcfg k = true →
     (∀ i, i < 6 → (s.dev.timing.out i).anchorAt = none) →
     Completes (.sysrefEdge k) s fun t =>
       t.timing.out k = { s.dev.timing.out k with high := sysrefLevel s.dev k } ∧
         (∀ i, i ≠ k → t.timing.out i = s.dev.timing.out i) ∧
         t = { s.dev with timing := { s.dev.timing with sysref := t.timing.sysref } })

/-- A card that has to start an election frame becomes a contender and drives its frame; a contender whose own word
wins becomes leader and owes a heartbeat, which it sends with its chassis time; a heartbeat makes another card follow
and, the first one with the chassis as time source, loads its time; losing the heartbeat makes a follower listen and
start an election. Where the spec leaves a choice, this follows the model's readings of log entry 52. -/
def Obligations.Election : Prop :=
  (∀ (s : State),
     (Instr.electionFrameStart).wellFormed = true →
     s.Ready →
     electionOn s.dev = true →
     s.dev.timing.electing = true →
     s.dev.tcfg.nat 0x2D60 2 ≠ 15 →
     Completes (.electionFrameStart) s fun t =>
       t = { s.dev with timing := { s.dev.timing with role := 2, electing := false, frame := electionFrame (ownWord s.dev) } }) ∧
  (∀ (word : Nat) (s : State),
     (Instr.electionFrameEnd word true).wellFormed = true →
     s.Ready →
     electionOn s.dev = true →
     s.dev.faults.inj.state ≠ 1 →
     s.dev.timing.role = 2 →
     word = ownWord s.dev →
     Completes (.electionFrameEnd word true) s fun t =>
       t = { s.dev with timing := { s.dev.timing with
           elections := inc32 s.dev.timing.elections, role := 4, leader := word, beatDue := true, valid := min 1 s.dev.timing.valid } }) ∧
  (∀ (s : State),
     (Instr.heartbeatSend).wellFormed = true →
     s.Ready →
     electionOn s.dev = true →
     s.dev.timing.role = 4 →
     Completes (.heartbeatSend) s fun t =>
       t = { s.dev with timing := { s.dev.timing with 
           beatDue := false, beat := s.dev.timeNow
           frame := heartbeatFrame (ownWord s.dev) s.dev.timeNow.1 s.dev.timeNow.2 } }) ∧
  (∀ (word secs ns : Nat) (s : State),
     (Instr.heartbeatReceive word secs ns true).wellFormed = true →
     s.Ready →
     electionOn s.dev = true →
     s.dev.faults.inj.state ≠ 1 →
     s.dev.timing.role ≠ 4 →
     s.dev.tcfg.nat 0x2D10 2 = 2 →
     s.dev.timing.loaded = false →
     s.dev.timing.pending = none →
     Completes (.heartbeatReceive word secs ns true) s fun t =>
       t.timing = { s.dev.timing with
           role := 3, leader := word, electing := false, beatDue := false, valid := 2, loaded := true, backlog := 0
           pending := some (loadTime s.dev secs ns) } ∧
         (t.ni 64).change = some .load ∧
         (∀ n, n < 67 → n ≠ 64 → ({ pkt := changeMessage n .load, kind := .message } : Out) ∈ (t.ni 64).out) ∧
         NiOnly s.dev t 64 ∧ t = { s.dev with timing := t.timing, nis := t.nis }) ∧
  (∀ (s : State),
     (Instr.heartbeatLoss).wellFormed = true →
     s.Ready →
     electionOn s.dev = true →
     s.dev.timing.role = 3 →
     s.dev.tcfg.nat 0x2D10 2 ≠ 2 →
     Completes (.heartbeatLoss) s fun t =>
       t = { s.dev with timing := { s.dev.timing with
           role := 1, electing := s.dev.tcfg.nat 0x2D60 2 != 15, losses := inc32 s.dev.timing.losses } })

/-- A drain whose condition holds moves on to step 4, where no TX stream of the partition is to go idle; a drain
timeout whose condition does not hold discards the operator jobs of the partition, counts a drain timeout, raises 0xF8
and moves on to step 4; the acknowledge of an idle partition ends in FENCED, counts the cycle and notes the fence
time, or goes on with the reset, which empties the mailbox and the chamber of the path and lets the unit resets that
may end do so; a reset step that is not to be repeated, outside a link-loss reset, empties the partition's mailbox,
chamber, function registers and queues and ends in RESET_DONE, and the running firmware presents RELEASE where an FLR
of a running partition started it and 0x2600:03 allows it; RELEASE_EXECUTE with every running domain at the current
version clears the fence bit, fills the buckets and makes the partition RUNNING, where it has no admin pair and no
pending MSI-X vector. The other partitions keep their state. Where the spec leaves a choice, this follows the model's
readings of log entries 32, 39. -/
def Obligations.LockCycle : Prop :=
  (∀ (p : Nat) (s : State),
     (Instr.drainComplete p).wellFormed = true →
     s.Ready →
     (s.dev.part p).state = 1 →
     (s.dev.part p).txIdle = false →
     drained s.dev p = true →
     (∀ e, e ∈ s.dev.conv.stream → e.2.tx = false ∨ (s.dev.queue? e.1).map (·.part) ≠ some p) →
     Completes (.drainComplete p) s fun t =>
       t.part p = { s.dev.part p with txIdle := true } ∧ (∀ q, q ≠ p → t.part q = s.dev.part q) ∧
         t = { s.dev with parts := t.parts }) ∧
  (∀ (p : Nat) (s : State),
     (Instr.drainTimeout p).wellFormed = true →
     s.Ready →
     (s.dev.part p).state = 1 →
     (s.dev.part p).txIdle = false →
     drained s.dev p = false →
     s.dev.faults.inj.state ≠ 1 →
     Completes (.drainTimeout p) s fun t =>
       (t.part p).drainTimeouts = inc32 (s.dev.part p).drainTimeouts ∧ (t.part p).txIdle = true ∧ (t.part p).state = 1 ∧
         (∀ q, q ≠ p → t.part q = s.dev.part q) ∧
         ({ src := 0xF8, inst := p, part := p, cause := 0, injected := false } : FaultEvent) ∈ t.faults.crossing ∧
         (∀ n, ((t.op n).store.filter fun j => j.part == p) = [] ∨ 8 ≤ n) ∧
         t.store = s.dev.store ∧ t.doms = s.dev.doms ∧ t.pds = s.dev.pds ∧ t.timing = s.dev.timing) ∧
  (∀ (p : Nat) (s : State),
     (Instr.fenceAcknowledge p).wellFormed = true →
     s.Ready →
     (s.dev.part p).state = 1 →
     (s.dev.part p).txIdle = true →
     Completes (.fenceAcknowledge p) s fun t =>
       t.part p = { s.dev.part p with
           state := if (s.dev.part p).thenReset then 3 else 2
           thenReset := false
           fenceBit := if (s.dev.part p).thenReset then true else (s.dev.part p).fenceBit
           cycles := inc32 (s.dev.part p).cycles
           fenceTime := min ((s.dev.clock.wall - (s.dev.part p).startedAt) * 2 / 3) (2 ^ 32 - 1) } ∧
         (∀ q, q ≠ p → t.part q = s.dev.part q) ∧
         ((s.dev.part p).thenReset = false → t = { s.dev with parts := t.parts }) ∧
         ((s.dev.part p).thenReset = true → ResetBegun s.dev t p ∧
           t = { s.dev with parts := t.parts, boxes := t.boxes, store := t.store, resets := t.resets })) ∧
  (∀ (p : Nat) (s : State),
     (Instr.resetStepDone p).wellFormed = true →
     s.Ready →
     (s.dev.part p).state = 3 →
     (s.dev.part p).again = false →
     s.dev.resets.linkLoss ≠ 2 →
     Completes (.resetStepDone p) s fun t =>
       t.part p = { s.dev.part p with
           state := 4, autoRelease := (s.dev.part p).awaitVf && (s.dev.part p).autoRelease } ∧ (∀ q, q ≠ p → t.part q = s.dev.part q) ∧
         t.boxes = s.dev.boxes.erase p ∧
         t.store = (let st := { s.dev.store with
             chambers := s.dev.store.chambers.erase (16 + p), waiting := s.dev.store.waiting.erase (16 + p) }
           if (s.dev.part p).autoRelease = true ∧ (s.dev.part p).awaitVf = false ∧ bitOf (s.dev.cfg.nat 0x2600 3) p = true then
             withOwn s.dev st (byteFrame (0x2610 + p) 1 3)
           else st) ∧
         (t.fn p).window = 0 ∧ (t.fn p).refused = 0 ∧ (t.fn p).refusedAddr = 0 ∧ (t.fn p).table = [] ∧ (t.fn p).lines = [] ∧
         (t.fn p).flr = false ∧ (∀ q, q ≠ p → t.fn q = s.dev.fn q) ∧
         (t.queues.q.filter fun e => e.2.part == p) = [] ∧
         t.doms = s.dev.doms ∧ t.pds = s.dev.pds ∧ t.resets = s.dev.resets ∧ t.timing = s.dev.timing ∧ t.flash = s.dev.flash ∧ t.otp = s.dev.otp) ∧
  (∀ (p : Nat) (s : State),
     (Instr.releaseExecute p).wellFormed = true →
     s.Ready →
     p < 16 →
     (s.dev.part p).state = 5 →
     allApplied s.dev = true →
     adminPair s.dev.cfg p = none →
     (∀ e, e ∈ s.dev.queues.q → e.2.admin = false ∨ e.2.part ≠ p) →
     (∀ e, e ∈ (s.dev.fn p).table → e.2.pending = false) →
     Completes (.releaseExecute p) s fun t =>
       t.part p = { s.dev.part p with
           state := 0, fenceBit := false, txIdle := false, releasedAt := some s.dev.clock.wall } ∧
         (∀ q, q ≠ p → t.part q = s.dev.part q) ∧
         (∀ n, (t.ni n).spent.get 0 (4 * p) = 0 ∧ (t.ni n).spent.get 0 (4 * p + 1) = 0 ∧ (t.ni n).spent.get 0 (4 * p + 2) = 0 ∧
           (t.ni n).spent.get 0 (4 * p + 3) = 0 ∧ t.ni n = { s.dev.ni n with spent := (t.ni n).spent }) ∧
         t = { s.dev with parts := t.parts, nis := t.nis })

/-- An FLR of an existing VF clears its Bus Master Enable, MSI-X enable and function mask, starts the reset of a
fenced partition at once, adds a reset to a running lock cycle, runs the reset step again in RESETTING, and starts a
lock cycle with a reset of a running partition, which the firmware releases afterwards; with its reset the mailbox and
the chamber of its path are emptied. An FLR in the cycle that clears the fence bit starts the lock cycle from step 1
and no release follows. An FLR of PF0 clears VF Enable and does so for all 16 partitions, here each FENCED or
RESET_DONE, of which 1 to 15 wait for VF Enable; an FLR during a link-loss reset has no effect. VF_ENABLE_SET lets the
running firmware present RELEASE for the partition that waits in RESET_DONE and may be released; here at most one
does. Where the spec leaves a choice, this follows the model's readings of log entries 38, 39. -/
def Obligations.FunctionResets : Prop :=
  (∀ (k : Nat) (s : State),
     (Instr.flrVf k).wellFormed = true →
     s.Ready →
     s.dev.resets.linkLoss ≠ 2 →
     s.dev.fnExists k = true →
     (s.dev.part k).state = 2 ∨ (s.dev.part k).state = 4 →
     Completes (.flrVf k) s fun t =>
       t.part k = { s.dev.part k with state := 3, thenReset := false, fenceBit := true, autoRelease := false, awaitVf := false } ∧
         (∀ q, q ≠ k → t.part q = s.dev.part q) ∧
         t.fn k = { s.dev.fn k with flr := true, bme := false, msixEnable := false, mask := false } ∧
         (∀ q, q ≠ k → t.fn q = s.dev.fn q) ∧ ResetBegun s.dev t k ∧
         t = { s.dev with
           parts := t.parts, boxes := t.boxes, store := t.store, resets := t.resets, host := { s.dev.host with fn := t.host.fn } }) ∧
  (∀ (k : Nat) (s : State),
     (Instr.flrVf k).wellFormed = true →
     s.Ready →
     s.dev.resets.linkLoss ≠ 2 →
     s.dev.fnExists k = true →
     (s.dev.part k).state = 1 ∨ (s.dev.part k).state = 3 →
     Completes (.flrVf k) s fun t =>
       t.part k = { s.dev.part k with
           autoRelease := false, awaitVf := false
           thenReset := if (s.dev.part k).state = 1 then true else (s.dev.part k).thenReset
           again := if (s.dev.part k).state = 3 then true else (s.dev.part k).again } ∧
         (∀ q, q ≠ k → t.part q = s.dev.part q) ∧
         t.fn k = { s.dev.fn k with flr := true, bme := false, msixEnable := false, mask := false } ∧
         (∀ q, q ≠ k → t.fn q = s.dev.fn q) ∧ ResetBegun s.dev t k ∧
         t = { s.dev with
           parts := t.parts, boxes := t.boxes, store := t.store, resets := t.resets, host := { s.dev.host with fn := t.host.fn } }) ∧
  (∀ (k : Nat) (s : State),
     (Instr.flrVf k).wellFormed = true →
     s.Ready →
     s.dev.resets.linkLoss ≠ 2 →
     s.dev.fnExists k = true →
     (s.dev.part k).state = 0 ∨ meetsRelease s.dev k = true →
     Completes (.flrVf k) s fun t =>
       (t.part k).state = 1 ∧ (t.part k).fenceBit = true ∧ (t.part k).thenReset = true ∧
         (t.part k).autoRelease = (!meetsRelease s.dev k) ∧ (t.part k).awaitVf = false ∧
         (t.part k).startedAt = s.dev.clock.wall ∧ (∀ q, q ≠ k → t.part q = s.dev.part q) ∧
         t.fn k = { s.dev.fn k with flr := true, bme := false, msixEnable := false, mask := false } ∧
         (∀ q, q ≠ k → t.fn q = s.dev.fn q) ∧ ResetBegun s.dev t k ∧
         t.doms = s.dev.doms ∧ t.pds = s.dev.pds ∧ t.conv = s.dev.conv) ∧
  (∀ (k : Nat) (s : State),
     (Instr.flrVf k).wellFormed = true →
     s.Ready →
     s.dev.resets.linkLoss = 2 →
     Completes (.flrVf k) s fun t =>
       t = s.dev) ∧
  (∀ (s : State),
     (Instr.flrPf0).wellFormed = true →
     s.Ready →
     s.dev.resets.linkLoss ≠ 2 →
     (∀ p, p < 16 → (s.dev.part p).state = 2 ∨ (s.dev.part p).state = 4) →
     Completes (.flrPf0) s fun t =>
       t.host.vfEnable = false ∧ t.host.numVfs = 0 ∧
         (∀ p, p < 16 → t.part p = { s.dev.part p with
           state := 3, thenReset := false, fenceBit := true, autoRelease := false, awaitVf := p != 0 }) ∧
         (∀ p, p < 16 → t.fn p = { s.dev.fn p with flr := true, bme := false, msixEnable := false, mask := false }) ∧
         (∀ p, p < 16 → t.boxes.get {} p = {} ∧ t.store.chambers.get [] (16 + p) = [] ∧ t.store.waiting.has (16 + p) = false) ∧
         (∀ q, q < 16 → t.store.chambers.get [] q = s.dev.store.chambers.get [] q) ∧
         (∀ u, t.resets.unitHeld.find? u = if mayLeave s.dev u then none else s.dev.resets.unitHeld.find? u) ∧
         t = { s.dev with
           parts := t.parts, boxes := t.boxes
           store := { s.dev.store with chambers := t.store.chambers, waiting := t.store.waiting }
           resets := { s.dev.resets with unitHeld := t.resets.unitHeld }
           host := { s.dev.host with fn := t.host.fn, vfEnable := false, numVfs := 0 } }) ∧
  (∀ (n p : Nat) (s : State),
     (Instr.vfEnableSet n).wellFormed = true →
     s.Ready →
     1 ≤ p →
     p < 16 →
     (∀ q, q < 16 → q = 0 ∨ q = p ∨ (s.dev.part q).awaitVf = false ∨ (s.dev.part q).state ≠ 4 ∨ (s.dev.part q).autoRelease = false) →
     Completes (.vfEnableSet n) s fun t =>
       t.host = { s.dev.host with vfEnable := true, numVfs := n } ∧
         (∀ q, 1 ≤ q ∧ q < 16 → t.part q =
           if (s.dev.part q).awaitVf = false then s.dev.part q
           else if (s.dev.part q).state ≠ 4 then { s.dev.part q with awaitVf := false }
           else { s.dev.part q with awaitVf := false, autoRelease := false }) ∧
         t.part 0 = s.dev.part 0 ∧
         t.store = (if (s.dev.part p).awaitVf = true ∧ (s.dev.part p).state = 4 ∧ (s.dev.part p).autoRelease = true ∧
             bitOf (s.dev.cfg.nat 0x2600 3) p = true then withOwn s.dev s.dev.store (byteFrame (0x2610 + p) 1 3)
           else s.dev.store) ∧
         t = { s.dev with parts := t.parts, host := t.host, store := t.store })

/-- A loss of a running domain clock, of a domain no crossing of which is held in reset, stops the domain, clears its
version and its measured frequency, counts the loss, raises 0xD4 and holds the domain's units in reset; a start sets
RUNNING and begins the capture; a held unit whose crossing has captured, whose clock runs and whose power is on is
released; a measurement period sets the frequency words of the domains whose clocks ran throughout it and clears the
others; a running domain that still captures at its timeout raises 0xD5. Where the spec leaves a choice, this follows
the model's readings of log entries 13, 14. -/
def Obligations.ClockDomains : Prop :=
  (∀ (k : Nat) (s : State),
     (Instr.clockLoss k).wellFormed = true →
     s.Ready →
     s.dev.clockRuns k = true →
     domainUnits s.dev k = [] →
     s.dev.faults.inj.state ≠ 1 →
     Completes (.clockLoss k) s fun t =>
       t.dom k = { s.dev.dom k with
           running := false, locked := false, capturing := false, version := 0, freq := 0, whole := false
           losses := inc32 (s.dev.dom k).losses } ∧
         t.domVersion k = 0 ∧ (∀ j, j ≠ k → t.dom j = s.dev.dom j) ∧
         t.faults.crossing = s.dev.faults.crossing ++ [{ src := 0xD4, inst := k, part := 0xFF, cause := 0, injected := false }] ∧
         t = { s.dev with doms := t.doms, faults := { s.dev.faults with crossing := t.faults.crossing } }) ∧
  (∀ (k u : Nat) (s : State),
     (Instr.clockLoss k).wellFormed = true →
     s.Ready →
     s.dev.clockRuns k = true →
     s.dev.crossingHeld k = false →
     u ∈ domainUnits s.dev k →
     Completes (.clockLoss k) s fun t =>
       t.domRuns k = false ∧ t.domVersion k = 0 ∧ (t.dom k).losses = inc32 (s.dev.dom k).losses ∧
         t.resets.unitHeld.find? u = some false ∧ t.unitUp u = false ∧ t.parts = s.dev.parts ∧ t.pds = s.dev.pds ∧
         (t.clock.running = if k = 1 then false else s.dev.clock.running)) ∧
  (∀ (k : Nat) (s : State),
     (Instr.domainClockStart k).wellFormed = true →
     s.Ready →
     (s.dev.dom k).running = false →
     domainPowered s.dev k = true →
     Completes (.domainClockStart k) s fun t =>
       t.dom k = { s.dev.dom k with
           running := true, locked := true, powerOff := false, capturing := true, version := 0, freq := 0, whole := false } ∧
         (∀ j, j ≠ k → t.dom j = s.dev.dom j) ∧
         t = { s.dev with
           doms := t.doms, clock := { s.dev.clock with running := if k = 1 then true else s.dev.clock.running } }) ∧
  (∀ (u : Nat) (s : State),
     (Instr.unitResetRelease u).wellFormed = true →
     s.Ready →
     s.dev.resets.unitHeld.get false u = true →
     s.dev.clockRuns (unitDomain s.dev u) = true →
     unitPowered s.dev u = true →
     (∀ k, k < 24 → (s.dev.link k).rx ≠ 1 ∧ (s.dev.link k).tx ≠ 1) →
     Completes (.unitResetRelease u) s fun t =>
       t.held u = false ∧ (∀ v, v ≠ u → t.resets.unitHeld.find? v = s.dev.resets.unitHeld.find? v) ∧
         t = { s.dev with resets := { s.dev.resets with unitHeld := t.resets.unitHeld } }) ∧
  (∀ (f : List Nat) (s : State),
     (Instr.frequencyMeasurementPeriod f).wellFormed = true →
     s.Ready →
     s.dev.clockRuns 0x29 = true →
     Completes (.frequencyMeasurementPeriod f) s fun t =>
       (∀ k, 1 ≤ k ∧ k ≤ 0x29 → t.dom k = { s.dev.dom k with
           freq := if (s.dev.dom k).running = true ∧ (s.dev.dom k).whole = true then f.getD (k - 1) 0 else 0
           whole := (s.dev.dom k).running }) ∧
         t = { s.dev with doms := t.doms }) ∧
  (∀ (k : Nat) (s : State),
     (Instr.captureTimeout k).wellFormed = true →
     s.Ready →
     s.dev.clockRuns k = true →
     (s.dev.dom k).capturing = true →
     s.dev.faults.inj.state ≠ 1 →
     Completes (.captureTimeout k) s fun t =>
       t.faults.crossing = s.dev.faults.crossing ++ [{ src := 0xD5, inst := k, part := 0xFF, cause := 0, injected := false }] ∧
         t = { s.dev with faults := { s.dev.faults with crossing := t.faults.crossing } })

/-- A fencing domain that has drained, and that OFF does not wait for, reaches FENCED, and one that has not does so at
its timeout, which raises 0xF9; a powering domain whose needed units have left reset with their clocks running becomes
FENCED and counts the power-up, and the running firmware presents RELEASE where one is to follow; a channel with a
capacity that has passed its DDR training joins the interleave set where a release is to follow, and the clock of one
without capacity stops; a channel whose training failed becomes FAILED with 0xD8 and 0x77, and a domain whose
power-good was not seen with 0xD8; the release of a domain other than 0, 1 and 3 waits for every running clock domain
and makes it RUNNING. The other domains keep their state. Where the spec leaves a choice, this follows the model's
readings of log entries 38, 39. -/
def Obligations.PowerDomains : Prop :=
  (∀ (k : Nat) (s : State),
     (Instr.pdDrainComplete k).wellFormed = true →
     s.Ready →
     (s.dev.pd k).state = 4 →
     pdDrained s.dev k = true →
     (s.dev.pd k).offToFollow = false →
     (∀ e, e ∈ s.dev.conv.stream → e.2.tx = false ∨ 24 ≤ e.2.src ∨ unitPd e.2.src ≠ some k) →
     Completes (.pdDrainComplete k) s fun t =>
       t.pd k = { s.dev.pd k with state := 2 } ∧ (∀ j, j ≠ k → t.pd j = s.dev.pd j) ∧ t = { s.dev with pds := t.pds }) ∧
  (∀ (k : Nat) (s : State),
     (Instr.pdDrainTimeout k).wellFormed = true →
     s.Ready →
     (s.dev.pd k).state = 4 →
     pdDrained s.dev k = false →
     (s.dev.pd k).offToFollow = false →
     s.dev.faults.inj.state ≠ 1 →
     Completes (.pdDrainTimeout k) s fun t =>
       (t.pd k).state = 2 ∧ (t.pd k).powerUps = (s.dev.pd k).powerUps ∧ (∀ j, j ≠ k → t.pd j = s.dev.pd j) ∧
         ({ src := 0xF9, inst := k, part := 0xFF, cause := 0, injected := false } : FaultEvent) ∈ t.faults.crossing ∧
         t.store = s.dev.store ∧ t.doms = s.dev.doms ∧ t.parts = s.dev.parts) ∧
  (∀ (k : Nat) (trained : Bool) (s : State),
     (Instr.pdPowerUpDone k trained).wellFormed = true →
     s.Ready →
     k < 4 →
     (s.dev.pd k).state = 1 →
     (∀ u, u ∈ pdNeeded s.dev k → s.dev.held u = false ∧ s.dev.clockRuns (unitDomain s.dev u) = true) →
     Completes (.pdPowerUpDone k trained) s fun t =>
       t.pd k = { s.dev.pd k with state := 2, powerUps := inc32 (s.dev.pd k).powerUps, releaseToFollow := false } ∧
         (∀ j, j ≠ k → t.pd j = s.dev.pd j) ∧
         t.store = (if (s.dev.pd k).releaseToFollow then withOwn s.dev s.dev.store (byteFrame (0x2630 + k) 1 4) else s.dev.store) ∧
         t = { s.dev with pds := t.pds, store := t.store }) ∧
  (∀ (k : Nat) (s : State),
     (Instr.pdPowerUpDone k true).wellFormed = true →
     s.Ready →
     4 ≤ k →
     (s.dev.pd k).state = 1 →
     (∀ u, u ∈ pdNeeded s.dev k → s.dev.held u = false ∧ s.dev.clockRuns (unitDomain s.dev u) = true) →
     s.dev.cfg.nat 0x24E0 (k - 3) ≠ 0 →
     Completes (.pdPowerUpDone k true) s fun t =>
       t.pd k = { s.dev.pd k with state := 2, powerUps := inc32 (s.dev.pd k).powerUps, releaseToFollow := false } ∧
         (∀ j, j ≠ k → t.pd j = s.dev.pd j) ∧
         t.ddr = { s.dev.ddr with
           trained := setBit s.dev.ddr.trained (k - 4) true
           failed := setBit s.dev.ddr.failed (k - 4) false
           set := if (s.dev.pd k).releaseToFollow then setBit s.dev.ddr.set (k - 4) true else s.dev.ddr.set
           caps := if (s.dev.pd k).releaseToFollow then s.dev.ddr.caps.set (k - 4) (s.dev.cfg.nat 0x24E0 (k - 3)) else s.dev.ddr.caps
           gran := if (s.dev.pd k).releaseToFollow then s.dev.cfg.nat 0x24E0 9 else s.dev.ddr.gran } ∧
         t.store = (if (s.dev.pd k).releaseToFollow then withOwn s.dev s.dev.store (byteFrame (0x2630 + k) 1 4) else s.dev.store) ∧
         t = { s.dev with pds := t.pds, ddr := t.ddr, store := t.store }) ∧
  (∀ (k : Nat) (s : State),
     (Instr.pdPowerUpDone k true).wellFormed = true →
     s.Ready →
     4 ≤ k →
     (s.dev.pd k).state = 1 →
     (∀ u, u ∈ pdNeeded s.dev k → s.dev.held u = false ∧ s.dev.clockRuns (unitDomain s.dev u) = true) →
     s.dev.cfg.nat 0x24E0 (k - 3) = 0 →
     Completes (.pdPowerUpDone k true) s fun t =>
       (t.pd k).state = 2 ∧ (t.pd k).powerUps = inc32 (s.dev.pd k).powerUps ∧ (∀ j, j ≠ k → t.pd j = s.dev.pd j) ∧
         t.clockRuns (0x21 + (k - 4)) = false ∧ t.held (48 + (k - 4)) = true ∧ t.ddr.set = s.dev.ddr.set) ∧
  (∀ (k : Nat) (s : State),
     (Instr.pdPowerUpDone k false).wellFormed = true →
     s.Ready →
     4 ≤ k →
     (s.dev.pd k).state = 1 →
     s.dev.faults.inj.state ≠ 1 →
     Completes (.pdPowerUpDone k false) s fun t =>
       t.pd k = { s.dev.pd k with state := 6, releaseToFollow := false } ∧ (∀ j, j ≠ k → t.pd j = s.dev.pd j) ∧
         t.faults.crossing = s.dev.faults.crossing ++
           [{ src := 0xD8, inst := k, part := 0xFF, cause := 0, injected := false },
            { src := 0x77, inst := 48 + (k - 4), part := 0xFF, cause := 0, injected := false }] ∧
         bitOf t.ddr.failed (k - 4) = true ∧ t.ddr.set = s.dev.ddr.set ∧
         t = { s.dev with pds := t.pds, ddr := t.ddr, faults := { s.dev.faults with crossing := t.faults.crossing } }) ∧
  (∀ (k : Nat) (s : State),
     (Instr.pdPowerGoodTimeout k).wellFormed = true →
     s.Ready →
     (s.dev.pd k).state = 1 →
     s.dev.faults.inj.state ≠ 1 →
     Completes (.pdPowerGoodTimeout k) s fun t =>
       t.pd k = { s.dev.pd k with state := 6, releaseToFollow := false } ∧ (∀ j, j ≠ k → t.pd j = s.dev.pd j) ∧
         t.faults.crossing = s.dev.faults.crossing ++ [{ src := 0xD8, inst := k, part := 0xFF, cause := 0, injected := false }] ∧
         t = { s.dev with pds := t.pds, faults := { s.dev.faults with crossing := t.faults.crossing } }) ∧
  (∀ (k : Nat) (s : State),
     (Instr.releaseExecute k).wellFormed = true →
     s.Ready →
     18 ≤ k ∧ k ≠ 19 →
     (s.dev.pd (k - 16)).state = 5 →
     allApplied s.dev = true →
     Completes (.releaseExecute k) s fun t =>
       t.pd (k - 16) = { s.dev.pd (k - 16) with state := 3 } ∧ (∀ j, j ≠ k - 16 → t.pd j = s.dev.pd j) ∧ t = { s.dev with pds := t.pds })

/-- A chip reset first cuts off the transaction that has the store; it keeps the active configuration, the version,
the chamber of path 0, the flash, the fuses and the link capture record, puts partitions, NIs, queues, converters,
ports, operators, timing and probes into their reset values, holds every unit and leaves the contents of memory
undefined; PERST_N does so too, clears the link capture record and holds the device in reset; a power-on also empties
the store; a fall of VDD_AON is a power-on and of another rail the scope of PERST_N; reset release samples the straps;
a sample outside its limits raises 0xD2 or 0xD3, a temperature that rises to a threshold 0xD0 or 0xD1. Where the spec
leaves a choice, this follows the model's readings of log entries 3, 4, 12, 13, 15. -/
def Obligations.DeviceResets : Prop :=
  (∀ (src : Nat) (cut : SpiCut) (d : Dev) (s : State),
     (Instr.chipReset src cut).wellFormed = true →
     s.Ready →
     cutStore cut s.dev = d →
     Completes (.chipReset src cut) s fun t =>
       t.resets = { d.resets with
           kind := 3, chipSource := src, chipResets := inc32 d.resets.chipResets, linkLoss := 0, linkUp := false, unitHeld := allHeld } ∧
         t.cfg = d.cfg ∧ t.store.version = d.store.version ∧ t.store.journal = d.store.journal ∧
         t.store.chambers = d.store.chambers.filter (fun e => e.1 == 0) ∧ t.store.owner = none ∧ t.flash = d.flash ∧
         t.otp = d.otp ∧ t.net.cap = d.net.cap ∧ t.parts = [] ∧ t.pds = [] ∧ t.nis = [] ∧ t.boxes = [] ∧ t.queues = {} ∧
         t.conv = {} ∧ t.eth = {} ∧ t.ops = [] ∧ t.timing = {} ∧ t.probes = {} ∧ t.ddr = {} ∧ t.boot = {} ∧ t.power = d.power ∧
         t.clock = { wall := s.dev.clock.wall } ∧ (∀ a, 2 ^ 64 ≤ a ∨ t.stored a = Config.memoryByte d.free a)) ∧
  (∀ (cut : SpiCut) (d : Dev) (s : State),
     (Instr.perstNAssert cut).wellFormed = true →
     s.dev.bus = [] →
     cutStore cut s.dev = d →
     Completes (.perstNAssert cut) s fun t =>
       t.resets = { d.resets with kind := 2, linkLoss := 0, linkUp := false, unitHeld := allHeld } ∧
         t.power = { d.power with perstLow := true, released := false } ∧ t.cfg = d.cfg ∧
         t.store.version = d.store.version ∧ t.flash = d.flash ∧ t.otp = d.otp ∧ t.net = {} ∧ t.parts = [] ∧ t.pds = [] ∧ t.nis = [] ∧
         t.queues = {} ∧ t.conv = {} ∧ t.eth = {} ∧ t.ops = [] ∧ t.timing = {} ∧ t.probes = {} ∧ t.boot = {} ∧ (∀ a, 2 ^ 64 ≤ a ∨ t.stored a = Config.memoryByte d.free a)) ∧
  (∀ (d : Dev) (s : State),
     (Instr.powerOn).wellFormed = true →
     s.dev.bus = [] →
     s.dev = d →
     Completes (.powerOn) s fun t =>
       t.store = {} ∧ t.cfg = [] ∧ t.resets = { unitHeld := allHeld } ∧ t.faults = {} ∧ t.can = {} ∧
         t.power = { d.power with released := false } ∧
         t.otp = d.otp ∧ t.flash.firmware = d.flash.firmware ∧ t.flash.record = d.flash.record ∧
         (d.store.save = none → t.flash = d.flash) ∧ t.parts = [] ∧ t.nis = [] ∧ t.doms = [] ∧ (∀ a, 2 ^ 64 ≤ a ∨ t.stored a = Config.memoryByte d.free a)) ∧
  (∀ (rail : Nat) (cut : SpiCut) (d : Dev) (s : State),
     (Instr.railFall rail cut).wellFormed = true →
     s.dev.bus = [] →
     cutStore cut s.dev = d →
     Completes (.railFall rail cut) s fun t =>
       t.power = { d.power with railsBad := setBit d.power.railsBad rail true, released := false } ∧ t.parts = [] ∧ t.nis = [] ∧
         t.cfg = (if rail = 2 then [] else d.cfg) ∧ t.resets.kind = (if rail = 2 then 1 else 2) ∧ t.otp = d.otp ∧ (∀ a, 2 ^ 64 ≤ a ∨ t.stored a = Config.memoryByte d.free a)) ∧
  (∀ (testMode : Bool) (bootSel : Nat) (s : State),
     (Instr.resetRelease testMode bootSel).wellFormed = true →
     s.dev.bus = [] →
     s.dev.power.released = false →
     Completes (.resetRelease testMode bootSel) s fun t =>
       t = { s.dev with power := { railsBad := 0, perstLow := false, released := true, testMode := testMode, bootSel := bootSel } }) ∧
  (∀ (rail : Nat) (above : Bool) (s : State),
     (Instr.supplyMonitorSample rail above).wellFormed = true →
     s.Ready →
     s.dev.faults.inj.state ≠ 1 →
     Completes (.supplyMonitorSample rail above) s fun t =>
       t.faults.crossing = s.dev.faults.crossing ++
           [{ src := if above then 0xD3 else 0xD2, inst := rail, part := 0xFF, cause := 0, injected := false }] ∧
         t = { s.dev with faults := { s.dev.faults with crossing := t.faults.crossing } }) ∧
  (∀ (sensor : Nat) (reading old warn : Int) (s : State),
     (Instr.temperatureThreshold sensor reading).wellFormed = true →
     s.Ready →
     s.dev.faults.inj.state ≠ 1 →
     decInt 16 (s.dev.monitors.temp.get 0 sensor) = old →
     (((s.dev.shadow 3).nat 0x2E40 5 * 8 : Nat) : Int) = warn →
     Completes (.temperatureThreshold sensor reading) s fun t =>
       t.monitors.temp.get 0 sensor = encInt 16 reading ∧
         (∀ i, i ≠ sensor → t.monitors.temp.get 0 i = s.dev.monitors.temp.get 0 i) ∧
         t.faults.crossing = s.dev.faults.crossing ++
           (if old < warn ∧ warn ≤ reading then [{ src := 0xD0, inst := sensor, part := 0xFF, cause := 0, injected := false }] else []) ++
           (if old < 880 ∧ 880 ≤ reading then [{ src := 0xD1, inst := sensor, part := 0xFF, cause := 0, injected := false }] else []) ∧
         t = { s.dev with
           monitors := { s.dev.monitors with temp := t.monitors.temp }
           faults := { s.dev.faults with crossing := t.faults.crossing } })

/-- DL_Down starts the debounce; it answers an outbound read that is in progress with TGTERR; DL_Up notes rate and
width and returns to link up, without a reset; the end of the debounce and a hot reset start a link-loss reset, here
with no partition outside its fence, which raises 0x98 and begins the reset step of every partition, or a chip reset
where 0x2603:02 is 1, which cuts off the transaction that has the store. Where the spec leaves a choice, this follows
the model's readings of log entries 13, 61. -/
def Obligations.LinkLoss : Prop :=
  (∀ (s : State),
     (Instr.dlDown).wellFormed = true →
     s.Ready →
     s.dev.resets.linkLoss = 0 →
     s.dev.host.reads = [] →
     Completes (.dlDown) s fun t =>
       t = { s.dev with resets := { s.dev.resets with linkLoss := 1, linkUp := false } }) ∧
  (∀ (r : OutRead) (s : State),
     (Instr.dlDown).wellFormed = true →
     s.Ready →
     s.dev.resets.linkLoss = 0 →
     s.dev.host.reads = [r] →
     Completes (.dlDown) s fun t =>
       t.resets.linkLoss = 1 ∧ t.resets.linkUp = false ∧ t.host.reads = [] ∧
         (t.ni r.hp).out = (s.dev.ni r.hp).out ++ [{
           pkt := {
             dest := r.req.src, src := r.hp, ty := 9, cls := r.req.cls, part := r.req.part, tag := r.req.tag, addr := r.req.addr
             size := r.req.size, status := 1 }
           kind := .response }] ∧
         NiOnly s.dev t r.hp) ∧
  (∀ (rate width : Nat) (s : State),
     (Instr.dlUp rate width).wellFormed = true →
     s.Ready →
     s.dev.resets.linkLoss ≠ 2 →
     Completes (.dlUp rate width) s fun t =>
       t = { s.dev with
           resets := { s.dev.resets with linkLoss := 0, linkUp := true }, host := { s.dev.host with linkRate := rate, linkWidth := width } }) ∧
  (∀ (cut : SpiCut) (s : State),
     (Instr.linkLossDebounceExpiry cut).wellFormed = true →
     s.Ready →
     s.dev.resets.linkLoss = 1 →
     s.dev.cfg.nat 0x2603 2 ≠ 1 →
     (∀ p, p < 16 → 2 ≤ (s.dev.part p).state ∧ (s.dev.part p).state ≤ 4) →
     s.dev.faults.inj.state ≠ 1 →
     Completes (.linkLossDebounceExpiry cut) s fun t =>
       LinkLossBegun s.dev t) ∧
  (∀ (cut : SpiCut) (d : Dev) (s : State),
     (Instr.linkLossDebounceExpiry cut).wellFormed = true →
     s.Ready →
     s.dev.resets.linkLoss = 1 →
     s.dev.cfg.nat 0x2603 2 = 1 →
     cutStore cut s.dev = d →
     d.resets.linkLoss = 1 →
     d.cfg.nat 0x2603 2 = 1 →
     Completes (.linkLossDebounceExpiry cut) s fun t =>
       t.resets = { d.resets with kind := 4, chipResets := inc32 d.resets.chipResets, linkLoss := 0, linkUp := false, unitHeld := allHeld } ∧
         t.cfg = d.cfg ∧ t.parts = [] ∧ t.nis = [] ∧ t.queues = {} ∧ t.otp = d.otp) ∧
  (∀ (cut : SpiCut) (s : State),
     (Instr.hotReset cut).wellFormed = true →
     s.Ready →
     s.dev.resets.linkLoss ≤ 1 →
     s.dev.cfg.nat 0x2603 2 ≠ 1 →
     s.dev.host.reads = [] →
     (∀ p, p < 16 → 2 ≤ (s.dev.part p).state ∧ (s.dev.part p).state ≤ 4) →
     s.dev.faults.inj.state ≠ 1 →
     Completes (.hotReset cut) s fun t =>
       LinkLossBegun s.dev t)

/-- The events that have crossed, with those a sender names as seen at the edge, are registered; here one event. One
below its source's threshold and without reactions raises total and window count, opens the window and keeps the
record; the event that reaches the threshold makes the source severe, sets FAULT_N and counts an NMI where its severe
reactions say so, notes the first severe source and queues an EMCY; a chip reset reaction within the limit, with no
transaction to cut off, resets the device and names the source; while the collector is disabled the first event of a
source is latched; a window's end clears the count of a source that is not severe. Where the spec leaves a choice,
this follows the model's readings of log entries 28, 53. -/
def Obligations.FaultCollector : Prop :=
  (∀ (e : FaultEvent) (seen : List (Nat × Nat)) (cut : SpiCut) (d : Dev) (s : State),
     (Instr.faultEventRegister .none seen cut).wellFormed = true →
     s.Ready →
     Dev.fold seen (fun e y => y.raise e.1 e.2) s.dev = d →
     d.faults.crossing = [e] →
     d.faults.enabled = true →
     (d.source e.src).severe = false →
     (d.source e.src).count + 1 < d.pcfg.nat (0x4000 + e.src) 3 →
     d.pcfg.nat (0x4000 + e.src) 5 = 0 →
     Completes (.faultEventRegister .none seen cut) s fun t =>
       t.source e.src = { d.source e.src with
           total := inc32 (d.source e.src).total, count := (d.source e.src).count + 1, windowOpen := true
           last := eventRecord d e false false } ∧
         (∀ i, i ≠ e.src → t.source i = d.source i) ∧
         t = { d with faults := { d.faults with
           crossing := [], src := t.faults.src, registered := inc32 d.faults.registered
           nmis := satAdd 32 d.faults.nmis 0 } }) ∧
  (∀ (e : FaultEvent) (r : Nat) (seen : List (Nat × Nat)) (cut : SpiCut) (d : Dev) (s : State),
     (Instr.faultEventRegister .none seen cut).wellFormed = true →
     s.Ready →
     Dev.fold seen (fun e y => y.raise e.1 e.2) s.dev = d →
     d.faults.crossing = [e] →
     d.faults.enabled = true →
     (d.source e.src).severe = false →
     d.pcfg.nat (0x4000 + e.src) 3 ≤ (d.source e.src).count + 1 →
     d.pcfg.nat (0x4000 + e.src) 6 = r →
     bitOf r 0 = false ∧ bitOf r 2 = false ∧ bitOf r 3 = false ∧ bitOf r 4 = false →
     d.boot.firmware = true ∧ d.can.enabled = true ∧ d.can.emcy.length < 16 →
     Completes (.faultEventRegister .none seen cut) s fun t =>
       t.source e.src = { d.source e.src with
           total := inc32 (d.source e.src).total, count := 0, windowOpen := false, severe := true
           faultN := if bitOf r 5 then true else (d.source e.src).faultN
           last := eventRecord d e false true } ∧
         (∀ i, i ≠ e.src → t.source i = d.source i) ∧
         t.faults.first = (if d.faults.first = 0xFFFF then e.src else d.faults.first) ∧
         t.faults.nmis = satAdd 32 d.faults.nmis (if bitOf r 1 then 1 else 0) ∧
         t.can.emcy.length = d.can.emcy.length + 1 ∧ t.can = { d.can with emcy := t.can.emcy } ∧
         t = { d with can := t.can, faults := { d.faults with
           crossing := [], src := t.faults.src, registered := inc32 d.faults.registered
           first := t.faults.first, firstRec := t.faults.firstRec, nmis := t.faults.nmis } }) ∧
  (∀ (e : FaultEvent) (seen : List (Nat × Nat)) (cut : SpiCut) (d : Dev) (s : State),
     (Instr.faultEventRegister .none seen cut).wellFormed = true →
     s.Ready →
     Dev.fold seen (fun e y => y.raise e.1 e.2) s.dev = d →
     cutStore cut s.dev = s.dev →
     d.faults.crossing = [e] →
     d.faults.enabled = true →
     (d.source e.src).severe = false →
     d.pcfg.nat (0x4000 + e.src) 3 ≤ (d.source e.src).count + 1 →
     bitOf (d.pcfg.nat (0x4000 + e.src) 6) 4 = true →
     chipResetLimited d = false →
     Completes (.faultEventRegister .none seen cut) s fun t =>
       t.resets.kind = 3 ∧ t.resets.chipSource = e.src ∧ t.resets.chipResets = inc32 d.resets.chipResets ∧ t.cfg = d.cfg ∧
         t.parts = [] ∧ t.nis = [] ∧ t.faults.enabled = false ∧ t.faults.src = [] ∧
         t.faults.chipResetTimes = (s.dev.clock.wall :: d.faults.chipResetTimes).take 15 ∧
         t.faults.resetFlag = (d.faults.resetFlag || bitOf (d.pcfg.nat (0x4000 + e.src) 6) 5)) ∧
  (∀ (err : MemErr) (e : FaultEvent) (seen : List (Nat × Nat)) (cut : SpiCut) (d : Dev) (s : State),
     (Instr.faultEventRegister err seen cut).wellFormed = true →
     s.Ready →
     Dev.fold seen (fun e y => y.raise e.1 e.2) s.dev = d →
     d.faults.crossing = [e] →
     d.faults.enabled = false →
     Completes (.faultEventRegister err seen cut) s fun t =>
       (t.source e.src).pre = (match (d.source e.src).pre with
           | some k => some k
           | none => some e) ∧
         (t.source e.src).total = (d.source e.src).total ∧ (t.source e.src).severe = (d.source e.src).severe ∧
         (∀ i, i ≠ e.src → t.source i = d.source i) ∧
         t = { d with faults := { d.faults with crossing := [], src := t.faults.src } }) ∧
  (∀ (n : Nat) (s : State),
     (Instr.faultWindowExpiry n).wellFormed = true →
     s.Ready →
     Completes (.faultWindowExpiry n) s fun t =>
       t.source n = { s.dev.source n with
           windowOpen := false, count := if (s.dev.source n).severe then (s.dev.source n).count else 0 } ∧
         (∀ i, i ≠ n → t.source i = s.dev.source i) ∧
         t = { s.dev with faults := { s.dev.faults with src := t.faults.src } })

/-- A tick samples both channels; channels that agree clear the count and leave the inhibit off when both are
released; both asserted after a released tick activate it, count the activation and raise 0xF1; a disagreement
counts up, activates the inhibit and, at the discrepancy time, latches the discrepancy fault and raises 0xF0.
While a discrepancy is latched the inhibit stays active. Where the spec leaves a choice, this follows the
model's readings of log entry 55. -/
def Obligations.OutputInhibit : Prop :=
  (∀ (s : State),
     (Instr.inhibitTick true false).wellFormed = true →
     s.Ready →
     s.dev.inhibit.latched = false →
     Completes (.inhibitTick true false) s fun t =>
       t = { s.dev with inhibit := { s.dev.inhibit with
           aLevel := true, bLevel := false, active := false, count := 0
           longest := max s.dev.inhibit.longest (min s.dev.inhibit.count 0xFFFF) } }) ∧
  (∀ (s : State),
     (Instr.inhibitTick false true).wellFormed = true →
     s.Ready →
     s.dev.inhibit.latched = false →
     s.dev.inhibit.active = false →
     (∀ e, e ∈ s.dev.conv.stream → e.2.tx = false) →
     s.dev.faults.inj.state ≠ 1 →
     Completes (.inhibitTick false true) s fun t =>
       t.inhibit = { s.dev.inhibit with
           aLevel := false, bLevel := true, active := true, count := 0, activations := inc32 s.dev.inhibit.activations
           longest := max s.dev.inhibit.longest (min s.dev.inhibit.count 0xFFFF) } ∧
         t.faults.crossing = s.dev.faults.crossing ++ [{ src := 0xF1, inst := 2, part := 0xFF, cause := 0, injected := false }] ∧
         t = { s.dev with inhibit := t.inhibit, faults := { s.dev.faults with crossing := t.faults.crossing } }) ∧
  (∀ (s : State),
     (Instr.inhibitTick false false).wellFormed = true →
     s.Ready →
     s.dev.inhibit.latched = false →
     s.dev.inhibit.active = false →
     s.dev.inhibit.count + 1 < discrepancyTime s.dev →
     (∀ e, e ∈ s.dev.conv.stream → e.2.tx = false) →
     s.dev.faults.inj.state ≠ 1 →
     Completes (.inhibitTick false false) s fun t =>
       t.inhibit = { s.dev.inhibit with
           aLevel := false, bLevel := false, active := true, count := s.dev.inhibit.count + 1
           activations := inc32 s.dev.inhibit.activations } ∧
         t.faults.crossing = s.dev.faults.crossing ++ [{ src := 0xF1, inst := 0, part := 0xFF, cause := 0, injected := false }] ∧
         t = { s.dev with inhibit := t.inhibit, faults := { s.dev.faults with crossing := t.faults.crossing } }) ∧
  (∀ (s : State),
     (Instr.inhibitTick true true).wellFormed = true →
     s.Ready →
     s.dev.inhibit.latched = false →
     s.dev.inhibit.active = true →
     discrepancyTime s.dev ≤ s.dev.inhibit.count + 1 →
     s.dev.faults.inj.state ≠ 1 →
     Completes (.inhibitTick true true) s fun t =>
       t.inhibit = { s.dev.inhibit with
           aLevel := true, bLevel := true, active := true, latched := true, count := discrepancyTime s.dev } ∧
         t.faults.crossing = s.dev.faults.crossing ++ [{ src := 0xF0, inst := 0xFF, part := 0xFF, cause := 0, injected := false }] ∧
         t = { s.dev with inhibit := t.inhibit, faults := { s.dev.faults with crossing := t.faults.crossing } }) ∧
  (∀ (a b : Bool) (s : State),
     (Instr.inhibitTick a b).wellFormed = true →
     s.Ready →
     s.dev.inhibit.latched = true →
     s.dev.inhibit.active = true →
     Completes (.inhibitTick a b) s fun t =>
       t = { s.dev with inhibit := { s.dev.inhibit with aLevel := a, bLevel := b } } ∧ t.inhibit.active = true)

/-- DOMAIN_CAPTURE of a running domain that captures sets its version to the store's, its shadow to the active
configuration, and notes restarts and the longest capture; the crossings of its held units have captured too, so that
0x2003 reports the version; the active configuration stays. Where the domain's units have nothing to apply, nothing
else changes; a port or link that is disabled and a channel without capacity may lose their clock at the capture.
Where the spec leaves a choice, this follows the model's readings of log entry 13. -/
def Obligations.DomainCapture : Prop :=
  (∀ (k ns restarts : Nat) (s : State),
     (Instr.domainCapture k ns restarts).wellFormed = true →
     s.Ready →
     s.dev.clockRuns k = true →
     (s.dev.dom k).capturing = true →
     k = 2 ∨ k = 4 ∨ 0x21 ≤ k ∧ k ≤ 0x28 ∧ s.dev.cfg.nat 0x24E0 (k - 0x20) ≠ 0 →
     Completes (.domainCapture k ns restarts) s fun t =>
       t.dom k = { s.dev.dom k with
           capturing := false, version := s.dev.store.version, epoch := s.dev.store.epoch, shadow := s.dev.store.active
           restarts := satAdd 32 (s.dev.dom k).restarts restarts, longest := max (s.dev.dom k).longest ns } ∧
         t.domVersion k = s.dev.store.version ∧ (∀ j, j ≠ k → t.dom j = s.dev.dom j) ∧
         (∀ u, t.resets.unitHeld.find? u = (s.dev.resets.unitHeld.find? u).map fun c => c || unitDomain s.dev u == k) ∧
         t = { s.dev with doms := t.doms, resets := { s.dev.resets with unitHeld := t.resets.unitHeld } }) ∧
  (∀ (k ns restarts : Nat) (s : State),
     (Instr.domainCapture k ns restarts).wellFormed = true →
     s.Ready →
     s.dev.clockRuns k = true →
     (s.dev.dom k).capturing = true →
     k < 5 ∨ k = 0x29 →
     (k = 3 → ∀ e, e ∈ s.dev.faults.src → e.2.pre = none) →
     Completes (.domainCapture k ns restarts) s fun t =>
       (t.dom k).version = s.dev.store.version ∧ t.shadow k = s.dev.store.active ∧ (t.dom k).capturing = false ∧
         (∀ j, j ≠ k → t.dom j = s.dev.dom j) ∧ t.store = s.dev.store ∧ t.parts = s.dev.parts ∧ t.pds = s.dev.pds) ∧
  (∀ (k ns restarts : Nat) (s : State),
     (Instr.domainCapture k ns restarts).wellFormed = true →
     s.Ready →
     s.dev.clockRuns k = true →
     (s.dev.dom k).capturing = true →
     5 ≤ k ∧ k ≤ 0x20 →
     Completes (.domainCapture k ns restarts) s fun t =>
       t.shadow k = s.dev.store.active ∧ (t.dom k).capturing = false ∧ (t.dom k).epoch = s.dev.store.epoch ∧
         (t.clockRuns k = false ∨ (t.dom k).version = s.dev.store.version) ∧ t.store = s.dev.store ∧ t.parts = s.dev.parts ∧ t.pds = s.dev.pds) ∧
  (∀ (k ns restarts : Nat) (s : State),
     (Instr.domainCapture k ns restarts).wellFormed = true →
     s.Ready →
     s.dev.clockRuns k = true →
     (s.dev.dom k).capturing = true →
     0x21 ≤ k ∧ k ≤ 0x28 →
     s.dev.cfg.nat 0x24E0 (k - 0x20) = 0 →
     (s.dev.pd (4 + (k - 0x21))).state ≠ 1 →
     Completes (.domainCapture k ns restarts) s fun t =>
       t.clockRuns k = false ∧ t.shadow k = s.dev.store.active ∧ t.held (48 + (k - 0x21)) = true ∧ t.store = s.dev.store ∧
         t.parts = s.dev.parts ∧ t.pds = s.dev.pds)

/-- A start from the boot ROM, with the store free of the SPI port, runs the chosen slot and sets REMAP; where no slot
is chosen the device enters safe-harbour mode and raises 0xE3; at the end of the boot the firmware presents RELEASE
for partition 0 and the partitions of 0x2600:04, ON for the wanted power domains and RELEASE for those of them that
are already FENCED, and latches aperture and identity; a trial is confirmed in the boot record; a restart of LKC by
the watchdog, after the transaction that it cuts off, raises 0xEC, drops what the firmware held, ends a pending
mailbox request with detail 0x53 and returns LKC to the boot ROM, after RESTART likewise without 0xEC; an erase ends
in receiving or failed, a verify in verified or failed. Where the spec leaves a choice, this follows the model's
readings of log entries 39, 58. -/
def Obligations.Boot : Prop :=
  (∀ (programmed : Bool) (s : State),
     (Instr.firmwareStart programmed).wellFormed = true →
     s.Ready →
     inRom s.dev = true →
     s.dev.store.owner = none →
     s.dev.store.spiPending = false →
     Completes (.firmwareStart programmed) s fun t =>
       ((bootChoice s.dev).slot = none → t = s.dev) ∧
         (∀ i, (bootChoice s.dev).slot = some i →
           t.boot = { s.dev.boot with firmware := true, running := i, trying := (bootChoice s.dev).trying } ∧ t.matrix.remap = true ∧
           t.can.usdo = none ∧ t.can.busOff = false ∧ t.otp = s.dev.otp ∧ t.power = s.dev.power ∧ t.flash.firmware = s.dev.flash.firmware ∧
           (s.dev.store.valid = true → s.dev.store.save = none →
             Bytes.le (s.dev.flash.firmware.get [] i) 28 2 ≤ s.dev.store.schema →
             s.dev.store.schema ≤ Bytes.le (s.dev.flash.firmware.get [] i) 30 2 → t.store = s.dev.store))) ∧
  (∀ (s : State),
     (Instr.safeHarbourEntry).wellFormed = true →
     s.Ready →
     inRom s.dev = true →
     (bootChoice s.dev).slot = none →
     s.dev.faults.inj.state ≠ 1 →
     Completes (.safeHarbourEntry) s fun t =>
       t.boot = { s.dev.boot with safeHarbour := true, running := 0xFF, trying := false } ∧
         ({ src := 0xE3, inst := 0xFF, part := 0xFF, cause := 0, injected := false } : FaultEvent) ∈ t.faults.crossing ∧
         t.can.nmt = .preOperational ∧ t.can.enabled = ((if s.dev.store.valid then s.dev.cfg else []).nat 0x1FF0 5 == 1) ∧
         t = { s.dev with
           boot := t.boot, can := t.can, faults := { s.dev.faults with crossing := t.faults.crossing }
           flash := { s.dev.flash with record := t.flash.record } }) ∧
  (∀ (s : State),
     (Instr.endOfBoot).wellFormed = true →
     s.Ready →
     s.dev.boot.firmware = true →
     s.dev.boot.ended = false →
     s.dev.boot.warm = false →
     Completes (.endOfBoot) s fun t =>
       t.boot = { s.dev.boot with ended := true } ∧
         t.store = ((((List.range 16).filter fun p => p == 0 || bitOf (s.dev.cfg.nat 0x2600 4) p).map fun p => byteFrame (0x2610 + p) 1 3) ++
             (((List.range 12).filter fun k =>
                 s.dev.cfg.nat (0x2630 + k) 3 == 1 && (decide (k < 4) || s.dev.cfg.nat 0x24E0 (k - 3) != 0)).map fun k =>
               byteFrame (0x2630 + k) 1 3 :: (if (s.dev.pd k).state = 2 then [byteFrame (0x2630 + k) 1 4] else [])).flatten).foldl
           (withOwn s.dev) s.dev.store ∧
         (∀ k, k < 12 → t.pd k =
           if s.dev.cfg.nat (0x2630 + k) 3 = 1 ∧ (k < 4 ∨ s.dev.cfg.nat 0x24E0 (k - 3) ≠ 0) ∧ (s.dev.pd k).state ≠ 2
           then { s.dev.pd k with releaseToFollow := true } else s.dev.pd k) ∧
         t.host.aperture = (s.dev.shadow 4).nat 0x2805 1 ∧
         t = { s.dev with
           boot := t.boot, pds := t.pds, store := t.store
           host := { s.dev.host with aperture := t.host.aperture, ids := t.host.ids } }) ∧
  (∀ (s : State),
     (Instr.trialConfirm).wellFormed = true →
     s.Ready →
     s.dev.boot.firmware = true →
     s.dev.boot.trying = true →
     s.dev.boot.ended = true →
     Completes (.trialConfirm) s fun t =>
       t.boot = { s.dev.boot with trying := false } ∧
         t.record = { s.dev.record with
           trial := 0xFF, outcome := 1
           pin := if newerOf s.dev (slotValid s.dev) = some s.dev.boot.running then 0xFF else s.dev.boot.running } ∧
         t = { s.dev with boot := t.boot, flash := { s.dev.flash with record := t.flash.record } }) ∧
  (∀ (cut : SpiCut) (d : Dev) (s : State),
     (Instr.lkcRestart cut).wellFormed = true →
     s.Ready →
     inRom s.dev = false →
     cutTowpath cut s.dev = d →
     (∀ e, e ∈ d.boxes → e.2.pending = false ∧ e.2.active = false) →
     d.can.usdo = none →
     d.faults.inj.state ≠ 1 →
     Completes (.lkcRestart cut) s fun t =>
       t.boot = { warm := d.boot.firmware && d.boot.ended, ended := d.boot.ended, running := d.boot.running } ∧
         t.store = { d.store with waiting := [], own := [], loads := [] } ∧
         (∀ p, p < 16 → t.part p =
           if (d.part p).state = 4 then { d.part p with autoRelease := false, awaitVf := false } else d.part p) ∧
         (∀ k, k < 12 → t.pd k = { d.pd k with releaseToFollow := false }) ∧
         t.faults.crossing = d.faults.crossing ++ [{ src := 0xEC, inst := 0xFF, part := 0xFF, cause := 0, injected := false }] ∧
         t.cfg = d.cfg ∧ t.can = d.can ∧ t.flash = d.flash ∧ t.queues = d.queues) ∧
  (∀ (f : Nat) (x : Mailbox) (cut : SpiCut) (d : Dev) (s : State),
     (Instr.lkcRestart cut).wellFormed = true →
     s.Ready →
     inRom s.dev = false →
     cutTowpath cut s.dev = d →
     d.boxes = [(f, x)] →
     x.pending = true →
     x.ie = false →
     d.can.usdo = none →
     Completes (.lkcRestart cut) s fun t =>
       t.boxes.get {} f = { x with
           pending := false, active := false, done := true, rseq := x.seq, stat := 1, abort := 0x08000000, rlen := 0, rspData := [] } ∧
         t.store.results.get 0 (16 + f) = 256 * x.key + 0x53 ∧ t.boot.firmware = false ∧ t.cfg = d.cfg) ∧
  (∀ (cut : SpiCut) (d : Dev) (s : State),
     (Instr.restartDelayExpiry cut).wellFormed = true →
     s.Ready →
     s.dev.boot.restart = true →
     cutTowpath cut s.dev = d →
     (∀ e, e ∈ d.boxes → e.2.pending = false ∧ e.2.active = false) →
     d.can.usdo = none →
     Completes (.restartDelayExpiry cut) s fun t =>
       t.boot = { warm := d.boot.firmware && d.boot.ended, ended := d.boot.ended, running := d.boot.running } ∧
         t.store = { d.store with waiting := [], own := [], loads := [] } ∧ t.faults = d.faults ∧
         t.cfg = d.cfg ∧ t.can = d.can ∧ t.flash = d.flash ∧ t.queues = d.queues) ∧
  (∀ (ok : Bool) (s : State),
     (Instr.updateEraseDone ok).wellFormed = true →
     s.Ready →
     s.dev.boot.update = 1 →
     Completes (.updateEraseDone ok) s fun t =>
       t = { s.dev with boot := { s.dev.boot with
           update := if ok then 2 else 5
           received := if ok then 0 else s.dev.boot.received
           failure := if ok then s.dev.boot.failure else 0x98 } }) ∧
  (∀ (ok : Bool) (s : State),
     (Instr.updateVerifyDone ok).wellFormed = true →
     s.Ready →
     s.dev.boot.update = 3 →
     Completes (.updateVerifyDone ok) s fun t =>
       t.fwSlot s.dev.boot.target = s.dev.fwSlot s.dev.boot.target ++ s.dev.boot.buffer ∧
         t.boot = { s.dev.boot with
           buffer := []
           update := if ok = true ∧ slotFault t s.dev.boot.target = 0 then 4 else 5
           failure := if ok = false then 0x98
             else if slotFault t s.dev.boot.target = 0 then s.dev.boot.failure else slotFault t s.dev.boot.target } ∧
         t = { s.dev with boot := t.boot, flash := { s.dev.flash with firmware := t.flash.firmware } })

/-- A falling MGMT_CS_N makes path 0 pending; a grant of a free store serves the port first, and otherwise the first
of the waiting frames whose path is served, here a DISCARD; a rise before any edge of a frame gives the store up and
changes nothing else; a cut in the tail of a frame leaves an accepted COMMIT or REVERT that is past tail edge 1 to be
rolled back, and the active configuration stays; a cut while a frame is shifted in rolls back what another left,
counts it and raises 0xE7; the idle timeout gives the store up, ignores further edges and raises 0xE8. Where the spec
leaves a choice, this follows the model's readings of log entries 20, 22. -/
def Obligations.StorePort : Prop :=
  (∀ (s : State),
     (Instr.mgmtCsNFall).wellFormed = true →
     s.Ready →
     s.dev.store.spi.csLow = false →
     Completes (.mgmtCsNFall) s fun t =>
       t = { s.dev with store := { s.dev.store with spiPending := true, spi := { csLow := true } } }) ∧
  (∀ (s : State),
     (Instr.mgmtCsNRise .idle).wellFormed = true →
     s.Ready →
     Completes (.mgmtCsNRise .idle) s fun t =>
       t = { s.dev with store := { s.dev.store with
           spi := {}, spiPending := false, owner := if s.dev.store.spi.granted then none else s.dev.store.owner } }) ∧
  (∀ (f : Frame) (edges : Nat) (s : State),
     (Instr.mgmtCsNRise (.inTail f edges)).wellFormed = true →
     s.Ready →
     s.dev.store.spi.granted = true →
     s.dev.store.spi.served = false →
     s.dev.store.cut = none →
     edges < tailEdges 0 s.dev f →
     Completes (.mgmtCsNRise (.inTail f edges)) s fun t =>
       t = { s.dev with store := { s.dev.store with
           rolledNow := false, spi := {}, spiPending := false, owner := none
           cut := if 1 < edges ∧ (f.op = 3 ∨ f.op = 4) ∧ frameStat f = 0 ∧
               (perform 0 f (rollBack s.dev)).dev.store.epoch ≠ s.dev.store.epoch then some 0 else none } } ∧ t.cfg = s.dev.cfg) ∧
  (∀ (s : State),
     (Instr.mgmtCsNRise .inFrame).wellFormed = true →
     s.Ready →
     s.dev.store.spi.granted = true →
     s.dev.store.spi.served = false →
     s.dev.store.cut = some 0 →
     s.dev.faults.inj.state ≠ 1 →
     Completes (.mgmtCsNRise .inFrame) s fun t =>
       t.faults.crossing = s.dev.faults.crossing ++ [{ src := 0xE7, inst := 0, part := 0xFF, cause := 0, injected := false }] ∧
         t = { s.dev with
           store := { s.dev.store with
             cut := none, rolledNow := true, rolledBack := inc32 s.dev.store.rolledBack, spi := {}, spiPending := false, owner := none }
           faults := { s.dev.faults with crossing := t.faults.crossing } }) ∧
  (∀ (s : State),
     (Instr.spiIdleTimeout .idle).wellFormed = true →
     s.Ready →
     s.dev.store.spi.granted = true →
     s.dev.faults.inj.state ≠ 1 →
     Completes (.spiIdleTimeout .idle) s fun t =>
       t.faults.crossing = s.dev.faults.crossing ++ [{ src := 0xE8, inst := 0xFF, part := 0xFF, cause := 0, injected := false }] ∧
         t = { s.dev with
           store := { s.dev.store with spi := { csLow := true, ignoring := true }, spiPending := false, owner := none }
           faults := { s.dev.faults with crossing := t.faults.crossing } }) ∧
  (∀ (s : State),
     (Instr.storeGrant).wellFormed = true →
     s.Ready →
     s.dev.store.owner = none →
     s.dev.store.spiPending = true →
     Completes (.storeGrant) s fun t =>
       t = { s.dev with store := { s.dev.store with
           owner := some 0, spiPending := false, spi := { s.dev.store.spi with granted := true, served := false } } }) ∧
  (∀ (path : Nat) (pre post : Tbl Frame) (s : State),
     (Instr.storeGrant).wellFormed = true →
     s.Ready →
     s.dev.store.owner = none →
     s.dev.store.spiPending = false →
     s.dev.store.cut = none →
     s.dev.boot.safeHarbour = false →
     path ≠ 0 ∧ path ≠ 2 ∧ path < 16 →
     s.dev.store.waiting = pre ++ (path, plainFrame 7 0 true) :: post →
     (∀ e, e ∈ pre → pathServed s.dev e.1 = false) →
     s.dev.store.own = [] →
     pathServed s.dev path = true →
     Completes (.storeGrant) s fun t =>
       t = { s.dev with store := {
           storeAnswered s.dev.store path 0 0 [] with waiting := s.dev.store.waiting.erase path, chambers := s.dev.store.chambers.erase path } })

/-- A READ of a readable object answers its present value; a WRITE_STAGE of a stored object that the path may
write enters the path's chamber and nothing else; a WRITE_STAGE of a missing object is refused with detail
0x04 or 0x05 and changes nothing but the answer; DISCARD empties the path's chamber; STATUS answers version,
counts and flags; an unknown opcode is answered with STAT 3. Where the spec leaves a choice, this follows the
model's readings of log entries 21, 23. -/
def Obligations.StoreFrames : Prop :=
  (∀ (path idx sub len : Nat) (r : ObjRow) (s : State),
     (Instr.read path idx sub len true).wellFormed = true →
     s.Ready →
     PathFree s.dev path →
     objRow idx sub = some r →
     r.acc ≠ .wo →
     r.ty.len = some len →
     mayRead s.dev path r idx sub = true →
     1 ≤ len ∧ len ≤ 256 →
     Carried path (.read path idx sub len true) s fun t =>
       t.store = storeAnswered s.dev.store path 0 0
           (if path = 0 then padTo len ((objectBytes s.dev r idx sub).take len) else (objectBytes s.dev r idx sub).take len) ∧
         t = { s.dev with store := t.store }) ∧
  (∀ (path idx sub : Nat) (data : Bytes) (r : ObjRow) (s : State),
     (Instr.writeStage path idx sub data.length data true).wellFormed = true →
     s.Ready →
     PathFree s.dev path →
     objRow idx sub = some r →
     r.acc = .rw →
     r.cls = .s ∨ r.cls = .f →
     valueDetail idx r data = 0 →
     mayWrite s.dev path idx sub = true →
     ¬ (idx = 0x2600 ∧ sub = 4) →
     ((s.dev.chamber path).set (okey idx sub) data).length ≤ 512 →
     chamberBytes ((s.dev.chamber path).set (okey idx sub) data) ≤ 16384 →
     1 ≤ data.length ∧ data.length ≤ 256 →
     Carried path (.writeStage path idx sub data.length data true) s fun t =>
       t = { s.dev with store := {
           storeAnswered s.dev.store path 0 0 [] with
           chambers := s.dev.store.chambers.set path ((s.dev.chamber path).set (okey idx sub) data) } } ∧
         (t.chamber path).get [] (okey idx sub) = data ∧ t.cfg = s.dev.cfg) ∧
  (∀ (path idx sub : Nat) (data : Bytes) (s : State),
     (Instr.writeStage path idx sub data.length data true).wellFormed = true →
     s.Ready →
     PathFree s.dev path →
     objRow idx sub = none →
     1 ≤ data.length ∧ data.length ≤ 256 →
     Carried path (.writeStage path idx sub data.length data true) s fun t =>
       t = { s.dev with store := storeAnswered s.dev.store path (missingDetail idx) (okey idx sub) [] } ∧
         (missingDetail idx = 4 ∨ missingDetail idx = 5)) ∧
  (∀ (path : Nat) (s : State),
     (Instr.discard path 0 true).wellFormed = true →
     s.Ready →
     PathFree s.dev path →
     Carried path (.discard path 0 true) s fun t =>
       t = { s.dev with store := {
           storeAnswered s.dev.store path 0 0 [] with chambers := s.dev.store.chambers.erase path } } ∧ t.chamber path = []) ∧
  (∀ (path : Nat) (s : State),
     (Instr.status path 0 true).wellFormed = true →
     s.Ready →
     PathFree s.dev path →
     Carried path (.status path 0 true) s fun t =>
       t.store = storeAnswered s.dev.store path 0 0
           (beBytes 4 s.dev.store.version ++ beBytes 2 (s.dev.chamber 0).length ++ beBytes 2 (chamberBytes (s.dev.chamber 0)) ++
             beBytes 2 s.dev.store.journal.length ++
             [byte (b2n s.dev.store.valid + 2 * b2n s.dev.store.save.isSome), byte 0] ++ beBytes 4 (s.dev.store.results.get 0 0)) ∧
         t = { s.dev with store := t.store }) ∧
  (∀ (path op : Nat) (s : State),
     (Instr.unknownOpcodeFrame path op).wellFormed = true →
     s.Ready →
     PathFree s.dev path →
     op = 0 ∨ 7 < op →
     Carried path (.unknownOpcodeFrame path op) s fun t =>
       t = { s.dev with store := {
           storeAnswered s.dev.store path 0 0 [] with
           refused := inc32 s.dev.store.refused
           results := s.dev.store.results.set path 3
           responses := s.dev.store.responses.set path [byte 3, byte 0, byte 0, byte 0, byte 0] } })

/-- An accepted commit of a non-empty chamber makes every entry active at once, keeps the replaced cells as the
journal, sets the next version, which stays 0 before the boot load, and the next epoch, empties the chamber, and every
running domain starts to capture; an accepted revert does so with the journal; a refused one changes nothing but the
answer; an empty commit is answered OK and an empty revert with 0x25. Where the spec leaves a choice, this follows the
model's readings of log entry 26. -/
def Obligations.Commits : Prop :=
  (∀ (path len v : Nat) (chg : Change) (s : State),
     (Instr.commit path len v true).wellFormed = true →
     s.Ready →
     PathFree s.dev path →
     len = 0 ∨ (len = 4 ∧ v < 2 ^ 32) →
     chamberChange (s.dev.chamber path) = chg →
     chg ≠ [] →
     refuseCommit s.dev path chg (if len = 4 then some v else none) 0x23 true = none →
     Carried path (.commit path len v true) s fun t =>
       t.cfg = s.dev.cfg.apply chg ∧ t.store.journal = journalOf s.dev.cfg chg ∧
         t.store.version = (if s.dev.store.version = 0 then 0 else if 0xFFFFFFFF ≤ s.dev.store.version then 1 else s.dev.store.version + 1) ∧
         t.store.epoch = s.dev.store.epoch + 1 ∧ t.store.valid = (s.dev.store.valid || s.dev.store.version != 0) ∧ t.chamber path = [] ∧
         t.store.results.get 0 path = 0 ∧
         (∀ k, 1 ≤ k ∧ k ≤ 0x29 → s.dev.clockRuns k = true → (t.dom k).capturing = true ∧ t.shadow k = s.dev.shadow k) ∧
         t.parts = s.dev.parts ∧ t.pds = s.dev.pds ∧ t.flash = s.dev.flash ∧ t.otp = s.dev.otp) ∧
  (∀ (path len v e k : Nat) (s : State),
     (Instr.commit path len v true).wellFormed = true →
     s.Ready →
     PathFree s.dev path →
     len = 0 ∨ (len = 4 ∧ v < 2 ^ 32) →
     e ≠ 0 →
     refuseCommit s.dev path (chamberChange (s.dev.chamber path)) (if len = 4 then some v else none) 0x23 true = some (e, k) →
     Carried path (.commit path len v true) s fun t =>
       t = { s.dev with store := storeAnswered s.dev.store path e k [] } ∧ t.cfg = s.dev.cfg ∧ t.chamber path = s.dev.chamber path) ∧
  (∀ (path v : Nat) (s : State),
     (Instr.commit path 0 v true).wellFormed = true →
     s.Ready →
     PathFree s.dev path →
     s.dev.chamber path = [] →
     Carried path (.commit path 0 v true) s fun t =>
       t = { s.dev with store := storeAnswered s.dev.store path 0 0 [] }) ∧
  (∀ (path len v : Nat) (s : State),
     (Instr.revert path len v true).wellFormed = true →
     s.Ready →
     PathFree s.dev path →
     len = 0 ∨ (len = 4 ∧ v < 2 ^ 32) →
     s.dev.store.journal ≠ [] →
     refuseCommit s.dev path s.dev.store.journal (if len = 4 then some v else none) 0x26 true = none →
     Carried path (.revert path len v true) s fun t =>
       t.cfg = s.dev.cfg.apply s.dev.store.journal ∧ t.store.journal = journalOf s.dev.cfg s.dev.store.journal ∧
         t.store.version = (if s.dev.store.version = 0 then 0 else if 0xFFFFFFFF ≤ s.dev.store.version then 1 else s.dev.store.version + 1) ∧
         t.store.epoch = s.dev.store.epoch + 1 ∧ t.store.results.get 0 path = 0 ∧
         (∀ k, 1 ≤ k ∧ k ≤ 0x29 → s.dev.clockRuns k = true → (t.dom k).capturing = true ∧ t.shadow k = s.dev.shadow k) ∧
         t.parts = s.dev.parts ∧ t.pds = s.dev.pds ∧ t.flash = s.dev.flash ∧ t.otp = s.dev.otp) ∧
  (∀ (path v : Nat) (s : State),
     (Instr.revert path 0 v true).wellFormed = true →
     s.Ready →
     PathFree s.dev path →
     s.dev.store.journal = [] →
     Carried path (.revert path 0 v true) s fun t =>
       t = { s.dev with store := storeAnswered s.dev.store path 0x25 0 [] })

/-- SAVE and STORE_ALL start a SAVE of the present version into the target slot, and are refused with 0x30 while
one is in progress; a SAVE whose version has not changed programs the image and ends in state 2, one whose
version has changed starts another attempt, and a flash error ends it in state 3 with 0xE6; a LOAD_SLOT or
RESTORE with a valid slot asks for its load; a load asked for is committed in one transaction. Where the spec
leaves a choice, this follows the model's readings of log entry 25. -/
def Obligations.SavesAndLoads : Prop :=
  (∀ (path : Nat) (s : State),
     (Instr.save path 0 true).wellFormed = true →
     s.Ready →
     PathFree s.dev path →
     s.dev.store.save = none →
     Carried path (.save path 0 true) s fun t =>
       t = { s.dev with store := {
           storeAnswered s.dev.store path 0 0 [] with
           saveState := 1
           save := some {
             target := (saveTarget s.dev).1, seq := (saveTarget s.dev).2, path := path, key := 0
             startVersion := s.dev.store.version, snapshot := s.dev.cfg, attempts := 0
             schema := if s.dev.boot.firmware then some (schemaRange s.dev).2 else none } } }) ∧
  (∀ (path : Nat) (s : State),
     (Instr.save path 0 true).wellFormed = true →
     s.Ready →
     PathFree s.dev path →
     s.dev.store.save ≠ none →
     Carried path (.save path 0 true) s fun t =>
       t = { s.dev with store := storeAnswered s.dev.store path 0x30 0 [] }) ∧
  (∀ (path : Nat) (s : State),
     (Instr.storeAll path 0x65766173).wellFormed = true →
     s.Ready →
     PathFree s.dev path →
     mayWrite s.dev path 0x1010 1 = true →
     s.dev.store.save = none →
     Carried path (.storeAll path 0x65766173) s fun t =>
       t = { s.dev with store := {
           storeAnswered s.dev.store path 0 0 [] with
           saveState := 1
           save := some {
             target := (saveTarget s.dev).1, seq := (saveTarget s.dev).2, path := path, key := okey 0x1010 1
             startVersion := s.dev.store.version, snapshot := s.dev.cfg, attempts := 0
             schema := if s.dev.boot.firmware then some (schemaRange s.dev).2 else none } } }) ∧
  (∀ (j : SaveJob) (s : State),
     (Instr.saveComplete).wellFormed = true →
     s.Ready →
     s.dev.boot.firmware = true →
     s.dev.store.save = some j →
     s.dev.store.version = j.startVersion →
     j.path = 0 →
     Completes (.saveComplete) s fun t =>
       t = { s.dev with
           store := { s.dev.store with save := none, saveState := 2, lastSaved := j.startVersion }
           flash := { s.dev.flash with
             config := s.dev.flash.config.set j.target (imageBytes (schemaRange s.dev).2 j.seq j.startVersion j.snapshot) } }) ∧
  (∀ (j : SaveJob) (s : State),
     (Instr.saveComplete).wellFormed = true →
     s.Ready →
     s.dev.boot.firmware = true →
     s.dev.store.save = some j →
     s.dev.store.version ≠ j.startVersion →
     j.attempts < 3 →
     Completes (.saveComplete) s fun t =>
       t = { s.dev with store := { s.dev.store with
           save := some { j with attempts := j.attempts + 1, startVersion := s.dev.store.version, snapshot := s.dev.cfg } } }) ∧
  (∀ (j : SaveJob) (s : State),
     (Instr.saveFlashError).wellFormed = true →
     s.Ready →
     s.dev.boot.firmware = true →
     s.dev.store.save = some j →
     j.path = 0 →
     s.dev.faults.inj.state ≠ 1 →
     Completes (.saveFlashError) s fun t =>
       t.faults.crossing = s.dev.faults.crossing ++
           [{ src := 0xE6, inst := j.target, part := 0xFF, cause := 0, injected := false }] ∧
         t = { s.dev with
           store := { s.dev.store with save := none, saveState := 3 }
           flash := { s.dev.flash with config := s.dev.flash.config.erase j.target }
           faults := { s.dev.faults with crossing := t.faults.crossing } }) ∧
  (∀ (path slot : Nat) (s : State),
     (Instr.loadSlot path slot).wellFormed = true →
     s.Ready →
     PathFree s.dev path →
     path ≠ 0 →
     1 ≤ slot →
     (s.dev.image (slot - 1)).isSome = true →
     Carried path (.loadSlot path slot) s fun t =>
       t = { s.dev with store := {
           storeAnswered s.dev.store path 0 0 [] with
           loads := s.dev.store.loads ++ [{ slot := slot - 1, path := path, key := okey 0x2008 5 }] } }) ∧
  (∀ (path i : Nat) (s : State),
     (Instr.restore path 0x64616F6C).wellFormed = true →
     s.Ready →
     PathFree s.dev path →
     mayWrite s.dev path 0x1011 1 = true →
     newestSlot s.dev = some i →
     Carried path (.restore path 0x64616F6C) s fun t =>
       t = { s.dev with store := {
           storeAnswered s.dev.store path 0 0 [] with
           loads := s.dev.store.loads ++ [{ slot := i, path := path, key := okey 0x1011 1 }] } }) ∧
  (∀ (path : Nat) (s : State),
     (Instr.restore path 0x64616F6C).wellFormed = true →
     s.Ready →
     PathFree s.dev path →
     mayWrite s.dev path 0x1011 1 = true →
     newestSlot s.dev = none →
     Carried path (.restore path 0x64616F6C) s fun t =>
       t = { s.dev with store := storeAnswered s.dev.store path 0x33 (okey 0x1011 1) [] }) ∧
  (∀ (j : LoadJob) (rest : List LoadJob) (s : State),
     (Instr.imageLoadCommit).wellFormed = true →
     s.Ready →
     s.dev.boot.firmware = true →
     s.dev.store.owner = none →
     s.dev.store.spiPending = false →
     s.dev.store.cut = none →
     s.dev.store.loads = j :: rest →
     j.slot = 2 →
     j.path = 1 →
     allFenced s.dev = true →
     imageChange s.dev.cfg [] ≠ [] →
     refuseCommit s.dev 1 (imageChange s.dev.cfg []) none 0x23 true = none →
     Completes (.imageLoadCommit) s fun t =>
       t.cfg = s.dev.cfg.apply (imageChange s.dev.cfg []) ∧ t.store.loads = rest ∧
         t.store.version = (if s.dev.store.version = 0 then 0 else if 0xFFFFFFFF ≤ s.dev.store.version then 1 else s.dev.store.version + 1) ∧
         t.store.epoch = s.dev.store.epoch + 1 ∧ t.store.journal = journalOf s.dev.cfg (imageChange s.dev.cfg []) ∧
         t.store.results.get 0 1 = 0 ∧ t.store.loadSource = 0 ∧ t.flash = s.dev.flash)

/-- A GO while a request is outstanding sets OVERRUN and nothing else; a GO otherwise leaves the request PENDING with
its frame waiting for the store; a STORE_GRANT that takes the waiting frame of a mailbox, here a DISCARD, ends its
request DONE with the answer of the frame; a CANCEL withdraws a request that is still PENDING; a write of Command and
of MSI-X control sets their bits where nothing is pending; a posted write of a unit register of a wrong size is
discarded with 0x54, a non-posted one has no effect. Where the spec leaves a choice, this follows the model's readings
of log entries 21, 29, 64. -/
def Obligations.MailboxesAndRegisters : Prop :=
  (∀ (f v : Nat) (s : State),
     (Instr.mbGo f v).wellFormed = true →
     s.Ready →
     boxOpen s.dev f = true →
     bitOf v 8 = true →
     bitOf v 9 = false →
     (s.dev.boxes.get {} f).pending = true ∨ (s.dev.boxes.get {} f).active = true →
     Completes (.mbGo f v) s fun t =>
       t.boxes.get {} f = { s.dev.boxes.get {} f with overrun := true } ∧
         (∀ g, g ≠ f → t.boxes.get {} g = s.dev.boxes.get {} g) ∧ t = { s.dev with boxes := t.boxes }) ∧
  (∀ (f v : Nat) (x : Mailbox) (s : State),
     (Instr.mbGo f v).wellFormed = true →
     s.Ready →
     boxOpen s.dev f = true →
     bitOf v 8 = true →
     bitOf v 9 = false →
     s.dev.boxes.get {} f = x →
     x.pending = false →
     x.active = false →
     Completes (.mbGo f v) s fun t =>
       t.boxes.get {} f = { x with
           pending := true, done := false, cancelled := false, overrun := false, seq := v % 256
           key := okey (x.req0 / 65536) (x.req0 / 256 % 256) } ∧
         (∀ g, g ≠ f → t.boxes.get {} g = s.dev.boxes.get {} g) ∧
         t = { s.dev with
           boxes := t.boxes, store := { s.dev.store with waiting := s.dev.store.waiting.set (16 + f) (boxFrame x) } }) ∧
  (∀ (f : Nat) (x : Mailbox) (pre post : Tbl Frame) (s : State),
     (Instr.storeGrant).wellFormed = true →
     s.Ready →
     s.dev.store.owner = none →
     s.dev.store.spiPending = false →
     s.dev.store.cut = none →
     s.dev.boot.firmware = true →
     s.dev.boot.safeHarbour = false →
     s.dev.store.waiting = pre ++ (16 + f, plainFrame 7 0 true) :: post →
     (∀ e, e ∈ pre → pathServed s.dev e.1 = false) →
     s.dev.boxes.get {} f = x →
     x.pending = true ∧ x.active = false ∧ x.ie = false →
     Completes (.storeGrant) s fun t =>
       t.boxes.get {} f = { x with
           pending := false, active := false, done := true, rseq := x.seq, stat := 0, abort := 0, rlen := 0, rspData := [] } ∧
         (∀ g, g ≠ f → t.boxes.get {} g = s.dev.boxes.get {} g) ∧
         t = { s.dev with boxes := t.boxes, store := {
           storeAnswered s.dev.store (16 + f) 0 0 [] with
           waiting := s.dev.store.waiting.erase (16 + f), chambers := s.dev.store.chambers.erase (16 + f) } }) ∧
  (∀ (f v : Nat) (x : Mailbox) (s : State),
     (Instr.mbCancel f v).wellFormed = true →
     s.Ready →
     boxOpen s.dev f = true →
     bitOf v 9 = true →
     bitOf v 8 = false →
     s.dev.boxes.get {} f = x →
     x.pending = true ∧ x.active = false ∧ x.ie = false →
     Completes (.mbCancel f v) s fun t =>
       t.boxes.get {} f = { x with pending := false, cancelled := true, rseq := x.seq } ∧
         (∀ g, g ≠ f → t.boxes.get {} g = s.dev.boxes.get {} g) ∧
         t = { s.dev with
           boxes := t.boxes, store := { s.dev.store with waiting := s.dev.store.waiting.erase (16 + f) } }) ∧
  (∀ (f o : Nat) (posted : Bool) (data : Bytes) (s : State),
     (Instr.registerWrite (.command f) posted o data).wellFormed = true →
     s.Ready →
     configOpen s.dev f = true →
     (s.dev.fn f).table = [] →
     Completes (.registerWrite (.command f) posted o data) s fun t =>
       t.fn f = { s.dev.fn f with bme := bitOf data.toNat 2 } ∧ (∀ g, g ≠ f → t.fn g = s.dev.fn g) ∧
         t = { s.dev with host := { s.dev.host with fn := t.host.fn } }) ∧
  (∀ (f o : Nat) (posted : Bool) (data : Bytes) (s : State),
     (Instr.registerWrite (.msixControl f) posted o data).wellFormed = true →
     s.Ready →
     configOpen s.dev f = true →
     (s.dev.fn f).table = [] →
     Completes (.registerWrite (.msixControl f) posted o data) s fun t =>
       t.fn f = { s.dev.fn f with msixEnable := bitOf data.toNat 15, mask := bitOf data.toNat 14 } ∧
         (∀ g, g ≠ f → t.fn g = s.dev.fn g) ∧ t = { s.dev with host := { s.dev.host with fn := t.host.fn } }) ∧
  (∀ (n o : Nat) (posted : Bool) (data : Bytes) (s : State),
     (Instr.registerWrite (.unit n) posted o data).wellFormed = true →
     s.Ready →
     o < 0x100000 →
     n ≠ 65 →
     regAligned o data.length = false →
     Completes (.registerWrite (.unit n) posted o data) s fun t =>
       (if posted then
           t.faults.crossing.length = s.dev.faults.crossing.length + 1 ∧
             t = { s.dev with nis := t.nis, faults := { s.dev.faults with crossing := t.faults.crossing, inj := t.faults.inj } }
         else t = s.dev)) ∧
  (∀ (f rid o : Nat) (posted : Bool) (data : Bytes) (s : State),
     (Instr.registerWrite (.bar0 f rid false) posted o data).wellFormed = true →
     s.Ready →
     s.dev.door f 0 = .serve →
     0x10000 ≤ o →
     regAligned o data.length = false →
     Completes (.registerWrite (.bar0 f rid false) posted o data) s fun t =>
       t = s.dev)

/-- An NMT command that addresses a running node moves it to Operational, Stopped or Pre-operational and changes
nothing else; a reset command empties the chamber and the waiting frame of path 2, closes the session and sends a
boot-up message; a heartbeat reports the state; both go in classical format; a bus-off counts and raises 0xE9; the
recovery sends a boot-up message and keeps the state. The codes of heartbeat and boot-up follow CiA 1301 (log entry
27, PRESUMED); that a reset keeps the EMCYs that wait is the model's choice (log entry 70). -/
def Obligations.CanNetwork : Prop :=
  (∀ (node : Nat) (s : State),
     (Instr.nmtStart node).wellFormed = true →
     s.Ready →
     nmtMine s.dev node = true →
     Completes (.nmtStart node) s fun t =>
       t = { s.dev with can := { s.dev.can with nmt := .operational } }) ∧
  (∀ (node : Nat) (s : State),
     (Instr.nmtStop node).wellFormed = true →
     s.Ready →
     nmtMine s.dev node = true →
     Completes (.nmtStop node) s fun t =>
       t = { s.dev with can := { s.dev.can with nmt := .stopped } }) ∧
  (∀ (node : Nat) (s : State),
     (Instr.nmtEnterPreOperational node).wellFormed = true →
     s.Ready →
     nmtMine s.dev node = true →
     Completes (.nmtEnterPreOperational node) s fun t =>
       t = { s.dev with can := { s.dev.can with nmt := .preOperational } }) ∧
  (∀ (node : Nat) (s : State),
     (Instr.nmtStart node).wellFormed = true →
     s.Ready →
     nmtMine s.dev node = false →
     Completes (.nmtStart node) s fun t =>
       t = s.dev) ∧
  (∀ (node : Nat) (s : State),
     (Instr.nmtResetCommunication node).wellFormed = true →
     s.Ready →
     nmtMine s.dev node = true →
     s.dev.boot.safeHarbour = false ∨ s.dev.store.valid = true →
     s.dev.cfg.nat 0x1FF0 5 = 1 →
     Completes (.nmtResetCommunication node) s fun t =>
       t.can = { s.dev.can with
           nodeId := s.dev.cfg.nat 0x1FF0 1, dataRate := s.dev.cfg.nat 0x1FF0 2, enabled := true, usdo := none, busOff := false
           nmt := if s.dev.cfg.nat 0x1FF0 3 = 1 ∧ s.dev.boot.safeHarbour = false then .operational else .preOperational
           sent := some { cob := 0x700 + s.dev.cfg.nat 0x1FF0 1, data := [byte 0], fd := false, rate := 1 } } ∧
         t.chamber 2 = [] ∧
         t = { s.dev with can := t.can, store := { s.dev.store with
           chambers := s.dev.store.chambers.erase 2, waiting := s.dev.store.waiting.erase 2 } }) ∧
  (∀ (node : Nat) (s : State),
     (Instr.nmtResetApplication node).wellFormed = true →
     s.Ready →
     nmtMine s.dev node = true →
     s.dev.boot.safeHarbour = false ∨ s.dev.store.valid = true →
     Completes (.nmtResetApplication node) s fun t =>
       t.can = { s.dev.can with
           enabled := s.dev.cfg.nat 0x1FF0 5 == 1, usdo := none, busOff := false
           nmt := if s.dev.cfg.nat 0x1FF0 3 = 1 ∧ s.dev.boot.safeHarbour = false then .operational else .preOperational
           sent := some { cob := 0x700 + s.dev.can.nodeId, data := [byte 0], fd := false, rate := 1 } } ∧
         t.chamber 2 = [] ∧
         t = { s.dev with can := t.can, store := { s.dev.store with
           chambers := s.dev.store.chambers.erase 2, waiting := s.dev.store.waiting.erase 2 } }) ∧
  (∀ (s : State),
     (Instr.heartbeatProduce).wellFormed = true →
     s.Ready →
     canRuns s.dev = true →
     s.dev.cfg.nat 0x1017 0 ≠ 0 →
     Completes (.heartbeatProduce) s fun t =>
       t = { s.dev with can := { s.dev.can with
           sent := some {
             cob := 0x700 + s.dev.can.nodeId, fd := false, rate := 1
             data := [byte (match s.dev.can.nmt with
               | .initialising => 0
               | .preOperational => 127
               | .operational => 5
               | .stopped => 4)] } } }) ∧
  (∀ (s : State),
     (Instr.canBusOff).wellFormed = true →
     s.Ready →
     canRuns s.dev = true →
     s.dev.faults.inj.state ≠ 1 →
     Completes (.canBusOff) s fun t =>
       t.faults.crossing = s.dev.faults.crossing ++ [{ src := 0xE9, inst := 0xFF, part := 0xFF, cause := 0, injected := false }] ∧
         t = { s.dev with
           can := { s.dev.can with busOff := true, busOffs := inc32 s.dev.can.busOffs }
           faults := { s.dev.faults with crossing := t.faults.crossing } }) ∧
  (∀ (s : State),
     (Instr.canBusOffRecovery).wellFormed = true →
     s.Ready →
     s.dev.can.busOff = true →
     Completes (.canBusOffRecovery) s fun t =>
       t = { s.dev with can := { s.dev.can with busOff := false, sent := some { cob := 0x700 + s.dev.can.nodeId, data := [byte 0], fd := false, rate := 1 } } })

/-- An initiate of a long write opens a session; one while a session is open is refused with 0x50; an initiate of a
read presents its frame on path 2, and the STORE_GRANT that takes it sends the value where it fits a frame; a segment
of a write that is not the last is taken; a wrong segment aborts with 0x52, a missing one ends the session with 0x51;
a read longer than a frame is sent in segments; the oldest EMCY is sent and leaves the queue; a due TPDO is sent and
remembered. Where no frame is carried, the store changes only in the result of path 2. Where the spec leaves a choice,
this follows the model's readings of log entries 27, 28. -/
def Obligations.CanTransfers : Prop :=
  (∀ (idx sub total : Nat) (data : Bytes) (s : State),
     (Instr.usdoInitiate true idx sub total data).wellFormed = true →
     s.Ready →
     canServes s.dev = true →
     s.dev.can.usdo = none →
     data.length < total →
     Completes (.usdoInitiate true idx sub total data) s fun t =>
       t = { s.dev with can := { s.dev.can with
           usdo := some { write := true, key := okey idx sub, total := total, data := data, seqNo := 0 }
           sent := some { cob := 0x580 + s.dev.can.nodeId, data := leBytes 4 0, fd := true, rate := s.dev.can.dataRate } } }) ∧
  (∀ (write : Bool) (idx sub total : Nat) (data : Bytes) (u : Usdo) (s : State),
     (Instr.usdoInitiate write idx sub total data).wellFormed = true →
     s.Ready →
     canServes s.dev = true →
     s.dev.can.usdo = some u →
     Completes (.usdoInitiate write idx sub total data) s fun t =>
       t = { s.dev with
           can := { s.dev.can with sent := some { cob := 0x580 + s.dev.can.nodeId, data := leBytes 4 0x08000022, fd := true, rate := s.dev.can.dataRate } }
           store := { s.dev.store with results := s.dev.store.results.set 2 (256 * okey idx sub + 0x50) } }) ∧
  (∀ (idx sub total : Nat) (data : Bytes) (r : ObjRow) (n : Nat) (s : State),
     (Instr.usdoInitiate false idx sub total data).wellFormed = true →
     s.Ready →
     canServes s.dev = true →
     s.dev.can.usdo = none →
     objRow idx sub = some r →
     sub < 256 →
     r.ty.len = some n →
     Completes (.usdoInitiate false idx sub total data) s fun t =>
       t = { s.dev with
           can := { s.dev.can with
             usdo := some { write := false, key := okey idx sub, total := total, data := [], seqNo := 0, busy := true } }
           store := { s.dev.store with
             waiting := s.dev.store.waiting.set 2 (⟨1, idx, sub, n, [], true⟩ : Frame) } }) ∧
  (∀ (idx sub : Nat) (r : ObjRow) (n : Nat) (bs : Bytes) (u : Usdo) (pre post : Tbl Frame) (s : State),
     (Instr.storeGrant).wellFormed = true →
     s.Ready →
     canServes s.dev = true →
     s.dev.store.owner = none →
     s.dev.store.spiPending = false →
     s.dev.store.cut = none →
     s.dev.boot.firmware = true →
     s.dev.boot.safeHarbour = false →
     s.dev.store.waiting = pre ++ (2, { op := 1, idx := idx, sub := sub, len := n, data := [], crcOk := true }) :: post →
     (∀ e, e ∈ pre → pathServed s.dev e.1 = false) →
     s.dev.can.usdo = some u →
     u.busy = true →
     objRow idx sub = some r →
     r.acc ≠ .wo →
     r.ty.len = some n →
     1 ≤ n ∧ n ≤ 56 →
     objectBytes { s.dev with store := {
       s.dev.store with rolledNow := false, waiting := s.dev.store.waiting.erase 2 } } r idx sub = bs →
     bs.length = n →
     Completes (.storeGrant) s fun t =>
       t = { s.dev with
           can := { s.dev.can with
             usdo := none
             sent := some { cob := 0x580 + s.dev.can.nodeId, data := leBytes 4 0 ++ bs, fd := true, rate := s.dev.can.dataRate } }
           store := { storeAnswered s.dev.store 2 0 0 bs with waiting := s.dev.store.waiting.erase 2 } }) ∧
  (∀ (seqNo : Nat) (data : Bytes) (u : Usdo) (s : State),
     (Instr.usdoSegment seqNo data false).wellFormed = true →
     s.Ready →
     canServes s.dev = true →
     s.dev.can.usdo = some u →
     u.busy = false →
     u.write = true →
     seqNo = u.seqNo →
     u.data.length + data.length < u.total →
     Completes (.usdoSegment seqNo data false) s fun t =>
       t = { s.dev with can := { s.dev.can with
           usdo := some { u with data := u.data ++ data, seqNo := (u.seqNo + 1) % 256 }
           sent := some { cob := 0x580 + s.dev.can.nodeId, data := leBytes 4 0, fd := true, rate := s.dev.can.dataRate } } }) ∧
  (∀ (seqNo : Nat) (data : Bytes) (last : Bool) (u : Usdo) (s : State),
     (Instr.usdoSegment seqNo data last).wellFormed = true →
     s.Ready →
     canServes s.dev = true →
     s.dev.can.usdo = some u →
     u.busy = false →
     seqNo ≠ u.seqNo →
     Completes (.usdoSegment seqNo data last) s fun t =>
       t = { s.dev with
           can := { s.dev.can with usdo := none, sent := some { cob := 0x580 + s.dev.can.nodeId, data := leBytes 4 0x05040001, fd := true, rate := s.dev.can.dataRate } }
           store := { s.dev.store with results := s.dev.store.results.set 2 (256 * u.key + 0x52) } }) ∧
  (∀ (seqNo : Nat) (data : Bytes) (last : Bool) (u : Usdo) (s : State),
     (Instr.usdoSegment seqNo data last).wellFormed = true →
     s.Ready →
     canServes s.dev = true →
     s.dev.can.usdo = some u →
     u.busy = false →
     u.write = false →
     seqNo = u.seqNo →
     Completes (.usdoSegment seqNo data last) s fun t =>
       t = { s.dev with can := { s.dev.can with
           usdo := if u.data.length ≤ 60 then none else some { u with data := u.data.drop 60, seqNo := (u.seqNo + 1) % 256 }
           sent := some { cob := 0x580 + s.dev.can.nodeId, data := leBytes 4 0 ++ u.data.take 60, fd := true, rate := s.dev.can.dataRate } } }) ∧
  (∀ (u : Usdo) (s : State),
     (Instr.usdoTimeout).wellFormed = true →
     s.Ready →
     s.dev.can.usdo = some u →
     u.busy = false →
     Completes (.usdoTimeout) s fun t =>
       t = { s.dev with
           can := { s.dev.can with
             usdo := none
             sent := if canServes s.dev then
                 some { cob := 0x580 + s.dev.can.nodeId, data := leBytes 4 0x05040000, fd := true, rate := s.dev.can.dataRate }
               else s.dev.can.sent }
           store := { s.dev.store with results := s.dev.store.results.set 2 (256 * u.key + 0x51) } }) ∧
  (∀ (m : Bytes) (rest : List Bytes) (s : State),
     (Instr.emcyTransmit).wellFormed = true →
     s.Ready →
     canServes s.dev = true →
     s.dev.can.emcy = m :: rest →
     (cobOf s.dev 0x1014 0).2 = false →
     Completes (.emcyTransmit) s fun t =>
       t = { s.dev with can := { s.dev.can with emcy := rest, sent := some { cob := (cobOf s.dev 0x1014 0).1, data := m, fd := true, rate := s.dev.can.dataRate } } }) ∧
  (∀ (k : Nat) (s : State),
     (Instr.tpdoEvent k).wellFormed = true →
     s.Ready →
     canRuns s.dev = true →
     s.dev.can.nmt = .operational →
     (cobOf s.dev (0x1800 + k) 1).2 = false →
     s.dev.cfg.nat (0x1800 + k) 5 ≠ 0 ∨ k ≠ 1 ∧ s.dev.can.tpdo.find? k ≠ some (tpdoPayload s.dev k) →
     s.dev.boot.safeHarbour = false →
     Completes (.tpdoEvent k) s fun t =>
       t.can.tpdo.get [] k = tpdoPayload s.dev k ∧
         t = { s.dev with can := { s.dev.can with
           tpdo := t.can.tpdo, sent := some { cob := (cobOf s.dev (0x1800 + k) 1).1, data := tpdoPayload s.dev k, fd := true, rate := s.dev.can.dataRate } } })

/-- A write of the key to a clear object on a path that may write it, with the store, sets exactly the records and
counters of that object to their reset values and is answered OK; another value is refused with detail 0x06
and changes nothing but the answer. Where the spec leaves a choice, this follows the model's readings of log
entry 24. -/
def Obligations.CounterClears : Prop :=
  (∀ (path : Nat) (s : State),
     (Instr.clearCrossingRecords path 0x6E756C63).wellFormed = true →
     s.Ready →
     PathFree s.dev path →
     mayWrite s.dev path 0x2506 1 = true →
     Carried path (.clearCrossingRecords path 0x6E756C63) s fun t =>
       (∀ k, 1 ≤ k ∧ k ≤ 0x29 → t.dom k = { s.dev.dom k with losses := 0, restarts := 0, longest := 0 }) ∧
         t.store = storeAnswered s.dev.store path 0 0 [] ∧ t = { s.dev with store := t.store, doms := t.doms }) ∧
  (∀ (path v : Nat) (s : State),
     (Instr.clearCrossingRecords path v).wellFormed = true →
     s.Ready →
     PathFree s.dev path →
     mayWrite s.dev path 0x2506 1 = true →
     v ≠ 0x6E756C63 →
     Carried path (.clearCrossingRecords path v) s fun t =>
       t = { s.dev with store := storeAnswered s.dev.store path 0x06 (okey 0x2506 1) [] }) ∧
  (∀ (path : Nat) (s : State),
     (Instr.clearQueueCounters path 0x6E756C63).wellFormed = true →
     s.Ready →
     PathFree s.dev path →
     mayWrite s.dev path 0x2750 1 = true →
     Carried path (.clearQueueCounters path 0x6E756C63) s fun t =>
       (∀ n, t.eng n = { s.dev.eng n with counts := [] }) ∧ t.host.bellCounts = [] ∧
         t.store = storeAnswered s.dev.store path 0 0 [] ∧
         t = { s.dev with store := t.store, queues := { s.dev.queues with se := t.queues.se }, host := { s.dev.host with bellCounts := [] } }) ∧
  (∀ (path : Nat) (s : State),
     (Instr.clearAdmissions path 0x6E756C63).wellFormed = true →
     s.Ready →
     PathFree s.dev path →
     mayWrite s.dev path 0x2806 3 = true →
     Carried path (.clearAdmissions path 0x6E756C63) s fun t =>
       t.store = storeAnswered s.dev.store path 0 0 [] ∧ t = { s.dev with store := t.store, host := { s.dev.host with admissions := [] } }) ∧
  (∀ (path : Nat) (s : State),
     (Instr.clearHostCounters path 0x6E756C63).wellFormed = true →
     s.Ready →
     PathFree s.dev path →
     mayWrite s.dev path 0x2860 1 = true →
     Carried path (.clearHostCounters path 0x6E756C63) s fun t =>
       t.store = storeAnswered s.dev.store path 0 0 [] ∧
         t = { s.dev with store := t.store, host := { s.dev.host with counts := [], placed := 0, dropped := 0, lastDrop := [] } }) ∧
  (∀ (path : Nat) (s : State),
     (Instr.clearConverterCounters path 0x6E756C63).wellFormed = true →
     s.Ready →
     PathFree s.dev path →
     mayWrite s.dev path 0x2A80 1 = true →
     Carried path (.clearConverterCounters path 0x6E756C63) s fun t =>
       (∀ l, l < 24 → t.lane l = if laneOwner (fun _ => s.dev.cfg) l = pathPart path then { s.dev.lane l with crc := 0, badSync := 0, losses := 0 }
           else s.dev.lane l) ∧
         (∀ k, k < 24 → t.link k = if linkOwner s.dev.cfg k = pathPart path then { s.dev.link k with counts := [] } else s.dev.link k) ∧
         t.store = storeAnswered s.dev.store path 0 0 [] ∧ t = { s.dev with store := t.store, conv := { s.dev.conv with lane := t.conv.lane, link := t.conv.link } }) ∧
  (∀ (path : Nat) (s : State),
     (Instr.clearEthernetCounters path 0x6E756C63).wellFormed = true →
     s.Ready →
     PathFree s.dev path →
     mayWrite s.dev path 0x2B70 3 = true →
     Carried path (.clearEthernetCounters path 0x6E756C63) s fun t =>
       (∀ p, p < 4 → t.eport p = { s.dev.eport p with counts := [] }) ∧
         t.store = storeAnswered s.dev.store path 0 0 [] ∧ t = { s.dev with store := t.store, eth := { s.dev.eth with port := t.eth.port } }) ∧
  (∀ (path : Nat) (s : State),
     (Instr.clearOperatorCounters path 0x6E756C63).wellFormed = true →
     s.Ready →
     PathFree s.dev path →
     mayWrite s.dev path 0x2C30 1 = true →
     Carried path (.clearOperatorCounters path 0x6E756C63) s fun t =>
       (∀ n, n < 8 → t.op n = { s.dev.op n with counts := [] }) ∧
         t.store = storeAnswered s.dev.store path 0 0 [] ∧ t = { s.dev with store := t.store, ops := t.ops }) ∧
  (∀ (path : Nat) (s : State),
     (Instr.clearTimingCounters path 0x6E756C63).wellFormed = true →
     s.Ready →
     PathFree s.dev path →
     mayWrite s.dev path 0x2D70 1 = true →
     Carried path (.clearTimingCounters path 0x6E756C63) s fun t =>
       (∀ c, t.line c = { s.dev.line c with counts := [] }) ∧
         t.store = storeAnswered s.dev.store path 0 0 [] ∧
         t = { s.dev with store := t.store, timing := {
           s.dev.timing with
           switches := 0, holdovers := 0, steps := 0, reloads := 0, elections := 0, losses := 0, line := t.timing.line } }) ∧
  (∀ (path : Nat) (s : State),
     (Instr.clearLinkErrorRecords path 0x6E756C63).wellFormed = true →
     s.Ready →
     PathFree s.dev path →
     mayWrite s.dev path 0x2181 1 = true →
     Carried path (.clearLinkErrorRecords path 0x6E756C63) s fun t =>
       (∀ r, t.router r = { s.dev.router r with counts := [] }) ∧
         t.store = storeAnswered s.dev.store path 0 0 [] ∧ t = { s.dev with store := t.store, net := { s.dev.net with cap := {}, routers := t.net.routers } }) ∧
  (∀ (path : Nat) (s : State),
     (Instr.clearBridgeCounters path 0x6E756C63).wellFormed = true →
     s.Ready →
     PathFree s.dev path →
     mayWrite s.dev path 0x2431 1 = true →
     Carried path (.clearBridgeCounters path 0x6E756C63) s fun t =>
       t.store = storeAnswered s.dev.store path 0 0 [] ∧
         t = { s.dev with store := t.store, bridge := { s.dev.bridge with counts := [], errAddr := 0, errSrc := 0, errResp := 0 } }) ∧
  (∀ (path j : Nat) (s : State),
     (Instr.probeClear path j).wellFormed = true →
     s.Ready →
     PathFree s.dev path →
     mayWrite s.dev path (0x2F20 + j) 1 = true →
     Carried path (.probeClear path j) s fun t =>
       t.probe j = {
           s.dev.probe j with packets := 0, flits := 0, records := 0, lost := 0, last := 0, peak := 0, valid := false } ∧
         (∀ i, i ≠ j → t.probe i = s.dev.probe i) ∧
         t.store = storeAnswered s.dev.store path 0 0 [] ∧ t = { s.dev with store := t.store, probes := { s.dev.probes with probe := t.probes.probe } })

/-- The clear of a source empties its state; the clear of all empties every source and the first severe source;
the clear of FAULT_N releases the latches and the reset flag; a field injection of an allowed source arms it,
and one while another is armed is refused with 0x83; a cancel ends an armed injection; a factory injection
needs factory test mode and raises an injected event; an acknowledge with both channels released ends a
latched discrepancy, and is refused with 0x82 otherwise. Where the spec leaves a choice, this follows the
model's readings of log entry 54. -/
def Obligations.FaultObjects : Prop :=
  (∀ (path n : Nat) (s : State),
     (Instr.clearSource path n 0x6E756C63).wellFormed = true →
     s.Ready →
     PathFree s.dev path →
     mayWrite s.dev path (0x4000 + n) 0xC = true →
     (s.dev.source n).severe = false →
     Carried path (.clearSource path n 0x6E756C63) s fun t =>
       t.source n = {} ∧ (∀ i, i ≠ n → t.source i = s.dev.source i) ∧
         t.store = storeAnswered s.dev.store path 0 0 [] ∧ t = { s.dev with store := t.store, faults := { s.dev.faults with src := t.faults.src } }) ∧
  (∀ (path n : Nat) (s : State),
     (Instr.clearSource path n 0x6E756C63).wellFormed = true →
     s.Ready →
     PathFree s.dev path →
     mayWrite s.dev path (0x4000 + n) 0xC = true →
     (s.dev.source n).severe = true →
     s.dev.boot.firmware = true ∧ s.dev.can.enabled = true ∧ s.dev.can.emcy.length < 16 →
     Carried path (.clearSource path n 0x6E756C63) s fun t =>
       t.source n = {} ∧ (∀ i, i ≠ n → t.source i = s.dev.source i) ∧ t.can.emcy.length = s.dev.can.emcy.length + 1 ∧
         t.store = storeAnswered s.dev.store path 0 0 [] ∧ t = { s.dev with store := t.store, can := { s.dev.can with emcy := t.can.emcy }, faults := { s.dev.faults with src := t.faults.src } }) ∧
  (∀ (path : Nat) (s : State),
     (Instr.clearAllSources path 0x6E756C63).wellFormed = true →
     s.Ready →
     PathFree s.dev path →
     mayWrite s.dev path 0x2E03 1 = true →
     s.dev.boot.firmware = false ∨ s.dev.can.enabled = false →
     Carried path (.clearAllSources path 0x6E756C63) s fun t =>
       (∀ e, e ∈ s.dev.faults.src → t.source e.1 = {}) ∧ t.faults.first = 0xFFFF ∧ t.faults.nmis = 0 ∧
         t.store = storeAnswered s.dev.store path 0 0 [] ∧
         t = { s.dev with store := t.store, faults := {
           s.dev.faults with
           src := t.faults.src, first := 0xFFFF, firstRec := [], nmis := 0, skipped := 0, registered := 0 } }) ∧
  (∀ (path : Nat) (s : State),
     (Instr.clearFaultN path 0x6E756C63).wellFormed = true →
     s.Ready →
     PathFree s.dev path →
     mayWrite s.dev path 0x2E01 2 = true →
     Carried path (.clearFaultN path 0x6E756C63) s fun t =>
       (∀ n, t.source n = { s.dev.source n with faultN := false }) ∧ t.faults.resetFlag = false ∧
         (s.dev.faults.everEnabled = true → faultNLow t = false) ∧
         t.store = storeAnswered s.dev.store path 0 0 [] ∧ t = { s.dev with store := t.store, faults := { s.dev.faults with resetFlag := false, src := t.faults.src } }) ∧
  (∀ (path v : Nat) (s : State),
     (Instr.fieldInjection path v).wellFormed = true →
     s.Ready →
     PathFree s.dev path →
     mayWrite s.dev path 0x2E10 1 = true →
     v < 2 ^ 24 →
     (0xA0 ≤ v % 256 ∧ v % 256 ≤ 0xB7) ∨ v / 65536 = 0 →
     fieldInjectable (v % 256) (v / 65536) = true →
     s.dev.faults.inj.state ≠ 1 →
     Carried path (.fieldInjection path v) s fun t =>
       t.store = storeAnswered s.dev.store path 0 0 [] ∧
         t = { s.dev with store := t.store, faults := {
           s.dev.faults with inj := { state := 1, src := v % 256, inst := v / 256 % 256, cause := v / 65536 } } }) ∧
  (∀ (path v : Nat) (s : State),
     (Instr.fieldInjection path v).wellFormed = true →
     s.Ready →
     PathFree s.dev path →
     mayWrite s.dev path 0x2E10 1 = true →
     v < 2 ^ 24 →
     (0xA0 ≤ v % 256 ∧ v % 256 ≤ 0xB7) ∨ v / 65536 = 0 →
     fieldInjectable (v % 256) (v / 65536) = true →
     s.dev.faults.inj.state = 1 →
     Carried path (.fieldInjection path v) s fun t =>
       t = { s.dev with store := storeAnswered s.dev.store path 0x83 (okey 0x2E10 1) [] }) ∧
  (∀ (path v : Nat) (s : State),
     (Instr.fieldInjection path v).wellFormed = true →
     s.Ready →
     PathFree s.dev path →
     mayWrite s.dev path 0x2E10 1 = true →
     v < 2 ^ 24 →
     (0xA0 ≤ v % 256 ∧ v % 256 ≤ 0xB7) ∨ v / 65536 = 0 →
     fieldInjectable (v % 256) (v / 65536) = false →
     Carried path (.fieldInjection path v) s fun t =>
       t = { s.dev with store := storeAnswered s.dev.store path 0x81 (okey 0x2E10 1) [] }) ∧
  (∀ (path v : Nat) (s : State),
     (Instr.cancelInjection path v).wellFormed = true →
     s.Ready →
     PathFree s.dev path →
     mayWrite s.dev path 0x2E10 3 = true →
     s.dev.faults.inj.state = 1 →
     Carried path (.cancelInjection path v) s fun t =>
       t.store = storeAnswered s.dev.store path 0 0 [] ∧
         t = { s.dev with store := t.store, faults := { s.dev.faults with inj := { s.dev.faults.inj with state := 3 } } }) ∧
  (∀ (path v : Nat) (s : State),
     (Instr.factoryInjection path v).wellFormed = true →
     s.Ready →
     PathFree s.dev path →
     mayWrite s.dev path 0x2E11 1 = true →
     s.dev.power.testMode = true ∧ s.dev.otp.testOn = true →
     reservedSource (v % 256) = false →
     s.dev.faults.inj.state ≠ 1 →
     Carried path (.factoryInjection path v) s fun t =>
       t.faults.crossing = s.dev.faults.crossing ++
           [{ src := v % 256, inst := v / 256 % 256, part := 0xFF, cause := 0, injected := true }] ∧
         t.store = storeAnswered s.dev.store path 0 0 [] ∧ t = { s.dev with store := t.store, faults := { s.dev.faults with crossing := t.faults.crossing } }) ∧
  (∀ (path v : Nat) (s : State),
     (Instr.factoryInjection path v).wellFormed = true →
     s.Ready →
     PathFree s.dev path →
     mayWrite s.dev path 0x2E11 1 = true →
     s.dev.power.testMode = false ∨ s.dev.otp.testOn = false →
     Carried path (.factoryInjection path v) s fun t =>
       t = { s.dev with store := storeAnswered s.dev.store path 0x80 (okey 0x2E11 1) [] }) ∧
  (∀ (path : Nat) (s : State),
     (Instr.acknowledgeDiscrepancy path 0x6E756C63).wellFormed = true →
     s.Ready →
     PathFree s.dev path →
     mayWrite s.dev path 0x2E30 3 = true →
     s.dev.inhibit.aLevel = true ∧ s.dev.inhibit.bLevel = false →
     s.dev.inhibit.latched = true →
     Carried path (.acknowledgeDiscrepancy path 0x6E756C63) s fun t =>
       t.store = storeAnswered s.dev.store path 0 0 [] ∧
         t = { s.dev with store := t.store, inhibit := { s.dev.inhibit with latched := false, count := 0 } }) ∧
  (∀ (path : Nat) (s : State),
     (Instr.acknowledgeDiscrepancy path 0x6E756C63).wellFormed = true →
     s.Ready →
     PathFree s.dev path →
     mayWrite s.dev path 0x2E30 3 = true →
     s.dev.inhibit.aLevel = false ∨ s.dev.inhibit.bLevel = true →
     Carried path (.acknowledgeDiscrepancy path 0x6E756C63) s fun t =>
       t = { s.dev with store := storeAnswered s.dev.store path 0x82 (okey 0x2E30 3) [] })

/-- FENCE of a RUNNING partition starts its lock cycle, RESET of a FENCED or RESET_DONE one starts its reset step and
empties the mailbox and the chamber of its path, RELEASE of one starts its release, outside a link-loss reset, and
FENCE of a RELEASING one is refused with 0x60; a unit reset, while no stronger reset runs, holds the unit, and its
crossing captures again; one of a unit that may not be reset is refused with 0x61; FENCE of a RUNNING power domain,
OFF of one that fences, is FENCED or FAILED, ON of one that is OFF or FAILED and RELEASE of a FENCED one change its
state. Other partitions and domains keep theirs. Where the spec leaves a choice, this follows the model's readings of
log entry 38. -/
def Obligations.LockCommands : Prop :=
  (∀ (path p : Nat) (s : State),
     (Instr.partitionFence path p).wellFormed = true →
     s.Ready →
     PathFree s.dev path →
     mayWrite s.dev path (0x2610 + p) 1 = true →
     (s.dev.part p).state = 0 →
     Carried path (.partitionFence path p) s fun t =>
       t.part p = {
           s.dev.part p with state := 1, fenceBit := true, thenReset := false, txIdle := false, startedAt := s.dev.clock.wall } ∧
         (∀ q, q ≠ p → t.part q = s.dev.part q) ∧ t.store = storeAnswered s.dev.store path 0 0 [] ∧ t.doms = s.dev.doms ∧ t.pds = s.dev.pds ∧ t.resets = s.dev.resets ∧
         t.conv = s.dev.conv ∧ t.timing = s.dev.timing) ∧
  (∀ (path p : Nat) (s : State),
     (Instr.partitionFence path p).wellFormed = true →
     s.Ready →
     PathFree s.dev path →
     mayWrite s.dev path (0x2610 + p) 1 = true →
     (s.dev.part p).state = 5 →
     Carried path (.partitionFence path p) s fun t =>
       t = { s.dev with store := storeAnswered s.dev.store path 0x60 (okey (0x2610 + p) 1) [] }) ∧
  (∀ (path p : Nat) (s : State),
     (Instr.partitionReset path p).wellFormed = true →
     s.Ready →
     PathFree s.dev path →
     mayWrite s.dev path (0x2610 + p) 1 = true →
     (s.dev.part p).state = 2 ∨ (s.dev.part p).state = 4 →
     s.dev.resets.linkLoss ≠ 2 →
     Carried path (.partitionReset path p) s fun t =>
       t.part p = { s.dev.part p with state := 3, thenReset := false, fenceBit := true } ∧
         (∀ q, q ≠ p → t.part q = s.dev.part q) ∧ t.boxes = s.dev.boxes.erase p ∧
         t.store = storeAnswered { s.dev.store with
           chambers := s.dev.store.chambers.erase (16 + p), waiting := s.dev.store.waiting.erase (16 + p) } path 0 0 [] ∧
         (∀ u, t.resets.unitHeld.find? u = if mayLeave s.dev u then none else s.dev.resets.unitHeld.find? u) ∧
         t = { s.dev with
           store := t.store, parts := t.parts, boxes := t.boxes, resets := { s.dev.resets with unitHeld := t.resets.unitHeld } }) ∧
  (∀ (path p : Nat) (s : State),
     (Instr.partitionRelease path p).wellFormed = true →
     s.Ready →
     PathFree s.dev path →
     mayWrite s.dev path (0x2610 + p) 1 = true →
     (s.dev.part p).state = 2 ∨ (s.dev.part p).state = 4 →
     s.dev.resets.linkLoss ≠ 2 →
     Carried path (.partitionRelease path p) s fun t =>
       t.part p = { s.dev.part p with state := 5, autoRelease := false, awaitVf := false } ∧
         (∀ q, q ≠ p → t.part q = s.dev.part q) ∧ t.store = storeAnswered s.dev.store path 0 0 [] ∧ t = { s.dev with store := t.store, parts := t.parts }) ∧
  (∀ (path u : Nat) (s : State),
     (Instr.unitReset path u 1).wellFormed = true →
     s.Ready →
     PathFree s.dev path →
     mayWrite s.dev path 0x2602 (u + 1) = true →
     unitResettable u = true →
     strongerRuns s.dev = false →
     Carried path (.unitReset path u 1) s fun t =>
       t.resets.unitHeld.find? u = some false ∧ t.unitUp u = false ∧
         (24 ≤ u → (∀ v, v ≠ u → t.resets.unitHeld.find? v = s.dev.resets.unitHeld.find? v) ∧
           (∀ k, t.dom k = if k = unitDomain s.dev u then { s.dev.dom k with capturing := (s.dev.dom k).running } else s.dev.dom k)) ∧
         t.store = storeAnswered s.dev.store path 0 0 [] ∧ t.parts = s.dev.parts ∧ t.pds = s.dev.pds) ∧
  (∀ (path u : Nat) (s : State),
     (Instr.unitReset path u 1).wellFormed = true →
     s.Ready →
     PathFree s.dev path →
     mayWrite s.dev path 0x2602 (u + 1) = true →
     unitResettable u = false →
     Carried path (.unitReset path u 1) s fun t =>
       t = { s.dev with store := storeAnswered s.dev.store path 0x61 (okey 0x2602 (u + 1)) [] }) ∧
  (∀ (path k : Nat) (s : State),
     (Instr.pdFence path k).wellFormed = true →
     s.Ready →
     PathFree s.dev path →
     mayWrite s.dev path (0x2630 + k) 1 = true →
     (s.dev.pd k).state = 3 →
     Carried path (.pdFence path k) s fun t =>
       t.pd k = { s.dev.pd k with state := 4, offToFollow := false } ∧
         (∀ j, j ≠ k → t.pd j = s.dev.pd j) ∧ t.store = storeAnswered s.dev.store path 0 0 [] ∧ t.doms = s.dev.doms ∧ t.parts = s.dev.parts ∧ t.resets = s.dev.resets) ∧
  (∀ (path k : Nat) (s : State),
     (Instr.pdOff path k).wellFormed = true →
     s.Ready →
     PathFree s.dev path →
     mayWrite s.dev path (0x2630 + k) 1 = true →
     (s.dev.pd k).state = 4 →
     Carried path (.pdOff path k) s fun t =>
       t.pd k = { s.dev.pd k with offToFollow := true } ∧
         (∀ j, j ≠ k → t.pd j = s.dev.pd j) ∧ t.store = storeAnswered s.dev.store path 0 0 [] ∧ t = { s.dev with store := t.store, pds := t.pds }) ∧
  (∀ (path k : Nat) (s : State),
     (Instr.pdOff path k).wellFormed = true →
     s.Ready →
     PathFree s.dev path →
     mayWrite s.dev path (0x2630 + k) 1 = true →
     (s.dev.pd k).state = 2 ∨ (s.dev.pd k).state = 6 →
     Carried path (.pdOff path k) s fun t =>
       (t.pd k).state = 0 ∧ (t.pd k).offToFollow = false ∧ (∀ j, j ≠ k → t.pd j = s.dev.pd j) ∧
         (∀ u, u < 67 → unitPd u = some k → t.unitUp u = false) ∧ t.store = storeAnswered s.dev.store path 0 0 [] ∧ t.parts = s.dev.parts) ∧
  (∀ (path k : Nat) (s : State),
     (Instr.pdOn path k).wellFormed = true →
     s.Ready →
     PathFree s.dev path →
     mayWrite s.dev path (0x2630 + k) 1 = true →
     (s.dev.pd k).state = 0 ∨ (s.dev.pd k).state = 6 →
     Carried path (.pdOn path k) s fun t =>
       t.pd k = { s.dev.pd k with state := 1 } ∧
         (∀ j, j ≠ k → t.pd j = s.dev.pd j) ∧ t.store = storeAnswered s.dev.store path 0 0 [] ∧ t.parts = s.dev.parts ∧
         (2 ≤ k → (∀ c, t.dom c = if c ∈ pdClocks s.dev k then { s.dev.dom c with powerOff := false } else s.dev.dom c) ∧
           t = { s.dev with store := t.store, pds := t.pds, doms := t.doms })) ∧
  (∀ (path k : Nat) (s : State),
     (Instr.pdRelease path k).wellFormed = true →
     s.Ready →
     PathFree s.dev path →
     mayWrite s.dev path (0x2630 + k) 1 = true →
     (s.dev.pd k).state = 2 →
     Carried path (.pdRelease path k) s fun t =>
       t.pd k = { s.dev.pd k with state := 5 } ∧
         (∀ j, j ≠ k → t.pd j = s.dev.pd j) ∧ t.store = storeAnswered s.dev.store path 0 0 [] ∧ t = { s.dev with store := t.store, pds := t.pds })

/-- A write of the time asks every NI and the master to load it, clears the backlog, counts a step and raises 0xC6; a
small adjustment goes into the backlog in counts; a time write that the time source forbids is refused with 0x70; a
re-anchor falls due at the next second; an ARM of an idle probe waits for its start and a STOP ends it; a PTP message
takes the oldest frame of the PTP port, here one that no PTP state machine awaits; an operator unit and the unit of an
NI from 44 on remove the front message of a queue; any unit discards one that SECDED cannot correct and 0x45 is
raised. Where the spec leaves a choice, this follows the model's readings of log entries 39, 47. -/
def Obligations.TimeObjects : Prop :=
  (∀ (path : Nat) (data : Bytes) (s : State),
     (Instr.setTime path data).wellFormed = true →
     s.Ready →
     PathFree s.dev path →
     mayWrite s.dev path 0x2D11 1 = true →
     data.length = 12 →
     data.le 6 4 < 1000000000 ∧ data.le 10 2 = 0 →
     timeWriteRefused s.dev path = false →
     s.dev.timing.pending = none →
     s.dev.faults.inj.state ≠ 1 →
     Carried path (.setTime path data) s fun t =>
       t.timing = { s.dev.timing with
           backlog := 0, valid := max 1 s.dev.timing.valid, steps := inc32 s.dev.timing.steps, lastStep := t.timing.lastStep
           pending := some { master := .load (3 * ((data.le 0 6 * 1000000000 + data.le 6 4 : Nat) : Int) - 2 * (s.dev.clock.edges : Int)), nis := everyNi .load } } ∧
         (t.ni 64).change = some .load ∧ t.faults.crossing = s.dev.faults.crossing ++ [{ src := 0xC6, inst := 0xFF, part := 0xFF, cause := 0, injected := false }] ∧
         t.store = storeAnswered s.dev.store path 0 0 [] ∧
         t = { s.dev with store := t.store, timing := t.timing, nis := t.nis, faults := { s.dev.faults with crossing := t.faults.crossing } }) ∧
  (∀ (path : Nat) (data : Bytes) (s : State),
     (Instr.setTime path data).wellFormed = true →
     s.Ready →
     PathFree s.dev path →
     mayWrite s.dev path 0x2D11 1 = true →
     data.length = 12 →
     data.le 6 4 < 1000000000 ∧ data.le 10 2 = 0 →
     timeWriteRefused s.dev path = true →
     Carried path (.setTime path data) s fun t =>
       t = { s.dev with store := storeAnswered s.dev.store path 0x70 (okey 0x2D11 1) [] }) ∧
  (∀ (path : Nat) (x : Int) (s : State),
     (Instr.adjustTime path x).wellFormed = true →
     s.Ready →
     PathFree s.dev path →
     mayWrite s.dev path 0x2D11 2 = true →
     timeWriteRefused s.dev path = false →
     x.natAbs ≤ s.dev.tcfg.nat 0x2D10 4 →
     Carried path (.adjustTime path x) s fun t =>
       t.store = storeAnswered s.dev.store path 0 0 [] ∧
         t = { s.dev with store := t.store, timing := {
           s.dev.timing with backlog := s.dev.timing.backlog +
             (if x < 0 then -((3 * x.natAbs + 1) / 2 : Nat) else ((3 * x.natAbs + 1) / 2 : Nat) : Int) } }) ∧
  (∀ (path v : Nat) (s : State),
     (Instr.setUtc path v).wellFormed = true →
     s.Ready →
     PathFree s.dev path →
     mayWrite s.dev path 0x2D20 2 = true →
     calendarOk v = true →
     timeWriteRefused s.dev path = false →
     s.dev.timing.pending = none →
     s.dev.faults.inj.state ≠ 1 →
     Carried path (.setUtc path v) s fun t =>
       t.timing = { s.dev.timing with
           backlog := 0, valid := max 1 s.dev.timing.valid, steps := inc32 s.dev.timing.steps, lastStep := t.timing.lastStep
           pending := some { master := .load (3 * ((calendarTai s.dev.tcfg v * 1000000000 : Nat) : Int) - 2 * (s.dev.clock.edges : Int)), nis := everyNi .load } } ∧
         (t.ni 64).change = some .load ∧ t.faults.crossing = s.dev.faults.crossing ++ [{ src := 0xC6, inst := 0xFF, part := 0xFF, cause := 0, injected := false }] ∧
         t.store = storeAnswered s.dev.store path 0 0 [] ∧
         t = { s.dev with store := t.store, timing := t.timing, nis := t.nis, faults := { s.dev.faults with crossing := t.faults.crossing } }) ∧
  (∀ (path v : Nat) (s : State),
     (Instr.setUtc path v).wellFormed = true →
     s.Ready →
     PathFree s.dev path →
     mayWrite s.dev path 0x2D20 2 = true →
     calendarOk v = false →
     Carried path (.setUtc path v) s fun t =>
       t = { s.dev with store := storeAnswered s.dev.store path 0x06 (okey 0x2D20 2) [] }) ∧
  (∀ (path k : Nat) (s : State),
     (Instr.sysrefReanchor path k 0x6E756C63).wellFormed = true →
     s.Ready →
     PathFree s.dev path →
     mayWrite s.dev path (0x2D40 + k) 7 = true →
     Carried path (.sysrefReanchor path k 0x6E756C63) s fun t =>
       t.timing.out k = { s.dev.timing.out k with anchorAt := some (s.dev.timeNow.1 + 1) } ∧
         (∀ j, j ≠ k → t.timing.out j = s.dev.timing.out j) ∧
         t.store = storeAnswered s.dev.store path 0 0 [] ∧ t = { s.dev with store := t.store, timing := { s.dev.timing with sysref := t.timing.sysref } }) ∧
  (∀ (path j : Nat) (s : State),
     (Instr.probeArm path j).wellFormed = true →
     s.Ready →
     PathFree s.dev path →
     mayWrite s.dev path (0x2F20 + j) 1 = true →
     (s.dev.probe j).state = 0 ∨ (s.dev.probe j).state = 3 →
     s.dev.probeCfg j 0xB ≠ 0 →
     Carried path (.probeArm path j) s fun t =>
       t.probe j = { s.dev.probe j with state := 1, startSeen := false, stopSeen := false } ∧
         (∀ i, i ≠ j → t.probe i = s.dev.probe i) ∧ t.store = storeAnswered s.dev.store path 0 0 [] ∧ t = { s.dev with store := t.store, probes := { s.dev.probes with probe := t.probes.probe } }) ∧
  (∀ (path j : Nat) (s : State),
     (Instr.probeStop path j).wellFormed = true →
     s.Ready →
     PathFree s.dev path →
     mayWrite s.dev path (0x2F20 + j) 1 = true →
     (s.dev.probe j).state = 1 ∨ (s.dev.probe j).state = 2 →
     Carried path (.probeStop path j) s fun t =>
       t.probe j = { s.dev.probe j with state := 3, interval := 0 } ∧
         (∀ i, i ≠ j → t.probe i = s.dev.probe i) ∧ t.store = storeAnswered s.dev.store path 0 0 [] ∧ t = { s.dev with store := t.store, probes := { s.dev.probes with probe := t.probes.probe } }) ∧
  (∀ (st delay p : Nat) (off adj : Int) (f : FwFrame) (rest : List FwFrame) (s : State),
     (Instr.ptpMessage st off delay adj).wellFormed = true →
     s.Ready →
     s.dev.boot.firmware = true →
     s.dev.tcfg.nat 0x2D12 1 = p →
     (s.dev.eport p).toFw = f :: rest →
     4 ≤ p ∨ ptpWanted s.dev f.frame = false →
     Completes (.ptpMessage st off delay adj) s fun t =>
       t.eport p = { s.dev.eport p with toFw := rest } ∧ (∀ i, i ≠ p → t.eport i = s.dev.eport i) ∧
         t = { s.dev with eth := { s.dev.eth with port := t.eth.port } }) ∧
  (∀ (n q : Nat) (m : Packet) (rest : List Packet) (s : State),
     (Instr.mqDequeue n q .none).wellFormed = true →
     s.Ready →
     (s.dev.ni n).mq.get [] q = m :: rest →
     s.dev.unitUp n = true →
     32 ≤ n ∧ n < 40 ∨ 44 ≤ n →
     Completes (.mqDequeue n q .none) s fun t =>
       (t.ni n).mq.get [] q = rest ∧ (∀ i, i ≠ q → (t.ni n).mq.get [] i = (s.dev.ni n).mq.get [] i) ∧
         (t.ni n).tags = (s.dev.ni n).tags ∧ NiOnly s.dev t n ∧ t = { s.dev with nis := t.nis }) ∧
  (∀ (n q : Nat) (m : Packet) (rest : List Packet) (s : State),
     (Instr.mqDequeue n q .uncorrectable).wellFormed = true →
     s.Ready →
     (s.dev.ni n).mq.get [] q = m :: rest →
     s.dev.unitUp n = true →
     s.dev.faults.inj.state ≠ 1 →
     Completes (.mqDequeue n q .uncorrectable) s fun t =>
       (t.ni n).mq.get [] q = rest ∧ NiOnly s.dev t n ∧
         t.faults.crossing = s.dev.faults.crossing ++ [{ src := 0x45, inst := n, part := m.part, cause := 0, injected := false }] ∧
         t = { s.dev with nis := t.nis, faults := { s.dev.faults with crossing := t.faults.crossing } })

/-- OPEN of an idle update erases the slot that does not run and takes the path; update data is appended to the
receive buffer after what has been programmed; VERIFY of a receiving update starts the check; CANCEL returns
it to idle; ACTIVATE of a verified image whose schema range holds the active schema, and ACTIVATE_FORCE
without that check, write the trial into the boot record and return to idle; RESTART of an idle update waits
for its delay; a command in another state is refused with 0x90, by another path with 0x91. Where the spec
leaves a choice, this follows the model's readings of log entry 58. -/
def Obligations.UpdateObjects : Prop :=
  (∀ (path : Nat) (s : State),
     (Instr.openUpdate path).wellFormed = true →
     s.Ready →
     PathFree s.dev path →
     mayWrite s.dev path 0x1F51 1 = true →
     s.dev.boot.update = 0 ∨ s.dev.boot.update = 4 ∨ s.dev.boot.update = 5 →
     s.dev.boot.path = 0xFF ∨ s.dev.boot.path = path →
     s.dev.boot.running < 2 →
     Carried path (.openUpdate path) s fun t =>
       t.boot = { s.dev.boot with
           update := 1, received := 0, path := path, target := 1 - s.dev.boot.running, buffer := [] } ∧
         t.fwSlot (1 - s.dev.boot.running) = [] ∧ t.fwSlot s.dev.boot.running = s.dev.fwSlot s.dev.boot.running ∧
         t.store = storeAnswered s.dev.store path 0 0 [] ∧ t = { s.dev with store := t.store, boot := t.boot, flash := { s.dev.flash with firmware := t.flash.firmware } }) ∧
  (∀ (path : Nat) (s : State),
     (Instr.openUpdate path).wellFormed = true →
     s.Ready →
     PathFree s.dev path →
     mayWrite s.dev path 0x1F51 1 = true →
     s.dev.boot.update = 1 ∨ s.dev.boot.update = 2 ∨ s.dev.boot.update = 3 →
     Carried path (.openUpdate path) s fun t =>
       t = { s.dev with store := storeAnswered s.dev.store path 0x90 (okey 0x1F51 1) [] }) ∧
  (∀ (path : Nat) (s : State),
     (Instr.openUpdate path).wellFormed = true →
     s.Ready →
     PathFree s.dev path →
     mayWrite s.dev path 0x1F51 1 = true →
     s.dev.boot.update = 4 ∨ s.dev.boot.update = 5 →
     s.dev.boot.path ≠ 0xFF ∧ s.dev.boot.path ≠ path →
     Carried path (.openUpdate path) s fun t =>
       t = { s.dev with store := storeAnswered s.dev.store path 0x91 (okey 0x1F51 1) [] }) ∧
  (∀ (path n : Nat) (data : Bytes) (s : State),
     (Instr.updateData path data n).wellFormed = true →
     s.Ready →
     PathFree s.dev path →
     mayWrite s.dev path 0x1F50 1 = true →
     1 ≤ data.length ∧ data.length ≤ 256 →
     s.dev.boot.update = 2 →
     s.dev.boot.path = 0xFF ∨ s.dev.boot.path = path →
     (s.dev.boot.buffer.drop n).length + data.length ≤ 65536 →
     s.dev.boot.received + data.length ≤ 4194304 →
     Carried path (.updateData path data n) s fun t =>
       t.boot = { s.dev.boot with
           buffer := s.dev.boot.buffer.drop n ++ data, received := s.dev.boot.received + data.length } ∧
         t.fwSlot s.dev.boot.target = s.dev.fwSlot s.dev.boot.target ++ s.dev.boot.buffer.take n ∧
         t.store = storeAnswered s.dev.store path 0 0 [] ∧ t = { s.dev with store := t.store, boot := t.boot, flash := { s.dev.flash with firmware := t.flash.firmware } }) ∧
  (∀ (path : Nat) (s : State),
     (Instr.verify path).wellFormed = true →
     s.Ready →
     PathFree s.dev path →
     mayWrite s.dev path 0x1F51 1 = true →
     s.dev.boot.update = 2 →
     s.dev.boot.path = 0xFF ∨ s.dev.boot.path = path →
     Carried path (.verify path) s fun t =>
       t.store = storeAnswered s.dev.store path 0 0 [] ∧ t = { s.dev with store := t.store, boot := { s.dev.boot with update := 3 } }) ∧
  (∀ (path : Nat) (s : State),
     (Instr.cancel path).wellFormed = true →
     s.Ready →
     PathFree s.dev path →
     mayWrite s.dev path 0x1F51 1 = true →
     s.dev.boot.update ≠ 0 →
     s.dev.boot.path = 0xFF ∨ s.dev.boot.path = path →
     Carried path (.cancel path) s fun t =>
       t.store = storeAnswered s.dev.store path 0 0 [] ∧
         t = { s.dev with store := t.store, boot := { s.dev.boot with update := 0, path := 0xFF, target := 0xFF, buffer := [] } }) ∧
  (∀ (path : Nat) (s : State),
     (Instr.activate path).wellFormed = true →
     s.Ready →
     PathFree s.dev path →
     mayWrite s.dev path 0x1F51 1 = true →
     s.dev.boot.update = 4 →
     s.dev.boot.path = 0xFF ∨ s.dev.boot.path = path →
     Bytes.le (s.dev.fwSlot s.dev.boot.target) 28 2 ≤ s.dev.store.schema ∧ s.dev.store.schema ≤ Bytes.le (s.dev.fwSlot s.dev.boot.target) 30 2 →
     Carried path (.activate path) s fun t =>
       t.record = { s.dev.record with trial := s.dev.boot.target, attempts := 1 } ∧
         t.store = storeAnswered s.dev.store path 0 0 [] ∧
         t = { s.dev with store := t.store, boot := { s.dev.boot with update := 0, path := 0xFF, target := 0xFF }, flash := { s.dev.flash with record := t.flash.record } }) ∧
  (∀ (path : Nat) (s : State),
     (Instr.activateForce path).wellFormed = true →
     s.Ready →
     PathFree s.dev path →
     mayWrite s.dev path 0x1F51 1 = true →
     s.dev.boot.update = 4 →
     s.dev.boot.path = 0xFF ∨ s.dev.boot.path = path →
     Carried path (.activateForce path) s fun t =>
       t.record = { s.dev.record with trial := s.dev.boot.target, attempts := 1 } ∧
         t.store = storeAnswered s.dev.store path 0 0 [] ∧
         t = { s.dev with store := t.store, boot := { s.dev.boot with update := 0, path := 0xFF, target := 0xFF }, flash := { s.dev.flash with record := t.flash.record } }) ∧
  (∀ (path : Nat) (s : State),
     (Instr.rollback path).wellFormed = true →
     s.Ready →
     PathFree s.dev path →
     mayWrite s.dev path 0x1F51 1 = true →
     s.dev.boot.update = 0 →
     Carried path (.rollback path) s fun t =>
       (if s.dev.boot.running < 2 ∧ candidate s.dev (1 - s.dev.boot.running) = true then
           t.record = { s.dev.record with pin := 1 - s.dev.boot.running, trial := 0xFF } ∧
             t.store = storeAnswered s.dev.store path 0 0 [] ∧ t = { s.dev with store := t.store, flash := { s.dev.flash with record := t.flash.record } }
         else t = { s.dev with store := storeAnswered s.dev.store path 0x99 (okey 0x1F51 1) [] })) ∧
  (∀ (path : Nat) (s : State),
     (Instr.restart path).wellFormed = true →
     s.Ready →
     PathFree s.dev path →
     mayWrite s.dev path 0x1F51 1 = true →
     s.dev.boot.update = 0 →
     Carried path (.restart path) s fun t =>
       t.store = storeAnswered s.dev.store path 0 0 [] ∧ t = { s.dev with store := t.store, boot := { s.dev.boot with restart := true } })
end

