-- ==== Sys2Proof/Laws/State.lean ====
section
/-! SUPPORT. What each named update of the device leaves alone: one lemma per field per update, true by rfl. -/
namespace Sys2Proof.Machine

/-! `Dev.onClock` changes `clock`. -/

@[simp] theorem Dev.onClock_clock (f : Clock → Clock) (d : Dev) : (d.onClock f).clock = f d.clock := rfl
@[simp] theorem Dev.onClock_power (f : Clock → Clock) (d : Dev) : (d.onClock f).power = d.power := rfl
@[simp] theorem Dev.onClock_free (f : Clock → Clock) (d : Dev) : (d.onClock f).free = d.free := rfl
@[simp] theorem Dev.onClock_store (f : Clock → Clock) (d : Dev) : (d.onClock f).store = d.store := rfl
@[simp] theorem Dev.onClock_boxes (f : Clock → Clock) (d : Dev) : (d.onClock f).boxes = d.boxes := rfl
@[simp] theorem Dev.onClock_can (f : Clock → Clock) (d : Dev) : (d.onClock f).can = d.can := rfl
@[simp] theorem Dev.onClock_faults (f : Clock → Clock) (d : Dev) : (d.onClock f).faults = d.faults := rfl
@[simp] theorem Dev.onClock_inhibit (f : Clock → Clock) (d : Dev) : (d.onClock f).inhibit = d.inhibit := rfl
@[simp] theorem Dev.onClock_monitors (f : Clock → Clock) (d : Dev) : (d.onClock f).monitors = d.monitors := rfl
@[simp] theorem Dev.onClock_parts (f : Clock → Clock) (d : Dev) : (d.onClock f).parts = d.parts := rfl
@[simp] theorem Dev.onClock_pds (f : Clock → Clock) (d : Dev) : (d.onClock f).pds = d.pds := rfl
@[simp] theorem Dev.onClock_resets (f : Clock → Clock) (d : Dev) : (d.onClock f).resets = d.resets := rfl
@[simp] theorem Dev.onClock_net (f : Clock → Clock) (d : Dev) : (d.onClock f).net = d.net := rfl
@[simp] theorem Dev.onClock_nis (f : Clock → Clock) (d : Dev) : (d.onClock f).nis = d.nis := rfl
@[simp] theorem Dev.onClock_probes (f : Clock → Clock) (d : Dev) : (d.onClock f).probes = d.probes := rfl
@[simp] theorem Dev.onClock_ddr (f : Clock → Clock) (d : Dev) : (d.onClock f).ddr = d.ddr := rfl
@[simp] theorem Dev.onClock_doms (f : Clock → Clock) (d : Dev) : (d.onClock f).doms = d.doms := rfl
@[simp] theorem Dev.onClock_matrix (f : Clock → Clock) (d : Dev) : (d.onClock f).matrix = d.matrix := rfl
@[simp] theorem Dev.onClock_bridge (f : Clock → Clock) (d : Dev) : (d.onClock f).bridge = d.bridge := rfl
@[simp] theorem Dev.onClock_queues (f : Clock → Clock) (d : Dev) : (d.onClock f).queues = d.queues := rfl
@[simp] theorem Dev.onClock_host (f : Clock → Clock) (d : Dev) : (d.onClock f).host = d.host := rfl
@[simp] theorem Dev.onClock_conv (f : Clock → Clock) (d : Dev) : (d.onClock f).conv = d.conv := rfl
@[simp] theorem Dev.onClock_boot (f : Clock → Clock) (d : Dev) : (d.onClock f).boot = d.boot := rfl
@[simp] theorem Dev.onClock_eth (f : Clock → Clock) (d : Dev) : (d.onClock f).eth = d.eth := rfl
@[simp] theorem Dev.onClock_ops (f : Clock → Clock) (d : Dev) : (d.onClock f).ops = d.ops := rfl
@[simp] theorem Dev.onClock_timing (f : Clock → Clock) (d : Dev) : (d.onClock f).timing = d.timing := rfl
@[simp] theorem Dev.onClock_flash (f : Clock → Clock) (d : Dev) : (d.onClock f).flash = d.flash := rfl
@[simp] theorem Dev.onClock_otp (f : Clock → Clock) (d : Dev) : (d.onClock f).otp = d.otp := rfl
@[simp] theorem Dev.onClock_mem (f : Clock → Clock) (d : Dev) : (d.onClock f).mem = d.mem := rfl
@[simp] theorem Dev.onClock_undef (f : Clock → Clock) (d : Dev) : (d.onClock f).undef = d.undef := rfl
@[simp] theorem Dev.onClock_bus (f : Clock → Clock) (d : Dev) : (d.onClock f).bus = d.bus := rfl

/-! `Dev.onPower` changes `power`. -/

@[simp] theorem Dev.onPower_clock (f : Power → Power) (d : Dev) : (d.onPower f).clock = d.clock := rfl
@[simp] theorem Dev.onPower_power (f : Power → Power) (d : Dev) : (d.onPower f).power = f d.power := rfl
@[simp] theorem Dev.onPower_free (f : Power → Power) (d : Dev) : (d.onPower f).free = d.free := rfl
@[simp] theorem Dev.onPower_store (f : Power → Power) (d : Dev) : (d.onPower f).store = d.store := rfl
@[simp] theorem Dev.onPower_boxes (f : Power → Power) (d : Dev) : (d.onPower f).boxes = d.boxes := rfl
@[simp] theorem Dev.onPower_can (f : Power → Power) (d : Dev) : (d.onPower f).can = d.can := rfl
@[simp] theorem Dev.onPower_faults (f : Power → Power) (d : Dev) : (d.onPower f).faults = d.faults := rfl
@[simp] theorem Dev.onPower_inhibit (f : Power → Power) (d : Dev) : (d.onPower f).inhibit = d.inhibit := rfl
@[simp] theorem Dev.onPower_monitors (f : Power → Power) (d : Dev) : (d.onPower f).monitors = d.monitors := rfl
@[simp] theorem Dev.onPower_parts (f : Power → Power) (d : Dev) : (d.onPower f).parts = d.parts := rfl
@[simp] theorem Dev.onPower_pds (f : Power → Power) (d : Dev) : (d.onPower f).pds = d.pds := rfl
@[simp] theorem Dev.onPower_resets (f : Power → Power) (d : Dev) : (d.onPower f).resets = d.resets := rfl
@[simp] theorem Dev.onPower_net (f : Power → Power) (d : Dev) : (d.onPower f).net = d.net := rfl
@[simp] theorem Dev.onPower_nis (f : Power → Power) (d : Dev) : (d.onPower f).nis = d.nis := rfl
@[simp] theorem Dev.onPower_probes (f : Power → Power) (d : Dev) : (d.onPower f).probes = d.probes := rfl
@[simp] theorem Dev.onPower_ddr (f : Power → Power) (d : Dev) : (d.onPower f).ddr = d.ddr := rfl
@[simp] theorem Dev.onPower_doms (f : Power → Power) (d : Dev) : (d.onPower f).doms = d.doms := rfl
@[simp] theorem Dev.onPower_matrix (f : Power → Power) (d : Dev) : (d.onPower f).matrix = d.matrix := rfl
@[simp] theorem Dev.onPower_bridge (f : Power → Power) (d : Dev) : (d.onPower f).bridge = d.bridge := rfl
@[simp] theorem Dev.onPower_queues (f : Power → Power) (d : Dev) : (d.onPower f).queues = d.queues := rfl
@[simp] theorem Dev.onPower_host (f : Power → Power) (d : Dev) : (d.onPower f).host = d.host := rfl
@[simp] theorem Dev.onPower_conv (f : Power → Power) (d : Dev) : (d.onPower f).conv = d.conv := rfl
@[simp] theorem Dev.onPower_boot (f : Power → Power) (d : Dev) : (d.onPower f).boot = d.boot := rfl
@[simp] theorem Dev.onPower_eth (f : Power → Power) (d : Dev) : (d.onPower f).eth = d.eth := rfl
@[simp] theorem Dev.onPower_ops (f : Power → Power) (d : Dev) : (d.onPower f).ops = d.ops := rfl
@[simp] theorem Dev.onPower_timing (f : Power → Power) (d : Dev) : (d.onPower f).timing = d.timing := rfl
@[simp] theorem Dev.onPower_flash (f : Power → Power) (d : Dev) : (d.onPower f).flash = d.flash := rfl
@[simp] theorem Dev.onPower_otp (f : Power → Power) (d : Dev) : (d.onPower f).otp = d.otp := rfl
@[simp] theorem Dev.onPower_mem (f : Power → Power) (d : Dev) : (d.onPower f).mem = d.mem := rfl
@[simp] theorem Dev.onPower_undef (f : Power → Power) (d : Dev) : (d.onPower f).undef = d.undef := rfl
@[simp] theorem Dev.onPower_bus (f : Power → Power) (d : Dev) : (d.onPower f).bus = d.bus := rfl

/-! `Dev.onFree` changes `free`. -/

@[simp] theorem Dev.onFree_clock (f : Nat → Nat) (d : Dev) : (d.onFree f).clock = d.clock := rfl
@[simp] theorem Dev.onFree_power (f : Nat → Nat) (d : Dev) : (d.onFree f).power = d.power := rfl
@[simp] theorem Dev.onFree_free (f : Nat → Nat) (d : Dev) : (d.onFree f).free = f d.free := rfl
@[simp] theorem Dev.onFree_store (f : Nat → Nat) (d : Dev) : (d.onFree f).store = d.store := rfl
@[simp] theorem Dev.onFree_boxes (f : Nat → Nat) (d : Dev) : (d.onFree f).boxes = d.boxes := rfl
@[simp] theorem Dev.onFree_can (f : Nat → Nat) (d : Dev) : (d.onFree f).can = d.can := rfl
@[simp] theorem Dev.onFree_faults (f : Nat → Nat) (d : Dev) : (d.onFree f).faults = d.faults := rfl
@[simp] theorem Dev.onFree_inhibit (f : Nat → Nat) (d : Dev) : (d.onFree f).inhibit = d.inhibit := rfl
@[simp] theorem Dev.onFree_monitors (f : Nat → Nat) (d : Dev) : (d.onFree f).monitors = d.monitors := rfl
@[simp] theorem Dev.onFree_parts (f : Nat → Nat) (d : Dev) : (d.onFree f).parts = d.parts := rfl
@[simp] theorem Dev.onFree_pds (f : Nat → Nat) (d : Dev) : (d.onFree f).pds = d.pds := rfl
@[simp] theorem Dev.onFree_resets (f : Nat → Nat) (d : Dev) : (d.onFree f).resets = d.resets := rfl
@[simp] theorem Dev.onFree_net (f : Nat → Nat) (d : Dev) : (d.onFree f).net = d.net := rfl
@[simp] theorem Dev.onFree_nis (f : Nat → Nat) (d : Dev) : (d.onFree f).nis = d.nis := rfl
@[simp] theorem Dev.onFree_probes (f : Nat → Nat) (d : Dev) : (d.onFree f).probes = d.probes := rfl
@[simp] theorem Dev.onFree_ddr (f : Nat → Nat) (d : Dev) : (d.onFree f).ddr = d.ddr := rfl
@[simp] theorem Dev.onFree_doms (f : Nat → Nat) (d : Dev) : (d.onFree f).doms = d.doms := rfl
@[simp] theorem Dev.onFree_matrix (f : Nat → Nat) (d : Dev) : (d.onFree f).matrix = d.matrix := rfl
@[simp] theorem Dev.onFree_bridge (f : Nat → Nat) (d : Dev) : (d.onFree f).bridge = d.bridge := rfl
@[simp] theorem Dev.onFree_queues (f : Nat → Nat) (d : Dev) : (d.onFree f).queues = d.queues := rfl
@[simp] theorem Dev.onFree_host (f : Nat → Nat) (d : Dev) : (d.onFree f).host = d.host := rfl
@[simp] theorem Dev.onFree_conv (f : Nat → Nat) (d : Dev) : (d.onFree f).conv = d.conv := rfl
@[simp] theorem Dev.onFree_boot (f : Nat → Nat) (d : Dev) : (d.onFree f).boot = d.boot := rfl
@[simp] theorem Dev.onFree_eth (f : Nat → Nat) (d : Dev) : (d.onFree f).eth = d.eth := rfl
@[simp] theorem Dev.onFree_ops (f : Nat → Nat) (d : Dev) : (d.onFree f).ops = d.ops := rfl
@[simp] theorem Dev.onFree_timing (f : Nat → Nat) (d : Dev) : (d.onFree f).timing = d.timing := rfl
@[simp] theorem Dev.onFree_flash (f : Nat → Nat) (d : Dev) : (d.onFree f).flash = d.flash := rfl
@[simp] theorem Dev.onFree_otp (f : Nat → Nat) (d : Dev) : (d.onFree f).otp = d.otp := rfl
@[simp] theorem Dev.onFree_mem (f : Nat → Nat) (d : Dev) : (d.onFree f).mem = d.mem := rfl
@[simp] theorem Dev.onFree_undef (f : Nat → Nat) (d : Dev) : (d.onFree f).undef = d.undef := rfl
@[simp] theorem Dev.onFree_bus (f : Nat → Nat) (d : Dev) : (d.onFree f).bus = d.bus := rfl

/-! `Dev.onStore` changes `store`. -/

@[simp] theorem Dev.onStore_clock (f : Store → Store) (d : Dev) : (d.onStore f).clock = d.clock := rfl
@[simp] theorem Dev.onStore_power (f : Store → Store) (d : Dev) : (d.onStore f).power = d.power := rfl
@[simp] theorem Dev.onStore_free (f : Store → Store) (d : Dev) : (d.onStore f).free = d.free := rfl
@[simp] theorem Dev.onStore_store (f : Store → Store) (d : Dev) : (d.onStore f).store = f d.store := rfl
@[simp] theorem Dev.onStore_boxes (f : Store → Store) (d : Dev) : (d.onStore f).boxes = d.boxes := rfl
@[simp] theorem Dev.onStore_can (f : Store → Store) (d : Dev) : (d.onStore f).can = d.can := rfl
@[simp] theorem Dev.onStore_faults (f : Store → Store) (d : Dev) : (d.onStore f).faults = d.faults := rfl
@[simp] theorem Dev.onStore_inhibit (f : Store → Store) (d : Dev) : (d.onStore f).inhibit = d.inhibit := rfl
@[simp] theorem Dev.onStore_monitors (f : Store → Store) (d : Dev) : (d.onStore f).monitors = d.monitors := rfl
@[simp] theorem Dev.onStore_parts (f : Store → Store) (d : Dev) : (d.onStore f).parts = d.parts := rfl
@[simp] theorem Dev.onStore_pds (f : Store → Store) (d : Dev) : (d.onStore f).pds = d.pds := rfl
@[simp] theorem Dev.onStore_resets (f : Store → Store) (d : Dev) : (d.onStore f).resets = d.resets := rfl
@[simp] theorem Dev.onStore_net (f : Store → Store) (d : Dev) : (d.onStore f).net = d.net := rfl
@[simp] theorem Dev.onStore_nis (f : Store → Store) (d : Dev) : (d.onStore f).nis = d.nis := rfl
@[simp] theorem Dev.onStore_probes (f : Store → Store) (d : Dev) : (d.onStore f).probes = d.probes := rfl
@[simp] theorem Dev.onStore_ddr (f : Store → Store) (d : Dev) : (d.onStore f).ddr = d.ddr := rfl
@[simp] theorem Dev.onStore_doms (f : Store → Store) (d : Dev) : (d.onStore f).doms = d.doms := rfl
@[simp] theorem Dev.onStore_matrix (f : Store → Store) (d : Dev) : (d.onStore f).matrix = d.matrix := rfl
@[simp] theorem Dev.onStore_bridge (f : Store → Store) (d : Dev) : (d.onStore f).bridge = d.bridge := rfl
@[simp] theorem Dev.onStore_queues (f : Store → Store) (d : Dev) : (d.onStore f).queues = d.queues := rfl
@[simp] theorem Dev.onStore_host (f : Store → Store) (d : Dev) : (d.onStore f).host = d.host := rfl
@[simp] theorem Dev.onStore_conv (f : Store → Store) (d : Dev) : (d.onStore f).conv = d.conv := rfl
@[simp] theorem Dev.onStore_boot (f : Store → Store) (d : Dev) : (d.onStore f).boot = d.boot := rfl
@[simp] theorem Dev.onStore_eth (f : Store → Store) (d : Dev) : (d.onStore f).eth = d.eth := rfl
@[simp] theorem Dev.onStore_ops (f : Store → Store) (d : Dev) : (d.onStore f).ops = d.ops := rfl
@[simp] theorem Dev.onStore_timing (f : Store → Store) (d : Dev) : (d.onStore f).timing = d.timing := rfl
@[simp] theorem Dev.onStore_flash (f : Store → Store) (d : Dev) : (d.onStore f).flash = d.flash := rfl
@[simp] theorem Dev.onStore_otp (f : Store → Store) (d : Dev) : (d.onStore f).otp = d.otp := rfl
@[simp] theorem Dev.onStore_mem (f : Store → Store) (d : Dev) : (d.onStore f).mem = d.mem := rfl
@[simp] theorem Dev.onStore_undef (f : Store → Store) (d : Dev) : (d.onStore f).undef = d.undef := rfl
@[simp] theorem Dev.onStore_bus (f : Store → Store) (d : Dev) : (d.onStore f).bus = d.bus := rfl

/-! `Dev.onBoxes` changes `boxes`. -/

@[simp] theorem Dev.onBoxes_clock (f : Tbl Mailbox → Tbl Mailbox) (d : Dev) : (d.onBoxes f).clock = d.clock := rfl
@[simp] theorem Dev.onBoxes_power (f : Tbl Mailbox → Tbl Mailbox) (d : Dev) : (d.onBoxes f).power = d.power := rfl
@[simp] theorem Dev.onBoxes_free (f : Tbl Mailbox → Tbl Mailbox) (d : Dev) : (d.onBoxes f).free = d.free := rfl
@[simp] theorem Dev.onBoxes_store (f : Tbl Mailbox → Tbl Mailbox) (d : Dev) : (d.onBoxes f).store = d.store := rfl
@[simp] theorem Dev.onBoxes_boxes (f : Tbl Mailbox → Tbl Mailbox) (d : Dev) : (d.onBoxes f).boxes = f d.boxes := rfl
@[simp] theorem Dev.onBoxes_can (f : Tbl Mailbox → Tbl Mailbox) (d : Dev) : (d.onBoxes f).can = d.can := rfl
@[simp] theorem Dev.onBoxes_faults (f : Tbl Mailbox → Tbl Mailbox) (d : Dev) : (d.onBoxes f).faults = d.faults := rfl
@[simp] theorem Dev.onBoxes_inhibit (f : Tbl Mailbox → Tbl Mailbox) (d : Dev) : (d.onBoxes f).inhibit = d.inhibit := rfl
@[simp] theorem Dev.onBoxes_monitors (f : Tbl Mailbox → Tbl Mailbox) (d : Dev) : (d.onBoxes f).monitors = d.monitors := rfl
@[simp] theorem Dev.onBoxes_parts (f : Tbl Mailbox → Tbl Mailbox) (d : Dev) : (d.onBoxes f).parts = d.parts := rfl
@[simp] theorem Dev.onBoxes_pds (f : Tbl Mailbox → Tbl Mailbox) (d : Dev) : (d.onBoxes f).pds = d.pds := rfl
@[simp] theorem Dev.onBoxes_resets (f : Tbl Mailbox → Tbl Mailbox) (d : Dev) : (d.onBoxes f).resets = d.resets := rfl
@[simp] theorem Dev.onBoxes_net (f : Tbl Mailbox → Tbl Mailbox) (d : Dev) : (d.onBoxes f).net = d.net := rfl
@[simp] theorem Dev.onBoxes_nis (f : Tbl Mailbox → Tbl Mailbox) (d : Dev) : (d.onBoxes f).nis = d.nis := rfl
@[simp] theorem Dev.onBoxes_probes (f : Tbl Mailbox → Tbl Mailbox) (d : Dev) : (d.onBoxes f).probes = d.probes := rfl
@[simp] theorem Dev.onBoxes_ddr (f : Tbl Mailbox → Tbl Mailbox) (d : Dev) : (d.onBoxes f).ddr = d.ddr := rfl
@[simp] theorem Dev.onBoxes_doms (f : Tbl Mailbox → Tbl Mailbox) (d : Dev) : (d.onBoxes f).doms = d.doms := rfl
@[simp] theorem Dev.onBoxes_matrix (f : Tbl Mailbox → Tbl Mailbox) (d : Dev) : (d.onBoxes f).matrix = d.matrix := rfl
@[simp] theorem Dev.onBoxes_bridge (f : Tbl Mailbox → Tbl Mailbox) (d : Dev) : (d.onBoxes f).bridge = d.bridge := rfl
@[simp] theorem Dev.onBoxes_queues (f : Tbl Mailbox → Tbl Mailbox) (d : Dev) : (d.onBoxes f).queues = d.queues := rfl
@[simp] theorem Dev.onBoxes_host (f : Tbl Mailbox → Tbl Mailbox) (d : Dev) : (d.onBoxes f).host = d.host := rfl
@[simp] theorem Dev.onBoxes_conv (f : Tbl Mailbox → Tbl Mailbox) (d : Dev) : (d.onBoxes f).conv = d.conv := rfl
@[simp] theorem Dev.onBoxes_boot (f : Tbl Mailbox → Tbl Mailbox) (d : Dev) : (d.onBoxes f).boot = d.boot := rfl
@[simp] theorem Dev.onBoxes_eth (f : Tbl Mailbox → Tbl Mailbox) (d : Dev) : (d.onBoxes f).eth = d.eth := rfl
@[simp] theorem Dev.onBoxes_ops (f : Tbl Mailbox → Tbl Mailbox) (d : Dev) : (d.onBoxes f).ops = d.ops := rfl
@[simp] theorem Dev.onBoxes_timing (f : Tbl Mailbox → Tbl Mailbox) (d : Dev) : (d.onBoxes f).timing = d.timing := rfl
@[simp] theorem Dev.onBoxes_flash (f : Tbl Mailbox → Tbl Mailbox) (d : Dev) : (d.onBoxes f).flash = d.flash := rfl
@[simp] theorem Dev.onBoxes_otp (f : Tbl Mailbox → Tbl Mailbox) (d : Dev) : (d.onBoxes f).otp = d.otp := rfl
@[simp] theorem Dev.onBoxes_mem (f : Tbl Mailbox → Tbl Mailbox) (d : Dev) : (d.onBoxes f).mem = d.mem := rfl
@[simp] theorem Dev.onBoxes_undef (f : Tbl Mailbox → Tbl Mailbox) (d : Dev) : (d.onBoxes f).undef = d.undef := rfl
@[simp] theorem Dev.onBoxes_bus (f : Tbl Mailbox → Tbl Mailbox) (d : Dev) : (d.onBoxes f).bus = d.bus := rfl

/-! `Dev.onCan` changes `can`. -/

@[simp] theorem Dev.onCan_clock (f : Can → Can) (d : Dev) : (d.onCan f).clock = d.clock := rfl
@[simp] theorem Dev.onCan_power (f : Can → Can) (d : Dev) : (d.onCan f).power = d.power := rfl
@[simp] theorem Dev.onCan_free (f : Can → Can) (d : Dev) : (d.onCan f).free = d.free := rfl
@[simp] theorem Dev.onCan_store (f : Can → Can) (d : Dev) : (d.onCan f).store = d.store := rfl
@[simp] theorem Dev.onCan_boxes (f : Can → Can) (d : Dev) : (d.onCan f).boxes = d.boxes := rfl
@[simp] theorem Dev.onCan_can (f : Can → Can) (d : Dev) : (d.onCan f).can = f d.can := rfl
@[simp] theorem Dev.onCan_faults (f : Can → Can) (d : Dev) : (d.onCan f).faults = d.faults := rfl
@[simp] theorem Dev.onCan_inhibit (f : Can → Can) (d : Dev) : (d.onCan f).inhibit = d.inhibit := rfl
@[simp] theorem Dev.onCan_monitors (f : Can → Can) (d : Dev) : (d.onCan f).monitors = d.monitors := rfl
@[simp] theorem Dev.onCan_parts (f : Can → Can) (d : Dev) : (d.onCan f).parts = d.parts := rfl
@[simp] theorem Dev.onCan_pds (f : Can → Can) (d : Dev) : (d.onCan f).pds = d.pds := rfl
@[simp] theorem Dev.onCan_resets (f : Can → Can) (d : Dev) : (d.onCan f).resets = d.resets := rfl
@[simp] theorem Dev.onCan_net (f : Can → Can) (d : Dev) : (d.onCan f).net = d.net := rfl
@[simp] theorem Dev.onCan_nis (f : Can → Can) (d : Dev) : (d.onCan f).nis = d.nis := rfl
@[simp] theorem Dev.onCan_probes (f : Can → Can) (d : Dev) : (d.onCan f).probes = d.probes := rfl
@[simp] theorem Dev.onCan_ddr (f : Can → Can) (d : Dev) : (d.onCan f).ddr = d.ddr := rfl
@[simp] theorem Dev.onCan_doms (f : Can → Can) (d : Dev) : (d.onCan f).doms = d.doms := rfl
@[simp] theorem Dev.onCan_matrix (f : Can → Can) (d : Dev) : (d.onCan f).matrix = d.matrix := rfl
@[simp] theorem Dev.onCan_bridge (f : Can → Can) (d : Dev) : (d.onCan f).bridge = d.bridge := rfl
@[simp] theorem Dev.onCan_queues (f : Can → Can) (d : Dev) : (d.onCan f).queues = d.queues := rfl
@[simp] theorem Dev.onCan_host (f : Can → Can) (d : Dev) : (d.onCan f).host = d.host := rfl
@[simp] theorem Dev.onCan_conv (f : Can → Can) (d : Dev) : (d.onCan f).conv = d.conv := rfl
@[simp] theorem Dev.onCan_boot (f : Can → Can) (d : Dev) : (d.onCan f).boot = d.boot := rfl
@[simp] theorem Dev.onCan_eth (f : Can → Can) (d : Dev) : (d.onCan f).eth = d.eth := rfl
@[simp] theorem Dev.onCan_ops (f : Can → Can) (d : Dev) : (d.onCan f).ops = d.ops := rfl
@[simp] theorem Dev.onCan_timing (f : Can → Can) (d : Dev) : (d.onCan f).timing = d.timing := rfl
@[simp] theorem Dev.onCan_flash (f : Can → Can) (d : Dev) : (d.onCan f).flash = d.flash := rfl
@[simp] theorem Dev.onCan_otp (f : Can → Can) (d : Dev) : (d.onCan f).otp = d.otp := rfl
@[simp] theorem Dev.onCan_mem (f : Can → Can) (d : Dev) : (d.onCan f).mem = d.mem := rfl
@[simp] theorem Dev.onCan_undef (f : Can → Can) (d : Dev) : (d.onCan f).undef = d.undef := rfl
@[simp] theorem Dev.onCan_bus (f : Can → Can) (d : Dev) : (d.onCan f).bus = d.bus := rfl

/-! `Dev.onFaults` changes `faults`. -/

@[simp] theorem Dev.onFaults_clock (f : Faults → Faults) (d : Dev) : (d.onFaults f).clock = d.clock := rfl
@[simp] theorem Dev.onFaults_power (f : Faults → Faults) (d : Dev) : (d.onFaults f).power = d.power := rfl
@[simp] theorem Dev.onFaults_free (f : Faults → Faults) (d : Dev) : (d.onFaults f).free = d.free := rfl
@[simp] theorem Dev.onFaults_store (f : Faults → Faults) (d : Dev) : (d.onFaults f).store = d.store := rfl
@[simp] theorem Dev.onFaults_boxes (f : Faults → Faults) (d : Dev) : (d.onFaults f).boxes = d.boxes := rfl
@[simp] theorem Dev.onFaults_can (f : Faults → Faults) (d : Dev) : (d.onFaults f).can = d.can := rfl
@[simp] theorem Dev.onFaults_faults (f : Faults → Faults) (d : Dev) : (d.onFaults f).faults = f d.faults := rfl
@[simp] theorem Dev.onFaults_inhibit (f : Faults → Faults) (d : Dev) : (d.onFaults f).inhibit = d.inhibit := rfl
@[simp] theorem Dev.onFaults_monitors (f : Faults → Faults) (d : Dev) : (d.onFaults f).monitors = d.monitors := rfl
@[simp] theorem Dev.onFaults_parts (f : Faults → Faults) (d : Dev) : (d.onFaults f).parts = d.parts := rfl
@[simp] theorem Dev.onFaults_pds (f : Faults → Faults) (d : Dev) : (d.onFaults f).pds = d.pds := rfl
@[simp] theorem Dev.onFaults_resets (f : Faults → Faults) (d : Dev) : (d.onFaults f).resets = d.resets := rfl
@[simp] theorem Dev.onFaults_net (f : Faults → Faults) (d : Dev) : (d.onFaults f).net = d.net := rfl
@[simp] theorem Dev.onFaults_nis (f : Faults → Faults) (d : Dev) : (d.onFaults f).nis = d.nis := rfl
@[simp] theorem Dev.onFaults_probes (f : Faults → Faults) (d : Dev) : (d.onFaults f).probes = d.probes := rfl
@[simp] theorem Dev.onFaults_ddr (f : Faults → Faults) (d : Dev) : (d.onFaults f).ddr = d.ddr := rfl
@[simp] theorem Dev.onFaults_doms (f : Faults → Faults) (d : Dev) : (d.onFaults f).doms = d.doms := rfl
@[simp] theorem Dev.onFaults_matrix (f : Faults → Faults) (d : Dev) : (d.onFaults f).matrix = d.matrix := rfl
@[simp] theorem Dev.onFaults_bridge (f : Faults → Faults) (d : Dev) : (d.onFaults f).bridge = d.bridge := rfl
@[simp] theorem Dev.onFaults_queues (f : Faults → Faults) (d : Dev) : (d.onFaults f).queues = d.queues := rfl
@[simp] theorem Dev.onFaults_host (f : Faults → Faults) (d : Dev) : (d.onFaults f).host = d.host := rfl
@[simp] theorem Dev.onFaults_conv (f : Faults → Faults) (d : Dev) : (d.onFaults f).conv = d.conv := rfl
@[simp] theorem Dev.onFaults_boot (f : Faults → Faults) (d : Dev) : (d.onFaults f).boot = d.boot := rfl
@[simp] theorem Dev.onFaults_eth (f : Faults → Faults) (d : Dev) : (d.onFaults f).eth = d.eth := rfl
@[simp] theorem Dev.onFaults_ops (f : Faults → Faults) (d : Dev) : (d.onFaults f).ops = d.ops := rfl
@[simp] theorem Dev.onFaults_timing (f : Faults → Faults) (d : Dev) : (d.onFaults f).timing = d.timing := rfl
@[simp] theorem Dev.onFaults_flash (f : Faults → Faults) (d : Dev) : (d.onFaults f).flash = d.flash := rfl
@[simp] theorem Dev.onFaults_otp (f : Faults → Faults) (d : Dev) : (d.onFaults f).otp = d.otp := rfl
@[simp] theorem Dev.onFaults_mem (f : Faults → Faults) (d : Dev) : (d.onFaults f).mem = d.mem := rfl
@[simp] theorem Dev.onFaults_undef (f : Faults → Faults) (d : Dev) : (d.onFaults f).undef = d.undef := rfl
@[simp] theorem Dev.onFaults_bus (f : Faults → Faults) (d : Dev) : (d.onFaults f).bus = d.bus := rfl

/-! `Dev.onInhibit` changes `inhibit`. -/

@[simp] theorem Dev.onInhibit_clock (f : Inhibit → Inhibit) (d : Dev) : (d.onInhibit f).clock = d.clock := rfl
@[simp] theorem Dev.onInhibit_power (f : Inhibit → Inhibit) (d : Dev) : (d.onInhibit f).power = d.power := rfl
@[simp] theorem Dev.onInhibit_free (f : Inhibit → Inhibit) (d : Dev) : (d.onInhibit f).free = d.free := rfl
@[simp] theorem Dev.onInhibit_store (f : Inhibit → Inhibit) (d : Dev) : (d.onInhibit f).store = d.store := rfl
@[simp] theorem Dev.onInhibit_boxes (f : Inhibit → Inhibit) (d : Dev) : (d.onInhibit f).boxes = d.boxes := rfl
@[simp] theorem Dev.onInhibit_can (f : Inhibit → Inhibit) (d : Dev) : (d.onInhibit f).can = d.can := rfl
@[simp] theorem Dev.onInhibit_faults (f : Inhibit → Inhibit) (d : Dev) : (d.onInhibit f).faults = d.faults := rfl
@[simp] theorem Dev.onInhibit_inhibit (f : Inhibit → Inhibit) (d : Dev) : (d.onInhibit f).inhibit = f d.inhibit := rfl
@[simp] theorem Dev.onInhibit_monitors (f : Inhibit → Inhibit) (d : Dev) : (d.onInhibit f).monitors = d.monitors := rfl
@[simp] theorem Dev.onInhibit_parts (f : Inhibit → Inhibit) (d : Dev) : (d.onInhibit f).parts = d.parts := rfl
@[simp] theorem Dev.onInhibit_pds (f : Inhibit → Inhibit) (d : Dev) : (d.onInhibit f).pds = d.pds := rfl
@[simp] theorem Dev.onInhibit_resets (f : Inhibit → Inhibit) (d : Dev) : (d.onInhibit f).resets = d.resets := rfl
@[simp] theorem Dev.onInhibit_net (f : Inhibit → Inhibit) (d : Dev) : (d.onInhibit f).net = d.net := rfl
@[simp] theorem Dev.onInhibit_nis (f : Inhibit → Inhibit) (d : Dev) : (d.onInhibit f).nis = d.nis := rfl
@[simp] theorem Dev.onInhibit_probes (f : Inhibit → Inhibit) (d : Dev) : (d.onInhibit f).probes = d.probes := rfl
@[simp] theorem Dev.onInhibit_ddr (f : Inhibit → Inhibit) (d : Dev) : (d.onInhibit f).ddr = d.ddr := rfl
@[simp] theorem Dev.onInhibit_doms (f : Inhibit → Inhibit) (d : Dev) : (d.onInhibit f).doms = d.doms := rfl
@[simp] theorem Dev.onInhibit_matrix (f : Inhibit → Inhibit) (d : Dev) : (d.onInhibit f).matrix = d.matrix := rfl
@[simp] theorem Dev.onInhibit_bridge (f : Inhibit → Inhibit) (d : Dev) : (d.onInhibit f).bridge = d.bridge := rfl
@[simp] theorem Dev.onInhibit_queues (f : Inhibit → Inhibit) (d : Dev) : (d.onInhibit f).queues = d.queues := rfl
@[simp] theorem Dev.onInhibit_host (f : Inhibit → Inhibit) (d : Dev) : (d.onInhibit f).host = d.host := rfl
@[simp] theorem Dev.onInhibit_conv (f : Inhibit → Inhibit) (d : Dev) : (d.onInhibit f).conv = d.conv := rfl
@[simp] theorem Dev.onInhibit_boot (f : Inhibit → Inhibit) (d : Dev) : (d.onInhibit f).boot = d.boot := rfl
@[simp] theorem Dev.onInhibit_eth (f : Inhibit → Inhibit) (d : Dev) : (d.onInhibit f).eth = d.eth := rfl
@[simp] theorem Dev.onInhibit_ops (f : Inhibit → Inhibit) (d : Dev) : (d.onInhibit f).ops = d.ops := rfl
@[simp] theorem Dev.onInhibit_timing (f : Inhibit → Inhibit) (d : Dev) : (d.onInhibit f).timing = d.timing := rfl
@[simp] theorem Dev.onInhibit_flash (f : Inhibit → Inhibit) (d : Dev) : (d.onInhibit f).flash = d.flash := rfl
@[simp] theorem Dev.onInhibit_otp (f : Inhibit → Inhibit) (d : Dev) : (d.onInhibit f).otp = d.otp := rfl
@[simp] theorem Dev.onInhibit_mem (f : Inhibit → Inhibit) (d : Dev) : (d.onInhibit f).mem = d.mem := rfl
@[simp] theorem Dev.onInhibit_undef (f : Inhibit → Inhibit) (d : Dev) : (d.onInhibit f).undef = d.undef := rfl
@[simp] theorem Dev.onInhibit_bus (f : Inhibit → Inhibit) (d : Dev) : (d.onInhibit f).bus = d.bus := rfl

/-! `Dev.onMonitors` changes `monitors`. -/

@[simp] theorem Dev.onMonitors_clock (f : Monitors → Monitors) (d : Dev) : (d.onMonitors f).clock = d.clock := rfl
@[simp] theorem Dev.onMonitors_power (f : Monitors → Monitors) (d : Dev) : (d.onMonitors f).power = d.power := rfl
@[simp] theorem Dev.onMonitors_free (f : Monitors → Monitors) (d : Dev) : (d.onMonitors f).free = d.free := rfl
@[simp] theorem Dev.onMonitors_store (f : Monitors → Monitors) (d : Dev) : (d.onMonitors f).store = d.store := rfl
@[simp] theorem Dev.onMonitors_boxes (f : Monitors → Monitors) (d : Dev) : (d.onMonitors f).boxes = d.boxes := rfl
@[simp] theorem Dev.onMonitors_can (f : Monitors → Monitors) (d : Dev) : (d.onMonitors f).can = d.can := rfl
@[simp] theorem Dev.onMonitors_faults (f : Monitors → Monitors) (d : Dev) : (d.onMonitors f).faults = d.faults := rfl
@[simp] theorem Dev.onMonitors_inhibit (f : Monitors → Monitors) (d : Dev) : (d.onMonitors f).inhibit = d.inhibit := rfl
@[simp] theorem Dev.onMonitors_monitors (f : Monitors → Monitors) (d : Dev) : (d.onMonitors f).monitors = f d.monitors := rfl
@[simp] theorem Dev.onMonitors_parts (f : Monitors → Monitors) (d : Dev) : (d.onMonitors f).parts = d.parts := rfl
@[simp] theorem Dev.onMonitors_pds (f : Monitors → Monitors) (d : Dev) : (d.onMonitors f).pds = d.pds := rfl
@[simp] theorem Dev.onMonitors_resets (f : Monitors → Monitors) (d : Dev) : (d.onMonitors f).resets = d.resets := rfl
@[simp] theorem Dev.onMonitors_net (f : Monitors → Monitors) (d : Dev) : (d.onMonitors f).net = d.net := rfl
@[simp] theorem Dev.onMonitors_nis (f : Monitors → Monitors) (d : Dev) : (d.onMonitors f).nis = d.nis := rfl
@[simp] theorem Dev.onMonitors_probes (f : Monitors → Monitors) (d : Dev) : (d.onMonitors f).probes = d.probes := rfl
@[simp] theorem Dev.onMonitors_ddr (f : Monitors → Monitors) (d : Dev) : (d.onMonitors f).ddr = d.ddr := rfl
@[simp] theorem Dev.onMonitors_doms (f : Monitors → Monitors) (d : Dev) : (d.onMonitors f).doms = d.doms := rfl
@[simp] theorem Dev.onMonitors_matrix (f : Monitors → Monitors) (d : Dev) : (d.onMonitors f).matrix = d.matrix := rfl
@[simp] theorem Dev.onMonitors_bridge (f : Monitors → Monitors) (d : Dev) : (d.onMonitors f).bridge = d.bridge := rfl
@[simp] theorem Dev.onMonitors_queues (f : Monitors → Monitors) (d : Dev) : (d.onMonitors f).queues = d.queues := rfl
@[simp] theorem Dev.onMonitors_host (f : Monitors → Monitors) (d : Dev) : (d.onMonitors f).host = d.host := rfl
@[simp] theorem Dev.onMonitors_conv (f : Monitors → Monitors) (d : Dev) : (d.onMonitors f).conv = d.conv := rfl
@[simp] theorem Dev.onMonitors_boot (f : Monitors → Monitors) (d : Dev) : (d.onMonitors f).boot = d.boot := rfl
@[simp] theorem Dev.onMonitors_eth (f : Monitors → Monitors) (d : Dev) : (d.onMonitors f).eth = d.eth := rfl
@[simp] theorem Dev.onMonitors_ops (f : Monitors → Monitors) (d : Dev) : (d.onMonitors f).ops = d.ops := rfl
@[simp] theorem Dev.onMonitors_timing (f : Monitors → Monitors) (d : Dev) : (d.onMonitors f).timing = d.timing := rfl
@[simp] theorem Dev.onMonitors_flash (f : Monitors → Monitors) (d : Dev) : (d.onMonitors f).flash = d.flash := rfl
@[simp] theorem Dev.onMonitors_otp (f : Monitors → Monitors) (d : Dev) : (d.onMonitors f).otp = d.otp := rfl
@[simp] theorem Dev.onMonitors_mem (f : Monitors → Monitors) (d : Dev) : (d.onMonitors f).mem = d.mem := rfl
@[simp] theorem Dev.onMonitors_undef (f : Monitors → Monitors) (d : Dev) : (d.onMonitors f).undef = d.undef := rfl
@[simp] theorem Dev.onMonitors_bus (f : Monitors → Monitors) (d : Dev) : (d.onMonitors f).bus = d.bus := rfl

/-! `Dev.onParts` changes `parts`. -/

@[simp] theorem Dev.onParts_clock (f : Tbl Part → Tbl Part) (d : Dev) : (d.onParts f).clock = d.clock := rfl
@[simp] theorem Dev.onParts_power (f : Tbl Part → Tbl Part) (d : Dev) : (d.onParts f).power = d.power := rfl
@[simp] theorem Dev.onParts_free (f : Tbl Part → Tbl Part) (d : Dev) : (d.onParts f).free = d.free := rfl
@[simp] theorem Dev.onParts_store (f : Tbl Part → Tbl Part) (d : Dev) : (d.onParts f).store = d.store := rfl
@[simp] theorem Dev.onParts_boxes (f : Tbl Part → Tbl Part) (d : Dev) : (d.onParts f).boxes = d.boxes := rfl
@[simp] theorem Dev.onParts_can (f : Tbl Part → Tbl Part) (d : Dev) : (d.onParts f).can = d.can := rfl
@[simp] theorem Dev.onParts_faults (f : Tbl Part → Tbl Part) (d : Dev) : (d.onParts f).faults = d.faults := rfl
@[simp] theorem Dev.onParts_inhibit (f : Tbl Part → Tbl Part) (d : Dev) : (d.onParts f).inhibit = d.inhibit := rfl
@[simp] theorem Dev.onParts_monitors (f : Tbl Part → Tbl Part) (d : Dev) : (d.onParts f).monitors = d.monitors := rfl
@[simp] theorem Dev.onParts_parts (f : Tbl Part → Tbl Part) (d : Dev) : (d.onParts f).parts = f d.parts := rfl
@[simp] theorem Dev.onParts_pds (f : Tbl Part → Tbl Part) (d : Dev) : (d.onParts f).pds = d.pds := rfl
@[simp] theorem Dev.onParts_resets (f : Tbl Part → Tbl Part) (d : Dev) : (d.onParts f).resets = d.resets := rfl
@[simp] theorem Dev.onParts_net (f : Tbl Part → Tbl Part) (d : Dev) : (d.onParts f).net = d.net := rfl
@[simp] theorem Dev.onParts_nis (f : Tbl Part → Tbl Part) (d : Dev) : (d.onParts f).nis = d.nis := rfl
@[simp] theorem Dev.onParts_probes (f : Tbl Part → Tbl Part) (d : Dev) : (d.onParts f).probes = d.probes := rfl
@[simp] theorem Dev.onParts_ddr (f : Tbl Part → Tbl Part) (d : Dev) : (d.onParts f).ddr = d.ddr := rfl
@[simp] theorem Dev.onParts_doms (f : Tbl Part → Tbl Part) (d : Dev) : (d.onParts f).doms = d.doms := rfl
@[simp] theorem Dev.onParts_matrix (f : Tbl Part → Tbl Part) (d : Dev) : (d.onParts f).matrix = d.matrix := rfl
@[simp] theorem Dev.onParts_bridge (f : Tbl Part → Tbl Part) (d : Dev) : (d.onParts f).bridge = d.bridge := rfl
@[simp] theorem Dev.onParts_queues (f : Tbl Part → Tbl Part) (d : Dev) : (d.onParts f).queues = d.queues := rfl
@[simp] theorem Dev.onParts_host (f : Tbl Part → Tbl Part) (d : Dev) : (d.onParts f).host = d.host := rfl
@[simp] theorem Dev.onParts_conv (f : Tbl Part → Tbl Part) (d : Dev) : (d.onParts f).conv = d.conv := rfl
@[simp] theorem Dev.onParts_boot (f : Tbl Part → Tbl Part) (d : Dev) : (d.onParts f).boot = d.boot := rfl
@[simp] theorem Dev.onParts_eth (f : Tbl Part → Tbl Part) (d : Dev) : (d.onParts f).eth = d.eth := rfl
@[simp] theorem Dev.onParts_ops (f : Tbl Part → Tbl Part) (d : Dev) : (d.onParts f).ops = d.ops := rfl
@[simp] theorem Dev.onParts_timing (f : Tbl Part → Tbl Part) (d : Dev) : (d.onParts f).timing = d.timing := rfl
@[simp] theorem Dev.onParts_flash (f : Tbl Part → Tbl Part) (d : Dev) : (d.onParts f).flash = d.flash := rfl
@[simp] theorem Dev.onParts_otp (f : Tbl Part → Tbl Part) (d : Dev) : (d.onParts f).otp = d.otp := rfl
@[simp] theorem Dev.onParts_mem (f : Tbl Part → Tbl Part) (d : Dev) : (d.onParts f).mem = d.mem := rfl
@[simp] theorem Dev.onParts_undef (f : Tbl Part → Tbl Part) (d : Dev) : (d.onParts f).undef = d.undef := rfl
@[simp] theorem Dev.onParts_bus (f : Tbl Part → Tbl Part) (d : Dev) : (d.onParts f).bus = d.bus := rfl

/-! `Dev.onPds` changes `pds`. -/

@[simp] theorem Dev.onPds_clock (f : Tbl Pd → Tbl Pd) (d : Dev) : (d.onPds f).clock = d.clock := rfl
@[simp] theorem Dev.onPds_power (f : Tbl Pd → Tbl Pd) (d : Dev) : (d.onPds f).power = d.power := rfl
@[simp] theorem Dev.onPds_free (f : Tbl Pd → Tbl Pd) (d : Dev) : (d.onPds f).free = d.free := rfl
@[simp] theorem Dev.onPds_store (f : Tbl Pd → Tbl Pd) (d : Dev) : (d.onPds f).store = d.store := rfl
@[simp] theorem Dev.onPds_boxes (f : Tbl Pd → Tbl Pd) (d : Dev) : (d.onPds f).boxes = d.boxes := rfl
@[simp] theorem Dev.onPds_can (f : Tbl Pd → Tbl Pd) (d : Dev) : (d.onPds f).can = d.can := rfl
@[simp] theorem Dev.onPds_faults (f : Tbl Pd → Tbl Pd) (d : Dev) : (d.onPds f).faults = d.faults := rfl
@[simp] theorem Dev.onPds_inhibit (f : Tbl Pd → Tbl Pd) (d : Dev) : (d.onPds f).inhibit = d.inhibit := rfl
@[simp] theorem Dev.onPds_monitors (f : Tbl Pd → Tbl Pd) (d : Dev) : (d.onPds f).monitors = d.monitors := rfl
@[simp] theorem Dev.onPds_parts (f : Tbl Pd → Tbl Pd) (d : Dev) : (d.onPds f).parts = d.parts := rfl
@[simp] theorem Dev.onPds_pds (f : Tbl Pd → Tbl Pd) (d : Dev) : (d.onPds f).pds = f d.pds := rfl
@[simp] theorem Dev.onPds_resets (f : Tbl Pd → Tbl Pd) (d : Dev) : (d.onPds f).resets = d.resets := rfl
@[simp] theorem Dev.onPds_net (f : Tbl Pd → Tbl Pd) (d : Dev) : (d.onPds f).net = d.net := rfl
@[simp] theorem Dev.onPds_nis (f : Tbl Pd → Tbl Pd) (d : Dev) : (d.onPds f).nis = d.nis := rfl
@[simp] theorem Dev.onPds_probes (f : Tbl Pd → Tbl Pd) (d : Dev) : (d.onPds f).probes = d.probes := rfl
@[simp] theorem Dev.onPds_ddr (f : Tbl Pd → Tbl Pd) (d : Dev) : (d.onPds f).ddr = d.ddr := rfl
@[simp] theorem Dev.onPds_doms (f : Tbl Pd → Tbl Pd) (d : Dev) : (d.onPds f).doms = d.doms := rfl
@[simp] theorem Dev.onPds_matrix (f : Tbl Pd → Tbl Pd) (d : Dev) : (d.onPds f).matrix = d.matrix := rfl
@[simp] theorem Dev.onPds_bridge (f : Tbl Pd → Tbl Pd) (d : Dev) : (d.onPds f).bridge = d.bridge := rfl
@[simp] theorem Dev.onPds_queues (f : Tbl Pd → Tbl Pd) (d : Dev) : (d.onPds f).queues = d.queues := rfl
@[simp] theorem Dev.onPds_host (f : Tbl Pd → Tbl Pd) (d : Dev) : (d.onPds f).host = d.host := rfl
@[simp] theorem Dev.onPds_conv (f : Tbl Pd → Tbl Pd) (d : Dev) : (d.onPds f).conv = d.conv := rfl
@[simp] theorem Dev.onPds_boot (f : Tbl Pd → Tbl Pd) (d : Dev) : (d.onPds f).boot = d.boot := rfl
@[simp] theorem Dev.onPds_eth (f : Tbl Pd → Tbl Pd) (d : Dev) : (d.onPds f).eth = d.eth := rfl
@[simp] theorem Dev.onPds_ops (f : Tbl Pd → Tbl Pd) (d : Dev) : (d.onPds f).ops = d.ops := rfl
@[simp] theorem Dev.onPds_timing (f : Tbl Pd → Tbl Pd) (d : Dev) : (d.onPds f).timing = d.timing := rfl
@[simp] theorem Dev.onPds_flash (f : Tbl Pd → Tbl Pd) (d : Dev) : (d.onPds f).flash = d.flash := rfl
@[simp] theorem Dev.onPds_otp (f : Tbl Pd → Tbl Pd) (d : Dev) : (d.onPds f).otp = d.otp := rfl
@[simp] theorem Dev.onPds_mem (f : Tbl Pd → Tbl Pd) (d : Dev) : (d.onPds f).mem = d.mem := rfl
@[simp] theorem Dev.onPds_undef (f : Tbl Pd → Tbl Pd) (d : Dev) : (d.onPds f).undef = d.undef := rfl
@[simp] theorem Dev.onPds_bus (f : Tbl Pd → Tbl Pd) (d : Dev) : (d.onPds f).bus = d.bus := rfl

/-! `Dev.onResets` changes `resets`. -/

@[simp] theorem Dev.onResets_clock (f : Resets → Resets) (d : Dev) : (d.onResets f).clock = d.clock := rfl
@[simp] theorem Dev.onResets_power (f : Resets → Resets) (d : Dev) : (d.onResets f).power = d.power := rfl
@[simp] theorem Dev.onResets_free (f : Resets → Resets) (d : Dev) : (d.onResets f).free = d.free := rfl
@[simp] theorem Dev.onResets_store (f : Resets → Resets) (d : Dev) : (d.onResets f).store = d.store := rfl
@[simp] theorem Dev.onResets_boxes (f : Resets → Resets) (d : Dev) : (d.onResets f).boxes = d.boxes := rfl
@[simp] theorem Dev.onResets_can (f : Resets → Resets) (d : Dev) : (d.onResets f).can = d.can := rfl
@[simp] theorem Dev.onResets_faults (f : Resets → Resets) (d : Dev) : (d.onResets f).faults = d.faults := rfl
@[simp] theorem Dev.onResets_inhibit (f : Resets → Resets) (d : Dev) : (d.onResets f).inhibit = d.inhibit := rfl
@[simp] theorem Dev.onResets_monitors (f : Resets → Resets) (d : Dev) : (d.onResets f).monitors = d.monitors := rfl
@[simp] theorem Dev.onResets_parts (f : Resets → Resets) (d : Dev) : (d.onResets f).parts = d.parts := rfl
@[simp] theorem Dev.onResets_pds (f : Resets → Resets) (d : Dev) : (d.onResets f).pds = d.pds := rfl
@[simp] theorem Dev.onResets_resets (f : Resets → Resets) (d : Dev) : (d.onResets f).resets = f d.resets := rfl
@[simp] theorem Dev.onResets_net (f : Resets → Resets) (d : Dev) : (d.onResets f).net = d.net := rfl
@[simp] theorem Dev.onResets_nis (f : Resets → Resets) (d : Dev) : (d.onResets f).nis = d.nis := rfl
@[simp] theorem Dev.onResets_probes (f : Resets → Resets) (d : Dev) : (d.onResets f).probes = d.probes := rfl
@[simp] theorem Dev.onResets_ddr (f : Resets → Resets) (d : Dev) : (d.onResets f).ddr = d.ddr := rfl
@[simp] theorem Dev.onResets_doms (f : Resets → Resets) (d : Dev) : (d.onResets f).doms = d.doms := rfl
@[simp] theorem Dev.onResets_matrix (f : Resets → Resets) (d : Dev) : (d.onResets f).matrix = d.matrix := rfl
@[simp] theorem Dev.onResets_bridge (f : Resets → Resets) (d : Dev) : (d.onResets f).bridge = d.bridge := rfl
@[simp] theorem Dev.onResets_queues (f : Resets → Resets) (d : Dev) : (d.onResets f).queues = d.queues := rfl
@[simp] theorem Dev.onResets_host (f : Resets → Resets) (d : Dev) : (d.onResets f).host = d.host := rfl
@[simp] theorem Dev.onResets_conv (f : Resets → Resets) (d : Dev) : (d.onResets f).conv = d.conv := rfl
@[simp] theorem Dev.onResets_boot (f : Resets → Resets) (d : Dev) : (d.onResets f).boot = d.boot := rfl
@[simp] theorem Dev.onResets_eth (f : Resets → Resets) (d : Dev) : (d.onResets f).eth = d.eth := rfl
@[simp] theorem Dev.onResets_ops (f : Resets → Resets) (d : Dev) : (d.onResets f).ops = d.ops := rfl
@[simp] theorem Dev.onResets_timing (f : Resets → Resets) (d : Dev) : (d.onResets f).timing = d.timing := rfl
@[simp] theorem Dev.onResets_flash (f : Resets → Resets) (d : Dev) : (d.onResets f).flash = d.flash := rfl
@[simp] theorem Dev.onResets_otp (f : Resets → Resets) (d : Dev) : (d.onResets f).otp = d.otp := rfl
@[simp] theorem Dev.onResets_mem (f : Resets → Resets) (d : Dev) : (d.onResets f).mem = d.mem := rfl
@[simp] theorem Dev.onResets_undef (f : Resets → Resets) (d : Dev) : (d.onResets f).undef = d.undef := rfl
@[simp] theorem Dev.onResets_bus (f : Resets → Resets) (d : Dev) : (d.onResets f).bus = d.bus := rfl

/-! `Dev.onNet` changes `net`. -/

@[simp] theorem Dev.onNet_clock (f : Net → Net) (d : Dev) : (d.onNet f).clock = d.clock := rfl
@[simp] theorem Dev.onNet_power (f : Net → Net) (d : Dev) : (d.onNet f).power = d.power := rfl
@[simp] theorem Dev.onNet_free (f : Net → Net) (d : Dev) : (d.onNet f).free = d.free := rfl
@[simp] theorem Dev.onNet_store (f : Net → Net) (d : Dev) : (d.onNet f).store = d.store := rfl
@[simp] theorem Dev.onNet_boxes (f : Net → Net) (d : Dev) : (d.onNet f).boxes = d.boxes := rfl
@[simp] theorem Dev.onNet_can (f : Net → Net) (d : Dev) : (d.onNet f).can = d.can := rfl
@[simp] theorem Dev.onNet_faults (f : Net → Net) (d : Dev) : (d.onNet f).faults = d.faults := rfl
@[simp] theorem Dev.onNet_inhibit (f : Net → Net) (d : Dev) : (d.onNet f).inhibit = d.inhibit := rfl
@[simp] theorem Dev.onNet_monitors (f : Net → Net) (d : Dev) : (d.onNet f).monitors = d.monitors := rfl
@[simp] theorem Dev.onNet_parts (f : Net → Net) (d : Dev) : (d.onNet f).parts = d.parts := rfl
@[simp] theorem Dev.onNet_pds (f : Net → Net) (d : Dev) : (d.onNet f).pds = d.pds := rfl
@[simp] theorem Dev.onNet_resets (f : Net → Net) (d : Dev) : (d.onNet f).resets = d.resets := rfl
@[simp] theorem Dev.onNet_net (f : Net → Net) (d : Dev) : (d.onNet f).net = f d.net := rfl
@[simp] theorem Dev.onNet_nis (f : Net → Net) (d : Dev) : (d.onNet f).nis = d.nis := rfl
@[simp] theorem Dev.onNet_probes (f : Net → Net) (d : Dev) : (d.onNet f).probes = d.probes := rfl
@[simp] theorem Dev.onNet_ddr (f : Net → Net) (d : Dev) : (d.onNet f).ddr = d.ddr := rfl
@[simp] theorem Dev.onNet_doms (f : Net → Net) (d : Dev) : (d.onNet f).doms = d.doms := rfl
@[simp] theorem Dev.onNet_matrix (f : Net → Net) (d : Dev) : (d.onNet f).matrix = d.matrix := rfl
@[simp] theorem Dev.onNet_bridge (f : Net → Net) (d : Dev) : (d.onNet f).bridge = d.bridge := rfl
@[simp] theorem Dev.onNet_queues (f : Net → Net) (d : Dev) : (d.onNet f).queues = d.queues := rfl
@[simp] theorem Dev.onNet_host (f : Net → Net) (d : Dev) : (d.onNet f).host = d.host := rfl
@[simp] theorem Dev.onNet_conv (f : Net → Net) (d : Dev) : (d.onNet f).conv = d.conv := rfl
@[simp] theorem Dev.onNet_boot (f : Net → Net) (d : Dev) : (d.onNet f).boot = d.boot := rfl
@[simp] theorem Dev.onNet_eth (f : Net → Net) (d : Dev) : (d.onNet f).eth = d.eth := rfl
@[simp] theorem Dev.onNet_ops (f : Net → Net) (d : Dev) : (d.onNet f).ops = d.ops := rfl
@[simp] theorem Dev.onNet_timing (f : Net → Net) (d : Dev) : (d.onNet f).timing = d.timing := rfl
@[simp] theorem Dev.onNet_flash (f : Net → Net) (d : Dev) : (d.onNet f).flash = d.flash := rfl
@[simp] theorem Dev.onNet_otp (f : Net → Net) (d : Dev) : (d.onNet f).otp = d.otp := rfl
@[simp] theorem Dev.onNet_mem (f : Net → Net) (d : Dev) : (d.onNet f).mem = d.mem := rfl
@[simp] theorem Dev.onNet_undef (f : Net → Net) (d : Dev) : (d.onNet f).undef = d.undef := rfl
@[simp] theorem Dev.onNet_bus (f : Net → Net) (d : Dev) : (d.onNet f).bus = d.bus := rfl

/-! `Dev.onNis` changes `nis`. -/

@[simp] theorem Dev.onNis_clock (f : Tbl Ni → Tbl Ni) (d : Dev) : (d.onNis f).clock = d.clock := rfl
@[simp] theorem Dev.onNis_power (f : Tbl Ni → Tbl Ni) (d : Dev) : (d.onNis f).power = d.power := rfl
@[simp] theorem Dev.onNis_free (f : Tbl Ni → Tbl Ni) (d : Dev) : (d.onNis f).free = d.free := rfl
@[simp] theorem Dev.onNis_store (f : Tbl Ni → Tbl Ni) (d : Dev) : (d.onNis f).store = d.store := rfl
@[simp] theorem Dev.onNis_boxes (f : Tbl Ni → Tbl Ni) (d : Dev) : (d.onNis f).boxes = d.boxes := rfl
@[simp] theorem Dev.onNis_can (f : Tbl Ni → Tbl Ni) (d : Dev) : (d.onNis f).can = d.can := rfl
@[simp] theorem Dev.onNis_faults (f : Tbl Ni → Tbl Ni) (d : Dev) : (d.onNis f).faults = d.faults := rfl
@[simp] theorem Dev.onNis_inhibit (f : Tbl Ni → Tbl Ni) (d : Dev) : (d.onNis f).inhibit = d.inhibit := rfl
@[simp] theorem Dev.onNis_monitors (f : Tbl Ni → Tbl Ni) (d : Dev) : (d.onNis f).monitors = d.monitors := rfl
@[simp] theorem Dev.onNis_parts (f : Tbl Ni → Tbl Ni) (d : Dev) : (d.onNis f).parts = d.parts := rfl
@[simp] theorem Dev.onNis_pds (f : Tbl Ni → Tbl Ni) (d : Dev) : (d.onNis f).pds = d.pds := rfl
@[simp] theorem Dev.onNis_resets (f : Tbl Ni → Tbl Ni) (d : Dev) : (d.onNis f).resets = d.resets := rfl
@[simp] theorem Dev.onNis_net (f : Tbl Ni → Tbl Ni) (d : Dev) : (d.onNis f).net = d.net := rfl
@[simp] theorem Dev.onNis_nis (f : Tbl Ni → Tbl Ni) (d : Dev) : (d.onNis f).nis = f d.nis := rfl
@[simp] theorem Dev.onNis_probes (f : Tbl Ni → Tbl Ni) (d : Dev) : (d.onNis f).probes = d.probes := rfl
@[simp] theorem Dev.onNis_ddr (f : Tbl Ni → Tbl Ni) (d : Dev) : (d.onNis f).ddr = d.ddr := rfl
@[simp] theorem Dev.onNis_doms (f : Tbl Ni → Tbl Ni) (d : Dev) : (d.onNis f).doms = d.doms := rfl
@[simp] theorem Dev.onNis_matrix (f : Tbl Ni → Tbl Ni) (d : Dev) : (d.onNis f).matrix = d.matrix := rfl
@[simp] theorem Dev.onNis_bridge (f : Tbl Ni → Tbl Ni) (d : Dev) : (d.onNis f).bridge = d.bridge := rfl
@[simp] theorem Dev.onNis_queues (f : Tbl Ni → Tbl Ni) (d : Dev) : (d.onNis f).queues = d.queues := rfl
@[simp] theorem Dev.onNis_host (f : Tbl Ni → Tbl Ni) (d : Dev) : (d.onNis f).host = d.host := rfl
@[simp] theorem Dev.onNis_conv (f : Tbl Ni → Tbl Ni) (d : Dev) : (d.onNis f).conv = d.conv := rfl
@[simp] theorem Dev.onNis_boot (f : Tbl Ni → Tbl Ni) (d : Dev) : (d.onNis f).boot = d.boot := rfl
@[simp] theorem Dev.onNis_eth (f : Tbl Ni → Tbl Ni) (d : Dev) : (d.onNis f).eth = d.eth := rfl
@[simp] theorem Dev.onNis_ops (f : Tbl Ni → Tbl Ni) (d : Dev) : (d.onNis f).ops = d.ops := rfl
@[simp] theorem Dev.onNis_timing (f : Tbl Ni → Tbl Ni) (d : Dev) : (d.onNis f).timing = d.timing := rfl
@[simp] theorem Dev.onNis_flash (f : Tbl Ni → Tbl Ni) (d : Dev) : (d.onNis f).flash = d.flash := rfl
@[simp] theorem Dev.onNis_otp (f : Tbl Ni → Tbl Ni) (d : Dev) : (d.onNis f).otp = d.otp := rfl
@[simp] theorem Dev.onNis_mem (f : Tbl Ni → Tbl Ni) (d : Dev) : (d.onNis f).mem = d.mem := rfl
@[simp] theorem Dev.onNis_undef (f : Tbl Ni → Tbl Ni) (d : Dev) : (d.onNis f).undef = d.undef := rfl
@[simp] theorem Dev.onNis_bus (f : Tbl Ni → Tbl Ni) (d : Dev) : (d.onNis f).bus = d.bus := rfl

/-! `Dev.onProbes` changes `probes`. -/

@[simp] theorem Dev.onProbes_clock (f : Probes → Probes) (d : Dev) : (d.onProbes f).clock = d.clock := rfl
@[simp] theorem Dev.onProbes_power (f : Probes → Probes) (d : Dev) : (d.onProbes f).power = d.power := rfl
@[simp] theorem Dev.onProbes_free (f : Probes → Probes) (d : Dev) : (d.onProbes f).free = d.free := rfl
@[simp] theorem Dev.onProbes_store (f : Probes → Probes) (d : Dev) : (d.onProbes f).store = d.store := rfl
@[simp] theorem Dev.onProbes_boxes (f : Probes → Probes) (d : Dev) : (d.onProbes f).boxes = d.boxes := rfl
@[simp] theorem Dev.onProbes_can (f : Probes → Probes) (d : Dev) : (d.onProbes f).can = d.can := rfl
@[simp] theorem Dev.onProbes_faults (f : Probes → Probes) (d : Dev) : (d.onProbes f).faults = d.faults := rfl
@[simp] theorem Dev.onProbes_inhibit (f : Probes → Probes) (d : Dev) : (d.onProbes f).inhibit = d.inhibit := rfl
@[simp] theorem Dev.onProbes_monitors (f : Probes → Probes) (d : Dev) : (d.onProbes f).monitors = d.monitors := rfl
@[simp] theorem Dev.onProbes_parts (f : Probes → Probes) (d : Dev) : (d.onProbes f).parts = d.parts := rfl
@[simp] theorem Dev.onProbes_pds (f : Probes → Probes) (d : Dev) : (d.onProbes f).pds = d.pds := rfl
@[simp] theorem Dev.onProbes_resets (f : Probes → Probes) (d : Dev) : (d.onProbes f).resets = d.resets := rfl
@[simp] theorem Dev.onProbes_net (f : Probes → Probes) (d : Dev) : (d.onProbes f).net = d.net := rfl
@[simp] theorem Dev.onProbes_nis (f : Probes → Probes) (d : Dev) : (d.onProbes f).nis = d.nis := rfl
@[simp] theorem Dev.onProbes_probes (f : Probes → Probes) (d : Dev) : (d.onProbes f).probes = f d.probes := rfl
@[simp] theorem Dev.onProbes_ddr (f : Probes → Probes) (d : Dev) : (d.onProbes f).ddr = d.ddr := rfl
@[simp] theorem Dev.onProbes_doms (f : Probes → Probes) (d : Dev) : (d.onProbes f).doms = d.doms := rfl
@[simp] theorem Dev.onProbes_matrix (f : Probes → Probes) (d : Dev) : (d.onProbes f).matrix = d.matrix := rfl
@[simp] theorem Dev.onProbes_bridge (f : Probes → Probes) (d : Dev) : (d.onProbes f).bridge = d.bridge := rfl
@[simp] theorem Dev.onProbes_queues (f : Probes → Probes) (d : Dev) : (d.onProbes f).queues = d.queues := rfl
@[simp] theorem Dev.onProbes_host (f : Probes → Probes) (d : Dev) : (d.onProbes f).host = d.host := rfl
@[simp] theorem Dev.onProbes_conv (f : Probes → Probes) (d : Dev) : (d.onProbes f).conv = d.conv := rfl
@[simp] theorem Dev.onProbes_boot (f : Probes → Probes) (d : Dev) : (d.onProbes f).boot = d.boot := rfl
@[simp] theorem Dev.onProbes_eth (f : Probes → Probes) (d : Dev) : (d.onProbes f).eth = d.eth := rfl
@[simp] theorem Dev.onProbes_ops (f : Probes → Probes) (d : Dev) : (d.onProbes f).ops = d.ops := rfl
@[simp] theorem Dev.onProbes_timing (f : Probes → Probes) (d : Dev) : (d.onProbes f).timing = d.timing := rfl
@[simp] theorem Dev.onProbes_flash (f : Probes → Probes) (d : Dev) : (d.onProbes f).flash = d.flash := rfl
@[simp] theorem Dev.onProbes_otp (f : Probes → Probes) (d : Dev) : (d.onProbes f).otp = d.otp := rfl
@[simp] theorem Dev.onProbes_mem (f : Probes → Probes) (d : Dev) : (d.onProbes f).mem = d.mem := rfl
@[simp] theorem Dev.onProbes_undef (f : Probes → Probes) (d : Dev) : (d.onProbes f).undef = d.undef := rfl
@[simp] theorem Dev.onProbes_bus (f : Probes → Probes) (d : Dev) : (d.onProbes f).bus = d.bus := rfl

/-! `Dev.onDdr` changes `ddr`. -/

@[simp] theorem Dev.onDdr_clock (f : Ddr → Ddr) (d : Dev) : (d.onDdr f).clock = d.clock := rfl
@[simp] theorem Dev.onDdr_power (f : Ddr → Ddr) (d : Dev) : (d.onDdr f).power = d.power := rfl
@[simp] theorem Dev.onDdr_free (f : Ddr → Ddr) (d : Dev) : (d.onDdr f).free = d.free := rfl
@[simp] theorem Dev.onDdr_store (f : Ddr → Ddr) (d : Dev) : (d.onDdr f).store = d.store := rfl
@[simp] theorem Dev.onDdr_boxes (f : Ddr → Ddr) (d : Dev) : (d.onDdr f).boxes = d.boxes := rfl
@[simp] theorem Dev.onDdr_can (f : Ddr → Ddr) (d : Dev) : (d.onDdr f).can = d.can := rfl
@[simp] theorem Dev.onDdr_faults (f : Ddr → Ddr) (d : Dev) : (d.onDdr f).faults = d.faults := rfl
@[simp] theorem Dev.onDdr_inhibit (f : Ddr → Ddr) (d : Dev) : (d.onDdr f).inhibit = d.inhibit := rfl
@[simp] theorem Dev.onDdr_monitors (f : Ddr → Ddr) (d : Dev) : (d.onDdr f).monitors = d.monitors := rfl
@[simp] theorem Dev.onDdr_parts (f : Ddr → Ddr) (d : Dev) : (d.onDdr f).parts = d.parts := rfl
@[simp] theorem Dev.onDdr_pds (f : Ddr → Ddr) (d : Dev) : (d.onDdr f).pds = d.pds := rfl
@[simp] theorem Dev.onDdr_resets (f : Ddr → Ddr) (d : Dev) : (d.onDdr f).resets = d.resets := rfl
@[simp] theorem Dev.onDdr_net (f : Ddr → Ddr) (d : Dev) : (d.onDdr f).net = d.net := rfl
@[simp] theorem Dev.onDdr_nis (f : Ddr → Ddr) (d : Dev) : (d.onDdr f).nis = d.nis := rfl
@[simp] theorem Dev.onDdr_probes (f : Ddr → Ddr) (d : Dev) : (d.onDdr f).probes = d.probes := rfl
@[simp] theorem Dev.onDdr_ddr (f : Ddr → Ddr) (d : Dev) : (d.onDdr f).ddr = f d.ddr := rfl
@[simp] theorem Dev.onDdr_doms (f : Ddr → Ddr) (d : Dev) : (d.onDdr f).doms = d.doms := rfl
@[simp] theorem Dev.onDdr_matrix (f : Ddr → Ddr) (d : Dev) : (d.onDdr f).matrix = d.matrix := rfl
@[simp] theorem Dev.onDdr_bridge (f : Ddr → Ddr) (d : Dev) : (d.onDdr f).bridge = d.bridge := rfl
@[simp] theorem Dev.onDdr_queues (f : Ddr → Ddr) (d : Dev) : (d.onDdr f).queues = d.queues := rfl
@[simp] theorem Dev.onDdr_host (f : Ddr → Ddr) (d : Dev) : (d.onDdr f).host = d.host := rfl
@[simp] theorem Dev.onDdr_conv (f : Ddr → Ddr) (d : Dev) : (d.onDdr f).conv = d.conv := rfl
@[simp] theorem Dev.onDdr_boot (f : Ddr → Ddr) (d : Dev) : (d.onDdr f).boot = d.boot := rfl
@[simp] theorem Dev.onDdr_eth (f : Ddr → Ddr) (d : Dev) : (d.onDdr f).eth = d.eth := rfl
@[simp] theorem Dev.onDdr_ops (f : Ddr → Ddr) (d : Dev) : (d.onDdr f).ops = d.ops := rfl
@[simp] theorem Dev.onDdr_timing (f : Ddr → Ddr) (d : Dev) : (d.onDdr f).timing = d.timing := rfl
@[simp] theorem Dev.onDdr_flash (f : Ddr → Ddr) (d : Dev) : (d.onDdr f).flash = d.flash := rfl
@[simp] theorem Dev.onDdr_otp (f : Ddr → Ddr) (d : Dev) : (d.onDdr f).otp = d.otp := rfl
@[simp] theorem Dev.onDdr_mem (f : Ddr → Ddr) (d : Dev) : (d.onDdr f).mem = d.mem := rfl
@[simp] theorem Dev.onDdr_undef (f : Ddr → Ddr) (d : Dev) : (d.onDdr f).undef = d.undef := rfl
@[simp] theorem Dev.onDdr_bus (f : Ddr → Ddr) (d : Dev) : (d.onDdr f).bus = d.bus := rfl

/-! `Dev.onDoms` changes `doms`. -/

@[simp] theorem Dev.onDoms_clock (f : Tbl Domain → Tbl Domain) (d : Dev) : (d.onDoms f).clock = d.clock := rfl
@[simp] theorem Dev.onDoms_power (f : Tbl Domain → Tbl Domain) (d : Dev) : (d.onDoms f).power = d.power := rfl
@[simp] theorem Dev.onDoms_free (f : Tbl Domain → Tbl Domain) (d : Dev) : (d.onDoms f).free = d.free := rfl
@[simp] theorem Dev.onDoms_store (f : Tbl Domain → Tbl Domain) (d : Dev) : (d.onDoms f).store = d.store := rfl
@[simp] theorem Dev.onDoms_boxes (f : Tbl Domain → Tbl Domain) (d : Dev) : (d.onDoms f).boxes = d.boxes := rfl
@[simp] theorem Dev.onDoms_can (f : Tbl Domain → Tbl Domain) (d : Dev) : (d.onDoms f).can = d.can := rfl
@[simp] theorem Dev.onDoms_faults (f : Tbl Domain → Tbl Domain) (d : Dev) : (d.onDoms f).faults = d.faults := rfl
@[simp] theorem Dev.onDoms_inhibit (f : Tbl Domain → Tbl Domain) (d : Dev) : (d.onDoms f).inhibit = d.inhibit := rfl
@[simp] theorem Dev.onDoms_monitors (f : Tbl Domain → Tbl Domain) (d : Dev) : (d.onDoms f).monitors = d.monitors := rfl
@[simp] theorem Dev.onDoms_parts (f : Tbl Domain → Tbl Domain) (d : Dev) : (d.onDoms f).parts = d.parts := rfl
@[simp] theorem Dev.onDoms_pds (f : Tbl Domain → Tbl Domain) (d : Dev) : (d.onDoms f).pds = d.pds := rfl
@[simp] theorem Dev.onDoms_resets (f : Tbl Domain → Tbl Domain) (d : Dev) : (d.onDoms f).resets = d.resets := rfl
@[simp] theorem Dev.onDoms_net (f : Tbl Domain → Tbl Domain) (d : Dev) : (d.onDoms f).net = d.net := rfl
@[simp] theorem Dev.onDoms_nis (f : Tbl Domain → Tbl Domain) (d : Dev) : (d.onDoms f).nis = d.nis := rfl
@[simp] theorem Dev.onDoms_probes (f : Tbl Domain → Tbl Domain) (d : Dev) : (d.onDoms f).probes = d.probes := rfl
@[simp] theorem Dev.onDoms_ddr (f : Tbl Domain → Tbl Domain) (d : Dev) : (d.onDoms f).ddr = d.ddr := rfl
@[simp] theorem Dev.onDoms_doms (f : Tbl Domain → Tbl Domain) (d : Dev) : (d.onDoms f).doms = f d.doms := rfl
@[simp] theorem Dev.onDoms_matrix (f : Tbl Domain → Tbl Domain) (d : Dev) : (d.onDoms f).matrix = d.matrix := rfl
@[simp] theorem Dev.onDoms_bridge (f : Tbl Domain → Tbl Domain) (d : Dev) : (d.onDoms f).bridge = d.bridge := rfl
@[simp] theorem Dev.onDoms_queues (f : Tbl Domain → Tbl Domain) (d : Dev) : (d.onDoms f).queues = d.queues := rfl
@[simp] theorem Dev.onDoms_host (f : Tbl Domain → Tbl Domain) (d : Dev) : (d.onDoms f).host = d.host := rfl
@[simp] theorem Dev.onDoms_conv (f : Tbl Domain → Tbl Domain) (d : Dev) : (d.onDoms f).conv = d.conv := rfl
@[simp] theorem Dev.onDoms_boot (f : Tbl Domain → Tbl Domain) (d : Dev) : (d.onDoms f).boot = d.boot := rfl
@[simp] theorem Dev.onDoms_eth (f : Tbl Domain → Tbl Domain) (d : Dev) : (d.onDoms f).eth = d.eth := rfl
@[simp] theorem Dev.onDoms_ops (f : Tbl Domain → Tbl Domain) (d : Dev) : (d.onDoms f).ops = d.ops := rfl
@[simp] theorem Dev.onDoms_timing (f : Tbl Domain → Tbl Domain) (d : Dev) : (d.onDoms f).timing = d.timing := rfl
@[simp] theorem Dev.onDoms_flash (f : Tbl Domain → Tbl Domain) (d : Dev) : (d.onDoms f).flash = d.flash := rfl
@[simp] theorem Dev.onDoms_otp (f : Tbl Domain → Tbl Domain) (d : Dev) : (d.onDoms f).otp = d.otp := rfl
@[simp] theorem Dev.onDoms_mem (f : Tbl Domain → Tbl Domain) (d : Dev) : (d.onDoms f).mem = d.mem := rfl
@[simp] theorem Dev.onDoms_undef (f : Tbl Domain → Tbl Domain) (d : Dev) : (d.onDoms f).undef = d.undef := rfl
@[simp] theorem Dev.onDoms_bus (f : Tbl Domain → Tbl Domain) (d : Dev) : (d.onDoms f).bus = d.bus := rfl

/-! `Dev.onMatrix` changes `matrix`. -/

@[simp] theorem Dev.onMatrix_clock (f : Matrix → Matrix) (d : Dev) : (d.onMatrix f).clock = d.clock := rfl
@[simp] theorem Dev.onMatrix_power (f : Matrix → Matrix) (d : Dev) : (d.onMatrix f).power = d.power := rfl
@[simp] theorem Dev.onMatrix_free (f : Matrix → Matrix) (d : Dev) : (d.onMatrix f).free = d.free := rfl
@[simp] theorem Dev.onMatrix_store (f : Matrix → Matrix) (d : Dev) : (d.onMatrix f).store = d.store := rfl
@[simp] theorem Dev.onMatrix_boxes (f : Matrix → Matrix) (d : Dev) : (d.onMatrix f).boxes = d.boxes := rfl
@[simp] theorem Dev.onMatrix_can (f : Matrix → Matrix) (d : Dev) : (d.onMatrix f).can = d.can := rfl
@[simp] theorem Dev.onMatrix_faults (f : Matrix → Matrix) (d : Dev) : (d.onMatrix f).faults = d.faults := rfl
@[simp] theorem Dev.onMatrix_inhibit (f : Matrix → Matrix) (d : Dev) : (d.onMatrix f).inhibit = d.inhibit := rfl
@[simp] theorem Dev.onMatrix_monitors (f : Matrix → Matrix) (d : Dev) : (d.onMatrix f).monitors = d.monitors := rfl
@[simp] theorem Dev.onMatrix_parts (f : Matrix → Matrix) (d : Dev) : (d.onMatrix f).parts = d.parts := rfl
@[simp] theorem Dev.onMatrix_pds (f : Matrix → Matrix) (d : Dev) : (d.onMatrix f).pds = d.pds := rfl
@[simp] theorem Dev.onMatrix_resets (f : Matrix → Matrix) (d : Dev) : (d.onMatrix f).resets = d.resets := rfl
@[simp] theorem Dev.onMatrix_net (f : Matrix → Matrix) (d : Dev) : (d.onMatrix f).net = d.net := rfl
@[simp] theorem Dev.onMatrix_nis (f : Matrix → Matrix) (d : Dev) : (d.onMatrix f).nis = d.nis := rfl
@[simp] theorem Dev.onMatrix_probes (f : Matrix → Matrix) (d : Dev) : (d.onMatrix f).probes = d.probes := rfl
@[simp] theorem Dev.onMatrix_ddr (f : Matrix → Matrix) (d : Dev) : (d.onMatrix f).ddr = d.ddr := rfl
@[simp] theorem Dev.onMatrix_doms (f : Matrix → Matrix) (d : Dev) : (d.onMatrix f).doms = d.doms := rfl
@[simp] theorem Dev.onMatrix_matrix (f : Matrix → Matrix) (d : Dev) : (d.onMatrix f).matrix = f d.matrix := rfl
@[simp] theorem Dev.onMatrix_bridge (f : Matrix → Matrix) (d : Dev) : (d.onMatrix f).bridge = d.bridge := rfl
@[simp] theorem Dev.onMatrix_queues (f : Matrix → Matrix) (d : Dev) : (d.onMatrix f).queues = d.queues := rfl
@[simp] theorem Dev.onMatrix_host (f : Matrix → Matrix) (d : Dev) : (d.onMatrix f).host = d.host := rfl
@[simp] theorem Dev.onMatrix_conv (f : Matrix → Matrix) (d : Dev) : (d.onMatrix f).conv = d.conv := rfl
@[simp] theorem Dev.onMatrix_boot (f : Matrix → Matrix) (d : Dev) : (d.onMatrix f).boot = d.boot := rfl
@[simp] theorem Dev.onMatrix_eth (f : Matrix → Matrix) (d : Dev) : (d.onMatrix f).eth = d.eth := rfl
@[simp] theorem Dev.onMatrix_ops (f : Matrix → Matrix) (d : Dev) : (d.onMatrix f).ops = d.ops := rfl
@[simp] theorem Dev.onMatrix_timing (f : Matrix → Matrix) (d : Dev) : (d.onMatrix f).timing = d.timing := rfl
@[simp] theorem Dev.onMatrix_flash (f : Matrix → Matrix) (d : Dev) : (d.onMatrix f).flash = d.flash := rfl
@[simp] theorem Dev.onMatrix_otp (f : Matrix → Matrix) (d : Dev) : (d.onMatrix f).otp = d.otp := rfl
@[simp] theorem Dev.onMatrix_mem (f : Matrix → Matrix) (d : Dev) : (d.onMatrix f).mem = d.mem := rfl
@[simp] theorem Dev.onMatrix_undef (f : Matrix → Matrix) (d : Dev) : (d.onMatrix f).undef = d.undef := rfl
@[simp] theorem Dev.onMatrix_bus (f : Matrix → Matrix) (d : Dev) : (d.onMatrix f).bus = d.bus := rfl

/-! `Dev.onBridge` changes `bridge`. -/

@[simp] theorem Dev.onBridge_clock (f : Bridge → Bridge) (d : Dev) : (d.onBridge f).clock = d.clock := rfl
@[simp] theorem Dev.onBridge_power (f : Bridge → Bridge) (d : Dev) : (d.onBridge f).power = d.power := rfl
@[simp] theorem Dev.onBridge_free (f : Bridge → Bridge) (d : Dev) : (d.onBridge f).free = d.free := rfl
@[simp] theorem Dev.onBridge_store (f : Bridge → Bridge) (d : Dev) : (d.onBridge f).store = d.store := rfl
@[simp] theorem Dev.onBridge_boxes (f : Bridge → Bridge) (d : Dev) : (d.onBridge f).boxes = d.boxes := rfl
@[simp] theorem Dev.onBridge_can (f : Bridge → Bridge) (d : Dev) : (d.onBridge f).can = d.can := rfl
@[simp] theorem Dev.onBridge_faults (f : Bridge → Bridge) (d : Dev) : (d.onBridge f).faults = d.faults := rfl
@[simp] theorem Dev.onBridge_inhibit (f : Bridge → Bridge) (d : Dev) : (d.onBridge f).inhibit = d.inhibit := rfl
@[simp] theorem Dev.onBridge_monitors (f : Bridge → Bridge) (d : Dev) : (d.onBridge f).monitors = d.monitors := rfl
@[simp] theorem Dev.onBridge_parts (f : Bridge → Bridge) (d : Dev) : (d.onBridge f).parts = d.parts := rfl
@[simp] theorem Dev.onBridge_pds (f : Bridge → Bridge) (d : Dev) : (d.onBridge f).pds = d.pds := rfl
@[simp] theorem Dev.onBridge_resets (f : Bridge → Bridge) (d : Dev) : (d.onBridge f).resets = d.resets := rfl
@[simp] theorem Dev.onBridge_net (f : Bridge → Bridge) (d : Dev) : (d.onBridge f).net = d.net := rfl
@[simp] theorem Dev.onBridge_nis (f : Bridge → Bridge) (d : Dev) : (d.onBridge f).nis = d.nis := rfl
@[simp] theorem Dev.onBridge_probes (f : Bridge → Bridge) (d : Dev) : (d.onBridge f).probes = d.probes := rfl
@[simp] theorem Dev.onBridge_ddr (f : Bridge → Bridge) (d : Dev) : (d.onBridge f).ddr = d.ddr := rfl
@[simp] theorem Dev.onBridge_doms (f : Bridge → Bridge) (d : Dev) : (d.onBridge f).doms = d.doms := rfl
@[simp] theorem Dev.onBridge_matrix (f : Bridge → Bridge) (d : Dev) : (d.onBridge f).matrix = d.matrix := rfl
@[simp] theorem Dev.onBridge_bridge (f : Bridge → Bridge) (d : Dev) : (d.onBridge f).bridge = f d.bridge := rfl
@[simp] theorem Dev.onBridge_queues (f : Bridge → Bridge) (d : Dev) : (d.onBridge f).queues = d.queues := rfl
@[simp] theorem Dev.onBridge_host (f : Bridge → Bridge) (d : Dev) : (d.onBridge f).host = d.host := rfl
@[simp] theorem Dev.onBridge_conv (f : Bridge → Bridge) (d : Dev) : (d.onBridge f).conv = d.conv := rfl
@[simp] theorem Dev.onBridge_boot (f : Bridge → Bridge) (d : Dev) : (d.onBridge f).boot = d.boot := rfl
@[simp] theorem Dev.onBridge_eth (f : Bridge → Bridge) (d : Dev) : (d.onBridge f).eth = d.eth := rfl
@[simp] theorem Dev.onBridge_ops (f : Bridge → Bridge) (d : Dev) : (d.onBridge f).ops = d.ops := rfl
@[simp] theorem Dev.onBridge_timing (f : Bridge → Bridge) (d : Dev) : (d.onBridge f).timing = d.timing := rfl
@[simp] theorem Dev.onBridge_flash (f : Bridge → Bridge) (d : Dev) : (d.onBridge f).flash = d.flash := rfl
@[simp] theorem Dev.onBridge_otp (f : Bridge → Bridge) (d : Dev) : (d.onBridge f).otp = d.otp := rfl
@[simp] theorem Dev.onBridge_mem (f : Bridge → Bridge) (d : Dev) : (d.onBridge f).mem = d.mem := rfl
@[simp] theorem Dev.onBridge_undef (f : Bridge → Bridge) (d : Dev) : (d.onBridge f).undef = d.undef := rfl
@[simp] theorem Dev.onBridge_bus (f : Bridge → Bridge) (d : Dev) : (d.onBridge f).bus = d.bus := rfl

/-! `Dev.onQueues` changes `queues`. -/

@[simp] theorem Dev.onQueues_clock (f : Queues → Queues) (d : Dev) : (d.onQueues f).clock = d.clock := rfl
@[simp] theorem Dev.onQueues_power (f : Queues → Queues) (d : Dev) : (d.onQueues f).power = d.power := rfl
@[simp] theorem Dev.onQueues_free (f : Queues → Queues) (d : Dev) : (d.onQueues f).free = d.free := rfl
@[simp] theorem Dev.onQueues_store (f : Queues → Queues) (d : Dev) : (d.onQueues f).store = d.store := rfl
@[simp] theorem Dev.onQueues_boxes (f : Queues → Queues) (d : Dev) : (d.onQueues f).boxes = d.boxes := rfl
@[simp] theorem Dev.onQueues_can (f : Queues → Queues) (d : Dev) : (d.onQueues f).can = d.can := rfl
@[simp] theorem Dev.onQueues_faults (f : Queues → Queues) (d : Dev) : (d.onQueues f).faults = d.faults := rfl
@[simp] theorem Dev.onQueues_inhibit (f : Queues → Queues) (d : Dev) : (d.onQueues f).inhibit = d.inhibit := rfl
@[simp] theorem Dev.onQueues_monitors (f : Queues → Queues) (d : Dev) : (d.onQueues f).monitors = d.monitors := rfl
@[simp] theorem Dev.onQueues_parts (f : Queues → Queues) (d : Dev) : (d.onQueues f).parts = d.parts := rfl
@[simp] theorem Dev.onQueues_pds (f : Queues → Queues) (d : Dev) : (d.onQueues f).pds = d.pds := rfl
@[simp] theorem Dev.onQueues_resets (f : Queues → Queues) (d : Dev) : (d.onQueues f).resets = d.resets := rfl
@[simp] theorem Dev.onQueues_net (f : Queues → Queues) (d : Dev) : (d.onQueues f).net = d.net := rfl
@[simp] theorem Dev.onQueues_nis (f : Queues → Queues) (d : Dev) : (d.onQueues f).nis = d.nis := rfl
@[simp] theorem Dev.onQueues_probes (f : Queues → Queues) (d : Dev) : (d.onQueues f).probes = d.probes := rfl
@[simp] theorem Dev.onQueues_ddr (f : Queues → Queues) (d : Dev) : (d.onQueues f).ddr = d.ddr := rfl
@[simp] theorem Dev.onQueues_doms (f : Queues → Queues) (d : Dev) : (d.onQueues f).doms = d.doms := rfl
@[simp] theorem Dev.onQueues_matrix (f : Queues → Queues) (d : Dev) : (d.onQueues f).matrix = d.matrix := rfl
@[simp] theorem Dev.onQueues_bridge (f : Queues → Queues) (d : Dev) : (d.onQueues f).bridge = d.bridge := rfl
@[simp] theorem Dev.onQueues_queues (f : Queues → Queues) (d : Dev) : (d.onQueues f).queues = f d.queues := rfl
@[simp] theorem Dev.onQueues_host (f : Queues → Queues) (d : Dev) : (d.onQueues f).host = d.host := rfl
@[simp] theorem Dev.onQueues_conv (f : Queues → Queues) (d : Dev) : (d.onQueues f).conv = d.conv := rfl
@[simp] theorem Dev.onQueues_boot (f : Queues → Queues) (d : Dev) : (d.onQueues f).boot = d.boot := rfl
@[simp] theorem Dev.onQueues_eth (f : Queues → Queues) (d : Dev) : (d.onQueues f).eth = d.eth := rfl
@[simp] theorem Dev.onQueues_ops (f : Queues → Queues) (d : Dev) : (d.onQueues f).ops = d.ops := rfl
@[simp] theorem Dev.onQueues_timing (f : Queues → Queues) (d : Dev) : (d.onQueues f).timing = d.timing := rfl
@[simp] theorem Dev.onQueues_flash (f : Queues → Queues) (d : Dev) : (d.onQueues f).flash = d.flash := rfl
@[simp] theorem Dev.onQueues_otp (f : Queues → Queues) (d : Dev) : (d.onQueues f).otp = d.otp := rfl
@[simp] theorem Dev.onQueues_mem (f : Queues → Queues) (d : Dev) : (d.onQueues f).mem = d.mem := rfl
@[simp] theorem Dev.onQueues_undef (f : Queues → Queues) (d : Dev) : (d.onQueues f).undef = d.undef := rfl
@[simp] theorem Dev.onQueues_bus (f : Queues → Queues) (d : Dev) : (d.onQueues f).bus = d.bus := rfl

/-! `Dev.onHost` changes `host`. -/

@[simp] theorem Dev.onHost_clock (f : HostPort → HostPort) (d : Dev) : (d.onHost f).clock = d.clock := rfl
@[simp] theorem Dev.onHost_power (f : HostPort → HostPort) (d : Dev) : (d.onHost f).power = d.power := rfl
@[simp] theorem Dev.onHost_free (f : HostPort → HostPort) (d : Dev) : (d.onHost f).free = d.free := rfl
@[simp] theorem Dev.onHost_store (f : HostPort → HostPort) (d : Dev) : (d.onHost f).store = d.store := rfl
@[simp] theorem Dev.onHost_boxes (f : HostPort → HostPort) (d : Dev) : (d.onHost f).boxes = d.boxes := rfl
@[simp] theorem Dev.onHost_can (f : HostPort → HostPort) (d : Dev) : (d.onHost f).can = d.can := rfl
@[simp] theorem Dev.onHost_faults (f : HostPort → HostPort) (d : Dev) : (d.onHost f).faults = d.faults := rfl
@[simp] theorem Dev.onHost_inhibit (f : HostPort → HostPort) (d : Dev) : (d.onHost f).inhibit = d.inhibit := rfl
@[simp] theorem Dev.onHost_monitors (f : HostPort → HostPort) (d : Dev) : (d.onHost f).monitors = d.monitors := rfl
@[simp] theorem Dev.onHost_parts (f : HostPort → HostPort) (d : Dev) : (d.onHost f).parts = d.parts := rfl
@[simp] theorem Dev.onHost_pds (f : HostPort → HostPort) (d : Dev) : (d.onHost f).pds = d.pds := rfl
@[simp] theorem Dev.onHost_resets (f : HostPort → HostPort) (d : Dev) : (d.onHost f).resets = d.resets := rfl
@[simp] theorem Dev.onHost_net (f : HostPort → HostPort) (d : Dev) : (d.onHost f).net = d.net := rfl
@[simp] theorem Dev.onHost_nis (f : HostPort → HostPort) (d : Dev) : (d.onHost f).nis = d.nis := rfl
@[simp] theorem Dev.onHost_probes (f : HostPort → HostPort) (d : Dev) : (d.onHost f).probes = d.probes := rfl
@[simp] theorem Dev.onHost_ddr (f : HostPort → HostPort) (d : Dev) : (d.onHost f).ddr = d.ddr := rfl
@[simp] theorem Dev.onHost_doms (f : HostPort → HostPort) (d : Dev) : (d.onHost f).doms = d.doms := rfl
@[simp] theorem Dev.onHost_matrix (f : HostPort → HostPort) (d : Dev) : (d.onHost f).matrix = d.matrix := rfl
@[simp] theorem Dev.onHost_bridge (f : HostPort → HostPort) (d : Dev) : (d.onHost f).bridge = d.bridge := rfl
@[simp] theorem Dev.onHost_queues (f : HostPort → HostPort) (d : Dev) : (d.onHost f).queues = d.queues := rfl
@[simp] theorem Dev.onHost_host (f : HostPort → HostPort) (d : Dev) : (d.onHost f).host = f d.host := rfl
@[simp] theorem Dev.onHost_conv (f : HostPort → HostPort) (d : Dev) : (d.onHost f).conv = d.conv := rfl
@[simp] theorem Dev.onHost_boot (f : HostPort → HostPort) (d : Dev) : (d.onHost f).boot = d.boot := rfl
@[simp] theorem Dev.onHost_eth (f : HostPort → HostPort) (d : Dev) : (d.onHost f).eth = d.eth := rfl
@[simp] theorem Dev.onHost_ops (f : HostPort → HostPort) (d : Dev) : (d.onHost f).ops = d.ops := rfl
@[simp] theorem Dev.onHost_timing (f : HostPort → HostPort) (d : Dev) : (d.onHost f).timing = d.timing := rfl
@[simp] theorem Dev.onHost_flash (f : HostPort → HostPort) (d : Dev) : (d.onHost f).flash = d.flash := rfl
@[simp] theorem Dev.onHost_otp (f : HostPort → HostPort) (d : Dev) : (d.onHost f).otp = d.otp := rfl
@[simp] theorem Dev.onHost_mem (f : HostPort → HostPort) (d : Dev) : (d.onHost f).mem = d.mem := rfl
@[simp] theorem Dev.onHost_undef (f : HostPort → HostPort) (d : Dev) : (d.onHost f).undef = d.undef := rfl
@[simp] theorem Dev.onHost_bus (f : HostPort → HostPort) (d : Dev) : (d.onHost f).bus = d.bus := rfl

/-! `Dev.onConv` changes `conv`. -/

@[simp] theorem Dev.onConv_clock (f : Conv → Conv) (d : Dev) : (d.onConv f).clock = d.clock := rfl
@[simp] theorem Dev.onConv_power (f : Conv → Conv) (d : Dev) : (d.onConv f).power = d.power := rfl
@[simp] theorem Dev.onConv_free (f : Conv → Conv) (d : Dev) : (d.onConv f).free = d.free := rfl
@[simp] theorem Dev.onConv_store (f : Conv → Conv) (d : Dev) : (d.onConv f).store = d.store := rfl
@[simp] theorem Dev.onConv_boxes (f : Conv → Conv) (d : Dev) : (d.onConv f).boxes = d.boxes := rfl
@[simp] theorem Dev.onConv_can (f : Conv → Conv) (d : Dev) : (d.onConv f).can = d.can := rfl
@[simp] theorem Dev.onConv_faults (f : Conv → Conv) (d : Dev) : (d.onConv f).faults = d.faults := rfl
@[simp] theorem Dev.onConv_inhibit (f : Conv → Conv) (d : Dev) : (d.onConv f).inhibit = d.inhibit := rfl
@[simp] theorem Dev.onConv_monitors (f : Conv → Conv) (d : Dev) : (d.onConv f).monitors = d.monitors := rfl
@[simp] theorem Dev.onConv_parts (f : Conv → Conv) (d : Dev) : (d.onConv f).parts = d.parts := rfl
@[simp] theorem Dev.onConv_pds (f : Conv → Conv) (d : Dev) : (d.onConv f).pds = d.pds := rfl
@[simp] theorem Dev.onConv_resets (f : Conv → Conv) (d : Dev) : (d.onConv f).resets = d.resets := rfl
@[simp] theorem Dev.onConv_net (f : Conv → Conv) (d : Dev) : (d.onConv f).net = d.net := rfl
@[simp] theorem Dev.onConv_nis (f : Conv → Conv) (d : Dev) : (d.onConv f).nis = d.nis := rfl
@[simp] theorem Dev.onConv_probes (f : Conv → Conv) (d : Dev) : (d.onConv f).probes = d.probes := rfl
@[simp] theorem Dev.onConv_ddr (f : Conv → Conv) (d : Dev) : (d.onConv f).ddr = d.ddr := rfl
@[simp] theorem Dev.onConv_doms (f : Conv → Conv) (d : Dev) : (d.onConv f).doms = d.doms := rfl
@[simp] theorem Dev.onConv_matrix (f : Conv → Conv) (d : Dev) : (d.onConv f).matrix = d.matrix := rfl
@[simp] theorem Dev.onConv_bridge (f : Conv → Conv) (d : Dev) : (d.onConv f).bridge = d.bridge := rfl
@[simp] theorem Dev.onConv_queues (f : Conv → Conv) (d : Dev) : (d.onConv f).queues = d.queues := rfl
@[simp] theorem Dev.onConv_host (f : Conv → Conv) (d : Dev) : (d.onConv f).host = d.host := rfl
@[simp] theorem Dev.onConv_conv (f : Conv → Conv) (d : Dev) : (d.onConv f).conv = f d.conv := rfl
@[simp] theorem Dev.onConv_boot (f : Conv → Conv) (d : Dev) : (d.onConv f).boot = d.boot := rfl
@[simp] theorem Dev.onConv_eth (f : Conv → Conv) (d : Dev) : (d.onConv f).eth = d.eth := rfl
@[simp] theorem Dev.onConv_ops (f : Conv → Conv) (d : Dev) : (d.onConv f).ops = d.ops := rfl
@[simp] theorem Dev.onConv_timing (f : Conv → Conv) (d : Dev) : (d.onConv f).timing = d.timing := rfl
@[simp] theorem Dev.onConv_flash (f : Conv → Conv) (d : Dev) : (d.onConv f).flash = d.flash := rfl
@[simp] theorem Dev.onConv_otp (f : Conv → Conv) (d : Dev) : (d.onConv f).otp = d.otp := rfl
@[simp] theorem Dev.onConv_mem (f : Conv → Conv) (d : Dev) : (d.onConv f).mem = d.mem := rfl
@[simp] theorem Dev.onConv_undef (f : Conv → Conv) (d : Dev) : (d.onConv f).undef = d.undef := rfl
@[simp] theorem Dev.onConv_bus (f : Conv → Conv) (d : Dev) : (d.onConv f).bus = d.bus := rfl

/-! `Dev.onBoot` changes `boot`. -/

@[simp] theorem Dev.onBoot_clock (f : Boot → Boot) (d : Dev) : (d.onBoot f).clock = d.clock := rfl
@[simp] theorem Dev.onBoot_power (f : Boot → Boot) (d : Dev) : (d.onBoot f).power = d.power := rfl
@[simp] theorem Dev.onBoot_free (f : Boot → Boot) (d : Dev) : (d.onBoot f).free = d.free := rfl
@[simp] theorem Dev.onBoot_store (f : Boot → Boot) (d : Dev) : (d.onBoot f).store = d.store := rfl
@[simp] theorem Dev.onBoot_boxes (f : Boot → Boot) (d : Dev) : (d.onBoot f).boxes = d.boxes := rfl
@[simp] theorem Dev.onBoot_can (f : Boot → Boot) (d : Dev) : (d.onBoot f).can = d.can := rfl
@[simp] theorem Dev.onBoot_faults (f : Boot → Boot) (d : Dev) : (d.onBoot f).faults = d.faults := rfl
@[simp] theorem Dev.onBoot_inhibit (f : Boot → Boot) (d : Dev) : (d.onBoot f).inhibit = d.inhibit := rfl
@[simp] theorem Dev.onBoot_monitors (f : Boot → Boot) (d : Dev) : (d.onBoot f).monitors = d.monitors := rfl
@[simp] theorem Dev.onBoot_parts (f : Boot → Boot) (d : Dev) : (d.onBoot f).parts = d.parts := rfl
@[simp] theorem Dev.onBoot_pds (f : Boot → Boot) (d : Dev) : (d.onBoot f).pds = d.pds := rfl
@[simp] theorem Dev.onBoot_resets (f : Boot → Boot) (d : Dev) : (d.onBoot f).resets = d.resets := rfl
@[simp] theorem Dev.onBoot_net (f : Boot → Boot) (d : Dev) : (d.onBoot f).net = d.net := rfl
@[simp] theorem Dev.onBoot_nis (f : Boot → Boot) (d : Dev) : (d.onBoot f).nis = d.nis := rfl
@[simp] theorem Dev.onBoot_probes (f : Boot → Boot) (d : Dev) : (d.onBoot f).probes = d.probes := rfl
@[simp] theorem Dev.onBoot_ddr (f : Boot → Boot) (d : Dev) : (d.onBoot f).ddr = d.ddr := rfl
@[simp] theorem Dev.onBoot_doms (f : Boot → Boot) (d : Dev) : (d.onBoot f).doms = d.doms := rfl
@[simp] theorem Dev.onBoot_matrix (f : Boot → Boot) (d : Dev) : (d.onBoot f).matrix = d.matrix := rfl
@[simp] theorem Dev.onBoot_bridge (f : Boot → Boot) (d : Dev) : (d.onBoot f).bridge = d.bridge := rfl
@[simp] theorem Dev.onBoot_queues (f : Boot → Boot) (d : Dev) : (d.onBoot f).queues = d.queues := rfl
@[simp] theorem Dev.onBoot_host (f : Boot → Boot) (d : Dev) : (d.onBoot f).host = d.host := rfl
@[simp] theorem Dev.onBoot_conv (f : Boot → Boot) (d : Dev) : (d.onBoot f).conv = d.conv := rfl
@[simp] theorem Dev.onBoot_boot (f : Boot → Boot) (d : Dev) : (d.onBoot f).boot = f d.boot := rfl
@[simp] theorem Dev.onBoot_eth (f : Boot → Boot) (d : Dev) : (d.onBoot f).eth = d.eth := rfl
@[simp] theorem Dev.onBoot_ops (f : Boot → Boot) (d : Dev) : (d.onBoot f).ops = d.ops := rfl
@[simp] theorem Dev.onBoot_timing (f : Boot → Boot) (d : Dev) : (d.onBoot f).timing = d.timing := rfl
@[simp] theorem Dev.onBoot_flash (f : Boot → Boot) (d : Dev) : (d.onBoot f).flash = d.flash := rfl
@[simp] theorem Dev.onBoot_otp (f : Boot → Boot) (d : Dev) : (d.onBoot f).otp = d.otp := rfl
@[simp] theorem Dev.onBoot_mem (f : Boot → Boot) (d : Dev) : (d.onBoot f).mem = d.mem := rfl
@[simp] theorem Dev.onBoot_undef (f : Boot → Boot) (d : Dev) : (d.onBoot f).undef = d.undef := rfl
@[simp] theorem Dev.onBoot_bus (f : Boot → Boot) (d : Dev) : (d.onBoot f).bus = d.bus := rfl

/-! `Dev.onEth` changes `eth`. -/

@[simp] theorem Dev.onEth_clock (f : Eth → Eth) (d : Dev) : (d.onEth f).clock = d.clock := rfl
@[simp] theorem Dev.onEth_power (f : Eth → Eth) (d : Dev) : (d.onEth f).power = d.power := rfl
@[simp] theorem Dev.onEth_free (f : Eth → Eth) (d : Dev) : (d.onEth f).free = d.free := rfl
@[simp] theorem Dev.onEth_store (f : Eth → Eth) (d : Dev) : (d.onEth f).store = d.store := rfl
@[simp] theorem Dev.onEth_boxes (f : Eth → Eth) (d : Dev) : (d.onEth f).boxes = d.boxes := rfl
@[simp] theorem Dev.onEth_can (f : Eth → Eth) (d : Dev) : (d.onEth f).can = d.can := rfl
@[simp] theorem Dev.onEth_faults (f : Eth → Eth) (d : Dev) : (d.onEth f).faults = d.faults := rfl
@[simp] theorem Dev.onEth_inhibit (f : Eth → Eth) (d : Dev) : (d.onEth f).inhibit = d.inhibit := rfl
@[simp] theorem Dev.onEth_monitors (f : Eth → Eth) (d : Dev) : (d.onEth f).monitors = d.monitors := rfl
@[simp] theorem Dev.onEth_parts (f : Eth → Eth) (d : Dev) : (d.onEth f).parts = d.parts := rfl
@[simp] theorem Dev.onEth_pds (f : Eth → Eth) (d : Dev) : (d.onEth f).pds = d.pds := rfl
@[simp] theorem Dev.onEth_resets (f : Eth → Eth) (d : Dev) : (d.onEth f).resets = d.resets := rfl
@[simp] theorem Dev.onEth_net (f : Eth → Eth) (d : Dev) : (d.onEth f).net = d.net := rfl
@[simp] theorem Dev.onEth_nis (f : Eth → Eth) (d : Dev) : (d.onEth f).nis = d.nis := rfl
@[simp] theorem Dev.onEth_probes (f : Eth → Eth) (d : Dev) : (d.onEth f).probes = d.probes := rfl
@[simp] theorem Dev.onEth_ddr (f : Eth → Eth) (d : Dev) : (d.onEth f).ddr = d.ddr := rfl
@[simp] theorem Dev.onEth_doms (f : Eth → Eth) (d : Dev) : (d.onEth f).doms = d.doms := rfl
@[simp] theorem Dev.onEth_matrix (f : Eth → Eth) (d : Dev) : (d.onEth f).matrix = d.matrix := rfl
@[simp] theorem Dev.onEth_bridge (f : Eth → Eth) (d : Dev) : (d.onEth f).bridge = d.bridge := rfl
@[simp] theorem Dev.onEth_queues (f : Eth → Eth) (d : Dev) : (d.onEth f).queues = d.queues := rfl
@[simp] theorem Dev.onEth_host (f : Eth → Eth) (d : Dev) : (d.onEth f).host = d.host := rfl
@[simp] theorem Dev.onEth_conv (f : Eth → Eth) (d : Dev) : (d.onEth f).conv = d.conv := rfl
@[simp] theorem Dev.onEth_boot (f : Eth → Eth) (d : Dev) : (d.onEth f).boot = d.boot := rfl
@[simp] theorem Dev.onEth_eth (f : Eth → Eth) (d : Dev) : (d.onEth f).eth = f d.eth := rfl
@[simp] theorem Dev.onEth_ops (f : Eth → Eth) (d : Dev) : (d.onEth f).ops = d.ops := rfl
@[simp] theorem Dev.onEth_timing (f : Eth → Eth) (d : Dev) : (d.onEth f).timing = d.timing := rfl
@[simp] theorem Dev.onEth_flash (f : Eth → Eth) (d : Dev) : (d.onEth f).flash = d.flash := rfl
@[simp] theorem Dev.onEth_otp (f : Eth → Eth) (d : Dev) : (d.onEth f).otp = d.otp := rfl
@[simp] theorem Dev.onEth_mem (f : Eth → Eth) (d : Dev) : (d.onEth f).mem = d.mem := rfl
@[simp] theorem Dev.onEth_undef (f : Eth → Eth) (d : Dev) : (d.onEth f).undef = d.undef := rfl
@[simp] theorem Dev.onEth_bus (f : Eth → Eth) (d : Dev) : (d.onEth f).bus = d.bus := rfl

/-! `Dev.onOps` changes `ops`. -/

@[simp] theorem Dev.onOps_clock (f : Tbl OpUnit → Tbl OpUnit) (d : Dev) : (d.onOps f).clock = d.clock := rfl
@[simp] theorem Dev.onOps_power (f : Tbl OpUnit → Tbl OpUnit) (d : Dev) : (d.onOps f).power = d.power := rfl
@[simp] theorem Dev.onOps_free (f : Tbl OpUnit → Tbl OpUnit) (d : Dev) : (d.onOps f).free = d.free := rfl
@[simp] theorem Dev.onOps_store (f : Tbl OpUnit → Tbl OpUnit) (d : Dev) : (d.onOps f).store = d.store := rfl
@[simp] theorem Dev.onOps_boxes (f : Tbl OpUnit → Tbl OpUnit) (d : Dev) : (d.onOps f).boxes = d.boxes := rfl
@[simp] theorem Dev.onOps_can (f : Tbl OpUnit → Tbl OpUnit) (d : Dev) : (d.onOps f).can = d.can := rfl
@[simp] theorem Dev.onOps_faults (f : Tbl OpUnit → Tbl OpUnit) (d : Dev) : (d.onOps f).faults = d.faults := rfl
@[simp] theorem Dev.onOps_inhibit (f : Tbl OpUnit → Tbl OpUnit) (d : Dev) : (d.onOps f).inhibit = d.inhibit := rfl
@[simp] theorem Dev.onOps_monitors (f : Tbl OpUnit → Tbl OpUnit) (d : Dev) : (d.onOps f).monitors = d.monitors := rfl
@[simp] theorem Dev.onOps_parts (f : Tbl OpUnit → Tbl OpUnit) (d : Dev) : (d.onOps f).parts = d.parts := rfl
@[simp] theorem Dev.onOps_pds (f : Tbl OpUnit → Tbl OpUnit) (d : Dev) : (d.onOps f).pds = d.pds := rfl
@[simp] theorem Dev.onOps_resets (f : Tbl OpUnit → Tbl OpUnit) (d : Dev) : (d.onOps f).resets = d.resets := rfl
@[simp] theorem Dev.onOps_net (f : Tbl OpUnit → Tbl OpUnit) (d : Dev) : (d.onOps f).net = d.net := rfl
@[simp] theorem Dev.onOps_nis (f : Tbl OpUnit → Tbl OpUnit) (d : Dev) : (d.onOps f).nis = d.nis := rfl
@[simp] theorem Dev.onOps_probes (f : Tbl OpUnit → Tbl OpUnit) (d : Dev) : (d.onOps f).probes = d.probes := rfl
@[simp] theorem Dev.onOps_ddr (f : Tbl OpUnit → Tbl OpUnit) (d : Dev) : (d.onOps f).ddr = d.ddr := rfl
@[simp] theorem Dev.onOps_doms (f : Tbl OpUnit → Tbl OpUnit) (d : Dev) : (d.onOps f).doms = d.doms := rfl
@[simp] theorem Dev.onOps_matrix (f : Tbl OpUnit → Tbl OpUnit) (d : Dev) : (d.onOps f).matrix = d.matrix := rfl
@[simp] theorem Dev.onOps_bridge (f : Tbl OpUnit → Tbl OpUnit) (d : Dev) : (d.onOps f).bridge = d.bridge := rfl
@[simp] theorem Dev.onOps_queues (f : Tbl OpUnit → Tbl OpUnit) (d : Dev) : (d.onOps f).queues = d.queues := rfl
@[simp] theorem Dev.onOps_host (f : Tbl OpUnit → Tbl OpUnit) (d : Dev) : (d.onOps f).host = d.host := rfl
@[simp] theorem Dev.onOps_conv (f : Tbl OpUnit → Tbl OpUnit) (d : Dev) : (d.onOps f).conv = d.conv := rfl
@[simp] theorem Dev.onOps_boot (f : Tbl OpUnit → Tbl OpUnit) (d : Dev) : (d.onOps f).boot = d.boot := rfl
@[simp] theorem Dev.onOps_eth (f : Tbl OpUnit → Tbl OpUnit) (d : Dev) : (d.onOps f).eth = d.eth := rfl
@[simp] theorem Dev.onOps_ops (f : Tbl OpUnit → Tbl OpUnit) (d : Dev) : (d.onOps f).ops = f d.ops := rfl
@[simp] theorem Dev.onOps_timing (f : Tbl OpUnit → Tbl OpUnit) (d : Dev) : (d.onOps f).timing = d.timing := rfl
@[simp] theorem Dev.onOps_flash (f : Tbl OpUnit → Tbl OpUnit) (d : Dev) : (d.onOps f).flash = d.flash := rfl
@[simp] theorem Dev.onOps_otp (f : Tbl OpUnit → Tbl OpUnit) (d : Dev) : (d.onOps f).otp = d.otp := rfl
@[simp] theorem Dev.onOps_mem (f : Tbl OpUnit → Tbl OpUnit) (d : Dev) : (d.onOps f).mem = d.mem := rfl
@[simp] theorem Dev.onOps_undef (f : Tbl OpUnit → Tbl OpUnit) (d : Dev) : (d.onOps f).undef = d.undef := rfl
@[simp] theorem Dev.onOps_bus (f : Tbl OpUnit → Tbl OpUnit) (d : Dev) : (d.onOps f).bus = d.bus := rfl

/-! `Dev.onTiming` changes `timing`. -/

@[simp] theorem Dev.onTiming_clock (f : Timing → Timing) (d : Dev) : (d.onTiming f).clock = d.clock := rfl
@[simp] theorem Dev.onTiming_power (f : Timing → Timing) (d : Dev) : (d.onTiming f).power = d.power := rfl
@[simp] theorem Dev.onTiming_free (f : Timing → Timing) (d : Dev) : (d.onTiming f).free = d.free := rfl
@[simp] theorem Dev.onTiming_store (f : Timing → Timing) (d : Dev) : (d.onTiming f).store = d.store := rfl
@[simp] theorem Dev.onTiming_boxes (f : Timing → Timing) (d : Dev) : (d.onTiming f).boxes = d.boxes := rfl
@[simp] theorem Dev.onTiming_can (f : Timing → Timing) (d : Dev) : (d.onTiming f).can = d.can := rfl
@[simp] theorem Dev.onTiming_faults (f : Timing → Timing) (d : Dev) : (d.onTiming f).faults = d.faults := rfl
@[simp] theorem Dev.onTiming_inhibit (f : Timing → Timing) (d : Dev) : (d.onTiming f).inhibit = d.inhibit := rfl
@[simp] theorem Dev.onTiming_monitors (f : Timing → Timing) (d : Dev) : (d.onTiming f).monitors = d.monitors := rfl
@[simp] theorem Dev.onTiming_parts (f : Timing → Timing) (d : Dev) : (d.onTiming f).parts = d.parts := rfl
@[simp] theorem Dev.onTiming_pds (f : Timing → Timing) (d : Dev) : (d.onTiming f).pds = d.pds := rfl
@[simp] theorem Dev.onTiming_resets (f : Timing → Timing) (d : Dev) : (d.onTiming f).resets = d.resets := rfl
@[simp] theorem Dev.onTiming_net (f : Timing → Timing) (d : Dev) : (d.onTiming f).net = d.net := rfl
@[simp] theorem Dev.onTiming_nis (f : Timing → Timing) (d : Dev) : (d.onTiming f).nis = d.nis := rfl
@[simp] theorem Dev.onTiming_probes (f : Timing → Timing) (d : Dev) : (d.onTiming f).probes = d.probes := rfl
@[simp] theorem Dev.onTiming_ddr (f : Timing → Timing) (d : Dev) : (d.onTiming f).ddr = d.ddr := rfl
@[simp] theorem Dev.onTiming_doms (f : Timing → Timing) (d : Dev) : (d.onTiming f).doms = d.doms := rfl
@[simp] theorem Dev.onTiming_matrix (f : Timing → Timing) (d : Dev) : (d.onTiming f).matrix = d.matrix := rfl
@[simp] theorem Dev.onTiming_bridge (f : Timing → Timing) (d : Dev) : (d.onTiming f).bridge = d.bridge := rfl
@[simp] theorem Dev.onTiming_queues (f : Timing → Timing) (d : Dev) : (d.onTiming f).queues = d.queues := rfl
@[simp] theorem Dev.onTiming_host (f : Timing → Timing) (d : Dev) : (d.onTiming f).host = d.host := rfl
@[simp] theorem Dev.onTiming_conv (f : Timing → Timing) (d : Dev) : (d.onTiming f).conv = d.conv := rfl
@[simp] theorem Dev.onTiming_boot (f : Timing → Timing) (d : Dev) : (d.onTiming f).boot = d.boot := rfl
@[simp] theorem Dev.onTiming_eth (f : Timing → Timing) (d : Dev) : (d.onTiming f).eth = d.eth := rfl
@[simp] theorem Dev.onTiming_ops (f : Timing → Timing) (d : Dev) : (d.onTiming f).ops = d.ops := rfl
@[simp] theorem Dev.onTiming_timing (f : Timing → Timing) (d : Dev) : (d.onTiming f).timing = f d.timing := rfl
@[simp] theorem Dev.onTiming_flash (f : Timing → Timing) (d : Dev) : (d.onTiming f).flash = d.flash := rfl
@[simp] theorem Dev.onTiming_otp (f : Timing → Timing) (d : Dev) : (d.onTiming f).otp = d.otp := rfl
@[simp] theorem Dev.onTiming_mem (f : Timing → Timing) (d : Dev) : (d.onTiming f).mem = d.mem := rfl
@[simp] theorem Dev.onTiming_undef (f : Timing → Timing) (d : Dev) : (d.onTiming f).undef = d.undef := rfl
@[simp] theorem Dev.onTiming_bus (f : Timing → Timing) (d : Dev) : (d.onTiming f).bus = d.bus := rfl

/-! `Dev.onFlash` changes `flash`. -/

@[simp] theorem Dev.onFlash_clock (f : Flash → Flash) (d : Dev) : (d.onFlash f).clock = d.clock := rfl
@[simp] theorem Dev.onFlash_power (f : Flash → Flash) (d : Dev) : (d.onFlash f).power = d.power := rfl
@[simp] theorem Dev.onFlash_free (f : Flash → Flash) (d : Dev) : (d.onFlash f).free = d.free := rfl
@[simp] theorem Dev.onFlash_store (f : Flash → Flash) (d : Dev) : (d.onFlash f).store = d.store := rfl
@[simp] theorem Dev.onFlash_boxes (f : Flash → Flash) (d : Dev) : (d.onFlash f).boxes = d.boxes := rfl
@[simp] theorem Dev.onFlash_can (f : Flash → Flash) (d : Dev) : (d.onFlash f).can = d.can := rfl
@[simp] theorem Dev.onFlash_faults (f : Flash → Flash) (d : Dev) : (d.onFlash f).faults = d.faults := rfl
@[simp] theorem Dev.onFlash_inhibit (f : Flash → Flash) (d : Dev) : (d.onFlash f).inhibit = d.inhibit := rfl
@[simp] theorem Dev.onFlash_monitors (f : Flash → Flash) (d : Dev) : (d.onFlash f).monitors = d.monitors := rfl
@[simp] theorem Dev.onFlash_parts (f : Flash → Flash) (d : Dev) : (d.onFlash f).parts = d.parts := rfl
@[simp] theorem Dev.onFlash_pds (f : Flash → Flash) (d : Dev) : (d.onFlash f).pds = d.pds := rfl
@[simp] theorem Dev.onFlash_resets (f : Flash → Flash) (d : Dev) : (d.onFlash f).resets = d.resets := rfl
@[simp] theorem Dev.onFlash_net (f : Flash → Flash) (d : Dev) : (d.onFlash f).net = d.net := rfl
@[simp] theorem Dev.onFlash_nis (f : Flash → Flash) (d : Dev) : (d.onFlash f).nis = d.nis := rfl
@[simp] theorem Dev.onFlash_probes (f : Flash → Flash) (d : Dev) : (d.onFlash f).probes = d.probes := rfl
@[simp] theorem Dev.onFlash_ddr (f : Flash → Flash) (d : Dev) : (d.onFlash f).ddr = d.ddr := rfl
@[simp] theorem Dev.onFlash_doms (f : Flash → Flash) (d : Dev) : (d.onFlash f).doms = d.doms := rfl
@[simp] theorem Dev.onFlash_matrix (f : Flash → Flash) (d : Dev) : (d.onFlash f).matrix = d.matrix := rfl
@[simp] theorem Dev.onFlash_bridge (f : Flash → Flash) (d : Dev) : (d.onFlash f).bridge = d.bridge := rfl
@[simp] theorem Dev.onFlash_queues (f : Flash → Flash) (d : Dev) : (d.onFlash f).queues = d.queues := rfl
@[simp] theorem Dev.onFlash_host (f : Flash → Flash) (d : Dev) : (d.onFlash f).host = d.host := rfl
@[simp] theorem Dev.onFlash_conv (f : Flash → Flash) (d : Dev) : (d.onFlash f).conv = d.conv := rfl
@[simp] theorem Dev.onFlash_boot (f : Flash → Flash) (d : Dev) : (d.onFlash f).boot = d.boot := rfl
@[simp] theorem Dev.onFlash_eth (f : Flash → Flash) (d : Dev) : (d.onFlash f).eth = d.eth := rfl
@[simp] theorem Dev.onFlash_ops (f : Flash → Flash) (d : Dev) : (d.onFlash f).ops = d.ops := rfl
@[simp] theorem Dev.onFlash_timing (f : Flash → Flash) (d : Dev) : (d.onFlash f).timing = d.timing := rfl
@[simp] theorem Dev.onFlash_flash (f : Flash → Flash) (d : Dev) : (d.onFlash f).flash = f d.flash := rfl
@[simp] theorem Dev.onFlash_otp (f : Flash → Flash) (d : Dev) : (d.onFlash f).otp = d.otp := rfl
@[simp] theorem Dev.onFlash_mem (f : Flash → Flash) (d : Dev) : (d.onFlash f).mem = d.mem := rfl
@[simp] theorem Dev.onFlash_undef (f : Flash → Flash) (d : Dev) : (d.onFlash f).undef = d.undef := rfl
@[simp] theorem Dev.onFlash_bus (f : Flash → Flash) (d : Dev) : (d.onFlash f).bus = d.bus := rfl

/-! `Dev.onOtp` changes `otp`. -/

@[simp] theorem Dev.onOtp_clock (f : Otp → Otp) (d : Dev) : (d.onOtp f).clock = d.clock := rfl
@[simp] theorem Dev.onOtp_power (f : Otp → Otp) (d : Dev) : (d.onOtp f).power = d.power := rfl
@[simp] theorem Dev.onOtp_free (f : Otp → Otp) (d : Dev) : (d.onOtp f).free = d.free := rfl
@[simp] theorem Dev.onOtp_store (f : Otp → Otp) (d : Dev) : (d.onOtp f).store = d.store := rfl
@[simp] theorem Dev.onOtp_boxes (f : Otp → Otp) (d : Dev) : (d.onOtp f).boxes = d.boxes := rfl
@[simp] theorem Dev.onOtp_can (f : Otp → Otp) (d : Dev) : (d.onOtp f).can = d.can := rfl
@[simp] theorem Dev.onOtp_faults (f : Otp → Otp) (d : Dev) : (d.onOtp f).faults = d.faults := rfl
@[simp] theorem Dev.onOtp_inhibit (f : Otp → Otp) (d : Dev) : (d.onOtp f).inhibit = d.inhibit := rfl
@[simp] theorem Dev.onOtp_monitors (f : Otp → Otp) (d : Dev) : (d.onOtp f).monitors = d.monitors := rfl
@[simp] theorem Dev.onOtp_parts (f : Otp → Otp) (d : Dev) : (d.onOtp f).parts = d.parts := rfl
@[simp] theorem Dev.onOtp_pds (f : Otp → Otp) (d : Dev) : (d.onOtp f).pds = d.pds := rfl
@[simp] theorem Dev.onOtp_resets (f : Otp → Otp) (d : Dev) : (d.onOtp f).resets = d.resets := rfl
@[simp] theorem Dev.onOtp_net (f : Otp → Otp) (d : Dev) : (d.onOtp f).net = d.net := rfl
@[simp] theorem Dev.onOtp_nis (f : Otp → Otp) (d : Dev) : (d.onOtp f).nis = d.nis := rfl
@[simp] theorem Dev.onOtp_probes (f : Otp → Otp) (d : Dev) : (d.onOtp f).probes = d.probes := rfl
@[simp] theorem Dev.onOtp_ddr (f : Otp → Otp) (d : Dev) : (d.onOtp f).ddr = d.ddr := rfl
@[simp] theorem Dev.onOtp_doms (f : Otp → Otp) (d : Dev) : (d.onOtp f).doms = d.doms := rfl
@[simp] theorem Dev.onOtp_matrix (f : Otp → Otp) (d : Dev) : (d.onOtp f).matrix = d.matrix := rfl
@[simp] theorem Dev.onOtp_bridge (f : Otp → Otp) (d : Dev) : (d.onOtp f).bridge = d.bridge := rfl
@[simp] theorem Dev.onOtp_queues (f : Otp → Otp) (d : Dev) : (d.onOtp f).queues = d.queues := rfl
@[simp] theorem Dev.onOtp_host (f : Otp → Otp) (d : Dev) : (d.onOtp f).host = d.host := rfl
@[simp] theorem Dev.onOtp_conv (f : Otp → Otp) (d : Dev) : (d.onOtp f).conv = d.conv := rfl
@[simp] theorem Dev.onOtp_boot (f : Otp → Otp) (d : Dev) : (d.onOtp f).boot = d.boot := rfl
@[simp] theorem Dev.onOtp_eth (f : Otp → Otp) (d : Dev) : (d.onOtp f).eth = d.eth := rfl
@[simp] theorem Dev.onOtp_ops (f : Otp → Otp) (d : Dev) : (d.onOtp f).ops = d.ops := rfl
@[simp] theorem Dev.onOtp_timing (f : Otp → Otp) (d : Dev) : (d.onOtp f).timing = d.timing := rfl
@[simp] theorem Dev.onOtp_flash (f : Otp → Otp) (d : Dev) : (d.onOtp f).flash = d.flash := rfl
@[simp] theorem Dev.onOtp_otp (f : Otp → Otp) (d : Dev) : (d.onOtp f).otp = f d.otp := rfl
@[simp] theorem Dev.onOtp_mem (f : Otp → Otp) (d : Dev) : (d.onOtp f).mem = d.mem := rfl
@[simp] theorem Dev.onOtp_undef (f : Otp → Otp) (d : Dev) : (d.onOtp f).undef = d.undef := rfl
@[simp] theorem Dev.onOtp_bus (f : Otp → Otp) (d : Dev) : (d.onOtp f).bus = d.bus := rfl

/-! `Dev.upNi` changes `nis`. -/

@[simp] theorem Dev.upNi_clock (n : Nat) (f : Ni → Ni) (d : Dev) : (d.upNi n f).clock = d.clock := rfl
@[simp] theorem Dev.upNi_power (n : Nat) (f : Ni → Ni) (d : Dev) : (d.upNi n f).power = d.power := rfl
@[simp] theorem Dev.upNi_free (n : Nat) (f : Ni → Ni) (d : Dev) : (d.upNi n f).free = d.free := rfl
@[simp] theorem Dev.upNi_store (n : Nat) (f : Ni → Ni) (d : Dev) : (d.upNi n f).store = d.store := rfl
@[simp] theorem Dev.upNi_boxes (n : Nat) (f : Ni → Ni) (d : Dev) : (d.upNi n f).boxes = d.boxes := rfl
@[simp] theorem Dev.upNi_can (n : Nat) (f : Ni → Ni) (d : Dev) : (d.upNi n f).can = d.can := rfl
@[simp] theorem Dev.upNi_faults (n : Nat) (f : Ni → Ni) (d : Dev) : (d.upNi n f).faults = d.faults := rfl
@[simp] theorem Dev.upNi_inhibit (n : Nat) (f : Ni → Ni) (d : Dev) : (d.upNi n f).inhibit = d.inhibit := rfl
@[simp] theorem Dev.upNi_monitors (n : Nat) (f : Ni → Ni) (d : Dev) : (d.upNi n f).monitors = d.monitors := rfl
@[simp] theorem Dev.upNi_parts (n : Nat) (f : Ni → Ni) (d : Dev) : (d.upNi n f).parts = d.parts := rfl
@[simp] theorem Dev.upNi_pds (n : Nat) (f : Ni → Ni) (d : Dev) : (d.upNi n f).pds = d.pds := rfl
@[simp] theorem Dev.upNi_resets (n : Nat) (f : Ni → Ni) (d : Dev) : (d.upNi n f).resets = d.resets := rfl
@[simp] theorem Dev.upNi_net (n : Nat) (f : Ni → Ni) (d : Dev) : (d.upNi n f).net = d.net := rfl
@[simp] theorem Dev.upNi_probes (n : Nat) (f : Ni → Ni) (d : Dev) : (d.upNi n f).probes = d.probes := rfl
@[simp] theorem Dev.upNi_ddr (n : Nat) (f : Ni → Ni) (d : Dev) : (d.upNi n f).ddr = d.ddr := rfl
@[simp] theorem Dev.upNi_doms (n : Nat) (f : Ni → Ni) (d : Dev) : (d.upNi n f).doms = d.doms := rfl
@[simp] theorem Dev.upNi_matrix (n : Nat) (f : Ni → Ni) (d : Dev) : (d.upNi n f).matrix = d.matrix := rfl
@[simp] theorem Dev.upNi_bridge (n : Nat) (f : Ni → Ni) (d : Dev) : (d.upNi n f).bridge = d.bridge := rfl
@[simp] theorem Dev.upNi_queues (n : Nat) (f : Ni → Ni) (d : Dev) : (d.upNi n f).queues = d.queues := rfl
@[simp] theorem Dev.upNi_host (n : Nat) (f : Ni → Ni) (d : Dev) : (d.upNi n f).host = d.host := rfl
@[simp] theorem Dev.upNi_conv (n : Nat) (f : Ni → Ni) (d : Dev) : (d.upNi n f).conv = d.conv := rfl
@[simp] theorem Dev.upNi_boot (n : Nat) (f : Ni → Ni) (d : Dev) : (d.upNi n f).boot = d.boot := rfl
@[simp] theorem Dev.upNi_eth (n : Nat) (f : Ni → Ni) (d : Dev) : (d.upNi n f).eth = d.eth := rfl
@[simp] theorem Dev.upNi_ops (n : Nat) (f : Ni → Ni) (d : Dev) : (d.upNi n f).ops = d.ops := rfl
@[simp] theorem Dev.upNi_timing (n : Nat) (f : Ni → Ni) (d : Dev) : (d.upNi n f).timing = d.timing := rfl
@[simp] theorem Dev.upNi_flash (n : Nat) (f : Ni → Ni) (d : Dev) : (d.upNi n f).flash = d.flash := rfl
@[simp] theorem Dev.upNi_otp (n : Nat) (f : Ni → Ni) (d : Dev) : (d.upNi n f).otp = d.otp := rfl
@[simp] theorem Dev.upNi_mem (n : Nat) (f : Ni → Ni) (d : Dev) : (d.upNi n f).mem = d.mem := rfl
@[simp] theorem Dev.upNi_undef (n : Nat) (f : Ni → Ni) (d : Dev) : (d.upNi n f).undef = d.undef := rfl
@[simp] theorem Dev.upNi_bus (n : Nat) (f : Ni → Ni) (d : Dev) : (d.upNi n f).bus = d.bus := rfl

/-! `Dev.upDom` changes `doms`. -/

@[simp] theorem Dev.upDom_clock (k : Nat) (f : Domain → Domain) (d : Dev) : (d.upDom k f).clock = d.clock := rfl
@[simp] theorem Dev.upDom_power (k : Nat) (f : Domain → Domain) (d : Dev) : (d.upDom k f).power = d.power := rfl
@[simp] theorem Dev.upDom_free (k : Nat) (f : Domain → Domain) (d : Dev) : (d.upDom k f).free = d.free := rfl
@[simp] theorem Dev.upDom_store (k : Nat) (f : Domain → Domain) (d : Dev) : (d.upDom k f).store = d.store := rfl
@[simp] theorem Dev.upDom_boxes (k : Nat) (f : Domain → Domain) (d : Dev) : (d.upDom k f).boxes = d.boxes := rfl
@[simp] theorem Dev.upDom_can (k : Nat) (f : Domain → Domain) (d : Dev) : (d.upDom k f).can = d.can := rfl
@[simp] theorem Dev.upDom_faults (k : Nat) (f : Domain → Domain) (d : Dev) : (d.upDom k f).faults = d.faults := rfl
@[simp] theorem Dev.upDom_inhibit (k : Nat) (f : Domain → Domain) (d : Dev) : (d.upDom k f).inhibit = d.inhibit := rfl
@[simp] theorem Dev.upDom_monitors (k : Nat) (f : Domain → Domain) (d : Dev) : (d.upDom k f).monitors = d.monitors := rfl
@[simp] theorem Dev.upDom_parts (k : Nat) (f : Domain → Domain) (d : Dev) : (d.upDom k f).parts = d.parts := rfl
@[simp] theorem Dev.upDom_pds (k : Nat) (f : Domain → Domain) (d : Dev) : (d.upDom k f).pds = d.pds := rfl
@[simp] theorem Dev.upDom_resets (k : Nat) (f : Domain → Domain) (d : Dev) : (d.upDom k f).resets = d.resets := rfl
@[simp] theorem Dev.upDom_net (k : Nat) (f : Domain → Domain) (d : Dev) : (d.upDom k f).net = d.net := rfl
@[simp] theorem Dev.upDom_nis (k : Nat) (f : Domain → Domain) (d : Dev) : (d.upDom k f).nis = d.nis := rfl
@[simp] theorem Dev.upDom_probes (k : Nat) (f : Domain → Domain) (d : Dev) : (d.upDom k f).probes = d.probes := rfl
@[simp] theorem Dev.upDom_ddr (k : Nat) (f : Domain → Domain) (d : Dev) : (d.upDom k f).ddr = d.ddr := rfl
@[simp] theorem Dev.upDom_matrix (k : Nat) (f : Domain → Domain) (d : Dev) : (d.upDom k f).matrix = d.matrix := rfl
@[simp] theorem Dev.upDom_bridge (k : Nat) (f : Domain → Domain) (d : Dev) : (d.upDom k f).bridge = d.bridge := rfl
@[simp] theorem Dev.upDom_queues (k : Nat) (f : Domain → Domain) (d : Dev) : (d.upDom k f).queues = d.queues := rfl
@[simp] theorem Dev.upDom_host (k : Nat) (f : Domain → Domain) (d : Dev) : (d.upDom k f).host = d.host := rfl
@[simp] theorem Dev.upDom_conv (k : Nat) (f : Domain → Domain) (d : Dev) : (d.upDom k f).conv = d.conv := rfl
@[simp] theorem Dev.upDom_boot (k : Nat) (f : Domain → Domain) (d : Dev) : (d.upDom k f).boot = d.boot := rfl
@[simp] theorem Dev.upDom_eth (k : Nat) (f : Domain → Domain) (d : Dev) : (d.upDom k f).eth = d.eth := rfl
@[simp] theorem Dev.upDom_ops (k : Nat) (f : Domain → Domain) (d : Dev) : (d.upDom k f).ops = d.ops := rfl
@[simp] theorem Dev.upDom_timing (k : Nat) (f : Domain → Domain) (d : Dev) : (d.upDom k f).timing = d.timing := rfl
@[simp] theorem Dev.upDom_flash (k : Nat) (f : Domain → Domain) (d : Dev) : (d.upDom k f).flash = d.flash := rfl
@[simp] theorem Dev.upDom_otp (k : Nat) (f : Domain → Domain) (d : Dev) : (d.upDom k f).otp = d.otp := rfl
@[simp] theorem Dev.upDom_mem (k : Nat) (f : Domain → Domain) (d : Dev) : (d.upDom k f).mem = d.mem := rfl
@[simp] theorem Dev.upDom_undef (k : Nat) (f : Domain → Domain) (d : Dev) : (d.upDom k f).undef = d.undef := rfl
@[simp] theorem Dev.upDom_bus (k : Nat) (f : Domain → Domain) (d : Dev) : (d.upDom k f).bus = d.bus := rfl

/-! `Dev.spend` changes `faults`. -/

@[simp] theorem Dev.spend_clock (d : Dev) : (d.spend).clock = d.clock := rfl
@[simp] theorem Dev.spend_power (d : Dev) : (d.spend).power = d.power := rfl
@[simp] theorem Dev.spend_free (d : Dev) : (d.spend).free = d.free := rfl
@[simp] theorem Dev.spend_store (d : Dev) : (d.spend).store = d.store := rfl
@[simp] theorem Dev.spend_boxes (d : Dev) : (d.spend).boxes = d.boxes := rfl
@[simp] theorem Dev.spend_can (d : Dev) : (d.spend).can = d.can := rfl
@[simp] theorem Dev.spend_inhibit (d : Dev) : (d.spend).inhibit = d.inhibit := rfl
@[simp] theorem Dev.spend_monitors (d : Dev) : (d.spend).monitors = d.monitors := rfl
@[simp] theorem Dev.spend_parts (d : Dev) : (d.spend).parts = d.parts := rfl
@[simp] theorem Dev.spend_pds (d : Dev) : (d.spend).pds = d.pds := rfl
@[simp] theorem Dev.spend_resets (d : Dev) : (d.spend).resets = d.resets := rfl
@[simp] theorem Dev.spend_net (d : Dev) : (d.spend).net = d.net := rfl
@[simp] theorem Dev.spend_nis (d : Dev) : (d.spend).nis = d.nis := rfl
@[simp] theorem Dev.spend_probes (d : Dev) : (d.spend).probes = d.probes := rfl
@[simp] theorem Dev.spend_ddr (d : Dev) : (d.spend).ddr = d.ddr := rfl
@[simp] theorem Dev.spend_doms (d : Dev) : (d.spend).doms = d.doms := rfl
@[simp] theorem Dev.spend_matrix (d : Dev) : (d.spend).matrix = d.matrix := rfl
@[simp] theorem Dev.spend_bridge (d : Dev) : (d.spend).bridge = d.bridge := rfl
@[simp] theorem Dev.spend_queues (d : Dev) : (d.spend).queues = d.queues := rfl
@[simp] theorem Dev.spend_host (d : Dev) : (d.spend).host = d.host := rfl
@[simp] theorem Dev.spend_conv (d : Dev) : (d.spend).conv = d.conv := rfl
@[simp] theorem Dev.spend_boot (d : Dev) : (d.spend).boot = d.boot := rfl
@[simp] theorem Dev.spend_eth (d : Dev) : (d.spend).eth = d.eth := rfl
@[simp] theorem Dev.spend_ops (d : Dev) : (d.spend).ops = d.ops := rfl
@[simp] theorem Dev.spend_timing (d : Dev) : (d.spend).timing = d.timing := rfl
@[simp] theorem Dev.spend_flash (d : Dev) : (d.spend).flash = d.flash := rfl
@[simp] theorem Dev.spend_otp (d : Dev) : (d.spend).otp = d.otp := rfl
@[simp] theorem Dev.spend_mem (d : Dev) : (d.spend).mem = d.mem := rfl
@[simp] theorem Dev.spend_undef (d : Dev) : (d.spend).undef = d.undef := rfl
@[simp] theorem Dev.spend_bus (d : Dev) : (d.spend).bus = d.bus := rfl

/-! `Dev.upPart` changes `parts`. -/

@[simp] theorem Dev.upPart_clock (p : Nat) (f : Part → Part) (d : Dev) : (d.upPart p f).clock = d.clock := rfl
@[simp] theorem Dev.upPart_power (p : Nat) (f : Part → Part) (d : Dev) : (d.upPart p f).power = d.power := rfl
@[simp] theorem Dev.upPart_free (p : Nat) (f : Part → Part) (d : Dev) : (d.upPart p f).free = d.free := rfl
@[simp] theorem Dev.upPart_store (p : Nat) (f : Part → Part) (d : Dev) : (d.upPart p f).store = d.store := rfl
@[simp] theorem Dev.upPart_boxes (p : Nat) (f : Part → Part) (d : Dev) : (d.upPart p f).boxes = d.boxes := rfl
@[simp] theorem Dev.upPart_can (p : Nat) (f : Part → Part) (d : Dev) : (d.upPart p f).can = d.can := rfl
@[simp] theorem Dev.upPart_faults (p : Nat) (f : Part → Part) (d : Dev) : (d.upPart p f).faults = d.faults := rfl
@[simp] theorem Dev.upPart_inhibit (p : Nat) (f : Part → Part) (d : Dev) : (d.upPart p f).inhibit = d.inhibit := rfl
@[simp] theorem Dev.upPart_monitors (p : Nat) (f : Part → Part) (d : Dev) : (d.upPart p f).monitors = d.monitors := rfl
@[simp] theorem Dev.upPart_pds (p : Nat) (f : Part → Part) (d : Dev) : (d.upPart p f).pds = d.pds := rfl
@[simp] theorem Dev.upPart_resets (p : Nat) (f : Part → Part) (d : Dev) : (d.upPart p f).resets = d.resets := rfl
@[simp] theorem Dev.upPart_net (p : Nat) (f : Part → Part) (d : Dev) : (d.upPart p f).net = d.net := rfl
@[simp] theorem Dev.upPart_nis (p : Nat) (f : Part → Part) (d : Dev) : (d.upPart p f).nis = d.nis := rfl
@[simp] theorem Dev.upPart_probes (p : Nat) (f : Part → Part) (d : Dev) : (d.upPart p f).probes = d.probes := rfl
@[simp] theorem Dev.upPart_ddr (p : Nat) (f : Part → Part) (d : Dev) : (d.upPart p f).ddr = d.ddr := rfl
@[simp] theorem Dev.upPart_doms (p : Nat) (f : Part → Part) (d : Dev) : (d.upPart p f).doms = d.doms := rfl
@[simp] theorem Dev.upPart_matrix (p : Nat) (f : Part → Part) (d : Dev) : (d.upPart p f).matrix = d.matrix := rfl
@[simp] theorem Dev.upPart_bridge (p : Nat) (f : Part → Part) (d : Dev) : (d.upPart p f).bridge = d.bridge := rfl
@[simp] theorem Dev.upPart_queues (p : Nat) (f : Part → Part) (d : Dev) : (d.upPart p f).queues = d.queues := rfl
@[simp] theorem Dev.upPart_host (p : Nat) (f : Part → Part) (d : Dev) : (d.upPart p f).host = d.host := rfl
@[simp] theorem Dev.upPart_conv (p : Nat) (f : Part → Part) (d : Dev) : (d.upPart p f).conv = d.conv := rfl
@[simp] theorem Dev.upPart_boot (p : Nat) (f : Part → Part) (d : Dev) : (d.upPart p f).boot = d.boot := rfl
@[simp] theorem Dev.upPart_eth (p : Nat) (f : Part → Part) (d : Dev) : (d.upPart p f).eth = d.eth := rfl
@[simp] theorem Dev.upPart_ops (p : Nat) (f : Part → Part) (d : Dev) : (d.upPart p f).ops = d.ops := rfl
@[simp] theorem Dev.upPart_timing (p : Nat) (f : Part → Part) (d : Dev) : (d.upPart p f).timing = d.timing := rfl
@[simp] theorem Dev.upPart_flash (p : Nat) (f : Part → Part) (d : Dev) : (d.upPart p f).flash = d.flash := rfl
@[simp] theorem Dev.upPart_otp (p : Nat) (f : Part → Part) (d : Dev) : (d.upPart p f).otp = d.otp := rfl
@[simp] theorem Dev.upPart_mem (p : Nat) (f : Part → Part) (d : Dev) : (d.upPart p f).mem = d.mem := rfl
@[simp] theorem Dev.upPart_undef (p : Nat) (f : Part → Part) (d : Dev) : (d.upPart p f).undef = d.undef := rfl
@[simp] theorem Dev.upPart_bus (p : Nat) (f : Part → Part) (d : Dev) : (d.upPart p f).bus = d.bus := rfl

/-! `Dev.upPd` changes `pds`. -/

@[simp] theorem Dev.upPd_clock (k : Nat) (f : Pd → Pd) (d : Dev) : (d.upPd k f).clock = d.clock := rfl
@[simp] theorem Dev.upPd_power (k : Nat) (f : Pd → Pd) (d : Dev) : (d.upPd k f).power = d.power := rfl
@[simp] theorem Dev.upPd_free (k : Nat) (f : Pd → Pd) (d : Dev) : (d.upPd k f).free = d.free := rfl
@[simp] theorem Dev.upPd_store (k : Nat) (f : Pd → Pd) (d : Dev) : (d.upPd k f).store = d.store := rfl
@[simp] theorem Dev.upPd_boxes (k : Nat) (f : Pd → Pd) (d : Dev) : (d.upPd k f).boxes = d.boxes := rfl
@[simp] theorem Dev.upPd_can (k : Nat) (f : Pd → Pd) (d : Dev) : (d.upPd k f).can = d.can := rfl
@[simp] theorem Dev.upPd_faults (k : Nat) (f : Pd → Pd) (d : Dev) : (d.upPd k f).faults = d.faults := rfl
@[simp] theorem Dev.upPd_inhibit (k : Nat) (f : Pd → Pd) (d : Dev) : (d.upPd k f).inhibit = d.inhibit := rfl
@[simp] theorem Dev.upPd_monitors (k : Nat) (f : Pd → Pd) (d : Dev) : (d.upPd k f).monitors = d.monitors := rfl
@[simp] theorem Dev.upPd_parts (k : Nat) (f : Pd → Pd) (d : Dev) : (d.upPd k f).parts = d.parts := rfl
@[simp] theorem Dev.upPd_resets (k : Nat) (f : Pd → Pd) (d : Dev) : (d.upPd k f).resets = d.resets := rfl
@[simp] theorem Dev.upPd_net (k : Nat) (f : Pd → Pd) (d : Dev) : (d.upPd k f).net = d.net := rfl
@[simp] theorem Dev.upPd_nis (k : Nat) (f : Pd → Pd) (d : Dev) : (d.upPd k f).nis = d.nis := rfl
@[simp] theorem Dev.upPd_probes (k : Nat) (f : Pd → Pd) (d : Dev) : (d.upPd k f).probes = d.probes := rfl
@[simp] theorem Dev.upPd_ddr (k : Nat) (f : Pd → Pd) (d : Dev) : (d.upPd k f).ddr = d.ddr := rfl
@[simp] theorem Dev.upPd_doms (k : Nat) (f : Pd → Pd) (d : Dev) : (d.upPd k f).doms = d.doms := rfl
@[simp] theorem Dev.upPd_matrix (k : Nat) (f : Pd → Pd) (d : Dev) : (d.upPd k f).matrix = d.matrix := rfl
@[simp] theorem Dev.upPd_bridge (k : Nat) (f : Pd → Pd) (d : Dev) : (d.upPd k f).bridge = d.bridge := rfl
@[simp] theorem Dev.upPd_queues (k : Nat) (f : Pd → Pd) (d : Dev) : (d.upPd k f).queues = d.queues := rfl
@[simp] theorem Dev.upPd_host (k : Nat) (f : Pd → Pd) (d : Dev) : (d.upPd k f).host = d.host := rfl
@[simp] theorem Dev.upPd_conv (k : Nat) (f : Pd → Pd) (d : Dev) : (d.upPd k f).conv = d.conv := rfl
@[simp] theorem Dev.upPd_boot (k : Nat) (f : Pd → Pd) (d : Dev) : (d.upPd k f).boot = d.boot := rfl
@[simp] theorem Dev.upPd_eth (k : Nat) (f : Pd → Pd) (d : Dev) : (d.upPd k f).eth = d.eth := rfl
@[simp] theorem Dev.upPd_ops (k : Nat) (f : Pd → Pd) (d : Dev) : (d.upPd k f).ops = d.ops := rfl
@[simp] theorem Dev.upPd_timing (k : Nat) (f : Pd → Pd) (d : Dev) : (d.upPd k f).timing = d.timing := rfl
@[simp] theorem Dev.upPd_flash (k : Nat) (f : Pd → Pd) (d : Dev) : (d.upPd k f).flash = d.flash := rfl
@[simp] theorem Dev.upPd_otp (k : Nat) (f : Pd → Pd) (d : Dev) : (d.upPd k f).otp = d.otp := rfl
@[simp] theorem Dev.upPd_mem (k : Nat) (f : Pd → Pd) (d : Dev) : (d.upPd k f).mem = d.mem := rfl
@[simp] theorem Dev.upPd_undef (k : Nat) (f : Pd → Pd) (d : Dev) : (d.upPd k f).undef = d.undef := rfl
@[simp] theorem Dev.upPd_bus (k : Nat) (f : Pd → Pd) (d : Dev) : (d.upPd k f).bus = d.bus := rfl

/-! `Dev.upRouter` changes `net`. -/

@[simp] theorem Dev.upRouter_clock (r : Nat) (f : Router → Router) (d : Dev) : (d.upRouter r f).clock = d.clock := rfl
@[simp] theorem Dev.upRouter_power (r : Nat) (f : Router → Router) (d : Dev) : (d.upRouter r f).power = d.power := rfl
@[simp] theorem Dev.upRouter_free (r : Nat) (f : Router → Router) (d : Dev) : (d.upRouter r f).free = d.free := rfl
@[simp] theorem Dev.upRouter_store (r : Nat) (f : Router → Router) (d : Dev) : (d.upRouter r f).store = d.store := rfl
@[simp] theorem Dev.upRouter_boxes (r : Nat) (f : Router → Router) (d : Dev) : (d.upRouter r f).boxes = d.boxes := rfl
@[simp] theorem Dev.upRouter_can (r : Nat) (f : Router → Router) (d : Dev) : (d.upRouter r f).can = d.can := rfl
@[simp] theorem Dev.upRouter_faults (r : Nat) (f : Router → Router) (d : Dev) : (d.upRouter r f).faults = d.faults := rfl
@[simp] theorem Dev.upRouter_inhibit (r : Nat) (f : Router → Router) (d : Dev) : (d.upRouter r f).inhibit = d.inhibit := rfl
@[simp] theorem Dev.upRouter_monitors (r : Nat) (f : Router → Router) (d : Dev) : (d.upRouter r f).monitors = d.monitors := rfl
@[simp] theorem Dev.upRouter_parts (r : Nat) (f : Router → Router) (d : Dev) : (d.upRouter r f).parts = d.parts := rfl
@[simp] theorem Dev.upRouter_pds (r : Nat) (f : Router → Router) (d : Dev) : (d.upRouter r f).pds = d.pds := rfl
@[simp] theorem Dev.upRouter_resets (r : Nat) (f : Router → Router) (d : Dev) : (d.upRouter r f).resets = d.resets := rfl
@[simp] theorem Dev.upRouter_nis (r : Nat) (f : Router → Router) (d : Dev) : (d.upRouter r f).nis = d.nis := rfl
@[simp] theorem Dev.upRouter_probes (r : Nat) (f : Router → Router) (d : Dev) : (d.upRouter r f).probes = d.probes := rfl
@[simp] theorem Dev.upRouter_ddr (r : Nat) (f : Router → Router) (d : Dev) : (d.upRouter r f).ddr = d.ddr := rfl
@[simp] theorem Dev.upRouter_doms (r : Nat) (f : Router → Router) (d : Dev) : (d.upRouter r f).doms = d.doms := rfl
@[simp] theorem Dev.upRouter_matrix (r : Nat) (f : Router → Router) (d : Dev) : (d.upRouter r f).matrix = d.matrix := rfl
@[simp] theorem Dev.upRouter_bridge (r : Nat) (f : Router → Router) (d : Dev) : (d.upRouter r f).bridge = d.bridge := rfl
@[simp] theorem Dev.upRouter_queues (r : Nat) (f : Router → Router) (d : Dev) : (d.upRouter r f).queues = d.queues := rfl
@[simp] theorem Dev.upRouter_host (r : Nat) (f : Router → Router) (d : Dev) : (d.upRouter r f).host = d.host := rfl
@[simp] theorem Dev.upRouter_conv (r : Nat) (f : Router → Router) (d : Dev) : (d.upRouter r f).conv = d.conv := rfl
@[simp] theorem Dev.upRouter_boot (r : Nat) (f : Router → Router) (d : Dev) : (d.upRouter r f).boot = d.boot := rfl
@[simp] theorem Dev.upRouter_eth (r : Nat) (f : Router → Router) (d : Dev) : (d.upRouter r f).eth = d.eth := rfl
@[simp] theorem Dev.upRouter_ops (r : Nat) (f : Router → Router) (d : Dev) : (d.upRouter r f).ops = d.ops := rfl
@[simp] theorem Dev.upRouter_timing (r : Nat) (f : Router → Router) (d : Dev) : (d.upRouter r f).timing = d.timing := rfl
@[simp] theorem Dev.upRouter_flash (r : Nat) (f : Router → Router) (d : Dev) : (d.upRouter r f).flash = d.flash := rfl
@[simp] theorem Dev.upRouter_otp (r : Nat) (f : Router → Router) (d : Dev) : (d.upRouter r f).otp = d.otp := rfl
@[simp] theorem Dev.upRouter_mem (r : Nat) (f : Router → Router) (d : Dev) : (d.upRouter r f).mem = d.mem := rfl
@[simp] theorem Dev.upRouter_undef (r : Nat) (f : Router → Router) (d : Dev) : (d.upRouter r f).undef = d.undef := rfl
@[simp] theorem Dev.upRouter_bus (r : Nat) (f : Router → Router) (d : Dev) : (d.upRouter r f).bus = d.bus := rfl

/-! `Dev.upFn` changes `host`. -/

@[simp] theorem Dev.upFn_clock (k : Nat) (f : Fn → Fn) (d : Dev) : (d.upFn k f).clock = d.clock := rfl
@[simp] theorem Dev.upFn_power (k : Nat) (f : Fn → Fn) (d : Dev) : (d.upFn k f).power = d.power := rfl
@[simp] theorem Dev.upFn_free (k : Nat) (f : Fn → Fn) (d : Dev) : (d.upFn k f).free = d.free := rfl
@[simp] theorem Dev.upFn_store (k : Nat) (f : Fn → Fn) (d : Dev) : (d.upFn k f).store = d.store := rfl
@[simp] theorem Dev.upFn_boxes (k : Nat) (f : Fn → Fn) (d : Dev) : (d.upFn k f).boxes = d.boxes := rfl
@[simp] theorem Dev.upFn_can (k : Nat) (f : Fn → Fn) (d : Dev) : (d.upFn k f).can = d.can := rfl
@[simp] theorem Dev.upFn_faults (k : Nat) (f : Fn → Fn) (d : Dev) : (d.upFn k f).faults = d.faults := rfl
@[simp] theorem Dev.upFn_inhibit (k : Nat) (f : Fn → Fn) (d : Dev) : (d.upFn k f).inhibit = d.inhibit := rfl
@[simp] theorem Dev.upFn_monitors (k : Nat) (f : Fn → Fn) (d : Dev) : (d.upFn k f).monitors = d.monitors := rfl
@[simp] theorem Dev.upFn_parts (k : Nat) (f : Fn → Fn) (d : Dev) : (d.upFn k f).parts = d.parts := rfl
@[simp] theorem Dev.upFn_pds (k : Nat) (f : Fn → Fn) (d : Dev) : (d.upFn k f).pds = d.pds := rfl
@[simp] theorem Dev.upFn_resets (k : Nat) (f : Fn → Fn) (d : Dev) : (d.upFn k f).resets = d.resets := rfl
@[simp] theorem Dev.upFn_net (k : Nat) (f : Fn → Fn) (d : Dev) : (d.upFn k f).net = d.net := rfl
@[simp] theorem Dev.upFn_nis (k : Nat) (f : Fn → Fn) (d : Dev) : (d.upFn k f).nis = d.nis := rfl
@[simp] theorem Dev.upFn_probes (k : Nat) (f : Fn → Fn) (d : Dev) : (d.upFn k f).probes = d.probes := rfl
@[simp] theorem Dev.upFn_ddr (k : Nat) (f : Fn → Fn) (d : Dev) : (d.upFn k f).ddr = d.ddr := rfl
@[simp] theorem Dev.upFn_doms (k : Nat) (f : Fn → Fn) (d : Dev) : (d.upFn k f).doms = d.doms := rfl
@[simp] theorem Dev.upFn_matrix (k : Nat) (f : Fn → Fn) (d : Dev) : (d.upFn k f).matrix = d.matrix := rfl
@[simp] theorem Dev.upFn_bridge (k : Nat) (f : Fn → Fn) (d : Dev) : (d.upFn k f).bridge = d.bridge := rfl
@[simp] theorem Dev.upFn_queues (k : Nat) (f : Fn → Fn) (d : Dev) : (d.upFn k f).queues = d.queues := rfl
@[simp] theorem Dev.upFn_conv (k : Nat) (f : Fn → Fn) (d : Dev) : (d.upFn k f).conv = d.conv := rfl
@[simp] theorem Dev.upFn_boot (k : Nat) (f : Fn → Fn) (d : Dev) : (d.upFn k f).boot = d.boot := rfl
@[simp] theorem Dev.upFn_eth (k : Nat) (f : Fn → Fn) (d : Dev) : (d.upFn k f).eth = d.eth := rfl
@[simp] theorem Dev.upFn_ops (k : Nat) (f : Fn → Fn) (d : Dev) : (d.upFn k f).ops = d.ops := rfl
@[simp] theorem Dev.upFn_timing (k : Nat) (f : Fn → Fn) (d : Dev) : (d.upFn k f).timing = d.timing := rfl
@[simp] theorem Dev.upFn_flash (k : Nat) (f : Fn → Fn) (d : Dev) : (d.upFn k f).flash = d.flash := rfl
@[simp] theorem Dev.upFn_otp (k : Nat) (f : Fn → Fn) (d : Dev) : (d.upFn k f).otp = d.otp := rfl
@[simp] theorem Dev.upFn_mem (k : Nat) (f : Fn → Fn) (d : Dev) : (d.upFn k f).mem = d.mem := rfl
@[simp] theorem Dev.upFn_undef (k : Nat) (f : Fn → Fn) (d : Dev) : (d.upFn k f).undef = d.undef := rfl
@[simp] theorem Dev.upFn_bus (k : Nat) (f : Fn → Fn) (d : Dev) : (d.upFn k f).bus = d.bus := rfl

/-! `Dev.upLine` changes `timing`. -/

@[simp] theorem Dev.upLine_clock (c : Nat) (f : TrigLine → TrigLine) (d : Dev) : (d.upLine c f).clock = d.clock := rfl
@[simp] theorem Dev.upLine_power (c : Nat) (f : TrigLine → TrigLine) (d : Dev) : (d.upLine c f).power = d.power := rfl
@[simp] theorem Dev.upLine_free (c : Nat) (f : TrigLine → TrigLine) (d : Dev) : (d.upLine c f).free = d.free := rfl
@[simp] theorem Dev.upLine_store (c : Nat) (f : TrigLine → TrigLine) (d : Dev) : (d.upLine c f).store = d.store := rfl
@[simp] theorem Dev.upLine_boxes (c : Nat) (f : TrigLine → TrigLine) (d : Dev) : (d.upLine c f).boxes = d.boxes := rfl
@[simp] theorem Dev.upLine_can (c : Nat) (f : TrigLine → TrigLine) (d : Dev) : (d.upLine c f).can = d.can := rfl
@[simp] theorem Dev.upLine_faults (c : Nat) (f : TrigLine → TrigLine) (d : Dev) : (d.upLine c f).faults = d.faults := rfl
@[simp] theorem Dev.upLine_inhibit (c : Nat) (f : TrigLine → TrigLine) (d : Dev) : (d.upLine c f).inhibit = d.inhibit := rfl
@[simp] theorem Dev.upLine_monitors (c : Nat) (f : TrigLine → TrigLine) (d : Dev) : (d.upLine c f).monitors = d.monitors := rfl
@[simp] theorem Dev.upLine_parts (c : Nat) (f : TrigLine → TrigLine) (d : Dev) : (d.upLine c f).parts = d.parts := rfl
@[simp] theorem Dev.upLine_pds (c : Nat) (f : TrigLine → TrigLine) (d : Dev) : (d.upLine c f).pds = d.pds := rfl
@[simp] theorem Dev.upLine_resets (c : Nat) (f : TrigLine → TrigLine) (d : Dev) : (d.upLine c f).resets = d.resets := rfl
@[simp] theorem Dev.upLine_net (c : Nat) (f : TrigLine → TrigLine) (d : Dev) : (d.upLine c f).net = d.net := rfl
@[simp] theorem Dev.upLine_nis (c : Nat) (f : TrigLine → TrigLine) (d : Dev) : (d.upLine c f).nis = d.nis := rfl
@[simp] theorem Dev.upLine_probes (c : Nat) (f : TrigLine → TrigLine) (d : Dev) : (d.upLine c f).probes = d.probes := rfl
@[simp] theorem Dev.upLine_ddr (c : Nat) (f : TrigLine → TrigLine) (d : Dev) : (d.upLine c f).ddr = d.ddr := rfl
@[simp] theorem Dev.upLine_doms (c : Nat) (f : TrigLine → TrigLine) (d : Dev) : (d.upLine c f).doms = d.doms := rfl
@[simp] theorem Dev.upLine_matrix (c : Nat) (f : TrigLine → TrigLine) (d : Dev) : (d.upLine c f).matrix = d.matrix := rfl
@[simp] theorem Dev.upLine_bridge (c : Nat) (f : TrigLine → TrigLine) (d : Dev) : (d.upLine c f).bridge = d.bridge := rfl
@[simp] theorem Dev.upLine_queues (c : Nat) (f : TrigLine → TrigLine) (d : Dev) : (d.upLine c f).queues = d.queues := rfl
@[simp] theorem Dev.upLine_host (c : Nat) (f : TrigLine → TrigLine) (d : Dev) : (d.upLine c f).host = d.host := rfl
@[simp] theorem Dev.upLine_conv (c : Nat) (f : TrigLine → TrigLine) (d : Dev) : (d.upLine c f).conv = d.conv := rfl
@[simp] theorem Dev.upLine_boot (c : Nat) (f : TrigLine → TrigLine) (d : Dev) : (d.upLine c f).boot = d.boot := rfl
@[simp] theorem Dev.upLine_eth (c : Nat) (f : TrigLine → TrigLine) (d : Dev) : (d.upLine c f).eth = d.eth := rfl
@[simp] theorem Dev.upLine_ops (c : Nat) (f : TrigLine → TrigLine) (d : Dev) : (d.upLine c f).ops = d.ops := rfl
@[simp] theorem Dev.upLine_flash (c : Nat) (f : TrigLine → TrigLine) (d : Dev) : (d.upLine c f).flash = d.flash := rfl
@[simp] theorem Dev.upLine_otp (c : Nat) (f : TrigLine → TrigLine) (d : Dev) : (d.upLine c f).otp = d.otp := rfl
@[simp] theorem Dev.upLine_mem (c : Nat) (f : TrigLine → TrigLine) (d : Dev) : (d.upLine c f).mem = d.mem := rfl
@[simp] theorem Dev.upLine_undef (c : Nat) (f : TrigLine → TrigLine) (d : Dev) : (d.upLine c f).undef = d.undef := rfl
@[simp] theorem Dev.upLine_bus (c : Nat) (f : TrigLine → TrigLine) (d : Dev) : (d.upLine c f).bus = d.bus := rfl

/-! `Dev.countLine` changes `timing`. -/

@[simp] theorem Dev.countLine_clock (c sub : Nat) (d : Dev) : (d.countLine c sub).clock = d.clock := rfl
@[simp] theorem Dev.countLine_power (c sub : Nat) (d : Dev) : (d.countLine c sub).power = d.power := rfl
@[simp] theorem Dev.countLine_free (c sub : Nat) (d : Dev) : (d.countLine c sub).free = d.free := rfl
@[simp] theorem Dev.countLine_store (c sub : Nat) (d : Dev) : (d.countLine c sub).store = d.store := rfl
@[simp] theorem Dev.countLine_boxes (c sub : Nat) (d : Dev) : (d.countLine c sub).boxes = d.boxes := rfl
@[simp] theorem Dev.countLine_can (c sub : Nat) (d : Dev) : (d.countLine c sub).can = d.can := rfl
@[simp] theorem Dev.countLine_faults (c sub : Nat) (d : Dev) : (d.countLine c sub).faults = d.faults := rfl
@[simp] theorem Dev.countLine_inhibit (c sub : Nat) (d : Dev) : (d.countLine c sub).inhibit = d.inhibit := rfl
@[simp] theorem Dev.countLine_monitors (c sub : Nat) (d : Dev) : (d.countLine c sub).monitors = d.monitors := rfl
@[simp] theorem Dev.countLine_parts (c sub : Nat) (d : Dev) : (d.countLine c sub).parts = d.parts := rfl
@[simp] theorem Dev.countLine_pds (c sub : Nat) (d : Dev) : (d.countLine c sub).pds = d.pds := rfl
@[simp] theorem Dev.countLine_resets (c sub : Nat) (d : Dev) : (d.countLine c sub).resets = d.resets := rfl
@[simp] theorem Dev.countLine_net (c sub : Nat) (d : Dev) : (d.countLine c sub).net = d.net := rfl
@[simp] theorem Dev.countLine_nis (c sub : Nat) (d : Dev) : (d.countLine c sub).nis = d.nis := rfl
@[simp] theorem Dev.countLine_probes (c sub : Nat) (d : Dev) : (d.countLine c sub).probes = d.probes := rfl
@[simp] theorem Dev.countLine_ddr (c sub : Nat) (d : Dev) : (d.countLine c sub).ddr = d.ddr := rfl
@[simp] theorem Dev.countLine_doms (c sub : Nat) (d : Dev) : (d.countLine c sub).doms = d.doms := rfl
@[simp] theorem Dev.countLine_matrix (c sub : Nat) (d : Dev) : (d.countLine c sub).matrix = d.matrix := rfl
@[simp] theorem Dev.countLine_bridge (c sub : Nat) (d : Dev) : (d.countLine c sub).bridge = d.bridge := rfl
@[simp] theorem Dev.countLine_queues (c sub : Nat) (d : Dev) : (d.countLine c sub).queues = d.queues := rfl
@[simp] theorem Dev.countLine_host (c sub : Nat) (d : Dev) : (d.countLine c sub).host = d.host := rfl
@[simp] theorem Dev.countLine_conv (c sub : Nat) (d : Dev) : (d.countLine c sub).conv = d.conv := rfl
@[simp] theorem Dev.countLine_boot (c sub : Nat) (d : Dev) : (d.countLine c sub).boot = d.boot := rfl
@[simp] theorem Dev.countLine_eth (c sub : Nat) (d : Dev) : (d.countLine c sub).eth = d.eth := rfl
@[simp] theorem Dev.countLine_ops (c sub : Nat) (d : Dev) : (d.countLine c sub).ops = d.ops := rfl
@[simp] theorem Dev.countLine_flash (c sub : Nat) (d : Dev) : (d.countLine c sub).flash = d.flash := rfl
@[simp] theorem Dev.countLine_otp (c sub : Nat) (d : Dev) : (d.countLine c sub).otp = d.otp := rfl
@[simp] theorem Dev.countLine_mem (c sub : Nat) (d : Dev) : (d.countLine c sub).mem = d.mem := rfl
@[simp] theorem Dev.countLine_undef (c sub : Nat) (d : Dev) : (d.countLine c sub).undef = d.undef := rfl
@[simp] theorem Dev.countLine_bus (c sub : Nat) (d : Dev) : (d.countLine c sub).bus = d.bus := rfl

/-! `Dev.upSysref` changes `timing`. -/

@[simp] theorem Dev.upSysref_clock (k : Nat) (f : Sysref → Sysref) (d : Dev) : (d.upSysref k f).clock = d.clock := rfl
@[simp] theorem Dev.upSysref_power (k : Nat) (f : Sysref → Sysref) (d : Dev) : (d.upSysref k f).power = d.power := rfl
@[simp] theorem Dev.upSysref_free (k : Nat) (f : Sysref → Sysref) (d : Dev) : (d.upSysref k f).free = d.free := rfl
@[simp] theorem Dev.upSysref_store (k : Nat) (f : Sysref → Sysref) (d : Dev) : (d.upSysref k f).store = d.store := rfl
@[simp] theorem Dev.upSysref_boxes (k : Nat) (f : Sysref → Sysref) (d : Dev) : (d.upSysref k f).boxes = d.boxes := rfl
@[simp] theorem Dev.upSysref_can (k : Nat) (f : Sysref → Sysref) (d : Dev) : (d.upSysref k f).can = d.can := rfl
@[simp] theorem Dev.upSysref_faults (k : Nat) (f : Sysref → Sysref) (d : Dev) : (d.upSysref k f).faults = d.faults := rfl
@[simp] theorem Dev.upSysref_inhibit (k : Nat) (f : Sysref → Sysref) (d : Dev) : (d.upSysref k f).inhibit = d.inhibit := rfl
@[simp] theorem Dev.upSysref_monitors (k : Nat) (f : Sysref → Sysref) (d : Dev) : (d.upSysref k f).monitors = d.monitors := rfl
@[simp] theorem Dev.upSysref_parts (k : Nat) (f : Sysref → Sysref) (d : Dev) : (d.upSysref k f).parts = d.parts := rfl
@[simp] theorem Dev.upSysref_pds (k : Nat) (f : Sysref → Sysref) (d : Dev) : (d.upSysref k f).pds = d.pds := rfl
@[simp] theorem Dev.upSysref_resets (k : Nat) (f : Sysref → Sysref) (d : Dev) : (d.upSysref k f).resets = d.resets := rfl
@[simp] theorem Dev.upSysref_net (k : Nat) (f : Sysref → Sysref) (d : Dev) : (d.upSysref k f).net = d.net := rfl
@[simp] theorem Dev.upSysref_nis (k : Nat) (f : Sysref → Sysref) (d : Dev) : (d.upSysref k f).nis = d.nis := rfl
@[simp] theorem Dev.upSysref_probes (k : Nat) (f : Sysref → Sysref) (d : Dev) : (d.upSysref k f).probes = d.probes := rfl
@[simp] theorem Dev.upSysref_ddr (k : Nat) (f : Sysref → Sysref) (d : Dev) : (d.upSysref k f).ddr = d.ddr := rfl
@[simp] theorem Dev.upSysref_doms (k : Nat) (f : Sysref → Sysref) (d : Dev) : (d.upSysref k f).doms = d.doms := rfl
@[simp] theorem Dev.upSysref_matrix (k : Nat) (f : Sysref → Sysref) (d : Dev) : (d.upSysref k f).matrix = d.matrix := rfl
@[simp] theorem Dev.upSysref_bridge (k : Nat) (f : Sysref → Sysref) (d : Dev) : (d.upSysref k f).bridge = d.bridge := rfl
@[simp] theorem Dev.upSysref_queues (k : Nat) (f : Sysref → Sysref) (d : Dev) : (d.upSysref k f).queues = d.queues := rfl
@[simp] theorem Dev.upSysref_host (k : Nat) (f : Sysref → Sysref) (d : Dev) : (d.upSysref k f).host = d.host := rfl
@[simp] theorem Dev.upSysref_conv (k : Nat) (f : Sysref → Sysref) (d : Dev) : (d.upSysref k f).conv = d.conv := rfl
@[simp] theorem Dev.upSysref_boot (k : Nat) (f : Sysref → Sysref) (d : Dev) : (d.upSysref k f).boot = d.boot := rfl
@[simp] theorem Dev.upSysref_eth (k : Nat) (f : Sysref → Sysref) (d : Dev) : (d.upSysref k f).eth = d.eth := rfl
@[simp] theorem Dev.upSysref_ops (k : Nat) (f : Sysref → Sysref) (d : Dev) : (d.upSysref k f).ops = d.ops := rfl
@[simp] theorem Dev.upSysref_flash (k : Nat) (f : Sysref → Sysref) (d : Dev) : (d.upSysref k f).flash = d.flash := rfl
@[simp] theorem Dev.upSysref_otp (k : Nat) (f : Sysref → Sysref) (d : Dev) : (d.upSysref k f).otp = d.otp := rfl
@[simp] theorem Dev.upSysref_mem (k : Nat) (f : Sysref → Sysref) (d : Dev) : (d.upSysref k f).mem = d.mem := rfl
@[simp] theorem Dev.upSysref_undef (k : Nat) (f : Sysref → Sysref) (d : Dev) : (d.upSysref k f).undef = d.undef := rfl
@[simp] theorem Dev.upSysref_bus (k : Nat) (f : Sysref → Sysref) (d : Dev) : (d.upSysref k f).bus = d.bus := rfl

/-! `Dev.upSource` changes `faults`. -/

@[simp] theorem Dev.upSource_clock (k : Nat) (f : SourceState → SourceState) (d : Dev) : (d.upSource k f).clock = d.clock := rfl
@[simp] theorem Dev.upSource_power (k : Nat) (f : SourceState → SourceState) (d : Dev) : (d.upSource k f).power = d.power := rfl
@[simp] theorem Dev.upSource_free (k : Nat) (f : SourceState → SourceState) (d : Dev) : (d.upSource k f).free = d.free := rfl
@[simp] theorem Dev.upSource_store (k : Nat) (f : SourceState → SourceState) (d : Dev) : (d.upSource k f).store = d.store := rfl
@[simp] theorem Dev.upSource_boxes (k : Nat) (f : SourceState → SourceState) (d : Dev) : (d.upSource k f).boxes = d.boxes := rfl
@[simp] theorem Dev.upSource_can (k : Nat) (f : SourceState → SourceState) (d : Dev) : (d.upSource k f).can = d.can := rfl
@[simp] theorem Dev.upSource_inhibit (k : Nat) (f : SourceState → SourceState) (d : Dev) : (d.upSource k f).inhibit = d.inhibit := rfl
@[simp] theorem Dev.upSource_monitors (k : Nat) (f : SourceState → SourceState) (d : Dev) : (d.upSource k f).monitors = d.monitors := rfl
@[simp] theorem Dev.upSource_parts (k : Nat) (f : SourceState → SourceState) (d : Dev) : (d.upSource k f).parts = d.parts := rfl
@[simp] theorem Dev.upSource_pds (k : Nat) (f : SourceState → SourceState) (d : Dev) : (d.upSource k f).pds = d.pds := rfl
@[simp] theorem Dev.upSource_resets (k : Nat) (f : SourceState → SourceState) (d : Dev) : (d.upSource k f).resets = d.resets := rfl
@[simp] theorem Dev.upSource_net (k : Nat) (f : SourceState → SourceState) (d : Dev) : (d.upSource k f).net = d.net := rfl
@[simp] theorem Dev.upSource_nis (k : Nat) (f : SourceState → SourceState) (d : Dev) : (d.upSource k f).nis = d.nis := rfl
@[simp] theorem Dev.upSource_probes (k : Nat) (f : SourceState → SourceState) (d : Dev) : (d.upSource k f).probes = d.probes := rfl
@[simp] theorem Dev.upSource_ddr (k : Nat) (f : SourceState → SourceState) (d : Dev) : (d.upSource k f).ddr = d.ddr := rfl
@[simp] theorem Dev.upSource_doms (k : Nat) (f : SourceState → SourceState) (d : Dev) : (d.upSource k f).doms = d.doms := rfl
@[simp] theorem Dev.upSource_matrix (k : Nat) (f : SourceState → SourceState) (d : Dev) : (d.upSource k f).matrix = d.matrix := rfl
@[simp] theorem Dev.upSource_bridge (k : Nat) (f : SourceState → SourceState) (d : Dev) : (d.upSource k f).bridge = d.bridge := rfl
@[simp] theorem Dev.upSource_queues (k : Nat) (f : SourceState → SourceState) (d : Dev) : (d.upSource k f).queues = d.queues := rfl
@[simp] theorem Dev.upSource_host (k : Nat) (f : SourceState → SourceState) (d : Dev) : (d.upSource k f).host = d.host := rfl
@[simp] theorem Dev.upSource_conv (k : Nat) (f : SourceState → SourceState) (d : Dev) : (d.upSource k f).conv = d.conv := rfl
@[simp] theorem Dev.upSource_boot (k : Nat) (f : SourceState → SourceState) (d : Dev) : (d.upSource k f).boot = d.boot := rfl
@[simp] theorem Dev.upSource_eth (k : Nat) (f : SourceState → SourceState) (d : Dev) : (d.upSource k f).eth = d.eth := rfl
@[simp] theorem Dev.upSource_ops (k : Nat) (f : SourceState → SourceState) (d : Dev) : (d.upSource k f).ops = d.ops := rfl
@[simp] theorem Dev.upSource_timing (k : Nat) (f : SourceState → SourceState) (d : Dev) : (d.upSource k f).timing = d.timing := rfl
@[simp] theorem Dev.upSource_flash (k : Nat) (f : SourceState → SourceState) (d : Dev) : (d.upSource k f).flash = d.flash := rfl
@[simp] theorem Dev.upSource_otp (k : Nat) (f : SourceState → SourceState) (d : Dev) : (d.upSource k f).otp = d.otp := rfl
@[simp] theorem Dev.upSource_mem (k : Nat) (f : SourceState → SourceState) (d : Dev) : (d.upSource k f).mem = d.mem := rfl
@[simp] theorem Dev.upSource_undef (k : Nat) (f : SourceState → SourceState) (d : Dev) : (d.upSource k f).undef = d.undef := rfl
@[simp] theorem Dev.upSource_bus (k : Nat) (f : SourceState → SourceState) (d : Dev) : (d.upSource k f).bus = d.bus := rfl

/-! `Dev.upLink` changes `conv`. -/

@[simp] theorem Dev.upLink_clock (k : Nat) (f : Link → Link) (d : Dev) : (d.upLink k f).clock = d.clock := rfl
@[simp] theorem Dev.upLink_power (k : Nat) (f : Link → Link) (d : Dev) : (d.upLink k f).power = d.power := rfl
@[simp] theorem Dev.upLink_free (k : Nat) (f : Link → Link) (d : Dev) : (d.upLink k f).free = d.free := rfl
@[simp] theorem Dev.upLink_store (k : Nat) (f : Link → Link) (d : Dev) : (d.upLink k f).store = d.store := rfl
@[simp] theorem Dev.upLink_boxes (k : Nat) (f : Link → Link) (d : Dev) : (d.upLink k f).boxes = d.boxes := rfl
@[simp] theorem Dev.upLink_can (k : Nat) (f : Link → Link) (d : Dev) : (d.upLink k f).can = d.can := rfl
@[simp] theorem Dev.upLink_faults (k : Nat) (f : Link → Link) (d : Dev) : (d.upLink k f).faults = d.faults := rfl
@[simp] theorem Dev.upLink_inhibit (k : Nat) (f : Link → Link) (d : Dev) : (d.upLink k f).inhibit = d.inhibit := rfl
@[simp] theorem Dev.upLink_monitors (k : Nat) (f : Link → Link) (d : Dev) : (d.upLink k f).monitors = d.monitors := rfl
@[simp] theorem Dev.upLink_parts (k : Nat) (f : Link → Link) (d : Dev) : (d.upLink k f).parts = d.parts := rfl
@[simp] theorem Dev.upLink_pds (k : Nat) (f : Link → Link) (d : Dev) : (d.upLink k f).pds = d.pds := rfl
@[simp] theorem Dev.upLink_resets (k : Nat) (f : Link → Link) (d : Dev) : (d.upLink k f).resets = d.resets := rfl
@[simp] theorem Dev.upLink_net (k : Nat) (f : Link → Link) (d : Dev) : (d.upLink k f).net = d.net := rfl
@[simp] theorem Dev.upLink_nis (k : Nat) (f : Link → Link) (d : Dev) : (d.upLink k f).nis = d.nis := rfl
@[simp] theorem Dev.upLink_probes (k : Nat) (f : Link → Link) (d : Dev) : (d.upLink k f).probes = d.probes := rfl
@[simp] theorem Dev.upLink_ddr (k : Nat) (f : Link → Link) (d : Dev) : (d.upLink k f).ddr = d.ddr := rfl
@[simp] theorem Dev.upLink_doms (k : Nat) (f : Link → Link) (d : Dev) : (d.upLink k f).doms = d.doms := rfl
@[simp] theorem Dev.upLink_matrix (k : Nat) (f : Link → Link) (d : Dev) : (d.upLink k f).matrix = d.matrix := rfl
@[simp] theorem Dev.upLink_bridge (k : Nat) (f : Link → Link) (d : Dev) : (d.upLink k f).bridge = d.bridge := rfl
@[simp] theorem Dev.upLink_queues (k : Nat) (f : Link → Link) (d : Dev) : (d.upLink k f).queues = d.queues := rfl
@[simp] theorem Dev.upLink_host (k : Nat) (f : Link → Link) (d : Dev) : (d.upLink k f).host = d.host := rfl
@[simp] theorem Dev.upLink_boot (k : Nat) (f : Link → Link) (d : Dev) : (d.upLink k f).boot = d.boot := rfl
@[simp] theorem Dev.upLink_eth (k : Nat) (f : Link → Link) (d : Dev) : (d.upLink k f).eth = d.eth := rfl
@[simp] theorem Dev.upLink_ops (k : Nat) (f : Link → Link) (d : Dev) : (d.upLink k f).ops = d.ops := rfl
@[simp] theorem Dev.upLink_timing (k : Nat) (f : Link → Link) (d : Dev) : (d.upLink k f).timing = d.timing := rfl
@[simp] theorem Dev.upLink_flash (k : Nat) (f : Link → Link) (d : Dev) : (d.upLink k f).flash = d.flash := rfl
@[simp] theorem Dev.upLink_otp (k : Nat) (f : Link → Link) (d : Dev) : (d.upLink k f).otp = d.otp := rfl
@[simp] theorem Dev.upLink_mem (k : Nat) (f : Link → Link) (d : Dev) : (d.upLink k f).mem = d.mem := rfl
@[simp] theorem Dev.upLink_undef (k : Nat) (f : Link → Link) (d : Dev) : (d.upLink k f).undef = d.undef := rfl
@[simp] theorem Dev.upLink_bus (k : Nat) (f : Link → Link) (d : Dev) : (d.upLink k f).bus = d.bus := rfl

/-! `Dev.upLane` changes `conv`. -/

@[simp] theorem Dev.upLane_clock (l : Nat) (f : Lane → Lane) (d : Dev) : (d.upLane l f).clock = d.clock := rfl
@[simp] theorem Dev.upLane_power (l : Nat) (f : Lane → Lane) (d : Dev) : (d.upLane l f).power = d.power := rfl
@[simp] theorem Dev.upLane_free (l : Nat) (f : Lane → Lane) (d : Dev) : (d.upLane l f).free = d.free := rfl
@[simp] theorem Dev.upLane_store (l : Nat) (f : Lane → Lane) (d : Dev) : (d.upLane l f).store = d.store := rfl
@[simp] theorem Dev.upLane_boxes (l : Nat) (f : Lane → Lane) (d : Dev) : (d.upLane l f).boxes = d.boxes := rfl
@[simp] theorem Dev.upLane_can (l : Nat) (f : Lane → Lane) (d : Dev) : (d.upLane l f).can = d.can := rfl
@[simp] theorem Dev.upLane_faults (l : Nat) (f : Lane → Lane) (d : Dev) : (d.upLane l f).faults = d.faults := rfl
@[simp] theorem Dev.upLane_inhibit (l : Nat) (f : Lane → Lane) (d : Dev) : (d.upLane l f).inhibit = d.inhibit := rfl
@[simp] theorem Dev.upLane_monitors (l : Nat) (f : Lane → Lane) (d : Dev) : (d.upLane l f).monitors = d.monitors := rfl
@[simp] theorem Dev.upLane_parts (l : Nat) (f : Lane → Lane) (d : Dev) : (d.upLane l f).parts = d.parts := rfl
@[simp] theorem Dev.upLane_pds (l : Nat) (f : Lane → Lane) (d : Dev) : (d.upLane l f).pds = d.pds := rfl
@[simp] theorem Dev.upLane_resets (l : Nat) (f : Lane → Lane) (d : Dev) : (d.upLane l f).resets = d.resets := rfl
@[simp] theorem Dev.upLane_net (l : Nat) (f : Lane → Lane) (d : Dev) : (d.upLane l f).net = d.net := rfl
@[simp] theorem Dev.upLane_nis (l : Nat) (f : Lane → Lane) (d : Dev) : (d.upLane l f).nis = d.nis := rfl
@[simp] theorem Dev.upLane_probes (l : Nat) (f : Lane → Lane) (d : Dev) : (d.upLane l f).probes = d.probes := rfl
@[simp] theorem Dev.upLane_ddr (l : Nat) (f : Lane → Lane) (d : Dev) : (d.upLane l f).ddr = d.ddr := rfl
@[simp] theorem Dev.upLane_doms (l : Nat) (f : Lane → Lane) (d : Dev) : (d.upLane l f).doms = d.doms := rfl
@[simp] theorem Dev.upLane_matrix (l : Nat) (f : Lane → Lane) (d : Dev) : (d.upLane l f).matrix = d.matrix := rfl
@[simp] theorem Dev.upLane_bridge (l : Nat) (f : Lane → Lane) (d : Dev) : (d.upLane l f).bridge = d.bridge := rfl
@[simp] theorem Dev.upLane_queues (l : Nat) (f : Lane → Lane) (d : Dev) : (d.upLane l f).queues = d.queues := rfl
@[simp] theorem Dev.upLane_host (l : Nat) (f : Lane → Lane) (d : Dev) : (d.upLane l f).host = d.host := rfl
@[simp] theorem Dev.upLane_boot (l : Nat) (f : Lane → Lane) (d : Dev) : (d.upLane l f).boot = d.boot := rfl
@[simp] theorem Dev.upLane_eth (l : Nat) (f : Lane → Lane) (d : Dev) : (d.upLane l f).eth = d.eth := rfl
@[simp] theorem Dev.upLane_ops (l : Nat) (f : Lane → Lane) (d : Dev) : (d.upLane l f).ops = d.ops := rfl
@[simp] theorem Dev.upLane_timing (l : Nat) (f : Lane → Lane) (d : Dev) : (d.upLane l f).timing = d.timing := rfl
@[simp] theorem Dev.upLane_flash (l : Nat) (f : Lane → Lane) (d : Dev) : (d.upLane l f).flash = d.flash := rfl
@[simp] theorem Dev.upLane_otp (l : Nat) (f : Lane → Lane) (d : Dev) : (d.upLane l f).otp = d.otp := rfl
@[simp] theorem Dev.upLane_mem (l : Nat) (f : Lane → Lane) (d : Dev) : (d.upLane l f).mem = d.mem := rfl
@[simp] theorem Dev.upLane_undef (l : Nat) (f : Lane → Lane) (d : Dev) : (d.upLane l f).undef = d.undef := rfl
@[simp] theorem Dev.upLane_bus (l : Nat) (f : Lane → Lane) (d : Dev) : (d.upLane l f).bus = d.bus := rfl

/-! `Dev.upStream` changes `conv`. -/

@[simp] theorem Dev.upStream_clock (q : Nat) (f : Stream → Stream) (d : Dev) : (d.upStream q f).clock = d.clock := by
  unfold Dev.upStream; split <;> rfl
@[simp] theorem Dev.upStream_power (q : Nat) (f : Stream → Stream) (d : Dev) : (d.upStream q f).power = d.power := by
  unfold Dev.upStream; split <;> rfl
@[simp] theorem Dev.upStream_free (q : Nat) (f : Stream → Stream) (d : Dev) : (d.upStream q f).free = d.free := by
  unfold Dev.upStream; split <;> rfl
@[simp] theorem Dev.upStream_store (q : Nat) (f : Stream → Stream) (d : Dev) : (d.upStream q f).store = d.store := by
  unfold Dev.upStream; split <;> rfl
@[simp] theorem Dev.upStream_boxes (q : Nat) (f : Stream → Stream) (d : Dev) : (d.upStream q f).boxes = d.boxes := by
  unfold Dev.upStream; split <;> rfl
@[simp] theorem Dev.upStream_can (q : Nat) (f : Stream → Stream) (d : Dev) : (d.upStream q f).can = d.can := by
  unfold Dev.upStream; split <;> rfl
@[simp] theorem Dev.upStream_faults (q : Nat) (f : Stream → Stream) (d : Dev) : (d.upStream q f).faults = d.faults := by
  unfold Dev.upStream; split <;> rfl
@[simp] theorem Dev.upStream_inhibit (q : Nat) (f : Stream → Stream) (d : Dev) : (d.upStream q f).inhibit = d.inhibit := by
  unfold Dev.upStream; split <;> rfl
@[simp] theorem Dev.upStream_monitors (q : Nat) (f : Stream → Stream) (d : Dev) : (d.upStream q f).monitors = d.monitors := by
  unfold Dev.upStream; split <;> rfl
@[simp] theorem Dev.upStream_parts (q : Nat) (f : Stream → Stream) (d : Dev) : (d.upStream q f).parts = d.parts := by
  unfold Dev.upStream; split <;> rfl
@[simp] theorem Dev.upStream_pds (q : Nat) (f : Stream → Stream) (d : Dev) : (d.upStream q f).pds = d.pds := by
  unfold Dev.upStream; split <;> rfl
@[simp] theorem Dev.upStream_resets (q : Nat) (f : Stream → Stream) (d : Dev) : (d.upStream q f).resets = d.resets := by
  unfold Dev.upStream; split <;> rfl
@[simp] theorem Dev.upStream_net (q : Nat) (f : Stream → Stream) (d : Dev) : (d.upStream q f).net = d.net := by
  unfold Dev.upStream; split <;> rfl
@[simp] theorem Dev.upStream_nis (q : Nat) (f : Stream → Stream) (d : Dev) : (d.upStream q f).nis = d.nis := by
  unfold Dev.upStream; split <;> rfl
@[simp] theorem Dev.upStream_probes (q : Nat) (f : Stream → Stream) (d : Dev) : (d.upStream q f).probes = d.probes := by
  unfold Dev.upStream; split <;> rfl
@[simp] theorem Dev.upStream_ddr (q : Nat) (f : Stream → Stream) (d : Dev) : (d.upStream q f).ddr = d.ddr := by
  unfold Dev.upStream; split <;> rfl
@[simp] theorem Dev.upStream_doms (q : Nat) (f : Stream → Stream) (d : Dev) : (d.upStream q f).doms = d.doms := by
  unfold Dev.upStream; split <;> rfl
@[simp] theorem Dev.upStream_matrix (q : Nat) (f : Stream → Stream) (d : Dev) : (d.upStream q f).matrix = d.matrix := by
  unfold Dev.upStream; split <;> rfl
@[simp] theorem Dev.upStream_bridge (q : Nat) (f : Stream → Stream) (d : Dev) : (d.upStream q f).bridge = d.bridge := by
  unfold Dev.upStream; split <;> rfl
@[simp] theorem Dev.upStream_queues (q : Nat) (f : Stream → Stream) (d : Dev) : (d.upStream q f).queues = d.queues := by
  unfold Dev.upStream; split <;> rfl
@[simp] theorem Dev.upStream_host (q : Nat) (f : Stream → Stream) (d : Dev) : (d.upStream q f).host = d.host := by
  unfold Dev.upStream; split <;> rfl
@[simp] theorem Dev.upStream_boot (q : Nat) (f : Stream → Stream) (d : Dev) : (d.upStream q f).boot = d.boot := by
  unfold Dev.upStream; split <;> rfl
@[simp] theorem Dev.upStream_eth (q : Nat) (f : Stream → Stream) (d : Dev) : (d.upStream q f).eth = d.eth := by
  unfold Dev.upStream; split <;> rfl
@[simp] theorem Dev.upStream_ops (q : Nat) (f : Stream → Stream) (d : Dev) : (d.upStream q f).ops = d.ops := by
  unfold Dev.upStream; split <;> rfl
@[simp] theorem Dev.upStream_timing (q : Nat) (f : Stream → Stream) (d : Dev) : (d.upStream q f).timing = d.timing := by
  unfold Dev.upStream; split <;> rfl
@[simp] theorem Dev.upStream_flash (q : Nat) (f : Stream → Stream) (d : Dev) : (d.upStream q f).flash = d.flash := by
  unfold Dev.upStream; split <;> rfl
@[simp] theorem Dev.upStream_otp (q : Nat) (f : Stream → Stream) (d : Dev) : (d.upStream q f).otp = d.otp := by
  unfold Dev.upStream; split <;> rfl
@[simp] theorem Dev.upStream_mem (q : Nat) (f : Stream → Stream) (d : Dev) : (d.upStream q f).mem = d.mem := by
  unfold Dev.upStream; split <;> rfl
@[simp] theorem Dev.upStream_bus (q : Nat) (f : Stream → Stream) (d : Dev) : (d.upStream q f).bus = d.bus := by
  unfold Dev.upStream; split <;> rfl

/-! `Dev.upPort` changes `eth`. -/

@[simp] theorem Dev.upPort_clock (p : Nat) (f : EthPort → EthPort) (d : Dev) : (d.upPort p f).clock = d.clock := rfl
@[simp] theorem Dev.upPort_power (p : Nat) (f : EthPort → EthPort) (d : Dev) : (d.upPort p f).power = d.power := rfl
@[simp] theorem Dev.upPort_free (p : Nat) (f : EthPort → EthPort) (d : Dev) : (d.upPort p f).free = d.free := rfl
@[simp] theorem Dev.upPort_store (p : Nat) (f : EthPort → EthPort) (d : Dev) : (d.upPort p f).store = d.store := rfl
@[simp] theorem Dev.upPort_boxes (p : Nat) (f : EthPort → EthPort) (d : Dev) : (d.upPort p f).boxes = d.boxes := rfl
@[simp] theorem Dev.upPort_can (p : Nat) (f : EthPort → EthPort) (d : Dev) : (d.upPort p f).can = d.can := rfl
@[simp] theorem Dev.upPort_faults (p : Nat) (f : EthPort → EthPort) (d : Dev) : (d.upPort p f).faults = d.faults := rfl
@[simp] theorem Dev.upPort_inhibit (p : Nat) (f : EthPort → EthPort) (d : Dev) : (d.upPort p f).inhibit = d.inhibit := rfl
@[simp] theorem Dev.upPort_monitors (p : Nat) (f : EthPort → EthPort) (d : Dev) : (d.upPort p f).monitors = d.monitors := rfl
@[simp] theorem Dev.upPort_parts (p : Nat) (f : EthPort → EthPort) (d : Dev) : (d.upPort p f).parts = d.parts := rfl
@[simp] theorem Dev.upPort_pds (p : Nat) (f : EthPort → EthPort) (d : Dev) : (d.upPort p f).pds = d.pds := rfl
@[simp] theorem Dev.upPort_resets (p : Nat) (f : EthPort → EthPort) (d : Dev) : (d.upPort p f).resets = d.resets := rfl
@[simp] theorem Dev.upPort_net (p : Nat) (f : EthPort → EthPort) (d : Dev) : (d.upPort p f).net = d.net := rfl
@[simp] theorem Dev.upPort_nis (p : Nat) (f : EthPort → EthPort) (d : Dev) : (d.upPort p f).nis = d.nis := rfl
@[simp] theorem Dev.upPort_probes (p : Nat) (f : EthPort → EthPort) (d : Dev) : (d.upPort p f).probes = d.probes := rfl
@[simp] theorem Dev.upPort_ddr (p : Nat) (f : EthPort → EthPort) (d : Dev) : (d.upPort p f).ddr = d.ddr := rfl
@[simp] theorem Dev.upPort_doms (p : Nat) (f : EthPort → EthPort) (d : Dev) : (d.upPort p f).doms = d.doms := rfl
@[simp] theorem Dev.upPort_matrix (p : Nat) (f : EthPort → EthPort) (d : Dev) : (d.upPort p f).matrix = d.matrix := rfl
@[simp] theorem Dev.upPort_bridge (p : Nat) (f : EthPort → EthPort) (d : Dev) : (d.upPort p f).bridge = d.bridge := rfl
@[simp] theorem Dev.upPort_queues (p : Nat) (f : EthPort → EthPort) (d : Dev) : (d.upPort p f).queues = d.queues := rfl
@[simp] theorem Dev.upPort_host (p : Nat) (f : EthPort → EthPort) (d : Dev) : (d.upPort p f).host = d.host := rfl
@[simp] theorem Dev.upPort_conv (p : Nat) (f : EthPort → EthPort) (d : Dev) : (d.upPort p f).conv = d.conv := rfl
@[simp] theorem Dev.upPort_boot (p : Nat) (f : EthPort → EthPort) (d : Dev) : (d.upPort p f).boot = d.boot := rfl
@[simp] theorem Dev.upPort_ops (p : Nat) (f : EthPort → EthPort) (d : Dev) : (d.upPort p f).ops = d.ops := rfl
@[simp] theorem Dev.upPort_timing (p : Nat) (f : EthPort → EthPort) (d : Dev) : (d.upPort p f).timing = d.timing := rfl
@[simp] theorem Dev.upPort_flash (p : Nat) (f : EthPort → EthPort) (d : Dev) : (d.upPort p f).flash = d.flash := rfl
@[simp] theorem Dev.upPort_otp (p : Nat) (f : EthPort → EthPort) (d : Dev) : (d.upPort p f).otp = d.otp := rfl
@[simp] theorem Dev.upPort_mem (p : Nat) (f : EthPort → EthPort) (d : Dev) : (d.upPort p f).mem = d.mem := rfl
@[simp] theorem Dev.upPort_undef (p : Nat) (f : EthPort → EthPort) (d : Dev) : (d.upPort p f).undef = d.undef := rfl
@[simp] theorem Dev.upPort_bus (p : Nat) (f : EthPort → EthPort) (d : Dev) : (d.upPort p f).bus = d.bus := rfl

/-! `Dev.upQp` changes `eth`. -/

@[simp] theorem Dev.upQp_clock (n : Nat) (f : Qp → Qp) (d : Dev) : (d.upQp n f).clock = d.clock := rfl
@[simp] theorem Dev.upQp_power (n : Nat) (f : Qp → Qp) (d : Dev) : (d.upQp n f).power = d.power := rfl
@[simp] theorem Dev.upQp_free (n : Nat) (f : Qp → Qp) (d : Dev) : (d.upQp n f).free = d.free := rfl
@[simp] theorem Dev.upQp_store (n : Nat) (f : Qp → Qp) (d : Dev) : (d.upQp n f).store = d.store := rfl
@[simp] theorem Dev.upQp_boxes (n : Nat) (f : Qp → Qp) (d : Dev) : (d.upQp n f).boxes = d.boxes := rfl
@[simp] theorem Dev.upQp_can (n : Nat) (f : Qp → Qp) (d : Dev) : (d.upQp n f).can = d.can := rfl
@[simp] theorem Dev.upQp_faults (n : Nat) (f : Qp → Qp) (d : Dev) : (d.upQp n f).faults = d.faults := rfl
@[simp] theorem Dev.upQp_inhibit (n : Nat) (f : Qp → Qp) (d : Dev) : (d.upQp n f).inhibit = d.inhibit := rfl
@[simp] theorem Dev.upQp_monitors (n : Nat) (f : Qp → Qp) (d : Dev) : (d.upQp n f).monitors = d.monitors := rfl
@[simp] theorem Dev.upQp_parts (n : Nat) (f : Qp → Qp) (d : Dev) : (d.upQp n f).parts = d.parts := rfl
@[simp] theorem Dev.upQp_pds (n : Nat) (f : Qp → Qp) (d : Dev) : (d.upQp n f).pds = d.pds := rfl
@[simp] theorem Dev.upQp_resets (n : Nat) (f : Qp → Qp) (d : Dev) : (d.upQp n f).resets = d.resets := rfl
@[simp] theorem Dev.upQp_net (n : Nat) (f : Qp → Qp) (d : Dev) : (d.upQp n f).net = d.net := rfl
@[simp] theorem Dev.upQp_nis (n : Nat) (f : Qp → Qp) (d : Dev) : (d.upQp n f).nis = d.nis := rfl
@[simp] theorem Dev.upQp_probes (n : Nat) (f : Qp → Qp) (d : Dev) : (d.upQp n f).probes = d.probes := rfl
@[simp] theorem Dev.upQp_ddr (n : Nat) (f : Qp → Qp) (d : Dev) : (d.upQp n f).ddr = d.ddr := rfl
@[simp] theorem Dev.upQp_doms (n : Nat) (f : Qp → Qp) (d : Dev) : (d.upQp n f).doms = d.doms := rfl
@[simp] theorem Dev.upQp_matrix (n : Nat) (f : Qp → Qp) (d : Dev) : (d.upQp n f).matrix = d.matrix := rfl
@[simp] theorem Dev.upQp_bridge (n : Nat) (f : Qp → Qp) (d : Dev) : (d.upQp n f).bridge = d.bridge := rfl
@[simp] theorem Dev.upQp_queues (n : Nat) (f : Qp → Qp) (d : Dev) : (d.upQp n f).queues = d.queues := rfl
@[simp] theorem Dev.upQp_host (n : Nat) (f : Qp → Qp) (d : Dev) : (d.upQp n f).host = d.host := rfl
@[simp] theorem Dev.upQp_conv (n : Nat) (f : Qp → Qp) (d : Dev) : (d.upQp n f).conv = d.conv := rfl
@[simp] theorem Dev.upQp_boot (n : Nat) (f : Qp → Qp) (d : Dev) : (d.upQp n f).boot = d.boot := rfl
@[simp] theorem Dev.upQp_ops (n : Nat) (f : Qp → Qp) (d : Dev) : (d.upQp n f).ops = d.ops := rfl
@[simp] theorem Dev.upQp_timing (n : Nat) (f : Qp → Qp) (d : Dev) : (d.upQp n f).timing = d.timing := rfl
@[simp] theorem Dev.upQp_flash (n : Nat) (f : Qp → Qp) (d : Dev) : (d.upQp n f).flash = d.flash := rfl
@[simp] theorem Dev.upQp_otp (n : Nat) (f : Qp → Qp) (d : Dev) : (d.upQp n f).otp = d.otp := rfl
@[simp] theorem Dev.upQp_mem (n : Nat) (f : Qp → Qp) (d : Dev) : (d.upQp n f).mem = d.mem := rfl
@[simp] theorem Dev.upQp_undef (n : Nat) (f : Qp → Qp) (d : Dev) : (d.upQp n f).undef = d.undef := rfl
@[simp] theorem Dev.upQp_bus (n : Nat) (f : Qp → Qp) (d : Dev) : (d.upQp n f).bus = d.bus := rfl

/-! `Dev.upOp` changes `ops`. -/

@[simp] theorem Dev.upOp_clock (n : Nat) (f : OpUnit → OpUnit) (d : Dev) : (d.upOp n f).clock = d.clock := rfl
@[simp] theorem Dev.upOp_power (n : Nat) (f : OpUnit → OpUnit) (d : Dev) : (d.upOp n f).power = d.power := rfl
@[simp] theorem Dev.upOp_free (n : Nat) (f : OpUnit → OpUnit) (d : Dev) : (d.upOp n f).free = d.free := rfl
@[simp] theorem Dev.upOp_store (n : Nat) (f : OpUnit → OpUnit) (d : Dev) : (d.upOp n f).store = d.store := rfl
@[simp] theorem Dev.upOp_boxes (n : Nat) (f : OpUnit → OpUnit) (d : Dev) : (d.upOp n f).boxes = d.boxes := rfl
@[simp] theorem Dev.upOp_can (n : Nat) (f : OpUnit → OpUnit) (d : Dev) : (d.upOp n f).can = d.can := rfl
@[simp] theorem Dev.upOp_faults (n : Nat) (f : OpUnit → OpUnit) (d : Dev) : (d.upOp n f).faults = d.faults := rfl
@[simp] theorem Dev.upOp_inhibit (n : Nat) (f : OpUnit → OpUnit) (d : Dev) : (d.upOp n f).inhibit = d.inhibit := rfl
@[simp] theorem Dev.upOp_monitors (n : Nat) (f : OpUnit → OpUnit) (d : Dev) : (d.upOp n f).monitors = d.monitors := rfl
@[simp] theorem Dev.upOp_parts (n : Nat) (f : OpUnit → OpUnit) (d : Dev) : (d.upOp n f).parts = d.parts := rfl
@[simp] theorem Dev.upOp_pds (n : Nat) (f : OpUnit → OpUnit) (d : Dev) : (d.upOp n f).pds = d.pds := rfl
@[simp] theorem Dev.upOp_resets (n : Nat) (f : OpUnit → OpUnit) (d : Dev) : (d.upOp n f).resets = d.resets := rfl
@[simp] theorem Dev.upOp_net (n : Nat) (f : OpUnit → OpUnit) (d : Dev) : (d.upOp n f).net = d.net := rfl
@[simp] theorem Dev.upOp_nis (n : Nat) (f : OpUnit → OpUnit) (d : Dev) : (d.upOp n f).nis = d.nis := rfl
@[simp] theorem Dev.upOp_probes (n : Nat) (f : OpUnit → OpUnit) (d : Dev) : (d.upOp n f).probes = d.probes := rfl
@[simp] theorem Dev.upOp_ddr (n : Nat) (f : OpUnit → OpUnit) (d : Dev) : (d.upOp n f).ddr = d.ddr := rfl
@[simp] theorem Dev.upOp_doms (n : Nat) (f : OpUnit → OpUnit) (d : Dev) : (d.upOp n f).doms = d.doms := rfl
@[simp] theorem Dev.upOp_matrix (n : Nat) (f : OpUnit → OpUnit) (d : Dev) : (d.upOp n f).matrix = d.matrix := rfl
@[simp] theorem Dev.upOp_bridge (n : Nat) (f : OpUnit → OpUnit) (d : Dev) : (d.upOp n f).bridge = d.bridge := rfl
@[simp] theorem Dev.upOp_queues (n : Nat) (f : OpUnit → OpUnit) (d : Dev) : (d.upOp n f).queues = d.queues := rfl
@[simp] theorem Dev.upOp_host (n : Nat) (f : OpUnit → OpUnit) (d : Dev) : (d.upOp n f).host = d.host := rfl
@[simp] theorem Dev.upOp_conv (n : Nat) (f : OpUnit → OpUnit) (d : Dev) : (d.upOp n f).conv = d.conv := rfl
@[simp] theorem Dev.upOp_boot (n : Nat) (f : OpUnit → OpUnit) (d : Dev) : (d.upOp n f).boot = d.boot := rfl
@[simp] theorem Dev.upOp_eth (n : Nat) (f : OpUnit → OpUnit) (d : Dev) : (d.upOp n f).eth = d.eth := rfl
@[simp] theorem Dev.upOp_timing (n : Nat) (f : OpUnit → OpUnit) (d : Dev) : (d.upOp n f).timing = d.timing := rfl
@[simp] theorem Dev.upOp_flash (n : Nat) (f : OpUnit → OpUnit) (d : Dev) : (d.upOp n f).flash = d.flash := rfl
@[simp] theorem Dev.upOp_otp (n : Nat) (f : OpUnit → OpUnit) (d : Dev) : (d.upOp n f).otp = d.otp := rfl
@[simp] theorem Dev.upOp_mem (n : Nat) (f : OpUnit → OpUnit) (d : Dev) : (d.upOp n f).mem = d.mem := rfl
@[simp] theorem Dev.upOp_undef (n : Nat) (f : OpUnit → OpUnit) (d : Dev) : (d.upOp n f).undef = d.undef := rfl
@[simp] theorem Dev.upOp_bus (n : Nat) (f : OpUnit → OpUnit) (d : Dev) : (d.upOp n f).bus = d.bus := rfl

/-! `Dev.upProbe` changes `probes`. -/

@[simp] theorem Dev.upProbe_clock (j : Nat) (f : Probe → Probe) (d : Dev) : (d.upProbe j f).clock = d.clock := rfl
@[simp] theorem Dev.upProbe_power (j : Nat) (f : Probe → Probe) (d : Dev) : (d.upProbe j f).power = d.power := rfl
@[simp] theorem Dev.upProbe_free (j : Nat) (f : Probe → Probe) (d : Dev) : (d.upProbe j f).free = d.free := rfl
@[simp] theorem Dev.upProbe_store (j : Nat) (f : Probe → Probe) (d : Dev) : (d.upProbe j f).store = d.store := rfl
@[simp] theorem Dev.upProbe_boxes (j : Nat) (f : Probe → Probe) (d : Dev) : (d.upProbe j f).boxes = d.boxes := rfl
@[simp] theorem Dev.upProbe_can (j : Nat) (f : Probe → Probe) (d : Dev) : (d.upProbe j f).can = d.can := rfl
@[simp] theorem Dev.upProbe_faults (j : Nat) (f : Probe → Probe) (d : Dev) : (d.upProbe j f).faults = d.faults := rfl
@[simp] theorem Dev.upProbe_inhibit (j : Nat) (f : Probe → Probe) (d : Dev) : (d.upProbe j f).inhibit = d.inhibit := rfl
@[simp] theorem Dev.upProbe_monitors (j : Nat) (f : Probe → Probe) (d : Dev) : (d.upProbe j f).monitors = d.monitors := rfl
@[simp] theorem Dev.upProbe_parts (j : Nat) (f : Probe → Probe) (d : Dev) : (d.upProbe j f).parts = d.parts := rfl
@[simp] theorem Dev.upProbe_pds (j : Nat) (f : Probe → Probe) (d : Dev) : (d.upProbe j f).pds = d.pds := rfl
@[simp] theorem Dev.upProbe_resets (j : Nat) (f : Probe → Probe) (d : Dev) : (d.upProbe j f).resets = d.resets := rfl
@[simp] theorem Dev.upProbe_net (j : Nat) (f : Probe → Probe) (d : Dev) : (d.upProbe j f).net = d.net := rfl
@[simp] theorem Dev.upProbe_nis (j : Nat) (f : Probe → Probe) (d : Dev) : (d.upProbe j f).nis = d.nis := rfl
@[simp] theorem Dev.upProbe_ddr (j : Nat) (f : Probe → Probe) (d : Dev) : (d.upProbe j f).ddr = d.ddr := rfl
@[simp] theorem Dev.upProbe_doms (j : Nat) (f : Probe → Probe) (d : Dev) : (d.upProbe j f).doms = d.doms := rfl
@[simp] theorem Dev.upProbe_matrix (j : Nat) (f : Probe → Probe) (d : Dev) : (d.upProbe j f).matrix = d.matrix := rfl
@[simp] theorem Dev.upProbe_bridge (j : Nat) (f : Probe → Probe) (d : Dev) : (d.upProbe j f).bridge = d.bridge := rfl
@[simp] theorem Dev.upProbe_queues (j : Nat) (f : Probe → Probe) (d : Dev) : (d.upProbe j f).queues = d.queues := rfl
@[simp] theorem Dev.upProbe_host (j : Nat) (f : Probe → Probe) (d : Dev) : (d.upProbe j f).host = d.host := rfl
@[simp] theorem Dev.upProbe_conv (j : Nat) (f : Probe → Probe) (d : Dev) : (d.upProbe j f).conv = d.conv := rfl
@[simp] theorem Dev.upProbe_boot (j : Nat) (f : Probe → Probe) (d : Dev) : (d.upProbe j f).boot = d.boot := rfl
@[simp] theorem Dev.upProbe_eth (j : Nat) (f : Probe → Probe) (d : Dev) : (d.upProbe j f).eth = d.eth := rfl
@[simp] theorem Dev.upProbe_ops (j : Nat) (f : Probe → Probe) (d : Dev) : (d.upProbe j f).ops = d.ops := rfl
@[simp] theorem Dev.upProbe_timing (j : Nat) (f : Probe → Probe) (d : Dev) : (d.upProbe j f).timing = d.timing := rfl
@[simp] theorem Dev.upProbe_flash (j : Nat) (f : Probe → Probe) (d : Dev) : (d.upProbe j f).flash = d.flash := rfl
@[simp] theorem Dev.upProbe_otp (j : Nat) (f : Probe → Probe) (d : Dev) : (d.upProbe j f).otp = d.otp := rfl
@[simp] theorem Dev.upProbe_mem (j : Nat) (f : Probe → Probe) (d : Dev) : (d.upProbe j f).mem = d.mem := rfl
@[simp] theorem Dev.upProbe_undef (j : Nat) (f : Probe → Probe) (d : Dev) : (d.upProbe j f).undef = d.undef := rfl
@[simp] theorem Dev.upProbe_bus (j : Nat) (f : Probe → Probe) (d : Dev) : (d.upProbe j f).bus = d.bus := rfl

/-! `Dev.upFifo` changes `probes`. -/

@[simp] theorem Dev.upFifo_clock (k : Nat) (g : TraceFifo → TraceFifo) (d : Dev) : (d.upFifo k g).clock = d.clock := rfl
@[simp] theorem Dev.upFifo_power (k : Nat) (g : TraceFifo → TraceFifo) (d : Dev) : (d.upFifo k g).power = d.power := rfl
@[simp] theorem Dev.upFifo_free (k : Nat) (g : TraceFifo → TraceFifo) (d : Dev) : (d.upFifo k g).free = d.free := rfl
@[simp] theorem Dev.upFifo_store (k : Nat) (g : TraceFifo → TraceFifo) (d : Dev) : (d.upFifo k g).store = d.store := rfl
@[simp] theorem Dev.upFifo_boxes (k : Nat) (g : TraceFifo → TraceFifo) (d : Dev) : (d.upFifo k g).boxes = d.boxes := rfl
@[simp] theorem Dev.upFifo_can (k : Nat) (g : TraceFifo → TraceFifo) (d : Dev) : (d.upFifo k g).can = d.can := rfl
@[simp] theorem Dev.upFifo_faults (k : Nat) (g : TraceFifo → TraceFifo) (d : Dev) : (d.upFifo k g).faults = d.faults := rfl
@[simp] theorem Dev.upFifo_inhibit (k : Nat) (g : TraceFifo → TraceFifo) (d : Dev) : (d.upFifo k g).inhibit = d.inhibit := rfl
@[simp] theorem Dev.upFifo_monitors (k : Nat) (g : TraceFifo → TraceFifo) (d : Dev) : (d.upFifo k g).monitors = d.monitors := rfl
@[simp] theorem Dev.upFifo_parts (k : Nat) (g : TraceFifo → TraceFifo) (d : Dev) : (d.upFifo k g).parts = d.parts := rfl
@[simp] theorem Dev.upFifo_pds (k : Nat) (g : TraceFifo → TraceFifo) (d : Dev) : (d.upFifo k g).pds = d.pds := rfl
@[simp] theorem Dev.upFifo_resets (k : Nat) (g : TraceFifo → TraceFifo) (d : Dev) : (d.upFifo k g).resets = d.resets := rfl
@[simp] theorem Dev.upFifo_net (k : Nat) (g : TraceFifo → TraceFifo) (d : Dev) : (d.upFifo k g).net = d.net := rfl
@[simp] theorem Dev.upFifo_nis (k : Nat) (g : TraceFifo → TraceFifo) (d : Dev) : (d.upFifo k g).nis = d.nis := rfl
@[simp] theorem Dev.upFifo_ddr (k : Nat) (g : TraceFifo → TraceFifo) (d : Dev) : (d.upFifo k g).ddr = d.ddr := rfl
@[simp] theorem Dev.upFifo_doms (k : Nat) (g : TraceFifo → TraceFifo) (d : Dev) : (d.upFifo k g).doms = d.doms := rfl
@[simp] theorem Dev.upFifo_matrix (k : Nat) (g : TraceFifo → TraceFifo) (d : Dev) : (d.upFifo k g).matrix = d.matrix := rfl
@[simp] theorem Dev.upFifo_bridge (k : Nat) (g : TraceFifo → TraceFifo) (d : Dev) : (d.upFifo k g).bridge = d.bridge := rfl
@[simp] theorem Dev.upFifo_queues (k : Nat) (g : TraceFifo → TraceFifo) (d : Dev) : (d.upFifo k g).queues = d.queues := rfl
@[simp] theorem Dev.upFifo_host (k : Nat) (g : TraceFifo → TraceFifo) (d : Dev) : (d.upFifo k g).host = d.host := rfl
@[simp] theorem Dev.upFifo_conv (k : Nat) (g : TraceFifo → TraceFifo) (d : Dev) : (d.upFifo k g).conv = d.conv := rfl
@[simp] theorem Dev.upFifo_boot (k : Nat) (g : TraceFifo → TraceFifo) (d : Dev) : (d.upFifo k g).boot = d.boot := rfl
@[simp] theorem Dev.upFifo_eth (k : Nat) (g : TraceFifo → TraceFifo) (d : Dev) : (d.upFifo k g).eth = d.eth := rfl
@[simp] theorem Dev.upFifo_ops (k : Nat) (g : TraceFifo → TraceFifo) (d : Dev) : (d.upFifo k g).ops = d.ops := rfl
@[simp] theorem Dev.upFifo_timing (k : Nat) (g : TraceFifo → TraceFifo) (d : Dev) : (d.upFifo k g).timing = d.timing := rfl
@[simp] theorem Dev.upFifo_flash (k : Nat) (g : TraceFifo → TraceFifo) (d : Dev) : (d.upFifo k g).flash = d.flash := rfl
@[simp] theorem Dev.upFifo_otp (k : Nat) (g : TraceFifo → TraceFifo) (d : Dev) : (d.upFifo k g).otp = d.otp := rfl
@[simp] theorem Dev.upFifo_mem (k : Nat) (g : TraceFifo → TraceFifo) (d : Dev) : (d.upFifo k g).mem = d.mem := rfl
@[simp] theorem Dev.upFifo_undef (k : Nat) (g : TraceFifo → TraceFifo) (d : Dev) : (d.upFifo k g).undef = d.undef := rfl
@[simp] theorem Dev.upFifo_bus (k : Nat) (g : TraceFifo → TraceFifo) (d : Dev) : (d.upFifo k g).bus = d.bus := rfl

/-! `Dev.upSe` changes `queues`. -/

@[simp] theorem Dev.upSe_clock (n : Nat) (f : Se → Se) (d : Dev) : (d.upSe n f).clock = d.clock := rfl
@[simp] theorem Dev.upSe_power (n : Nat) (f : Se → Se) (d : Dev) : (d.upSe n f).power = d.power := rfl
@[simp] theorem Dev.upSe_free (n : Nat) (f : Se → Se) (d : Dev) : (d.upSe n f).free = d.free := rfl
@[simp] theorem Dev.upSe_store (n : Nat) (f : Se → Se) (d : Dev) : (d.upSe n f).store = d.store := rfl
@[simp] theorem Dev.upSe_boxes (n : Nat) (f : Se → Se) (d : Dev) : (d.upSe n f).boxes = d.boxes := rfl
@[simp] theorem Dev.upSe_can (n : Nat) (f : Se → Se) (d : Dev) : (d.upSe n f).can = d.can := rfl
@[simp] theorem Dev.upSe_faults (n : Nat) (f : Se → Se) (d : Dev) : (d.upSe n f).faults = d.faults := rfl
@[simp] theorem Dev.upSe_inhibit (n : Nat) (f : Se → Se) (d : Dev) : (d.upSe n f).inhibit = d.inhibit := rfl
@[simp] theorem Dev.upSe_monitors (n : Nat) (f : Se → Se) (d : Dev) : (d.upSe n f).monitors = d.monitors := rfl
@[simp] theorem Dev.upSe_parts (n : Nat) (f : Se → Se) (d : Dev) : (d.upSe n f).parts = d.parts := rfl
@[simp] theorem Dev.upSe_pds (n : Nat) (f : Se → Se) (d : Dev) : (d.upSe n f).pds = d.pds := rfl
@[simp] theorem Dev.upSe_resets (n : Nat) (f : Se → Se) (d : Dev) : (d.upSe n f).resets = d.resets := rfl
@[simp] theorem Dev.upSe_net (n : Nat) (f : Se → Se) (d : Dev) : (d.upSe n f).net = d.net := rfl
@[simp] theorem Dev.upSe_nis (n : Nat) (f : Se → Se) (d : Dev) : (d.upSe n f).nis = d.nis := rfl
@[simp] theorem Dev.upSe_probes (n : Nat) (f : Se → Se) (d : Dev) : (d.upSe n f).probes = d.probes := rfl
@[simp] theorem Dev.upSe_ddr (n : Nat) (f : Se → Se) (d : Dev) : (d.upSe n f).ddr = d.ddr := rfl
@[simp] theorem Dev.upSe_doms (n : Nat) (f : Se → Se) (d : Dev) : (d.upSe n f).doms = d.doms := rfl
@[simp] theorem Dev.upSe_matrix (n : Nat) (f : Se → Se) (d : Dev) : (d.upSe n f).matrix = d.matrix := rfl
@[simp] theorem Dev.upSe_bridge (n : Nat) (f : Se → Se) (d : Dev) : (d.upSe n f).bridge = d.bridge := rfl
@[simp] theorem Dev.upSe_host (n : Nat) (f : Se → Se) (d : Dev) : (d.upSe n f).host = d.host := rfl
@[simp] theorem Dev.upSe_conv (n : Nat) (f : Se → Se) (d : Dev) : (d.upSe n f).conv = d.conv := rfl
@[simp] theorem Dev.upSe_boot (n : Nat) (f : Se → Se) (d : Dev) : (d.upSe n f).boot = d.boot := rfl
@[simp] theorem Dev.upSe_eth (n : Nat) (f : Se → Se) (d : Dev) : (d.upSe n f).eth = d.eth := rfl
@[simp] theorem Dev.upSe_ops (n : Nat) (f : Se → Se) (d : Dev) : (d.upSe n f).ops = d.ops := rfl
@[simp] theorem Dev.upSe_timing (n : Nat) (f : Se → Se) (d : Dev) : (d.upSe n f).timing = d.timing := rfl
@[simp] theorem Dev.upSe_flash (n : Nat) (f : Se → Se) (d : Dev) : (d.upSe n f).flash = d.flash := rfl
@[simp] theorem Dev.upSe_otp (n : Nat) (f : Se → Se) (d : Dev) : (d.upSe n f).otp = d.otp := rfl
@[simp] theorem Dev.upSe_mem (n : Nat) (f : Se → Se) (d : Dev) : (d.upSe n f).mem = d.mem := rfl
@[simp] theorem Dev.upSe_undef (n : Nat) (f : Se → Se) (d : Dev) : (d.upSe n f).undef = d.undef := rfl
@[simp] theorem Dev.upSe_bus (n : Nat) (f : Se → Se) (d : Dev) : (d.upSe n f).bus = d.bus := rfl

/-! `Dev.upQueue` changes `queues`. -/

@[simp] theorem Dev.upQueue_clock (q : Nat) (f : Queue → Queue) (d : Dev) : (d.upQueue q f).clock = d.clock := by
  unfold Dev.upQueue; split <;> rfl
@[simp] theorem Dev.upQueue_power (q : Nat) (f : Queue → Queue) (d : Dev) : (d.upQueue q f).power = d.power := by
  unfold Dev.upQueue; split <;> rfl
@[simp] theorem Dev.upQueue_free (q : Nat) (f : Queue → Queue) (d : Dev) : (d.upQueue q f).free = d.free := by
  unfold Dev.upQueue; split <;> rfl
@[simp] theorem Dev.upQueue_store (q : Nat) (f : Queue → Queue) (d : Dev) : (d.upQueue q f).store = d.store := by
  unfold Dev.upQueue; split <;> rfl
@[simp] theorem Dev.upQueue_boxes (q : Nat) (f : Queue → Queue) (d : Dev) : (d.upQueue q f).boxes = d.boxes := by
  unfold Dev.upQueue; split <;> rfl
@[simp] theorem Dev.upQueue_can (q : Nat) (f : Queue → Queue) (d : Dev) : (d.upQueue q f).can = d.can := by
  unfold Dev.upQueue; split <;> rfl
@[simp] theorem Dev.upQueue_faults (q : Nat) (f : Queue → Queue) (d : Dev) : (d.upQueue q f).faults = d.faults := by
  unfold Dev.upQueue; split <;> rfl
@[simp] theorem Dev.upQueue_inhibit (q : Nat) (f : Queue → Queue) (d : Dev) : (d.upQueue q f).inhibit = d.inhibit := by
  unfold Dev.upQueue; split <;> rfl
@[simp] theorem Dev.upQueue_monitors (q : Nat) (f : Queue → Queue) (d : Dev) : (d.upQueue q f).monitors = d.monitors := by
  unfold Dev.upQueue; split <;> rfl
@[simp] theorem Dev.upQueue_parts (q : Nat) (f : Queue → Queue) (d : Dev) : (d.upQueue q f).parts = d.parts := by
  unfold Dev.upQueue; split <;> rfl
@[simp] theorem Dev.upQueue_pds (q : Nat) (f : Queue → Queue) (d : Dev) : (d.upQueue q f).pds = d.pds := by
  unfold Dev.upQueue; split <;> rfl
@[simp] theorem Dev.upQueue_resets (q : Nat) (f : Queue → Queue) (d : Dev) : (d.upQueue q f).resets = d.resets := by
  unfold Dev.upQueue; split <;> rfl
@[simp] theorem Dev.upQueue_net (q : Nat) (f : Queue → Queue) (d : Dev) : (d.upQueue q f).net = d.net := by
  unfold Dev.upQueue; split <;> rfl
@[simp] theorem Dev.upQueue_nis (q : Nat) (f : Queue → Queue) (d : Dev) : (d.upQueue q f).nis = d.nis := by
  unfold Dev.upQueue; split <;> rfl
@[simp] theorem Dev.upQueue_probes (q : Nat) (f : Queue → Queue) (d : Dev) : (d.upQueue q f).probes = d.probes := by
  unfold Dev.upQueue; split <;> rfl
@[simp] theorem Dev.upQueue_ddr (q : Nat) (f : Queue → Queue) (d : Dev) : (d.upQueue q f).ddr = d.ddr := by
  unfold Dev.upQueue; split <;> rfl
@[simp] theorem Dev.upQueue_doms (q : Nat) (f : Queue → Queue) (d : Dev) : (d.upQueue q f).doms = d.doms := by
  unfold Dev.upQueue; split <;> rfl
@[simp] theorem Dev.upQueue_matrix (q : Nat) (f : Queue → Queue) (d : Dev) : (d.upQueue q f).matrix = d.matrix := by
  unfold Dev.upQueue; split <;> rfl
@[simp] theorem Dev.upQueue_bridge (q : Nat) (f : Queue → Queue) (d : Dev) : (d.upQueue q f).bridge = d.bridge := by
  unfold Dev.upQueue; split <;> rfl
@[simp] theorem Dev.upQueue_host (q : Nat) (f : Queue → Queue) (d : Dev) : (d.upQueue q f).host = d.host := by
  unfold Dev.upQueue; split <;> rfl
@[simp] theorem Dev.upQueue_conv (q : Nat) (f : Queue → Queue) (d : Dev) : (d.upQueue q f).conv = d.conv := by
  unfold Dev.upQueue; split <;> rfl
@[simp] theorem Dev.upQueue_boot (q : Nat) (f : Queue → Queue) (d : Dev) : (d.upQueue q f).boot = d.boot := by
  unfold Dev.upQueue; split <;> rfl
@[simp] theorem Dev.upQueue_eth (q : Nat) (f : Queue → Queue) (d : Dev) : (d.upQueue q f).eth = d.eth := by
  unfold Dev.upQueue; split <;> rfl
@[simp] theorem Dev.upQueue_ops (q : Nat) (f : Queue → Queue) (d : Dev) : (d.upQueue q f).ops = d.ops := by
  unfold Dev.upQueue; split <;> rfl
@[simp] theorem Dev.upQueue_timing (q : Nat) (f : Queue → Queue) (d : Dev) : (d.upQueue q f).timing = d.timing := by
  unfold Dev.upQueue; split <;> rfl
@[simp] theorem Dev.upQueue_flash (q : Nat) (f : Queue → Queue) (d : Dev) : (d.upQueue q f).flash = d.flash := by
  unfold Dev.upQueue; split <;> rfl
@[simp] theorem Dev.upQueue_otp (q : Nat) (f : Queue → Queue) (d : Dev) : (d.upQueue q f).otp = d.otp := by
  unfold Dev.upQueue; split <;> rfl
@[simp] theorem Dev.upQueue_mem (q : Nat) (f : Queue → Queue) (d : Dev) : (d.upQueue q f).mem = d.mem := by
  unfold Dev.upQueue; split <;> rfl
@[simp] theorem Dev.upQueue_bus (q : Nat) (f : Queue → Queue) (d : Dev) : (d.upQueue q f).bus = d.bus := by
  unfold Dev.upQueue; split <;> rfl

/-! `Dev.setBells` changes `host`. -/

@[simp] theorem Dev.setBells_clock (h : Nat) (l : List Bell) (d : Dev) : (d.setBells h l).clock = d.clock := rfl
@[simp] theorem Dev.setBells_power (h : Nat) (l : List Bell) (d : Dev) : (d.setBells h l).power = d.power := rfl
@[simp] theorem Dev.setBells_free (h : Nat) (l : List Bell) (d : Dev) : (d.setBells h l).free = d.free := rfl
@[simp] theorem Dev.setBells_store (h : Nat) (l : List Bell) (d : Dev) : (d.setBells h l).store = d.store := rfl
@[simp] theorem Dev.setBells_boxes (h : Nat) (l : List Bell) (d : Dev) : (d.setBells h l).boxes = d.boxes := rfl
@[simp] theorem Dev.setBells_can (h : Nat) (l : List Bell) (d : Dev) : (d.setBells h l).can = d.can := rfl
@[simp] theorem Dev.setBells_faults (h : Nat) (l : List Bell) (d : Dev) : (d.setBells h l).faults = d.faults := rfl
@[simp] theorem Dev.setBells_inhibit (h : Nat) (l : List Bell) (d : Dev) : (d.setBells h l).inhibit = d.inhibit := rfl
@[simp] theorem Dev.setBells_monitors (h : Nat) (l : List Bell) (d : Dev) : (d.setBells h l).monitors = d.monitors := rfl
@[simp] theorem Dev.setBells_parts (h : Nat) (l : List Bell) (d : Dev) : (d.setBells h l).parts = d.parts := rfl
@[simp] theorem Dev.setBells_pds (h : Nat) (l : List Bell) (d : Dev) : (d.setBells h l).pds = d.pds := rfl
@[simp] theorem Dev.setBells_resets (h : Nat) (l : List Bell) (d : Dev) : (d.setBells h l).resets = d.resets := rfl
@[simp] theorem Dev.setBells_net (h : Nat) (l : List Bell) (d : Dev) : (d.setBells h l).net = d.net := rfl
@[simp] theorem Dev.setBells_nis (h : Nat) (l : List Bell) (d : Dev) : (d.setBells h l).nis = d.nis := rfl
@[simp] theorem Dev.setBells_probes (h : Nat) (l : List Bell) (d : Dev) : (d.setBells h l).probes = d.probes := rfl
@[simp] theorem Dev.setBells_ddr (h : Nat) (l : List Bell) (d : Dev) : (d.setBells h l).ddr = d.ddr := rfl
@[simp] theorem Dev.setBells_doms (h : Nat) (l : List Bell) (d : Dev) : (d.setBells h l).doms = d.doms := rfl
@[simp] theorem Dev.setBells_matrix (h : Nat) (l : List Bell) (d : Dev) : (d.setBells h l).matrix = d.matrix := rfl
@[simp] theorem Dev.setBells_bridge (h : Nat) (l : List Bell) (d : Dev) : (d.setBells h l).bridge = d.bridge := rfl
@[simp] theorem Dev.setBells_queues (h : Nat) (l : List Bell) (d : Dev) : (d.setBells h l).queues = d.queues := rfl
@[simp] theorem Dev.setBells_conv (h : Nat) (l : List Bell) (d : Dev) : (d.setBells h l).conv = d.conv := rfl
@[simp] theorem Dev.setBells_boot (h : Nat) (l : List Bell) (d : Dev) : (d.setBells h l).boot = d.boot := rfl
@[simp] theorem Dev.setBells_eth (h : Nat) (l : List Bell) (d : Dev) : (d.setBells h l).eth = d.eth := rfl
@[simp] theorem Dev.setBells_ops (h : Nat) (l : List Bell) (d : Dev) : (d.setBells h l).ops = d.ops := rfl
@[simp] theorem Dev.setBells_timing (h : Nat) (l : List Bell) (d : Dev) : (d.setBells h l).timing = d.timing := rfl
@[simp] theorem Dev.setBells_flash (h : Nat) (l : List Bell) (d : Dev) : (d.setBells h l).flash = d.flash := rfl
@[simp] theorem Dev.setBells_otp (h : Nat) (l : List Bell) (d : Dev) : (d.setBells h l).otp = d.otp := rfl
@[simp] theorem Dev.setBells_mem (h : Nat) (l : List Bell) (d : Dev) : (d.setBells h l).mem = d.mem := rfl
@[simp] theorem Dev.setBells_undef (h : Nat) (l : List Bell) (d : Dev) : (d.setBells h l).undef = d.undef := rfl
@[simp] theorem Dev.setBells_bus (h : Nat) (l : List Bell) (d : Dev) : (d.setBells h l).bus = d.bus := rfl

/-! `Dev.countHp` changes `host`. -/

@[simp] theorem Dev.countHp_clock (h sub : Nat) (d : Dev) : (d.countHp h sub).clock = d.clock := rfl
@[simp] theorem Dev.countHp_power (h sub : Nat) (d : Dev) : (d.countHp h sub).power = d.power := rfl
@[simp] theorem Dev.countHp_free (h sub : Nat) (d : Dev) : (d.countHp h sub).free = d.free := rfl
@[simp] theorem Dev.countHp_store (h sub : Nat) (d : Dev) : (d.countHp h sub).store = d.store := rfl
@[simp] theorem Dev.countHp_boxes (h sub : Nat) (d : Dev) : (d.countHp h sub).boxes = d.boxes := rfl
@[simp] theorem Dev.countHp_can (h sub : Nat) (d : Dev) : (d.countHp h sub).can = d.can := rfl
@[simp] theorem Dev.countHp_faults (h sub : Nat) (d : Dev) : (d.countHp h sub).faults = d.faults := rfl
@[simp] theorem Dev.countHp_inhibit (h sub : Nat) (d : Dev) : (d.countHp h sub).inhibit = d.inhibit := rfl
@[simp] theorem Dev.countHp_monitors (h sub : Nat) (d : Dev) : (d.countHp h sub).monitors = d.monitors := rfl
@[simp] theorem Dev.countHp_parts (h sub : Nat) (d : Dev) : (d.countHp h sub).parts = d.parts := rfl
@[simp] theorem Dev.countHp_pds (h sub : Nat) (d : Dev) : (d.countHp h sub).pds = d.pds := rfl
@[simp] theorem Dev.countHp_resets (h sub : Nat) (d : Dev) : (d.countHp h sub).resets = d.resets := rfl
@[simp] theorem Dev.countHp_net (h sub : Nat) (d : Dev) : (d.countHp h sub).net = d.net := rfl
@[simp] theorem Dev.countHp_nis (h sub : Nat) (d : Dev) : (d.countHp h sub).nis = d.nis := rfl
@[simp] theorem Dev.countHp_probes (h sub : Nat) (d : Dev) : (d.countHp h sub).probes = d.probes := rfl
@[simp] theorem Dev.countHp_ddr (h sub : Nat) (d : Dev) : (d.countHp h sub).ddr = d.ddr := rfl
@[simp] theorem Dev.countHp_doms (h sub : Nat) (d : Dev) : (d.countHp h sub).doms = d.doms := rfl
@[simp] theorem Dev.countHp_matrix (h sub : Nat) (d : Dev) : (d.countHp h sub).matrix = d.matrix := rfl
@[simp] theorem Dev.countHp_bridge (h sub : Nat) (d : Dev) : (d.countHp h sub).bridge = d.bridge := rfl
@[simp] theorem Dev.countHp_queues (h sub : Nat) (d : Dev) : (d.countHp h sub).queues = d.queues := rfl
@[simp] theorem Dev.countHp_conv (h sub : Nat) (d : Dev) : (d.countHp h sub).conv = d.conv := rfl
@[simp] theorem Dev.countHp_boot (h sub : Nat) (d : Dev) : (d.countHp h sub).boot = d.boot := rfl
@[simp] theorem Dev.countHp_eth (h sub : Nat) (d : Dev) : (d.countHp h sub).eth = d.eth := rfl
@[simp] theorem Dev.countHp_ops (h sub : Nat) (d : Dev) : (d.countHp h sub).ops = d.ops := rfl
@[simp] theorem Dev.countHp_timing (h sub : Nat) (d : Dev) : (d.countHp h sub).timing = d.timing := rfl
@[simp] theorem Dev.countHp_flash (h sub : Nat) (d : Dev) : (d.countHp h sub).flash = d.flash := rfl
@[simp] theorem Dev.countHp_otp (h sub : Nat) (d : Dev) : (d.countHp h sub).otp = d.otp := rfl
@[simp] theorem Dev.countHp_mem (h sub : Nat) (d : Dev) : (d.countHp h sub).mem = d.mem := rfl
@[simp] theorem Dev.countHp_undef (h sub : Nat) (d : Dev) : (d.countHp h sub).undef = d.undef := rfl
@[simp] theorem Dev.countHp_bus (h sub : Nat) (d : Dev) : (d.countHp h sub).bus = d.bus := rfl

/-! `Dev.countBell` changes `host`. -/

@[simp] theorem Dev.countBell_clock (sub : Nat) (d : Dev) : (d.countBell sub).clock = d.clock := rfl
@[simp] theorem Dev.countBell_power (sub : Nat) (d : Dev) : (d.countBell sub).power = d.power := rfl
@[simp] theorem Dev.countBell_free (sub : Nat) (d : Dev) : (d.countBell sub).free = d.free := rfl
@[simp] theorem Dev.countBell_store (sub : Nat) (d : Dev) : (d.countBell sub).store = d.store := rfl
@[simp] theorem Dev.countBell_boxes (sub : Nat) (d : Dev) : (d.countBell sub).boxes = d.boxes := rfl
@[simp] theorem Dev.countBell_can (sub : Nat) (d : Dev) : (d.countBell sub).can = d.can := rfl
@[simp] theorem Dev.countBell_faults (sub : Nat) (d : Dev) : (d.countBell sub).faults = d.faults := rfl
@[simp] theorem Dev.countBell_inhibit (sub : Nat) (d : Dev) : (d.countBell sub).inhibit = d.inhibit := rfl
@[simp] theorem Dev.countBell_monitors (sub : Nat) (d : Dev) : (d.countBell sub).monitors = d.monitors := rfl
@[simp] theorem Dev.countBell_parts (sub : Nat) (d : Dev) : (d.countBell sub).parts = d.parts := rfl
@[simp] theorem Dev.countBell_pds (sub : Nat) (d : Dev) : (d.countBell sub).pds = d.pds := rfl
@[simp] theorem Dev.countBell_resets (sub : Nat) (d : Dev) : (d.countBell sub).resets = d.resets := rfl
@[simp] theorem Dev.countBell_net (sub : Nat) (d : Dev) : (d.countBell sub).net = d.net := rfl
@[simp] theorem Dev.countBell_nis (sub : Nat) (d : Dev) : (d.countBell sub).nis = d.nis := rfl
@[simp] theorem Dev.countBell_probes (sub : Nat) (d : Dev) : (d.countBell sub).probes = d.probes := rfl
@[simp] theorem Dev.countBell_ddr (sub : Nat) (d : Dev) : (d.countBell sub).ddr = d.ddr := rfl
@[simp] theorem Dev.countBell_doms (sub : Nat) (d : Dev) : (d.countBell sub).doms = d.doms := rfl
@[simp] theorem Dev.countBell_matrix (sub : Nat) (d : Dev) : (d.countBell sub).matrix = d.matrix := rfl
@[simp] theorem Dev.countBell_bridge (sub : Nat) (d : Dev) : (d.countBell sub).bridge = d.bridge := rfl
@[simp] theorem Dev.countBell_queues (sub : Nat) (d : Dev) : (d.countBell sub).queues = d.queues := rfl
@[simp] theorem Dev.countBell_conv (sub : Nat) (d : Dev) : (d.countBell sub).conv = d.conv := rfl
@[simp] theorem Dev.countBell_boot (sub : Nat) (d : Dev) : (d.countBell sub).boot = d.boot := rfl
@[simp] theorem Dev.countBell_eth (sub : Nat) (d : Dev) : (d.countBell sub).eth = d.eth := rfl
@[simp] theorem Dev.countBell_ops (sub : Nat) (d : Dev) : (d.countBell sub).ops = d.ops := rfl
@[simp] theorem Dev.countBell_timing (sub : Nat) (d : Dev) : (d.countBell sub).timing = d.timing := rfl
@[simp] theorem Dev.countBell_flash (sub : Nat) (d : Dev) : (d.countBell sub).flash = d.flash := rfl
@[simp] theorem Dev.countBell_otp (sub : Nat) (d : Dev) : (d.countBell sub).otp = d.otp := rfl
@[simp] theorem Dev.countBell_mem (sub : Nat) (d : Dev) : (d.countBell sub).mem = d.mem := rfl
@[simp] theorem Dev.countBell_undef (sub : Nat) (d : Dev) : (d.countBell sub).undef = d.undef := rfl
@[simp] theorem Dev.countBell_bus (sub : Nat) (d : Dev) : (d.countBell sub).bus = d.bus := rfl

/-! `Dev.countBridge` changes `bridge`. -/

@[simp] theorem Dev.countBridge_clock (sub k : Nat) (d : Dev) : (d.countBridge sub k).clock = d.clock := rfl
@[simp] theorem Dev.countBridge_power (sub k : Nat) (d : Dev) : (d.countBridge sub k).power = d.power := rfl
@[simp] theorem Dev.countBridge_free (sub k : Nat) (d : Dev) : (d.countBridge sub k).free = d.free := rfl
@[simp] theorem Dev.countBridge_store (sub k : Nat) (d : Dev) : (d.countBridge sub k).store = d.store := rfl
@[simp] theorem Dev.countBridge_boxes (sub k : Nat) (d : Dev) : (d.countBridge sub k).boxes = d.boxes := rfl
@[simp] theorem Dev.countBridge_can (sub k : Nat) (d : Dev) : (d.countBridge sub k).can = d.can := rfl
@[simp] theorem Dev.countBridge_faults (sub k : Nat) (d : Dev) : (d.countBridge sub k).faults = d.faults := rfl
@[simp] theorem Dev.countBridge_inhibit (sub k : Nat) (d : Dev) : (d.countBridge sub k).inhibit = d.inhibit := rfl
@[simp] theorem Dev.countBridge_monitors (sub k : Nat) (d : Dev) : (d.countBridge sub k).monitors = d.monitors := rfl
@[simp] theorem Dev.countBridge_parts (sub k : Nat) (d : Dev) : (d.countBridge sub k).parts = d.parts := rfl
@[simp] theorem Dev.countBridge_pds (sub k : Nat) (d : Dev) : (d.countBridge sub k).pds = d.pds := rfl
@[simp] theorem Dev.countBridge_resets (sub k : Nat) (d : Dev) : (d.countBridge sub k).resets = d.resets := rfl
@[simp] theorem Dev.countBridge_net (sub k : Nat) (d : Dev) : (d.countBridge sub k).net = d.net := rfl
@[simp] theorem Dev.countBridge_nis (sub k : Nat) (d : Dev) : (d.countBridge sub k).nis = d.nis := rfl
@[simp] theorem Dev.countBridge_probes (sub k : Nat) (d : Dev) : (d.countBridge sub k).probes = d.probes := rfl
@[simp] theorem Dev.countBridge_ddr (sub k : Nat) (d : Dev) : (d.countBridge sub k).ddr = d.ddr := rfl
@[simp] theorem Dev.countBridge_doms (sub k : Nat) (d : Dev) : (d.countBridge sub k).doms = d.doms := rfl
@[simp] theorem Dev.countBridge_matrix (sub k : Nat) (d : Dev) : (d.countBridge sub k).matrix = d.matrix := rfl
@[simp] theorem Dev.countBridge_queues (sub k : Nat) (d : Dev) : (d.countBridge sub k).queues = d.queues := rfl
@[simp] theorem Dev.countBridge_host (sub k : Nat) (d : Dev) : (d.countBridge sub k).host = d.host := rfl
@[simp] theorem Dev.countBridge_conv (sub k : Nat) (d : Dev) : (d.countBridge sub k).conv = d.conv := rfl
@[simp] theorem Dev.countBridge_boot (sub k : Nat) (d : Dev) : (d.countBridge sub k).boot = d.boot := rfl
@[simp] theorem Dev.countBridge_eth (sub k : Nat) (d : Dev) : (d.countBridge sub k).eth = d.eth := rfl
@[simp] theorem Dev.countBridge_ops (sub k : Nat) (d : Dev) : (d.countBridge sub k).ops = d.ops := rfl
@[simp] theorem Dev.countBridge_timing (sub k : Nat) (d : Dev) : (d.countBridge sub k).timing = d.timing := rfl
@[simp] theorem Dev.countBridge_flash (sub k : Nat) (d : Dev) : (d.countBridge sub k).flash = d.flash := rfl
@[simp] theorem Dev.countBridge_otp (sub k : Nat) (d : Dev) : (d.countBridge sub k).otp = d.otp := rfl
@[simp] theorem Dev.countBridge_mem (sub k : Nat) (d : Dev) : (d.countBridge sub k).mem = d.mem := rfl
@[simp] theorem Dev.countBridge_undef (sub k : Nat) (d : Dev) : (d.countBridge sub k).undef = d.undef := rfl
@[simp] theorem Dev.countBridge_bus (sub k : Nat) (d : Dev) : (d.countBridge sub k).bus = d.bus := rfl

@[simp] theorem Dev.memWrite_clock (d : Dev) (a : Nat) (bs : Bytes) : (d.memWrite a bs).clock = d.clock := rfl
@[simp] theorem Dev.memWrite_power (d : Dev) (a : Nat) (bs : Bytes) : (d.memWrite a bs).power = d.power := rfl
@[simp] theorem Dev.memWrite_free (d : Dev) (a : Nat) (bs : Bytes) : (d.memWrite a bs).free = d.free := rfl
@[simp] theorem Dev.memWrite_store (d : Dev) (a : Nat) (bs : Bytes) : (d.memWrite a bs).store = d.store := rfl
@[simp] theorem Dev.memWrite_boxes (d : Dev) (a : Nat) (bs : Bytes) : (d.memWrite a bs).boxes = d.boxes := rfl
@[simp] theorem Dev.memWrite_can (d : Dev) (a : Nat) (bs : Bytes) : (d.memWrite a bs).can = d.can := rfl
@[simp] theorem Dev.memWrite_faults (d : Dev) (a : Nat) (bs : Bytes) : (d.memWrite a bs).faults = d.faults := rfl
@[simp] theorem Dev.memWrite_inhibit (d : Dev) (a : Nat) (bs : Bytes) : (d.memWrite a bs).inhibit = d.inhibit := rfl
@[simp] theorem Dev.memWrite_monitors (d : Dev) (a : Nat) (bs : Bytes) : (d.memWrite a bs).monitors = d.monitors := rfl
@[simp] theorem Dev.memWrite_parts (d : Dev) (a : Nat) (bs : Bytes) : (d.memWrite a bs).parts = d.parts := rfl
@[simp] theorem Dev.memWrite_pds (d : Dev) (a : Nat) (bs : Bytes) : (d.memWrite a bs).pds = d.pds := rfl
@[simp] theorem Dev.memWrite_resets (d : Dev) (a : Nat) (bs : Bytes) : (d.memWrite a bs).resets = d.resets := rfl
@[simp] theorem Dev.memWrite_net (d : Dev) (a : Nat) (bs : Bytes) : (d.memWrite a bs).net = d.net := rfl
@[simp] theorem Dev.memWrite_nis (d : Dev) (a : Nat) (bs : Bytes) : (d.memWrite a bs).nis = d.nis := rfl
@[simp] theorem Dev.memWrite_probes (d : Dev) (a : Nat) (bs : Bytes) : (d.memWrite a bs).probes = d.probes := rfl
@[simp] theorem Dev.memWrite_ddr (d : Dev) (a : Nat) (bs : Bytes) : (d.memWrite a bs).ddr = d.ddr := rfl
@[simp] theorem Dev.memWrite_doms (d : Dev) (a : Nat) (bs : Bytes) : (d.memWrite a bs).doms = d.doms := rfl
@[simp] theorem Dev.memWrite_matrix (d : Dev) (a : Nat) (bs : Bytes) : (d.memWrite a bs).matrix = d.matrix := rfl
@[simp] theorem Dev.memWrite_bridge (d : Dev) (a : Nat) (bs : Bytes) : (d.memWrite a bs).bridge = d.bridge := rfl
@[simp] theorem Dev.memWrite_queues (d : Dev) (a : Nat) (bs : Bytes) : (d.memWrite a bs).queues = d.queues := rfl
@[simp] theorem Dev.memWrite_host (d : Dev) (a : Nat) (bs : Bytes) : (d.memWrite a bs).host = d.host := rfl
@[simp] theorem Dev.memWrite_conv (d : Dev) (a : Nat) (bs : Bytes) : (d.memWrite a bs).conv = d.conv := rfl
@[simp] theorem Dev.memWrite_boot (d : Dev) (a : Nat) (bs : Bytes) : (d.memWrite a bs).boot = d.boot := rfl
@[simp] theorem Dev.memWrite_eth (d : Dev) (a : Nat) (bs : Bytes) : (d.memWrite a bs).eth = d.eth := rfl
@[simp] theorem Dev.memWrite_ops (d : Dev) (a : Nat) (bs : Bytes) : (d.memWrite a bs).ops = d.ops := rfl
@[simp] theorem Dev.memWrite_timing (d : Dev) (a : Nat) (bs : Bytes) : (d.memWrite a bs).timing = d.timing := rfl
@[simp] theorem Dev.memWrite_flash (d : Dev) (a : Nat) (bs : Bytes) : (d.memWrite a bs).flash = d.flash := rfl
@[simp] theorem Dev.memWrite_otp (d : Dev) (a : Nat) (bs : Bytes) : (d.memWrite a bs).otp = d.otp := rfl
@[simp] theorem Dev.memWrite_mem (d : Dev) (a : Nat) (bs : Bytes) : (d.memWrite a bs).mem = d.mem := rfl
@[simp] theorem Dev.memWrite_undef (d : Dev) (a : Nat) (bs : Bytes) : (d.memWrite a bs).undef = d.undef := rfl
@[simp] theorem Dev.memForget_clock (d : Dev) (lo hi : Nat) (c : Option (Ddr × Nat)) : (d.memForget lo hi c).clock = d.clock := rfl
@[simp] theorem Dev.memForget_power (d : Dev) (lo hi : Nat) (c : Option (Ddr × Nat)) : (d.memForget lo hi c).power = d.power := rfl
@[simp] theorem Dev.memForget_free (d : Dev) (lo hi : Nat) (c : Option (Ddr × Nat)) : (d.memForget lo hi c).free = d.free + 1 := rfl
@[simp] theorem Dev.memForget_store (d : Dev) (lo hi : Nat) (c : Option (Ddr × Nat)) : (d.memForget lo hi c).store = d.store := rfl
@[simp] theorem Dev.memForget_boxes (d : Dev) (lo hi : Nat) (c : Option (Ddr × Nat)) : (d.memForget lo hi c).boxes = d.boxes := rfl
@[simp] theorem Dev.memForget_can (d : Dev) (lo hi : Nat) (c : Option (Ddr × Nat)) : (d.memForget lo hi c).can = d.can := rfl
@[simp] theorem Dev.memForget_faults (d : Dev) (lo hi : Nat) (c : Option (Ddr × Nat)) : (d.memForget lo hi c).faults = d.faults := rfl
@[simp] theorem Dev.memForget_inhibit (d : Dev) (lo hi : Nat) (c : Option (Ddr × Nat)) : (d.memForget lo hi c).inhibit = d.inhibit := rfl
@[simp] theorem Dev.memForget_monitors (d : Dev) (lo hi : Nat) (c : Option (Ddr × Nat)) : (d.memForget lo hi c).monitors = d.monitors := rfl
@[simp] theorem Dev.memForget_parts (d : Dev) (lo hi : Nat) (c : Option (Ddr × Nat)) : (d.memForget lo hi c).parts = d.parts := rfl
@[simp] theorem Dev.memForget_pds (d : Dev) (lo hi : Nat) (c : Option (Ddr × Nat)) : (d.memForget lo hi c).pds = d.pds := rfl
@[simp] theorem Dev.memForget_resets (d : Dev) (lo hi : Nat) (c : Option (Ddr × Nat)) : (d.memForget lo hi c).resets = d.resets := rfl
@[simp] theorem Dev.memForget_net (d : Dev) (lo hi : Nat) (c : Option (Ddr × Nat)) : (d.memForget lo hi c).net = d.net := rfl
@[simp] theorem Dev.memForget_nis (d : Dev) (lo hi : Nat) (c : Option (Ddr × Nat)) : (d.memForget lo hi c).nis = d.nis := rfl
@[simp] theorem Dev.memForget_probes (d : Dev) (lo hi : Nat) (c : Option (Ddr × Nat)) : (d.memForget lo hi c).probes = d.probes := rfl
@[simp] theorem Dev.memForget_ddr (d : Dev) (lo hi : Nat) (c : Option (Ddr × Nat)) : (d.memForget lo hi c).ddr = d.ddr := rfl
@[simp] theorem Dev.memForget_doms (d : Dev) (lo hi : Nat) (c : Option (Ddr × Nat)) : (d.memForget lo hi c).doms = d.doms := rfl
@[simp] theorem Dev.memForget_matrix (d : Dev) (lo hi : Nat) (c : Option (Ddr × Nat)) : (d.memForget lo hi c).matrix = d.matrix := rfl
@[simp] theorem Dev.memForget_bridge (d : Dev) (lo hi : Nat) (c : Option (Ddr × Nat)) : (d.memForget lo hi c).bridge = d.bridge := rfl
@[simp] theorem Dev.memForget_queues (d : Dev) (lo hi : Nat) (c : Option (Ddr × Nat)) : (d.memForget lo hi c).queues = d.queues := rfl
@[simp] theorem Dev.memForget_host (d : Dev) (lo hi : Nat) (c : Option (Ddr × Nat)) : (d.memForget lo hi c).host = d.host := rfl
@[simp] theorem Dev.memForget_conv (d : Dev) (lo hi : Nat) (c : Option (Ddr × Nat)) : (d.memForget lo hi c).conv = d.conv := rfl
@[simp] theorem Dev.memForget_boot (d : Dev) (lo hi : Nat) (c : Option (Ddr × Nat)) : (d.memForget lo hi c).boot = d.boot := rfl
@[simp] theorem Dev.memForget_eth (d : Dev) (lo hi : Nat) (c : Option (Ddr × Nat)) : (d.memForget lo hi c).eth = d.eth := rfl
@[simp] theorem Dev.memForget_ops (d : Dev) (lo hi : Nat) (c : Option (Ddr × Nat)) : (d.memForget lo hi c).ops = d.ops := rfl
@[simp] theorem Dev.memForget_timing (d : Dev) (lo hi : Nat) (c : Option (Ddr × Nat)) : (d.memForget lo hi c).timing = d.timing := rfl
@[simp] theorem Dev.memForget_flash (d : Dev) (lo hi : Nat) (c : Option (Ddr × Nat)) : (d.memForget lo hi c).flash = d.flash := rfl
@[simp] theorem Dev.memForget_otp (d : Dev) (lo hi : Nat) (c : Option (Ddr × Nat)) : (d.memForget lo hi c).otp = d.otp := rfl
@[simp] theorem Dev.memForget_mem (d : Dev) (lo hi : Nat) (c : Option (Ddr × Nat)) : (d.memForget lo hi c).mem = d.mem := rfl
@[simp] theorem Dev.memForget_undef (d : Dev) (lo hi : Nat) (c : Option (Ddr × Nat)) : (d.memForget lo hi c).undef = d.undef := rfl

/-! `Dev.countLink` changes `conv`. -/

@[simp] theorem Dev.countLink_clock (k sub : Nat) (d : Dev) : (d.countLink k sub).clock = d.clock := rfl
@[simp] theorem Dev.countLink_power (k sub : Nat) (d : Dev) : (d.countLink k sub).power = d.power := rfl
@[simp] theorem Dev.countLink_free (k sub : Nat) (d : Dev) : (d.countLink k sub).free = d.free := rfl
@[simp] theorem Dev.countLink_store (k sub : Nat) (d : Dev) : (d.countLink k sub).store = d.store := rfl
@[simp] theorem Dev.countLink_boxes (k sub : Nat) (d : Dev) : (d.countLink k sub).boxes = d.boxes := rfl
@[simp] theorem Dev.countLink_can (k sub : Nat) (d : Dev) : (d.countLink k sub).can = d.can := rfl
@[simp] theorem Dev.countLink_faults (k sub : Nat) (d : Dev) : (d.countLink k sub).faults = d.faults := rfl
@[simp] theorem Dev.countLink_inhibit (k sub : Nat) (d : Dev) : (d.countLink k sub).inhibit = d.inhibit := rfl
@[simp] theorem Dev.countLink_monitors (k sub : Nat) (d : Dev) : (d.countLink k sub).monitors = d.monitors := rfl
@[simp] theorem Dev.countLink_parts (k sub : Nat) (d : Dev) : (d.countLink k sub).parts = d.parts := rfl
@[simp] theorem Dev.countLink_pds (k sub : Nat) (d : Dev) : (d.countLink k sub).pds = d.pds := rfl
@[simp] theorem Dev.countLink_resets (k sub : Nat) (d : Dev) : (d.countLink k sub).resets = d.resets := rfl
@[simp] theorem Dev.countLink_net (k sub : Nat) (d : Dev) : (d.countLink k sub).net = d.net := rfl
@[simp] theorem Dev.countLink_nis (k sub : Nat) (d : Dev) : (d.countLink k sub).nis = d.nis := rfl
@[simp] theorem Dev.countLink_probes (k sub : Nat) (d : Dev) : (d.countLink k sub).probes = d.probes := rfl
@[simp] theorem Dev.countLink_ddr (k sub : Nat) (d : Dev) : (d.countLink k sub).ddr = d.ddr := rfl
@[simp] theorem Dev.countLink_doms (k sub : Nat) (d : Dev) : (d.countLink k sub).doms = d.doms := rfl
@[simp] theorem Dev.countLink_matrix (k sub : Nat) (d : Dev) : (d.countLink k sub).matrix = d.matrix := rfl
@[simp] theorem Dev.countLink_bridge (k sub : Nat) (d : Dev) : (d.countLink k sub).bridge = d.bridge := rfl
@[simp] theorem Dev.countLink_queues (k sub : Nat) (d : Dev) : (d.countLink k sub).queues = d.queues := rfl
@[simp] theorem Dev.countLink_host (k sub : Nat) (d : Dev) : (d.countLink k sub).host = d.host := rfl
@[simp] theorem Dev.countLink_boot (k sub : Nat) (d : Dev) : (d.countLink k sub).boot = d.boot := rfl
@[simp] theorem Dev.countLink_eth (k sub : Nat) (d : Dev) : (d.countLink k sub).eth = d.eth := rfl
@[simp] theorem Dev.countLink_ops (k sub : Nat) (d : Dev) : (d.countLink k sub).ops = d.ops := rfl
@[simp] theorem Dev.countLink_timing (k sub : Nat) (d : Dev) : (d.countLink k sub).timing = d.timing := rfl
@[simp] theorem Dev.countLink_flash (k sub : Nat) (d : Dev) : (d.countLink k sub).flash = d.flash := rfl
@[simp] theorem Dev.countLink_otp (k sub : Nat) (d : Dev) : (d.countLink k sub).otp = d.otp := rfl
@[simp] theorem Dev.countLink_mem (k sub : Nat) (d : Dev) : (d.countLink k sub).mem = d.mem := rfl
@[simp] theorem Dev.countLink_undef (k sub : Nat) (d : Dev) : (d.countLink k sub).undef = d.undef := rfl
@[simp] theorem Dev.countLink_bus (k sub : Nat) (d : Dev) : (d.countLink k sub).bus = d.bus := rfl

/-! `Dev.countPort` changes `eth`. -/

@[simp] theorem Dev.countPort_clock (p sub n : Nat) (d : Dev) : (d.countPort p sub n).clock = d.clock := rfl
@[simp] theorem Dev.countPort_power (p sub n : Nat) (d : Dev) : (d.countPort p sub n).power = d.power := rfl
@[simp] theorem Dev.countPort_free (p sub n : Nat) (d : Dev) : (d.countPort p sub n).free = d.free := rfl
@[simp] theorem Dev.countPort_store (p sub n : Nat) (d : Dev) : (d.countPort p sub n).store = d.store := rfl
@[simp] theorem Dev.countPort_boxes (p sub n : Nat) (d : Dev) : (d.countPort p sub n).boxes = d.boxes := rfl
@[simp] theorem Dev.countPort_can (p sub n : Nat) (d : Dev) : (d.countPort p sub n).can = d.can := rfl
@[simp] theorem Dev.countPort_faults (p sub n : Nat) (d : Dev) : (d.countPort p sub n).faults = d.faults := rfl
@[simp] theorem Dev.countPort_inhibit (p sub n : Nat) (d : Dev) : (d.countPort p sub n).inhibit = d.inhibit := rfl
@[simp] theorem Dev.countPort_monitors (p sub n : Nat) (d : Dev) : (d.countPort p sub n).monitors = d.monitors := rfl
@[simp] theorem Dev.countPort_parts (p sub n : Nat) (d : Dev) : (d.countPort p sub n).parts = d.parts := rfl
@[simp] theorem Dev.countPort_pds (p sub n : Nat) (d : Dev) : (d.countPort p sub n).pds = d.pds := rfl
@[simp] theorem Dev.countPort_resets (p sub n : Nat) (d : Dev) : (d.countPort p sub n).resets = d.resets := rfl
@[simp] theorem Dev.countPort_net (p sub n : Nat) (d : Dev) : (d.countPort p sub n).net = d.net := rfl
@[simp] theorem Dev.countPort_nis (p sub n : Nat) (d : Dev) : (d.countPort p sub n).nis = d.nis := rfl
@[simp] theorem Dev.countPort_probes (p sub n : Nat) (d : Dev) : (d.countPort p sub n).probes = d.probes := rfl
@[simp] theorem Dev.countPort_ddr (p sub n : Nat) (d : Dev) : (d.countPort p sub n).ddr = d.ddr := rfl
@[simp] theorem Dev.countPort_doms (p sub n : Nat) (d : Dev) : (d.countPort p sub n).doms = d.doms := rfl
@[simp] theorem Dev.countPort_matrix (p sub n : Nat) (d : Dev) : (d.countPort p sub n).matrix = d.matrix := rfl
@[simp] theorem Dev.countPort_bridge (p sub n : Nat) (d : Dev) : (d.countPort p sub n).bridge = d.bridge := rfl
@[simp] theorem Dev.countPort_queues (p sub n : Nat) (d : Dev) : (d.countPort p sub n).queues = d.queues := rfl
@[simp] theorem Dev.countPort_host (p sub n : Nat) (d : Dev) : (d.countPort p sub n).host = d.host := rfl
@[simp] theorem Dev.countPort_conv (p sub n : Nat) (d : Dev) : (d.countPort p sub n).conv = d.conv := rfl
@[simp] theorem Dev.countPort_boot (p sub n : Nat) (d : Dev) : (d.countPort p sub n).boot = d.boot := rfl
@[simp] theorem Dev.countPort_ops (p sub n : Nat) (d : Dev) : (d.countPort p sub n).ops = d.ops := rfl
@[simp] theorem Dev.countPort_timing (p sub n : Nat) (d : Dev) : (d.countPort p sub n).timing = d.timing := rfl
@[simp] theorem Dev.countPort_flash (p sub n : Nat) (d : Dev) : (d.countPort p sub n).flash = d.flash := rfl
@[simp] theorem Dev.countPort_otp (p sub n : Nat) (d : Dev) : (d.countPort p sub n).otp = d.otp := rfl
@[simp] theorem Dev.countPort_mem (p sub n : Nat) (d : Dev) : (d.countPort p sub n).mem = d.mem := rfl
@[simp] theorem Dev.countPort_undef (p sub n : Nat) (d : Dev) : (d.countPort p sub n).undef = d.undef := rfl
@[simp] theorem Dev.countPort_bus (p sub n : Nat) (d : Dev) : (d.countPort p sub n).bus = d.bus := rfl

/-! `Dev.countOp` changes `ops`. -/

@[simp] theorem Dev.countOp_clock (n sub k : Nat) (d : Dev) : (d.countOp n sub k).clock = d.clock := rfl
@[simp] theorem Dev.countOp_power (n sub k : Nat) (d : Dev) : (d.countOp n sub k).power = d.power := rfl
@[simp] theorem Dev.countOp_free (n sub k : Nat) (d : Dev) : (d.countOp n sub k).free = d.free := rfl
@[simp] theorem Dev.countOp_store (n sub k : Nat) (d : Dev) : (d.countOp n sub k).store = d.store := rfl
@[simp] theorem Dev.countOp_boxes (n sub k : Nat) (d : Dev) : (d.countOp n sub k).boxes = d.boxes := rfl
@[simp] theorem Dev.countOp_can (n sub k : Nat) (d : Dev) : (d.countOp n sub k).can = d.can := rfl
@[simp] theorem Dev.countOp_faults (n sub k : Nat) (d : Dev) : (d.countOp n sub k).faults = d.faults := rfl
@[simp] theorem Dev.countOp_inhibit (n sub k : Nat) (d : Dev) : (d.countOp n sub k).inhibit = d.inhibit := rfl
@[simp] theorem Dev.countOp_monitors (n sub k : Nat) (d : Dev) : (d.countOp n sub k).monitors = d.monitors := rfl
@[simp] theorem Dev.countOp_parts (n sub k : Nat) (d : Dev) : (d.countOp n sub k).parts = d.parts := rfl
@[simp] theorem Dev.countOp_pds (n sub k : Nat) (d : Dev) : (d.countOp n sub k).pds = d.pds := rfl
@[simp] theorem Dev.countOp_resets (n sub k : Nat) (d : Dev) : (d.countOp n sub k).resets = d.resets := rfl
@[simp] theorem Dev.countOp_net (n sub k : Nat) (d : Dev) : (d.countOp n sub k).net = d.net := rfl
@[simp] theorem Dev.countOp_nis (n sub k : Nat) (d : Dev) : (d.countOp n sub k).nis = d.nis := rfl
@[simp] theorem Dev.countOp_probes (n sub k : Nat) (d : Dev) : (d.countOp n sub k).probes = d.probes := rfl
@[simp] theorem Dev.countOp_ddr (n sub k : Nat) (d : Dev) : (d.countOp n sub k).ddr = d.ddr := rfl
@[simp] theorem Dev.countOp_doms (n sub k : Nat) (d : Dev) : (d.countOp n sub k).doms = d.doms := rfl
@[simp] theorem Dev.countOp_matrix (n sub k : Nat) (d : Dev) : (d.countOp n sub k).matrix = d.matrix := rfl
@[simp] theorem Dev.countOp_bridge (n sub k : Nat) (d : Dev) : (d.countOp n sub k).bridge = d.bridge := rfl
@[simp] theorem Dev.countOp_queues (n sub k : Nat) (d : Dev) : (d.countOp n sub k).queues = d.queues := rfl
@[simp] theorem Dev.countOp_host (n sub k : Nat) (d : Dev) : (d.countOp n sub k).host = d.host := rfl
@[simp] theorem Dev.countOp_conv (n sub k : Nat) (d : Dev) : (d.countOp n sub k).conv = d.conv := rfl
@[simp] theorem Dev.countOp_boot (n sub k : Nat) (d : Dev) : (d.countOp n sub k).boot = d.boot := rfl
@[simp] theorem Dev.countOp_eth (n sub k : Nat) (d : Dev) : (d.countOp n sub k).eth = d.eth := rfl
@[simp] theorem Dev.countOp_timing (n sub k : Nat) (d : Dev) : (d.countOp n sub k).timing = d.timing := rfl
@[simp] theorem Dev.countOp_flash (n sub k : Nat) (d : Dev) : (d.countOp n sub k).flash = d.flash := rfl
@[simp] theorem Dev.countOp_otp (n sub k : Nat) (d : Dev) : (d.countOp n sub k).otp = d.otp := rfl
@[simp] theorem Dev.countOp_mem (n sub k : Nat) (d : Dev) : (d.countOp n sub k).mem = d.mem := rfl
@[simp] theorem Dev.countOp_undef (n sub k : Nat) (d : Dev) : (d.countOp n sub k).undef = d.undef := rfl
@[simp] theorem Dev.countOp_bus (n sub k : Nat) (d : Dev) : (d.countOp n sub k).bus = d.bus := rfl

/-! `Dev.countSe` changes `queues`. -/

@[simp] theorem Dev.countSe_clock (n sub : Nat) (d : Dev) : (d.countSe n sub).clock = d.clock := rfl
@[simp] theorem Dev.countSe_power (n sub : Nat) (d : Dev) : (d.countSe n sub).power = d.power := rfl
@[simp] theorem Dev.countSe_free (n sub : Nat) (d : Dev) : (d.countSe n sub).free = d.free := rfl
@[simp] theorem Dev.countSe_store (n sub : Nat) (d : Dev) : (d.countSe n sub).store = d.store := rfl
@[simp] theorem Dev.countSe_boxes (n sub : Nat) (d : Dev) : (d.countSe n sub).boxes = d.boxes := rfl
@[simp] theorem Dev.countSe_can (n sub : Nat) (d : Dev) : (d.countSe n sub).can = d.can := rfl
@[simp] theorem Dev.countSe_faults (n sub : Nat) (d : Dev) : (d.countSe n sub).faults = d.faults := rfl
@[simp] theorem Dev.countSe_inhibit (n sub : Nat) (d : Dev) : (d.countSe n sub).inhibit = d.inhibit := rfl
@[simp] theorem Dev.countSe_monitors (n sub : Nat) (d : Dev) : (d.countSe n sub).monitors = d.monitors := rfl
@[simp] theorem Dev.countSe_parts (n sub : Nat) (d : Dev) : (d.countSe n sub).parts = d.parts := rfl
@[simp] theorem Dev.countSe_pds (n sub : Nat) (d : Dev) : (d.countSe n sub).pds = d.pds := rfl
@[simp] theorem Dev.countSe_resets (n sub : Nat) (d : Dev) : (d.countSe n sub).resets = d.resets := rfl
@[simp] theorem Dev.countSe_net (n sub : Nat) (d : Dev) : (d.countSe n sub).net = d.net := rfl
@[simp] theorem Dev.countSe_nis (n sub : Nat) (d : Dev) : (d.countSe n sub).nis = d.nis := rfl
@[simp] theorem Dev.countSe_probes (n sub : Nat) (d : Dev) : (d.countSe n sub).probes = d.probes := rfl
@[simp] theorem Dev.countSe_ddr (n sub : Nat) (d : Dev) : (d.countSe n sub).ddr = d.ddr := rfl
@[simp] theorem Dev.countSe_doms (n sub : Nat) (d : Dev) : (d.countSe n sub).doms = d.doms := rfl
@[simp] theorem Dev.countSe_matrix (n sub : Nat) (d : Dev) : (d.countSe n sub).matrix = d.matrix := rfl
@[simp] theorem Dev.countSe_bridge (n sub : Nat) (d : Dev) : (d.countSe n sub).bridge = d.bridge := rfl
@[simp] theorem Dev.countSe_host (n sub : Nat) (d : Dev) : (d.countSe n sub).host = d.host := rfl
@[simp] theorem Dev.countSe_conv (n sub : Nat) (d : Dev) : (d.countSe n sub).conv = d.conv := rfl
@[simp] theorem Dev.countSe_boot (n sub : Nat) (d : Dev) : (d.countSe n sub).boot = d.boot := rfl
@[simp] theorem Dev.countSe_eth (n sub : Nat) (d : Dev) : (d.countSe n sub).eth = d.eth := rfl
@[simp] theorem Dev.countSe_ops (n sub : Nat) (d : Dev) : (d.countSe n sub).ops = d.ops := rfl
@[simp] theorem Dev.countSe_timing (n sub : Nat) (d : Dev) : (d.countSe n sub).timing = d.timing := rfl
@[simp] theorem Dev.countSe_flash (n sub : Nat) (d : Dev) : (d.countSe n sub).flash = d.flash := rfl
@[simp] theorem Dev.countSe_otp (n sub : Nat) (d : Dev) : (d.countSe n sub).otp = d.otp := rfl
@[simp] theorem Dev.countSe_mem (n sub : Nat) (d : Dev) : (d.countSe n sub).mem = d.mem := rfl
@[simp] theorem Dev.countSe_undef (n sub : Nat) (d : Dev) : (d.countSe n sub).undef = d.undef := rfl
@[simp] theorem Dev.countSe_bus (n sub : Nat) (d : Dev) : (d.countSe n sub).bus = d.bus := rfl

/-! `Dev.setQueue` changes `queues`. -/

@[simp] theorem Dev.setQueue_clock (q : Nat) (x : Queue) (d : Dev) : (d.setQueue q x).clock = d.clock := rfl
@[simp] theorem Dev.setQueue_power (q : Nat) (x : Queue) (d : Dev) : (d.setQueue q x).power = d.power := rfl
@[simp] theorem Dev.setQueue_free (q : Nat) (x : Queue) (d : Dev) : (d.setQueue q x).free = d.free := rfl
@[simp] theorem Dev.setQueue_store (q : Nat) (x : Queue) (d : Dev) : (d.setQueue q x).store = d.store := rfl
@[simp] theorem Dev.setQueue_boxes (q : Nat) (x : Queue) (d : Dev) : (d.setQueue q x).boxes = d.boxes := rfl
@[simp] theorem Dev.setQueue_can (q : Nat) (x : Queue) (d : Dev) : (d.setQueue q x).can = d.can := rfl
@[simp] theorem Dev.setQueue_faults (q : Nat) (x : Queue) (d : Dev) : (d.setQueue q x).faults = d.faults := rfl
@[simp] theorem Dev.setQueue_inhibit (q : Nat) (x : Queue) (d : Dev) : (d.setQueue q x).inhibit = d.inhibit := rfl
@[simp] theorem Dev.setQueue_monitors (q : Nat) (x : Queue) (d : Dev) : (d.setQueue q x).monitors = d.monitors := rfl
@[simp] theorem Dev.setQueue_parts (q : Nat) (x : Queue) (d : Dev) : (d.setQueue q x).parts = d.parts := rfl
@[simp] theorem Dev.setQueue_pds (q : Nat) (x : Queue) (d : Dev) : (d.setQueue q x).pds = d.pds := rfl
@[simp] theorem Dev.setQueue_resets (q : Nat) (x : Queue) (d : Dev) : (d.setQueue q x).resets = d.resets := rfl
@[simp] theorem Dev.setQueue_net (q : Nat) (x : Queue) (d : Dev) : (d.setQueue q x).net = d.net := rfl
@[simp] theorem Dev.setQueue_nis (q : Nat) (x : Queue) (d : Dev) : (d.setQueue q x).nis = d.nis := rfl
@[simp] theorem Dev.setQueue_probes (q : Nat) (x : Queue) (d : Dev) : (d.setQueue q x).probes = d.probes := rfl
@[simp] theorem Dev.setQueue_ddr (q : Nat) (x : Queue) (d : Dev) : (d.setQueue q x).ddr = d.ddr := rfl
@[simp] theorem Dev.setQueue_doms (q : Nat) (x : Queue) (d : Dev) : (d.setQueue q x).doms = d.doms := rfl
@[simp] theorem Dev.setQueue_matrix (q : Nat) (x : Queue) (d : Dev) : (d.setQueue q x).matrix = d.matrix := rfl
@[simp] theorem Dev.setQueue_bridge (q : Nat) (x : Queue) (d : Dev) : (d.setQueue q x).bridge = d.bridge := rfl
@[simp] theorem Dev.setQueue_host (q : Nat) (x : Queue) (d : Dev) : (d.setQueue q x).host = d.host := rfl
@[simp] theorem Dev.setQueue_conv (q : Nat) (x : Queue) (d : Dev) : (d.setQueue q x).conv = d.conv := rfl
@[simp] theorem Dev.setQueue_boot (q : Nat) (x : Queue) (d : Dev) : (d.setQueue q x).boot = d.boot := rfl
@[simp] theorem Dev.setQueue_eth (q : Nat) (x : Queue) (d : Dev) : (d.setQueue q x).eth = d.eth := rfl
@[simp] theorem Dev.setQueue_ops (q : Nat) (x : Queue) (d : Dev) : (d.setQueue q x).ops = d.ops := rfl
@[simp] theorem Dev.setQueue_timing (q : Nat) (x : Queue) (d : Dev) : (d.setQueue q x).timing = d.timing := rfl
@[simp] theorem Dev.setQueue_flash (q : Nat) (x : Queue) (d : Dev) : (d.setQueue q x).flash = d.flash := rfl
@[simp] theorem Dev.setQueue_otp (q : Nat) (x : Queue) (d : Dev) : (d.setQueue q x).otp = d.otp := rfl
@[simp] theorem Dev.setQueue_mem (q : Nat) (x : Queue) (d : Dev) : (d.setQueue q x).mem = d.mem := rfl
@[simp] theorem Dev.setQueue_undef (q : Nat) (x : Queue) (d : Dev) : (d.setQueue q x).undef = d.undef := rfl
@[simp] theorem Dev.setQueue_bus (q : Nat) (x : Queue) (d : Dev) : (d.setQueue q x).bus = d.bus := rfl

end Sys2Proof.Machine
end

