-- ==== Sys2Proof/Laws/Memory.lean ====
section
/-! SUPPORT. The laws of tables and of main memory: read after write, and that every memory operation keeps the
canonical form. -/
namespace Sys2Proof

/-! Tables. -/

theorem Tbl.get_set_same {α : Type} (z v : α) (t : Tbl α) (k : Nat) : (t.set k v).get z k = v := by
  induction t with
  | nil => simp [Tbl.set, Tbl.get]
  | cons e t ih =>
    obtain ⟨j, w⟩ := e
    by_cases h : j = k
    · simp [Tbl.set, Tbl.get, h]
    · by_cases h2 : k < j
      · simp [Tbl.set, Tbl.get, h, h2]
      · simp [Tbl.set, Tbl.get, h, h2, ih]

theorem Tbl.get_set_ne {α : Type} (z v : α) (t : Tbl α) {k i : Nat} (hi : i ≠ k) : (t.set k v).get z i = t.get z i := by
  induction t with
  | nil => simp [Tbl.set, Tbl.get, hi.symm]
  | cons e t ih =>
    obtain ⟨j, w⟩ := e
    by_cases h : j = k
    · simp [Tbl.set, Tbl.get, h, hi.symm]
    · by_cases h2 : k < j
      · simp [Tbl.set, Tbl.get, h, h2, hi.symm]
      · simp only [Tbl.set, if_neg h, if_neg h2, Tbl.get, ih]

theorem Tbl.get_erase_same {α : Type} (z : α) (t : Tbl α) (k : Nat) : (t.erase k).get z k = z := by
  induction t with
  | nil => rfl
  | cons e t ih =>
    obtain ⟨j, w⟩ := e
    by_cases h : j = k
    · simp [Tbl.erase, h, ih]
    · simp [Tbl.erase, Tbl.get, h, ih]

theorem Tbl.get_erase_ne {α : Type} (z : α) (t : Tbl α) {k i : Nat} (hi : i ≠ k) : (t.erase k).get z i = t.get z i := by
  induction t with
  | nil => rfl
  | cons e t ih =>
    obtain ⟨j, w⟩ := e
    by_cases h : j = k
    · simp [Tbl.erase, Tbl.get, h, ih, hi.symm]
    · simp only [Tbl.erase, if_neg h, Tbl.get, ih]

@[simp] theorem Tbl.get_modify_same {α : Type} (z : α) (t : Tbl α) (k : Nat) (f : α → α) :
    (Tbl.modify z t k f).get z k = f (t.get z k) := Tbl.get_set_same ..

theorem Tbl.get_modify_ne {α : Type} (z : α) (t : Tbl α) {k i : Nat} (hi : i ≠ k) (f : α → α) :
    (Tbl.modify z t k f).get z i = t.get z i := Tbl.get_set_ne _ _ _ hi

/-- The value at a key of a table whose values are mapped, where the map keeps the default. -/
theorem Tbl.get_map {α β : Type} (g : α → β) (z : α) (w : β) (h : g z = w) (t : Tbl α) (k : Nat) :
    Tbl.get w (t.map fun e => (e.1, g e.2)) k = g (t.get z k) := by
  induction t with
  | nil => exact h.symm
  | cons e t ih =>
    obtain ⟨j, v⟩ := e
    by_cases hj : j = k
    · simp only [List.map_cons, Tbl.get, if_pos hj]
    · simp only [List.map_cons, Tbl.get, if_neg hj, ih]

namespace Machine

/-! Memory. -/

/-- A byte that is written reads as written. -/
theorem Mem.read1_write1_same (m : List Host.Cell) (a : Nat) (b : Byte) : Mem.read1 (Mem.write1 m a b) a = b := by
  unfold Mem.read1 Mem.write1
  split
  · next h => rw [Tbl.get_erase_same, h]
  · exact Tbl.get_set_same ..

/-- A write of one byte leaves every other byte. -/
theorem Mem.read1_write1_ne (m : List Host.Cell) {a i : Nat} (h : i ≠ a) (b : Byte) :
    Mem.read1 (Mem.write1 m a b) i = Mem.read1 m i := by
  unfold Mem.read1 Mem.write1
  split
  · exact Tbl.get_erase_ne _ _ h
  · exact Tbl.get_set_ne _ _ _ h

/-- What a string write leaves in memory, byte by byte. -/
theorem Mem.read1_writeBytes (bs : Bytes) : ∀ (m : List Host.Cell) (a i : Nat),
    Mem.read1 (Mem.writeBytes m a bs) i = if a ≤ i ∧ i < a + bs.length then bs.getD (i - a) (byte 0) else Mem.read1 m i := by
  induction bs with
  | nil =>
    intro m a i
    have h : ¬ (a ≤ i ∧ i < a + ([] : Bytes).length) := by simp
    simp only [Mem.writeBytes, if_neg h]
  | cons b bs ih =>
    intro m a i
    simp only [Mem.writeBytes, ih, List.length_cons]
    by_cases h : i = a
    · subst h
      have h1 : ¬ (i + 1 ≤ i ∧ i < i + 1 + bs.length) := by omega
      have h2 : i ≤ i ∧ i < i + (bs.length + 1) := by omega
      rw [if_neg h1, if_pos h2, Mem.read1_write1_same]
      simp
    · rw [Mem.read1_write1_ne m h]
      by_cases h1 : a + 1 ≤ i ∧ i < a + 1 + bs.length
      · have h2 : a ≤ i ∧ i < a + (bs.length + 1) := by omega
        have h3 : i - a = (i - (a + 1)) + 1 := by omega
        rw [if_pos h1, if_pos h2, h3]
        simp
      · have h2 : ¬ (a ≤ i ∧ i < a + (bs.length + 1)) := by omega
        rw [if_neg h1, if_neg h2]

/-- The canonical form as a statement about pairs. -/
theorem Mem.sorted_iff (m : List Host.Cell) : Mem.sorted m = true ↔ m.Pairwise fun a b => a.1 < b.1 := by
  induction m with
  | nil => simp [Mem.sorted]
  | cons a t ih =>
    cases t with
    | nil => simp [Mem.sorted]
    | cons b t =>
      simp only [Mem.sorted, Bool.and_eq_true, decide_eq_true_eq, ih]
      constructor
      · rintro ⟨h, hp⟩
        refine List.pairwise_cons.2 ⟨?_, hp⟩
        intro c hc
        rcases List.mem_cons.1 hc with rfl | hc
        · exact h
        · exact Nat.lt_trans h ((List.pairwise_cons.1 hp).1 c hc)
      · intro hp
        exact ⟨(List.pairwise_cons.1 hp).1 b (by simp), (List.pairwise_cons.1 hp).2⟩

theorem Memory.wf_iff (m : List Host.Cell) :
    Memory.wf m = true ↔ (m.Pairwise fun a b => a.1 < b.1) ∧ ∀ c ∈ m, c.2 ≠ byte 0 := by
  simp [Memory.wf, Mem.sorted_iff]

theorem Tbl.mem_erase {α : Type} {t : Tbl α} {k : Nat} {c : Nat × α} (h : c ∈ t.erase k) : c ∈ t := by
  induction t with
  | nil => exact h
  | cons e t ih =>
    obtain ⟨j, w⟩ := e
    by_cases hj : j = k
    · exact List.mem_cons_of_mem _ (ih (by simpa [Tbl.erase, hj] using h))
    · simp only [Tbl.erase, if_neg hj, List.mem_cons] at h
      rcases h with h | h
      · simp [h]
      · exact List.mem_cons_of_mem _ (ih h)

theorem Tbl.mem_set {α : Type} {t : Tbl α} {k : Nat} {v : α} {c : Nat × α} (h : c ∈ t.set k v) : c = (k, v) ∨ c ∈ t := by
  induction t with
  | nil => simpa [Tbl.set] using h
  | cons e t ih =>
    obtain ⟨j, w⟩ := e
    by_cases hj : j = k
    · simp only [Tbl.set, hj, if_true, List.mem_cons] at h
      rcases h with h | h
      · exact Or.inl h
      · exact Or.inr (List.mem_cons_of_mem _ h)
    · by_cases h2 : k < j
      · simpa [Tbl.set, hj, h2] using h
      · simp only [Tbl.set, if_neg hj, if_neg h2, List.mem_cons] at h
        rcases h with h | h
        · exact Or.inr (by simp [h])
        · rcases ih h with h | h
          · exact Or.inl h
          · exact Or.inr (List.mem_cons_of_mem _ h)

theorem Tbl.rising_erase {α : Type} {t : Tbl α} (h : t.Pairwise fun a b => a.1 < b.1) (k : Nat) :
    (t.erase k).Pairwise fun a b => a.1 < b.1 := by
  induction t with
  | nil => exact h
  | cons e t ih =>
    obtain ⟨j, w⟩ := e
    obtain ⟨h1, h2⟩ := List.pairwise_cons.1 h
    by_cases hj : j = k
    · simpa [Tbl.erase, hj] using ih h2
    · simp only [Tbl.erase, if_neg hj]
      exact List.pairwise_cons.2 ⟨fun c hc => h1 c (Tbl.mem_erase hc), ih h2⟩

theorem Tbl.rising_set {α : Type} {t : Tbl α} (h : t.Pairwise fun a b => a.1 < b.1) (k : Nat) (v : α) :
    (t.set k v).Pairwise fun a b => a.1 < b.1 := by
  induction t with
  | nil => simp [Tbl.set]
  | cons e t ih =>
    obtain ⟨j, w⟩ := e
    obtain ⟨h1, h2⟩ := List.pairwise_cons.1 h
    by_cases hj : j = k
    · simp only [Tbl.set, hj, if_true]
      exact List.pairwise_cons.2 ⟨fun c hc => by simpa [hj] using h1 c hc, h2⟩
    · by_cases h3 : k < j
      · simp only [Tbl.set, if_neg hj, if_pos h3]
        refine List.pairwise_cons.2 ⟨?_, h⟩
        intro c hc
        rcases List.mem_cons.1 hc with rfl | hc
        · exact h3
        · exact Nat.lt_trans h3 (h1 c hc)
      · simp only [Tbl.set, if_neg hj, if_neg h3]
        refine List.pairwise_cons.2 ⟨?_, ih h2⟩
        intro c hc
        rcases Tbl.mem_set hc with rfl | hc
        · show j < k
          omega
        · exact h1 c hc

/-- A byte write keeps the canonical form. -/
theorem Mem.write1_wf {m : List Host.Cell} (h : Memory.wf m = true) (a : Nat) (b : Byte) :
    Memory.wf (Mem.write1 m a b) = true := by
  rw [Memory.wf_iff] at h ⊢
  unfold Mem.write1
  split
  · exact ⟨Tbl.rising_erase h.1 a, fun c hc => h.2 c (Tbl.mem_erase hc)⟩
  · next hb =>
    refine ⟨Tbl.rising_set h.1 a b, fun c hc => ?_⟩
    rcases Tbl.mem_set hc with rfl | hc
    · exact hb
    · exact h.2 c hc

/-- A string write keeps the canonical form. -/
theorem Mem.writeBytes_wf (bs : Bytes) : ∀ {m : List Host.Cell} (a : Nat), Memory.wf m = true →
    Memory.wf (Mem.writeBytes m a bs) = true := by
  induction bs with
  | nil => intro m a h; exact h
  | cons b bs ih => intro m a h; exact ih (a + 1) (Mem.write1_wf h a b)

/-- Forgetting addresses keeps the canonical form. -/
theorem Mem.forget_wf {m : List Host.Cell} (h : Memory.wf m = true) (r : Undef) : Memory.wf (Mem.forget m r) = true := by
  rw [Memory.wf_iff] at h ⊢
  exact ⟨h.1.filter _, fun c hc => h.2 c ((List.mem_filter.1 hc).1)⟩

/-- One memory change keeps the canonical form. -/
theorem MemOp.apply_wf (op : MemOp) {m : List Host.Cell} (h : Memory.wf m = true) : Memory.wf (op.apply m) = true := by
  cases op with
  | write a bs => exact Mem.writeBytes_wf bs a h
  | forget r => exact Mem.forget_wf h r

/-- The changes of a command keep the canonical form. -/
theorem Mem.applyAll_wf (ops : List MemOp) {m : List Host.Cell} (h : Memory.wf m = true) :
    Memory.wf (Mem.applyAll ops m) = true := by
  induction ops with
  | nil => exact h
  | cons op ops ih => exact MemOp.apply_wf op ih

/-- A byte that is not forgotten is left. -/
theorem Mem.read1_forget (m : List Host.Cell) (r : Undef) {i : Nat} (h : r.covers i = false) :
    Mem.read1 (Mem.forget m r) i = Mem.read1 m i := by
  induction m with
  | nil => rfl
  | cons c m ih =>
    obtain ⟨j, b⟩ := c
    unfold Mem.read1 Mem.forget at ih
    unfold Mem.read1 Mem.forget
    by_cases hj : j = i
    · subst hj
      simp [h, Tbl.get]
    · by_cases hc : r.covers j = true
      · simp only [List.filter_cons, hc, Bool.not_true, Bool.false_eq_true, if_false, Tbl.get, if_neg hj, ih]
      · simp only [List.filter_cons, hc, Bool.not_false, if_true, Tbl.get, if_neg hj, ih]

/-- What is left of an undefined range once the addresses from `lo` to `hi` are written keeps its stamp and lies outside them. -/
theorem Undef.cut_mem {lo hi : Nat} {r s : Undef} (h : s ∈ Undef.cut lo hi r) {i : Nat} (hs : s.covers i = true) :
    s.stamp = r.stamp ∧ r.covers i = true ∧ ¬ (lo ≤ i ∧ i ≤ hi) := by
  unfold Undef.cut at h
  split at h
  · next hd =>
    rw [List.mem_singleton] at h; subst h
    refine ⟨rfl, hs, ?_⟩
    have := (Bool.and_eq_true_iff.1 hs).1
    simp only [decide_eq_true_eq] at this
    omega
  · next hd =>
    have key : s.stamp = r.stamp ∧ s.chan = r.chan ∧ ((s.lo = r.lo ∧ s.hi = lo - 1 ∧ r.lo < lo) ∨ (s.lo = hi + 1 ∧ s.hi = r.hi)) := by
      rcases List.mem_append.1 h with h | h <;> split at h <;> simp at h <;> subst h <;> simp [*]
    obtain ⟨h1, h2, h3⟩ := key
    simp only [Undef.covers, h2, Bool.and_eq_true, decide_eq_true_eq] at hs ⊢
    refine ⟨h1, ⟨?_, hs.2⟩, ?_⟩ <;> omega

/-- An address outside the written ones stays undefined. -/
theorem Undef.cut_kept {lo hi : Nat} {r : Undef} {i : Nat} (h : r.covers i = true) (ho : ¬ (lo ≤ i ∧ i ≤ hi)) :
    ∃ s ∈ Undef.cut lo hi r, s.covers i = true := by
  have hc := Bool.and_eq_true_iff.1 h
  simp only [decide_eq_true_eq] at hc
  unfold Undef.cut
  split
  · exact ⟨r, by simp, h⟩
  · next hd =>
    by_cases hi' : i < lo
    · refine ⟨{ r with hi := lo - 1 }, ?_, ?_⟩
      · have : r.lo < lo := by omega
        simp [this]
      · refine Bool.and_eq_true_iff.2 ⟨?_, hc.2⟩
        simp only [decide_eq_true_eq]
        omega
    · refine ⟨{ r with lo := hi + 1 }, ?_, ?_⟩
      · have : hi < r.hi := by omega
        simp [this]
      · refine Bool.and_eq_true_iff.2 ⟨?_, hc.2⟩
        simp only [decide_eq_true_eq]
        omega

/-- A write makes its addresses defined and leaves the others. -/
theorem Undef.read_cut (us : List Undef) (f : Nat → Byte) (lo hi i : Nat) :
    Undef.read (us.map (Undef.cut lo hi)).flatten f i = if lo ≤ i ∧ i ≤ hi then f i else Undef.read us f i := by
  induction us with
  | nil => simp [Undef.read]
  | cons r us ih =>
    unfold Undef.read at ih ⊢
    simp only [List.map_cons, List.flatten_cons, List.find?_append, List.find?_cons]
    cases hf : (Undef.cut lo hi r).find? (fun s => s.covers i) with
    | some s =>
      have hs : s.covers i = true := List.find?_some (p := fun s : Undef => s.covers i) hf
      obtain ⟨h1, h2, h3⟩ := Undef.cut_mem (List.mem_of_find?_eq_some hf) hs
      simp [h1, h2, h3]
    | none =>
      have hn : ¬ (r.covers i = true ∧ ¬ (lo ≤ i ∧ i ≤ hi)) := fun hh => by
        obtain ⟨s, hs, hc⟩ := Undef.cut_kept hh.1 hh.2
        exact absurd hc (by simpa using List.find?_eq_none.1 hf s hs)
      simp only [Option.none_or]
      rw [ih]
      by_cases hr : lo ≤ i ∧ i ≤ hi
      · simp [hr]
      · have : r.covers i = false := by
          cases h : r.covers i with
          | false => rfl
          | true => exact absurd ⟨h, hr⟩ hn
        simp [hr, this]

/-- A byte of memory after one change. -/
theorem MemOp.read_apply (op : MemOp) (us : List Undef) (m : List Host.Cell) (a : Nat) :
    Undef.read (op.applyUndef us) (Mem.read1 (op.apply m)) a = busRead [op] (Undef.read us (Mem.read1 m)) a := by
  cases op with
  | write b bs =>
    cases bs with
    | nil =>
      have h : ¬ (b ≤ a ∧ a < b + ([] : Bytes).length) := by simp
      simp only [MemOp.applyUndef, MemOp.apply, Mem.writeBytes, busRead, List.isEmpty_nil, if_true, if_neg h]
    | cons x xs =>
      simp only [MemOp.applyUndef, List.isEmpty_cons, Bool.false_eq_true, if_false, Undef.read_cut, MemOp.apply, busRead]
      by_cases h : b ≤ a ∧ a < b + (x :: xs).length
      · have h1 : b ≤ a ∧ a ≤ b + (x :: xs).length - 1 := by omega
        rw [if_pos h1, if_pos h, Mem.read1_writeBytes, if_pos h]
      · have h1 : ¬ (b ≤ a ∧ a ≤ b + (x :: xs).length - 1) := by simp only [List.length_cons] at h ⊢; omega
        rw [if_neg h1, if_neg h]
        unfold Undef.read
        split
        · rfl
        · rw [Mem.read1_writeBytes, if_neg h]
  | forget r =>
    simp only [MemOp.applyUndef, MemOp.apply, busRead]
    by_cases h : r.covers a = true
    · simp [Undef.read, h]
    · have h' : r.covers a = false := by simpa using h
      simp only [Undef.read, List.find?_cons, h', Bool.false_eq_true, if_false]
      cases us.find? fun r => r.covers a with
      | some _ => rfl
      | none => exact Mem.read1_forget m r h'

/-- A unit that reads memory within a command sees what memory will hold at its end. -/
theorem busRead_eq (ops : List MemOp) (us : List Undef) (m : List Host.Cell) (a : Nat) :
    busRead ops (Undef.read us (Mem.read1 m)) a = Undef.read (Undef.applyAll ops us) (Mem.read1 (Mem.applyAll ops m)) a := by
  induction ops with
  | nil => rfl
  | cons op ops ih =>
    simp only [Undef.applyAll, Mem.applyAll, List.foldr_cons, MemOp.read_apply]
    cases op <;> simp only [busRead, ih, Undef.applyAll, Mem.applyAll]

end Machine
end Sys2Proof
end

