-- ==== Sys2Proof/Laws/Exec.lean ====
section
/-! SUPPORT. What any command can do to the state, said once: the shape of a meaning, and what the end of a command keeps. -/
namespace Sys2Proof.Machine

/-! The end of a command. -/

@[simp] theorem settle_power (d e : Dev) : (settle d e).power = e.power := rfl
@[simp] theorem settle_free (d e : Dev) : (settle d e).free = e.free := rfl
@[simp] theorem settle_store (d e : Dev) : (settle d e).store = e.store := rfl
@[simp] theorem settle_boxes (d e : Dev) : (settle d e).boxes = e.boxes := rfl
@[simp] theorem settle_can (d e : Dev) : (settle d e).can = e.can := rfl
@[simp] theorem settle_faults (d e : Dev) : (settle d e).faults = e.faults := rfl
@[simp] theorem settle_inhibit (d e : Dev) : (settle d e).inhibit = e.inhibit := rfl
@[simp] theorem settle_monitors (d e : Dev) : (settle d e).monitors = e.monitors := rfl
@[simp] theorem settle_parts (d e : Dev) : (settle d e).parts = e.parts := rfl
@[simp] theorem settle_pds (d e : Dev) : (settle d e).pds = e.pds := rfl
@[simp] theorem settle_resets (d e : Dev) : (settle d e).resets = e.resets := rfl
@[simp] theorem settle_net (d e : Dev) : (settle d e).net = e.net := rfl
@[simp] theorem settle_nis (d e : Dev) : (settle d e).nis = e.nis := rfl
@[simp] theorem settle_probes (d e : Dev) : (settle d e).probes = e.probes := rfl
@[simp] theorem settle_ddr (d e : Dev) : (settle d e).ddr = e.ddr := rfl
@[simp] theorem settle_doms (d e : Dev) : (settle d e).doms = e.doms := rfl
@[simp] theorem settle_matrix (d e : Dev) : (settle d e).matrix = e.matrix := rfl
@[simp] theorem settle_bridge (d e : Dev) : (settle d e).bridge = e.bridge := rfl
@[simp] theorem settle_queues (d e : Dev) : (settle d e).queues = e.queues := rfl
@[simp] theorem settle_host (d e : Dev) : (settle d e).host = e.host := rfl
@[simp] theorem settle_conv (d e : Dev) : (settle d e).conv = e.conv := rfl
@[simp] theorem settle_boot (d e : Dev) : (settle d e).boot = e.boot := rfl
@[simp] theorem settle_eth (d e : Dev) : (settle d e).eth = e.eth := rfl
@[simp] theorem settle_ops (d e : Dev) : (settle d e).ops = e.ops := rfl
@[simp] theorem settle_timing (d e : Dev) : (settle d e).timing = e.timing := rfl
@[simp] theorem settle_flash (d e : Dev) : (settle d e).flash = e.flash := rfl
@[simp] theorem settle_otp (d e : Dev) : (settle d e).otp = e.otp := rfl
@[simp] theorem settle_bus (d e : Dev) : (settle d e).bus = [] := rfl
@[simp] theorem settle_wall (d e : Dev) : (settle d e).clock.wall = d.clock.wall := rfl
@[simp] theorem settle_edges (d e : Dev) : (settle d e).clock.edges = e.clock.edges := rfl
@[simp] theorem settle_running (d e : Dev) : (settle d e).clock.running = e.clock.running := rfl
theorem settle_mem (d e : Dev) : (settle d e).mem = Mem.applyAll e.bus d.mem := rfl
theorem settle_undef (d e : Dev) : (settle d e).undef = Undef.applyAll e.bus d.undef := rfl

/-- The end of a command keeps memory canonical. -/
theorem settle_wf {d : Dev} (h : Memory.wf d.mem = true) (e : Dev) : Memory.wf (settle d e).mem = true :=
  Mem.applyAll_wf e.bus h

/-- A byte after a command is what a unit last saw of it within the command. -/
theorem settle_stored (d e : Dev) (a : Nat) : (settle d e).stored a = busRead e.bus d.stored a :=
  (busRead_eq e.bus d.undef d.mem a).symm

/-- A command whose effect changes nothing leaves the device as it was. -/
theorem settle_self {d : Dev} (h : d.bus = []) : settle d d = d := by
  cases d with
  | mk => simp only at h; subst h; rfl

/-! The shape of a meaning. -/

/-- What a meaning answers: a refusal of operands that name nothing, the state itself, or its effect, settled. -/
inductive Answer (s : State) : Host.Outcome State Fault Refusal → Prop where
  | refused : Answer s (.refused .illFormed)
  | held : Answer s (.next s)
  | effect (f : Dev → Dev) : Answer s (.next { s with dev := settle s.dev (f s.dev) })

theorem act_answer (ok : Bool) (f : Dev → Dev) (s : State) : Answer s (act ok f s) := by
  unfold act
  split
  · split
    · exact .effect f
    · exact .held
  · exact .refused

theorem actAlways_answer (ok : Bool) (f : Dev → Dev) (s : State) : Answer s (actAlways ok f s) := by
  unfold actAlways
  split
  · exact .effect f
  · exact .refused

/-- A well-formed command of a device that has left reset completes with its effect. -/
theorem act_ready {ok : Bool} (f : Dev → Dev) {s : State} (ho : ok = true) (hr : s.dev.power.released = true) :
    act ok f s = .next { s with dev := settle s.dev (f s.dev) } := by
  simp [act, ho, hr]

/-- A well-formed command of the fabric, in a device that has left reset and whose FCLK runs, completes with its effect. -/
theorem actFclk_ready {ok : Bool} (f : Dev → Dev) {s : State} (ho : ok = true) (hr : s.dev.power.released = true)
    (hc : s.dev.clock.running = true) : actFclk ok f s = .next { s with dev := settle s.dev (f s.dev) } := by
  simp [actFclk, act, ho, hr, hc]

/-- While FCLK does not run a command of the fabric changes nothing. -/
theorem actFclk_stopped {ok : Bool} (f : Dev → Dev) {s : State} (ho : ok = true) (hb : s.dev.bus = [])
    (hc : s.dev.clock.running = false) : actFclk ok f s = .next s := by
  simp only [actFclk, act, ho, hc, if_true, Bool.false_eq_true, if_false, settle_self hb, ite_self]

/-- A supply, pin or reset command completes with its effect whether or not reset has been released. -/
theorem actAlways_ready {ok : Bool} (f : Dev → Dev) (s : State) (ho : ok = true) :
    actAlways ok f s = .next { s with dev := settle s.dev (f s.dev) } := by
  simp [actAlways, ho]

/-- What any command can answer. -/
theorem exec_answer (c : Instr) (s : State) : Answer s (exec c s) := by
  cases c <;> first
    | exact act_answer _ _ s | exact actAlways_answer _ _ s | exact act_answer true _ s | exact actAlways_answer true _ s

end Sys2Proof.Machine
end

