-- ==== Sys2Proof/Laws/Ni.lean ====
section
/-! SUPPORT. What the operations of one network interface can do, said once: they change that NI and the collector's queue of
events, and nothing else of the device. -/
namespace Sys2Proof.Machine

/-- `t` differs from `d` at most in NI `n` and in the fault collector. -/
def AtNi (n : Nat) (d t : Dev) : Prop :=
  t = { d with nis := t.nis, faults := t.faults } ∧ ∀ i, i ≠ n → t.ni i = d.ni i

theorem AtNi.refl (n : Nat) (d : Dev) : AtNi n d d := ⟨rfl, fun _ _ => rfl⟩

theorem AtNi.trans {n : Nat} {d t u : Dev} (h : AtNi n d t) (k : AtNi n t u) : AtNi n d u := by
  refine ⟨?_, fun i hi => (k.2 i hi).trans (h.2 i hi)⟩
  rw [k.1, h.1]

theorem AtNi.upNi (n : Nat) (f : Ni → Ni) (d : Dev) : AtNi n d (d.upNi n f) :=
  ⟨rfl, fun _ hi => Tbl.get_modify_ne ({ } : Ni) d.nis hi f⟩

theorem AtNi.raise (n src inst part cause : Nat) (inj : Bool) (q : Option Nat) (d : Dev) :
    AtNi n d (d.raise src inst part cause inj q) := by
  unfold Dev.raise
  dsimp only
  split <;> exact ⟨rfl, fun _ _ => rfl⟩

theorem AtNi.when {n : Nat} {c : Bool} {f : Dev → Dev} {d : Dev} (h : AtNi n d (f d)) : AtNi n d (d.when c f) := by
  cases c
  · exact .refl n d
  · exact h

theorem AtNi.fold {α : Type} {n : Nat} {f : α → Dev → Dev} (h : ∀ x d, AtNi n d (f x d)) (l : List α) :
    ∀ d, AtNi n d (Dev.fold l f d) := by
  induction l with
  | nil => exact fun d => .refl n d
  | cons x t ih => exact fun d => (h x d).trans (ih (f x d))

/-! The target's side. -/

theorem respond_at (n : Nat) (q : Packet) (st : Nat) (bs : Bytes) (d : Dev) : AtNi n d (respond n q st bs d) :=
  (AtNi.upNi n _ d).trans (AtNi.when (AtNi.upNi n _ _))

theorem discardAt_at (n src part : Nat) (d : Dev) : AtNi n d (discardAt n src part d) :=
  (AtNi.upNi n _ d).trans (AtNi.raise n ..)

/-! The answers. -/

theorem deliverNow_at (n : Nat) (r : Delivered) (d : Dev) : AtNi n d (deliverNow n r d) := by
  unfold deliverNow
  dsimp only
  split
  · exact (AtNi.upNi n _ d).trans (AtNi.raise n ..)
  · exact AtNi.upNi n _ d

theorem releaseInOrder_at (n : Nat) (d : Dev) : AtNi n d (releaseInOrder n d) := by
  refine AtNi.fold (fun e acc => ?_) _ d
  dsimp only
  split
  · exact .refl n acc
  · exact (AtNi.upNi n _ acc).trans (deliverNow_at n e.2 _)

theorem deliverOrdered_at (n : Nat) (r : Delivered) (d : Dev) : AtNi n d (deliverOrdered n r d) := by
  unfold deliverOrdered
  split
  · exact (AtNi.upNi n _ d).trans (releaseInOrder_at n _)
  · exact deliverNow_at n r d

theorem complete_at (n : Nat) (t : Tag) (st : Nat) (bs : Bytes) (d : Dev) : AtNi n d (complete n t st bs d) := by
  unfold complete
  split
  · exact (AtNi.upNi n _ d).trans (AtNi.when (AtNi.raise n ..))
  · dsimp only
    split
    · exact (AtNi.upNi n _ d).trans (releaseInOrder_at n _)
    · exact deliverNow_at n _ d

/-! The unit's side. -/

theorem noteDecerr_at (n a : Nat) (d : Dev) : AtNi n d (noteDecerr n a d) := by
  unfold noteDecerr
  split
  · exact AtNi.upNi n _ d
  · exact .refl n d

theorem closeWcb_at (n : Nat) (sel : WcbEntry → Bool) (d : Dev) : AtNi n d (closeWcb n sel d) := AtNi.upNi n _ d

theorem combine_at (n part cls addr : Nat) (bs : Bytes) (dest : Nat) (d : Dev) :
    AtNi n d (combine n part cls addr bs dest d) := by
  unfold combine
  dsimp only
  split
  · exact ((AtNi.upNi n _ d).trans (closeWcb_at n _ _)).trans (AtNi.upNi n _ _)
  · exact (((closeWcb_at n _ d).trans (AtNi.upNi n _ _)).trans (closeWcb_at n _ _)).trans (AtNi.upNi n _ _)

theorem niRegWrite_at (n off v : Nat) (d : Dev) : AtNi n d (niRegWrite n off v d) := by
  unfold niRegWrite
  split
  · exact .refl n d
  · split
    · exact AtNi.upNi n _ d
    · split
      · exact AtNi.upNi n _ d
      · split
        · exact AtNi.upNi n _ d
        · exact .refl n d

theorem takePosted_at {n : Nat} {p : Packet} {d t : Dev} (h : takePosted n p d = some t) : AtNi n d t := by
  unfold takePosted at h
  split at h
  · cases h
    exact (noteDecerr_at n _ d).trans (AtNi.raise n ..)
  · dsimp only at h
    split at h
    · cases h
      split
      · exact niRegWrite_at n ..
      · exact AtNi.raise n ..
    · split at h
      · cases h
        exact combine_at n ..
      · cases h

theorem placeBlock_at (n : Nat) (q : Packet) (d : Dev) : AtNi n d (placeBlock n q d) := by
  unfold placeBlock
  split
  · exact (noteDecerr_at n _ d).trans (deliverOrdered_at n _ _)
  · dsimp only
    split
    · split
      · exact deliverOrdered_at n _ d
      · split
        · exact deliverOrdered_at n _ d
        · split <;> exact deliverOrdered_at n _ d
    · exact (closeWcb_at n _ d).trans (AtNi.upNi n _ _)

theorem takeMarks_at (n : Nat) (p : Packet) (d : Dev) : AtNi n d (takeMarks n p d) :=
  (closeWcb_at n _ d).trans (AtNi.upNi n _ _)

theorem takeFenced_at (p : Packet) (src : Option Nat) (d : Dev) : AtNi p.src d (takeFenced p src d) :=
  (closeWcb_at p.src _ d).trans (AtNi.upNi p.src _ _)

/-- A block that NI `n` takes is `n`'s own. -/
theorem takeBlock_at {n : Nat} {o : Out} {d t : Dev} (ho : o.pkt.src = n) (h : takeBlock n o d = some t) : AtNi n d t := by
  subst ho
  unfold takeBlock at h
  split at h
  · exact takePosted_at h
  · cases h
    exact takeFenced_at o.pkt o.fence d
  · cases h
    exact takeMarks_at o.pkt.src o.pkt d
  · split at h
    · cases h
      exact placeBlock_at _ o.pkt d
    · cases h

theorem takeBlocks_at {n : Nat} : ∀ (l left : List Out) (d : Dev), (∀ o ∈ l, o.pkt.src = n) →
    AtNi n d (takeBlocks n l left d).2
  | [], _, d, _ => .refl n d
  | o :: t, left, d, h => by
    have ht : ∀ x ∈ t, x.pkt.src = n := fun x hx => h x (List.mem_cons_of_mem o hx)
    unfold takeBlocks
    split
    · exact takeBlocks_at t _ d ht
    · split
      · next e he => exact (takeBlock_at (h o List.mem_cons_self) he).trans (takeBlocks_at t left e ht)
      · exact takeBlocks_at t _ d ht

/-- Everything that waits at the unit of NI `n` is of that unit. -/
def OwnBlocks (n : Nat) (d : Dev) : Prop := ∀ o ∈ (d.ni n).atUnit, o.pkt.src = n

theorem takeUnit_at {n : Nat} {d : Dev} (h : OwnBlocks n d) : AtNi n d (takeUnit n d) := by
  unfold takeUnit OwnBlocks at *
  rcases hl : (d.ni n).atUnit with _ | ⟨o, t⟩
  · exact .refl n d
  · rw [hl] at h
    exact (takeBlocks_at (o :: t) [] d h).trans (AtNi.upNi n _ _)

/-- What a unit presents at its NI changes that NI and the events only. -/
theorem present_at {n : Nat} {os : List Out} {d : Dev} (h : OwnBlocks n d) (ho : ∀ o ∈ os, o.pkt.src = n) :
    AtNi n d (present n os d) := by
  refine (AtNi.upNi n _ d).trans (takeUnit_at fun o hm => ?_)
  simp only [Dev.ni, Dev.upNi, Tbl.get_modify_same, List.mem_append] at hm
  exact hm.elim (h o) (ho o)

theorem engineWrite_at {n part cls addr : Nat} {bs : Bytes} {d : Dev} (h : OwnBlocks n d) :
    AtNi n d (engineWrite n part cls addr bs d) := by
  unfold engineWrite
  split
  · exact .refl n d
  · refine present_at h fun o ho => ?_
    obtain ⟨b, -, rfl⟩ := List.mem_map.1 ho
    rfl

theorem engineRead_at {n part cls key : Nat} {spans : List (Nat × Nat)} {d : Dev} (h : OwnBlocks n d) :
    AtNi n d (engineRead n part cls key spans d) := by
  refine present_at h fun o ho => ?_
  obtain ⟨b, -, rfl⟩ := List.mem_map.1 ho
  rfl

theorem engineWriteNp_at {n part cls key addr : Nat} {bs : Bytes} {d : Dev} (h : OwnBlocks n d) :
    AtNi n d (engineWriteNp n part cls key addr bs d) :=
  present_at h fun o ho => by rw [List.mem_singleton.1 ho]

theorem askMarks_at {n part key addr : Nat} {dests : Bytes} {d : Dev} (h : OwnBlocks n d) :
    AtNi n d (askMarks n part key addr dests d) :=
  present_at h fun o ho => by rw [List.mem_singleton.1 ho]

theorem startFenced_at {p : Packet} {src : Option Nat} {d : Dev} (h : OwnBlocks p.src d) :
    AtNi p.src d (startFenced p src d) :=
  present_at h fun o ho => by rw [List.mem_singleton.1 ho]

theorem takeAnswers_at (n key : Nat) (d : Dev) : AtNi n d (takeAnswers n key d) := AtNi.upNi n _ d

theorem forgetKeys_at (n : Nat) (sel : Nat → Bool) (d : Dev) : AtNi n d (forgetKeys n sel d) := AtNi.upNi n _ d

theorem dropMarks_at (n key : Nat) (d : Dev) : AtNi n d (dropMarks n key d) := AtNi.upNi n _ d

theorem sendMessage_at (p : Packet) (d : Dev) : AtNi p.src d (sendMessage p d) := AtNi.upNi p.src _ d

/-- What an engine's read does: it issues the reads, changes nothing while an answer is outstanding, or goes on with what they
brought once their answers are taken. -/
theorem withRead_cases (n part cls key : Nat) (spans : List (Nat × Nat)) (go : Nat → Bytes → Dev → Dev) (d : Dev) :
    (readState d n key spans = .waiting ∧ withRead n part cls key spans go d = d) ∨
    (readState d n key spans = .idle ∧ spanBlocks spans = [] ∧ withRead n part cls key spans go d = go 0 [] d) ∨
    (readState d n key spans = .idle ∧ spanBlocks spans ≠ [] ∧
      withRead n part cls key spans go d = engineRead n part cls key spans d) ∨
    ∃ st bs, readState d n key spans = .done st bs ∧ withRead n part cls key spans go d = go st bs (takeAnswers n key d) := by
  unfold withRead
  split
  · exact .inl ⟨by assumption, rfl⟩
  · next h =>
    rcases hb : spanBlocks spans with _ | ⟨b, t⟩
    · exact .inr (.inl ⟨h, rfl, rfl⟩)
    · exact .inr (.inr (.inl ⟨h, List.cons_ne_nil b t, rfl⟩))
  · next st bs h => exact .inr (.inr (.inr ⟨st, bs, h, rfl⟩))

/-- What a step that follows marks does: with no destination it goes on; it asks for the marks, changes nothing until they are
answered, and then goes on with their status. -/
theorem withMarks_cases (n part key addr : Nat) (dests : Bytes) (go : Nat → Dev → Dev) (d : Dev) :
    (dests = [] ∧ withMarks n part key addr dests go d = go 0 d) ∨
    (∃ st, marksDone d n key = some st ∧ withMarks n part key addr dests go d = go st (dropMarks n key d)) ∨
    (marksDone d n key = none ∧ marksAsked d n key = true ∧ withMarks n part key addr dests go d = d) ∨
    (marksDone d n key = none ∧ marksAsked d n key = false ∧
      withMarks n part key addr dests go d = askMarks n part key addr dests d) := by
  unfold withMarks
  cases dests with
  | nil => exact .inl ⟨rfl, rfl⟩
  | cons b t =>
    rcases hm : marksDone d n key with _ | st
    · cases ha : marksAsked d n key
      · exact .inr (.inr (.inr ⟨rfl, rfl, by simp⟩))
      · exact .inr (.inr (.inl ⟨rfl, rfl, by simp⟩))
    · exact .inr (.inl ⟨st, rfl, by simp⟩)

end Sys2Proof.Machine
end

