-- ==== Sys2Proof/Tests/Slice0.lean ====
section
/-! SUPPORT. Own tests: ill-formed commands are refused, worked examples of the spec, and states that meet the premises of
every statement. -/
namespace Sys2Proof.Tests
open Sys2Proof Sys2Proof.Machine

/-! Helpers. -/

/-- A device whose partitions and power domains run and whose firmware has booted. -/
def liveDev : Dev := {
  parts := (List.range 16).map fun p => (p, { state := 0, fenceBit := false })
  pds := (List.range 12).map fun k => (k, { state := 3 })
  clock := { running := true }
  doms := [1, 2, 3, 4, 0x29].map fun k => (k, { running := true, locked := true })
  boot := { firmware := true, ended := true } }

/-- A device that has run for a while: a version, chambers and a byte of memory. -/
def agedDev : Dev := { liveDev with
  store := { version := 9, active := [(0x260302, [byte 1])], chambers := [(0, []), (17, [])] }, mem := [(0x40000000, byte 7)] }

/-- A command queue. -/
def tq : Queue := { base := 0x40000000, log2 := 4, kind := 0, cls := 1, part := 0, cq := 6 }

/-- A completion queue. -/
def tcq : Queue := { base := 0x40008000, log2 := 4, kind := 1, cls := 1, part := 0 }

/-- A command of 64 bytes, given by its nonzero ones. -/
def tb (l : List (Nat × Nat)) : Bytes := (List.range 64).map fun i => byte (Tbl.get 0 l i)

/-- A running command. -/
def tcmd : Cmd := { q := 5, index := 0, bytes := tb [], st := .running, cop := 0 }

/-- A stream queue. -/
def tsq : Queue := { base := 0x40010000, log2 := 4, kind := 2, cls := 2, part := 0, cq := 6, kparam := tb [(0, 0), (5, 16), (8, 64)] }

/-- A queue of the Ethernet kind. -/
def tnq : Queue := { base := 0x40020000, log2 := 4, kind := 3, cls := 2, part := 0, cq := 6, kparam := tb [(0, 255), (1, 15), (3, 1)] }

/-- A RoCEv2 packet of queue pair 4095. -/
def troce (op psn : Nat) (data : Bytes) : Bytes :=
  List.replicate 12 (byte 0) ++ [byte 0x86, byte 0xDD, byte 0x60, byte 0, byte 0, byte 0, byte 0, byte 0, byte 17, byte 0] ++
    List.replicate 32 (byte 0) ++ [byte 0, byte 0, byte 0x12, byte 0xB7, byte 0, byte (24 + data.length), byte 0, byte 0] ++
    [byte op, byte 0, byte 0, byte 0, byte 0, byte 1, byte 0x0F, byte 0xFF, byte 0] ++ beBytes 3 psn ++ data ++ List.replicate 4 (byte 0)

/-- An operator queue. -/
def toq : Queue := { base := 0x40030000, log2 := 4, kind := 4, cls := 2, part := 0, cq := 6, kparam := [byte 7] }

/-- A descriptor of 96 bytes, given by its nonzero ones. -/
def td (l : List (Nat × Nat)) : Bytes := (List.range 96).map fun i => byte (Tbl.get 0 l i)

/-- A queue entry of an operator queue. -/
def tb32 (op : Nat) (desc : Bytes) : Bytes := [byte op, byte 1, byte 96] ++ List.replicate 29 (byte 0) ++ desc ++ List.replicate 128 (byte 0)

/-! Ill-formed commands. -/

/-- Commands whose operands name nothing that exists, part 1. -/
theorem test_illFormed_1 : ([
    .mgmtCsNRise (.inTail { op := 256, idx := 0, sub := 0, len := 0, data := [], crcOk := true } 0),
    .spiIdleTimeout (.inTail { op := 256, idx := 0, sub := 0, len := 0, data := [], crcOk := true } 0),
    .read (2 ^ 80) (2 ^ 80) (2 ^ 80) (2 ^ 80) false,
    .writeStage (2 ^ 80) (2 ^ 80) (2 ^ 80) (2 ^ 80) [] false,
    .commit (2 ^ 80) (2 ^ 80) (2 ^ 80) false,
    .revert (2 ^ 80) (2 ^ 80) (2 ^ 80) false,
    .discard (2 ^ 80) (2 ^ 80) false,
    .status (2 ^ 80) (2 ^ 80) false,
    .save (2 ^ 80) (2 ^ 80) false,
    .unknownOpcodeFrame (2 ^ 80) (2 ^ 80),
    .loadSlot (2 ^ 80) (2 ^ 80),
    .storeAll (2 ^ 80) (2 ^ 80),
    .restore (2 ^ 80) (2 ^ 80),
    .domainCapture (2 ^ 80) (2 ^ 80) (2 ^ 80),
    .captureTimeout (2 ^ 80),
    .mbGo (2 ^ 80) (2 ^ 80),
    .mbCancel (2 ^ 80) (2 ^ 80),
    .nmtStart (2 ^ 80),
    .nmtStop (2 ^ 80),
    .nmtEnterPreOperational (2 ^ 80),
    .nmtResetApplication (2 ^ 80),
    .nmtResetCommunication (2 ^ 80),
    .usdoInitiate false (2 ^ 80) (2 ^ 80) (2 ^ 80) [],
    .usdoSegment (2 ^ 80) [] false,
    .tpdoEvent (2 ^ 80),
    .routerFlitArrival (.ni 67) .none false,
    .switchAllocation (2 ^ 80),
    .expressSetupPhase (2 ^ 80) false false] : List Instr).all (fun c => !c.wellFormed) = true := by
  set_option maxRecDepth 20000 in decide

/-- Commands whose operands name nothing that exists, part 2. -/
theorem test_illFormed_2 : ([
    .creditReturn (.ni 67) {},
    .niInject (2 ^ 80) .none,
    .weirToken (2 ^ 80) (.weir 16 0),
    .unitPostedWrite (2 ^ 80) (2 ^ 80) (2 ^ 80) (2 ^ 80) [],
    .combineTimeout (2 ^ 80) (2 ^ 80),
    .unitNonpostedRequest (2 ^ 80) (2 ^ 80) (2 ^ 80) (2 ^ 80) (2 ^ 80) (2 ^ 80) [],
    .unitMessage (2 ^ 80) false (2 ^ 80) (2 ^ 80) (2 ^ 80) (2 ^ 80) (2 ^ 80) [] (2 ^ 80) (2 ^ 80),
    .fencedMessage (2 ^ 80) (2 ^ 80) (2 ^ 80) (2 ^ 80) (2 ^ 80) (2 ^ 80) [],
    .fencedMessageInject (2 ^ 80),
    .targetRequest (2 ^ 80) (2 ^ 80) .none,
    .targetPostedWrite (2 ^ 80) (2 ^ 80),
    .fenceMarkAnswer (2 ^ 80) (2 ^ 80),
    .responseArrival (2 ^ 80) (2 ^ 80) .none,
    .retryReissue (2 ^ 80) (2 ^ 80),
    .responseTimeout (2 ^ 80) (2 ^ 80),
    .messageArrival (2 ^ 80) (2 ^ 80),
    .mqDequeue (2 ^ 80) (2 ^ 80) .none,
    .creditReturnSend (2 ^ 80) (2 ^ 80),
    .creditReturnRepeat (2 ^ 80) (2 ^ 80),
    .creditReturnReceive (2 ^ 80) (2 ^ 80),
    .timedMessageArrival (2 ^ 80) (2 ^ 80),
    .timedRelease (2 ^ 80) .none,
    .syncCheck (2 ^ 80) (2 ^ 80),
    .niDecerrClr (2 ^ 80) (2 ^ 80),
    .niStatClr (2 ^ 80) (2 ^ 80),
    .weirClr (2 ^ 80) (2 ^ 80),
    .registerWrite (.ni 67) false (2 ^ 80) [],
    .matrixArbitration [{ master := 2, write := false, addr := 0, len := 1, data := [], excl := false }] (2 ^ 80)] : List Instr).all (fun c => !c.wellFormed) = true := by
  set_option maxRecDepth 20000 in decide

/-- Commands whose operands name nothing that exists, part 3. -/
theorem test_illFormed_3 : ([
    .matrixAccessComplete (2 ^ 80) false .none,
    .bridgeRead (2 ^ 80) .none,
    .delayedReadDiscard (2 ^ 80),
    .prefetchFetchAhead (2 ^ 80),
    .bridgeWrite (2 ^ 80),
    .interruptLineEdge (2 ^ 80),
    .lkOutboundRequest false (2 ^ 80) (2 ^ 80) (2 ^ 80) [] false,
    .clockLoss (2 ^ 80),
    .unitResetRelease (2 ^ 80),
    .frequencyMeasurementPeriod [2 ^ 80],
    .clearCrossingRecords (2 ^ 80) (2 ^ 80),
    .partitionFence (2 ^ 80) (2 ^ 80),
    .partitionReset (2 ^ 80) (2 ^ 80),
    .partitionRelease (2 ^ 80) (2 ^ 80),
    .drainComplete (2 ^ 80),
    .drainTimeout (2 ^ 80),
    .fenceAcknowledge (2 ^ 80),
    .resetStepDone (2 ^ 80),
    .releaseExecute (2 ^ 80),
    .flrVf (2 ^ 80),
    .vfEnableSet (2 ^ 80),
    .unitReset (2 ^ 80) (2 ^ 80) (2 ^ 80),
    .dlUp (2 ^ 80) (2 ^ 80),
    .linkLossDebounceExpiry (.inTail { op := 256, idx := 0, sub := 0, len := 0, data := [], crcOk := true } 0),
    .hotReset (.inTail { op := 256, idx := 0, sub := 0, len := 0, data := [], crcOk := true } 0),
    .pdFence (2 ^ 80) (2 ^ 80),
    .pdOff (2 ^ 80) (2 ^ 80),
    .pdOn (2 ^ 80) (2 ^ 80)] : List Instr).all (fun c => !c.wellFormed) = true := by
  set_option maxRecDepth 20000 in decide

/-- Commands whose operands name nothing that exists, part 4. -/
theorem test_illFormed_4 : ([
    .pdRelease (2 ^ 80) (2 ^ 80),
    .pdDrainComplete (2 ^ 80),
    .pdDrainTimeout (2 ^ 80),
    .pdPowerUpDone (2 ^ 80) false,
    .pdPowerGoodTimeout (2 ^ 80),
    .chipReset (2 ^ 80) .idle,
    .perstNAssert (.inTail { op := 256, idx := 0, sub := 0, len := 0, data := [], crcOk := true } 0),
    .railFall (2 ^ 80) .idle,
    .resetRelease false (2 ^ 80),
    .supplyMonitorSample (2 ^ 80) false,
    .temperatureThreshold (2 ^ 80) 0,
    .createQueue (2 ^ 80),
    .destroyQueue (2 ^ 80),
    .destroyQueueDone (2 ^ 80),
    .modifyCq (2 ^ 80),
    .queryQueue (2 ^ 80),
    .doorbell (2 ^ 80) (2 ^ 80) false false,
    .doorbellNoticeSend (2 ^ 80),
    .doorbellNotice (2 ^ 80) .none,
    .commandFetch (2 ^ 80) false,
    .contextWriteback (2 ^ 80),
    .nop (2 ^ 80),
    .copy (2 ^ 80),
    .copyInline (2 ^ 80),
    .fillCmd (2 ^ 80),
    .fenceCmd (2 ^ 80),
    .flushCmd (2 ^ 80),
    .flushHp (2 ^ 80)] : List Instr).all (fun c => !c.wellFormed) = true := by
  set_option maxRecDepth 20000 in decide

/-- Commands whose operands name nothing that exists, part 5. -/
theorem test_illFormed_5 : ([
    .notify (2 ^ 80),
    .timedNotify (2 ^ 80),
    .waitTime (2 ^ 80),
    .waitTimeReached (2 ^ 80),
    .streamArm (2 ^ 80),
    .streamStop (2 ^ 80),
    .opExec (2 ^ 80),
    .completionWrite (2 ^ 80) .none,
    .cqModerationTimeout (2 ^ 80),
    .clearQueueCounters (2 ^ 80) (2 ^ 80),
    .windowRead (2 ^ 80) (2 ^ 80) (2 ^ 80) .none,
    .windowWrite (2 ^ 80) (2 ^ 80) [] false,
    .windowBaseWrite (2 ^ 80) [] false,
    .pcClr (2 ^ 80) (2 ^ 80) false,
    .prefetchLineExpiry (2 ^ 80) (2 ^ 80),
    .admission (2 ^ 80) (2 ^ 80) [] false,
    .revoke (2 ^ 80) [] false,
    .admissionStatusRead (2 ^ 80) (2 ^ 80) (2 ^ 80),
    .placementWrite (2 ^ 80) (2 ^ 80) [] false,
    .placementFlushRead (2 ^ 80) (2 ^ 80) (2 ^ 80),
    .clearAdmissions (2 ^ 80) (2 ^ 80),
    .clearHostCounters (2 ^ 80) (2 ^ 80),
    .outboundRequest (2 ^ 80) (2 ^ 80),
    .outboundCompletion (2 ^ 80) (.data (List.replicate 257 (byte 0))),
    .outboundCompletionTimeout (2 ^ 80),
    .msixRequest (2 ^ 80) .none,
    .msixUnmask (2 ^ 80) (.vector 2048),
    .unsupportedRequest (2 ^ 80)] : List Instr).all (fun c => !c.wellFormed) = true := by
  set_option maxRecDepth 20000 in decide

/-- Commands whose operands name nothing that exists, part 6. -/
theorem test_illFormed_6 : ([
    .linkPllLocked (2 ^ 80),
    .syncHeaderLock (2 ^ 80),
    .extendedMultiblockLock (2 ^ 80) [2 ^ 80],
    .linkLockTimeout (2 ^ 80),
    .laneLockLoss (2 ^ 80) (2 ^ 80) false,
    .sysrefEdgeSampled (2 ^ 80) false,
    .rxFrameRelease (2 ^ 80) 0 [] (2 ^ 80) (2 ^ 80) .none,
    .slotGrant (2 ^ 80),
    .cpTrigger (2 ^ 80),
    .cpTimedStart (2 ^ 80),
    .cpTimedStop (2 ^ 80),
    .recordEnd (2 ^ 80),
    .recordComplete (2 ^ 80),
    .txPrefetchDone (2 ^ 80),
    .txFrameDue (2 ^ 80) 0 .none,
    .clearConverterCounters (2 ^ 80) (2 ^ 80),
    .frameReceive (2 ^ 80) [] false 0 (2 ^ 80) (2 ^ 80),
    .pfcPauseExpiry (2 ^ 80) (2 ^ 80),
    .ptpTransmit (2 ^ 80) [] false 0,
    .ethLinkDown (2 ^ 80),
    .ethLinkUp (2 ^ 80),
    .qpModify (2 ^ 80),
    .send (2 ^ 80),
    .rdmaWrite (2 ^ 80),
    .rdmaWriteImm (2 ^ 80),
    .rawSend (2 ^ 80),
    .recv (2 ^ 80),
    .rocePacketReceive (2 ^ 80) false .none .none] : List Instr).all (fun c => !c.wellFormed) = true := by
  set_option maxRecDepth 20000 in decide

/-- Commands whose operands name nothing that exists, part 7. -/
theorem test_illFormed_7 : ([
    .ackReceive (2 ^ 80) false .none .none,
    .retransmitTimeout (2 ^ 80),
    .ackTimer (2 ^ 80),
    .rawDatagramSend (2 ^ 80),
    .clearEthernetCounters (2 ^ 80) (2 ^ 80),
    .descriptorDelivery (2 ^ 80),
    .opFft (2 ^ 80) .none,
    .opFir (2 ^ 80) .none,
    .opDecimate (2 ^ 80) .none,
    .opAverage (2 ^ 80) .none,
    .opThreshold (2 ^ 80) .none [2 ^ 80],
    .opConvert (2 ^ 80) .none,
    .opChecksum (2 ^ 80) .none,
    .descriptorEnd (2 ^ 80) (2 ^ 80),
    .descriptorTimeLimit (2 ^ 80) (2 ^ 80),
    .clearOperatorCounters (2 ^ 80) (2 ^ 80),
    .referenceMeasurement [],
    .referenceEdgeLoss (2 ^ 80),
    .setTime (2 ^ 80) [],
    .adjustTime (2 ^ 80) 0,
    .setUtc (2 ^ 80) (2 ^ 80),
    .replicaReload (2 ^ 80),
    .ptpMessage (2 ^ 80) 0 (2 ^ 80) 0,
    .ptpMasterLoss (2 ^ 80),
    .triggerInputEdge (2 ^ 80) false (2 ^ 80),
    .triggerEdgeFire (2 ^ 80) .none,
    .triggerPulseEnd (2 ^ 80),
    .sysrefEdge (2 ^ 80)] : List Instr).all (fun c => !c.wellFormed) = true := by
  set_option maxRecDepth 20000 in decide

/-- Commands whose operands name nothing that exists, part 8. -/
theorem test_illFormed_8 : ([
    .sysrefReanchor (2 ^ 80) (2 ^ 80) (2 ^ 80),
    .electionFrameEnd (2 ^ 80) false,
    .heartbeatReceive (2 ^ 80) (2 ^ 80) (2 ^ 80) false,
    .clearTimingCounters (2 ^ 80) (2 ^ 80),
    .faultEventRegister .none [(5, 5)] .idle,
    .faultWindowExpiry (2 ^ 80),
    .clearSource (2 ^ 80) (2 ^ 80) (2 ^ 80),
    .clearAllSources (2 ^ 80) (2 ^ 80),
    .clearFaultN (2 ^ 80) (2 ^ 80),
    .fieldInjection (2 ^ 80) (2 ^ 80),
    .cancelInjection (2 ^ 80) (2 ^ 80),
    .factoryInjection (2 ^ 80) (2 ^ 80),
    .acknowledgeDiscrepancy (2 ^ 80) (2 ^ 80),
    .clearLinkErrorRecords (2 ^ 80) (2 ^ 80),
    .clearBridgeCounters (2 ^ 80) (2 ^ 80),
    .probeArm (2 ^ 80) (2 ^ 80),
    .probeStop (2 ^ 80) (2 ^ 80),
    .probeClear (2 ^ 80) (2 ^ 80),
    .probeStartCondition (2 ^ 80),
    .probeStopCondition (2 ^ 80),
    .rateIntervalEnd (2 ^ 80),
    .traceDrainPoll (2 ^ 80),
    .lkcRestart (.inTail { op := 256, idx := 0, sub := 0, len := 0, data := [], crcOk := true } 0),
    .openUpdate (2 ^ 80),
    .updateData (2 ^ 80) [] (2 ^ 80),
    .verify (2 ^ 80),
    .cancel (2 ^ 80),
    .activate (2 ^ 80)] : List Instr).all (fun c => !c.wellFormed) = true := by
  set_option maxRecDepth 20000 in decide

/-- Commands whose operands name nothing that exists, part 9. -/
theorem test_illFormed_9 : ([
    .activateForce (2 ^ 80),
    .rollback (2 ^ 80),
    .restart (2 ^ 80),
    .restartDelayExpiry (.inTail { op := 256, idx := 0, sub := 0, len := 0, data := [], crcOk := true } 0),
    .domainClockStart (2 ^ 80),
    .rnrRetryDelay (2 ^ 80)] : List Instr).all (fun c => !c.wellFormed) = true := by
  set_option maxRecDepth 20000 in decide

/-- An ill-formed command is refused by name. -/
theorem test_refusal_named : exec (.partitionFence 0 16) ⟨liveDev, []⟩ = .refused .illFormed := by rfl

/-! Worked examples. -/

/-- The six-channel interleave set of spec/04's worked example. -/
def tddr : Ddr :=
  { set := 0x6F, gran := 1024, caps := [(0, 64), (1, 64), (2, 64), (3, 64), (5, 64), (6, 32)] }

/-- Decode of three ring addresses (spec/04, worked example). -/
theorem test_ddr_decode :
    tddr.decode 0x123456000 = some (2, 0x05E0E400) ∧ tddr.decode 0x123456400 = some (3, 0x05E0E400) ∧
      tddr.decode 0x123457000 = some (0, 0x05E0E800) := by decide

/-- The mapped span ends at 0x0030_FFFF_FFFF (spec/04, worked example). -/
theorem test_ddr_span : tddr.decode 0x30FFFFFFFF ≠ none ∧ tddr.decode 0x3100000000 = none := by decide

/-- The context of queue 0x2105 and its bank BS1 (spec/04, worked example). -/
theorem test_context_bank :
    contextAddr 8453 = 0x43C84140 ∧ liveDev.decodeAddr 25 (contextAddr 8453) = some 57 := by decide

/-- 2024-02-29 12:00:00 UTC with offset 37 (spec/16, worked example). -/
theorem test_calendar : calendarTai [(0x2D2003, [byte 37, byte 0])] 0x07E8021D0C000000 = 1709208037 := by decide

/-- Dates that are taken and refused (R466). -/
theorem test_calendar_dates :
    calendarOk 0x07D0021D00000000 = true ∧ calendarOk 0x0830021D00000000 = true ∧ calendarOk 0x0834021D00000000 = false := by
  decide

/-- A step takes the front command and leaves the rest. -/
theorem test_step_front :
    (match step ⟨liveDev, [.ocxoAbsent, .ocxoReturn]⟩ with
     | .next t => t.pending == [.ocxoReturn] && !t.dev.timing.ocxo
     | _ => false) = true := by decide

/-- FAULT_N before the collector is enabled, with VDD_IO33 bad, and with every latch clear (R481, R546). -/
theorem test_fault_pin :
    pinFaultN Dev.reset = .low ∧ pinFaultN { Dev.reset with power := { railsBad := 128 } } = .released ∧
      pinFaultN { Dev.reset with faults := { everEnabled := true } } = .released := by decide

/-- The check value that the frame table of spec/02 gives for its CRC: the nine ASCII digits "123456789" give 0x29B1. -/
theorem test_crc16 : crc16 ([0x31, 0x32, 0x33, 0x34, 0x35, 0x36, 0x37, 0x38, 0x39].map byte) = 0x29B1 := by
  set_option maxRecDepth 20000 in decide

/-- A probe whose start and stop events fall at one edge stops without having run (R508). -/
theorem test_probe_stop_wins :
    let d : Dev := { Dev.reset with
      doms := [(1, { shadow := [(0x2F110B, [byte 2]), (0x2F110C, [byte 3]), (0x2F110E, [byte 3]), (0x2F110F, [byte 3])] })]
      probes := { probe := [(1, { state := 1 })] } }
    ((probeStartCondition 1 (signalMatch 3 d)).probe 1).state = 3 := by decide

/-! The premises of every statement are met. -/

/-- The premises of StepRunsFrontCommand are met. -/
theorem witness_stepRunsFrontCommand : ∃ (c : Instr) (rest : List Instr) (s : State), s.pending = c :: rest :=
  ⟨.ageTick, [.powerOn], ⟨liveDev, [.ageTick, .powerOn]⟩, rfl⟩

/-- The premises of IdleStep are met. -/
theorem witness_idleStep : ∃ s : State, s.pending = [] :=
  ⟨⟨liveDev, []⟩, rfl⟩

/-- The premises of Answers are met. -/
theorem witness_answers : (∃ c : Instr, c.wellFormed = false) ∧ (∃ (c : Instr) (s : State), c.wellFormed = true ∧ s.Inv) ∧
    (∃ (c : Instr) (s : State), c.wellFormed = true ∧ s.dev.power.released = false ∧ actsInReset c = false) :=
  ⟨⟨.partitionFence 0 16, by decide⟩, ⟨.ageTick, ⟨liveDev, []⟩, by decide⟩, ⟨.ageTick, ⟨{ liveDev with power := { released := false } }, []⟩, by decide⟩⟩

/-- The premises of InvKeptByEveryStep are met. -/
theorem witness_invKeptByEveryStep : ∃ (s t : State), s.Inv ∧ step s = .next t :=
  ⟨State.reset, { State.reset with dev := idleEdge State.reset.dev }, by decide, rfl⟩

/-- The premises of LeavesReset are met. -/
theorem witness_leavesReset : (∃ (testMode : Bool) (bootSel : Nat) (s : State), s.dev.bus = [] ∧ (Instr.resetRelease testMode bootSel).wellFormed = true ∧
      ∃ cut, (Instr.perstNAssert cut).wellFormed = true) ∧
    (∃ (src : Nat) (cut : SpiCut) (s : State), (Instr.chipReset src cut).wellFormed = true ∧ s.Ready) ∧
    (∃ (d : Dev) (n : Nat), n < 8 ∧ (d.pd 2).state ≠ 3) :=
  ⟨⟨true, 3, ⟨liveDev, []⟩, by decide, by decide, .inFrame, by decide⟩, ⟨0xF8, .idle, ⟨liveDev, []⟩, by decide⟩, ⟨State.reset.dev, 7, by decide⟩⟩

/-- The premises of clause 1 of ChamberResets are met. -/
theorem witness_chamberResets_1 : ∃ (path : Nat) (s : State),
    ((Instr.discard path 0 true).wellFormed = true) ∧
    (s.Ready) ∧
    (PathFree s.dev path) :=
  ⟨16, ⟨{ liveDev with store := { chambers := [(16, [(0x101700, [byte 1, byte 0])])] } }, []⟩, by decide⟩

/-- The premises of clause 2 of ChamberResets are met. -/
theorem witness_chamberResets_2 : ∃ (p : Nat) (s : State),
    ((Instr.resetStepDone p).wellFormed = true) ∧
    (s.Ready) ∧
    ((s.dev.part p).state = 3) :=
  ⟨15, ⟨{ liveDev with parts := [(15, { state := 3 })], store := { chambers := [(31, [(0x101700, [byte 1, byte 0])])] } }, []⟩, by set_option maxRecDepth 20000 in decide⟩

/-- The premises of clause 3 of ChamberResets are met. -/
theorem witness_chamberResets_3 : ∃ (cut : SpiCut) (d : Dev) (s : State),
    ((Instr.perstNAssert cut).wellFormed = true) ∧
    (s.dev.bus = []) ∧
    (cutStore cut s.dev = d) :=
  ⟨.inFrame, { liveDev with store := { rolledNow := false, chambers := [(0, [(0x101700, [byte 1, byte 0])])] } }, ⟨{ liveDev with store := { chambers := [(0, [(0x101700, [byte 1, byte 0])])] } }, []⟩, by decide, by decide, rfl⟩

/-- The premises of clause 4 of ChamberResets are met. -/
theorem witness_chamberResets_4 : ∃ (src : Nat) (cut : SpiCut) (d : Dev) (s : State),
    ((Instr.chipReset src cut).wellFormed = true) ∧
    (s.Ready) ∧
    (cutStore cut s.dev = d) :=
  ⟨0x10, .idle, { liveDev with store := { chambers := [(0, [(0x101700, [byte 1, byte 0])])] } }, ⟨{ liveDev with store := { chambers := [(0, [(0x101700, [byte 1, byte 0])])] } }, []⟩, by decide, by decide, rfl⟩

/-- The premises of clause 1 of ProbeStateMachine are met. -/
theorem witness_probeStateMachine_1 : ∃ (j : Nat) (s : State),
    ((Instr.probeStartCondition j).wellFormed = true) ∧
    (s.Ready) ∧
    ((s.dev.probe j).state = 1) ∧
    (startHolds s.dev j = true) ∧
    (stopWithStart s.dev j = false) :=
  ⟨3, { State.reset with dev := { Dev.reset with probes := { probe := [(3, { state := 1 })] } } }, by decide⟩

/-- The premises of clause 2 of ProbeStateMachine are met. -/
theorem witness_probeStateMachine_2 : ∃ (j : Nat) (s : State),
    ((Instr.probeStopCondition j).wellFormed = true) ∧
    (s.Ready) ∧
    ((s.dev.probe j).state = 2) ∧
    (stopHolds s.dev j = true) :=
  ⟨15, { State.reset with dev := { Dev.reset with
    doms := [(1, { shadow := [(0x2F1F * 256 + 0xE, [byte 1]), (0x2F1F * 256 + 0xF, [byte 1])] })]
    probes := { probe := [(15, { state := 2, produced := 1 })] } } }, by decide⟩

/-- The premises of clause 3 of ProbeStateMachine are met. -/
theorem witness_probeStateMachine_3 : ∃ (j : Nat) (s : State),
    ((Instr.rateIntervalEnd j).wellFormed = true) ∧
    (s.Ready) ∧
    ((s.dev.probe j).state = 2) :=
  ⟨0, { State.reset with dev := { Dev.reset with probes := { probe := [(0, { state := 2, interval := 7 })] } } }, by decide⟩

/-- The premises of clause 1 of RouterFlits are met. -/
theorem witness_routerFlits_1 : ∃ (r p : Nat) (crcErr : Bool) (f : Flit) (rest : List Flit) (s : State),
    ((Instr.routerFlitArrival (.router r p) .none crcErr).wellFormed = true) ∧
    (s.Live) ∧
    (hasPort r p = true) ∧
    (bitOf (s.dev.router r).stopped p = false) ∧
    (s.dev.net.wireR.get [] (8 * r + p) = f :: rest) ∧
    (s.dev.faults.inj.state ≠ 1) ∧
    (((s.dev.router r).vc (16 * p + f.vc)).dropping = false) ∧
    (routeBad r p f = false) :=
  ⟨47, 1, false, { vc := 1, pkt := none, tail := true }, [], ⟨{ liveDev with
    net := { wireR := [(377, [{ vc := 1, pkt := none, tail := true }])] } }, []⟩, by decide⟩

/-- The premises of clause 2 of RouterFlits are met. -/
theorem witness_routerFlits_2 : ∃ (r p : Nat) (e : WordErr) (crcErr : Bool) (f : Flit) (rest : List Flit) (s : State),
    ((Instr.routerFlitArrival (.router r p) { ctl := e } crcErr).wellFormed = true) ∧
    (s.Live) ∧
    (hasPort r p = true) ∧
    (bitOf (s.dev.router r).stopped p = false) ∧
    (s.dev.net.wireR.get [] (8 * r + p) = f :: rest) ∧
    (s.dev.faults.inj.state ≠ 1) ∧
    (errFinds 16 6 e = .uncorrectable) :=
  ⟨0, 0, { data := 3 }, false, { vc := 1, pkt := none, tail := true }, [], ⟨{ liveDev with
    net := { wireR := [(0, [{ vc := 1, pkt := none, tail := true }])] } }, []⟩, by decide⟩

/-- The premises of clause 3 of RouterFlits are met. -/
theorem witness_routerFlits_3 : ∃ (n : Nat) (f : Flit) (rest : List Flit) (s : State),
    ((Instr.routerFlitArrival (.ni n) .none false).wellFormed = true) ∧
    (s.Live) ∧
    ((s.dev.ni n).stopped = false) ∧
    (s.dev.net.wireN.get [] n = f :: rest) ∧
    (s.dev.faults.inj.state ≠ 1) ∧
    (f.pkt = none) ∧
    (f.tail = false) ∧
    (f.crcBad = false) :=
  ⟨66, { vc := 7, pkt := none, tail := false }, [], ⟨{ liveDev with
    net := { wireN := [(66, [{ vc := 7, pkt := none, tail := false }])] } }, []⟩, by decide⟩

/-- The premises of clause 4 of RouterFlits are met. -/
theorem witness_routerFlits_4 : ∃ (r port vc out r2 p2 : Nat) (v : InVc) (f : Flit) (rest : List Flit) (q : Packet) (s : State),
    ((Instr.switchAllocation r).wellFormed = true) ∧
    (s.Live) ∧
    (port < 4) ∧
    (vc < 9) ∧
    ((s.dev.router r).inp = [(16 * port + vc, v)]) ∧
    (v.q = f :: rest) ∧
    (f.pkt = some q) ∧
    (f.nxt = out) ∧
    (out < 6) ∧
    (neighbour r out = some (r2, p2)) ∧
    (mayUse (s.dev.router r) port vc out = true) ∧
    ((s.dev.router r).resNow = []) :=
  ⟨0, 1, 1, 0, 1, 1, { q := [{ vc := 1, pkt := some { dest := 66, src := 0, ty := 1, cls := 2, part := 0 }, tail := true, nxt := 0 }] }, { vc := 1, pkt := some { dest := 66, src := 0, ty := 1, cls := 2, part := 0 }, tail := true, nxt := 0 }, [],
    { dest := 66, src := 0, ty := 1, cls := 2, part := 0 }, ⟨{ liveDev with net := { routers := [(0, { inp := [(17, { q := [{ vc := 1, pkt := some { dest := 66, src := 0, ty := 1, cls := 2, part := 0 }, tail := true, nxt := 0 }] })] })] } }, []⟩, by decide⟩

/-- The premises of clause 5 of RouterFlits are met. -/
theorem witness_routerFlits_5 : ∃ (r : Nat) (w : Cand) (f : Flit) (s : State),
    ((Instr.expressSetupPhase r false false).wellFormed = true) ∧
    (s.Live) ∧
    ((s.dev.router r).setupDone = false) ∧
    (setupRequest s.dev.fcfg s.dev r 4 = some (w, f)) ∧
    (setupRequest s.dev.fcfg s.dev r 5 = none) ∧
    (meshCands s.dev.fcfg (s.dev.router r) = []) ∧
    (s.dev.faults.inj.state ≠ 1) :=
  ⟨0, ⟨4, 1, 6, 256⟩, { vc := 1, pkt := some { dest := 0, src := 24, ty := 1, cls := 2, part := 0 }, tail := true, nxt := 6 }, ⟨{ liveDev with net := { routers := [(0, { inp := [(65, { q := [{ vc := 1, pkt := some { dest := 0, src := 24, ty := 1, cls := 2, part := 0 }, tail := true, nxt := 6 }] })] })] } }, []⟩, by decide⟩

/-- The premises of clause 6 of RouterFlits are met. -/
theorem witness_routerFlits_6 : ∃ (r p v : Nat) (rest : List Nat) (s : State),
    ((Instr.creditReturn (.router r p) {}).wellFormed = true) ∧
    (s.Live) ∧
    (bitOf (s.dev.router r).stopped p = false) ∧
    (s.dev.net.credR.get [] (8 * r + p) = v :: rest) ∧
    ((s.dev.router r).used.get 0 (16 * p + v) ≠ 0) :=
  ⟨3, 7, 8, [], ⟨{ liveDev with net := { credR := [(31, [8])], routers := [(3, { used := [(120, 1)] })] } }, []⟩, by decide⟩

/-- The premises of clause 7 of RouterFlits are met. -/
theorem witness_routerFlits_7 : ∃ (n v : Nat) (rest : List Nat) (s : State),
    ((Instr.creditReturn (.ni n) {}).wellFormed = true) ∧
    (s.Live) ∧
    ((s.dev.ni n).stopped = false) ∧
    (s.dev.net.credN.get [] n = v :: rest) ∧
    ((s.dev.ni n).used.get 0 v ≠ 0) :=
  ⟨0, 1, [2], ⟨{ liveDev with net := { credN := [(0, [1, 2])] }, nis := [(0, { used := [(1, 4)] })] }, []⟩, by decide⟩

/-- The premises of clause 8 of RouterFlits are met. -/
theorem witness_routerFlits_8 : ∃ (r k : Nat) (f : Flit) (q : Packet) (rest : List Flit) (s : State),
    ((Instr.ageTick).wellFormed = true) ∧
    (s.Live) ∧
    (((s.dev.router r).vc k).waited = true) ∧
    (((s.dev.router r).vc k).q = f :: rest) ∧
    (f.pkt = some q) :=
  ⟨5, 16, { vc := 0, pkt := some { dest := 1, src := 2, ty := 4, cls := 1, part := 3, age := 1023 }, tail := true }, { dest := 1, src := 2, ty := 4, cls := 1, part := 3, age := 1023 }, [], ⟨{ liveDev with net := { routers := [(5, { inp := [(16, { waited := true, q := [{ vc := 0, pkt := some { dest := 1, src := 2, ty := 4, cls := 1, part := 3, age := 1023 }, tail := true }] })] })] } }, []⟩, by decide⟩

/-- The premises of clause 1 of NiInjection are met. -/
theorem witness_niInjection_1 : ∃ (n vc part urg : Nat) (o : Out) (s : State),
    ((Instr.niInject n .none).wellFormed = true) ∧
    (s.Live) ∧
    (niKind n ≠ 4) ∧
    ((s.dev.ni n).answers = []) ∧
    (s.dev.host.flushReads = []) ∧
    ((s.dev.ni n).atUnit = []) ∧
    (owedMarks n s.dev = s.dev) ∧
    ((s.dev.ni n).out = [o]) ∧
    (o.kind ≠ .message) ∧
    (niCands s.dev.fcfg n (s.dev.ni n) = [{ pos := some 0, vc := vc, part := part, urg := urg }]) :=
  ⟨0, 1, 2, 256, { pkt := { dest := 56, src := 0, ty := 0, cls := 2, part := 2, size := 8 }, kind := .request }, ⟨{ liveDev with nis := [(0, { out := [{ pkt := { dest := 56, src := 0, ty := 0, cls := 2, part := 2, size := 8 }, kind := .request }] })] }, []⟩, by decide⟩

/-- The premises of clause 2 of NiInjection are met. -/
theorem witness_niInjection_2 : ∃ (n p k i : Nat) (s : State),
    ((Instr.weirToken n (.weir p k)).wellFormed = true) ∧
    (s.Live) ∧
    (weirRate s.dev.fcfg n p k = .every i) ∧
    (0 < (s.dev.ni n).spent.get 0 (4 * p + k)) :=
  ⟨23, 15, 1, 8, ⟨{ liveDev with nis := [(23, { spent := [(61, 2)] })], doms := [(1, { shadow := [(0x223F * 256 + 2, [byte 8, byte 0])] })] }, []⟩, by decide⟩

/-- The premises of clause 3 of NiInjection are met. -/
theorem witness_niInjection_3 : ∃ (n part cls addr dest : Nat) (data : Bytes) (p : Packet) (s : State),
    ((Instr.unitPostedWrite n part cls addr data).wellFormed = true) ∧
    (s.Live) ∧
    (p = { dest := dest, src := n, ty := 1, cls := cls, part := if n = 64 then 0 else part,
           addr := addr, size := data.length, data := data }) ∧
    (mayIssue n 1 = true) ∧
    (unitAdmits s.dev n p.part = true) ∧
    (wcbFits s.dev n p = true) ∧
    (splitBlocks 17 addr data.length = [(addr, data.length)]) ∧
    (addr % 256 + data.length < 256) ∧
    (s.dev.fcfg.nat 0x2301 4 ≠ 0) ∧
    ((s.dev.ni n).atUnit = []) ∧
    ((s.dev.ni n).wcb = []) ∧
    (s.dev.decodeAddr n addr = some dest) ∧
    (dest ≠ n) :=
  ⟨40, 3, 2, 0x40000010, 56, [byte 1, byte 2], { dest := 56, src := 40, ty := 1, cls := 2, part := 3, addr := 0x40000010, size := 2, data := [byte 1, byte 2] }, ⟨liveDev, []⟩, by decide⟩

/-- The premises of clause 4 of NiInjection are met. -/
theorem witness_niInjection_4 : ∃ (n : Nat) (e : WcbEntry) (s : State),
    ((Instr.combineTimeout n 0).wellFormed = true) ∧
    (s.Live) ∧
    ((s.dev.ni n).wcb = [e]) :=
  ⟨24, { pkt := { dest := 56, src := 24, ty := 1, cls := 1, part := 0 }, isOpen := true }, ⟨{ liveDev with nis := [(24, { wcb := [{ pkt := { dest := 56, src := 24, ty := 1, cls := 1, part := 0 }, isOpen := true }] })] }, []⟩, by decide⟩

/-- The premises of clause 5 of NiInjection are met. -/
theorem witness_niInjection_5 : ∃ (n part cls addr size dest : Nat) (s : State),
    ((Instr.unitNonpostedRequest n part 0 cls addr size []).wellFormed = true) ∧
    (s.Live) ∧
    (mayIssue n 0 = true) ∧
    (unitAdmits s.dev n part = true) ∧
    (slotOpen s.dev n part = true) ∧
    (lkRoom s.dev n 0 = true) ∧
    (splitBlocks 17 addr size = [(addr, size)]) ∧
    ((s.dev.ni n).atUnit = []) ∧
    ((s.dev.ni n).wcb = []) ∧
    (s.dev.decodeAddr n addr = some dest) ∧
    (dest ≠ n) :=
  ⟨44, 0, 2, 0x43BFFF00, 256, 63, ⟨liveDev, []⟩, by decide⟩

/-- The premises of clause 1 of NiMessages are met. -/
theorem witness_niMessages_1 : ∃ (n part cls dest mq code relS relNs : Nat) (timed : Bool) (data : Bytes) (s : State),
    ((Instr.unitMessage n timed part cls dest mq code data relS relNs).wellFormed = true) ∧
    (s.Live) ∧
    (mayIssue n (if timed then 5 else 4) = true) ∧
    (unitAdmits s.dev n part = true) ∧
    (cls ≠ 3) ∧
    (¬ (cls = 0 ∧ 16 < data.length)) :=
  ⟨24, 0, 0, 66, 3, 65535, 1, 999999999, true, List.replicate 16 (byte 7), ⟨liveDev, []⟩, by decide⟩

/-- The premises of clause 2 of NiMessages are met. -/
theorem witness_niMessages_2 : ∃ (n part cls dest mq code : Nat) (data : Bytes) (s : State),
    ((Instr.fencedMessage n part cls dest mq code data).wellFormed = true) ∧
    (s.Live) ∧
    (mayIssue n 3 = true) ∧
    (unitAdmits s.dev n part = true) ∧
    (cls ≠ 3) ∧
    (¬ (cls = 0 ∧ 16 < data.length)) ∧
    ((s.dev.ni n).atUnit = []) ∧
    ((s.dev.ni n).wcb = []) ∧
    ((s.dev.ni n).out = []) :=
  ⟨43, 15, 1, 24, 0, 1, [byte 1], ⟨{ liveDev with nis := [(43, { fenceSet := [(226, true)] })] }, []⟩, by decide⟩

/-- The premises of clause 3 of NiMessages are met. -/
theorem witness_niMessages_3 : ∃ (n : Nat) (m : FencedMsg) (s : State),
    ((Instr.fencedMessageInject n).wellFormed = true) ∧
    (s.Live) ∧
    ((s.dev.ni n).fenced.find? (fun k => k.marks == 0 && k.pkt.ty != 3) = some m) :=
  ⟨65, { id := 3, pkt := { dest := 40, src := 65, ty := 4, cls := 1, part := 0 }, marks := 0, mstat := 6 }, ⟨{ liveDev with nis := [(65, { fenced := [{ id := 3, pkt := { dest := 40, src := 65, ty := 4, cls := 1, part := 0 }, marks := 0, mstat := 6 }] })] }, []⟩, by decide⟩

/-- The premises of clause 4 of NiMessages are met. -/
theorem witness_niMessages_4 : ∃ (n vc : Nat) (p : Packet) (s : State),
    ((Instr.messageArrival n vc).wellFormed = true) ∧
    (s.Live) ∧
    (s.dev.front n vc = some (p, false)) ∧
    (p.ty = 4) ∧
    (mqDefined n p.mq = true) ∧
    (s.dev.unitUp n = true) ∧
    (fenceApplies s.dev n p = false) :=
  ⟨24, 6, { dest := 24, src := 40, ty := 4, cls := 1, part := 0, mq := 3 }, ⟨{ liveDev with nis := [(24, { taken := [(6, [{ vc := 6, pkt := some { dest := 24, src := 40, ty := 4, cls := 1, part := 0, mq := 3 }, tail := true }])] })] }, []⟩, by decide⟩

/-- The premises of clause 5 of NiMessages are met. -/
theorem witness_niMessages_5 : ∃ (n src : Nat) (s : State),
    ((Instr.creditReturnSend n src).wellFormed = true) ∧
    (s.Live) ∧
    (owedTo (s.dev.ni n).owed src ≠ []) :=
  ⟨0, 66, ⟨{ liveDev with nis := [(0, { owed := [(256 * 66 + 4, true)], freedHere := [(256 * 66 + 4, 255)] })] }, []⟩, by decide⟩

/-- The premises of clause 6 of NiMessages are met. -/
theorem witness_niMessages_6 : ∃ (n src : Nat) (s : State),
    ((Instr.creditReturnRepeat n src).wellFormed = true) ∧
    (s.Live) ∧
    (owedTo (s.dev.ni n).again src ≠ []) :=
  ⟨66, 0, ⟨{ liveDev with nis := [(66, { again := [(0xFE, true)], freedHere := [(0xFE, 1)] })] }, []⟩, by decide⟩

/-- The premises of clause 7 of NiMessages are met. -/
theorem witness_niMessages_7 : ∃ (n vc : Nat) (q v : Byte) (p : Packet) (s : State),
    ((Instr.creditReturnReceive n vc).wellFormed = true) ∧
    (s.Live) ∧
    (s.dev.front n vc = some (p, false)) ∧
    (p.ty = 4) ∧
    (p.mq = 0xFF) ∧
    (p.data = [q, v]) ∧
    (((s.dev.ni n).sent.get 0 (256 * p.src + q.toNat) + 256 - v.toNat) % 256 ≤ (if q.toNat = 0xFE then 4 else 2)) :=
  ⟨24, 6, byte 0xFE, byte 254, { dest := 24, src := 7, ty := 4, cls := 0, part := 0, mq := 0xFF, data := [byte 0xFE, byte 254] }, ⟨{ liveDev with nis := [(24, { sent := [(256 * 7 + 0xFE, 2)], taken := [(6, [{ vc := 6, pkt := some { dest := 24, src := 7, ty := 4, cls := 0, part := 0, mq := 0xFF, data := [byte 0xFE, byte 254] }, tail := true }])] })] }, []⟩, by decide⟩

/-- The premises of clause 8 of NiMessages are met. -/
theorem witness_niMessages_8 : ∃ (n : Nat) (m : Packet) (rest : List Packet) (s : State),
    ((Instr.mqDequeue n 2 .none).wellFormed = true) ∧
    (s.Ready) ∧
    (niKind n = 1) ∧
    ((s.dev.ni n).mq.get [] 2 = m :: rest) ∧
    (s.dev.unitUp n = true) ∧
    (m.ty = 4) ∧
    (m.mq = 2) ∧
    (m.code ≠ 3) :=
  ⟨24, { dest := 24, src := 0, ty := 4, cls := 1, part := 0, mq := 2 }, [], ⟨{ liveDev with nis := [(24, { mq := [(2, [{ dest := 24, src := 0, ty := 4, cls := 1, part := 0, mq := 2 }])] })] }, []⟩, by decide⟩

/-- The premises of clause 1 of NiTargets are met. -/
theorem witness_niTargets_1 : ∃ (n vc : Nat) (q : Packet) (s : State),
    ((Instr.targetRequest n vc .none).wellFormed = true) ∧
    (s.Live) ∧
    (niKind n = 6) ∧
    (s.dev.front n vc = some (q, false)) ∧
    (isNext s.dev n vc = true) ∧
    (q.ty = 0) ∧
    (accepts n q.ty q.addr = true) ∧
    (regPlace n q.addr = .none) ∧
    (inQctx q.addr = false) ∧
    (s.dev.unitUp n = true) ∧
    (fenceApplies s.dev n q = false) :=
  ⟨56, 1, { dest := 56, src := 0, ty := 0, cls := 2, part := 0, addr := 0x40000000, size := 8 }, ⟨{ liveDev with nis := [(56, { arrivals := [1], taken := [(1, [{ vc := 1, pkt := some { dest := 56, src := 0, ty := 0, cls := 2, part := 0, addr := 0x40000000, size := 8 }, tail := true }])] })] }, []⟩, by decide⟩

/-- The premises of clause 2 of NiTargets are met. -/
theorem witness_niTargets_2 : ∃ (n vc : Nat) (q : Packet) (s : State),
    ((Instr.targetPostedWrite n vc).wellFormed = true) ∧
    (s.Live) ∧
    (niKind n = 6) ∧
    (s.dev.front n vc = some (q, false)) ∧
    (isNext s.dev n vc = true) ∧
    (q.ty = 1) ∧
    (accepts n q.ty q.addr = true) ∧
    (regPlace n q.addr = .none) ∧
    (inQctx q.addr = false) ∧
    (s.dev.unitUp n = true) ∧
    (fenceApplies s.dev n q = false) :=
  ⟨63, 1, { dest := 63, src := 0, ty := 1, cls := 2, part := 0, addr := 0x40000700, size := 1, data := [byte 9] }, ⟨{ liveDev with nis := [(63, { arrivals := [1], taken := [(1, [{ vc := 1, pkt := some { dest := 63, src := 0, ty := 1, cls := 2, part := 0, addr := 0x40000700, size := 1, data := [byte 9] }, tail := true }])] })] }, []⟩, by decide⟩

/-- The premises of clause 3 of NiTargets are met. -/
theorem witness_niTargets_3 : ∃ (n vc : Nat) (q : Packet) (s : State),
    ((Instr.fenceMarkAnswer n vc).wellFormed = true) ∧
    (s.Ready) ∧
    (n ≠ 65) ∧
    (s.dev.front n vc = some (q, false)) ∧
    (isNext s.dev n vc = true) ∧
    (q.ty = 3) ∧
    (s.dev.unitUp n = true) ∧
    (fenceApplies s.dev n q = false) :=
  ⟨40, 2, { dest := 40, src := 24, ty := 3, cls := 3, part := 1 }, ⟨{ liveDev with nis := [(40, { taken := [(2, [{ vc := 2, pkt := some { dest := 40, src := 24, ty := 3, cls := 3, part := 1 }, tail := true }])] })] }, []⟩, by decide⟩

/-- The premises of clause 1 of NiTags are met. -/
theorem witness_niTags_1 : ∃ (n vc : Nat) (r : Packet) (g : Tag) (s : State),
    ((Instr.responseArrival n vc .none).wellFormed = true) ∧
    (s.Live) ∧
    (s.dev.front n vc = some (r, false)) ∧
    (r.ty = 8) ∧
    (niKind n ≠ 3) ∧
    ((s.dev.ni n).tags.find? r.tag = some g) ∧
    (g.st = .inFlight) ∧
    (g.req.dest = r.src) ∧
    (g.req.code < 3) ∧
    (g.ordered = false) ∧
    (g.fence = none) ∧
    (r.status = 0) :=
  ⟨0, 3, { dest := 0, src := 56, ty := 8, cls := 2, part := 0, tag := 127, data := [byte 5] }, { req := { dest := 56, src := 0, ty := 0, cls := 2, part := 0, tag := 127 }, st := .inFlight }, ⟨{ liveDev with nis := [(0, { tags := [(127, { req := { dest := 56, src := 0, ty := 0, cls := 2, part := 0, tag := 127 }, st := .inFlight })], taken := [(3, [{ vc := 3, pkt := some { dest := 0, src := 56, ty := 8, cls := 2, part := 0, tag := 127, data := [byte 5] }, tail := true }])] })] }, []⟩, by decide⟩

/-- The premises of clause 2 of NiTags are met. -/
theorem witness_niTags_2 : ∃ (n tag : Nat) (g : Tag) (s : State),
    ((Instr.retryReissue n tag).wellFormed = true) ∧
    (s.Live) ∧
    ((s.dev.ni n).tags.find? tag = some g) ∧
    (g.st = .retryWait) :=
  ⟨1, 0, { req := { dest := 56, src := 1, ty := 0, cls := 2, part := 0, age := 9 }, st := .retryWait }, ⟨{ liveDev with nis := [(1, { tags := [(0, { req := { dest := 56, src := 1, ty := 0, cls := 2, part := 0, age := 9 }, st := .retryWait })] })] }, []⟩, by decide⟩

/-- The premises of clause 3 of NiTags are met. -/
theorem witness_niTags_3 : ∃ (n tag : Nat) (g : Tag) (s : State),
    ((Instr.responseTimeout n tag).wellFormed = true) ∧
    (s.Live) ∧
    (niKind n ≠ 3) ∧
    ((s.dev.ni n).tags.find? tag = some g) ∧
    (g.st ≠ .quarantined) ∧
    (responseHere s.dev n tag = false) ∧
    (g.req.code < 3) ∧
    (g.ordered = false) ∧
    (g.fence = none) ∧
    (s.dev.faults.inj.state ≠ 1) :=
  ⟨65, 5, { req := { dest := 56, src := 65, ty := 0, cls := 2, part := 0 }, st := .inFlight }, ⟨{ liveDev with nis := [(65, { tags := [(5, { req := { dest := 56, src := 65, ty := 0, cls := 2, part := 0 }, st := .inFlight })] })] }, []⟩, by decide⟩

/-- The premises of clause 1 of NiTimeAndClears are met. -/
theorem witness_niTimeAndClears_1 : ∃ (n vc : Nat) (p : Packet) (s : State),
    ((Instr.timedMessageArrival n vc).wellFormed = true) ∧
    (s.Live) ∧
    (s.dev.front n vc = some (p, false)) ∧
    (p.ty = 5) ∧
    (hasHold n = true) ∧
    (s.dev.unitUp n = true) ∧
    (fenceApplies s.dev n p = false) ∧
    (timedDefined n p.mq p.code = true) ∧
    (s.dev.replica n < timeCount p.relS p.relNs) ∧
    (timeCount p.relS p.relNs - s.dev.replica n ≤ ((s.dev.fcfg.nat 0x2301 5 * 1500000 : Nat) : Int)) :=
  ⟨64, 6, { dest := 64, src := 24, ty := 5, cls := 0, part := 0, mq := 1, code := 0x40, relS := 0, relNs := 1000 }, ⟨{ liveDev with nis := [(64, { taken := [(6, [{ vc := 6, pkt := some { dest := 64, src := 24, ty := 5, cls := 0, part := 0, mq := 1, code := 0x40, relS := 0, relNs := 1000 }, tail := true }])] })] }, []⟩, by decide⟩

/-- The premises of clause 2 of NiTimeAndClears are met. -/
theorem witness_niTimeAndClears_2 : ∃ (n : Nat) (h : Released) (s : State),
    ((Instr.timedRelease n .none).wellFormed = true) ∧
    (s.Live) ∧
    ((s.dev.ni n).hold = [h]) ∧
    (h.late = false) ∧
    (timeCount h.pkt.relS h.pkt.relNs ≤ s.dev.replica n) :=
  ⟨23, { pkt := { dest := 23, src := 24, ty := 5, cls := 0, part := 0 }, late := false }, ⟨{ liveDev with nis := [(23, { hold := [{ pkt := { dest := 23, src := 24, ty := 5, cls := 0, part := 0 }, late := false }] })] }, []⟩, by decide⟩

/-- The premises of clause 3 of NiTimeAndClears are met. -/
theorem witness_niTimeAndClears_3 : ∃ (n vc : Nat) (p : Packet) (s : State),
    ((Instr.syncCheck n vc).wellFormed = true) ∧
    (s.Live) ∧
    (s.dev.front n vc = some (p, false)) ∧
    (p.ty = 4) ∧
    (p.mq = 0xFE) ∧
    (p.code = 0) ∧
    (n ≠ 64) ∧
    (0 ≤ s.dev.replica n - (stampOf p.data + (2 * hops (niPlace 64).1 (niPlace n).1 + 6 : Nat))) ∧
    (s.dev.replica n - (stampOf p.data + (2 * hops (niPlace 64).1 (niPlace n).1 + 6 : Nat))
       ≤ 90 - (2 * hops (niPlace 64).1 (niPlace n).1 : Nat)) :=
  ⟨66, 6, { dest := 66, src := 64, ty := 4, cls := 0, part := 0, mq := 0xFE, data := List.replicate 10 (byte 0) }, ⟨{ liveDev with clock := { running := true, edges := 40 }, nis := [(66, { taken := [(6, [{ vc := 6, pkt := some { dest := 66, src := 64, ty := 4, cls := 0, part := 0, mq := 0xFE, data := List.replicate 10 (byte 0) }, tail := true }])] })] }, []⟩, by decide⟩

/-- The premises of clause 4 of NiTimeAndClears are met. -/
theorem witness_niTimeAndClears_4 : ∃ (n value : Nat) (s : State),
    ((Instr.niDecerrClr n value).wellFormed = true) ∧
    (s.Live) ∧
    (value % 2 = 1) :=
  ⟨66, 1, ⟨{ liveDev with nis := [(66, { regs := [(16, 4)] })] }, []⟩, by decide⟩

/-- The premises of clause 5 of NiTimeAndClears are met. -/
theorem witness_niTimeAndClears_5 : ∃ (n value : Nat) (s : State),
    ((Instr.niStatClr n value).wellFormed = true) ∧
    (s.Live) ∧
    (value % 2 = 1) :=
  ⟨0, 0xFFFFFFFF, ⟨{ liveDev with nis := [(0, { regs := [(16, 4), (0x3FFF, 3)] })] }, []⟩, by decide⟩

/-- The premises of clause 6 of NiTimeAndClears are met. -/
theorem witness_niTimeAndClears_6 : ∃ (n value : Nat) (s : State),
    ((Instr.weirClr n value).wellFormed = true) ∧
    (s.Live) ∧
    (value % 2 = 1) :=
  ⟨31, 1, ⟨{ liveDev with nis := [(31, { regs := [(0x4020, 4)] })] }, []⟩, by decide⟩

/-- The premises of clause 1 of MatrixAccesses are met. -/
theorem witness_matrixAccesses_1 : ∃ (m a n : Nat) (bs : Bytes) (s : State),
    ((Instr.matrixArbitration [{ master := m, write := true, addr := a, len := n, data := bs, excl := false }] 0).wellFormed = true) ∧
    (s.Ready) ∧
    (m ≤ 1) ∧
    (mxDecode s.dev.matrix.remap a = .msram) ∧
    (1 ≤ n) ∧
    (a % 8 + n ≤ 8) ∧
    (bs.length = n) ∧
    (s.dev.matrix.acc = []) ∧
    (s.dev.matrix.openBy = []) ∧
    (s.dev.matrix.parked = false) ∧
    (s.dev.bridge.order = []) ∧
    (s.dev.faults.inj.state ≠ 1) :=
  ⟨1, 0x10000007, 1, [byte 9], ⟨{ matrix := { parked := false } }, []⟩, by decide⟩

/-- The premises of clause 2 of MatrixAccesses are met. -/
theorem witness_matrixAccesses_2 : ∃ (m : Nat) (fail : Bool) (x : MxAccess) (s : State),
    ((Instr.matrixAccessComplete m fail .none).wellFormed = true) ∧
    (s.Ready) ∧
    (m ≠ 2) ∧
    (s.dev.matrix.acc.find? m = some x) ∧
    (x.waiting = true) ∧
    (x.beats ≤ x.granted) :=
  ⟨3, true, { write := false, addr := 0, len := 8, data := [], excl := false, granted := 1, waiting := true }, ⟨{ matrix := { acc := [(3, { write := false, addr := 0, len := 8, data := [], excl := false, granted := 1, waiting := true })] } }, []⟩, by decide⟩

/-- The premises of clause 3 of MatrixAccesses are met. -/
theorem witness_matrixAccesses_3 : ∃ (s : State),
    ((Instr.debugPortReset).wellFormed = true) ∧
    (s.Ready) :=
  ⟨⟨{ matrix := { held := true } }, []⟩, by decide⟩

/-- The premises of clause 4 of MatrixAccesses are met. -/
theorem witness_matrixAccesses_4 : ∃ (s : State),
    ((Instr.remapSet).wellFormed = true) ∧
    (s.Ready) ∧
    (s.dev.matrix.remap = false) :=
  ⟨⟨{}, []⟩, by decide⟩

/-- The premises of clause 5 of MatrixAccesses are met. -/
theorem witness_matrixAccesses_5 : ∃ (line : Nat) (s : State),
    ((Instr.interruptLineEdge line).wellFormed = true) ∧
    (s.Ready) ∧
    (bitOf (s.dev.fcfg.nat 0x2420 (line + 1)) 31 = false) :=
  ⟨0, ⟨{}, []⟩, by decide⟩

/-- The premises of clause 6 of MatrixAccesses are met. -/
theorem witness_matrixAccesses_6 : ∃ (lkc : Bool) (addr size dest : Nat) (s : State),
    ((Instr.lkOutboundRequest lkc 0 addr size [] false).wellFormed = true) ∧
    (s.Ready) ∧
    (lkRoom s.dev 65 (if lkc then 1 else 2) = true) ∧
    (unitAdmits s.dev 65 0 = true) ∧
    (slotOpen s.dev 65 0 = true) ∧
    (splitBlocks 17 addr size = [(addr, size)]) ∧
    ((s.dev.ni 65).atUnit = []) ∧
    ((s.dev.ni 65).wcb = []) ∧
    (s.dev.decodeAddr 65 addr = some dest) ∧
    (dest ≠ 65) :=
  ⟨true, 0x43FFFFFF, 1, 63, ⟨{}, []⟩, by decide⟩

/-- The premises of clause 1 of BridgeAccesses are met. -/
theorem witness_bridgeAccesses_1 : ∃ (vc : Nat) (q : Packet) (s : State),
    ((Instr.bridgeRead vc .none).wellFormed = true) ∧
    (s.Ready) ∧
    (s.dev.front 65 vc = some (q, false)) ∧
    (q.ty = 0) ∧
    (q.addr < 0x40000000) ∧
    (s.dev.bridge.blocked = false) ∧
    (s.dev.bridge.entries = []) ∧
    (s.dev.unitUp 65 = true) ∧
    (fenceApplies s.dev 65 q = false) ∧
    (allPrefetch s.dev q = false) :=
  ⟨0, { dest := 65, src := 24, ty := 0, cls := 1, part := 0, addr := 0x3FFFFFFF }, ⟨{ liveDev with nis := [(65, { taken := [(0, [{ vc := 0, pkt := some { dest := 65, src := 24, ty := 0, cls := 1, part := 0, addr := 0x3FFFFFFF }, tail := true }])] })] }, []⟩, by decide⟩

/-- The premises of clause 2 of BridgeAccesses are met. -/
theorem witness_bridgeAccesses_2 : ∃ (i : Nat) (rest : List BridgeOp) (ans : MxAnswer) (e : DelayedRead) (s : State),
    ((Instr.bridgeFetchDone).wellFormed = true) ∧
    (s.Ready) ∧
    (s.dev.matrix.answer.find? 2 = some ans) ∧
    (s.dev.bridge.job = .front) ∧
    (s.dev.bridge.order = .fetch i :: rest) ∧
    (s.dev.bridge.entries = [e]) ∧
    (e.id = i) :=
  ⟨0, [], { resp := 2, data := [] }, { id := 0, req := { dest := 65, src := 24, ty := 0, cls := 1, part := 0 } }, ⟨{ matrix := { answer := [(2, { resp := 2, data := [] })] }, bridge := { job := .front, order := [.fetch 0], entries := [{ id := 0, req := { dest := 65, src := 24, ty := 0, cls := 1, part := 0 } }] } }, []⟩, by decide⟩

/-- The premises of clause 3 of BridgeAccesses are met. -/
theorem witness_bridgeAccesses_3 : ∃ (e : DelayedRead) (s : State),
    ((Instr.delayedReadDiscard 0).wellFormed = true) ∧
    (s.Ready) ∧
    (s.dev.bridge.entries = [e]) ∧
    (e.stored = true) ∧
    (s.dev.faults.inj.state ≠ 1) :=
  ⟨{ id := 0, req := { dest := 65, src := 24, ty := 0, cls := 1, part := 15 }, stored := true }, ⟨{ bridge := { entries := [{ id := 0, req := { dest := 65, src := 24, ty := 0, cls := 1, part := 15 }, stored := true }] } }, []⟩, by decide⟩

/-- The premises of clause 4 of BridgeAccesses are met. -/
theorem witness_bridgeAccesses_4 : ∃ (src l : Nat) (rest : List Nat) (st : PfStream) (s : State),
    ((Instr.prefetchFetchAhead src).wellFormed = true) ∧
    (s.Ready) ∧
    (s.dev.bridge.job = .idle) ∧
    (s.dev.bridge.order = []) ∧
    (s.dev.matrix.acc.has 2 = false) ∧
    (s.dev.bridge.streams = [st]) ∧
    (st.src = src) ∧
    (st.ahead = l :: rest) :=
  ⟨66, 0x40, [], { src := 66, ahead := [0x40] }, ⟨{ bridge := { streams := [{ src := 66, ahead := [0x40] }] } }, []⟩, by decide⟩

/-- The premises of clause 5 of BridgeAccesses are met. -/
theorem witness_bridgeAccesses_5 : ∃ (vc : Nat) (q : Packet) (s : State),
    ((Instr.bridgeWrite vc).wellFormed = true) ∧
    (s.Ready) ∧
    (s.dev.front 65 vc = some (q, false)) ∧
    (q.ty = 1) ∧
    (q.addr < 0x40000000) ∧
    (s.dev.bridge.blocked = false) ∧
    (s.dev.unitUp 65 = true) ∧
    (fenceApplies s.dev 65 q = false) ∧
    (s.dev.bridge.entries = []) ∧
    (s.dev.bridge.streams = []) :=
  ⟨0, { dest := 65, src := 40, ty := 1, cls := 1, part := 0, addr := 0x10000000, data := [byte 1] }, ⟨{ liveDev with nis := [(65, { taken := [(0, [{ vc := 0, pkt := some { dest := 65, src := 40, ty := 1, cls := 1, part := 0, addr := 0x10000000, data := [byte 1] }, tail := true }])] })] }, []⟩, by decide⟩

/-- The premises of clause 6 of BridgeAccesses are met. -/
theorem witness_bridgeAccesses_6 : ∃ (q : Packet) (rest : List BridgeOp) (ans : MxAnswer) (s : State),
    ((Instr.postedWritePerform .none).wellFormed = true) ∧
    (s.Ready) ∧
    (s.dev.bridge.order = .write q true :: rest) ∧
    (s.dev.bridge.job = .front) ∧
    (s.dev.matrix.answer.find? 2 = some ans) ∧
    (ans.resp = 0) :=
  ⟨{ dest := 65, src := 40, ty := 1, cls := 1, part := 0 }, [], { resp := 0, data := [] }, ⟨{ matrix := { answer := [(2, { resp := 0, data := [] })] }, bridge := { job := .front, order := [.write { dest := 65, src := 40, ty := 1, cls := 1, part := 0 } true] } }, []⟩, by decide⟩

/-- The premises of clause 1 of CommandsEnd are met. -/
theorem witness_commandsEnd_1 : ∃ (q : Nat) (x : Queue) (pre : List Cmd) (k : Cmd) (post : List Cmd) (s : State),
    ((Instr.nop q).wellFormed = true) ∧
    (s.Ready) ∧
    (s.dev.queue? q = some x) ∧
    (RunsAt s.dev q 0 pre k post) ∧
    (fieldFault 0 k.index k.bytes = none) :=
  ⟨8191, tq, [], { tcmd with q := 8191 }, [], ⟨{ liveDev with queues := { q := [(8191, tq)], se := [(0, { cmds := [{ tcmd with q := 8191 }] })] } }, []⟩, by decide⟩

/-- The premises of clause 2 of CommandsEnd are met. -/
theorem witness_commandsEnd_2 : ∃ (q : Nat) (x : Queue) (pre : List Cmd) (k : Cmd) (post : List Cmd) (s : State),
    ((Instr.notify q).wellFormed = true) ∧
    (s.Ready) ∧
    (s.dev.queue? q = some x) ∧
    (RunsAt s.dev q 6 pre k post) ∧
    (fieldFault 6 k.index k.bytes = none) :=
  ⟨65535, tq, [], { tcmd with q := 65535, bytes := tb [(0, 6), (24, 9)] }, [], ⟨{ liveDev with queues := { q := [(65535, tq)], se := [(7, { cmds := [{ tcmd with q := 65535, bytes := tb [(0, 6), (24, 9)] }] })] } }, []⟩, by decide⟩

/-- The premises of clause 3 of CommandsEnd are met. -/
theorem witness_commandsEnd_3 : ∃ (q : Nat) (x : Queue) (pre : List Cmd) (k : Cmd) (post : List Cmd) (s : State),
    ((Instr.fenceCmd q).wellFormed = true) ∧
    (s.Ready) ∧
    (s.dev.queue? q = some x) ∧
    (RunsAt s.dev q 4 pre k post) ∧
    (fieldFault 4 k.index k.bytes = none) :=
  ⟨5, tq, [], { tcmd with bytes := tb [(0, 4)] }, [], ⟨{ liveDev with queues := { q := [(5, tq)], se := [(0, { cmds := [{ tcmd with bytes := tb [(0, 4)] }] })] } }, []⟩, by decide⟩

/-- The premises of clause 4 of CommandsEnd are met. -/
theorem witness_commandsEnd_4 : ∃ (q : Nat) (x : Queue) (pre : List Cmd) (k : Cmd) (post : List Cmd) (s : State),
    ((Instr.waitTime q).wellFormed = true) ∧
    (s.Ready) ∧
    (s.dev.queue? q = some x) ∧
    (RunsAt s.dev q 8 pre k post) ∧
    (fieldFault 8 k.index k.bytes = none) ∧
    (k.c < 1000000000) ∧
    (beyondHorizon s.dev (seNi (seOf q)) k.b k.c = false) :=
  ⟨5, tq, [], { tcmd with bytes := tb [(0, 8), (24, 9)] }, [], ⟨{ liveDev with queues := { q := [(5, tq)], se := [(0, { cmds := [{ tcmd with bytes := tb [(0, 8), (24, 9)] }] })] } }, []⟩, by decide⟩

/-- The premises of clause 5 of CommandsEnd are met. -/
theorem witness_commandsEnd_5 : ∃ (q : Nat) (pre : List Cmd) (k : Cmd) (post : List Cmd) (s : State),
    ((Instr.waitTimeReached q).wellFormed = true) ∧
    (s.Ready) ∧
    ((s.dev.eng (seOf q)).cmds = pre ++ k :: post) ∧
    (k.q = q) ∧
    (k.st = .waiting) ∧
    (k.bytes.le 0 1 = 8) ∧
    ((∀ j, j ∈ pre → j.q ≠ q)) ∧
    (timeCount k.b k.c ≤ s.dev.replica (seNi (seOf q))) :=
  ⟨5, [], { tcmd with st := .waiting, bytes := tb [(0, 8), (24, 9)] }, [], ⟨{ liveDev with clock := { edges := 14 }, queues := { q := [(5, tq)], se := [(0, { cmds := [{ tcmd with st := .waiting, bytes := tb [(0, 8), (24, 9)] }] })] } }, []⟩, by decide⟩

/-- The premises of clause 1 of CommandsWrite are met. -/
theorem witness_commandsWrite_1 : ∃ (q : Nat) (x : Queue) (pre : List Cmd) (k : Cmd) (post : List Cmd) (bs : Bytes) (s : State),
    ((Instr.copyInline q).wellFormed = true) ∧
    (s.Ready) ∧
    (s.dev.queue? q = some x) ∧
    (RunsAt s.dev q 2 pre k post) ∧
    (fieldFault 2 k.index k.bytes = none) ∧
    (spanFault s.dev.fcfg x.part k.a (k.bytes.le 2 2) = 0) ∧
    (bs = k.bytes.slice 32 (k.bytes.le 2 2)) ∧
    (meetsDefault s.dev (seNi (seOf q)) k.a bs.length = false) :=
  ⟨5, tq, [], { tcmd with bytes := tb [(0, 2), (2, 32), (8, 0xF0), (11, 0x40), (32, 7), (63, 3)] }, [], (tb [(32, 7), (63, 3)]).drop 32, ⟨{ liveDev with queues := { q := [(5, tq)], se := [(0, { cmds := [{ tcmd with bytes := tb [(0, 2), (2, 32), (8, 0xF0), (11, 0x40), (32, 7), (63, 3)] }] })] } }, []⟩, by decide⟩

/-- The premises of clause 2 of CommandsWrite are met. -/
theorem witness_commandsWrite_2 : ∃ (q : Nat) (x : Queue) (pre : List Cmd) (k : Cmd) (post : List Cmd) (bs : Bytes) (s : State),
    ((Instr.fillCmd q).wellFormed = true) ∧
    (s.Ready) ∧
    (s.dev.queue? q = some x) ∧
    (RunsAt s.dev q 3 pre k post) ∧
    (fieldFault 3 k.index k.bytes = none) ∧
    (k.c ≠ 0) ∧
    (spanFault s.dev.fcfg x.part k.a k.c = 0) ∧
    (bs = fillBytes k.a k.c k.b) ∧
    (meetsDefault s.dev (seNi (seOf q)) k.a bs.length = false) :=
  ⟨5, tq, [], { tcmd with bytes := tb [(0, 3), (8, 3), (11, 0x40), (16, 1), (23, 8), (24, 20)] }, [], fillBytes 0x40000003 20 0x0800000000000001, ⟨{ liveDev with queues := { q := [(5, tq)], se := [(0, { cmds := [{ tcmd with bytes := tb [(0, 3), (8, 3), (11, 0x40), (16, 1), (23, 8), (24, 20)] }] })] } }, []⟩, by decide⟩

/-- The premises of clause 3 of CommandsWrite are met. -/
theorem witness_commandsWrite_3 : ∃ (q : Nat) (x : Queue) (pre : List Cmd) (k : Cmd) (post : List Cmd) (s : State),
    ((Instr.copy q).wellFormed = true) ∧
    (s.Ready) ∧
    (s.dev.queue? q = some x) ∧
    (RunsAt s.dev q 1 pre k post) ∧
    (fieldFault 1 k.index k.bytes = none) ∧
    (k.c ≠ 0) ∧
    (overlaps k.a k.c k.b k.c = false) ∧
    (spanFault s.dev.fcfg x.part k.a k.c = 0) ∧
    (spanFault s.dev.fcfg x.part k.b k.c = 0) ∧
    (readState s.dev (seNi (seOf q)) (queueKey q k.index 2) [(k.b, k.c)] = .idle) :=
  ⟨5, tq, [], { tcmd with bytes := tb [(0, 1), (11, 0x40), (17, 1), (19, 0x40), (24, 3)] }, [], ⟨{ liveDev with queues := { q := [(5, tq)], se := [(0, { cmds := [{ tcmd with bytes := tb [(0, 1), (11, 0x40), (17, 1), (19, 0x40), (24, 3)] }] })] } }, []⟩, by decide⟩

/-- The premises of clause 4 of CommandsWrite are met. -/
theorem witness_commandsWrite_4 : ∃ (q : Nat) (x : Queue) (pre : List Cmd) (k : Cmd) (post : List Cmd) (bs : Bytes) (s : State),
    ((Instr.copy q).wellFormed = true) ∧
    (s.Ready) ∧
    (s.dev.queue? q = some x) ∧
    (RunsAt s.dev q 1 pre k post) ∧
    (fieldFault 1 k.index k.bytes = none) ∧
    (readState s.dev (seNi (seOf q)) (queueKey q k.index 2) [(k.b, k.c)] = .done 0 bs) ∧
    (meetsDefault s.dev (seNi (seOf q)) k.a bs.length = false) :=
  ⟨5, tq, [], { tcmd with bytes := tb [(0, 1), (11, 0x40), (17, 1), (19, 0x40), (24, 3)] }, [], [byte 5, byte 0, byte 6], ⟨{ liveDev with nis := [(24, { answers := [{ req := { dest := 57, src := 24, ty := 0, cls := 1, part := 0, addr := 0x40000100, size := 3, code := queueKey 5 0 2 }, status := 0, data := [byte 5, byte 0, byte 6] }] })], queues := { q := [(5, tq)], se := [(0, { cmds := [{ tcmd with bytes := tb [(0, 1), (11, 0x40), (17, 1), (19, 0x40), (24, 3)] }] })] } }, []⟩, by decide⟩

/-- The premises of clause 5 of CommandsWrite are met. -/
theorem witness_commandsWrite_5 : ∃ (q : Nat) (x : Queue) (pre : List Cmd) (k : Cmd) (post : List Cmd) (s : State),
    ((Instr.flushCmd q).wellFormed = true) ∧
    (s.Ready) ∧
    (s.dev.queue? q = some x) ∧
    (RunsAt s.dev q 5 pre k post) ∧
    (fieldFault 5 k.index k.bytes = none) ∧
    (k.c ≠ 0) ∧
    (spanFault s.dev.fcfg x.part k.a k.c = 0) :=
  ⟨5, tq, [], { tcmd with bytes := tb [(0, 5), (11, 0x40), (24, 3)] }, [], ⟨{ liveDev with queues := { q := [(5, tq)], se := [(0, { cmds := [{ tcmd with bytes := tb [(0, 5), (11, 0x40), (24, 3)] }] })] } }, []⟩, by decide⟩

/-- The premises of clause 1 of Completions are met. -/
theorem witness_completions_1 : ∃ (q : Nat) (x y : Queue) (k : Cmd) (post : List Cmd) (s : State),
    ((Instr.completionWrite q .none).wellFormed = true) ∧
    (s.Ready) ∧
    (s.dev.queue? q = some x) ∧
    (s.dev.queue? x.cq = some y) ∧
    (seOf x.cq = seOf q) ∧
    ((s.dev.eng (seOf q)).cmds = k :: post) ∧
    (k.q = q) ∧
    (k.st = .done) ∧
    (k.wrote = []) ∧
    (¬ (k.status = 0 ∧ bitOf (k.bytes.le 1 1) 1 = true)) ∧
    (k.status ≠ 7) ∧
    (¬ (k.cop = 0x42 ∧ k.status = 0)) ∧
    (y.cqRoom = true) ∧
    (y.vector = 0xFFFF) :=
  ⟨5, tq, tcq, { tcmd with st := .done }, [], ⟨{ liveDev with queues := { q := [(5, tq), (6, tcq)], se := [(0, { cmds := [{ tcmd with st := .done }] })] } }, []⟩, by decide⟩

/-- The premises of clause 2 of Completions are met. -/
theorem witness_completions_2 : ∃ (q : Nat) (x : Queue) (k : Cmd) (post : List Cmd) (s : State),
    ((Instr.completionWrite q .none).wellFormed = true) ∧
    (s.Ready) ∧
    (s.dev.queue? q = some x) ∧
    ((s.dev.eng (seOf q)).cmds = k :: post) ∧
    (k.q = q) ∧
    (k.st = .done) ∧
    (k.wrote ≠ []) ∧
    (marksDone s.dev (seNi (seOf q)) (queueKey q k.index 3) = none) ∧
    (marksAsked s.dev (seNi (seOf q)) (queueKey q k.index 3) = false) :=
  ⟨5, tq, { tcmd with st := .done, cop := 3, wrote := [byte 57, byte 1] }, [], ⟨{ liveDev with queues := { q := [(5, tq), (6, tcq)], se := [(0, { cmds := [{ tcmd with st := .done, cop := 3, wrote := [byte 57, byte 1] }] })] } }, []⟩, by decide⟩

/-- The premises of clause 3 of Completions are met. -/
theorem witness_completions_3 : ∃ (cq : Nat) (x : Queue) (s : State),
    ((Instr.cqModerationTimeout cq).wellFormed = true) ∧
    (s.Ready) ∧
    (s.dev.queue? cq = some x) ∧
    (x.kind = 1) ∧
    (x.vector ≠ 0xFFFF) ∧
    (x.mtime ≠ 0) ∧
    (0 < x.unsig) ∧
    (s.dev.queues.sig.has cq = false) ∧
    ((s.dev.ni (seNi (seOf cq))).atUnit = []) ∧
    ((s.dev.ni (seNi (seOf cq))).wcb = []) ∧
    ((s.dev.ni (seNi (seOf cq))).out = []) ∧
    ((s.dev.ni (seNi (seOf cq))).fenceSet = []) :=
  ⟨6, { tcq with vector := 255, mtime := 1, unsig := 3 }, ⟨{ liveDev with queues := { q := [(6, { tcq with vector := 255, mtime := 1, unsig := 3 })] } }, []⟩, by decide⟩

/-- The premises of clause 4 of Completions are met. -/
theorem witness_completions_4 : ∃ (q : Nat) (x : Queue) (s : State),
    ((Instr.contextWriteback q).wellFormed = true) ∧
    (s.Ready) ∧
    (s.dev.queue? q = some x) :=
  ⟨65535, tq, ⟨{ liveDev with queues := { q := [(65535, tq)] } }, []⟩, by decide⟩

/-- The premises of clause 1 of QueueAdministration are met. -/
theorem witness_queueAdministration_1 : ∃ (q : Nat) (x : Queue) (s : State),
    ((Instr.commandFetch q false).wellFormed = true) ∧
    (s.Ready) ∧
    (s.dev.queue? q = some x) ∧
    (mayFetch s.dev x q = true) ∧
    ((s.dev.eng (seOf q)).cmds = []) ∧
    (readState s.dev (seNi (seOf q)) (queueKey q x.ci 0) [(x.base + 64 * (x.ci % x.depth), 64)] = .idle) :=
  ⟨5, { tq with pi := 1, ci := 65535, log2 := 6 }, ⟨{ liveDev with queues := { q := [(5, { tq with pi := 1, ci := 65535, log2 := 6 }), (6, tcq)] }, doms := [(1, { running := true, locked := true, shadow := [(0x2731 * 256 + 1, [byte 9])] })] }, []⟩, by decide⟩

/-- The premises of clause 2 of QueueAdministration are met. -/
theorem witness_queueAdministration_2 : ∃ (q : Nat) (x : Queue) (bs : Bytes) (s : State),
    ((Instr.commandFetch q false).wellFormed = true) ∧
    (s.Ready) ∧
    (s.dev.queue? q = some x) ∧
    (mayFetch s.dev x q = true) ∧
    (x.kind ≠ 3) ∧
    (readState s.dev (seNi (seOf q)) (queueKey q x.ci 0) [(x.base + 64 * (x.ci % x.depth), 64)] = .done 0 bs) ∧
    (bitOf (bs.le 1 1) 0 = false) :=
  ⟨5, { tq with pi := 1, ci := 65535, log2 := 6 }, tb [(0, 6)], ⟨{ liveDev with nis := [(24, { answers := [{ req := { dest := 57, src := 24, ty := 0, cls := 1, part := 0, addr := 0x40000FC0, size := 64, code := queueKey 5 65535 0 }, status := 0, data := tb [(0, 6)] }] })], queues := { q := [(5, { tq with pi := 1, ci := 65535, log2 := 6 }), (6, tcq)] }, doms := [(1, { running := true, locked := true, shadow := [(0x2731 * 256 + 1, [byte 9])] })] }, []⟩, by decide⟩

/-- The premises of clause 3 of QueueAdministration are met. -/
theorem witness_queueAdministration_3 : ∃ (n q i : Nat) (x : Queue) (m : Packet) (rest : List Packet) (s : State),
    ((Instr.doorbellNotice n .none).wellFormed = true) ∧
    (s.Ready) ∧
    ((s.dev.ni (seNi n)).mq.get [] 0 = m :: rest) ∧
    (m.code = 1) ∧
    (m.data.le 0 2 = q) ∧
    (m.data.le 2 2 = i) ∧
    (s.dev.queue? q = some x) ∧
    (x.state = 1) ∧
    (seOf q = n) ∧
    (noticeValid x i = true) :=
  ⟨0, 5, 3, tq, { dest := 24, src := 40, ty := 4, cls := 1, part := 0, code := 1, data := [byte 5, byte 0, byte 3, byte 0] }, [], ⟨{ liveDev with queues := { q := [(5, tq)] }, nis := [(24, { mq := [(0, [{ dest := 24, src := 40, ty := 4, cls := 1, part := 0, code := 1, data := [byte 5, byte 0, byte 3, byte 0] }])] })] }, []⟩, by decide⟩

/-- The premises of clause 4 of QueueAdministration are met. -/
theorem witness_queueAdministration_4 : ∃ (p aq q kind log2 cls limit cq base : Nat) (y : Queue) (pre : List Cmd) (k : Cmd) (post : List Cmd) (s : State),
    ((Instr.createQueue p).wellFormed = true) ∧
    (s.Ready) ∧
    (adminOf s.dev p = some aq) ∧
    (RunsAt s.dev aq 0x40 pre k post) ∧
    (k.bytes.le 1 1 < 8 ∧ bitOf (k.bytes.le 1 1) 0 = false) ∧
    (anySet k.bytes 2 4 = false ∧ anySet k.bytes 27 28 = false ∧ anySet k.bytes 30 32 = false) ∧
    (k.bytes.le 8 2 = q ∧ k.bytes.le 10 1 = kind ∧ k.bytes.le 11 1 = log2 ∧ k.bytes.le 12 1 = cls) ∧
    (k.bytes.le 13 1 = limit ∧ k.bytes.le 14 2 = cq ∧ k.bytes.le 16 8 = base) ∧
    (blockOwner s.dev.fcfg (q / 256) = p) ∧
    (isAdminQueue s.dev q = false) ∧
    (s.dev.queue? q = none) ∧
    ((kind ≠ 1 → namesCq s.dev p q cq = true)) ∧
    (s.dev.created p < s.dev.fcfg.nat 0x2730 (p + 1)) ∧
    (kind < 5) ∧
    (4 ≤ log2 ∧ log2 ≤ 15) ∧
    (1 ≤ cls ∧ cls ≤ 3) ∧
    ((if kind = 0 ∨ kind = 4 then 1 ≤ limit ∧ limit ≤ 16 else limit = 0)) ∧
    ((kind = 1 → cq = 0xFFFF)) ∧
    (base % 4096 = 0 ∧ base < 2 ^ 48) ∧
    ((kind ≠ 1 → anySet k.bytes 24 27 = false ∧ anySet k.bytes 28 30 = false)) ∧
    (kindCheck s.dev p q kind (k.bytes.slice 32 32) = (0, 0)) ∧
    (spanFault s.dev.fcfg p base (2 ^ log2 * (if kind = 1 then 16 else if kind = 2 then (k.bytes.slice 32 32).le 4 4 else 64)) = 0) ∧
    (y = {
       base := base, log2 := log2, kind := kind, cls := cls, part := p, cq := cq, limit := limit
       vector := (if kind = 1 then k.bytes.le 24 2 else 0), mcount := (if kind = 1 then k.bytes.le 26 1 else 0)
       mtime := (if kind = 1 then k.bytes.le 28 2 else 0), kparam := k.bytes.slice 32 32 }) :=
  ⟨0, 0, 2, 1, 4, 1, 0, 0xFFFF, 0x40001000, { base := 0x40001000, log2 := 4, kind := 1, cls := 1, part := 0, cq := 0xFFFF, limit := 0, vector := 0, kparam := (tb [(0, 0x40), (8, 2), (10, 1), (11, 4), (12, 1), (14, 255), (15, 255), (17, 16), (19, 64)]).slice 32 32 }, [], { tcmd with q := 0, bytes := tb [(0, 0x40), (8, 2), (10, 1), (11, 4), (12, 1), (14, 255), (15, 255), (17, 16), (19, 64)] }, [], ⟨{ liveDev with doms := [(1, { shadow := [(0x2730 * 256 + 1, [byte 9])] })], queues := { q := [(0, { tq with admin := true, cq := 1 }), (1, { tcq with admin := true })], se := [(0, { cmds := [{ tcmd with q := 0, bytes := tb [(0, 0x40), (8, 2), (10, 1), (11, 4), (12, 1), (14, 255), (15, 255), (17, 16), (19, 64)] }] })] } }, []⟩, by decide⟩

/-- The premises of clause 5 of QueueAdministration are met. -/
theorem witness_queueAdministration_5 : ∃ (p aq q : Nat) (x : Queue) (pre : List Cmd) (k : Cmd) (post : List Cmd) (s : State),
    ((Instr.modifyCq p).wellFormed = true) ∧
    (s.Ready) ∧
    (adminOf s.dev p = some aq) ∧
    (RunsAt s.dev aq 0x42 pre k post) ∧
    (k.bytes.le 1 1 < 8 ∧ bitOf (k.bytes.le 1 1) 0 = false) ∧
    (anySet k.bytes 2 4 = false ∧ anySet k.bytes 10 24 = false ∧ anySet k.bytes 27 28 = false ∧ anySet k.bytes 30 64 = false) ∧
    (k.bytes.le 8 2 = q) ∧
    (s.dev.queue? q = some x) ∧
    (x.part = p) ∧
    (x.kind = 1) ∧
    (x.admin = false) ∧
    (x.state = 1) :=
  ⟨0, 0, 6, tcq, [], { tcmd with q := 0, bytes := tb [(0, 0x42), (8, 6), (24, 5), (26, 255), (29, 1)] }, [], ⟨{ liveDev with queues := { q := [(0, { tq with admin := true, cq := 1 }), (1, { tcq with admin := true }), (6, tcq)], se := [(0, { cmds := [{ tcmd with q := 0, bytes := tb [(0, 0x42), (8, 6), (24, 5), (26, 255), (29, 1)] }] })] } }, []⟩, by decide⟩

/-- The premises of clause 6 of QueueAdministration are met. -/
theorem witness_queueAdministration_6 : ∃ (q m : Nat) (x y z : Queue) (k : Cmd) (post : List Cmd) (s : State),
    ((Instr.completionWrite q .none).wellFormed = true) ∧
    (s.Ready) ∧
    (s.dev.queue? q = some x) ∧
    (s.dev.queue? x.cq = some y) ∧
    (seOf x.cq = seOf q) ∧
    ((s.dev.eng (seOf q)).cmds = k :: post) ∧
    (k.q = q) ∧
    (k.st = .done) ∧
    (k.wrote = []) ∧
    (k.cop = 0x42) ∧
    (k.status = 0) ∧
    (bitOf (k.bytes.le 1 1) 1 = false) ∧
    (y.cqRoom = true) ∧
    (y.vector = 0xFFFF) ∧
    (k.bytes.le 8 2 = m) ∧
    (m ≠ x.cq) ∧
    (s.dev.queue? m = some z) ∧
    (z.unsig = 0 ∨ z.unsig < k.bytes.le 26 1) :=
  ⟨0, 6, { tq with admin := true, cq := 1 }, { tcq with admin := true }, tcq, { tcmd with q := 0, st := .done, cop := 0x42, bytes := tb [(0, 0x42), (8, 6), (24, 5), (26, 255), (29, 1)] }, [], ⟨{ liveDev with queues := { q := [(0, { tq with admin := true, cq := 1 }), (1, { tcq with admin := true }), (6, tcq)], se := [(0, { cmds := [{ tcmd with q := 0, st := .done, cop := 0x42, bytes := tb [(0, 0x42), (8, 6), (24, 5), (26, 255), (29, 1)] }] })] } }, []⟩, by decide⟩

/-- The premises of clause 7 of QueueAdministration are met. -/
theorem witness_queueAdministration_7 : ∃ (p aq q : Nat) (x : Queue) (pre : List Cmd) (k : Cmd) (post : List Cmd) (s : State),
    ((Instr.queryQueue p).wellFormed = true) ∧
    (s.Ready) ∧
    (adminOf s.dev p = some aq) ∧
    (RunsAt s.dev aq 0x43 pre k post) ∧
    (k.bytes.le 1 1 < 8 ∧ bitOf (k.bytes.le 1 1) 0 = false) ∧
    (anySet k.bytes 2 4 = false ∧ anySet k.bytes 10 64 = false) ∧
    (k.bytes.le 8 2 = q) ∧
    (blockOwner s.dev.fcfg (q / 256) = p) ∧
    (s.dev.queue? q = some x) :=
  ⟨0, 0, 6, tcq, [], { tcmd with q := 0, bytes := tb [(0, 0x43), (8, 6)] }, [], ⟨{ liveDev with queues := { q := [(0, { tq with admin := true, cq := 1 }), (1, { tcq with admin := true }), (6, tcq)], se := [(0, { cmds := [{ tcmd with q := 0, bytes := tb [(0, 0x43), (8, 6)] }] })] } }, []⟩, by decide⟩

/-- The premises of clause 1 of WindowBase are met. -/
theorem witness_windowBase_1 : ∃ (f : Nat) (data : Bytes) (s : State),
    ((Instr.windowBaseWrite f data false).wellFormed = true) ∧
    (s.Ready) ∧
    (s.dev.door f 0 = .serve) ∧
    (data.length = 8) ∧
    (bitsOf data.toNat 25 1 = 0) ∧
    (bitsOf data.toNat 63 48 = 0) :=
  ⟨0, (leBytes 8 0xFFFFFC000001), ⟨liveDev, []⟩, by decide⟩

/-- The premises of clause 2 of WindowBase are met. -/
theorem witness_windowBase_2 : ∃ (f : Nat) (data : Bytes) (s : State),
    ((Instr.windowBaseWrite f data false).wellFormed = true) ∧
    (s.Ready) ∧
    (s.dev.door f 0 = .serve) ∧
    (data.length = 8 ∨ data.length = 4) ∧
    (¬ (data.length = 8 ∧ bitsOf data.toNat 25 1 = 0 ∧ bitsOf data.toNat 63 48 = 0)) :=
  ⟨15, (leBytes 8 (2 ^ 25)), ⟨{ liveDev with host := { vfEnable := true, numVfs := 15 } }, []⟩, by decide⟩

/-- The premises of clause 1 of Doorbells are met. -/
theorem witness_doorbells_1 : ∃ (f value : Nat) (s : State),
    ((Instr.doorbell f value true false).wellFormed = true) ∧
    (s.Ready) ∧
    (s.dev.door f 0 = .serve) ∧
    (s.dev.boot.safeHarbour = false) ∧
    ((s.dev.bells (hpOf f)).length < 64) ∧
    (s.dev.fenceBit f = false) ∧
    (value < 2 ^ 32) ∧
    (blockOwner s.dev.fcfg (value % 65536 / 256) = f) ∧
    (((s.dev.bells (hpOf f)).any fun b => b.q == value % 65536) = false) :=
  ⟨0, 0xFFFF0005, ⟨liveDev, []⟩, by decide⟩

/-- The premises of clause 2 of Doorbells are met. -/
theorem witness_doorbells_2 : ∃ (f value : Nat) (s : State),
    ((Instr.doorbell f value true false).wellFormed = true) ∧
    (s.Ready) ∧
    (s.dev.door f 0 = .serve) ∧
    (s.dev.boot.safeHarbour = false) ∧
    ((s.dev.bells (hpOf f)).length < 64) ∧
    (s.dev.fenceBit f = false) ∧
    (value < 2 ^ 32) ∧
    (blockOwner s.dev.fcfg (value % 65536 / 256) = f) ∧
    (((s.dev.bells (hpOf f)).any fun b => b.q == value % 65536) = true) :=
  ⟨0, 0xFFFF0005, ⟨{ liveDev with host := { bells := [(40, [{ q := 5, index := 3, sent := true }])] } }, []⟩, by decide⟩

/-- The premises of clause 3 of Doorbells are met. -/
theorem witness_doorbells_3 : ∃ (h : Nat) (b : Bell) (s : State),
    ((Instr.doorbellNoticeSend h).wellFormed = true) ∧
    (s.Live) ∧
    (((s.dev.bells h).find? fun b => !b.sent) = some b) ∧
    (unitAdmits s.dev h (blockOwner s.dev.fcfg (b.q / 256)) = true) ∧
    ((s.dev.ni h).atUnit = []) ∧
    ((s.dev.ni h).wcb = []) ∧
    ((s.dev.ni h).out = []) :=
  ⟨43, { q := 5, index := 3 }, ⟨{ liveDev with host := { bells := [(43, [{ q := 5, index := 3 }])] } }, []⟩, by decide⟩

/-- The premises of clause 4 of Doorbells are met. -/
theorem witness_doorbells_4 : ∃ (h p : Nat) (m : Packet) (rest : List Packet) (s : State),
    ((Instr.flushHp h).wellFormed = true) ∧
    (s.Live) ∧
    ((s.dev.ni h).mq.get [] 1 = m :: rest) ∧
    (m.code = 2) ∧
    (m.data.le 11 1 = p) ∧
    (p < 16) ∧
    (hpOf p = h) ∧
    ((s.dev.ni h).atUnit = []) ∧
    ((s.dev.ni h).wcb = []) ∧
    ((s.dev.ni h).out = []) :=
  ⟨41, 1, { dest := 41, src := 24, ty := 4, cls := 1, part := 1, code := 2, mq := 1, data := [byte 0, byte 0, byte 0, byte 64, byte 0, byte 0, byte 255, byte 0, byte 0, byte 0, byte 0, byte 1, byte 5, byte 0] }, [], ⟨{ liveDev with nis := [(41, { mq := [(1, [{ dest := 41, src := 24, ty := 4, cls := 1, part := 1, code := 2, mq := 1, data := [byte 0, byte 0, byte 0, byte 64, byte 0, byte 0, byte 255, byte 0, byte 0, byte 0, byte 0, byte 1, byte 5, byte 0] }])] })], host := { fn := [(1, { lines := [⟨0x40000000, []⟩, ⟨0x40000100, []⟩] })] } }, []⟩, by decide⟩

/-- The premises of clause 5 of Doorbells are met. -/
theorem witness_doorbells_5 : ∃ (f value : Nat) (s : State),
    ((Instr.pcClr f value false).wellFormed = true) ∧
    (s.Ready) ∧
    (s.dev.door f 0 = .serve) ∧
    (value % 2 = 1) :=
  ⟨0, 0xFFFFFFFFFFFFFFFF, ⟨{ liveDev with host := { fn := [(0, { refused := 7 })] } }, []⟩, by decide⟩

/-- The premises of clause 1 of WindowAccesses are met. -/
theorem witness_windowAccesses_1 : ∃ (f offset len : Nat) (s : State),
    ((Instr.windowRead f offset len .none).wellFormed = true) ∧
    (s.Ready) ∧
    (s.dev.door f 2 = .serve) ∧
    (unitAdmits s.dev (hpOf f) f = true) ∧
    (windowRefused s.dev f (windowAddr (s.dev.fn f).window offset) len = false) ∧
    (s.dev.fcfg.nat (0x2820 + f) 1 ≠ 1) ∧
    (exactRead (windowAddr (s.dev.fn f).window offset) = false) ∧
    ((s.dev.ni (hpOf f)).atUnit = []) ∧
    ((s.dev.ni (hpOf f)).answers = []) ∧
    (s.dev.host.flushReads = []) ∧
    ((∀ b, b ∈ blocksOf (windowAddr (s.dev.fn f).window offset) len →
       (s.dev.decodeAddr (hpOf f) b).isSome = true ∧ s.dev.decodeAddr (hpOf f) b ≠ some (hpOf f))) :=
  ⟨0, 255, 2, ⟨{ liveDev with doms := [(1, { running := true, locked := true, shadow := [(0x2820 * 256 + 1, [byte 0])] })], host := { fn := [(0, { window := 0x40000001 })] } }, []⟩, by decide⟩

/-- The premises of clause 2 of WindowAccesses are met. -/
theorem witness_windowAccesses_2 : ∃ (f offset len : Nat) (l : WinLine) (s : State),
    ((Instr.windowRead f offset len .none).wellFormed = true) ∧
    (s.Ready) ∧
    (s.dev.door f 2 = .serve) ∧
    (unitAdmits s.dev (hpOf f) f = true) ∧
    (windowRefused s.dev f (windowAddr (s.dev.fn f).window offset) len = false) ∧
    (s.dev.fcfg.nat (0x2820 + f) 1 = 1) ∧
    (exactRead (windowAddr (s.dev.fn f).window offset) = false) ∧
    ((s.dev.fn f).prevEnd = none) ∧
    ((s.dev.fn f).lines = [l]) ∧
    (blocksOf (windowAddr (s.dev.fn f).window offset) len = [l.addr]) ∧
    ((s.dev.ni (hpOf f)).answers = []) ∧
    (s.dev.host.flushReads = []) :=
  ⟨0, 1, 1, { addr := 0x40000000, data := [byte 3, byte 4] }, ⟨{ liveDev with doms := [(1, { shadow := [(0x2820 * 256 + 1, [byte 1])] })], host := { fn := [(0, { window := 0x40000001, lines := [{ addr := 0x40000000, data := [byte 3, byte 4] }] })] } }, []⟩, by decide⟩

/-- The premises of clause 3 of WindowAccesses are met. -/
theorem witness_windowAccesses_3 : ∃ (f offset len : Nat) (s : State),
    ((Instr.windowRead f offset len .none).wellFormed = true) ∧
    (s.Ready) ∧
    (s.dev.door f 2 = .serve) ∧
    (unitAdmits s.dev (hpOf f) f = true) ∧
    (windowRefused s.dev f (windowAddr (s.dev.fn f).window offset) len = true) ∧
    (s.dev.fcfg.nat 0x2801 3 ≠ 1) ∧
    (s.dev.faults.inj.state ≠ 1) :=
  ⟨0, 0, 4096, ⟨liveDev, []⟩, by decide⟩

/-- The premises of clause 4 of WindowAccesses are met. -/
theorem witness_windowAccesses_4 : ∃ (f offset a dest : Nat) (p : Packet) (data : Bytes) (s : State),
    ((Instr.windowWrite f offset data false).wellFormed = true) ∧
    (s.Ready) ∧
    (s.dev.door f 2 = .serve) ∧
    (unitAdmits s.dev (hpOf f) f = true) ∧
    (windowAddr (s.dev.fn f).window offset = a) ∧
    (windowRefused s.dev f a data.length = false) ∧
    (p = { dest := dest, src := hpOf f, ty := 1, cls := s.dev.fcfg.nat 0x2801 1, part := f, addr := a, size := data.length, data := data }) ∧
    (wcbFits s.dev (hpOf f) p = true) ∧
    (splitBlocks 17 a data.length = [(a, data.length)]) ∧
    (a % 256 + data.length < 256) ∧
    (s.dev.fcfg.nat 0x2301 4 ≠ 0) ∧
    ((s.dev.ni (hpOf f)).atUnit = []) ∧
    ((s.dev.ni (hpOf f)).wcb = []) ∧
    (s.dev.decodeAddr (hpOf f) a = some dest) ∧
    (dest ≠ hpOf f) :=
  ⟨0, 0x3FFFFF0, 0x43FFFFF0, 63, { dest := 63, src := 40, ty := 1, cls := liveDev.fcfg.nat 0x2801 1, part := 0, addr := 0x43FFFFF0, size := 1, data := [byte 1] }, [byte 1], ⟨{ liveDev with host := { fn := [(0, { window := 0x40000001, lines := [{ addr := 0x43FFFF00, data := [] }] })] } }, []⟩, by decide⟩

/-- The premises of clause 5 of WindowAccesses are met. -/
theorem witness_windowAccesses_5 : ∃ (f addr : Nat) (s : State),
    ((Instr.prefetchLineExpiry f addr).wellFormed = true) ∧
    (s.Ready) :=
  ⟨15, 0, ⟨{ liveDev with host := { fn := [(15, { lines := [{ addr := 0, data := [] }] })] } }, []⟩, by decide⟩

/-- The premises of clause 1 of Placement are met. -/
theorem witness_placement_1 : ∃ (rid : Nat) (data : Bytes) (s : State),
    ((Instr.admission rid 0 data false).wellFormed = true) ∧
    (s.Ready) ∧
    (s.dev.door 0 0 = .serve) ∧
    (s.dev.boot.safeHarbour = false) ∧
    (data.length = 8) ∧
    (bitsOf data.toNat 62 44 = 0) ∧
    (bitOf data.toNat 63 = true) ∧
    (mayAdmit s.dev rid (bitsOf data.toNat 43 32) (bitsOf data.toNat 31 0) = true) ∧
    (s.dev.host.admissions.contains (rid, bitsOf data.toNat 43 32) = false) ∧
    (s.dev.host.admissions.length < 256) :=
  ⟨65535, (leBytes 8 0x80000FFF00000000), ⟨{ liveDev with doms := [(1, { shadow := [(0x3FFF * 256 + 5, [byte 1]), (0x3FFF * 256 + 7, [byte 0])] })] }, []⟩, by decide⟩

/-- The premises of clause 2 of Placement are met. -/
theorem witness_placement_2 : ∃ (rid : Nat) (data : Bytes) (s : State),
    ((Instr.revoke rid data false).wellFormed = true) ∧
    (s.Ready) ∧
    (s.dev.door 0 0 = .serve) ∧
    (s.dev.boot.safeHarbour = false) ∧
    (data.length = 8) ∧
    (bitsOf data.toNat 62 44 = 0) ∧
    (bitOf data.toNat 63 = false) :=
  ⟨65535, (leBytes 8 0x00000FFF00000000), ⟨{ liveDev with host := { admissions := [(65535, 0xFFF)] } }, []⟩, by decide⟩

/-- The premises of clause 3 of Placement are met. -/
theorem witness_placement_3 : ∃ (rid : Nat) (s : State),
    ((Instr.admissionStatusRead rid 0 8).wellFormed = true) ∧
    (s.Ready) ∧
    (s.dev.door 0 0 = .serve) ∧
    (s.dev.boot.safeHarbour = false) :=
  ⟨0, ⟨{ liveDev with host := { admissions := [(0, 4)], admStatus := [(0, { region := 4, refused := true })] } }, []⟩, by decide⟩

/-- The premises of clause 4 of Placement are met. -/
theorem witness_placement_4 : ∃ (rid offset n o dest a : Nat) (p : Packet) (data : Bytes) (s : State),
    ((Instr.placementWrite rid offset data false).wellFormed = true) ∧
    (s.Ready) ∧
    (s.dev.door 0 4 = .serve) ∧
    (1 ≤ s.dev.slotSize) ∧
    (offset / s.dev.slotSize = n ∧ offset % s.dev.slotSize = o ∧ s.dev.region n 3 + o = a) ∧
    (n < 4096) ∧
    (o + data.length ≤ s.dev.slotSize ∧ o + data.length ≤ s.dev.region n 4) ∧
    (bitOf (s.dev.region n 5) 0 = true) ∧
    (ownerTakes s.dev (s.dev.region n 1) = true) ∧
    (s.dev.host.admissions.contains (rid, n) = true) ∧
    (inRanges s.dev.fcfg (s.dev.region n 1) a data.length = true) ∧
    (unitAdmits s.dev 40 (s.dev.region n 1) = true) ∧
    (p = {
       dest := dest, src := 40, ty := 1, cls := s.dev.fcfg.nat 0x2801 2, part := s.dev.region n 1, addr := a
       size := data.length, data := data }) ∧
    (wcbFits s.dev 40 p = true) ∧
    (splitBlocks 17 a data.length = [(a, data.length)]) ∧
    (a % 256 + data.length < 256) ∧
    (s.dev.fcfg.nat 0x2301 4 ≠ 0) ∧
    ((s.dev.ni 40).atUnit = []) ∧
    ((s.dev.ni 40).wcb = []) ∧
    (s.dev.decodeAddr 40 a = some dest) ∧
    (dest ≠ 40) :=
  ⟨7, 15, 0, 15, 56, 0x4000000F, { dest := 56, src := 40, ty := 1, cls := liveDev.fcfg.nat 0x2801 2, part := liveDev.region 0 1, addr := 0x4000000F, size := 1, data := [byte 1] }, [byte 1], ⟨{ liveDev with doms := [(1, { running := true, locked := true, shadow := [(0x3000 * 256 + 3, [byte 0, byte 0, byte 0, byte 64]), (0x3000 * 256 + 4, [byte 16]), (0x3000 * 256 + 5, [byte 1])] })], host := { admissions := [(7, 0)] } }, []⟩, by decide⟩

/-- The premises of clause 5 of Placement are met. -/
theorem witness_placement_5 : ∃ (rid offset len : Nat) (s : State),
    ((Instr.placementFlushRead rid offset len).wellFormed = true) ∧
    (s.Ready) ∧
    (s.dev.door 0 4 = .serve) ∧
    (offset < s.dev.slotSize * 4096) ∧
    (s.dev.host.placedTo ≠ []) ∧
    (s.dev.host.flushReads = []) ∧
    ((s.dev.ni 40).atUnit = []) ∧
    ((s.dev.ni 40).wcb = []) ∧
    ((s.dev.ni 40).answers = []) ∧
    ((s.dev.ni 40).fenced = []) :=
  ⟨7, 0, 4096, ⟨{ liveDev with host := { placedTo := [(226, true)] } }, []⟩, by decide⟩

/-- The premises of clause 1 of Outbound are met. -/
theorem witness_outbound_1 : ∃ (h vc tag : Nat) (q : Packet) (s : State),
    ((Instr.outboundRequest h vc).wellFormed = true) ∧
    (s.Live) ∧
    (s.dev.front h vc = some (q, false)) ∧
    (inOutbound q.addr = true) ∧
    (q.ty = 0) ∧
    (linkDown s.dev = false) ∧
    (outboundRefused s.dev q.part = false) ∧
    (freeOutTag s.dev = some tag) :=
  ⟨40, 1, 0, { dest := 40, src := 24, ty := 0, cls := 2, part := 0, addr := 0x100000000000, size := 8 }, ⟨{ liveDev with resets := { linkUp := true }, host := { fn := [(0, { bme := true })] }, nis := [(40, { taken := [(1, [{ vc := 1, pkt := some { dest := 40, src := 24, ty := 0, cls := 2, part := 0, addr := 0x100000000000, size := 8 }, tail := true }])] })] }, []⟩, by set_option maxRecDepth 10000 in decide⟩

/-- The premises of clause 2 of Outbound are met. -/
theorem witness_outbound_2 : ∃ (tag : Nat) (bs : Bytes) (r : OutRead) (s : State),
    ((Instr.outboundCompletion tag (.data bs)).wellFormed = true) ∧
    (s.Ready) ∧
    (s.dev.host.reads = [r]) ∧
    (r.tag = tag) ∧
    (r.req.ty = 0) ∧
    (bs.length = r.req.size) :=
  ⟨767, [byte 1], { tag := 767, hp := 43, req := { dest := 43, src := 24, ty := 0, cls := 2, part := 3, size := 1 } }, ⟨{ liveDev with host := { reads := [{ tag := 767, hp := 43, req := { dest := 43, src := 24, ty := 0, cls := 2, part := 3, size := 1 } }] } }, []⟩, by decide⟩

/-- The premises of clause 3 of Outbound are met. -/
theorem witness_outbound_3 : ∃ (tag : Nat) (r : OutRead) (s : State),
    ((Instr.outboundCompletionTimeout tag).wellFormed = true) ∧
    (s.Ready) ∧
    (s.dev.host.reads = [r]) ∧
    (r.tag = tag) ∧
    (s.dev.faults.inj.state ≠ 1) :=
  ⟨0, { tag := 0, hp := 43, req := { dest := 43, src := 24, ty := 0, cls := 2, part := 3, size := 1 } }, ⟨{ liveDev with host := { reads := [{ tag := 0, hp := 43, req := { dest := 43, src := 24, ty := 0, cls := 2, part := 3, size := 1 } }] } }, []⟩, by decide⟩

/-- The premises of clause 4 of Outbound are met. -/
theorem witness_outbound_4 : ∃ (f : Nat) (s : State),
    ((Instr.unsupportedRequest f).wellFormed = true) ∧
    (s.Ready) ∧
    (s.dev.fnExists f = true) ∧
    (s.dev.faults.inj.state ≠ 1) :=
  ⟨0, ⟨liveDev, []⟩, by decide⟩

/-- The premises of clause 5 of Outbound are met. -/
theorem witness_outbound_5 : ∃ (h f v : Nat) (m : Packet) (rest : List Packet) (s : State),
    ((Instr.msixRequest h .none).wellFormed = true) ∧
    (s.Live) ∧
    ((s.dev.ni h).mq.get [] 0 = m :: rest) ∧
    (m.code = 0x0010) ∧
    (fenceApplies s.dev h m = false) ∧
    (m.data.le 2 1 = f ∧ m.data.le 0 2 = v) ∧
    (s.dev.fnExists f = true) ∧
    (v < msixSize f) ∧
    ((s.dev.fn f).msixEnable = true) :=
  ⟨40, 0, 2047, { dest := 40, src := 24, ty := 4, cls := 1, part := 0, code := 0x10, data := [byte 255, byte 7, byte 0] }, [], ⟨{ liveDev with host := { fn := [(0, { bme := true, msixEnable := true, table := [(2047, { addr := 0xFEE00000, data := 5, ctl := 0 })] })] }, nis := [(40, { mq := [(0, [{ dest := 40, src := 24, ty := 4, cls := 1, part := 0, code := 0x10, data := [byte 255, byte 7, byte 0] }])] })] }, []⟩, by decide⟩

/-- The premises of clause 6 of Outbound are met. -/
theorem witness_outbound_6 : ∃ (f v : Nat) (e : MsixEntry) (s : State),
    ((Instr.msixUnmask f .functionMask).wellFormed = true) ∧
    (s.Ready) ∧
    (s.dev.fnExists f = true) ∧
    ((s.dev.fn f).flr = false) ∧
    ((s.dev.fn f).msixEnable = true) ∧
    ((s.dev.fn f).bme = true) ∧
    ((s.dev.fn f).table = [(v, e)]) ∧
    (e.pending = true) ∧
    (e.box = true ∨ s.dev.fenceBit f = false) ∧
    (bitOf e.ctl 0 = false) :=
  ⟨0, 255, { addr := 5, pending := true, ctl := 0 }, ⟨{ liveDev with host := { fn := [(0, { bme := true, msixEnable := true, mask := true, table := [(255, { addr := 5, pending := true, ctl := 0 })] })] } }, []⟩, by decide⟩

/-- The premises of clause 1 of LinkTraining are met. -/
theorem witness_linkTraining_1 : ∃ (k : Nat) (s : State),
    ((Instr.linkPllLocked k).wellFormed = true) ∧
    (s.Ready) ∧
    ((s.dev.link k).rx = 2 ∨ (s.dev.link k).rx = 6 ∨ (s.dev.link k).tx = 2 ∨ (s.dev.link k).tx = 6) :=
  ⟨23, ⟨{ liveDev with conv := { link := [(23, { rx := 6, tx := 2, lemc := true })] } }, []⟩, by decide⟩

/-- The premises of clause 2 of LinkTraining are met. -/
theorem witness_linkTraining_2 : ∃ (k : Nat) (s : State),
    ((Instr.syncHeaderLock k).wellFormed = true) ∧
    (s.Ready) ∧
    ((s.dev.link k).rx = 2) ∧
    ((s.dev.link k).pll = true) ∧
    ((s.dev.link k).cdr = true) ∧
    (linkRuns s.dev k = true) :=
  ⟨0, ⟨{ liveDev with conv := { link := [(0, { rx := 2, pll := true, cdr := true })] } }, []⟩, by decide⟩

/-- The premises of clause 3 of LinkTraining are met. -/
theorem witness_linkTraining_3 : ∃ (k : Nat) (arrivals : List Nat) (s : State),
    ((Instr.extendedMultiblockLock k arrivals).wellFormed = true) ∧
    (s.Ready) ∧
    ((s.dev.link k).rx = 3) ∧
    ((s.dev.link k).lemc = true) ∧
    (linkRuns s.dev k = true) ∧
    (arrivals.length = lanesOf (s.dev.dcfg k) k) ∧
    ((∀ a, a ∈ arrivals → a + 2 ≤ s.dev.linkObj k 0xA)) :=
  ⟨22, [8, 9], ⟨{ liveDev with store := { active := [((0x2A40 + 22) * 256 + 3, [byte 2]), ((0x2A40 + 22) * 256 + 0xA, [byte 11, byte 0])] }, conv := { link := [(22, { rx := 3, lemc := true })] } }, []⟩, by decide⟩

/-- The premises of clause 4 of LinkTraining are met. -/
theorem witness_linkTraining_4 : ∃ (k : Nat) (s : State),
    ((Instr.linkLockTimeout k).wellFormed = true) ∧
    (s.Ready) ∧
    (((s.dev.link k).rx = 2 ∧ ((s.dev.link k).pll && (s.dev.link k).cdr) = false) ∨
       ((s.dev.link k).tx = 2 ∧ (s.dev.link k).pll = false)) :=
  ⟨0, ⟨{ liveDev with conv := { link := [(0, { rx := 2, tx := 5 })] } }, []⟩, by decide⟩

/-- The premises of clause 5 of LinkTraining are met. -/
theorem witness_linkTraining_5 : ∃ (l cause k : Nat) (s : State),
    ((Instr.laneLockLoss l cause false).wellFormed = true) ∧
    (s.Ready) ∧
    (linkOfLane s.dev.dcfg l = some k) ∧
    (2 ≤ (s.dev.link k).rx) ∧
    ((s.dev.link k).rx ≠ 6) ∧
    (linkRuns s.dev k = true) ∧
    (s.dev.faults.inj.state ≠ 1) :=
  ⟨23, 7, 23, ⟨{ liveDev with store := { active := [((0x2A40 + 23) * 256 + 1, [byte 1]), ((0x2A40 + 23) * 256 + 3, [byte 1])] }, conv := { link := [(23, { rx := 5, tx := 5 })] } }, []⟩, by decide⟩

/-- The premises of clause 6 of LinkTraining are met. -/
theorem witness_linkTraining_6 : ∃ (l k : Nat) (s : State),
    ((Instr.laneLockLoss l 7 true).wellFormed = true) ∧
    (s.Ready) ∧
    (linkOfLane s.dev.dcfg l = some k) ∧
    (s.dev.clockRuns (9 + k) = true) :=
  ⟨23, 23, ⟨{ liveDev with doms := [(32, { running := true })], store := { active := [((0x2A40 + 23) * 256 + 1, [byte 1]), ((0x2A40 + 23) * 256 + 3, [byte 1])] }, conv := { link := [(23, { rx := 5, tx := 5, pll := true, cdr := true })] } }, []⟩, by decide⟩

/-- The premises of clause 7 of LinkTraining are met. -/
theorem witness_linkTraining_7 : ∃ (k : Nat) (onBoundary : Bool) (s : State),
    ((Instr.sysrefEdgeSampled k onBoundary).wellFormed = true) ∧
    (s.Ready) ∧
    (2 ≤ (s.dev.link k).rx ∨ 2 ≤ (s.dev.link k).tx) ∧
    ((s.dev.link k).lemc = false) ∧
    (linkRuns s.dev k = true) :=
  ⟨0, false, ⟨{ liveDev with conv := { link := [(0, { pll := true, tx := 2 })] } }, []⟩, by decide⟩

/-- The premises of clause 1 of StreamCommands are met. -/
theorem witness_streamCommands_1 : ∃ (q sq : Nat) (x : Queue) (st : Stream) (pre : List Cmd) (k : Cmd) (post : List Cmd) (s : State),
    ((Instr.streamArm q).wellFormed = true) ∧
    (s.Ready) ∧
    (s.dev.queue? q = some x) ∧
    (RunsAt s.dev q 9 pre k post) ∧
    (fieldFault 9 k.index k.bytes = none) ∧
    (k.a = sq) ∧
    (namesStream s.dev x q sq = true) ∧
    (armCheck s.dev x sq k.c = (0, 0)) ∧
    (s.dev.stream? sq = some st) :=
  ⟨5, 7, tq, { src := 0, tx := false }, [], { tcmd with bytes := tb [(0, 9), (8, 7), (16, 3), (24, 1)] }, [], ⟨{ liveDev with conv := { link := [(0, { rx := 5 })], stream := [(7, { src := 0, tx := false })] }, queues := { q := [(5, tq), (7, tsq)], se := [(0, { cmds := [{ tcmd with bytes := tb [(0, 9), (8, 7), (16, 3), (24, 1)] }] })] } }, []⟩, by decide⟩

/-- The premises of clause 2 of StreamCommands are met. -/
theorem witness_streamCommands_2 : ∃ (q sq : Nat) (x : Queue) (st : Stream) (pre : List Cmd) (k : Cmd) (post : List Cmd) (s : State),
    ((Instr.streamStop q).wellFormed = true) ∧
    (s.Ready) ∧
    (s.dev.queue? q = some x) ∧
    (RunsAt s.dev q 0xA pre k post) ∧
    (fieldFault 0xA k.index k.bytes = none) ∧
    (k.a = sq) ∧
    (k.c ≤ 1) ∧
    (namesStream s.dev x q sq = true) ∧
    (s.dev.stream? sq = some st) ∧
    ((st.armed || st.arming) = true) ∧
    (st.inProgress = none) ∧
    (st.ended = []) ∧
    (st.armedBy.all (fun a => decide (a.2.2 ≠ s.dev.clock.wall)) = true) ∧
    ((∀ j, j ∈ pre ++ post → waitsFor 9 sq j = false ∧ waitsFor 0xA sq j = false)) :=
  ⟨5, 7, tq, { src := 0, tx := false, armed := true }, [], { tcmd with bytes := tb [(0, 10), (8, 7), (24, 1)] }, [], ⟨{ liveDev with conv := { stream := [(7, { src := 0, tx := false, armed := true })] }, queues := { q := [(5, tq), (7, tsq)], se := [(0, { cmds := [{ tcmd with bytes := tb [(0, 10), (8, 7), (24, 1)] }] })] } }, []⟩, by decide⟩

/-- The premises of clause 3 of StreamCommands are met. -/
theorem witness_streamCommands_3 : ∃ (q sq : Nat) (x : Queue) (st : Stream) (pre : List Cmd) (k : Cmd) (post : List Cmd) (s : State),
    ((Instr.timedNotify q).wellFormed = true) ∧
    (s.Ready) ∧
    (s.dev.queue? q = some x) ∧
    (RunsAt s.dev q 7 pre k post) ∧
    (fieldFault 7 k.index k.bytes = none) ∧
    (k.a % 256 < 2) ∧
    (k.a / 256 % 256 = 0) ∧
    (k.a / 65536 % 65536 = sq) ∧
    (k.c < 1000000000) ∧
    (beyondHorizon s.dev (seNi (seOf q)) k.b k.c = false) ∧
    (namesStream s.dev x q sq = true) ∧
    (s.dev.stream? sq = some st) ∧
    (st.src < 24) :=
  ⟨5, 7, tq, { src := 0, tx := false }, [], { tcmd with bytes := tb [(0, 7), (8, 1), (10, 7), (24, 1)] }, [], ⟨{ liveDev with conv := { stream := [(7, { src := 0, tx := false })] }, queues := { q := [(5, tq), (7, tsq)], se := [(0, { cmds := [{ tcmd with bytes := tb [(0, 7), (8, 1), (10, 7), (24, 1)] }] })] } }, []⟩, by decide⟩

/-- The premises of clause 4 of StreamCommands are met. -/
theorem witness_streamCommands_4 : ∃ (p aq q : Nat) (x : Queue) (pre : List Cmd) (k : Cmd) (post : List Cmd) (s : State),
    ((Instr.destroyQueue p).wellFormed = true) ∧
    (s.Ready) ∧
    (adminOf s.dev p = some aq) ∧
    (RunsAt s.dev aq 0x41 pre k post) ∧
    (k.bytes.le 1 1 < 8 ∧ bitOf (k.bytes.le 1 1) 0 = false) ∧
    (anySet k.bytes 2 4 = false ∧ anySet k.bytes 10 64 = false) ∧
    (k.bytes.le 8 2 = q) ∧
    (mayDestroy s.dev p q = true) ∧
    (s.dev.queue? q = some x) ∧
    (s.dev.stream? q = none) :=
  ⟨0, 0, 6, tcq, [], { tcmd with q := 0, bytes := tb [(0, 0x41), (8, 6)] }, [], ⟨{ liveDev with queues := { q := [(0, { tq with admin := true, cq := 1 }), (1, { tcq with admin := true }), (6, tcq)], se := [(0, { cmds := [{ tcmd with q := 0, bytes := tb [(0, 0x41), (8, 6)] }] })] } }, []⟩, by decide⟩

/-- The premises of clause 5 of StreamCommands are met. -/
theorem witness_streamCommands_5 : ∃ (q aq : Nat) (x : Queue) (pre : List Cmd) (k : Cmd) (post : List Cmd) (s : State),
    ((Instr.destroyQueueDone q).wellFormed = true) ∧
    (s.Ready) ∧
    (s.dev.queue? q = some x) ∧
    (x.state = 2) ∧
    (s.dev.stream? q = none) ∧
    (adminOf s.dev x.part = some aq) ∧
    (seOf aq = seOf q) ∧
    ((s.dev.eng (seOf q)).cmds = pre ++ k :: post) ∧
    ((s.dev.eng (seOf q)).held = []) ∧
    ((∀ c, c ∈ (s.dev.eng (seOf q)).cmds → c.q ≠ q)) ∧
    (k.q = aq) ∧
    (waitsFor 0x41 q k = true) ∧
    ((∀ j, j ∈ pre → j.q ≠ aq)) :=
  ⟨6, 0, { tcq with state := 2 }, [], { tcmd with q := 0, st := .waiting, result := 3, bytes := tb [(0, 0x41), (8, 6)] }, [], ⟨{ liveDev with mem := [(0x43C00180, byte 3)], queues := { q := [(0, { tq with admin := true, cq := 1 }), (1, { tcq with admin := true }), (6, { tcq with state := 2 })], se := [(0, { cmds := [{ tcmd with q := 0, st := .waiting, result := 3, bytes := tb [(0, 0x41), (8, 6)] }] })] } }, []⟩, by decide⟩

/-- The premises of clause 6 of StreamCommands are met. -/
theorem witness_streamCommands_6 : ∃ (q : Nat) (x : Queue) (st : Stream) (s : State),
    ((Instr.slotGrant q).wellFormed = true) ∧
    (s.Ready) ∧
    (s.dev.queue? q = some x) ∧
    (s.dev.stream? q = some st) ∧
    (x.kind = 2) ∧
    (x.state = 1) ∧
    (st.src < 24) ∧
    ((st.armed || st.arming) = true) ∧
    (st.given < idxDiff x.pi x.ci) ∧
    (unitAdmits s.dev (seNi (seOf q)) x.part = true) :=
  ⟨7, { tsq with pi := 1, ci := 65535 }, { src := 4, tx := false, armed := true, given := 1 }, ⟨{ liveDev with conv := { stream := [(7, { src := 4, tx := false, armed := true, given := 1 })] }, queues := { q := [(7, { tsq with pi := 1, ci := 65535 })] } }, []⟩, by decide⟩

/-- The premises of clause 1 of Records are met. -/
theorem witness_records_1 : ∃ (k q : Nat) (at_ : Int) (ws : List Nat) (x : Queue) (st : Stream) (r : Rec) (s : State),
    ((Instr.rxFrameRelease k at_ [ws] 0 0 .none).wellFormed = true) ∧
    (s.Ready) ∧
    (linkOn (s.dev.dcfg k) k 1 = true) ∧
    (linkRuns s.dev k = true) ∧
    ((s.dev.link k).rx = 5) ∧
    (s.dev.faults.inj.state ≠ 1) ∧
    (armedStream s.dev k false = some q) ∧
    (s.dev.queue? q = some x) ∧
    (s.dev.stream? q = some st) ∧
    (st.cur = some r) ∧
    (r.buf.length + frameBytes (s.dev.dcfg k) k < 64) ∧
    (r.done + frameBytes (s.dev.dcfg k) k < x.record) ∧
    ((encodeFrame (s.dev.linkObj k 7) (s.dev.linkObj k 0xD) ws).length = frameBytes (s.dev.dcfg k) k) :=
  ⟨0, 7, (-1), [0x1234], tsq, { src := 0, tx := false, armed := true, cur := some { no := 0, slot := some 0 } }, { no := 0, slot := some 0 }, ⟨{ liveDev with store := { active := [(0x2A40 * 256 + 1, [byte 1]), (0x2A40 * 256 + 3, [byte 1]), (0x2A40 * 256 + 5, [byte 1]), (0x2A40 * 256 + 6, [byte 1]), (0x2A40 * 256 + 7, [byte 16])] }, conv := { link := [(0, { rx := 5 })], stream := [(7, { src := 0, tx := false, armed := true, cur := some { no := 0, slot := some 0 } })] }, queues := { q := [(7, tsq)] } }, []⟩, by decide⟩

/-- The premises of clause 2 of Records are met. -/
theorem witness_records_2 : ∃ (n q : Nat) (m : Packet) (rest : List Packet) (x : Queue) (st : Stream) (s : State),
    ((Instr.cpTrigger n).wellFormed = true) ∧
    (s.Ready) ∧
    ((s.dev.ni n).mq.get [] 1 = m :: rest) ∧
    (m.code = 0x0020) ∧
    (s.dev.conv.stream = [(q, st)]) ∧
    (s.dev.queue? q = some x) ∧
    (st.src = n) ∧
    (st.tx = false) ∧
    (st.armed = true) ∧
    (st.started = true) ∧
    (x.recTrig = m.data.le 0 1) ∧
    (x.recTrig ≠ 0) ∧
    (st.cur = none) ∧
    (st.trigAt = none) ∧
    (s.dev.fenceBit x.part = false) ∧
    (linkUp s.dev n = true) ∧
    (((s.dev.link n).history.any fun f => decide (triggerTime m.data ≤ f.time + lastSample s.dev n)) = false) :=
  ⟨0, 7, { dest := 0, src := 64, ty := 4, cls := 0, part := 0, code := 0x20, mq := 1, data := [byte 5, byte 1] }, [], { tsq with kparam := [byte 0, byte 0, byte 0, byte 5] }, { src := 0, tx := false, armed := true, started := true }, ⟨{ liveDev with nis := [(0, { mq := [(1, [{ dest := 0, src := 64, ty := 4, cls := 0, part := 0, code := 0x20, mq := 1, data := [byte 5, byte 1] }])] })], conv := { stream := [(7, { src := 0, tx := false, armed := true, started := true })] }, queues := { q := [(7, { tsq with kparam := [byte 0, byte 0, byte 0, byte 5] })] } }, []⟩, by decide⟩

/-- The premises of clause 3 of Records are met. -/
theorem witness_records_3 : ∃ (n q : Nat) (h : Released) (rest : List Released) (st : Stream) (s : State),
    ((Instr.cpTimedStart n).wellFormed = true) ∧
    (s.Ready) ∧
    ((s.dev.ni n).released = h :: rest) ∧
    (h.pkt.code = 0x0010) ∧
    (timedTarget s.dev n h.pkt = some q) ∧
    (s.dev.stream? q = some st) ∧
    (st.mode = 1) ∧
    (st.started = false) ∧
    (st.startAt = none) :=
  ⟨23, 7, { pkt := { dest := 23, src := 24, ty := 5, cls := 0, part := 0, code := 0x10, data := [byte 7], relNs := 5 }, late := false }, [], { src := 23, tx := true, armed := true, mode := 1 }, ⟨{ liveDev with nis := [(23, { released := [{ pkt := { dest := 23, src := 24, ty := 5, cls := 0, part := 0, code := 0x10, data := [byte 7], relNs := 5 }, late := false }] })], conv := { stream := [(7, { src := 23, tx := true, armed := true, mode := 1 })] }, queues := { q := [(7, tsq)] } }, []⟩, by decide⟩

/-- The premises of clause 4 of Records are met. -/
theorem witness_records_4 : ∃ (n q : Nat) (h : Released) (rest : List Released) (st : Stream) (s : State),
    ((Instr.cpTimedStop n).wellFormed = true) ∧
    (s.Ready) ∧
    ((s.dev.ni n).released = h :: rest) ∧
    (h.pkt.code = 0x0011) ∧
    (timedTarget s.dev n h.pkt = some q) ∧
    (s.dev.stream? q = some st) ∧
    (st.inProgress = none) ∧
    (st.ended = []) ∧
    (st.armedBy.all (fun a => decide (a.2.2 ≠ s.dev.clock.wall)) = true) ∧
    ((∀ j, j ∈ (s.dev.eng (seOf q)).cmds → waitsFor 9 q j = false ∧ waitsFor 0xA q j = false)) :=
  ⟨0, 7, { pkt := { dest := 0, src := 24, ty := 5, cls := 0, part := 0, code := 0x11, data := [byte 7] }, late := true }, [], { src := 0, tx := true, armed := true, started := true }, ⟨{ liveDev with nis := [(0, { released := [{ pkt := { dest := 0, src := 24, ty := 5, cls := 0, part := 0, code := 0x11, data := [byte 7] }, late := true }] })], conv := { stream := [(7, { src := 0, tx := true, armed := true, started := true })] }, queues := { q := [(7, tsq)] } }, []⟩, by decide⟩

/-- The premises of clause 5 of Records are met. -/
theorem witness_records_5 : ∃ (l q : Nat) (x : Queue) (st : Stream) (r : Rec) (s : State),
    ((Instr.recordEnd l).wellFormed = true) ∧
    (s.Ready) ∧
    (s.dev.conv.stream = [(q, st)]) ∧
    (s.dev.queue? q = some x) ∧
    (st.src < 24) ∧
    (l ∈ s.dev.lanes st.src) ∧
    (st.ended = [r]) ∧
    (bitOf r.sentBy l = false) ∧
    (0 < r.need) ∧
    ((s.dev.ni l).atUnit = []) ∧
    ((s.dev.ni l).wcb = []) ∧
    ((s.dev.ni l).out = []) :=
  ⟨23, 7, tsq, { src := 23, tx := false, ended := [{ no := 3, slot := some 2, need := 1 }] }, { no := 3, slot := some 2, need := 1 }, ⟨{ liveDev with conv := { stream := [(7, { src := 23, tx := false, ended := [{ no := 3, slot := some 2, need := 1 }] })] }, queues := { q := [(7, tsq)] } }, []⟩, by decide⟩

/-- The premises of clause 6 of Records are met. -/
theorem witness_records_6 : ∃ (q i : Nat) (x y : Queue) (st : Stream) (r : Rec) (rest : List Rec) (s : State),
    ((Instr.recordComplete q).wellFormed = true) ∧
    (s.Ready) ∧
    (s.dev.queue? q = some x) ∧
    (s.dev.queue? x.cq = some y) ∧
    (x.cq ≠ q) ∧
    (seOf x.cq = seOf q) ∧
    (s.dev.stream? q = some st) ∧
    (st.armed = true) ∧
    (st.ended = r :: rest) ∧
    (r.need ≤ r.ends) ∧
    (st.src < 24) ∧
    (r.slot = some i) ∧
    (y.cqRoom = true) ∧
    (y.vector = 0xFFFF) ∧
    (r.status ≠ 7) ∧
    ((∀ h, h ∈ (s.dev.eng (seOf q)).held → h.q ≠ q)) :=
  ⟨7, 0, tsq, { tcq with pi := 65535, ci := 65535 }, { src := 0, tx := false, armed := true, ended := [{ no := 3, slot := some 0 }] }, { no := 3, slot := some 0 }, [], ⟨{ liveDev with conv := { stream := [(7, { src := 0, tx := false, armed := true, ended := [{ no := 3, slot := some 0 }] })] }, queues := { q := [(6, { tcq with pi := 65535, ci := 65535 }), (7, tsq)] } }, []⟩, by decide⟩

/-- The premises of clause 1 of PlaybackAndTrace are met. -/
theorem witness_playbackAndTrace_1 : ∃ (q i : Nat) (x : Queue) (st : Stream) (rest : List Nat) (s : State),
    ((Instr.txPrefetchDone q).wellFormed = true) ∧
    (s.Ready) ∧
    (s.dev.queue? q = some x) ∧
    (s.dev.stream? q = some st) ∧
    (s.dev.fenceBit x.part = false) ∧
    (linkUp s.dev st.src = true) ∧
    (st.tx = true) ∧
    (st.arming = true) ∧
    (st.limit = 0) ∧
    (st.slots = i :: rest) ∧
    (st.playing = []) ∧
    (st.play = []) ∧
    (st.fetch = none) ∧
    (64 ≤ x.record) ∧
    (x.record ≤ 65536 * lanesOf (s.dev.dcfg st.src) st.src) :=
  ⟨7, 15, { tsq with kparam := tb [(0, 0), (1, 1), (5, 16), (8, 64)] }, { src := 0, tx := true, arming := true, slots := [15] }, [], ⟨{ liveDev with store := { active := [(0x2A40 * 256 + 3, [byte 1])] }, conv := { stream := [(7, { src := 0, tx := true, arming := true, slots := [15] })] }, queues := { q := [(7, { tsq with kparam := tb [(0, 0), (1, 1), (5, 16), (8, 64)] })] } }, []⟩, by decide⟩

/-- The premises of clause 2 of PlaybackAndTrace are met. -/
theorem witness_playbackAndTrace_2 : ∃ (q i : Nat) (bs : Bytes) (x : Queue) (st : Stream) (rest : List Nat) (s : State),
    ((Instr.txPrefetchDone q).wellFormed = true) ∧
    (s.Ready) ∧
    (s.dev.queue? q = some x) ∧
    (s.dev.stream? q = some st) ∧
    (st.tx = true) ∧
    (st.arming = true) ∧
    (st.armed = false) ∧
    (st.limit = 0) ∧
    (st.slots = i :: rest) ∧
    (st.playing = []) ∧
    (st.play = []) ∧
    (st.fetch = some (st.next, 0, x.record)) ∧
    (64 ≤ x.record) ∧
    (x.record % 64 = 0) ∧
    (x.record ≤ 65536 * lanesOf (s.dev.dcfg st.src) st.src) ∧
    ((∀ l, l ∈ s.dev.lanes st.src → keyOpen s.dev l (playKey q) = false)) ∧
    (bs.length = x.record) ∧
    ((∀ b, b < x.record / 64 →
       blockAnswer (keyAnswers s.dev (st.src + b % max 1 (lanesOf (s.dev.dcfg st.src) st.src)) (playKey q))
         (x.slotAddr i + 64 * b) = (0, (bs.slice (64 * b) 64).map some))) :=
  ⟨7, 15, tb [], { tsq with kparam := tb [(0, 0), (1, 1), (5, 16), (8, 64)] }, { src := 0, tx := true, arming := true, slots := [15], fetch := some (0, 0, 64) }, [], ⟨{ liveDev with store := { active := [(0x2A40 * 256 + 3, [byte 1])] }, nis := [(0, { answers := [{ req := { dest := 56, src := 0, ty := 0, cls := 2, part := 0, addr := 0x4001F000, size := 64, code := 11 }, status := 0, data := tb [] }] })], conv := { stream := [(7, { src := 0, tx := true, arming := true, slots := [15], fetch := some (0, 0, 64) })] }, queues := { q := [(7, { tsq with kparam := tb [(0, 0), (1, 1), (5, 16), (8, 64)] })] } }, []⟩, by decide⟩

/-- The premises of clause 3 of PlaybackAndTrace are met. -/
theorem witness_playbackAndTrace_3 : ∃ (k q : Nat) (at_ : Int) (x : Queue) (st : Stream) (r : Rec) (rest : List Rec) (s : State),
    ((Instr.txFrameDue k at_ .none).wellFormed = true) ∧
    (s.Ready) ∧
    ((s.dev.link k).tx = 5) ∧
    (linkRuns s.dev k = true) ∧
    (s.dev.faults.inj.state ≠ 1) ∧
    (armedStream s.dev k true = some q) ∧
    (s.dev.queue? q = some x) ∧
    (s.dev.stream? q = some st) ∧
    (st.armed = true) ∧
    (startsAt st (at_ + adjustOf s.dev k 0x10) = true) ∧
    (st.playing = r :: rest) ∧
    (frameBytes (s.dev.dcfg k) k ≤ st.play.length) ∧
    (r.done + frameBytes (s.dev.dcfg k) k ≤ r.got) ∧
    (r.done + frameBytes (s.dev.dcfg k) k < x.record) :=
  ⟨0, 7, 3, { tsq with kparam := tb [(0, 0), (1, 1), (5, 16), (8, 64)] }, { src := 0, tx := true, armed := true, playing := [{ no := 0, slot := some 0, got := 64 }], play := [some (byte 1), some (byte 2), some (byte 3)] }, { no := 0, slot := some 0, got := 64 }, [], ⟨{ liveDev with store := { active := [(0x2A40 * 256 + 5, [byte 1]), (0x2A40 * 256 + 6, [byte 1]), (0x2A40 * 256 + 7, [byte 16])] }, conv := { link := [(0, { tx := 5 })], stream := [(7, { src := 0, tx := true, armed := true, playing := [{ no := 0, slot := some 0, got := 64 }], play := [some (byte 1), some (byte 2), some (byte 3)] })] }, queues := { q := [(7, { tsq with kparam := tb [(0, 0), (1, 1), (5, 16), (8, 64)] })] } }, []⟩, by decide⟩

/-- The premises of clause 4 of PlaybackAndTrace are met. -/
theorem witness_playbackAndTrace_4 : ∃ (f q n : Nat) (x : Queue) (st : Stream) (r : Rec) (s : State),
    ((Instr.traceDrainPoll f).wellFormed = true) ∧
    (s.Ready) ∧
    (traceStream s.dev f = some q) ∧
    (s.dev.queue? q = some x) ∧
    (s.dev.stream? q = some st) ∧
    (unitAdmits s.dev (seNi (seOf q)) x.part = true) ∧
    (st.cur = some r) ∧
    (min (s.dev.fifo f).recs.length ((x.record - r.done) / 32) = n) ∧
    (0 < n) ∧
    (r.done + 32 * n < x.record) :=
  ⟨3, 7, 1, { tsq with kparam := tb [(0, 0x80), (5, 16), (8, 64)] }, { src := 0x80, tx := false, armed := true, fifo := 3, cur := some { no := 0, slot := some 1 } }, { no := 0, slot := some 1 }, ⟨{ liveDev with probes := { fifo := [(3, { recs := [List.replicate 32 (byte 9)] })] }, conv := { stream := [(7, { src := 0x80, tx := false, armed := true, fifo := 3, cur := some { no := 0, slot := some 1 } })] }, queues := { q := [(7, { tsq with kparam := tb [(0, 0x80), (5, 16), (8, 64)] })] } }, []⟩, by decide⟩

/-- The premises of clause 1 of EthernetFrames are met. -/
theorem witness_ethernetFrames_1 : ∃ (p corr : Nat) (at_ : Int) (frame : Bytes) (s : State),
    ((Instr.frameReceive p frame false at_ corr 0).wellFormed = true) ∧
    (s.Ready) ∧
    ((s.dev.eport p).link = 2) ∧
    (s.dev.unitUp (epNi p) = true) ∧
    (s.dev.faults.inj.state ≠ 1) :=
  ⟨3, 0, 0, List.replicate 60 (byte 0), ⟨{ liveDev with eth := { port := [(3, { link := 2 })] } }, []⟩, by decide⟩

/-- The premises of clause 2 of EthernetFrames are met. -/
theorem witness_ethernetFrames_2 : ∃ (p corr : Nat) (at_ : Int) (frame : Bytes) (s : State),
    ((Instr.frameReceive p frame true at_ corr 0).wellFormed = true) ∧
    (s.Ready) ∧
    ((s.dev.eport p).link = 2) ∧
    (s.dev.unitUp (epNi p) = true) ∧
    (s.dev.faults.inj.state ≠ 1) ∧
    (60 ≤ frame.length) ∧
    (filtered s.dev p (parseFrame frame) = false) ∧
    (noRoom s.dev p frame = false) ∧
    ((parseFrame frame).ety = 0x88F7) :=
  ⟨0, 3, (-5), (List.replicate 12 (byte 0) ++ [byte 0x88, byte 0xF7] ++ List.replicate 46 (byte 0)), ⟨{ liveDev with eth := { port := [(0, { link := 2 })] } }, []⟩, by decide⟩

/-- The premises of clause 3 of EthernetFrames are met. -/
theorem witness_ethernetFrames_3 : ∃ (p prio : Nat) (s : State),
    ((Instr.pfcPauseExpiry p prio).wellFormed = true) ∧
    (s.Ready) :=
  ⟨0, 7, ⟨{ liveDev with eth := { port := [(0, { link := 2, paused := [(7, 65535)] })] } }, []⟩, by decide⟩

/-- The premises of clause 4 of EthernetFrames are met. -/
theorem witness_ethernetFrames_4 : ∃ (p : Nat) (at_ : Int) (frame : Bytes) (s : State),
    ((Instr.ptpTransmit p frame false at_).wellFormed = true) ∧
    (s.Ready) ∧
    ((s.dev.eport p).link = 2) ∧
    (s.dev.unitUp (epNi p) = true) ∧
    (paused s.dev p (framePrio frame) = false) ∧
    ((parseFrame frame).ety = 0x88F7) ∧
    ((ptpOffset frame).1 + 44 ≤ frame.length) ∧
    (be frame (ptpOffset frame).1 1 % 16 ≤ 3) ∧
    ((s.dev.eport p).fifo.length < 64) :=
  ⟨3, 0, (List.replicate 12 (byte 0) ++ [byte 0x88, byte 0xF7, byte 0x13] ++ List.replicate 46 (byte 0)), ⟨{ liveDev with eth := { port := [(3, { link := 2 })] } }, []⟩, by decide⟩

/-- The premises of clause 1 of QueuePairs are met. -/
theorem witness_queuePairs_1 : ∃ (q : Nat) (x : Queue) (pre : List Cmd) (k : Cmd) (post : List Cmd) (s : State),
    ((Instr.qpModify q).wellFormed = true) ∧
    (s.Ready) ∧
    (s.dev.queue? q = some x) ∧
    (RunsAt s.dev q 0x10 pre k post) ∧
    (x.kind = 3) ∧
    (portFenced s.dev x.port x.part = false) ∧
    ((s.dev.qp x.qpNo).state = 0) ∧
    (k.bytes.le 8 1 = 1) ∧
    (qpModifyFault 0 k.bytes = none) :=
  ⟨5, tnq, [], { tcmd with bytes := tb [(0, 16), (8, 1), (9, 5), (10, 31), (11, 0x77), (20, 255), (24, 1)] }, [], ⟨{ liveDev with queues := { q := [(5, tnq)], se := [(0, { cmds := [{ tcmd with bytes := tb [(0, 16), (8, 1), (9, 5), (10, 31), (11, 0x77), (20, 255), (24, 1)] }] })] } }, []⟩, by decide⟩

/-- The premises of clause 2 of QueuePairs are met. -/
theorem witness_queuePairs_2 : ∃ (q : Nat) (x : Queue) (pre : List Cmd) (k : Cmd) (post : List Cmd) (s : State),
    ((Instr.send q).wellFormed = true) ∧
    (s.Ready) ∧
    (s.dev.queue? q = some x) ∧
    (RunsAt s.dev q 1 pre k post) ∧
    (x.kind = 3) ∧
    (portFenced s.dev x.port x.part = false) ∧
    (netFault 1 k.bytes = none) ∧
    (spanFault s.dev.fcfg x.part k.a (k.bytes.le 16 4) = 0) ∧
    (bitOf (k.bytes.le 1 1) 0 = false) ∧
    (readState s.dev (epNi x.port) (queueKey q k.index 2) (reads64 k.a (k.bytes.le 16 4)) = .idle) ∧
    ((s.dev.qp x.qpNo).state = 1) ∧
    (oldestRunning s.dev q k = true) ∧
    (paused s.dev x.port (s.dev.qp x.qpNo).prio = false) :=
  ⟨5, tnq, [], { tcmd with bytes := tb [(0, 1), (11, 0x40), (16, 100)] }, [], ⟨{ liveDev with eth := { port := [(1, { link := 2 })], qp := [(0xFFF, { state := 1, attrs := [byte 1], sqPsn := 0xFFFFFF })] }, queues := { q := [(5, tnq)], se := [(0, { cmds := [{ tcmd with bytes := tb [(0, 1), (11, 0x40), (16, 100)] }] })] } }, []⟩, by decide⟩

/-- The premises of clause 3 of QueuePairs are met. -/
theorem witness_queuePairs_3 : ∃ (q : Nat) (data : Bytes) (x : Queue) (pre : List Cmd) (k : Cmd) (post : List Cmd) (s : State),
    ((Instr.send q).wellFormed = true) ∧
    (s.Ready) ∧
    (s.dev.queue? q = some x) ∧
    (RunsAt s.dev q 1 pre k post) ∧
    (x.kind = 3) ∧
    (portFenced s.dev x.port x.part = false) ∧
    (netFault 1 k.bytes = none) ∧
    (k.bytes.le 16 4 = 0 ∨ spanFault s.dev.fcfg x.part k.a (k.bytes.le 16 4) = 0) ∧
    ((if bitOf (k.bytes.le 1 1) 0 then data = k.bytes.slice 36 (k.bytes.le 2 2) else
       readState s.dev (epNi x.port) (queueKey q k.index 2) (reads64 k.a (k.bytes.le 16 4)) = .done 0 data)) ∧
    ((s.dev.qp x.qpNo).state = 1) ∧
    (oldestRunning s.dev q k = true) ∧
    (paused s.dev x.port (s.dev.qp x.qpNo).prio = false) ∧
    ((s.dev.eport x.port).link = 2) ∧
    (packetCount data.length (s.dev.qp x.qpNo).mtu = 1) ∧
    (data.length ≤ (s.dev.qp x.qpNo).mtu) :=
  ⟨5, [byte 9, byte 0, byte 7], tnq, [], { tcmd with bytes := tb [(0, 1), (1, 1), (2, 3), (36, 9), (38, 7)] }, [], ⟨{ liveDev with eth := { port := [(1, { link := 2 })], qp := [(0xFFF, { state := 1, attrs := [byte 1], sqPsn := 0xFFFFFF })] }, queues := { q := [(5, tnq)], se := [(0, { cmds := [{ tcmd with bytes := tb [(0, 1), (1, 1), (2, 3), (36, 9), (38, 7)] }] })] } }, []⟩, by decide⟩

/-- The premises of clause 4 of QueuePairs are met. -/
theorem witness_queuePairs_4 : ∃ (q : Nat) (data : Bytes) (x : Queue) (pre : List Cmd) (k : Cmd) (post : List Cmd) (s : State),
    ((Instr.rdmaWrite q).wellFormed = true) ∧
    (s.Ready) ∧
    (s.dev.queue? q = some x) ∧
    (RunsAt s.dev q 2 pre k post) ∧
    (x.kind = 3) ∧
    (portFenced s.dev x.port x.part = false) ∧
    (netFault 2 k.bytes = none) ∧
    (k.bytes.le 16 4 = 0 ∨ spanFault s.dev.fcfg x.part k.a (k.bytes.le 16 4) = 0) ∧
    ((if bitOf (k.bytes.le 1 1) 0 then data = k.bytes.slice 36 (k.bytes.le 2 2) else
       readState s.dev (epNi x.port) (queueKey q k.index 2) (reads64 k.a (k.bytes.le 16 4)) = .done 0 data)) ∧
    ((s.dev.qp x.qpNo).state = 1) ∧
    (oldestRunning s.dev q k = true) ∧
    (paused s.dev x.port (s.dev.qp x.qpNo).prio = false) ∧
    ((s.dev.eport x.port).link = 2) ∧
    (packetCount data.length (s.dev.qp x.qpNo).mtu = 1) ∧
    (data.length ≤ (s.dev.qp x.qpNo).mtu) :=
  ⟨5, [byte 9, byte 0, byte 7], tnq, [], { tcmd with bytes := tb [(0, 2), (1, 1), (2, 3), (24, 5), (32, 6), (36, 9), (38, 7)] }, [], ⟨{ liveDev with eth := { port := [(1, { link := 2 })], qp := [(0xFFF, { state := 1, attrs := [byte 1], sqPsn := 0xFFFFFF })] }, queues := { q := [(5, tnq)], se := [(0, { cmds := [{ tcmd with bytes := tb [(0, 2), (1, 1), (2, 3), (24, 5), (32, 6), (36, 9), (38, 7)] }] })] } }, []⟩, by decide⟩

/-- The premises of clause 5 of QueuePairs are met. -/
theorem witness_queuePairs_5 : ∃ (q : Nat) (data : Bytes) (x : Queue) (pre : List Cmd) (k : Cmd) (post : List Cmd) (s : State),
    ((Instr.rdmaWriteImm q).wellFormed = true) ∧
    (s.Ready) ∧
    (s.dev.queue? q = some x) ∧
    (RunsAt s.dev q 3 pre k post) ∧
    (x.kind = 3) ∧
    (portFenced s.dev x.port x.part = false) ∧
    (netFault 3 k.bytes = none) ∧
    (k.bytes.le 16 4 = 0 ∨ spanFault s.dev.fcfg x.part k.a (k.bytes.le 16 4) = 0) ∧
    ((if bitOf (k.bytes.le 1 1) 0 then data = k.bytes.slice 36 (k.bytes.le 2 2) else
       readState s.dev (epNi x.port) (queueKey q k.index 2) (reads64 k.a (k.bytes.le 16 4)) = .done 0 data)) ∧
    ((s.dev.qp x.qpNo).state = 1) ∧
    (oldestRunning s.dev q k = true) ∧
    (paused s.dev x.port (s.dev.qp x.qpNo).prio = false) ∧
    ((s.dev.eport x.port).link = 2) ∧
    (packetCount data.length (s.dev.qp x.qpNo).mtu = 1) ∧
    (data.length ≤ (s.dev.qp x.qpNo).mtu) :=
  ⟨5, [byte 9, byte 0, byte 7], tnq, [], { tcmd with bytes := tb [(0, 3), (1, 1), (2, 3), (20, 8), (24, 5), (32, 6), (36, 9), (38, 7)] }, [], ⟨{ liveDev with eth := { port := [(1, { link := 2 })], qp := [(0xFFF, { state := 1, attrs := [byte 1], sqPsn := 0xFFFFFF })] }, queues := { q := [(5, tnq)], se := [(0, { cmds := [{ tcmd with bytes := tb [(0, 3), (1, 1), (2, 3), (20, 8), (24, 5), (32, 6), (36, 9), (38, 7)] }] })] } }, []⟩, by decide⟩

/-- The premises of clause 6 of QueuePairs are met. -/
theorem witness_queuePairs_6 : ∃ (q : Nat) (x : Queue) (pre : List Cmd) (k : Cmd) (post : List Cmd) (s : State),
    ((Instr.rawSend q).wellFormed = true) ∧
    (s.Ready) ∧
    (s.dev.queue? q = some x) ∧
    (RunsAt s.dev q 4 pre k post) ∧
    (x.kind = 3) ∧
    (portFenced s.dev x.port x.part = false) ∧
    (netFault 4 k.bytes = none) ∧
    (spanFault s.dev.fcfg x.part k.a (k.bytes.le 16 4) = 0) :=
  ⟨5, { tnq with kparam := tb [(2, 2), (3, 1)] }, [], { tcmd with bytes := tb [(0, 4), (11, 0x40), (17, 1)] }, [], ⟨{ liveDev with queues := { q := [(5, { tnq with kparam := tb [(2, 2), (3, 1)] })], se := [(0, { cmds := [{ tcmd with bytes := tb [(0, 4), (11, 0x40), (17, 1)] }] })] } }, []⟩, by decide⟩

/-- The premises of clause 7 of QueuePairs are met. -/
theorem witness_queuePairs_7 : ∃ (q : Nat) (x : Queue) (pre : List Cmd) (k : Cmd) (post : List Cmd) (s : State),
    ((Instr.recv q).wellFormed = true) ∧
    (s.Ready) ∧
    (s.dev.queue? q = some x) ∧
    (RunsAt s.dev q 32 pre k post) ∧
    (x.kind = 3) ∧
    (portFenced s.dev x.port x.part = false) ∧
    (netFault 32 k.bytes = none) ∧
    (spanFault s.dev.fcfg x.part k.a (k.bytes.le 16 4) = 0) ∧
    (¬ (x.role = 1 ∧ (s.dev.qp x.qpNo).state = 2)) :=
  ⟨5, { tnq with kparam := tb [(2, 1), (3, 1)] }, [], { tcmd with bytes := tb [(0, 0x20), (11, 0x40), (17, 1)] }, [], ⟨{ liveDev with queues := { q := [(5, { tnq with kparam := tb [(2, 1), (3, 1)] })], se := [(0, { cmds := [{ tcmd with bytes := tb [(0, 0x20), (11, 0x40), (17, 1)] }] })] } }, []⟩, by decide⟩

/-- The premises of clause 8 of QueuePairs are met. -/
theorem witness_queuePairs_8 : ∃ (q n : Nat) (bs : Bytes) (x : Queue) (r : RawSend) (pre : List Cmd) (k : Cmd) (post : List Cmd) (s : State),
    ((Instr.rawDatagramSend q).wellFormed = true) ∧
    (s.Ready) ∧
    (s.dev.queue? q = some x) ∧
    ((s.dev.eng (seOf q)).cmds = pre ++ k :: post) ∧
    (k.q = q) ∧
    (k.st = .waiting) ∧
    (k.bytes.le 0 1 = 4) ∧
    ((∀ j, j ∈ pre → j.q ≠ q)) ∧
    (portFenced s.dev x.port x.part = false) ∧
    ((s.dev.eport x.port).link = 2) ∧
    ((s.dev.eport x.port).paused = []) ∧
    (s.dev.eth.raw.get {} q = r) ∧
    (k.bytes.le 16 4 - r.off = n) ∧
    (0 < n) ∧
    (n ≤ (s.dev.shadow (5 + x.port)).nat (0x2B20 + x.sel) 4) ∧
    (readState s.dev (epNi x.port) (queueKey q k.index 2) (reads64 (k.a + r.off) n) = .done 0 bs) :=
  ⟨5, 1, [byte 77], { tnq with kparam := tb [(2, 2), (3, 1), (4, 63)] }, { seqNo := 0xFFFFFFFF, off := 255 }, [], { tcmd with st := .waiting, bytes := tb [(0, 4), (11, 0x40), (17, 1)] }, [], ⟨{ liveDev with nis := [(45, { answers := [{ req := { dest := 56, src := 45, ty := 0, cls := 0, part := 0, addr := 0x400000FF, size := 1, code := 4 + 4 * 327680 + 2 }, status := 0, data := [byte 77] }] })], doms := [(6, { shadow := [((0x2B20 + 63) * 256 + 1, List.replicate 42 (byte 0)), ((0x2B20 + 63) * 256 + 4, [byte 8])] })], eth := { port := [(1, { link := 2 })], raw := [(5, { seqNo := 0xFFFFFFFF, off := 255 })] }, queues := { q := [(5, { tnq with kparam := tb [(2, 2), (3, 1), (4, 63)] })], se := [(0, { cmds := [{ tcmd with st := .waiting, bytes := tb [(0, 4), (11, 0x40), (17, 1)] }] })] } }, []⟩, by decide⟩

/-- The premises of clause 1 of RocePackets are met. -/
theorem witness_rocePackets_1 : ∃ (p n sq rq : Nat) (x y : Queue) (k : Cmd) (b : Bytes) (s : State),
    ((Instr.rocePacketReceive p true .none .none).wellFormed = true) ∧
    (s.Ready) ∧
    (frontRoce s.dev p = some (4, n, (s.dev.qp n).rqPsn, b)) ∧
    (qpQueue s.dev n 0 = some (sq, x)) ∧
    (qpQueue s.dev n 1 = some (rq, y)) ∧
    (x.port = p) ∧
    (portFenced s.dev p x.part = false) ∧
    ((s.dev.qp n).state = 1) ∧
    ((s.dev.eport p).link = 2) ∧
    (s.dev.portObj p 7 = 0) ∧
    (paused s.dev p (s.dev.qp n).prio = false) ∧
    (runningCmd s.dev sq 0x10 = none) ∧
    (nextRecv s.dev rq = some k) ∧
    (b.length ≤ k.bytes.le 16 4) :=
  ⟨1, 0xFFF, 5, 7, tnq, { tnq with kparam := tb [(0, 255), (1, 15), (2, 1), (3, 1)] }, { tcmd with q := 7, st := .waiting, bytes := tb [(0, 0x20), (11, 0x40), (16, 3)] }, [byte 1, byte 2, byte 3], ⟨{ liveDev with doms := [(6, { shadow := [(0x2B01 * 256 + 7, [byte 0])] })], eth := { port := [(1, { link := 2, buf := [troce 4 0xFFFFFF [byte 1, byte 2, byte 3]] })], qp := [(0xFFF, { state := 1, rqPsn := 0xFFFFFF })] }, queues := { q := [(5, tnq), (7, { tnq with kparam := tb [(0, 255), (1, 15), (2, 1), (3, 1)] })], se := [(0, { cmds := [{ tcmd with q := 7, st := .waiting, bytes := tb [(0, 0x20), (11, 0x40), (16, 3)] }] })] } }, []⟩, by set_option maxRecDepth 4000 in decide⟩

/-- The premises of clause 2 of RocePackets are met. -/
theorem witness_rocePackets_2 : ∃ (p n q psn : Nat) (x : Queue) (m : OutMsg) (b : Bytes) (pre : List Cmd) (k : Cmd) (post : List Cmd) (s : State),
    ((Instr.ackReceive p true .none .none).wellFormed = true) ∧
    (s.Ready) ∧
    (frontRoce s.dev p = some (0x11, n, psn, b)) ∧
    (be b 0 1 / 32 = 0) ∧
    (qpQueue s.dev n 0 = some (q, x)) ∧
    (x.port = p) ∧
    (portFenced s.dev p x.part = false) ∧
    ((s.dev.qp n).state = 1) ∧
    (s.dev.portObj p 7 = 0) ∧
    (runningCmd s.dev q 0x10 = none) ∧
    ((s.dev.qp n).msgs = [m]) ∧
    (psnAfter psn m.last = true) ∧
    ((s.dev.eng (seOf q)).cmds = pre ++ k :: post) ∧
    (k.q = q) ∧
    (k.index = m.index) ∧
    (k.st = .waiting) ∧
    ((∀ j, j ∈ pre → j.q ≠ q)) :=
  ⟨1, 0xFFF, 5, 7, tnq, { index := 0, first := 7, last := 7, op := 1, data := [byte 1], va := 0, rkey := 0, imm := 0 }, [byte 0x1F, byte 0, byte 0, byte 0], [], { tcmd with st := .waiting, bytes := tb [(0, 1)] }, [], ⟨{ liveDev with doms := [(6, { shadow := [(0x2B01 * 256 + 7, [byte 0])] })], eth := { port := [(1, { link := 2, buf := [troce 0x11 7 [byte 0x1F, byte 0, byte 0, byte 0]] })], qp := [(0xFFF, { state := 1, msgs := [{ index := 0, first := 7, last := 7, op := 1, data := [byte 1], va := 0, rkey := 0, imm := 0 }] })] }, queues := { q := [(5, tnq)], se := [(0, { cmds := [{ tcmd with st := .waiting, bytes := tb [(0, 1)] }] })] } }, []⟩, by set_option maxRecDepth 4000 in decide⟩

/-- The premises of clause 3 of RocePackets are met. -/
theorem witness_rocePackets_3 : ∃ (n p : Nat) (m : OutMsg) (s : State),
    ((Instr.retransmitTimeout n).wellFormed = true) ∧
    (s.Ready) ∧
    (readyPort s.dev n = some p) ∧
    ((s.dev.eport p).link = 2) ∧
    (paused s.dev p (s.dev.qp n).prio = false) ∧
    ((s.dev.qp n).msgs = [m]) ∧
    (m.last = m.first) ∧
    (m.first < 2 ^ 24) ∧
    (m.op = 1) ∧
    (packetCount m.data.length (s.dev.qp n).mtu = 1) ∧
    (m.data.length ≤ (s.dev.qp n).mtu) ∧
    ((s.dev.qp n).rnrAt = none) ∧
    ((s.dev.qp n).retries ≠ 0) :=
  ⟨0xFFF, 1, { index := 0, first := 7, last := 7, op := 1, data := [byte 1], va := 0, rkey := 0, imm := 0 }, ⟨{ liveDev with eth := { port := [(1, { link := 2 })], qp := [(0xFFF, { state := 1, attrs := [byte 5], retries := 1, msgs := [{ index := 0, first := 7, last := 7, op := 1, data := [byte 1], va := 0, rkey := 0, imm := 0 }] })] }, queues := { q := [(5, tnq)] } }, []⟩, by decide⟩

/-- The premises of clause 4 of RocePackets are met. -/
theorem witness_rocePackets_4 : ∃ (n p : Nat) (m : OutMsg) (s : State),
    ((Instr.rnrRetryDelay n).wellFormed = true) ∧
    (s.Ready) ∧
    (readyPort s.dev n = some p) ∧
    ((s.dev.eport p).link = 2) ∧
    (paused s.dev p (s.dev.qp n).prio = false) ∧
    ((s.dev.qp n).msgs = [m]) ∧
    (m.last = m.first) ∧
    (m.first < 2 ^ 24) ∧
    (m.op = 1) ∧
    (packetCount m.data.length (s.dev.qp n).mtu = 1) ∧
    (m.data.length ≤ (s.dev.qp n).mtu) ∧
    ((s.dev.qp n).rnrAt = some m.first) ∧
    ((s.dev.qp n).attr 11 / 16 % 8 ≠ 7) ∧
    ((s.dev.qp n).rnrs ≠ 0) :=
  ⟨0xFFF, 1, { index := 0, first := 7, last := 7, op := 1, data := [byte 1], va := 0, rkey := 0, imm := 0 }, ⟨{ liveDev with eth := { port := [(1, { link := 2 })], qp := [(0xFFF, { state := 1, attrs := [byte 5], rnrs := 1, rnrAt := some 7, msgs := [{ index := 0, first := 7, last := 7, op := 1, data := [byte 1], va := 0, rkey := 0, imm := 0 }] })] }, queues := { q := [(5, tnq)] } }, []⟩, by decide⟩

/-- The premises of clause 5 of RocePackets are met. -/
theorem witness_rocePackets_5 : ∃ (n p : Nat) (s : State),
    ((Instr.ackTimer n).wellFormed = true) ∧
    (s.Ready) ∧
    (readyPort s.dev n = some p) ∧
    ((s.dev.eport p).link = 2) ∧
    (paused s.dev p (s.dev.qp n).prio = false) ∧
    (0 < (s.dev.qp n).unacked) :=
  ⟨0xFFF, 1, ⟨{ liveDev with eth := { port := [(1, { link := 2 })], qp := [(0xFFF, { state := 1, unacked := 15 })] }, queues := { q := [(5, tnq)] } }, []⟩, by decide⟩

/-- The premises of clause 1 of OperatorDescriptors are met. -/
theorem witness_operatorDescriptors_1 : ∃ (q : Nat) (x : Queue) (pre : List Cmd) (k : Cmd) (post : List Cmd) (s : State),
    ((Instr.opExec q).wellFormed = true) ∧
    (s.Ready) ∧
    (s.dev.queue? q = some x) ∧
    (RunsAt s.dev q 0xB pre k post) ∧
    (bitOf (k.bytes.le 1 1) 0 = true) ∧
    (k.bytes.le 2 2 = 96) ∧
    (fieldFault 0xB k.index k.bytes = none) ∧
    (descFault k.desc = none) ∧
    (descAccess s.dev (x.kparam.le 0 1) x.part k.desc = 0) :=
  ⟨5, toq, [], { tcmd with bytes := tb32 11 (td [(0, 6), (1, 2), (2, 2), (3, 0), (4, 2), (8, 1), (12, 0), (13, 0), (14, 128), (15, 63), (19, 0x40), (25, 1), (27, 0x40)]) }, [], ⟨{ liveDev with doms := [(1, { shadow := [(0x2C17 * 256 + 1, [byte 1])] })], queues := { q := [(5, toq)], se := [(0, { cmds := [{ tcmd with bytes := tb32 11 (td [(0, 6), (1, 2), (2, 2), (3, 0), (4, 2), (8, 1), (12, 0), (13, 0), (14, 128), (15, 63), (19, 0x40), (25, 1), (27, 0x40)]) }] })] } }, []⟩, by set_option maxRecDepth 8000 in decide⟩

/-- The premises of clause 2 of OperatorDescriptors are met. -/
theorem witness_operatorDescriptors_2 : ∃ (q n : Nat) (x : Queue) (pre : List Cmd) (k : Cmd) (post : List Cmd) (s : State),
    ((Instr.descriptorDelivery q).wellFormed = true) ∧
    (s.Ready) ∧
    (s.dev.queue? q = some x) ∧
    ((s.dev.eng (seOf q)).cmds = pre ++ k :: post) ∧
    (k.q = q) ∧
    (k.st = .waiting) ∧
    (k.delivered = false) ∧
    (k.bytes.le 0 1 = 0xB) ∧
    ((∀ j, j ∈ pre → j.q ≠ q)) ∧
    (x.kparam.le 0 1 = n) ∧
    (deliveredCount s.dev (seOf q) n x.part < 4) ∧
    (deliveryAnswered s.dev q = none) ∧
    (s.dev.unitUp (seNi (seOf q)) = true) ∧
    (s.dev.fenceBit x.part = false) :=
  ⟨5, 7, toq, [], { tcmd with st := .waiting, bytes := tb32 11 (td [(0, 6), (1, 2), (2, 2), (3, 0), (4, 2), (8, 1), (12, 0), (13, 0), (14, 128), (15, 63), (19, 0x40), (25, 1), (27, 0x40)]) }, [], ⟨{ liveDev with queues := { q := [(5, toq)], se := [(0, { cmds := [{ tcmd with st := .waiting, bytes := tb32 11 (td [(0, 6), (1, 2), (2, 2), (3, 0), (4, 2), (8, 1), (12, 0), (13, 0), (14, 128), (15, 63), (19, 0x40), (25, 1), (27, 0x40)]) }] })] } }, []⟩, by set_option maxRecDepth 8000 in decide⟩

/-- The premises of clause 3 of OperatorDescriptors are met. -/
theorem witness_operatorDescriptors_3 : ∃ (n cycles : Nat) (r : Ran) (s : State),
    ((Instr.descriptorEnd n cycles).wellFormed = true) ∧
    (s.Ready) ∧
    ((s.dev.op n).run = some r) ∧
    (r.ended = true) ∧
    (r.status ≠ 0x0F) ∧
    ((s.dev.ni (opNi n)).atUnit = []) ∧
    ((s.dev.ni (opNi n)).wcb = []) ∧
    ((s.dev.ni (opNi n)).out = []) :=
  ⟨0, 9, { job := { q := 5, index := 0, part := 0, desc := td [(0, 6), (1, 2), (2, 2), (3, 0), (4, 2), (8, 1), (12, 0), (13, 0), (14, 128), (15, 63), (19, 0x40), (25, 1), (27, 0x40)] }, result := 3 }, ⟨{ liveDev with ops := [(0, { run := some { job := { q := 5, index := 0, part := 0, desc := td [(0, 6), (1, 2), (2, 2), (3, 0), (4, 2), (8, 1), (12, 0), (13, 0), (14, 128), (15, 63), (19, 0x40), (25, 1), (27, 0x40)] }, result := 3 } })] }, []⟩, by decide⟩

/-- The premises of clause 4 of OperatorDescriptors are met. -/
theorem witness_operatorDescriptors_4 : ∃ (n cycles : Nat) (r : Ran) (s : State),
    ((Instr.descriptorTimeLimit n cycles).wellFormed = true) ∧
    (s.Ready) ∧
    ((s.dev.op n).run = some r) ∧
    (s.dev.faults.inj.state ≠ 1) :=
  ⟨7, 9, { job := { q := 5, index := 0, part := 0, desc := td [(0, 6), (1, 2), (2, 2), (3, 0), (4, 2), (8, 1), (12, 0), (13, 0), (14, 128), (15, 63), (19, 0x40), (25, 1), (27, 0x40)] }, result := 3 }, ⟨{ liveDev with ops := [(7, { run := some { job := { q := 5, index := 0, part := 0, desc := td [(0, 6), (1, 2), (2, 2), (3, 0), (4, 2), (8, 1), (12, 0), (13, 0), (14, 128), (15, 63), (19, 0x40), (25, 1), (27, 0x40)] }, result := 3 } })] }, []⟩, by decide⟩

/-- The premises of clause 1 of OperatorRuns are met. -/
theorem witness_operatorRuns_1 : ∃ (n : Nat) (c : Nat × Instr) (j : Job) (s : State),
    (c ∈ [(1, .opFft n .none), (2, .opFir n .none), (3, .opDecimate n .none), (4, .opAverage n .none),
       (5, .opThreshold n .none []), (6, .opConvert n .none), (7, .opChecksum n .none)]) ∧
    (c.2.wellFormed = true) ∧
    (s.Ready) ∧
    ((s.dev.op n).run = none) ∧
    (selectJob (s.dev.op n) = some j) ∧
    (dOper j.desc = c.1) ∧
    (s.dev.unitUp (opNi n) = true) :=
  ⟨7, (6, .opConvert 7 .none), { q := 5, index := 0, part := 0, desc := td [(0, 6), (1, 2), (2, 2), (3, 0), (4, 2), (8, 1), (12, 0), (13, 0), (14, 128), (15, 63), (19, 0x40), (25, 1), (27, 0x40)] }, ⟨{ liveDev with ops := [(7, { store := [{ q := 5, index := 0, part := 0, desc := td [(0, 6), (1, 2), (2, 2), (3, 0), (4, 2), (8, 1), (12, 0), (13, 0), (14, 128), (15, 63), (19, 0x40), (25, 1), (27, 0x40)] }] })] }, []⟩, by set_option maxRecDepth 8000 in decide⟩

/-- The premises of clause 2 of OperatorRuns are met. -/
theorem witness_operatorRuns_2 : ∃ (n : Nat) (raw tab : Bytes) (o : Bytes × Nat) (j : Job) (s : State),
    ((Instr.opFft n .none).wellFormed = true) ∧
    (s.Ready) ∧
    ((s.dev.op n).run = some { job := j, ended := false }) ∧
    (dOper j.desc = 1) ∧
    (s.dev.unitUp (opNi n) = true) ∧
    (keyOpen s.dev (opNi n) opKey = false) ∧
    (dBatch j.desc = 1) ∧
    (answered (keyAnswers s.dev (opNi n) opKey) (inRecord j.desc 0) = (0, raw)) ∧
    (readTable j.desc (keyAnswers s.dev (opNi n) opKey) = (0, tab)) ∧
    (o = writeVals (dOfmt j.desc) (dSat j.desc) (fftRecord j.desc tab raw)) :=
  ⟨7, [byte 0, byte 0], [], (writeVals (dOfmt (td [(0, 1), (1, 2), (2, 7), (3, 0), (4, 1), (8, 1), (12, 0), (13, 0), (14, 128), (15, 63), (19, 0x40), (25, 1), (27, 0x40), (48, 6), (51, 1)])) (dSat (td [(0, 1), (1, 2), (2, 7), (3, 0), (4, 1), (8, 1), (12, 0), (13, 0), (14, 128), (15, 63), (19, 0x40), (25, 1), (27, 0x40), (48, 6), (51, 1)])) (fftRecord (td [(0, 1), (1, 2), (2, 7), (3, 0), (4, 1), (8, 1), (12, 0), (13, 0), (14, 128), (15, 63), (19, 0x40), (25, 1), (27, 0x40), (48, 6), (51, 1)]) [] [byte 0, byte 0])), { q := 5, index := 0, part := 0, desc := td [(0, 1), (1, 2), (2, 7), (3, 0), (4, 1), (8, 1), (12, 0), (13, 0), (14, 128), (15, 63), (19, 0x40), (25, 1), (27, 0x40), (48, 6), (51, 1)] }, ⟨{ liveDev with nis := [(39, { answers := [{ req := { dest := 56, src := 39, ty := 0, cls := 0, part := 0, addr := 0x40000000, size := 2, code := 4 }, status := 0, data := [byte 0, byte 0] }] })], ops := [(7, { run := some { job := { q := 5, index := 0, part := 0, desc := td [(0, 1), (1, 2), (2, 7), (3, 0), (4, 1), (8, 1), (12, 0), (13, 0), (14, 128), (15, 63), (19, 0x40), (25, 1), (27, 0x40), (48, 6), (51, 1)] }, ended := false } })] }, []⟩, by set_option maxRecDepth 8000 in decide, by set_option maxRecDepth 8000 in decide, by set_option maxRecDepth 8000 in decide, by set_option maxRecDepth 8000 in decide, by set_option maxRecDepth 8000 in decide, by set_option maxRecDepth 8000 in decide, by set_option maxRecDepth 8000 in decide, by set_option maxRecDepth 8000 in decide, by set_option maxRecDepth 8000 in decide, rfl⟩

/-- The premises of clause 3 of OperatorRuns are met. -/
theorem witness_operatorRuns_3 : ∃ (n : Nat) (raw tab : Bytes) (o : Bytes × Nat) (j : Job) (s : State),
    ((Instr.opFir n .none).wellFormed = true) ∧
    (s.Ready) ∧
    ((s.dev.op n).run = some { job := j, ended := false }) ∧
    (dOper j.desc = 2) ∧
    (s.dev.unitUp (opNi n) = true) ∧
    (keyOpen s.dev (opNi n) opKey = false) ∧
    (dBatch j.desc = 1) ∧
    (answered (keyAnswers s.dev (opNi n) opKey) (inRecord j.desc 0) = (0, raw)) ∧
    (readTable j.desc (keyAnswers s.dev (opNi n) opKey) = (0, tab)) ∧
    (o = writeVals (dOfmt j.desc) (dSat j.desc) (firRecord j.desc tab (readVals (dIfmt j.desc) raw))) :=
  ⟨7, [byte 0, byte 0, byte 0, byte 0], [], (writeVals (dOfmt (td [(0, 2), (1, 2), (2, 2), (3, 0), (4, 2), (8, 1), (12, 0), (13, 0), (14, 128), (15, 63), (19, 0x40), (25, 1), (27, 0x40), (48, 1)])) (dSat (td [(0, 2), (1, 2), (2, 2), (3, 0), (4, 2), (8, 1), (12, 0), (13, 0), (14, 128), (15, 63), (19, 0x40), (25, 1), (27, 0x40), (48, 1)])) (firRecord (td [(0, 2), (1, 2), (2, 2), (3, 0), (4, 2), (8, 1), (12, 0), (13, 0), (14, 128), (15, 63), (19, 0x40), (25, 1), (27, 0x40), (48, 1)]) [] (readVals (dIfmt (td [(0, 2), (1, 2), (2, 2), (3, 0), (4, 2), (8, 1), (12, 0), (13, 0), (14, 128), (15, 63), (19, 0x40), (25, 1), (27, 0x40), (48, 1)])) [byte 0, byte 0, byte 0, byte 0]))), { q := 5, index := 0, part := 0, desc := td [(0, 2), (1, 2), (2, 2), (3, 0), (4, 2), (8, 1), (12, 0), (13, 0), (14, 128), (15, 63), (19, 0x40), (25, 1), (27, 0x40), (48, 1)] }, ⟨{ liveDev with nis := [(39, { answers := [{ req := { dest := 56, src := 39, ty := 0, cls := 0, part := 0, addr := 0x40000000, size := 4, code := 4 }, status := 0, data := [byte 0, byte 0, byte 0, byte 0] }] })], ops := [(7, { run := some { job := { q := 5, index := 0, part := 0, desc := td [(0, 2), (1, 2), (2, 2), (3, 0), (4, 2), (8, 1), (12, 0), (13, 0), (14, 128), (15, 63), (19, 0x40), (25, 1), (27, 0x40), (48, 1)] }, ended := false } })] }, []⟩, by set_option maxRecDepth 8000 in decide⟩

/-- The premises of clause 4 of OperatorRuns are met. -/
theorem witness_operatorRuns_4 : ∃ (n : Nat) (raw tab : Bytes) (o : Bytes × Nat) (j : Job) (s : State),
    ((Instr.opDecimate n .none).wellFormed = true) ∧
    (s.Ready) ∧
    ((s.dev.op n).run = some { job := j, ended := false }) ∧
    (dOper j.desc = 3) ∧
    (s.dev.unitUp (opNi n) = true) ∧
    (keyOpen s.dev (opNi n) opKey = false) ∧
    (dBatch j.desc = 1) ∧
    (answered (keyAnswers s.dev (opNi n) opKey) (inRecord j.desc 0) = (0, raw)) ∧
    (readTable j.desc (keyAnswers s.dev (opNi n) opKey) = (0, tab)) ∧
    (o = writeVals (dOfmt j.desc) (dSat j.desc) (firRecord j.desc tab (readVals (dIfmt j.desc) raw))) :=
  ⟨7, [byte 0, byte 0, byte 0, byte 0], [], (writeVals (dOfmt (td [(0, 3), (1, 2), (2, 2), (3, 0), (4, 2), (8, 1), (12, 0), (13, 0), (14, 128), (15, 63), (19, 0x40), (25, 1), (27, 0x40), (48, 1), (60, 2)])) (dSat (td [(0, 3), (1, 2), (2, 2), (3, 0), (4, 2), (8, 1), (12, 0), (13, 0), (14, 128), (15, 63), (19, 0x40), (25, 1), (27, 0x40), (48, 1), (60, 2)])) (firRecord (td [(0, 3), (1, 2), (2, 2), (3, 0), (4, 2), (8, 1), (12, 0), (13, 0), (14, 128), (15, 63), (19, 0x40), (25, 1), (27, 0x40), (48, 1), (60, 2)]) [] (readVals (dIfmt (td [(0, 3), (1, 2), (2, 2), (3, 0), (4, 2), (8, 1), (12, 0), (13, 0), (14, 128), (15, 63), (19, 0x40), (25, 1), (27, 0x40), (48, 1), (60, 2)])) [byte 0, byte 0, byte 0, byte 0]))), { q := 5, index := 0, part := 0, desc := td [(0, 3), (1, 2), (2, 2), (3, 0), (4, 2), (8, 1), (12, 0), (13, 0), (14, 128), (15, 63), (19, 0x40), (25, 1), (27, 0x40), (48, 1), (60, 2)] }, ⟨{ liveDev with nis := [(39, { answers := [{ req := { dest := 56, src := 39, ty := 0, cls := 0, part := 0, addr := 0x40000000, size := 4, code := 4 }, status := 0, data := [byte 0, byte 0, byte 0, byte 0] }] })], ops := [(7, { run := some { job := { q := 5, index := 0, part := 0, desc := td [(0, 3), (1, 2), (2, 2), (3, 0), (4, 2), (8, 1), (12, 0), (13, 0), (14, 128), (15, 63), (19, 0x40), (25, 1), (27, 0x40), (48, 1), (60, 2)] }, ended := false } })] }, []⟩, by set_option maxRecDepth 8000 in decide⟩

/-- The premises of clause 5 of OperatorRuns are met. -/
theorem witness_operatorRuns_5 : ∃ (n : Nat) (raw : Bytes) (o : Bytes × Nat) (j : Job) (s : State),
    ((Instr.opConvert n .none).wellFormed = true) ∧
    (s.Ready) ∧
    ((s.dev.op n).run = some { job := j, ended := false }) ∧
    (dOper j.desc = 6) ∧
    (s.dev.unitUp (opNi n) = true) ∧
    (keyOpen s.dev (opNi n) opKey = false) ∧
    (dBatch j.desc = 1) ∧
    (answered (keyAnswers s.dev (opNi n) opKey) (inRecord j.desc 0) = (0, raw)) ∧
    (o = writeVals (dOfmt j.desc) (dSat j.desc) (convertRecord j.desc (readVals (dIfmt j.desc) raw))) :=
  ⟨7, [byte 0, byte 0, byte 0, byte 0], (writeVals (dOfmt (td [(0, 6), (1, 2), (2, 2), (3, 0), (4, 2), (8, 1), (12, 0), (13, 0), (14, 128), (15, 63), (19, 0x40), (25, 1), (27, 0x40)])) (dSat (td [(0, 6), (1, 2), (2, 2), (3, 0), (4, 2), (8, 1), (12, 0), (13, 0), (14, 128), (15, 63), (19, 0x40), (25, 1), (27, 0x40)])) (convertRecord (td [(0, 6), (1, 2), (2, 2), (3, 0), (4, 2), (8, 1), (12, 0), (13, 0), (14, 128), (15, 63), (19, 0x40), (25, 1), (27, 0x40)]) (readVals (dIfmt (td [(0, 6), (1, 2), (2, 2), (3, 0), (4, 2), (8, 1), (12, 0), (13, 0), (14, 128), (15, 63), (19, 0x40), (25, 1), (27, 0x40)])) [byte 0, byte 0, byte 0, byte 0]))), { q := 5, index := 0, part := 0, desc := td [(0, 6), (1, 2), (2, 2), (3, 0), (4, 2), (8, 1), (12, 0), (13, 0), (14, 128), (15, 63), (19, 0x40), (25, 1), (27, 0x40)] }, ⟨{ liveDev with nis := [(39, { answers := [{ req := { dest := 56, src := 39, ty := 0, cls := 0, part := 0, addr := 0x40000000, size := 4, code := 4 }, status := 0, data := [byte 0, byte 0, byte 0, byte 0] }] })], ops := [(7, { run := some { job := { q := 5, index := 0, part := 0, desc := td [(0, 6), (1, 2), (2, 2), (3, 0), (4, 2), (8, 1), (12, 0), (13, 0), (14, 128), (15, 63), (19, 0x40), (25, 1), (27, 0x40)] }, ended := false } })] }, []⟩, by set_option maxRecDepth 8000 in decide⟩

/-- The premises of clause 6 of OperatorRuns are met. -/
theorem witness_operatorRuns_6 : ∃ (n : Nat) (raw : Bytes) (o : Bytes × Nat) (j : Job) (s : State),
    ((Instr.opAverage n .none).wellFormed = true) ∧
    (s.Ready) ∧
    ((s.dev.op n).run = some { job := j, ended := false }) ∧
    (dOper j.desc = 4) ∧
    (s.dev.unitUp (opNi n) = true) ∧
    (keyOpen s.dev (opNi n) opKey = false) ∧
    (dBatch j.desc = 1) ∧
    (answered (keyAnswers s.dev (opNi n) opKey) (inRecord j.desc 0) = (0, raw)) ∧
    (o = writeVals (dOfmt j.desc) (dSat j.desc) ((List.range (dCount j.desc * dVals j.desc)).map fun i =>
       f32Mul (dScale j.desc) (averageElem (j.desc.le 48 1) 1 [(readVals (dIfmt j.desc) raw).getD i (.int 0)]))) :=
  ⟨7, [byte 0, byte 0, byte 0, byte 0], (writeVals (dOfmt (td [(0, 4), (1, 2), (2, 2), (3, 0), (4, 2), (8, 1), (12, 0), (13, 0), (14, 128), (15, 63), (19, 0x40), (25, 1), (27, 0x40)])) (dSat (td [(0, 4), (1, 2), (2, 2), (3, 0), (4, 2), (8, 1), (12, 0), (13, 0), (14, 128), (15, 63), (19, 0x40), (25, 1), (27, 0x40)])) ((List.range (dCount (td [(0, 4), (1, 2), (2, 2), (3, 0), (4, 2), (8, 1), (12, 0), (13, 0), (14, 128), (15, 63), (19, 0x40), (25, 1), (27, 0x40)]) * dVals (td [(0, 4), (1, 2), (2, 2), (3, 0), (4, 2), (8, 1), (12, 0), (13, 0), (14, 128), (15, 63), (19, 0x40), (25, 1), (27, 0x40)]))).map fun i =>
       f32Mul (dScale (td [(0, 4), (1, 2), (2, 2), (3, 0), (4, 2), (8, 1), (12, 0), (13, 0), (14, 128), (15, 63), (19, 0x40), (25, 1), (27, 0x40)])) (averageElem ((td [(0, 4), (1, 2), (2, 2), (3, 0), (4, 2), (8, 1), (12, 0), (13, 0), (14, 128), (15, 63), (19, 0x40), (25, 1), (27, 0x40)]).le 48 1) 1 [(readVals (dIfmt (td [(0, 4), (1, 2), (2, 2), (3, 0), (4, 2), (8, 1), (12, 0), (13, 0), (14, 128), (15, 63), (19, 0x40), (25, 1), (27, 0x40)])) [byte 0, byte 0, byte 0, byte 0]).getD i (.int 0)]))), { q := 5, index := 0, part := 0, desc := td [(0, 4), (1, 2), (2, 2), (3, 0), (4, 2), (8, 1), (12, 0), (13, 0), (14, 128), (15, 63), (19, 0x40), (25, 1), (27, 0x40)] }, ⟨{ liveDev with nis := [(39, { answers := [{ req := { dest := 56, src := 39, ty := 0, cls := 0, part := 0, addr := 0x40000000, size := 4, code := 4 }, status := 0, data := [byte 0, byte 0, byte 0, byte 0] }] })], ops := [(7, { run := some { job := { q := 5, index := 0, part := 0, desc := td [(0, 4), (1, 2), (2, 2), (3, 0), (4, 2), (8, 1), (12, 0), (13, 0), (14, 128), (15, 63), (19, 0x40), (25, 1), (27, 0x40)] }, ended := false } })] }, []⟩, by set_option maxRecDepth 8000 in decide⟩

/-- The premises of clause 7 of OperatorRuns are met. -/
theorem witness_operatorRuns_7 : ∃ (n : Nat) (raw : Bytes) (j : Job) (s : State),
    ((Instr.opChecksum n .none).wellFormed = true) ∧
    (s.Ready) ∧
    ((s.dev.op n).run = some { job := j, ended := false }) ∧
    (dOper j.desc = 7) ∧
    (s.dev.unitUp (opNi n) = true) ∧
    (keyOpen s.dev (opNi n) opKey = false) ∧
    (dBatch j.desc = 1) ∧
    (answered (keyAnswers s.dev (opNi n) opKey) (inRecord j.desc 0) = (0, raw)) :=
  ⟨7, [byte 0, byte 0, byte 0, byte 0], { q := 5, index := 0, part := 0, desc := td [(0, 7), (1, 0), (2, 0), (3, 0), (4, 4), (8, 1), (19, 0x40), (48, 1)] }, ⟨{ liveDev with nis := [(39, { answers := [{ req := { dest := 56, src := 39, ty := 0, cls := 0, part := 0, addr := 0x40000000, size := 4, code := 4 }, status := 0, data := [byte 0, byte 0, byte 0, byte 0] }] })], ops := [(7, { run := some { job := { q := 5, index := 0, part := 0, desc := td [(0, 7), (1, 0), (2, 0), (3, 0), (4, 4), (8, 1), (19, 0x40), (48, 1)] }, ended := false } })] }, []⟩, by set_option maxRecDepth 8000 in decide⟩

/-- The premises of clause 8 of OperatorRuns are met. -/
theorem witness_operatorRuns_8 : ∃ (n : Nat) (raw out : Bytes) (j : Job) (evs : List ThEvent) (s : State),
    ((Instr.opThreshold n .none []).wellFormed = true) ∧
    (s.Ready) ∧
    ((s.dev.op n).run = some { job := j, ended := false }) ∧
    (dOper j.desc = 5) ∧
    (s.dev.unitUp (opNi n) = true) ∧
    (keyOpen s.dev (opNi n) opKey = false) ∧
    (dBatch j.desc = 1) ∧
    (answered (keyAnswers s.dev (opNi n) opKey) (inRecord j.desc 0) = (0, raw)) ∧
    (evs = thEvents j.desc [raw]) ∧
    (out = ((evs.take (j.desc.le 88 4)).map fun e => thRecord j.desc e false).flatten) :=
  ⟨7, [byte 0, byte 0, byte 16, byte 0], thRecord (td [(0, 5), (1, 2), (2, 0), (3, 0), (4, 2), (8, 1), (12, 0), (13, 0), (14, 128), (15, 63), (19, 0x40), (25, 1), (27, 0x40), (51, 0x3F), (80, 1), (82, 1), (88, 1)]) { i := 1, rise := true, fall := false } false, { q := 5, index := 0, part := 0, desc := td [(0, 5), (1, 2), (2, 0), (3, 0), (4, 2), (8, 1), (12, 0), (13, 0), (14, 128), (15, 63), (19, 0x40), (25, 1), (27, 0x40), (51, 0x3F), (80, 1), (82, 1), (88, 1)] }, [{ i := 1, rise := true, fall := false }], ⟨{ liveDev with nis := [(39, { answers := [{ req := { dest := 56, src := 39, ty := 0, cls := 0, part := 0, addr := 0x40000000, size := 4, code := 4 }, status := 0, data := [byte 0, byte 0, byte 16, byte 0] }] })], ops := [(7, { run := some { job := { q := 5, index := 0, part := 0, desc := td [(0, 5), (1, 2), (2, 0), (3, 0), (4, 2), (8, 1), (12, 0), (13, 0), (14, 128), (15, 63), (19, 0x40), (25, 1), (27, 0x40), (51, 0x3F), (80, 1), (82, 1), (88, 1)] }, ended := false } })] }, []⟩, by set_option maxRecDepth 20000 in decide⟩

/-- The premises of clause 1 of References are met. -/
theorem witness_references_1 : ∃ (m : List (Option Int)) (r : Nat) (off : Int) (s : State),
    ((Instr.referenceMeasurement m).wellFormed = true) ∧
    (s.Ready) ∧
    (r < 6) ∧
    (m.getD r none = some off) ∧
    (refClock s.dev r = true) ∧
    (s.dev.timing.ocxo = true) ∧
    (off.natAbs ≤ 50000) :=
  ⟨[some (-50000), none, none, none, none, none, some 3], 0, (-50000), ⟨{ liveDev with timing := { ref := [(0, { progress := 1990 })] } }, []⟩, by decide⟩

/-- The premises of clause 2 of References are met. -/
theorem witness_references_2 : ∃ (r : Nat) (s : State),
    ((Instr.referenceEdgeLoss r).wellFormed = true) ∧
    (s.Ready) :=
  ⟨5, ⟨{ liveDev with timing := { ref := [(5, { progress := 2000, qualified := true })], selected := 5, state := 0 } }, []⟩, by decide⟩

/-- The premises of clause 3 of References are met. -/
theorem witness_references_3 : ∃ (s : State),
    ((Instr.referenceSwitchDone).wellFormed = true) ∧
    (s.Ready) ∧
    (s.dev.timing.state = 1) ∧
    (bestRef s.dev.tcfg s.dev.timing = some s.dev.timing.selected) ∧
    (selectable s.dev.tcfg s.dev.timing s.dev.timing.selected = true) :=
  ⟨⟨{ liveDev with timing := { ref := [(0, { progress := 2000, qualified := true, held := 5 })], selected := 0, state := 1 } }, []⟩, by decide⟩

/-- The premises of clause 4 of References are met. -/
theorem witness_references_4 : ∃ (r : Nat) (s : State),
    ((Instr.waitToRestoreExpiry).wellFormed = true) ∧
    (s.Ready) ∧
    (s.dev.timing.state = 0) ∧
    (upgrade s.dev.tcfg s.dev.timing = some r) ∧
    (waitLeft s.dev.tcfg s.dev.timing = 0) :=
  ⟨0, ⟨{ liveDev with timing := { ref := [(0, { qualified := true, held := 1000000 }), (1, { qualified := true })], selected := 1, state := 0 } }, []⟩, by decide⟩

/-- The premises of clause 5 of References are met. -/
theorem witness_references_5 : ∃ (s : State),
    ((Instr.ocxoAbsent).wellFormed = true) ∧
    (s.Ready) ∧
    (s.dev.timing.ocxo = true) ∧
    (s.dev.faults.inj.state ≠ 1) :=
  ⟨⟨liveDev, []⟩, by decide⟩

/-- The premises of clause 6 of References are met. -/
theorem witness_references_6 : ∃ (s : State),
    ((Instr.ocxoReturn).wellFormed = true) ∧
    (s.Ready) :=
  ⟨⟨{ liveDev with timing := { ocxo := false } }, []⟩, by decide⟩

/-- The premises of clause 7 of References are met. -/
theorem witness_references_7 : ∃ (ttu : Bool) (s : State),
    ((Instr.pllLockLoss ttu).wellFormed = true) ∧
    (s.Ready) ∧
    (s.dev.faults.inj.state ≠ 1) :=
  ⟨true, ⟨liveDev, []⟩, by decide⟩

/-- The premises of clause 8 of References are met. -/
theorem witness_references_8 : ∃ (p : Nat) (s : State),
    ((Instr.ethLinkDown p).wellFormed = true) ∧
    (s.Ready) ∧
    ((s.dev.eport p).link = 2) ∧
    (s.dev.faults.inj.state ≠ 1) :=
  ⟨3, ⟨{ liveDev with eth := { port := [(3, { link := 2, paused := [(0, 1)] })] }, timing := { ref := [(5, { qualified := true })] } }, []⟩, by decide⟩

/-- The premises of clause 9 of References are met. -/
theorem witness_references_9 : ∃ (p : Nat) (s : State),
    ((Instr.ethLinkUp p).wellFormed = true) ∧
    (s.Ready) ∧
    ((s.dev.eport p).link = 1) ∧
    (s.dev.unitUp (epNi p) = true) :=
  ⟨0, ⟨{ liveDev with eth := { port := [(0, { link := 1 })] } }, []⟩, by decide⟩

/-- The premises of clause 1 of ChassisTime are met. -/
theorem witness_chassisTime_1 : ∃ (s : State),
    ((Instr.slewTick).wellFormed = true) ∧
    (s.Ready) ∧
    (s.dev.timing.backlog ≠ 0) ∧
    (s.dev.timing.pending = none) :=
  ⟨⟨{ liveDev with timing := { backlog := -3 } }, []⟩, by decide⟩

/-- The premises of clause 2 of ChassisTime are met. -/
theorem witness_chassisTime_2 : ∃ (q : TimeReq) (m : Int) (s : State),
    ((Instr.timeStrobe).wellFormed = true) ∧
    (s.Ready) ∧
    (s.dev.timing.pending = some q) ∧
    (changesWait s.dev = false) ∧
    (s.dev.timing.next.nis = []) ∧
    (m = q.master.apply s.dev.timing.master) :=
  ⟨{ master := .load 7, nis := [(66, .load)] }, 7, ⟨{ liveDev with timing := { pending := some { master := .load 7, nis := [(66, .load)] } }, nis := [(66, { change := some .load })] }, []⟩, by decide⟩

/-- The premises of clause 3 of ChassisTime are met. -/
theorem witness_chassisTime_3 : ∃ (s : State),
    ((Instr.syncSend).wellFormed = true) ∧
    (s.Ready) :=
  ⟨⟨liveDev, []⟩, by decide⟩

/-- The premises of clause 4 of ChassisTime are met. -/
theorem witness_chassisTime_4 : ∃ (vc : Nat) (p : Packet) (s : State),
    ((Instr.replicaReload vc).wellFormed = true) ∧
    (s.Ready) ∧
    (s.dev.front 64 vc = some (p, false)) ∧
    (p.ty = 4) ∧
    (p.mq = 0xFE) ∧
    (p.src ≠ 64) ∧
    (s.dev.timing.pending = none) ∧
    (s.dev.faults.inj.state ≠ 1) :=
  ⟨6, { dest := 64, src := 66, ty := 4, cls := 0, part := 0, mq := 0xFE, code := 1 }, ⟨{ liveDev with nis := [(64, { taken := [(6, [{ vc := 6, pkt := some { dest := 64, src := 66, ty := 4, cls := 0, part := 0, mq := 0xFE, code := 1 }, tail := true }])] })] }, []⟩, by decide⟩

/-- The premises of clause 5 of ChassisTime are met. -/
theorem witness_chassisTime_5 : ∃ (st : Nat) (s : State),
    ((Instr.ptpMasterLoss st).wellFormed = true) ∧
    (s.Ready) ∧
    (s.dev.tcfg.nat 0x2D10 2 = 1) ∧
    (s.dev.timing.valid = 2) ∧
    (s.dev.faults.inj.state ≠ 1) :=
  ⟨9, ⟨{ liveDev with timing := { valid := 2 }, doms := [(0x29, { shadow := [(0x2D10 * 256 + 2, [byte 1])] })] }, []⟩, by decide⟩

/-- The premises of clause 1 of TriggerLines are met. -/
theorem witness_triggerLines_1 : ∃ (c at_ : Nat) (asserted : Bool) (links : List Nat) (s : State),
    ((Instr.triggerInputEdge c asserted at_).wellFormed = true) ∧
    (s.Ready) ∧
    (bitOf (s.dev.lineObj c 2) 0 = true) ∧
    (s.dev.lineObj c 3 = 2 ∨ s.dev.lineObj c 3 = (if asserted then 0 else 1)) ∧
    (links = ((List.range 24).filter fun k => linkUsed (s.dev.dcfg k) k && linkOwner s.dev.cfg k == s.dev.lineOwner c &&
     bitOf (s.dev.lineObj c 6) k && unitAdmits s.dev 64 (s.dev.lineOwner c))) ∧
    (links.length + triggersWaiting s.dev ≤ 32) :=
  ⟨13, 65536, true, [23], ⟨{ liveDev with store := { active := [((0x2A40 + 23) * 256 + 1, [byte 1])] }, doms := [(0x29, { shadow := [(0x2D3D * 256 + 2, [byte 1]), (0x2D3D * 256 + 3, [byte 2]), (0x2D3D * 256 + 6, [byte 0, byte 0, byte 128, byte 0])] })] }, []⟩, by decide⟩

/-- The premises of clause 2 of TriggerLines are met. -/
theorem witness_triggerLines_2 : ∃ (c : Nat) (e : Int) (h : Released) (rest : List Released) (s : State),
    ((Instr.triggerOrder).wellFormed = true) ∧
    (s.Ready) ∧
    ((s.dev.ni 64).released = h :: rest) ∧
    (h.pkt.data.le 0 1 = c) ∧
    (1 ≤ c ∧ c ≤ 13) ∧
    (bitOf (s.dev.lineObj c 2) 1 = true) ∧
    (s.dev.lineOwner c = h.pkt.part) ∧
    (h.late = false) ∧
    (e = (((h.pkt.relS * 1000000000 + h.pkt.relNs) * 64 + s.dev.lineObj c 9 : Nat) : Int)) ∧
    (s.dev.fineNow + 1280 ≤ e) ∧
    (s.dev.lineObj c 7 = 1) ∧
    ((s.dev.line c).toggles.contains e = false) ∧
    ((span 1 14).foldl (fun a i => a + (s.dev.line i).edges) 0 < 64) :=
  ⟨13, 1280, { pkt := { dest := 64, src := 24, ty := 5, cls := 0, part := 0, mq := 1, code := 0x40, data := [byte 13], relNs := 0 }, late := false }, [], ⟨{ liveDev with doms := [(0x29, { shadow := [(0x2D3D * 256 + 2, [byte 2]), (0x2D3D * 256 + 7, [byte 1])] })], nis := [(64, { released := [{ pkt := { dest := 64, src := 24, ty := 5, cls := 0, part := 0, mq := 1, code := 0x40, data := [byte 13], relNs := 0 }, late := false }] })] }, []⟩, by decide⟩

/-- The premises of clause 3 of TriggerLines are met. -/
theorem witness_triggerLines_3 : ∃ (c : Nat) (e : Int) (rest : List Int) (s : State),
    ((Instr.triggerEdgeFire c .none).wellFormed = true) ∧
    (s.Ready) ∧
    ((s.dev.line c).toggles = e :: rest) ∧
    ((s.dev.line c).pulses = []) :=
  ⟨1, 5, [9], ⟨{ liveDev with timing := { line := [(1, { toggles := [5, 9] })] } }, []⟩, by decide⟩

/-- The premises of clause 4 of TriggerLines are met. -/
theorem witness_triggerLines_4 : ∃ (c : Nat) (s : State),
    ((Instr.triggerPulseEnd c).wellFormed = true) ∧
    (s.Ready) ∧
    (((s.dev.line c).pulses.any fun p => p.on) = true) :=
  ⟨13, ⟨{ liveDev with timing := { line := [(13, { out := true, pulses := [{ start := 5, last := 5, stop := 9, on := true }] })] } }, []⟩, by decide⟩

/-- The premises of clause 5 of TriggerLines are met. -/
theorem witness_triggerLines_5 : ∃ (k : Nat) (s : State),
    ((Instr.sysrefEdge k).wellFormed = true) ∧
    (s.Ready) ∧
    (sysrefOn s.dev.tcfg k = true) ∧
    ((∀ i, i < 6 → (s.dev.timing.out i).anchorAt = none)) :=
  ⟨5, ⟨{ liveDev with doms := [(0x29, { shadow := [(0x2D45 * 256 + 1, [byte 1])] })] }, []⟩, by decide⟩

/-- The premises of clause 1 of Election are met. -/
theorem witness_election_1 : ∃ (s : State),
    ((Instr.electionFrameStart).wellFormed = true) ∧
    (s.Ready) ∧
    (electionOn s.dev = true) ∧
    (s.dev.timing.electing = true) ∧
    (s.dev.tcfg.nat 0x2D60 2 ≠ 15) :=
  ⟨⟨{ liveDev with timing := { role := 1, electing := true }, doms := [(0x29, { shadow := [(0x2D60 * 256 + 1, [byte 7]), (0x2D60 * 256 + 2, [byte 14])] })] }, []⟩, by decide⟩

/-- The premises of clause 2 of Election are met. -/
theorem witness_election_2 : ∃ (word : Nat) (s : State),
    ((Instr.electionFrameEnd word true).wellFormed = true) ∧
    (s.Ready) ∧
    (electionOn s.dev = true) ∧
    (s.dev.faults.inj.state ≠ 1) ∧
    (s.dev.timing.role = 2) ∧
    (word = ownWord s.dev) :=
  ⟨Config.serialNumber % 2 ^ 60, ⟨{ liveDev with timing := { role := 2 }, doms := [(0x29, { shadow := [(0x2D60 * 256 + 1, [byte 7]), (0x2D60 * 256 + 2, [byte 0])] })] }, []⟩, by refine ⟨decide_eq_true (Nat.lt_of_lt_of_le (Nat.mod_lt _ (by decide)) (by decide)), ⟨rfl, rfl⟩, rfl, by decide, rfl, ?_⟩; unfold ownWord; generalize Config.serialNumber % 2 ^ 60 = w; show w = 0 * 2 ^ 60 + w; omega⟩

/-- The premises of clause 3 of Election are met. -/
theorem witness_election_3 : ∃ (s : State),
    ((Instr.heartbeatSend).wellFormed = true) ∧
    (s.Ready) ∧
    (electionOn s.dev = true) ∧
    (s.dev.timing.role = 4) :=
  ⟨⟨{ liveDev with timing := { role := 4 }, doms := [(0x29, { shadow := [(0x2D60 * 256 + 1, [byte 0])] })] }, []⟩, by decide⟩

/-- The premises of clause 4 of Election are met. -/
theorem witness_election_4 : ∃ (word secs ns : Nat) (s : State),
    ((Instr.heartbeatReceive word secs ns true).wellFormed = true) ∧
    (s.Ready) ∧
    (electionOn s.dev = true) ∧
    (s.dev.faults.inj.state ≠ 1) ∧
    (s.dev.timing.role ≠ 4) ∧
    (s.dev.tcfg.nat 0x2D10 2 = 2) ∧
    (s.dev.timing.loaded = false) ∧
    (s.dev.timing.pending = none) :=
  ⟨5, 100, 999999999, ⟨{ liveDev with timing := { role := 1 }, doms := [(0x29, { shadow := [(0x2D10 * 256 + 2, [byte 2]), (0x2D60 * 256 + 1, [byte 0])] })] }, []⟩, by decide⟩

/-- The premises of clause 5 of Election are met. -/
theorem witness_election_5 : ∃ (s : State),
    ((Instr.heartbeatLoss).wellFormed = true) ∧
    (s.Ready) ∧
    (electionOn s.dev = true) ∧
    (s.dev.timing.role = 3) ∧
    (s.dev.tcfg.nat 0x2D10 2 ≠ 2) :=
  ⟨⟨{ liveDev with timing := { role := 3 }, doms := [(0x29, { shadow := [(0x2D60 * 256 + 1, [byte 0])] })] }, []⟩, by decide⟩

/-- The premises of clause 1 of LockCycle are met. -/
theorem witness_lockCycle_1 : ∃ (p : Nat) (s : State),
    ((Instr.drainComplete p).wellFormed = true) ∧
    (s.Ready) ∧
    ((s.dev.part p).state = 1) ∧
    ((s.dev.part p).txIdle = false) ∧
    (drained s.dev p = true) ∧
    ((∀ e, e ∈ s.dev.conv.stream → e.2.tx = false ∨ (s.dev.queue? e.1).map (·.part) ≠ some p)) :=
  ⟨15, ⟨{ liveDev with parts := [(15, { state := 1 })] }, []⟩, by set_option maxRecDepth 8000 in decide⟩

/-- The premises of clause 2 of LockCycle are met. -/
theorem witness_lockCycle_2 : ∃ (p : Nat) (s : State),
    ((Instr.drainTimeout p).wellFormed = true) ∧
    (s.Ready) ∧
    ((s.dev.part p).state = 1) ∧
    ((s.dev.part p).txIdle = false) ∧
    (drained s.dev p = false) ∧
    (s.dev.faults.inj.state ≠ 1) :=
  ⟨3, ⟨{ liveDev with parts := [(3, { state := 1 })], ops := [(2, { store := [{ q := 768, index := 0, part := 3, desc := [] }] })] }, []⟩, by set_option maxRecDepth 8000 in decide⟩

/-- The premises of clause 3 of LockCycle are met. -/
theorem witness_lockCycle_3 : ∃ (p : Nat) (s : State),
    ((Instr.fenceAcknowledge p).wellFormed = true) ∧
    (s.Ready) ∧
    ((s.dev.part p).state = 1) ∧
    ((s.dev.part p).txIdle = true) :=
  ⟨0, ⟨{ liveDev with clock := { wall := 1500 }, parts := [(0, { state := 1, txIdle := true, thenReset := true })] }, []⟩, by decide⟩

/-- The premises of clause 4 of LockCycle are met. -/
theorem witness_lockCycle_4 : ∃ (p : Nat) (s : State),
    ((Instr.resetStepDone p).wellFormed = true) ∧
    (s.Ready) ∧
    ((s.dev.part p).state = 3) ∧
    ((s.dev.part p).again = false) ∧
    (s.dev.resets.linkLoss ≠ 2) :=
  ⟨2, ⟨{ liveDev with parts := [(2, { state := 3, autoRelease := true })], boxes := [(2, { pending := true }), (3, { done := true })], store := { active := [(0x260003, [byte 4, byte 0])], chambers := [(18, [(0x270002, [byte 1])]), (19, [(0x270003, [byte 1])])] }, host := { fn := [(2, { window := 0x4000000 }), (4, { window := 0x4000000 })] }, queues := { q := [(512, { tq with part := 2 }), (5, tq)] } }, []⟩, by set_option maxRecDepth 8000 in decide⟩

/-- The premises of clause 5 of LockCycle are met. -/
theorem witness_lockCycle_5 : ∃ (p : Nat) (s : State),
    ((Instr.releaseExecute p).wellFormed = true) ∧
    (s.Ready) ∧
    (p < 16) ∧
    ((s.dev.part p).state = 5) ∧
    (allApplied s.dev = true) ∧
    (adminPair s.dev.cfg p = none) ∧
    ((∀ e, e ∈ s.dev.queues.q → e.2.admin = false ∨ e.2.part ≠ p)) ∧
    ((∀ e, e ∈ (s.dev.fn p).table → e.2.pending = false)) :=
  ⟨4, ⟨{ liveDev with parts := [(4, { state := 5 })], nis := [(40, { spent := [(16, 3), (20, 1)] })] }, []⟩, by set_option maxRecDepth 8000 in decide⟩

/-- The premises of clause 1 of FunctionResets are met. -/
theorem witness_functionResets_1 : ∃ (k : Nat) (s : State),
    ((Instr.flrVf k).wellFormed = true) ∧
    (s.Ready) ∧
    (s.dev.resets.linkLoss ≠ 2) ∧
    (s.dev.fnExists k = true) ∧
    ((s.dev.part k).state = 2 ∨ (s.dev.part k).state = 4) :=
  ⟨1, ⟨{ liveDev with parts := [(1, { state := 4 })], boxes := [(1, { pending := true })], resets := { unitHeld := [(40, true), (41, false)] }, host := { vfEnable := true, numVfs := 1, fn := [(1, { bme := true })] } }, []⟩, by decide⟩

/-- The premises of clause 2 of FunctionResets are met. -/
theorem witness_functionResets_2 : ∃ (k : Nat) (s : State),
    ((Instr.flrVf k).wellFormed = true) ∧
    (s.Ready) ∧
    (s.dev.resets.linkLoss ≠ 2) ∧
    (s.dev.fnExists k = true) ∧
    ((s.dev.part k).state = 1 ∨ (s.dev.part k).state = 3) :=
  ⟨15, ⟨{ liveDev with parts := [(15, { state := 3 })], host := { vfEnable := true, numVfs := 15 } }, []⟩, by decide⟩

/-- The premises of clause 3 of FunctionResets are met. -/
theorem witness_functionResets_3 : ∃ (k : Nat) (s : State),
    ((Instr.flrVf k).wellFormed = true) ∧
    (s.Ready) ∧
    (s.dev.resets.linkLoss ≠ 2) ∧
    (s.dev.fnExists k = true) ∧
    ((s.dev.part k).state = 0 ∨ meetsRelease s.dev k = true) :=
  ⟨15, ⟨{ liveDev with parts := [(15, { state := 0, releasedAt := some 0 })], host := { vfEnable := true, numVfs := 15 } }, []⟩, by set_option maxRecDepth 8000 in decide⟩

/-- The premises of clause 4 of FunctionResets are met. -/
theorem witness_functionResets_4 : ∃ (k : Nat) (s : State),
    ((Instr.flrVf k).wellFormed = true) ∧
    (s.Ready) ∧
    (s.dev.resets.linkLoss = 2) :=
  ⟨3, ⟨{ liveDev with resets := { linkLoss := 2 }, host := { vfEnable := true, numVfs := 15 } }, []⟩, by decide⟩

/-- The premises of clause 5 of FunctionResets are met. -/
theorem witness_functionResets_5 : ∃ (s : State),
    ((Instr.flrPf0).wellFormed = true) ∧
    (s.Ready) ∧
    (s.dev.resets.linkLoss ≠ 2) ∧
    ((∀ p, p < 16 → (s.dev.part p).state = 2 ∨ (s.dev.part p).state = 4)) :=
  ⟨⟨{ liveDev with parts := [], host := { vfEnable := true, numVfs := 15 } }, []⟩, by decide⟩

/-- The premises of clause 6 of FunctionResets are met. -/
theorem witness_functionResets_6 : ∃ (n p : Nat) (s : State),
    ((Instr.vfEnableSet n).wellFormed = true) ∧
    (s.Ready) ∧
    (1 ≤ p) ∧
    (p < 16) ∧
    ((∀ q, q < 16 → q = 0 ∨ q = p ∨ (s.dev.part q).awaitVf = false ∨ (s.dev.part q).state ≠ 4 ∨ (s.dev.part q).autoRelease = false)) :=
  ⟨15, 1, ⟨{ liveDev with parts := [(1, { state := 4, awaitVf := true, autoRelease := true }), (15, { state := 4, awaitVf := true })], store := { active := [(0x260003, [byte 2, byte 0])] } }, []⟩, by set_option maxRecDepth 8000 in decide⟩

/-- The premises of clause 1 of ClockDomains are met. -/
theorem witness_clockDomains_1 : ∃ (k : Nat) (s : State),
    ((Instr.clockLoss k).wellFormed = true) ∧
    (s.Ready) ∧
    (s.dev.clockRuns k = true) ∧
    (domainUnits s.dev k = []) ∧
    (s.dev.faults.inj.state ≠ 1) :=
  ⟨2, ⟨liveDev, []⟩, by decide⟩

/-- The premises of clause 2 of ClockDomains are met. -/
theorem witness_clockDomains_2 : ∃ (k u : Nat) (s : State),
    ((Instr.clockLoss k).wellFormed = true) ∧
    (s.Ready) ∧
    (s.dev.clockRuns k = true) ∧
    (s.dev.crossingHeld k = false) ∧
    (u ∈ domainUnits s.dev k) :=
  ⟨1, 66, ⟨liveDev, []⟩, by set_option maxRecDepth 8000 in decide⟩

/-- The premises of clause 3 of ClockDomains are met. -/
theorem witness_clockDomains_3 : ∃ (k : Nat) (s : State),
    ((Instr.domainClockStart k).wellFormed = true) ∧
    (s.Ready) ∧
    ((s.dev.dom k).running = false) ∧
    (domainPowered s.dev k = true) :=
  ⟨4, ⟨{ liveDev with doms := [(4, { running := false, locked := false, losses := 3 })] }, []⟩, by decide⟩

/-- The premises of clause 4 of ClockDomains are met. -/
theorem witness_clockDomains_4 : ∃ (u : Nat) (s : State),
    ((Instr.unitResetRelease u).wellFormed = true) ∧
    (s.Ready) ∧
    (s.dev.resets.unitHeld.get false u = true) ∧
    (s.dev.clockRuns (unitDomain s.dev u) = true) ∧
    (unitPowered s.dev u = true) ∧
    ((∀ k, k < 24 → (s.dev.link k).rx ≠ 1 ∧ (s.dev.link k).tx ≠ 1)) :=
  ⟨40, ⟨{ liveDev with resets := { unitHeld := [(40, true), (41, true)] } }, []⟩, by decide⟩

/-- The premises of clause 5 of ClockDomains are met. -/
theorem witness_clockDomains_5 : ∃ (f : List Nat) (s : State),
    ((Instr.frequencyMeasurementPeriod f).wellFormed = true) ∧
    (s.Ready) ∧
    (s.dev.clockRuns 0x29 = true) :=
  ⟨(List.replicate 41 1500000), ⟨liveDev, []⟩, by set_option maxRecDepth 8000 in decide⟩

/-- The premises of clause 6 of ClockDomains are met. -/
theorem witness_clockDomains_6 : ∃ (k : Nat) (s : State),
    ((Instr.captureTimeout k).wellFormed = true) ∧
    (s.Ready) ∧
    (s.dev.clockRuns k = true) ∧
    ((s.dev.dom k).capturing = true) ∧
    (s.dev.faults.inj.state ≠ 1) :=
  ⟨41, ⟨{ liveDev with doms := [(41, { running := true, capturing := true })] }, []⟩, by decide⟩

/-- The premises of clause 1 of PowerDomains are met. -/
theorem witness_powerDomains_1 : ∃ (k : Nat) (s : State),
    ((Instr.pdDrainComplete k).wellFormed = true) ∧
    (s.Ready) ∧
    ((s.dev.pd k).state = 4) ∧
    (pdDrained s.dev k = true) ∧
    ((s.dev.pd k).offToFollow = false) ∧
    ((∀ e, e ∈ s.dev.conv.stream → e.2.tx = false ∨ 24 ≤ e.2.src ∨ unitPd e.2.src ≠ some k)) :=
  ⟨11, ⟨{ liveDev with pds := [(11, { state := 4 })] }, []⟩, by set_option maxRecDepth 8000 in decide⟩

/-- The premises of clause 2 of PowerDomains are met. -/
theorem witness_powerDomains_2 : ∃ (k : Nat) (s : State),
    ((Instr.pdDrainTimeout k).wellFormed = true) ∧
    (s.Ready) ∧
    ((s.dev.pd k).state = 4) ∧
    (pdDrained s.dev k = false) ∧
    ((s.dev.pd k).offToFollow = false) ∧
    (s.dev.faults.inj.state ≠ 1) :=
  ⟨2, ⟨{ liveDev with pds := [(2, { state := 4 })], ops := [(0, { store := [{ q := 768, index := 0, part := 3, desc := [] }] })] }, []⟩, by set_option maxRecDepth 8000 in decide⟩

/-- The premises of clause 3 of PowerDomains are met. -/
theorem witness_powerDomains_3 : ∃ (k : Nat) (trained : Bool) (s : State),
    ((Instr.pdPowerUpDone k trained).wellFormed = true) ∧
    (s.Ready) ∧
    (k < 4) ∧
    ((s.dev.pd k).state = 1) ∧
    ((∀ u, u ∈ pdNeeded s.dev k → s.dev.held u = false ∧ s.dev.clockRuns (unitDomain s.dev u) = true)) :=
  ⟨3, false, ⟨{ liveDev with pds := [(3, { state := 1, releaseToFollow := true, powerUps := 2 ^ 32 - 1 })] }, []⟩, by set_option maxRecDepth 8000 in decide⟩

/-- The premises of clause 4 of PowerDomains are met. -/
theorem witness_powerDomains_4 : ∃ (k : Nat) (s : State),
    ((Instr.pdPowerUpDone k true).wellFormed = true) ∧
    (s.Ready) ∧
    (4 ≤ k) ∧
    ((s.dev.pd k).state = 1) ∧
    ((∀ u, u ∈ pdNeeded s.dev k → s.dev.held u = false ∧ s.dev.clockRuns (unitDomain s.dev u) = true)) ∧
    (s.dev.cfg.nat 0x24E0 (k - 3) ≠ 0) :=
  ⟨11, ⟨{ liveDev with pds := [(11, { state := 1, releaseToFollow := true })], doms := [(0x28, { running := true })], store := { active := [(0x24E008, [byte 16])] } }, []⟩, by set_option maxRecDepth 8000 in decide⟩

/-- The premises of clause 5 of PowerDomains are met. -/
theorem witness_powerDomains_5 : ∃ (k : Nat) (s : State),
    ((Instr.pdPowerUpDone k true).wellFormed = true) ∧
    (s.Ready) ∧
    (4 ≤ k) ∧
    ((s.dev.pd k).state = 1) ∧
    ((∀ u, u ∈ pdNeeded s.dev k → s.dev.held u = false ∧ s.dev.clockRuns (unitDomain s.dev u) = true)) ∧
    (s.dev.cfg.nat 0x24E0 (k - 3) = 0) :=
  ⟨11, ⟨{ liveDev with pds := [(11, { state := 1 })], doms := [(0x28, { running := true })] }, []⟩, by set_option maxRecDepth 8000 in decide⟩

/-- The premises of clause 6 of PowerDomains are met. -/
theorem witness_powerDomains_6 : ∃ (k : Nat) (s : State),
    ((Instr.pdPowerUpDone k false).wellFormed = true) ∧
    (s.Ready) ∧
    (4 ≤ k) ∧
    ((s.dev.pd k).state = 1) ∧
    (s.dev.faults.inj.state ≠ 1) :=
  ⟨4, ⟨{ liveDev with pds := [(4, { state := 1, releaseToFollow := true })] }, []⟩, by decide⟩

/-- The premises of clause 7 of PowerDomains are met. -/
theorem witness_powerDomains_7 : ∃ (k : Nat) (s : State),
    ((Instr.pdPowerGoodTimeout k).wellFormed = true) ∧
    (s.Ready) ∧
    ((s.dev.pd k).state = 1) ∧
    (s.dev.faults.inj.state ≠ 1) :=
  ⟨0, ⟨{ liveDev with pds := [(0, { state := 1 })] }, []⟩, by decide⟩

/-- The premises of clause 8 of PowerDomains are met. -/
theorem witness_powerDomains_8 : ∃ (k : Nat) (s : State),
    ((Instr.releaseExecute k).wellFormed = true) ∧
    (s.Ready) ∧
    (18 ≤ k ∧ k ≠ 19) ∧
    ((s.dev.pd (k - 16)).state = 5) ∧
    (allApplied s.dev = true) :=
  ⟨27, ⟨{ liveDev with pds := [(11, { state := 5 })] }, []⟩, by set_option maxRecDepth 8000 in decide⟩

/-- The premises of clause 1 of DeviceResets are met. -/
theorem witness_deviceResets_1 : ∃ (src : Nat) (cut : SpiCut) (d : Dev) (s : State),
    ((Instr.chipReset src cut).wellFormed = true) ∧
    (s.Ready) ∧
    (cutStore cut s.dev = d) :=
  ⟨0xF8, .idle, agedDev, ⟨agedDev, []⟩, by decide, by decide, rfl⟩

/-- The premises of clause 2 of DeviceResets are met. -/
theorem witness_deviceResets_2 : ∃ (cut : SpiCut) (d : Dev) (s : State),
    ((Instr.perstNAssert cut).wellFormed = true) ∧
    (s.dev.bus = []) ∧
    (cutStore cut s.dev = d) :=
  ⟨.idle, agedDev, ⟨agedDev, []⟩, by decide, by decide, rfl⟩

/-- The premises of clause 3 of DeviceResets are met. -/
theorem witness_deviceResets_3 : ∃ (d : Dev) (s : State),
    ((Instr.powerOn).wellFormed = true) ∧
    (s.dev.bus = []) ∧
    (s.dev = d) :=
  ⟨agedDev, ⟨agedDev, []⟩, by decide, by decide, rfl⟩

/-- The premises of clause 4 of DeviceResets are met. -/
theorem witness_deviceResets_4 : ∃ (rail : Nat) (cut : SpiCut) (d : Dev) (s : State),
    ((Instr.railFall rail cut).wellFormed = true) ∧
    (s.dev.bus = []) ∧
    (cutStore cut s.dev = d) :=
  ⟨2, .idle, agedDev, ⟨agedDev, []⟩, by decide, by decide, rfl⟩

/-- The premises of clause 5 of DeviceResets are met. -/
theorem witness_deviceResets_5 : ∃ (testMode : Bool) (bootSel : Nat) (s : State),
    ((Instr.resetRelease testMode bootSel).wellFormed = true) ∧
    (s.dev.bus = []) ∧
    (s.dev.power.released = false) :=
  ⟨true, 1, ⟨{ liveDev with power := { released := false, perstLow := true, railsBad := 5 } }, []⟩, by decide⟩

/-- The premises of clause 6 of DeviceResets are met. -/
theorem witness_deviceResets_6 : ∃ (rail : Nat) (above : Bool) (s : State),
    ((Instr.supplyMonitorSample rail above).wellFormed = true) ∧
    (s.Ready) ∧
    (s.dev.faults.inj.state ≠ 1) :=
  ⟨1, true, ⟨liveDev, []⟩, by decide⟩

/-- The premises of clause 7 of DeviceResets are met. -/
theorem witness_deviceResets_7 : ∃ (sensor : Nat) (reading old warn : Int) (s : State),
    ((Instr.temperatureThreshold sensor reading).wellFormed = true) ∧
    (s.Ready) ∧
    (s.dev.faults.inj.state ≠ 1) ∧
    (decInt 16 (s.dev.monitors.temp.get 0 sensor) = old) ∧
    ((((s.dev.shadow 3).nat 0x2E40 5 * 8 : Nat) : Int) = warn) :=
  ⟨0, 880, 840, 760, ⟨{ liveDev with monitors := { temp := [(0, 840)] } }, []⟩, by decide⟩

/-- The premises of clause 1 of LinkLoss are met. -/
theorem witness_linkLoss_1 : ∃ (s : State),
    ((Instr.dlDown).wellFormed = true) ∧
    (s.Ready) ∧
    (s.dev.resets.linkLoss = 0) ∧
    (s.dev.host.reads = []) :=
  ⟨⟨{ liveDev with resets := { linkUp := true } }, []⟩, by decide⟩

/-- The premises of clause 2 of LinkLoss are met. -/
theorem witness_linkLoss_2 : ∃ (r : OutRead) (s : State),
    ((Instr.dlDown).wellFormed = true) ∧
    (s.Ready) ∧
    (s.dev.resets.linkLoss = 0) ∧
    (s.dev.host.reads = [r]) :=
  ⟨{ tag := 5, hp := 41, req := { dest := 41, src := 24, ty := 0, cls := 2, part := 3, size := 8 } }, ⟨{ liveDev with resets := { linkUp := true }, host := { reads := [{ tag := 5, hp := 41, req := { dest := 41, src := 24, ty := 0, cls := 2, part := 3, size := 8 } }] } }, []⟩, by decide⟩

/-- The premises of clause 3 of LinkLoss are met. -/
theorem witness_linkLoss_3 : ∃ (rate width : Nat) (s : State),
    ((Instr.dlUp rate width).wellFormed = true) ∧
    (s.Ready) ∧
    (s.dev.resets.linkLoss ≠ 2) :=
  ⟨5, 16, ⟨{ liveDev with resets := { linkLoss := 1 } }, []⟩, by decide⟩

/-- The premises of clause 4 of LinkLoss are met. -/
theorem witness_linkLoss_4 : ∃ (cut : SpiCut) (s : State),
    ((Instr.linkLossDebounceExpiry cut).wellFormed = true) ∧
    (s.Ready) ∧
    (s.dev.resets.linkLoss = 1) ∧
    (s.dev.cfg.nat 0x2603 2 ≠ 1) ∧
    ((∀ p, p < 16 → 2 ≤ (s.dev.part p).state ∧ (s.dev.part p).state ≤ 4)) ∧
    (s.dev.faults.inj.state ≠ 1) :=
  ⟨.idle, ⟨{ liveDev with resets := { linkLoss := 1, unitHeld := [(40, true)] }, parts := [(3, { state := 2 }), (5, { state := 3 })], boxes := [(3, { pending := true })] }, []⟩, by set_option maxRecDepth 8000 in decide⟩

/-- The premises of clause 5 of LinkLoss are met. -/
theorem witness_linkLoss_5 : ∃ (cut : SpiCut) (d : Dev) (s : State),
    ((Instr.linkLossDebounceExpiry cut).wellFormed = true) ∧
    (s.Ready) ∧
    (s.dev.resets.linkLoss = 1) ∧
    (s.dev.cfg.nat 0x2603 2 = 1) ∧
    (cutStore cut s.dev = d) ∧
    (d.resets.linkLoss = 1) ∧
    (d.cfg.nat 0x2603 2 = 1) :=
  ⟨.idle, { agedDev with resets := { linkLoss := 1 } }, ⟨{ agedDev with resets := { linkLoss := 1 } }, []⟩, by decide, by decide, rfl, by decide, rfl, rfl, by decide⟩

/-- The premises of clause 6 of LinkLoss are met. -/
theorem witness_linkLoss_6 : ∃ (cut : SpiCut) (s : State),
    ((Instr.hotReset cut).wellFormed = true) ∧
    (s.Ready) ∧
    (s.dev.resets.linkLoss ≤ 1) ∧
    (s.dev.cfg.nat 0x2603 2 ≠ 1) ∧
    (s.dev.host.reads = []) ∧
    ((∀ p, p < 16 → 2 ≤ (s.dev.part p).state ∧ (s.dev.part p).state ≤ 4)) ∧
    (s.dev.faults.inj.state ≠ 1) :=
  ⟨.inFrame, ⟨{ liveDev with resets := { linkUp := true }, parts := [(3, { state := 2 })] }, []⟩, by set_option maxRecDepth 8000 in decide⟩

/-- The premises of clause 1 of FaultCollector are met. -/
theorem witness_faultCollector_1 : ∃ (e : FaultEvent) (seen : List (Nat × Nat)) (cut : SpiCut) (d : Dev) (s : State),
    ((Instr.faultEventRegister .none seen cut).wellFormed = true) ∧
    (s.Ready) ∧
    (Dev.fold seen (fun e y => y.raise e.1 e.2) s.dev = d) ∧
    (d.faults.crossing = [e]) ∧
    (d.faults.enabled = true) ∧
    ((d.source e.src).severe = false) ∧
    ((d.source e.src).count + 1 < d.pcfg.nat (0x4000 + e.src) 3) ∧
    (d.pcfg.nat (0x4000 + e.src) 5 = 0) :=
  ⟨{ src := 0x40, inst := 24, part := 3 }, [], .idle, { liveDev with doms := [(3, { shadow := [(0x404003, [byte 5, byte 0]), (0x404005, [byte 0])] })], faults := { enabled := true, crossing := [{ src := 0x40, inst := 24, part := 3 }], src := [(0x40, { count := 3, total := 7 })] } }, ⟨{ liveDev with doms := [(3, { shadow := [(0x404003, [byte 5, byte 0]), (0x404005, [byte 0])] })], faults := { enabled := true, crossing := [{ src := 0x40, inst := 24, part := 3 }], src := [(0x40, { count := 3, total := 7 })] } }, []⟩, by decide⟩

/-- The premises of clause 2 of FaultCollector are met. -/
theorem witness_faultCollector_2 : ∃ (e : FaultEvent) (r : Nat) (seen : List (Nat × Nat)) (cut : SpiCut) (d : Dev) (s : State),
    ((Instr.faultEventRegister .none seen cut).wellFormed = true) ∧
    (s.Ready) ∧
    (Dev.fold seen (fun e y => y.raise e.1 e.2) s.dev = d) ∧
    (d.faults.crossing = [e]) ∧
    (d.faults.enabled = true) ∧
    ((d.source e.src).severe = false) ∧
    (d.pcfg.nat (0x4000 + e.src) 3 ≤ (d.source e.src).count + 1) ∧
    (d.pcfg.nat (0x4000 + e.src) 6 = r) ∧
    (bitOf r 0 = false ∧ bitOf r 2 = false ∧ bitOf r 3 = false ∧ bitOf r 4 = false) ∧
    (d.boot.firmware = true ∧ d.can.enabled = true ∧ d.can.emcy.length < 16) :=
  ⟨{ src := 0xF0 }, 0x22, [], .idle, { liveDev with doms := [(3, { shadow := [(0x40F003, [byte 1, byte 0]), (0x40F006, [byte 0x22])] })], faults := { enabled := true, crossing := [{ src := 0xF0 }] } }, ⟨{ liveDev with doms := [(3, { shadow := [(0x40F003, [byte 1, byte 0]), (0x40F006, [byte 0x22])] })], faults := { enabled := true, crossing := [{ src := 0xF0 }] } }, []⟩, by decide⟩

/-- The premises of clause 3 of FaultCollector are met. -/
theorem witness_faultCollector_3 : ∃ (e : FaultEvent) (seen : List (Nat × Nat)) (cut : SpiCut) (d : Dev) (s : State),
    ((Instr.faultEventRegister .none seen cut).wellFormed = true) ∧
    (s.Ready) ∧
    (Dev.fold seen (fun e y => y.raise e.1 e.2) s.dev = d) ∧
    (cutStore cut s.dev = s.dev) ∧
    (d.faults.crossing = [e]) ∧
    (d.faults.enabled = true) ∧
    ((d.source e.src).severe = false) ∧
    (d.pcfg.nat (0x4000 + e.src) 3 ≤ (d.source e.src).count + 1) ∧
    (bitOf (d.pcfg.nat (0x4000 + e.src) 6) 4 = true) ∧
    (chipResetLimited d = false) :=
  ⟨{ src := 0xF0 }, [], .idle, { liveDev with doms := [(3, { shadow := [(0x2E0002, [byte 3]), (0x40F003, [byte 1, byte 0]), (0x40F006, [byte 0x30])] })], faults := { enabled := true, crossing := [{ src := 0xF0 }] } }, ⟨{ liveDev with doms := [(3, { shadow := [(0x2E0002, [byte 3]), (0x40F003, [byte 1, byte 0]), (0x40F006, [byte 0x30])] })], faults := { enabled := true, crossing := [{ src := 0xF0 }] } }, []⟩, by decide⟩

/-- The premises of clause 4 of FaultCollector are met. -/
theorem witness_faultCollector_4 : ∃ (err : MemErr) (e : FaultEvent) (seen : List (Nat × Nat)) (cut : SpiCut) (d : Dev) (s : State),
    ((Instr.faultEventRegister err seen cut).wellFormed = true) ∧
    (s.Ready) ∧
    (Dev.fold seen (fun e y => y.raise e.1 e.2) s.dev = d) ∧
    (d.faults.crossing = [e]) ∧
    (d.faults.enabled = false) :=
  ⟨.corrected, { src := 0xE0, inst := 1 }, [], .idle, { liveDev with faults := { crossing := [{ src := 0xE0, inst := 1 }] } }, ⟨{ liveDev with faults := { crossing := [{ src := 0xE0, inst := 1 }] } }, []⟩, by decide⟩

/-- The premises of clause 5 of FaultCollector are met. -/
theorem witness_faultCollector_5 : ∃ (n : Nat) (s : State),
    ((Instr.faultWindowExpiry n).wellFormed = true) ∧
    (s.Ready) :=
  ⟨64, ⟨{ liveDev with faults := { src := [(64, { count := 3, windowOpen := true })] } }, []⟩, by decide⟩

/-- The premises of clause 1 of OutputInhibit are met. -/
theorem witness_outputInhibit_1 : ∃ (s : State),
    ((Instr.inhibitTick true false).wellFormed = true) ∧
    (s.Ready) ∧
    (s.dev.inhibit.latched = false) :=
  ⟨⟨{ liveDev with inhibit := { active := true, count := 70000, longest := 3 } }, []⟩, by decide⟩

/-- The premises of clause 2 of OutputInhibit are met. -/
theorem witness_outputInhibit_2 : ∃ (s : State),
    ((Instr.inhibitTick false true).wellFormed = true) ∧
    (s.Ready) ∧
    (s.dev.inhibit.latched = false) ∧
    (s.dev.inhibit.active = false) ∧
    ((∀ e, e ∈ s.dev.conv.stream → e.2.tx = false)) ∧
    (s.dev.faults.inj.state ≠ 1) :=
  ⟨⟨liveDev, []⟩, by decide⟩

/-- The premises of clause 3 of OutputInhibit are met. -/
theorem witness_outputInhibit_3 : ∃ (s : State),
    ((Instr.inhibitTick false false).wellFormed = true) ∧
    (s.Ready) ∧
    (s.dev.inhibit.latched = false) ∧
    (s.dev.inhibit.active = false) ∧
    (s.dev.inhibit.count + 1 < discrepancyTime s.dev) ∧
    ((∀ e, e ∈ s.dev.conv.stream → e.2.tx = false)) ∧
    (s.dev.faults.inj.state ≠ 1) :=
  ⟨⟨{ liveDev with inhibit := { count := 998 }, doms := [(0x29, { shadow := [(0x2E3001, [byte 1])] })] }, []⟩, by decide⟩

/-- The premises of clause 4 of OutputInhibit are met. -/
theorem witness_outputInhibit_4 : ∃ (s : State),
    ((Instr.inhibitTick true true).wellFormed = true) ∧
    (s.Ready) ∧
    (s.dev.inhibit.latched = false) ∧
    (s.dev.inhibit.active = true) ∧
    (discrepancyTime s.dev ≤ s.dev.inhibit.count + 1) ∧
    (s.dev.faults.inj.state ≠ 1) :=
  ⟨⟨{ liveDev with inhibit := { count := 999, active := true }, doms := [(0x29, { shadow := [(0x2E3001, [byte 1])] })] }, []⟩, by decide⟩

/-- The premises of clause 5 of OutputInhibit are met. -/
theorem witness_outputInhibit_5 : ∃ (a b : Bool) (s : State),
    ((Instr.inhibitTick a b).wellFormed = true) ∧
    (s.Ready) ∧
    (s.dev.inhibit.latched = true) ∧
    (s.dev.inhibit.active = true) :=
  ⟨true, false, ⟨{ liveDev with inhibit := { latched := true, active := true } }, []⟩, by decide⟩

/-- The premises of clause 1 of DomainCapture are met. -/
theorem witness_domainCapture_1 : ∃ (k ns restarts : Nat) (s : State),
    ((Instr.domainCapture k ns restarts).wellFormed = true) ∧
    (s.Ready) ∧
    (s.dev.clockRuns k = true) ∧
    ((s.dev.dom k).capturing = true) ∧
    (k = 2 ∨ k = 4 ∨ 0x21 ≤ k ∧ k ≤ 0x28 ∧ s.dev.cfg.nat 0x24E0 (k - 0x20) ≠ 0) :=
  ⟨4, 100, 3, ⟨{ liveDev with store := { version := 5, epoch := 2, active := [(0x240001, [byte 1])] }, resets := { unitHeld := [(40, false), (64, false)] }, doms := [(4, { running := true, capturing := true, restarts := 2 ^ 32 - 2 })] }, []⟩, by decide⟩

/-- The premises of clause 2 of DomainCapture are met. -/
theorem witness_domainCapture_2 : ∃ (k ns restarts : Nat) (s : State),
    ((Instr.domainCapture k ns restarts).wellFormed = true) ∧
    (s.Ready) ∧
    (s.dev.clockRuns k = true) ∧
    ((s.dev.dom k).capturing = true) ∧
    (k < 5 ∨ k = 0x29) ∧
    ((k = 3 → ∀ e, e ∈ s.dev.faults.src → e.2.pre = none)) :=
  ⟨0x29, 100, 3, ⟨{ liveDev with store := { version := 5, active := [(0x2E3001, [byte 1])] }, doms := [(0x29, { running := true, capturing := true })] }, []⟩, by decide⟩

/-- The premises of clause 3 of DomainCapture are met. -/
theorem witness_domainCapture_3 : ∃ (k ns restarts : Nat) (s : State),
    ((Instr.domainCapture k ns restarts).wellFormed = true) ∧
    (s.Ready) ∧
    (s.dev.clockRuns k = true) ∧
    ((s.dev.dom k).capturing = true) ∧
    (5 ≤ k ∧ k ≤ 0x20) :=
  ⟨9, 100, 3, ⟨{ liveDev with store := { version := 5, active := [(0x2A4001, [byte 0])] }, doms := [(9, { running := true, capturing := true })] }, []⟩, by decide⟩

/-- The premises of clause 4 of DomainCapture are met. -/
theorem witness_domainCapture_4 : ∃ (k ns restarts : Nat) (s : State),
    ((Instr.domainCapture k ns restarts).wellFormed = true) ∧
    (s.Ready) ∧
    (s.dev.clockRuns k = true) ∧
    ((s.dev.dom k).capturing = true) ∧
    (0x21 ≤ k ∧ k ≤ 0x28) ∧
    (s.dev.cfg.nat 0x24E0 (k - 0x20) = 0) ∧
    ((s.dev.pd (4 + (k - 0x21))).state ≠ 1) :=
  ⟨0x28, 100, 3, ⟨{ liveDev with store := { version := 5 }, doms := [(0x28, { running := true, capturing := true })] }, []⟩, by decide⟩

/-- The premises of clause 1 of Boot are met. -/
theorem witness_boot_1 : ∃ (programmed : Bool) (s : State),
    ((Instr.firmwareStart programmed).wellFormed = true) ∧
    (s.Ready) ∧
    (inRom s.dev = true) ∧
    (s.dev.store.owner = none) ∧
    (s.dev.store.spiPending = false) :=
  ⟨true, ⟨{ liveDev with boot := {} }, []⟩, by decide⟩

/-- The premises of clause 2 of Boot are met. -/
theorem witness_boot_2 : ∃ (s : State),
    ((Instr.safeHarbourEntry).wellFormed = true) ∧
    (s.Ready) ∧
    (inRom s.dev = true) ∧
    ((bootChoice s.dev).slot = none) ∧
    (s.dev.faults.inj.state ≠ 1) :=
  ⟨⟨{ liveDev with boot := {}, power := { bootSel := 3 } }, []⟩, by decide⟩

/-- The premises of clause 3 of Boot are met. -/
theorem witness_boot_3 : ∃ (s : State),
    ((Instr.endOfBoot).wellFormed = true) ∧
    (s.Ready) ∧
    (s.dev.boot.firmware = true) ∧
    (s.dev.boot.ended = false) ∧
    (s.dev.boot.warm = false) :=
  ⟨⟨{ liveDev with parts := [], pds := [(0, { state := 2 })], boot := { firmware := true }, store := { active := [(0x260004, [byte 5, byte 0]), (0x263003, [byte 1]), (0x263B03, [byte 1]), (0x24E008, [byte 1])] } }, []⟩, by decide⟩

/-- The premises of clause 4 of Boot are met. -/
theorem witness_boot_4 : ∃ (s : State),
    ((Instr.trialConfirm).wellFormed = true) ∧
    (s.Ready) ∧
    (s.dev.boot.firmware = true) ∧
    (s.dev.boot.trying = true) ∧
    (s.dev.boot.ended = true) :=
  ⟨⟨{ liveDev with boot := { firmware := true, ended := true, trying := true, running := 1 }, flash := { record := [(0, (4294967295, { trial := 1 })), (1, (4294967294, {}))] } }, []⟩, by decide⟩

/-- The premises of clause 5 of Boot are met. -/
theorem witness_boot_5 : ∃ (cut : SpiCut) (d : Dev) (s : State),
    ((Instr.lkcRestart cut).wellFormed = true) ∧
    (s.Ready) ∧
    (inRom s.dev = false) ∧
    (cutTowpath cut s.dev = d) ∧
    ((∀ e, e ∈ d.boxes → e.2.pending = false ∧ e.2.active = false)) ∧
    (d.can.usdo = none) ∧
    (d.faults.inj.state ≠ 1) :=
  ⟨.idle, { liveDev with boxes := [(3, { done := true })], parts := [(2, { state := 4, autoRelease := true })], store := { waiting := [(18, { op := 1, idx := 0, sub := 0, len := 0, data := [], crcOk := true })] }, pds := [(4, { releaseToFollow := true })] }, ⟨{ liveDev with boxes := [(3, { done := true })], parts := [(2, { state := 4, autoRelease := true })], store := { waiting := [(18, { op := 1, idx := 0, sub := 0, len := 0, data := [], crcOk := true })] }, pds := [(4, { releaseToFollow := true })] }, []⟩, by decide, by decide, by decide, rfl, by decide, rfl, by decide⟩

/-- The premises of clause 6 of Boot are met. -/
theorem witness_boot_6 : ∃ (f : Nat) (x : Mailbox) (cut : SpiCut) (d : Dev) (s : State),
    ((Instr.lkcRestart cut).wellFormed = true) ∧
    (s.Ready) ∧
    (inRom s.dev = false) ∧
    (cutTowpath cut s.dev = d) ∧
    (d.boxes = [(f, x)]) ∧
    (x.pending = true) ∧
    (x.ie = false) ∧
    (d.can.usdo = none) :=
  ⟨15, { pending := true, seq := 7, key := 0x270002 }, .idle, { liveDev with boxes := [(15, { pending := true, seq := 7, key := 0x270002 })] }, ⟨{ liveDev with boxes := [(15, { pending := true, seq := 7, key := 0x270002 })] }, []⟩, by decide⟩

/-- The premises of clause 7 of Boot are met. -/
theorem witness_boot_7 : ∃ (cut : SpiCut) (d : Dev) (s : State),
    ((Instr.restartDelayExpiry cut).wellFormed = true) ∧
    (s.Ready) ∧
    (s.dev.boot.restart = true) ∧
    (cutTowpath cut s.dev = d) ∧
    ((∀ e, e ∈ d.boxes → e.2.pending = false ∧ e.2.active = false)) ∧
    (d.can.usdo = none) :=
  ⟨.inFrame, { liveDev with boot := { firmware := true, ended := true, restart := true } }, ⟨{ liveDev with boot := { firmware := true, ended := true, restart := true } }, []⟩, by decide⟩

/-- The premises of clause 8 of Boot are met. -/
theorem witness_boot_8 : ∃ (ok : Bool) (s : State),
    ((Instr.updateEraseDone ok).wellFormed = true) ∧
    (s.Ready) ∧
    (s.dev.boot.update = 1) :=
  ⟨false, ⟨{ liveDev with boot := { firmware := true, update := 1 } }, []⟩, by decide⟩

/-- The premises of clause 9 of Boot are met. -/
theorem witness_boot_9 : ∃ (ok : Bool) (s : State),
    ((Instr.updateVerifyDone ok).wellFormed = true) ∧
    (s.Ready) ∧
    (s.dev.boot.update = 3) :=
  ⟨true, ⟨{ liveDev with boot := { firmware := true, running := 0, update := 3, target := 1, buffer := [byte 1] } }, []⟩, by decide⟩

/-- The premises of clause 1 of StorePort are met. -/
theorem witness_storePort_1 : ∃ (s : State),
    ((Instr.mgmtCsNFall).wellFormed = true) ∧
    (s.Ready) ∧
    (s.dev.store.spi.csLow = false) :=
  ⟨⟨{ liveDev with store := { owner := some 1 } }, []⟩, by decide⟩

/-- The premises of clause 2 of StorePort are met. -/
theorem witness_storePort_2 : ∃ (s : State),
    ((Instr.mgmtCsNRise .idle).wellFormed = true) ∧
    (s.Ready) :=
  ⟨⟨{ liveDev with store := { owner := some 0, spi := { csLow := true, granted := true } } }, []⟩, by decide⟩

/-- The premises of clause 3 of StorePort are met. -/
theorem witness_storePort_3 : ∃ (f : Frame) (edges : Nat) (s : State),
    ((Instr.mgmtCsNRise (.inTail f edges)).wellFormed = true) ∧
    (s.Ready) ∧
    (s.dev.store.spi.granted = true) ∧
    (s.dev.store.spi.served = false) ∧
    (s.dev.store.cut = none) ∧
    (edges < tailEdges 0 s.dev f) :=
  ⟨{ op := 3, idx := 0, sub := 0, len := 0, data := [], crcOk := true }, 2, ⟨{ liveDev with store := { owner := some 0, spi := { csLow := true, granted := true }, chambers := [(0, [(0x101700, [byte 1, byte 0])])] } }, []⟩, by set_option maxRecDepth 20000 in decide⟩

/-- The premises of clause 4 of StorePort are met. -/
theorem witness_storePort_4 : ∃ (s : State),
    ((Instr.mgmtCsNRise .inFrame).wellFormed = true) ∧
    (s.Ready) ∧
    (s.dev.store.spi.granted = true) ∧
    (s.dev.store.spi.served = false) ∧
    (s.dev.store.cut = some 0) ∧
    (s.dev.faults.inj.state ≠ 1) :=
  ⟨⟨{ liveDev with store := { owner := some 0, spi := { csLow := true, granted := true }, cut := some 0 } }, []⟩, by decide⟩

/-- The premises of clause 5 of StorePort are met. -/
theorem witness_storePort_5 : ∃ (s : State),
    ((Instr.spiIdleTimeout .idle).wellFormed = true) ∧
    (s.Ready) ∧
    (s.dev.store.spi.granted = true) ∧
    (s.dev.faults.inj.state ≠ 1) :=
  ⟨⟨{ liveDev with store := { owner := some 0, spi := { csLow := true, granted := true } } }, []⟩, by decide⟩

/-- The premises of clause 6 of StorePort are met. -/
theorem witness_storePort_6 : ∃ (s : State),
    ((Instr.storeGrant).wellFormed = true) ∧
    (s.Ready) ∧
    (s.dev.store.owner = none) ∧
    (s.dev.store.spiPending = true) :=
  ⟨⟨{ liveDev with store := { spiPending := true, spi := { csLow := true } } }, []⟩, by decide⟩

/-- The premises of clause 7 of StorePort are met. -/
theorem witness_storePort_7 : ∃ (path : Nat) (pre post : Tbl Frame) (s : State),
    ((Instr.storeGrant).wellFormed = true) ∧
    (s.Ready) ∧
    (s.dev.store.owner = none) ∧
    (s.dev.store.spiPending = false) ∧
    (s.dev.store.cut = none) ∧
    (s.dev.boot.safeHarbour = false) ∧
    (path ≠ 0 ∧ path ≠ 2 ∧ path < 16) ∧
    (s.dev.store.waiting = pre ++ (path, plainFrame 7 0 true) :: post) ∧
    ((∀ e, e ∈ pre → pathServed s.dev e.1 = false)) ∧
    (s.dev.store.own = []) ∧
    (pathServed s.dev path = true) :=
  ⟨1, [], [(17, plainFrame 6 0 true)], ⟨{ liveDev with store := { waiting := [(1, plainFrame 7 0 true), (17, plainFrame 6 0 true)], chambers := [(1, [(0x101700, [byte 1, byte 0])])] } }, []⟩, by decide⟩

/-- The premises of clause 1 of StoreFrames are met. -/
theorem witness_storeFrames_1 : ∃ (path idx sub len : Nat) (r : ObjRow) (s : State),
    ((Instr.read path idx sub len true).wellFormed = true) ∧
    (s.Ready) ∧
    (PathFree s.dev path) ∧
    (objRow idx sub = some r) ∧
    (r.acc ≠ .wo) ∧
    (r.ty.len = some len) ∧
    (mayRead s.dev path r idx sub = true) ∧
    (1 ≤ len ∧ len ≤ 256) :=
  ⟨16, 0x1017, 0, 2, ⟨0x1017, 0x1017, 0x0, 0x0, .u 2, .rw, .s, .n 0x3e8, .any⟩, ⟨liveDev, []⟩, by set_option maxRecDepth 20000 in decide⟩

/-- The premises of clause 2 of StoreFrames are met. -/
theorem witness_storeFrames_2 : ∃ (path idx sub : Nat) (data : Bytes) (r : ObjRow) (s : State),
    ((Instr.writeStage path idx sub data.length data true).wellFormed = true) ∧
    (s.Ready) ∧
    (PathFree s.dev path) ∧
    (objRow idx sub = some r) ∧
    (r.acc = .rw) ∧
    (r.cls = .s ∨ r.cls = .f) ∧
    (valueDetail idx r data = 0) ∧
    (mayWrite s.dev path idx sub = true) ∧
    (¬ (idx = 0x2600 ∧ sub = 4)) ∧
    (((s.dev.chamber path).set (okey idx sub) data).length ≤ 512) ∧
    (chamberBytes ((s.dev.chamber path).set (okey idx sub) data) ≤ 16384) ∧
    (1 ≤ data.length ∧ data.length ≤ 256) :=
  ⟨2, 0x1017, 0, [byte 5, byte 0], ⟨0x1017, 0x1017, 0x0, 0x0, .u 2, .rw, .s, .n 0x3e8, .any⟩, ⟨liveDev, []⟩, by set_option maxRecDepth 20000 in decide⟩

/-- The premises of clause 3 of StoreFrames are met. -/
theorem witness_storeFrames_3 : ∃ (path idx sub : Nat) (data : Bytes) (s : State),
    ((Instr.writeStage path idx sub data.length data true).wellFormed = true) ∧
    (s.Ready) ∧
    (PathFree s.dev path) ∧
    (objRow idx sub = none) ∧
    (1 ≤ data.length ∧ data.length ≤ 256) :=
  ⟨31, 0xFFFF, 0, [byte 5], ⟨liveDev, []⟩, by set_option maxRecDepth 20000 in decide⟩

/-- The premises of clause 4 of StoreFrames are met. -/
theorem witness_storeFrames_4 : ∃ (path : Nat) (s : State),
    ((Instr.discard path 0 true).wellFormed = true) ∧
    (s.Ready) ∧
    (PathFree s.dev path) :=
  ⟨0, ⟨{ liveDev with store := { spi := { granted := true }, chambers := [(0, [(0x101700, [byte 1, byte 0])])] } }, []⟩, by decide⟩

/-- The premises of clause 5 of StoreFrames are met. -/
theorem witness_storeFrames_5 : ∃ (path : Nat) (s : State),
    ((Instr.status path 0 true).wellFormed = true) ∧
    (s.Ready) ∧
    (PathFree s.dev path) :=
  ⟨0, ⟨{ liveDev with store := { spi := { granted := true }, rolledNow := true, version := 0x01020304, chambers := [(0, [(0x101700, [byte 1, byte 0])])] } }, []⟩, by decide⟩

/-- The premises of clause 6 of StoreFrames are met. -/
theorem witness_storeFrames_6 : ∃ (path op : Nat) (s : State),
    ((Instr.unknownOpcodeFrame path op).wellFormed = true) ∧
    (s.Ready) ∧
    (PathFree s.dev path) ∧
    (op = 0 ∨ 7 < op) :=
  ⟨0, 8, ⟨{ liveDev with store := { spi := { granted := true } } }, []⟩, by decide⟩

/-- The premises of clause 1 of Commits are met. -/
theorem witness_commits_1 : ∃ (path len v : Nat) (chg : Change) (s : State),
    ((Instr.commit path len v true).wellFormed = true) ∧
    (s.Ready) ∧
    (PathFree s.dev path) ∧
    (len = 0 ∨ (len = 4 ∧ v < 2 ^ 32)) ∧
    (chamberChange (s.dev.chamber path) = chg) ∧
    (chg ≠ []) ∧
    (refuseCommit s.dev path chg (if len = 4 then some v else none) 0x23 true = none) :=
  ⟨0, 4, 7, [(0x101700, some [byte 1, byte 0])], ⟨{ liveDev with store := { version := 7, spi := { granted := true }, chambers := [(0, [(0x101700, [byte 1, byte 0])])] } }, []⟩, by set_option maxRecDepth 20000 in decide⟩

/-- The premises of clause 2 of Commits are met. -/
theorem witness_commits_2 : ∃ (path len v e k : Nat) (s : State),
    ((Instr.commit path len v true).wellFormed = true) ∧
    (s.Ready) ∧
    (PathFree s.dev path) ∧
    (len = 0 ∨ (len = 4 ∧ v < 2 ^ 32)) ∧
    (e ≠ 0) ∧
    (refuseCommit s.dev path (chamberChange (s.dev.chamber path)) (if len = 4 then some v else none) 0x23 true = some (e, k)) :=
  ⟨0, 4, 6, 0x20, 0, ⟨{ liveDev with store := { version := 7, spi := { granted := true } } }, []⟩, by set_option maxRecDepth 20000 in decide⟩

/-- The premises of clause 3 of Commits are met. -/
theorem witness_commits_3 : ∃ (path v : Nat) (s : State),
    ((Instr.commit path 0 v true).wellFormed = true) ∧
    (s.Ready) ∧
    (PathFree s.dev path) ∧
    (s.dev.chamber path = []) :=
  ⟨31, 0, ⟨liveDev, []⟩, by decide⟩

/-- The premises of clause 4 of Commits are met. -/
theorem witness_commits_4 : ∃ (path len v : Nat) (s : State),
    ((Instr.revert path len v true).wellFormed = true) ∧
    (s.Ready) ∧
    (PathFree s.dev path) ∧
    (len = 0 ∨ (len = 4 ∧ v < 2 ^ 32)) ∧
    (s.dev.store.journal ≠ []) ∧
    (refuseCommit s.dev path s.dev.store.journal (if len = 4 then some v else none) 0x26 true = none) :=
  ⟨0, 0, 0, ⟨{ liveDev with store := { version := 0xFFFFFFFF, spi := { granted := true }, active := [(0x101700, [byte 1, byte 0])], journal := [(0x101700, none)] } }, []⟩, by set_option maxRecDepth 20000 in decide⟩

/-- The premises of clause 5 of Commits are met. -/
theorem witness_commits_5 : ∃ (path v : Nat) (s : State),
    ((Instr.revert path 0 v true).wellFormed = true) ∧
    (s.Ready) ∧
    (PathFree s.dev path) ∧
    (s.dev.store.journal = []) :=
  ⟨0, 0, ⟨{ liveDev with store := { spi := { granted := true } } }, []⟩, by decide⟩

/-- The premises of clause 1 of SavesAndLoads are met. -/
theorem witness_savesAndLoads_1 : ∃ (path : Nat) (s : State),
    ((Instr.save path 0 true).wellFormed = true) ∧
    (s.Ready) ∧
    (PathFree s.dev path) ∧
    (s.dev.store.save = none) :=
  ⟨0, ⟨{ liveDev with store := { spi := { granted := true } } }, []⟩, by decide⟩

/-- The premises of clause 2 of SavesAndLoads are met. -/
theorem witness_savesAndLoads_2 : ∃ (path : Nat) (s : State),
    ((Instr.save path 0 true).wellFormed = true) ∧
    (s.Ready) ∧
    (PathFree s.dev path) ∧
    (s.dev.store.save ≠ none) :=
  ⟨0, ⟨{ liveDev with store := { spi := { granted := true }, save := some { target := 0, seq := 1, path := 0, key := 0, startVersion := 3, snapshot := [], attempts := 0, schema := some 1 } } }, []⟩, by decide⟩

/-- The premises of clause 3 of SavesAndLoads are met. -/
theorem witness_savesAndLoads_3 : ∃ (path : Nat) (s : State),
    ((Instr.storeAll path 0x65766173).wellFormed = true) ∧
    (s.Ready) ∧
    (PathFree s.dev path) ∧
    (mayWrite s.dev path 0x1010 1 = true) ∧
    (s.dev.store.save = none) :=
  ⟨2, ⟨liveDev, []⟩, by set_option maxRecDepth 20000 in decide⟩

/-- The premises of clause 4 of SavesAndLoads are met. -/
theorem witness_savesAndLoads_4 : ∃ (j : SaveJob) (s : State),
    ((Instr.saveComplete).wellFormed = true) ∧
    (s.Ready) ∧
    (s.dev.boot.firmware = true) ∧
    (s.dev.store.save = some j) ∧
    (s.dev.store.version = j.startVersion) ∧
    (j.path = 0) :=
  ⟨{ target := 1, seq := 1, path := 0, key := 0, startVersion := 3, snapshot := [], attempts := 3, schema := some 1 }, ⟨{ liveDev with store := { version := 3, save := some { target := 1, seq := 1, path := 0, key := 0, startVersion := 3, snapshot := [], attempts := 3, schema := some 1 } } }, []⟩, by decide⟩

/-- The premises of clause 5 of SavesAndLoads are met. -/
theorem witness_savesAndLoads_5 : ∃ (j : SaveJob) (s : State),
    ((Instr.saveComplete).wellFormed = true) ∧
    (s.Ready) ∧
    (s.dev.boot.firmware = true) ∧
    (s.dev.store.save = some j) ∧
    (s.dev.store.version ≠ j.startVersion) ∧
    (j.attempts < 3) :=
  ⟨{ target := 1, seq := 1, path := 0, key := 0, startVersion := 3, snapshot := [], attempts := 2, schema := some 1 }, ⟨{ liveDev with store := { version := 4, save := some { target := 1, seq := 1, path := 0, key := 0, startVersion := 3, snapshot := [], attempts := 2, schema := some 1 } } }, []⟩, by decide⟩

/-- The premises of clause 6 of SavesAndLoads are met. -/
theorem witness_savesAndLoads_6 : ∃ (j : SaveJob) (s : State),
    ((Instr.saveFlashError).wellFormed = true) ∧
    (s.Ready) ∧
    (s.dev.boot.firmware = true) ∧
    (s.dev.store.save = some j) ∧
    (j.path = 0) ∧
    (s.dev.faults.inj.state ≠ 1) :=
  ⟨{ target := 1, seq := 1, path := 0, key := 0, startVersion := 3, snapshot := [], attempts := 2, schema := some 1 }, ⟨{ liveDev with store := { save := some { target := 1, seq := 1, path := 0, key := 0, startVersion := 3, snapshot := [], attempts := 2, schema := some 1 } } }, []⟩, by decide⟩

/-- The premises of clause 7 of SavesAndLoads are met. -/
theorem witness_savesAndLoads_7 : ∃ (path slot : Nat) (s : State),
    ((Instr.loadSlot path slot).wellFormed = true) ∧
    (s.Ready) ∧
    (PathFree s.dev path) ∧
    (path ≠ 0) ∧
    (1 ≤ slot) ∧
    ((s.dev.image (slot - 1)).isSome = true) :=
  ⟨16, 1, ⟨{ liveDev with flash := { config := [(0, imageBytes 0 1 1 [])] } }, []⟩, by set_option maxRecDepth 20000 in decide⟩

/-- The premises of clause 8 of SavesAndLoads are met. -/
theorem witness_savesAndLoads_8 : ∃ (path i : Nat) (s : State),
    ((Instr.restore path 0x64616F6C).wellFormed = true) ∧
    (s.Ready) ∧
    (PathFree s.dev path) ∧
    (mayWrite s.dev path 0x1011 1 = true) ∧
    (newestSlot s.dev = some i) :=
  ⟨16, 1, ⟨{ liveDev with flash := { config := [(1, imageBytes 0 1 1 [])] } }, []⟩, by set_option maxRecDepth 20000 in decide⟩

/-- The premises of clause 9 of SavesAndLoads are met. -/
theorem witness_savesAndLoads_9 : ∃ (path : Nat) (s : State),
    ((Instr.restore path 0x64616F6C).wellFormed = true) ∧
    (s.Ready) ∧
    (PathFree s.dev path) ∧
    (mayWrite s.dev path 0x1011 1 = true) ∧
    (newestSlot s.dev = none) :=
  ⟨16, ⟨liveDev, []⟩, by set_option maxRecDepth 20000 in decide⟩

/-- The premises of clause 10 of SavesAndLoads are met. -/
theorem witness_savesAndLoads_10 : ∃ (j : LoadJob) (rest : List LoadJob) (s : State),
    ((Instr.imageLoadCommit).wellFormed = true) ∧
    (s.Ready) ∧
    (s.dev.boot.firmware = true) ∧
    (s.dev.store.owner = none) ∧
    (s.dev.store.spiPending = false) ∧
    (s.dev.store.cut = none) ∧
    (s.dev.store.loads = j :: rest) ∧
    (j.slot = 2) ∧
    (j.path = 1) ∧
    (allFenced s.dev = true) ∧
    (imageChange s.dev.cfg [] ≠ []) ∧
    (refuseCommit s.dev 1 (imageChange s.dev.cfg []) none 0x23 true = none) :=
  ⟨{ slot := 2, path := 1, key := 0 }, [], ⟨{ liveDev with parts := [], pds := [], store := { version := 0xFFFFFFFF, active := [(0x101700, [byte 1, byte 0])], loads := [{ slot := 2, path := 1, key := 0 }] } }, []⟩, by set_option maxRecDepth 20000 in decide⟩

/-- The premises of clause 1 of MailboxesAndRegisters are met. -/
theorem witness_mailboxesAndRegisters_1 : ∃ (f v : Nat) (s : State),
    ((Instr.mbGo f v).wellFormed = true) ∧
    (s.Ready) ∧
    (boxOpen s.dev f = true) ∧
    (bitOf v 8 = true) ∧
    (bitOf v 9 = false) ∧
    ((s.dev.boxes.get {} f).pending = true ∨ (s.dev.boxes.get {} f).active = true) :=
  ⟨0, 0x105, ⟨{ liveDev with boxes := [(0, { active := true })] }, []⟩, by decide⟩

/-- The premises of clause 2 of MailboxesAndRegisters are met. -/
theorem witness_mailboxesAndRegisters_2 : ∃ (f v : Nat) (x : Mailbox) (s : State),
    ((Instr.mbGo f v).wellFormed = true) ∧
    (s.Ready) ∧
    (boxOpen s.dev f = true) ∧
    (bitOf v 8 = true) ∧
    (bitOf v 9 = false) ∧
    (s.dev.boxes.get {} f = x) ∧
    (x.pending = false) ∧
    (x.active = false) :=
  ⟨0, 0x1FF, { req0 := 0x20020101, reqLen := 4 }, ⟨{ liveDev with boxes := [(0, { req0 := 0x20020101, reqLen := 4 })], store := { owner := some 0 } }, []⟩, by decide⟩

/-- The premises of clause 3 of MailboxesAndRegisters are met. -/
theorem witness_mailboxesAndRegisters_3 : ∃ (f : Nat) (x : Mailbox) (pre post : Tbl Frame) (s : State),
    ((Instr.storeGrant).wellFormed = true) ∧
    (s.Ready) ∧
    (s.dev.store.owner = none) ∧
    (s.dev.store.spiPending = false) ∧
    (s.dev.store.cut = none) ∧
    (s.dev.boot.firmware = true) ∧
    (s.dev.boot.safeHarbour = false) ∧
    (s.dev.store.waiting = pre ++ (16 + f, plainFrame 7 0 true) :: post) ∧
    ((∀ e, e ∈ pre → pathServed s.dev e.1 = false)) ∧
    (s.dev.boxes.get {} f = x) ∧
    (x.pending = true ∧ x.active = false ∧ x.ie = false) :=
  ⟨0, { req0 := 0x20080302, reqLen := 4, pending := true, seq := 7 }, [], [], ⟨{ liveDev with boxes := [(0, { req0 := 0x20080302, reqLen := 4, pending := true, seq := 7 })], store := { waiting := [(16, plainFrame 7 0 true)], chambers := [(16, [(0x101700, [byte 1, byte 0])])] } }, []⟩, by decide⟩

/-- The premises of clause 4 of MailboxesAndRegisters are met. -/
theorem witness_mailboxesAndRegisters_4 : ∃ (f v : Nat) (x : Mailbox) (s : State),
    ((Instr.mbCancel f v).wellFormed = true) ∧
    (s.Ready) ∧
    (boxOpen s.dev f = true) ∧
    (bitOf v 9 = true) ∧
    (bitOf v 8 = false) ∧
    (s.dev.boxes.get {} f = x) ∧
    (x.pending = true ∧ x.active = false ∧ x.ie = false) :=
  ⟨0, 0x200, { pending := true, seq := 7 }, ⟨{ liveDev with boxes := [(0, { pending := true, seq := 7 })], store := { waiting := [(16, plainFrame 7 0 true)] } }, []⟩, by decide⟩

/-- The premises of clause 5 of MailboxesAndRegisters are met. -/
theorem witness_mailboxesAndRegisters_5 : ∃ (f o : Nat) (posted : Bool) (data : Bytes) (s : State),
    ((Instr.registerWrite (.command f) posted o data).wellFormed = true) ∧
    (s.Ready) ∧
    (configOpen s.dev f = true) ∧
    ((s.dev.fn f).table = []) :=
  ⟨0, 0, false, [byte 4, byte 0], ⟨liveDev, []⟩, by decide⟩

/-- The premises of clause 6 of MailboxesAndRegisters are met. -/
theorem witness_mailboxesAndRegisters_6 : ∃ (f o : Nat) (posted : Bool) (data : Bytes) (s : State),
    ((Instr.registerWrite (.msixControl f) posted o data).wellFormed = true) ∧
    (s.Ready) ∧
    (configOpen s.dev f = true) ∧
    ((s.dev.fn f).table = []) :=
  ⟨0, 0, false, [byte 0, byte 0xC0], ⟨liveDev, []⟩, by decide⟩

/-- The premises of clause 7 of MailboxesAndRegisters are met. -/
theorem witness_mailboxesAndRegisters_7 : ∃ (n o : Nat) (posted : Bool) (data : Bytes) (s : State),
    ((Instr.registerWrite (.unit n) posted o data).wellFormed = true) ∧
    (s.Ready) ∧
    (o < 0x100000) ∧
    (n ≠ 65) ∧
    (regAligned o data.length = false) :=
  ⟨24, 2, true, [byte 0, byte 0xC0], ⟨liveDev, []⟩, by decide⟩

/-- The premises of clause 8 of MailboxesAndRegisters are met. -/
theorem witness_mailboxesAndRegisters_8 : ∃ (f rid o : Nat) (posted : Bool) (data : Bytes) (s : State),
    ((Instr.registerWrite (.bar0 f rid false) posted o data).wellFormed = true) ∧
    (s.Ready) ∧
    (s.dev.door f 0 = .serve) ∧
    (0x10000 ≤ o) ∧
    (regAligned o data.length = false) :=
  ⟨0, 0, 0x100009, true, [byte 0, byte 0xC0, byte 0, byte 0], ⟨liveDev, []⟩, by decide⟩

/-- The premises of clause 1 of CanNetwork are met. -/
theorem witness_canNetwork_1 : ∃ (node : Nat) (s : State),
    ((Instr.nmtStart node).wellFormed = true) ∧
    (s.Ready) ∧
    (nmtMine s.dev node = true) :=
  ⟨0, ⟨{ liveDev with can := { nmt := .preOperational } }, []⟩, by decide⟩

/-- The premises of clause 2 of CanNetwork are met. -/
theorem witness_canNetwork_2 : ∃ (node : Nat) (s : State),
    ((Instr.nmtStop node).wellFormed = true) ∧
    (s.Ready) ∧
    (nmtMine s.dev node = true) :=
  ⟨64, ⟨{ liveDev with can := { nmt := .operational } }, []⟩, by decide⟩

/-- The premises of clause 3 of CanNetwork are met. -/
theorem witness_canNetwork_3 : ∃ (node : Nat) (s : State),
    ((Instr.nmtEnterPreOperational node).wellFormed = true) ∧
    (s.Ready) ∧
    (nmtMine s.dev node = true) :=
  ⟨64, ⟨{ liveDev with can := { nmt := .stopped } }, []⟩, by decide⟩

/-- The premises of clause 4 of CanNetwork are met. -/
theorem witness_canNetwork_4 : ∃ (node : Nat) (s : State),
    ((Instr.nmtStart node).wellFormed = true) ∧
    (s.Ready) ∧
    (nmtMine s.dev node = false) :=
  ⟨63, ⟨{ liveDev with can := { nmt := .preOperational } }, []⟩, by decide⟩

/-- The premises of clause 5 of CanNetwork are met. -/
theorem witness_canNetwork_5 : ∃ (node : Nat) (s : State),
    ((Instr.nmtResetCommunication node).wellFormed = true) ∧
    (s.Ready) ∧
    (nmtMine s.dev node = true) ∧
    (s.dev.boot.safeHarbour = false ∨ s.dev.store.valid = true) ∧
    (s.dev.cfg.nat 0x1FF0 5 = 1) :=
  ⟨0, ⟨{ liveDev with can := { nmt := .operational }, store := { active := [(0x1FF001, [byte 5])], chambers := [(2, [(0x101700, [byte 1, byte 0])])] } }, []⟩, by set_option maxRecDepth 20000 in decide⟩

/-- The premises of clause 6 of CanNetwork are met. -/
theorem witness_canNetwork_6 : ∃ (node : Nat) (s : State),
    ((Instr.nmtResetApplication node).wellFormed = true) ∧
    (s.Ready) ∧
    (nmtMine s.dev node = true) ∧
    (s.dev.boot.safeHarbour = false ∨ s.dev.store.valid = true) :=
  ⟨0, ⟨{ liveDev with can := { nmt := .operational }, store := { active := [(0x1FF001, [byte 5])], chambers := [(2, [(0x101700, [byte 1, byte 0])])] } }, []⟩, by set_option maxRecDepth 20000 in decide⟩

/-- The premises of clause 7 of CanNetwork are met. -/
theorem witness_canNetwork_7 : ∃ (s : State),
    ((Instr.heartbeatProduce).wellFormed = true) ∧
    (s.Ready) ∧
    (canRuns s.dev = true) ∧
    (s.dev.cfg.nat 0x1017 0 ≠ 0) :=
  ⟨⟨{ liveDev with can := { nmt := .operational } }, []⟩, by set_option maxRecDepth 20000 in decide⟩

/-- The premises of clause 8 of CanNetwork are met. -/
theorem witness_canNetwork_8 : ∃ (s : State),
    ((Instr.canBusOff).wellFormed = true) ∧
    (s.Ready) ∧
    (canRuns s.dev = true) ∧
    (s.dev.faults.inj.state ≠ 1) :=
  ⟨⟨{ liveDev with can := { nmt := .operational } }, []⟩, by decide⟩

/-- The premises of clause 9 of CanNetwork are met. -/
theorem witness_canNetwork_9 : ∃ (s : State),
    ((Instr.canBusOffRecovery).wellFormed = true) ∧
    (s.Ready) ∧
    (s.dev.can.busOff = true) :=
  ⟨⟨{ liveDev with can := { nmt := .stopped, busOff := true } }, []⟩, by decide⟩

/-- The premises of clause 1 of CanTransfers are met. -/
theorem witness_canTransfers_1 : ∃ (idx sub total : Nat) (data : Bytes) (s : State),
    ((Instr.usdoInitiate true idx sub total data).wellFormed = true) ∧
    (s.Ready) ∧
    (canServes s.dev = true) ∧
    (s.dev.can.usdo = none) ∧
    (data.length < total) :=
  ⟨0x1F50, 1, 256, [byte 1], ⟨{ liveDev with can := { nmt := .preOperational } }, []⟩, by decide⟩

/-- The premises of clause 2 of CanTransfers are met. -/
theorem witness_canTransfers_2 : ∃ (write : Bool) (idx sub total : Nat) (data : Bytes) (u : Usdo) (s : State),
    ((Instr.usdoInitiate write idx sub total data).wellFormed = true) ∧
    (s.Ready) ∧
    (canServes s.dev = true) ∧
    (s.dev.can.usdo = some u) :=
  ⟨false, 0x1017, 0, 0, [], { write := true, key := 5, total := 7, data := [], seqNo := 0 }, ⟨{ liveDev with can := { nmt := .preOperational, usdo := some { write := true, key := 5, total := 7, data := [], seqNo := 0 } } }, []⟩, by decide⟩

/-- The premises of clause 3 of CanTransfers are met. -/
theorem witness_canTransfers_3 : ∃ (idx sub total : Nat) (data : Bytes) (r : ObjRow) (n : Nat) (s : State),
    ((Instr.usdoInitiate false idx sub total data).wellFormed = true) ∧
    (s.Ready) ∧
    (canServes s.dev = true) ∧
    (s.dev.can.usdo = none) ∧
    (objRow idx sub = some r) ∧
    (sub < 256) ∧
    (r.ty.len = some n) :=
  ⟨0x1017, 0, 0, [], ⟨0x1017, 0x1017, 0x0, 0x0, .u 2, .rw, .s, .n 0x3e8, .any⟩, 2, ⟨{ liveDev with can := { nmt := .preOperational } }, []⟩, by set_option maxRecDepth 20000 in decide⟩

/-- The premises of clause 4 of CanTransfers are met. -/
theorem witness_canTransfers_4 : ∃ (idx sub : Nat) (r : ObjRow) (n : Nat) (bs : Bytes) (u : Usdo) (pre post : Tbl Frame) (s : State),
    ((Instr.storeGrant).wellFormed = true) ∧
    (s.Ready) ∧
    (canServes s.dev = true) ∧
    (s.dev.store.owner = none) ∧
    (s.dev.store.spiPending = false) ∧
    (s.dev.store.cut = none) ∧
    (s.dev.boot.firmware = true) ∧
    (s.dev.boot.safeHarbour = false) ∧
    (s.dev.store.waiting = pre ++ (2, { op := 1, idx := idx, sub := sub, len := n, data := [], crcOk := true }) :: post) ∧
    ((∀ e, e ∈ pre → pathServed s.dev e.1 = false)) ∧
    (s.dev.can.usdo = some u) ∧
    (u.busy = true) ∧
    (objRow idx sub = some r) ∧
    (r.acc ≠ .wo) ∧
    (r.ty.len = some n) ∧
    (1 ≤ n ∧ n ≤ 56) ∧
    (objectBytes { s.dev with store := {
       s.dev.store with rolledNow := false, waiting := s.dev.store.waiting.erase 2 } } r idx sub = bs) ∧
    (bs.length = n) :=
  ⟨0x1017, 0, ⟨0x1017, 0x1017, 0x0, 0x0, .u 2, .rw, .s, .n 0x3e8, .any⟩, 2, [byte 0xE8, byte 3], { write := false, key := okey 0x1017 0, total := 0, data := [], seqNo := 0, busy := true }, [], [], ⟨{ liveDev with can := { nmt := .preOperational, usdo := some { write := false, key := okey 0x1017 0, total := 0, data := [], seqNo := 0, busy := true } }, store := { waiting := [(2, { op := 1, idx := 0x1017, sub := 0, len := 2, data := [], crcOk := true })] } }, []⟩, by set_option maxRecDepth 20000 in decide⟩

/-- The premises of clause 5 of CanTransfers are met. -/
theorem witness_canTransfers_5 : ∃ (seqNo : Nat) (data : Bytes) (u : Usdo) (s : State),
    ((Instr.usdoSegment seqNo data false).wellFormed = true) ∧
    (s.Ready) ∧
    (canServes s.dev = true) ∧
    (s.dev.can.usdo = some u) ∧
    (u.busy = false) ∧
    (u.write = true) ∧
    (seqNo = u.seqNo) ∧
    (u.data.length + data.length < u.total) :=
  ⟨255, [byte 1], { write := true, key := 5, total := 700, data := [], seqNo := 255 }, ⟨{ liveDev with can := { nmt := .preOperational, usdo := some { write := true, key := 5, total := 700, data := [], seqNo := 255 } } }, []⟩, by decide⟩

/-- The premises of clause 6 of CanTransfers are met. -/
theorem witness_canTransfers_6 : ∃ (seqNo : Nat) (data : Bytes) (last : Bool) (u : Usdo) (s : State),
    ((Instr.usdoSegment seqNo data last).wellFormed = true) ∧
    (s.Ready) ∧
    (canServes s.dev = true) ∧
    (s.dev.can.usdo = some u) ∧
    (u.busy = false) ∧
    (seqNo ≠ u.seqNo) :=
  ⟨0, [byte 1], true, { write := true, key := 5, total := 700, data := [], seqNo := 255 }, ⟨{ liveDev with can := { nmt := .preOperational, usdo := some { write := true, key := 5, total := 700, data := [], seqNo := 255 } } }, []⟩, by decide⟩

/-- The premises of clause 7 of CanTransfers are met. -/
theorem witness_canTransfers_7 : ∃ (seqNo : Nat) (data : Bytes) (last : Bool) (u : Usdo) (s : State),
    ((Instr.usdoSegment seqNo data last).wellFormed = true) ∧
    (s.Ready) ∧
    (canServes s.dev = true) ∧
    (s.dev.can.usdo = some u) ∧
    (u.busy = false) ∧
    (u.write = false) ∧
    (seqNo = u.seqNo) :=
  ⟨3, [], false, { write := false, key := 5, total := 61, data := (List.replicate 61 (byte 7)), seqNo := 3 }, ⟨{ liveDev with can := { nmt := .preOperational, usdo := some { write := false, key := 5, total := 61, data := (List.replicate 61 (byte 7)), seqNo := 3 } } }, []⟩, by decide⟩

/-- The premises of clause 8 of CanTransfers are met. -/
theorem witness_canTransfers_8 : ∃ (u : Usdo) (s : State),
    ((Instr.usdoTimeout).wellFormed = true) ∧
    (s.Ready) ∧
    (s.dev.can.usdo = some u) ∧
    (u.busy = false) :=
  ⟨{ write := true, key := 5, total := 700, data := [], seqNo := 255 }, ⟨{ liveDev with can := { nmt := .preOperational, usdo := some { write := true, key := 5, total := 700, data := [], seqNo := 255 } } }, []⟩, by decide⟩

/-- The premises of clause 9 of CanTransfers are met. -/
theorem witness_canTransfers_9 : ∃ (m : Bytes) (rest : List Bytes) (s : State),
    ((Instr.emcyTransmit).wellFormed = true) ∧
    (s.Ready) ∧
    (canServes s.dev = true) ∧
    (s.dev.can.emcy = m :: rest) ∧
    ((cobOf s.dev 0x1014 0).2 = false) :=
  ⟨[byte 1], [[byte 2]], ⟨{ liveDev with can := { nmt := .preOperational, emcy := [[byte 1], [byte 2]] } }, []⟩, by set_option maxRecDepth 20000 in decide⟩

/-- The premises of clause 10 of CanTransfers are met. -/
theorem witness_canTransfers_10 : ∃ (k : Nat) (s : State),
    ((Instr.tpdoEvent k).wellFormed = true) ∧
    (s.Ready) ∧
    (canRuns s.dev = true) ∧
    (s.dev.can.nmt = .operational) ∧
    ((cobOf s.dev (0x1800 + k) 1).2 = false) ∧
    (s.dev.cfg.nat (0x1800 + k) 5 ≠ 0 ∨ k ≠ 1 ∧ s.dev.can.tpdo.find? k ≠ some (tpdoPayload s.dev k)) ∧
    (s.dev.boot.safeHarbour = false) :=
  ⟨3, ⟨{ liveDev with can := { nmt := .operational } }, []⟩, by set_option maxRecDepth 20000 in decide⟩

/-- The premises of clause 1 of CounterClears are met. -/
theorem witness_counterClears_1 : ∃ (path : Nat) (s : State),
    ((Instr.clearCrossingRecords path 0x6E756C63).wellFormed = true) ∧
    (s.Ready) ∧
    (PathFree s.dev path) ∧
    (mayWrite s.dev path 0x2506 1 = true) :=
  ⟨16, ⟨{ liveDev with doms := [(1, { losses := 3 })] }, []⟩, by set_option maxRecDepth 20000 in decide⟩

/-- The premises of clause 2 of CounterClears are met. -/
theorem witness_counterClears_2 : ∃ (path v : Nat) (s : State),
    ((Instr.clearCrossingRecords path v).wellFormed = true) ∧
    (s.Ready) ∧
    (PathFree s.dev path) ∧
    (mayWrite s.dev path 0x2506 1 = true) ∧
    (v ≠ 0x6E756C63) :=
  ⟨0, 5, ⟨{ liveDev with store := { spi := { granted := true } } }, []⟩, by set_option maxRecDepth 20000 in decide⟩

/-- The premises of clause 3 of CounterClears are met. -/
theorem witness_counterClears_3 : ∃ (path : Nat) (s : State),
    ((Instr.clearQueueCounters path 0x6E756C63).wellFormed = true) ∧
    (s.Ready) ∧
    (PathFree s.dev path) ∧
    (mayWrite s.dev path 0x2750 1 = true) :=
  ⟨1, ⟨{ liveDev with queues := { se := [(3, { counts := [(3, 7)] })] }, host := { bellCounts := [(1, 2)] } }, []⟩, by set_option maxRecDepth 20000 in decide⟩

/-- The premises of clause 4 of CounterClears are met. -/
theorem witness_counterClears_4 : ∃ (path : Nat) (s : State),
    ((Instr.clearAdmissions path 0x6E756C63).wellFormed = true) ∧
    (s.Ready) ∧
    (PathFree s.dev path) ∧
    (mayWrite s.dev path 0x2806 3 = true) :=
  ⟨16, ⟨{ liveDev with host := { admissions := [(5, 6)] } }, []⟩, by set_option maxRecDepth 20000 in decide⟩

/-- The premises of clause 5 of CounterClears are met. -/
theorem witness_counterClears_5 : ∃ (path : Nat) (s : State),
    ((Instr.clearHostCounters path 0x6E756C63).wellFormed = true) ∧
    (s.Ready) ∧
    (PathFree s.dev path) ∧
    (mayWrite s.dev path 0x2860 1 = true) :=
  ⟨16, ⟨{ liveDev with host := { placed := 6 } }, []⟩, by set_option maxRecDepth 20000 in decide⟩

/-- The premises of clause 6 of CounterClears are met. -/
theorem witness_counterClears_6 : ∃ (path : Nat) (s : State),
    ((Instr.clearConverterCounters path 0x6E756C63).wellFormed = true) ∧
    (s.Ready) ∧
    (PathFree s.dev path) ∧
    (mayWrite s.dev path 0x2A80 1 = true) :=
  ⟨1, ⟨{ liveDev with conv := { lane := [(3, { crc := 5 })] } }, []⟩, by set_option maxRecDepth 20000 in decide⟩

/-- The premises of clause 7 of CounterClears are met. -/
theorem witness_counterClears_7 : ∃ (path : Nat) (s : State),
    ((Instr.clearEthernetCounters path 0x6E756C63).wellFormed = true) ∧
    (s.Ready) ∧
    (PathFree s.dev path) ∧
    (mayWrite s.dev path 0x2B70 3 = true) :=
  ⟨1, ⟨{ liveDev with eth := { port := [(3, { link := 2, counts := [(4, 5)] })] } }, []⟩, by set_option maxRecDepth 20000 in decide⟩

/-- The premises of clause 8 of CounterClears are met. -/
theorem witness_counterClears_8 : ∃ (path : Nat) (s : State),
    ((Instr.clearOperatorCounters path 0x6E756C63).wellFormed = true) ∧
    (s.Ready) ∧
    (PathFree s.dev path) ∧
    (mayWrite s.dev path 0x2C30 1 = true) :=
  ⟨2, ⟨{ liveDev with ops := [(7, { counts := [(4, 5)] })] }, []⟩, by set_option maxRecDepth 20000 in decide⟩

/-- The premises of clause 9 of CounterClears are met. -/
theorem witness_counterClears_9 : ∃ (path : Nat) (s : State),
    ((Instr.clearTimingCounters path 0x6E756C63).wellFormed = true) ∧
    (s.Ready) ∧
    (PathFree s.dev path) ∧
    (mayWrite s.dev path 0x2D70 1 = true) :=
  ⟨2, ⟨{ liveDev with timing := { switches := 4, line := [(2, { counts := [(0xB, 7)] })] } }, []⟩, by set_option maxRecDepth 20000 in decide⟩

/-- The premises of clause 10 of CounterClears are met. -/
theorem witness_counterClears_10 : ∃ (path : Nat) (s : State),
    ((Instr.clearLinkErrorRecords path 0x6E756C63).wellFormed = true) ∧
    (s.Ready) ∧
    (PathFree s.dev path) ∧
    (mayWrite s.dev path 0x2181 1 = true) :=
  ⟨2, ⟨{ liveDev with net := { cap := { valid := true, vc := 3 }, routers := [(5, { stopped := 1, counts := [(1, 7)] })] } }, []⟩, by set_option maxRecDepth 20000 in decide⟩

/-- The premises of clause 11 of CounterClears are met. -/
theorem witness_counterClears_11 : ∃ (path : Nat) (s : State),
    ((Instr.clearBridgeCounters path 0x6E756C63).wellFormed = true) ∧
    (s.Ready) ∧
    (PathFree s.dev path) ∧
    (mayWrite s.dev path 0x2431 1 = true) :=
  ⟨2, ⟨{ liveDev with bridge := { errAddr := 8 } }, []⟩, by set_option maxRecDepth 20000 in decide⟩

/-- The premises of clause 12 of CounterClears are met. -/
theorem witness_counterClears_12 : ∃ (path j : Nat) (s : State),
    ((Instr.probeClear path j).wellFormed = true) ∧
    (s.Ready) ∧
    (PathFree s.dev path) ∧
    (mayWrite s.dev path (0x2F20 + j) 1 = true) :=
  ⟨2, 15, ⟨{ liveDev with probes := { probe := [(15, { packets := 8, state := 2 })] } }, []⟩, by set_option maxRecDepth 20000 in decide⟩

/-- The premises of clause 1 of FaultObjects are met. -/
theorem witness_faultObjects_1 : ∃ (path n : Nat) (s : State),
    ((Instr.clearSource path n 0x6E756C63).wellFormed = true) ∧
    (s.Ready) ∧
    (PathFree s.dev path) ∧
    (mayWrite s.dev path (0x4000 + n) 0xC = true) ∧
    ((s.dev.source n).severe = false) :=
  ⟨2, 0x40, ⟨{ liveDev with faults := { src := [(0x40, { total := 9, pre := some { src := 0x40 } })] } }, []⟩, by set_option maxRecDepth 20000 in decide⟩

/-- The premises of clause 2 of FaultObjects are met. -/
theorem witness_faultObjects_2 : ∃ (path n : Nat) (s : State),
    ((Instr.clearSource path n 0x6E756C63).wellFormed = true) ∧
    (s.Ready) ∧
    (PathFree s.dev path) ∧
    (mayWrite s.dev path (0x4000 + n) 0xC = true) ∧
    ((s.dev.source n).severe = true) ∧
    (s.dev.boot.firmware = true ∧ s.dev.can.enabled = true ∧ s.dev.can.emcy.length < 16) :=
  ⟨2, 0x40, ⟨{ liveDev with faults := { src := [(0x40, { total := 9, severe := true })] } }, []⟩, by set_option maxRecDepth 20000 in decide⟩

/-- The premises of clause 3 of FaultObjects are met. -/
theorem witness_faultObjects_3 : ∃ (path : Nat) (s : State),
    ((Instr.clearAllSources path 0x6E756C63).wellFormed = true) ∧
    (s.Ready) ∧
    (PathFree s.dev path) ∧
    (mayWrite s.dev path 0x2E03 1 = true) ∧
    (s.dev.boot.firmware = false ∨ s.dev.can.enabled = false) :=
  ⟨0, ⟨{ liveDev with can := { enabled := false }, store := { spi := { granted := true } }, faults := { first := 5, src := [(0x40, { total := 9, severe := true })] } }, []⟩, by set_option maxRecDepth 20000 in decide⟩

/-- The premises of clause 4 of FaultObjects are met. -/
theorem witness_faultObjects_4 : ∃ (path : Nat) (s : State),
    ((Instr.clearFaultN path 0x6E756C63).wellFormed = true) ∧
    (s.Ready) ∧
    (PathFree s.dev path) ∧
    (mayWrite s.dev path 0x2E01 2 = true) :=
  ⟨16, ⟨{ liveDev with faults := { resetFlag := true, everEnabled := true, src := [(0x40, { total := 9, faultN := true })] } }, []⟩, by set_option maxRecDepth 20000 in decide⟩

/-- The premises of clause 5 of FaultObjects are met. -/
theorem witness_faultObjects_5 : ∃ (path v : Nat) (s : State),
    ((Instr.fieldInjection path v).wellFormed = true) ∧
    (s.Ready) ∧
    (PathFree s.dev path) ∧
    (mayWrite s.dev path 0x2E10 1 = true) ∧
    (v < 2 ^ 24) ∧
    ((0xA0 ≤ v % 256 ∧ v % 256 ≤ 0xB7) ∨ v / 65536 = 0) ∧
    (fieldInjectable (v % 256) (v / 65536) = true) ∧
    (s.dev.faults.inj.state ≠ 1) :=
  ⟨16, 0x0B05A0, ⟨liveDev, []⟩, by set_option maxRecDepth 20000 in decide⟩

/-- The premises of clause 6 of FaultObjects are met. -/
theorem witness_faultObjects_6 : ∃ (path v : Nat) (s : State),
    ((Instr.fieldInjection path v).wellFormed = true) ∧
    (s.Ready) ∧
    (PathFree s.dev path) ∧
    (mayWrite s.dev path 0x2E10 1 = true) ∧
    (v < 2 ^ 24) ∧
    ((0xA0 ≤ v % 256 ∧ v % 256 ≤ 0xB7) ∨ v / 65536 = 0) ∧
    (fieldInjectable (v % 256) (v / 65536) = true) ∧
    (s.dev.faults.inj.state = 1) :=
  ⟨16, 0x1840, ⟨{ liveDev with faults := { inj := { state := 1 } } }, []⟩, by set_option maxRecDepth 20000 in decide⟩

/-- The premises of clause 7 of FaultObjects are met. -/
theorem witness_faultObjects_7 : ∃ (path v : Nat) (s : State),
    ((Instr.fieldInjection path v).wellFormed = true) ∧
    (s.Ready) ∧
    (PathFree s.dev path) ∧
    (mayWrite s.dev path 0x2E10 1 = true) ∧
    (v < 2 ^ 24) ∧
    ((0xA0 ≤ v % 256 ∧ v % 256 ≤ 0xB7) ∨ v / 65536 = 0) ∧
    (fieldInjectable (v % 256) (v / 65536) = false) :=
  ⟨16, 0xFF, ⟨liveDev, []⟩, by set_option maxRecDepth 20000 in decide⟩

/-- The premises of clause 8 of FaultObjects are met. -/
theorem witness_faultObjects_8 : ∃ (path v : Nat) (s : State),
    ((Instr.cancelInjection path v).wellFormed = true) ∧
    (s.Ready) ∧
    (PathFree s.dev path) ∧
    (mayWrite s.dev path 0x2E10 3 = true) ∧
    (s.dev.faults.inj.state = 1) :=
  ⟨16, 5, ⟨{ liveDev with faults := { inj := { state := 1 } } }, []⟩, by set_option maxRecDepth 20000 in decide⟩

/-- The premises of clause 9 of FaultObjects are met. -/
theorem witness_faultObjects_9 : ∃ (path v : Nat) (s : State),
    ((Instr.factoryInjection path v).wellFormed = true) ∧
    (s.Ready) ∧
    (PathFree s.dev path) ∧
    (mayWrite s.dev path 0x2E11 1 = true) ∧
    (s.dev.power.testMode = true ∧ s.dev.otp.testOn = true) ∧
    (reservedSource (v % 256) = false) ∧
    (s.dev.faults.inj.state ≠ 1) :=
  ⟨16, 0x1840, ⟨{ liveDev with power := { testMode := true }, otp := { testOn := true } }, []⟩, by set_option maxRecDepth 20000 in decide⟩

/-- The premises of clause 10 of FaultObjects are met. -/
theorem witness_faultObjects_10 : ∃ (path v : Nat) (s : State),
    ((Instr.factoryInjection path v).wellFormed = true) ∧
    (s.Ready) ∧
    (PathFree s.dev path) ∧
    (mayWrite s.dev path 0x2E11 1 = true) ∧
    (s.dev.power.testMode = false ∨ s.dev.otp.testOn = false) :=
  ⟨16, 0x1840, ⟨{ liveDev with power := { testMode := true } }, []⟩, by set_option maxRecDepth 20000 in decide⟩

/-- The premises of clause 11 of FaultObjects are met. -/
theorem witness_faultObjects_11 : ∃ (path : Nat) (s : State),
    ((Instr.acknowledgeDiscrepancy path 0x6E756C63).wellFormed = true) ∧
    (s.Ready) ∧
    (PathFree s.dev path) ∧
    (mayWrite s.dev path 0x2E30 3 = true) ∧
    (s.dev.inhibit.aLevel = true ∧ s.dev.inhibit.bLevel = false) ∧
    (s.dev.inhibit.latched = true) :=
  ⟨16, ⟨{ liveDev with inhibit := { latched := true, count := 5 } }, []⟩, by set_option maxRecDepth 20000 in decide⟩

/-- The premises of clause 12 of FaultObjects are met. -/
theorem witness_faultObjects_12 : ∃ (path : Nat) (s : State),
    ((Instr.acknowledgeDiscrepancy path 0x6E756C63).wellFormed = true) ∧
    (s.Ready) ∧
    (PathFree s.dev path) ∧
    (mayWrite s.dev path 0x2E30 3 = true) ∧
    (s.dev.inhibit.aLevel = false ∨ s.dev.inhibit.bLevel = true) :=
  ⟨16, ⟨{ liveDev with inhibit := { latched := true, bLevel := true } }, []⟩, by set_option maxRecDepth 20000 in decide⟩

/-- The premises of clause 1 of LockCommands are met. -/
theorem witness_lockCommands_1 : ∃ (path p : Nat) (s : State),
    ((Instr.partitionFence path p).wellFormed = true) ∧
    (s.Ready) ∧
    (PathFree s.dev path) ∧
    (mayWrite s.dev path (0x2610 + p) 1 = true) ∧
    ((s.dev.part p).state = 0) :=
  ⟨19, 3, ⟨liveDev, []⟩, by set_option maxRecDepth 20000 in decide⟩

/-- The premises of clause 2 of LockCommands are met. -/
theorem witness_lockCommands_2 : ∃ (path p : Nat) (s : State),
    ((Instr.partitionFence path p).wellFormed = true) ∧
    (s.Ready) ∧
    (PathFree s.dev path) ∧
    (mayWrite s.dev path (0x2610 + p) 1 = true) ∧
    ((s.dev.part p).state = 5) :=
  ⟨16, 3, ⟨{ liveDev with parts := [(3, { state := 5 })] }, []⟩, by set_option maxRecDepth 20000 in decide⟩

/-- The premises of clause 3 of LockCommands are met. -/
theorem witness_lockCommands_3 : ∃ (path p : Nat) (s : State),
    ((Instr.partitionReset path p).wellFormed = true) ∧
    (s.Ready) ∧
    (PathFree s.dev path) ∧
    (mayWrite s.dev path (0x2610 + p) 1 = true) ∧
    ((s.dev.part p).state = 2 ∨ (s.dev.part p).state = 4) ∧
    (s.dev.resets.linkLoss ≠ 2) :=
  ⟨19, 3, ⟨{ liveDev with parts := [], boxes := [(3, { overrun := true })] }, []⟩, by set_option maxRecDepth 20000 in decide⟩

/-- The premises of clause 4 of LockCommands are met. -/
theorem witness_lockCommands_4 : ∃ (path p : Nat) (s : State),
    ((Instr.partitionRelease path p).wellFormed = true) ∧
    (s.Ready) ∧
    (PathFree s.dev path) ∧
    (mayWrite s.dev path (0x2610 + p) 1 = true) ∧
    ((s.dev.part p).state = 2 ∨ (s.dev.part p).state = 4) ∧
    (s.dev.resets.linkLoss ≠ 2) :=
  ⟨19, 3, ⟨{ liveDev with parts := [] }, []⟩, by set_option maxRecDepth 20000 in decide⟩

/-- The premises of clause 5 of LockCommands are met. -/
theorem witness_lockCommands_5 : ∃ (path u : Nat) (s : State),
    ((Instr.unitReset path u 1).wellFormed = true) ∧
    (s.Ready) ∧
    (PathFree s.dev path) ∧
    (mayWrite s.dev path 0x2602 (u + 1) = true) ∧
    (unitResettable u = true) ∧
    (strongerRuns s.dev = false) :=
  ⟨16, 66, ⟨{ liveDev with probes := { probe := [(0, { state := 2 })] } }, []⟩, by set_option maxRecDepth 20000 in decide⟩

/-- The premises of clause 6 of LockCommands are met. -/
theorem witness_lockCommands_6 : ∃ (path u : Nat) (s : State),
    ((Instr.unitReset path u 1).wellFormed = true) ∧
    (s.Ready) ∧
    (PathFree s.dev path) ∧
    (mayWrite s.dev path 0x2602 (u + 1) = true) ∧
    (unitResettable u = false) :=
  ⟨16, 64, ⟨liveDev, []⟩, by set_option maxRecDepth 20000 in decide⟩

/-- The premises of clause 7 of LockCommands are met. -/
theorem witness_lockCommands_7 : ∃ (path k : Nat) (s : State),
    ((Instr.pdFence path k).wellFormed = true) ∧
    (s.Ready) ∧
    (PathFree s.dev path) ∧
    (mayWrite s.dev path (0x2630 + k) 1 = true) ∧
    ((s.dev.pd k).state = 3) :=
  ⟨16, 2, ⟨liveDev, []⟩, by set_option maxRecDepth 20000 in decide⟩

/-- The premises of clause 8 of LockCommands are met. -/
theorem witness_lockCommands_8 : ∃ (path k : Nat) (s : State),
    ((Instr.pdOff path k).wellFormed = true) ∧
    (s.Ready) ∧
    (PathFree s.dev path) ∧
    (mayWrite s.dev path (0x2630 + k) 1 = true) ∧
    ((s.dev.pd k).state = 4) :=
  ⟨16, 2, ⟨{ liveDev with pds := [(2, { state := 4 })] }, []⟩, by set_option maxRecDepth 20000 in decide⟩

/-- The premises of clause 9 of LockCommands are met. -/
theorem witness_lockCommands_9 : ∃ (path k : Nat) (s : State),
    ((Instr.pdOff path k).wellFormed = true) ∧
    (s.Ready) ∧
    (PathFree s.dev path) ∧
    (mayWrite s.dev path (0x2630 + k) 1 = true) ∧
    ((s.dev.pd k).state = 2 ∨ (s.dev.pd k).state = 6) :=
  ⟨16, 11, ⟨{ liveDev with pds := [(11, { state := 2 })] }, []⟩, by set_option maxRecDepth 20000 in decide⟩

/-- The premises of clause 10 of LockCommands are met. -/
theorem witness_lockCommands_10 : ∃ (path k : Nat) (s : State),
    ((Instr.pdOn path k).wellFormed = true) ∧
    (s.Ready) ∧
    (PathFree s.dev path) ∧
    (mayWrite s.dev path (0x2630 + k) 1 = true) ∧
    ((s.dev.pd k).state = 0 ∨ (s.dev.pd k).state = 6) :=
  ⟨16, 2, ⟨{ liveDev with pds := [(2, { state := 6 })] }, []⟩, by set_option maxRecDepth 20000 in decide⟩

/-- The premises of clause 11 of LockCommands are met. -/
theorem witness_lockCommands_11 : ∃ (path k : Nat) (s : State),
    ((Instr.pdRelease path k).wellFormed = true) ∧
    (s.Ready) ∧
    (PathFree s.dev path) ∧
    (mayWrite s.dev path (0x2630 + k) 1 = true) ∧
    ((s.dev.pd k).state = 2) :=
  ⟨16, 2, ⟨{ liveDev with pds := [(2, { state := 2 })] }, []⟩, by set_option maxRecDepth 20000 in decide⟩

/-- The premises of clause 1 of TimeObjects are met. -/
theorem witness_timeObjects_1 : ∃ (path : Nat) (data : Bytes) (s : State),
    ((Instr.setTime path data).wellFormed = true) ∧
    (s.Ready) ∧
    (PathFree s.dev path) ∧
    (mayWrite s.dev path 0x2D11 1 = true) ∧
    (data.length = 12) ∧
    (data.le 6 4 < 1000000000 ∧ data.le 10 2 = 0) ∧
    (timeWriteRefused s.dev path = false) ∧
    (s.dev.timing.pending = none) ∧
    (s.dev.faults.inj.state ≠ 1) :=
  ⟨16, (leBytes 6 5 ++ leBytes 4 999999999 ++ leBytes 2 0), ⟨liveDev, []⟩, by set_option maxRecDepth 20000 in decide⟩

/-- The premises of clause 2 of TimeObjects are met. -/
theorem witness_timeObjects_2 : ∃ (path : Nat) (data : Bytes) (s : State),
    ((Instr.setTime path data).wellFormed = true) ∧
    (s.Ready) ∧
    (PathFree s.dev path) ∧
    (mayWrite s.dev path 0x2D11 1 = true) ∧
    (data.length = 12) ∧
    (data.le 6 4 < 1000000000 ∧ data.le 10 2 = 0) ∧
    (timeWriteRefused s.dev path = true) :=
  ⟨16, (leBytes 6 5 ++ leBytes 4 999999999 ++ leBytes 2 0), ⟨{ liveDev with doms := [(0x29, { shadow := [(0x2D1002, [byte 1])] })] }, []⟩, by set_option maxRecDepth 20000 in decide⟩

/-- The premises of clause 3 of TimeObjects are met. -/
theorem witness_timeObjects_3 : ∃ (path : Nat) (x : Int) (s : State),
    ((Instr.adjustTime path x).wellFormed = true) ∧
    (s.Ready) ∧
    (PathFree s.dev path) ∧
    (mayWrite s.dev path 0x2D11 2 = true) ∧
    (timeWriteRefused s.dev path = false) ∧
    (x.natAbs ≤ s.dev.tcfg.nat 0x2D10 4) :=
  ⟨16, (-1000), ⟨{ liveDev with doms := [(0x29, { shadow := [(0x2D1004, [byte 0xE8, byte 3, byte 0, byte 0])] })] }, []⟩, by set_option maxRecDepth 20000 in decide⟩

/-- The premises of clause 4 of TimeObjects are met. -/
theorem witness_timeObjects_4 : ∃ (path v : Nat) (s : State),
    ((Instr.setUtc path v).wellFormed = true) ∧
    (s.Ready) ∧
    (PathFree s.dev path) ∧
    (mayWrite s.dev path 0x2D20 2 = true) ∧
    (calendarOk v = true) ∧
    (timeWriteRefused s.dev path = false) ∧
    (s.dev.timing.pending = none) ∧
    (s.dev.faults.inj.state ≠ 1) :=
  ⟨16, 0x07D0021D173B3B00, ⟨liveDev, []⟩, by set_option maxRecDepth 20000 in decide⟩

/-- The premises of clause 5 of TimeObjects are met. -/
theorem witness_timeObjects_5 : ∃ (path v : Nat) (s : State),
    ((Instr.setUtc path v).wellFormed = true) ∧
    (s.Ready) ∧
    (PathFree s.dev path) ∧
    (mayWrite s.dev path 0x2D20 2 = true) ∧
    (calendarOk v = false) :=
  ⟨16, 0x07D1021D173B3B00, ⟨liveDev, []⟩, by set_option maxRecDepth 20000 in decide⟩

/-- The premises of clause 6 of TimeObjects are met. -/
theorem witness_timeObjects_6 : ∃ (path k : Nat) (s : State),
    ((Instr.sysrefReanchor path k 0x6E756C63).wellFormed = true) ∧
    (s.Ready) ∧
    (PathFree s.dev path) ∧
    (mayWrite s.dev path (0x2D40 + k) 7 = true) :=
  ⟨16, 5, ⟨liveDev, []⟩, by set_option maxRecDepth 20000 in decide⟩

/-- The premises of clause 7 of TimeObjects are met. -/
theorem witness_timeObjects_7 : ∃ (path j : Nat) (s : State),
    ((Instr.probeArm path j).wellFormed = true) ∧
    (s.Ready) ∧
    (PathFree s.dev path) ∧
    (mayWrite s.dev path (0x2F20 + j) 1 = true) ∧
    ((s.dev.probe j).state = 0 ∨ (s.dev.probe j).state = 3) ∧
    (s.dev.probeCfg j 0xB ≠ 0) :=
  ⟨16, 15, ⟨{ liveDev with doms := [(1, { shadow := [(0x2F1F0B, [byte 1])] })] }, []⟩, by set_option maxRecDepth 20000 in decide⟩

/-- The premises of clause 8 of TimeObjects are met. -/
theorem witness_timeObjects_8 : ∃ (path j : Nat) (s : State),
    ((Instr.probeStop path j).wellFormed = true) ∧
    (s.Ready) ∧
    (PathFree s.dev path) ∧
    (mayWrite s.dev path (0x2F20 + j) 1 = true) ∧
    ((s.dev.probe j).state = 1 ∨ (s.dev.probe j).state = 2) :=
  ⟨16, 15, ⟨{ liveDev with probes := { probe := [(15, { state := 2, interval := 7 })] } }, []⟩, by set_option maxRecDepth 20000 in decide⟩

/-- The premises of clause 9 of TimeObjects are met. -/
theorem witness_timeObjects_9 : ∃ (st delay p : Nat) (off adj : Int) (f : FwFrame) (rest : List FwFrame) (s : State),
    ((Instr.ptpMessage st off delay adj).wellFormed = true) ∧
    (s.Ready) ∧
    (s.dev.boot.firmware = true) ∧
    (s.dev.tcfg.nat 0x2D12 1 = p) ∧
    ((s.dev.eport p).toFw = f :: rest) ∧
    (4 ≤ p ∨ ptpWanted s.dev f.frame = false) :=
  ⟨1, 0, 0, 0, 0, { frame := [byte 1], stamp := 0, valid := true }, [], ⟨{ liveDev with doms := [(0x29, { shadow := [(0x2D1201, [byte 0])] })], eth := { port := [(0, { link := 2, toFw := [{ frame := [byte 1], stamp := 0, valid := true }] })] } }, []⟩, by set_option maxRecDepth 20000 in decide⟩

/-- The premises of clause 10 of TimeObjects are met. -/
theorem witness_timeObjects_10 : ∃ (n q : Nat) (m : Packet) (rest : List Packet) (s : State),
    ((Instr.mqDequeue n q .none).wellFormed = true) ∧
    (s.Ready) ∧
    ((s.dev.ni n).mq.get [] q = m :: rest) ∧
    (s.dev.unitUp n = true) ∧
    (32 ≤ n ∧ n < 40 ∨ 44 ≤ n) :=
  ⟨32, 1, { dest := 32, src := 24, ty := 4, cls := 2, part := 0 }, [], ⟨{ liveDev with nis := [(32, { mq := [(1, [{ dest := 32, src := 24, ty := 4, cls := 2, part := 0 }])] })] }, []⟩, by decide⟩

/-- The premises of clause 11 of TimeObjects are met. -/
theorem witness_timeObjects_11 : ∃ (n q : Nat) (m : Packet) (rest : List Packet) (s : State),
    ((Instr.mqDequeue n q .uncorrectable).wellFormed = true) ∧
    (s.Ready) ∧
    ((s.dev.ni n).mq.get [] q = m :: rest) ∧
    (s.dev.unitUp n = true) ∧
    (s.dev.faults.inj.state ≠ 1) :=
  ⟨24, 0, { dest := 24, src := 40, ty := 4, cls := 2, part := 0 }, [], ⟨{ liveDev with nis := [(24, { mq := [(0, [{ dest := 24, src := 40, ty := 4, cls := 2, part := 0 }])] })] }, []⟩, by decide⟩

/-- The premises of clause 1 of UpdateObjects are met. -/
theorem witness_updateObjects_1 : ∃ (path : Nat) (s : State),
    ((Instr.openUpdate path).wellFormed = true) ∧
    (s.Ready) ∧
    (PathFree s.dev path) ∧
    (mayWrite s.dev path 0x1F51 1 = true) ∧
    (s.dev.boot.update = 0 ∨ s.dev.boot.update = 4 ∨ s.dev.boot.update = 5) ∧
    (s.dev.boot.path = 0xFF ∨ s.dev.boot.path = path) ∧
    (s.dev.boot.running < 2) :=
  ⟨2, ⟨{ liveDev with boot := { firmware := true, running := 1 }, flash := { firmware := [(0, [byte 1]), (1, [byte 2])] } }, []⟩, by set_option maxRecDepth 20000 in decide⟩

/-- The premises of clause 2 of UpdateObjects are met. -/
theorem witness_updateObjects_2 : ∃ (path : Nat) (s : State),
    ((Instr.openUpdate path).wellFormed = true) ∧
    (s.Ready) ∧
    (PathFree s.dev path) ∧
    (mayWrite s.dev path 0x1F51 1 = true) ∧
    (s.dev.boot.update = 1 ∨ s.dev.boot.update = 2 ∨ s.dev.boot.update = 3) :=
  ⟨2, ⟨{ liveDev with boot := { firmware := true, running := 1, update := 3 } }, []⟩, by set_option maxRecDepth 20000 in decide⟩

/-- The premises of clause 3 of UpdateObjects are met. -/
theorem witness_updateObjects_3 : ∃ (path : Nat) (s : State),
    ((Instr.openUpdate path).wellFormed = true) ∧
    (s.Ready) ∧
    (PathFree s.dev path) ∧
    (mayWrite s.dev path 0x1F51 1 = true) ∧
    (s.dev.boot.update = 4 ∨ s.dev.boot.update = 5) ∧
    (s.dev.boot.path ≠ 0xFF ∧ s.dev.boot.path ≠ path) :=
  ⟨2, ⟨{ liveDev with boot := { firmware := true, running := 1, update := 4, path := 16 } }, []⟩, by set_option maxRecDepth 20000 in decide⟩

/-- The premises of clause 4 of UpdateObjects are met. -/
theorem witness_updateObjects_4 : ∃ (path n : Nat) (data : Bytes) (s : State),
    ((Instr.updateData path data n).wellFormed = true) ∧
    (s.Ready) ∧
    (PathFree s.dev path) ∧
    (mayWrite s.dev path 0x1F50 1 = true) ∧
    (1 ≤ data.length ∧ data.length ≤ 256) ∧
    (s.dev.boot.update = 2) ∧
    (s.dev.boot.path = 0xFF ∨ s.dev.boot.path = path) ∧
    ((s.dev.boot.buffer.drop n).length + data.length ≤ 65536) ∧
    (s.dev.boot.received + data.length ≤ 4194304) :=
  ⟨2, 1, [byte 7], ⟨{ liveDev with boot := { firmware := true, running := 1, update := 2, path := 2, target := 0, buffer := [byte 1, byte 2] } }, []⟩, by set_option maxRecDepth 20000 in decide⟩

/-- The premises of clause 5 of UpdateObjects are met. -/
theorem witness_updateObjects_5 : ∃ (path : Nat) (s : State),
    ((Instr.verify path).wellFormed = true) ∧
    (s.Ready) ∧
    (PathFree s.dev path) ∧
    (mayWrite s.dev path 0x1F51 1 = true) ∧
    (s.dev.boot.update = 2) ∧
    (s.dev.boot.path = 0xFF ∨ s.dev.boot.path = path) :=
  ⟨2, ⟨{ liveDev with boot := { firmware := true, update := 2, path := 2 } }, []⟩, by set_option maxRecDepth 20000 in decide⟩

/-- The premises of clause 6 of UpdateObjects are met. -/
theorem witness_updateObjects_6 : ∃ (path : Nat) (s : State),
    ((Instr.cancel path).wellFormed = true) ∧
    (s.Ready) ∧
    (PathFree s.dev path) ∧
    (mayWrite s.dev path 0x1F51 1 = true) ∧
    (s.dev.boot.update ≠ 0) ∧
    (s.dev.boot.path = 0xFF ∨ s.dev.boot.path = path) :=
  ⟨2, ⟨{ liveDev with boot := { firmware := true, update := 5, path := 2 } }, []⟩, by set_option maxRecDepth 20000 in decide⟩

/-- The premises of clause 7 of UpdateObjects are met. -/
theorem witness_updateObjects_7 : ∃ (path : Nat) (s : State),
    ((Instr.activate path).wellFormed = true) ∧
    (s.Ready) ∧
    (PathFree s.dev path) ∧
    (mayWrite s.dev path 0x1F51 1 = true) ∧
    (s.dev.boot.update = 4) ∧
    (s.dev.boot.path = 0xFF ∨ s.dev.boot.path = path) ∧
    (Bytes.le (s.dev.fwSlot s.dev.boot.target) 28 2 ≤ s.dev.store.schema ∧ s.dev.store.schema ≤ Bytes.le (s.dev.fwSlot s.dev.boot.target) 30 2) :=
  ⟨2, ⟨{ liveDev with boot := { firmware := true, update := 4, path := 2, target := 1 } }, []⟩, by set_option maxRecDepth 20000 in decide⟩

/-- The premises of clause 8 of UpdateObjects are met. -/
theorem witness_updateObjects_8 : ∃ (path : Nat) (s : State),
    ((Instr.activateForce path).wellFormed = true) ∧
    (s.Ready) ∧
    (PathFree s.dev path) ∧
    (mayWrite s.dev path 0x1F51 1 = true) ∧
    (s.dev.boot.update = 4) ∧
    (s.dev.boot.path = 0xFF ∨ s.dev.boot.path = path) :=
  ⟨2, ⟨{ liveDev with boot := { firmware := true, update := 4, path := 2, target := 1 }, store := { schema := 9 } }, []⟩, by set_option maxRecDepth 20000 in decide⟩

/-- The premises of clause 9 of UpdateObjects are met. -/
theorem witness_updateObjects_9 : ∃ (path : Nat) (s : State),
    ((Instr.rollback path).wellFormed = true) ∧
    (s.Ready) ∧
    (PathFree s.dev path) ∧
    (mayWrite s.dev path 0x1F51 1 = true) ∧
    (s.dev.boot.update = 0) :=
  ⟨2, ⟨{ liveDev with boot := { firmware := true, running := 0 } }, []⟩, by set_option maxRecDepth 20000 in decide⟩

/-- The premises of clause 10 of UpdateObjects are met. -/
theorem witness_updateObjects_10 : ∃ (path : Nat) (s : State),
    ((Instr.restart path).wellFormed = true) ∧
    (s.Ready) ∧
    (PathFree s.dev path) ∧
    (mayWrite s.dev path 0x1F51 1 = true) ∧
    (s.dev.boot.update = 0) :=
  ⟨2, ⟨{ liveDev with boot := { firmware := true } }, []⟩, by set_option maxRecDepth 20000 in decide⟩

end Sys2Proof.Tests
end

section
/-! SUPPORT. How a meaning answers, case by case, and that every command's meaning is `act` or `actAlways` over its own operand
check; from this the obligation about what commands answer. -/
namespace Sys2Proof.Machine

/-! One equation per case of a meaning. -/

@[simp] theorem act_illFormed (f : Dev → Dev) (s : State) : act false f s = .refused .illFormed := rfl

@[simp] theorem actAlways_illFormed (f : Dev → Dev) (s : State) : actAlways false f s = .refused .illFormed := rfl

/-- A device held in reset takes a well-formed command and changes nothing (R27, R536). -/
theorem act_held (f : Dev → Dev) {s : State} (hr : s.dev.power.released = false) : act true f s = .next s := by
  simp [act, hr]

/-! Which meaning a command has. -/

/-- A command of the supplies, the pins and the reset sequence acts always, every other one acts once reset is released; both
check the command's own operands first. -/
theorem exec_act_or_actAlways (c : Instr) (s : State) :
    (∃ f, exec c s = act c.wellFormed f s) ∨ (actsInReset c = true ∧ ∃ f, exec c s = actAlways c.wellFormed f s) := by
  cases c with
  | perstNAssert cut => exact .inr ⟨rfl, _, rfl⟩
  | powerOn => exact .inr ⟨rfl, _, rfl⟩
  | railFall rail cut => exact .inr ⟨rfl, _, rfl⟩
  | resetRelease testMode bootSel => exact .inr ⟨rfl, _, rfl⟩
  | _ => exact .inl ⟨_, rfl⟩

/-- Operands that name nothing are refused, whatever the state (log entry 10). -/
theorem exec_illFormed {c : Instr} (hw : c.wellFormed = false) (s : State) : exec c s = .refused .illFormed := by
  obtain ⟨f, hf⟩ | ⟨-, f, hf⟩ := exec_act_or_actAlways c s
  · rw [hf, hw, act_illFormed]
  · rw [hf, hw, actAlways_illFormed]

/-- What a well-formed command answers: the state itself, or its effect, settled. So none faults (log entry 62). -/
theorem exec_wellFormed {c : Instr} (hw : c.wellFormed = true) (s : State) :
    exec c s = .next s ∨ ∃ f : Dev → Dev, exec c s = .next { s with dev := settle s.dev (f s.dev) } := by
  obtain ⟨f, hf⟩ | ⟨-, f, hf⟩ := exec_act_or_actAlways c s
  · rw [hf, hw]
    cases hr : s.dev.power.released
    · exact .inl (act_held f hr)
    · exact .inr ⟨f, act_ready f rfl hr⟩
  · rw [hf, hw]
    exact .inr ⟨f, actAlways_ready f s rfl⟩

/-- The end of a command keeps the invariant. -/
theorem settle_inv {s : State} (hi : s.Inv) (e : Dev) : State.Inv { s with dev := settle s.dev e } :=
  ⟨settle_wf hi.1 e, settle_bus s.dev e⟩

theorem exec_wellFormed_next {c : Instr} {s : State} (hw : c.wellFormed = true) (hi : s.Inv) :
    ∃ t, exec c s = .next t ∧ t.pending = s.pending ∧ t.Inv := by
  obtain h | ⟨f, h⟩ := exec_wellFormed hw s
  · exact ⟨s, h, rfl, hi⟩
  · exact ⟨_, h, rfl, settle_inv hi (f s.dev)⟩

/-- Reset holds off every command but the four that drive it (log entry 12). -/
theorem exec_held {c : Instr} {s : State} (hw : c.wellFormed = true) (hr : s.dev.power.released = false)
    (ha : actsInReset c = false) : exec c s = .next s := by
  obtain ⟨f, hf⟩ | ⟨h, -⟩ := exec_act_or_actAlways c s
  · rw [hf, hw, act_held f hr]
  · rw [ha] at h
    cases h

/-- Settles O3, from the one fact that every command's meaning is `act` or `actAlways` over its own operand check. -/
theorem answers : Obligations.Answers := fun _ s =>
  ⟨fun hw => exec_illFormed hw s, exec_wellFormed_next, exec_held⟩

end Sys2Proof.Machine
end

section
/-! SUPPORT. The state right after the release of the power-on reset, part by part. -/
namespace Sys2Proof.Machine

/-! The tables of the reset state are empty, so that each entry reads as its type's reset value. -/

@[simp] theorem reset_part (p : Nat) : State.reset.dev.part p = {} := rfl
@[simp] theorem reset_pd (k : Nat) : State.reset.dev.pd k = {} := rfl
@[simp] theorem reset_dom (k : Nat) : State.reset.dev.dom k = {} := rfl
@[simp] theorem reset_queue? (q : Nat) : State.reset.dev.queue? q = none := rfl

/-- No domain's clock runs before its first lock (R230), whatever its crossings do. -/
theorem reset_domRuns (k : Nat) : State.reset.dev.domRuns k = false := by
  simp [Dev.domRuns, Dev.clockRuns]

theorem reset_domVersion (k : Nat) : State.reset.dev.domVersion k = 0 := by
  simp [Dev.domVersion, reset_domRuns]

/-- Every unit of the device is held (R231). -/
theorem reset_held {u : Nat} (hu : u < 67) : State.reset.dev.held u = true := by
  have hall : ∀ u < 67, Tbl.has allHeld u = true := by decide
  exact hall u hu

/-! Memory. -/

/-- A byte at an address that the newest undefined range covers is the free value of that range. -/
theorem Undef.read_cons_of_covers {r : Undef} {a : Nat} (h : r.covers a = true) (us : List Undef) (f : Nat → Byte) :
    Undef.read (r :: us) f a = Config.memoryByte r.stamp a := by
  simp [Undef.read, h]

/-- No byte of the address space is defined at reset (R260, log entry 3). -/
theorem reset_stored {a : Nat} (ha : a < 2 ^ 64) : State.reset.dev.stored a = Config.memoryByte 0 a := by
  have hc : Undef.covers { lo := 0, hi := 2 ^ 64 - 1, stamp := 0 } a = true := by
    simp only [Undef.covers, Bool.and_true, decide_eq_true_eq]
    omega
  exact Undef.read_cons_of_covers hc [] _

theorem reset_inv : State.reset.Inv := ⟨rfl, rfl⟩

theorem reset_ready : State.reset.Ready := ⟨rfl, rfl⟩

/-- Settles O5, part by part: tables that are empty, fields at their reset values, units all held, and one undefined range that
covers the address space. -/
theorem resetState : Obligations.ResetState := by
  refine ⟨reset_inv, reset_ready, rfl, fun p => ?part, fun k => ?pd, reset_queue?, rfl, rfl, rfl,
    fun k => ⟨reset_domRuns k, reset_domVersion k⟩, rfl, rfl, rfl, fun _ => reset_held, fun _ => reset_stored⟩
  case part => simp [Dev.fenceBit]
  case pd => simp

end Sys2Proof.Machine
end

section
/-! SUPPORT. Commands that leave the clock and main memory alone complete with their effect as it stands. -/
namespace Sys2Proof.Machine

/-- `t` has the clock, the memory and the memory changes of `d`. -/
def MemoryKept (d t : Dev) : Prop := t.clock = d.clock ∧ t.mem = d.mem ∧ t.undef = d.undef ∧ t.bus = d.bus

/-- The end of a command adds nothing to an effect that keeps clock and memory. -/
theorem settle_of_memoryKept {d t : Dev} (hb : d.bus = []) (hk : MemoryKept d t) : settle d t = t := by
  obtain ⟨hclock, hmem, hundef, hbus⟩ := hk
  calc settle d t = settle t t := by simp only [settle, hclock, hmem, hundef]
    _ = t := settle_self (hbus.trans hb)

/-- A command whose effect keeps clock and memory completes with that effect. -/
theorem completes_of_effect {c : Instr} {f : Dev → Dev} {s : State} {t : Dev} {P : Dev → Prop}
    (he : exec c s = act c.wellFormed f s) (hw : c.wellFormed = true) (hs : s.Ready) (hf : f s.dev = t) (hp : P t)
    (hk : MemoryKept s.dev t := by exact ⟨rfl, rfl, rfl, rfl⟩) : Completes c s P := by
  refine ⟨t, ?_, hp⟩
  rw [he, act_ready f hw hs.1, hf, settle_of_memoryKept hs.2 hk]

/-- An event of a source that no armed injection names joins those on their way to FCOL (R472). -/
theorem Dev.raise_of_not_armed (src inst part cause : Nat) {d : Dev} (h : d.faults.inj.state ≠ 1) :
    d.raise src inst part cause = { d with faults := { d.faults with
      crossing := d.faults.crossing ++ [{ src := src, inst := inst, part := part, cause := cause, injected := false }] } } := by
  simp [Dev.raise, Dev.armedSrc, h]

end Sys2Proof.Machine
end

section
/-! SUPPORT. Network management of the CAN node (R79, R80, R91): one equation per case of each command, and from these the
obligation about the node's states. -/
namespace Sys2Proof.Machine

theorem nmtTo_mine (target : Nmt) {node : Nat} {d : Dev} (h : nmtMine d node = true) :
    nmtTo target node d = { d with can := { d.can with nmt := target } } := if_pos h

theorem nmtTo_other (target : Nmt) {node : Nat} {d : Dev} (h : nmtMine d node = false) : nmtTo target node d = d := by
  simp [nmtTo, h]

/-- An NMT command that addresses the node moves it to its state and changes nothing else (R80). -/
theorem completes_nmtTo {c : Instr} {target : Nmt} {node : Nat} {s : State} (he : exec c s = act c.wellFormed (nmtTo target node) s)
    (hw : c.wellFormed = true) (hs : s.Ready) (hm : nmtMine s.dev node = true) :
    Completes c s fun t => t = { s.dev with can := { s.dev.can with nmt := target } } :=
  completes_of_effect he hw hs (nmtTo_mine target hm) rfl

/-- Path 2 has no chamber once it is emptied. -/
@[simp] theorem emptyPath2_chamber (d : Dev) : (emptyPath2 d).chamber 2 = [] := Tbl.get_erase_same ..

/-- A start of the node by the active configuration: it applies node-ID, bit rate and start state, and sends a boot-up message where
it is enabled (R80, R566). -/
theorem canStart_configured {d : Dev} (h : d.boot.safeHarbour = false ∨ d.store.valid = true) :
    canStart d = { d with can := { d.can with
      nodeId := d.cfg.nat 0x1FF0 1, dataRate := d.cfg.nat 0x1FF0 2, enabled := d.cfg.nat 0x1FF0 5 == 1, usdo := none, busOff := false
      nmt := if d.cfg.nat 0x1FF0 3 = 1 ∧ d.boot.safeHarbour = false then .operational else .preOperational
      sent := if d.cfg.nat 0x1FF0 5 = 1 then some { cob := 0x700 + d.cfg.nat 0x1FF0 1, data := [byte 0], fd := false, rate := 1 }
        else d.can.sent } } := by
  have hc : ¬(d.boot.safeHarbour = true ∧ d.store.valid = false) := by
    rintro ⟨hs, hv⟩
    simp [hs, hv] at h
  by_cases hon : d.cfg.nat 0x1FF0 5 = 1
  · simp only [canStart, if_neg hc, hon, Dev.when, canBeat, Dev.onCan]
    rfl
  · simp only [canStart, if_neg hc, hon, Dev.when, Dev.onCan]
    simp [hon]

/-- The reset of the communication: the node starts anew after path 2 is emptied (R80). -/
theorem nmtResetCommunication_mine {node : Nat} {d : Dev} (hm : nmtMine d node = true)
    (hc : d.boot.safeHarbour = false ∨ d.store.valid = true) (hon : d.cfg.nat 0x1FF0 5 = 1) :
    nmtResetCommunication node d = { emptyPath2 d with can := { d.can with
      nodeId := d.cfg.nat 0x1FF0 1, dataRate := d.cfg.nat 0x1FF0 2, enabled := true, usdo := none, busOff := false
      nmt := if d.cfg.nat 0x1FF0 3 = 1 ∧ d.boot.safeHarbour = false then .operational else .preOperational
      sent := some { cob := 0x700 + d.cfg.nat 0x1FF0 1, data := [byte 0], fd := false, rate := 1 } } } := by
  have hon' : (emptyPath2 d).cfg.nat 0x1FF0 5 = 1 := hon
  rw [nmtResetCommunication, if_pos hm, canStart_configured (d := emptyPath2 d) hc, hon']
  rfl

/-- The reset of the application: as a start, with the node-ID and the bit rate that the node had (R80). -/
theorem nmtResetApplication_mine {node : Nat} {d : Dev} (hm : nmtMine d node = true)
    (hc : d.boot.safeHarbour = false ∨ d.store.valid = true) :
    nmtResetApplication node d = { emptyPath2 d with can := { d.can with
      enabled := d.cfg.nat 0x1FF0 5 == 1, usdo := none, busOff := false
      nmt := if d.cfg.nat 0x1FF0 3 = 1 ∧ d.boot.safeHarbour = false then .operational else .preOperational
      sent := some { cob := 0x700 + d.can.nodeId, data := [byte 0], fd := false, rate := 1 } } } := by
  rw [nmtResetApplication, if_pos hm, canStart_configured (d := emptyPath2 d) hc]
  rfl

theorem heartbeatProduce_runs {d : Dev} (hr : canRuns d = true) (ht : d.cfg.nat 0x1017 0 ≠ 0) :
    heartbeatProduce d = canBeat d.can.nmt.heartbeat d := if_pos ⟨hr, ht⟩

theorem canBusOff_runs {d : Dev} (hr : canRuns d = true) :
    canBusOff d = (d.onCan fun c => { c with busOff := true, busOffs := inc32 c.busOffs }).raise 0xE9 := if_pos hr

theorem canBusOffRecovery_off {d : Dev} (h : d.can.busOff = true) :
    canBusOffRecovery d = canBeat 0 (d.onCan fun c => { c with busOff := false }) := if_pos h

/-- Settles O54, command by command from the equations above. -/
theorem canNetwork : Obligations.CanNetwork := by
  refine ⟨fun node s hw hs hm => ?start, fun node s hw hs hm => ?stop, fun node s hw hs hm => ?preOperational,
    fun node s hw hs hm => ?otherNode, fun node s hw hs hm hc hon => ?resetCommunication,
    fun node s hw hs hm hc => ?resetApplication, fun s hw hs hr ht => ?heartbeat, fun s hw hs hr hi => ?busOff,
    fun s hw hs hoff => ?recovery⟩
  case start => exact completes_nmtTo rfl hw hs hm
  case stop => exact completes_nmtTo rfl hw hs hm
  case preOperational => exact completes_nmtTo rfl hw hs hm
  case otherNode => exact completes_of_effect rfl hw hs (nmtTo_other _ hm) rfl
  case resetCommunication =>
    exact completes_of_effect rfl hw hs (nmtResetCommunication_mine hm hc hon) ⟨rfl, emptyPath2_chamber s.dev, rfl⟩
  case resetApplication =>
    exact completes_of_effect rfl hw hs (nmtResetApplication_mine hm hc) ⟨rfl, emptyPath2_chamber s.dev, rfl⟩
  case heartbeat => exact completes_of_effect rfl hw hs (heartbeatProduce_runs hr ht) rfl
  case busOff =>
    have he := (canBusOff_runs hr).trans (Dev.raise_of_not_armed 0xE9 0xFF 0xFF 0 hi)
    exact completes_of_effect rfl hw hs he ⟨rfl, rfl⟩
  case recovery => exact completes_of_effect rfl hw hs (canBusOffRecovery_off hoff) rfl

end Sys2Proof.Machine
end

section
/-! SUPPORT. One read that STORE_GRANT carries for a path, and the CAN node's transfers (R79, R82 to R84): one equation per case of
each command, and from these the obligation about sessions, EMCY and TPDOs. -/
namespace Sys2Proof.Machine

/-! The store's grant. -/

/-- Where no cut commit is left, a transaction's first edges only forget that the one before found one (R58). -/
theorem rollBack_of_not_cut {d : Dev} (h : d.store.cut = none) : rollBack d = d.onStore fun st => { st with rolledNow := false } := by
  simp [rollBack, h]

/-- The first path in rank that the lockkeeper serves is next (R30). -/
theorem nextPath_of_waiting {d : Dev} {pre post : Tbl Frame} {path : Nat} {f : Frame} (hw : d.store.waiting = pre ++ (path, f) :: post)
    (hpre : ∀ e, e ∈ pre → pathServed d e.1 = false) (hp : pathServed d path = true) : nextPath d = some (path, f) := by
  have hnone : List.find? (fun e : Nat × Frame => pathServed d e.1) pre = none := by simpa using hpre
  simp [nextPath, hw, List.find?_append, hnone, hp]

/-- The store that no port holds or is granted next is given to the next path (R30, R72). -/
theorem storeGrant_nextPath {d : Dev} {path : Nat} {f : Frame} (ho : d.store.owner = none) (hs : d.store.spiPending = false)
    (hn : nextPath d = some (path, f)) : storeGrant d = runPath path f (takeFrame path d) := by
  simp [storeGrant, ho, hs, hn]

/-- The CAN node's frame is carried and its session takes the outcome, unless the answer is still to come (R82). -/
theorem runPath_can {f : Frame} {d : Dev} {r : Reply} (ht : transact 2 f d = r) (hl : r.later = false) :
    runPath 2 f d = usdoOutcome r r.dev := by
  simp [runPath, ht, hl]

/-! A read. -/

/-- The frame of a read of `n` bytes. -/
def readFrame (idx sub n : Nat) : Frame := { op := 1, idx := idx, sub := sub, len := n, data := [], crcOk := true }

/-- The object's row is `r`; it is not write-only, and is `n` bytes long. -/
def ReadableAs (idx sub : Nat) (r : ObjRow) (n : Nat) : Prop := objRow idx sub = some r ∧ r.acc ≠ .wo ∧ r.ty.len = some n

theorem frameStat_readFrame (idx sub : Nat) {n : Nat} (h : 1 ≤ n ∧ n ≤ 256) : frameStat (readFrame idx sub n) = 0 := by
  simp [frameStat, readFrame, lenAllowed, h]

/-- A path of partition 0 may read every object (R70). -/
theorem mayRead_of_part0 {path : Nat} (h : pathPart path = 0) (d : Dev) (r : ObjRow) (idx sub : Nat) :
    mayRead d path r idx sub = true := by
  simp [mayRead, h]

/-- A read on a path that may, of the length of the object's type, gives the object's bytes (R35, R66, R70). -/
theorem readObj_of_mayRead {path idx sub n : Nat} {r : ObjRow} {d : Dev} (hp : path ≠ 0) (ho : ReadableAs idx sub r n)
    (hm : mayRead d path r idx sub = true) :
    readObj path (readFrame idx sub n) d = { dev := d, data := (objectBytes d r idx sub).take n } := by
  obtain ⟨hr, ha, hl⟩ := ho
  simp [readObj, readFrame, hr, ha, hl, hm, hp]

/-- Out of safe-harbour mode a read is carried out as such (R525). -/
theorem perform_readFrame (path idx sub n : Nat) {d : Dev} (h : d.boot.safeHarbour = false) :
    perform path (readFrame idx sub n) d = readObj path (readFrame idx sub n) d := by
  simp [perform, readFrame, h]

/-- A whole transaction that reads an object on the CAN node's path is answered OK with its bytes (R56, R82). -/
theorem transact_read {idx sub n : Nat} {r : ObjRow} {bs : Bytes} {d : Dev} (hcut : d.store.cut = none)
    (hsafe : d.boot.safeHarbour = false) (ho : ReadableAs idx sub r n) (hn : 1 ≤ n ∧ n ≤ 256)
    (hbs : objectBytes (rollBack d) r idx sub = bs) (hlen : bs.length = n) :
    transact 2 (readFrame idx sub n) d = { dev := d.onStore fun st => storeAnswered st 2 0 0 bs, data := bs } := by
  have hsafe' : (rollBack d).boot.safeHarbour = false := by rw [rollBack_of_not_cut hcut]; exact hsafe
  have hread : perform 2 (readFrame idx sub n) (rollBack d) = { dev := rollBack d, data := bs } := by
    rw [perform_readFrame 2 idx sub n hsafe', readObj_of_mayRead (by decide) ho (mayRead_of_part0 (by decide) ..), hbs,
      List.take_of_length_le (Nat.le_of_eq hlen)]
  simp only [transact, frameStat_readFrame idx sub hn, if_true, hread]
  rw [rollBack_of_not_cut hcut]
  rfl

/-! The answers of the node's USDO server. -/

/-- The end of a session: its answer is sent where the node may send (R80, R82). -/
theorem usdoAnswer_eq (a : Nat) (data : Bytes) (d : Dev) :
    usdoAnswer a data d = { d with can := { d.can with
      usdo := none
      sent := if canServes d then
          some { cob := 0x580 + d.can.nodeId, data := leBytes 4 a ++ data, fd := true, rate := d.can.dataRate }
        else d.can.sent } } := by
  cases h : canServes d <;> simp [usdoAnswer, Dev.when, canSend, Dev.onCan, h]

/-- An abort that the node decides ends the session and is the result of path 2 (R82). -/
theorem usdoAbort_eq (u : Usdo) (e : Nat) (d : Dev) :
    usdoAbort u e d = { d with
      can := { d.can with
        usdo := none
        sent := if canServes d then
            some { cob := 0x580 + d.can.nodeId, data := leBytes 4 (abortOf e), fd := true, rate := d.can.dataRate }
          else d.can.sent }
      store := { d.store with results := d.store.results.set 2 (256 * u.key + e) } } := by
  rw [usdoAbort, usdoAnswer_eq, List.append_nil]
  rfl

/-- A value that one frame carries ends its session with it (R82). -/
theorem usdoOutcome_fits {r : Reply} {u : Usdo} {d : Dev} (hu : d.can.usdo = some u) (hb : u.busy = true) (hs : r.stat = 0)
    (hl : r.data.length ≤ usdoExpedited) : usdoOutcome r d = usdoAnswer 0 r.data d := by
  have hfits : ¬(u.write = false ∧ usdoExpedited < r.data.length) := fun h => absurd h.2 (by omega)
  simp [usdoOutcome, hu, hb, hfits, hs, Reply.abort]

/-! USDO_INITIATE. -/

/-- A write that is longer than its first frame opens a session (R82). -/
theorem usdoInitiate_longWrite (idx sub : Nat) {total : Nat} {data : Bytes} {d : Dev} (hc : canServes d = true)
    (hu : d.can.usdo = none) (hl : data.length < total) :
    usdoInitiate true idx sub total data d = (canSend (0x580 + d.can.nodeId) (leBytes 4 0) d).onCan fun c => { c with
      usdo := some { write := true, key := okey idx sub, total := total, data := data, seqNo := 0 } } := by
  have hmore : ¬total ≤ data.length := by omega
  simp [usdoInitiate, hc, hu, hmore]

/-- One session at a time (R82). -/
theorem usdoInitiate_refused (write : Bool) (idx sub total : Nat) (data : Bytes) {u : Usdo} {d : Dev} (hc : canServes d = true)
    (hu : d.can.usdo = some u) :
    usdoInitiate write idx sub total data d =
      noteUsdo (okey idx sub) 0x50 (canSend (0x580 + d.can.nodeId) (leBytes 4 (abortOf 0x50)) d) := by
  simp [usdoInitiate, hc, hu]

theorem okey_div (idx : Nat) {sub : Nat} (h : sub < 256) : okey idx sub / 256 = idx := by
  simp only [okey]; omega

theorem okey_mod (idx : Nat) {sub : Nat} (h : sub < 256) : okey idx sub % 256 = sub := by
  simp only [okey]; omega

/-- A read asks for as many bytes as the object's type has. -/
theorem readLength_of_len {idx sub n : Nat} {r : ObjRow} (hs : sub < 256) (hr : objRow idx sub = some r) (hl : r.ty.len = some n) :
    readLength (okey idx sub) = n := by
  simp [readLength, okey_div idx hs, okey_mod idx hs, hr, hl]

/-- A read presents its frame at once (R79, R82). -/
theorem usdoInitiate_read {idx sub n : Nat} (total : Nat) (data : Bytes) {r : ObjRow} {d : Dev} (hc : canServes d = true)
    (hu : d.can.usdo = none) (hs : sub < 256) (hr : objRow idx sub = some r) (hl : r.ty.len = some n) :
    usdoInitiate false idx sub total data d =
      (d.onCan fun c => { c with
        usdo := some { write := false, key := okey idx sub, total := total, data := [], seqNo := 0, busy := true } }).onStore
        fun st => { st with waiting := st.waiting.set 2 (readFrame idx sub n) } := by
  simp [usdoInitiate, hc, hu, usdoPresent, readLength_of_len hs hr hl, okey_div idx hs, okey_mod idx hs, carried, readFrame]

/-- The node's read, once it has the store, sends the value where it fits a frame (R82). -/
theorem runPath_usdoRead {idx sub n : Nat} {r : ObjRow} {u : Usdo} {bs : Bytes} {d : Dev} (hc : canServes d = true)
    (hu : d.can.usdo = some u) (hb : u.busy = true) (hcut : d.store.cut = none) (hsafe : d.boot.safeHarbour = false)
    (ho : ReadableAs idx sub r n) (hn : 1 ≤ n ∧ n ≤ usdoExpedited) (hbs : objectBytes (rollBack d) r idx sub = bs)
    (hlen : bs.length = n) :
    runPath 2 (readFrame idx sub n) d = { d with
      can := { d.can with
        usdo := none
        sent := some { cob := 0x580 + d.can.nodeId, data := leBytes 4 0 ++ bs, fd := true, rate := d.can.dataRate } }
      store := storeAnswered d.store 2 0 0 bs } := by
  have hframe : 1 ≤ n ∧ n ≤ 256 := ⟨hn.1, Nat.le_trans hn.2 (by decide)⟩
  have hserves : canServes (d.onStore fun st => storeAnswered st 2 0 0 bs) = true := hc
  calc runPath 2 (readFrame idx sub n) d
    _ = usdoOutcome _ _ := runPath_can (transact_read hcut hsafe ho hframe hbs hlen) rfl
    _ = usdoAnswer 0 bs (d.onStore fun st => storeAnswered st 2 0 0 bs) := usdoOutcome_fits hu hb rfl (hlen ▸ hn.2)
    _ = _ := by
      rw [usdoAnswer_eq, if_pos hserves]
      rfl

/-! USDO_SEGMENT and USDO_TIMEOUT. -/

/-- A segment of a write that is neither the last nor fills the announced length is taken (R82). -/
theorem usdoSegment_taken {data : Bytes} {u : Usdo} {d : Dev} (hc : canServes d = true) (hu : d.can.usdo = some u)
    (hb : u.busy = false) (hw : u.write = true) (hl : u.data.length + data.length < u.total) :
    usdoSegment u.seqNo data false d = (canSend (0x580 + d.can.nodeId) (leBytes 4 0) d).onCan fun c => { c with
      usdo := some { u with data := u.data ++ data, seqNo := (u.seqNo + 1) % 256 } } := by
  have hmore : ¬u.total ≤ u.data.length + data.length := by omega
  simp [usdoSegment, hu, hc, hb, hw, hmore]

/-- A segment out of sequence aborts the session (R82). -/
theorem usdoSegment_wrong {seqNo : Nat} (data : Bytes) (last : Bool) {u : Usdo} {d : Dev} (hc : canServes d = true)
    (hu : d.can.usdo = some u) (hb : u.busy = false) (hn : seqNo ≠ u.seqNo) :
    usdoSegment seqNo data last d = usdoAbort u 0x52 d := by
  simp [usdoSegment, hu, hc, hb, hn]

/-- The next segment of a read, the last of which closes the session (R82). -/
theorem usdoSegment_read (data : Bytes) (last : Bool) {u : Usdo} {d : Dev} (hc : canServes d = true)
    (hu : d.can.usdo = some u) (hb : u.busy = false) (hw : u.write = false) :
    usdoSegment u.seqNo data last d =
      (canSend (0x580 + d.can.nodeId) (leBytes 4 0 ++ u.data.take 60) d).onCan fun c => { c with
        usdo := if u.data.length ≤ 60 then none else some { u with data := u.data.drop 60, seqNo := (u.seqNo + 1) % 256 } } := by
  simp [usdoSegment, hu, hc, hb, hw, segmentBytes]

theorem usdoTimeout_open {u : Usdo} {d : Dev} (hu : d.can.usdo = some u) (hb : u.busy = false) :
    usdoTimeout d = usdoAbort u 0x51 d := by
  simp [usdoTimeout, hu, hb]

/-! EMCY and TPDOs. -/

/-- An enabled EMCY leaves the queue as it is sent (R83). -/
theorem emcyTransmit_enabled {m : Bytes} {rest : List Bytes} {d : Dev} (hc : canServes d = true) (he : d.can.emcy = m :: rest)
    (hcob : (cobOf d 0x1014 0).2 = false) :
    emcyTransmit d = canSend (cobOf d 0x1014 0).1 m (d.onCan fun c => { c with emcy := rest }) := by
  simp [emcyTransmit, he, hc, hcob]

/-- A due TPDO of an Operational node is sent and remembered (R79, R84). -/
theorem tpdoEvent_due {k : Nat} {d : Dev} (hr : canRuns d = true) (ho : d.can.nmt = .operational)
    (hcob : (cobOf d (0x1800 + k) 1).2 = false)
    (hdue : d.cfg.nat (0x1800 + k) 5 ≠ 0 ∨ k ≠ 1 ∧ d.can.tpdo.find? k ≠ some (tpdoPayload d k))
    (hsafe : d.boot.safeHarbour = false) :
    tpdoEvent k d = canSend (cobOf d (0x1800 + k) 1).1 (tpdoPayload d k)
      (d.onCan fun c => { c with tpdo := c.tpdo.set k (tpdoPayload d k) }) := by
  have hdue' : (d.cfg.nat (0x1800 + k) 5 != 0 || (k != 1 && d.can.tpdo.find? k != some (tpdoPayload d k))) = true := by
    simpa using hdue
  simp [tpdoEvent, hr, ho, hcob, hdue', hsafe]

/-- Settles O55, command by command from the equations above. -/
theorem canTransfers : Obligations.CanTransfers := by
  refine ⟨fun idx sub total data s hw hs hc hu hl => ?longWrite, fun write idx sub total data u s hw hs hc hu => ?secondSession,
    fun idx sub total data r n s hw hs hc hu hr hsub hl => ?read,
    fun idx sub r n bs u pre post s hw hs hc ho hspi hcut hfw hsafe hwait hpre hu hb hr ha hl hn hbs hlen => ?grant,
    fun seqNo data u s hw hs hc hu hb hwr hseq hl => ?segmentTaken, fun seqNo data last u s hw hs hc hu hb hseq => ?segmentWrong,
    fun seqNo data last u s hw hs hc hu hb hrd hseq => ?segmentRead, fun u s hw hs hu hb => ?timeout,
    fun m rest s hw hs hc he hcob => ?emcy, fun k s hw hs hr ho hcob hdue hsafe => ?tpdo⟩
  case longWrite =>
    exact completes_of_effect rfl hw hs (usdoInitiate_longWrite idx sub hc hu hl) rfl
  case secondSession =>
    exact completes_of_effect rfl hw hs (usdoInitiate_refused write idx sub total data hc hu) rfl
  case read =>
    exact completes_of_effect rfl hw hs (usdoInitiate_read total data hc hu hsub hr hl) rfl
  case grant =>
    have hserved : pathServed s.dev 2 = true := by simp [pathServed, hfw]
    have hcut' : (takeFrame 2 s.dev).store.cut = none := hcut
    have hbs' : objectBytes (rollBack (takeFrame 2 s.dev)) r idx sub = bs := by
      rw [rollBack_of_not_cut hcut']
      exact hbs
    have hgrant := storeGrant_nextPath ho hspi (nextPath_of_waiting hwait hpre hserved)
    have hrun := runPath_usdoRead (d := takeFrame 2 s.dev) hc hu hb hcut' hsafe ⟨hr, ha, hl⟩ hn hbs' hlen
    exact completes_of_effect rfl hw hs (hgrant.trans hrun) rfl
  case segmentTaken =>
    subst hseq
    exact completes_of_effect rfl hw hs (usdoSegment_taken hc hu hb hwr hl) rfl
  case segmentWrong =>
    have h := (usdoSegment_wrong data last hc hu hb hseq).trans (usdoAbort_eq u 0x52 s.dev)
    rw [if_pos hc] at h
    exact completes_of_effect rfl hw hs h rfl
  case segmentRead =>
    subst hseq
    exact completes_of_effect rfl hw hs (usdoSegment_read data last hc hu hb hrd) rfl
  case timeout =>
    exact completes_of_effect rfl hw hs ((usdoTimeout_open hu hb).trans (usdoAbort_eq u 0x51 s.dev)) rfl
  case emcy => exact completes_of_effect rfl hw hs (emcyTransmit_enabled hc he hcob) rfl
  case tpdo =>
    exact completes_of_effect rfl hw hs (tpdoEvent_due hr ho hcob hdue hsafe) ⟨Tbl.get_set_same [] _ _ k, rfl⟩

end Sys2Proof.Machine
end

section
/-! SUPPORT. Flits and credits at the ends of a link (R120, R125, R134, R135), the two allocation phases of a router (R150 to
R153) and an age tick (R147): one lemma per case that acts, and from these the obligation about routers. -/
namespace Sys2Proof.Machine

/-- A command of the fabric whose effect keeps clock and memory completes with that effect while FCLK runs. -/
theorem completes_of_fclkEffect {c : Instr} {f : Dev → Dev} {s : State} {t : Dev} {P : Dev → Prop}
    (he : exec c s = actFclk c.wellFormed f s) (hw : c.wellFormed = true) (hs : s.Live) (hf : f s.dev = t) (hp : P t)
    (hk : MemoryKept s.dev t := by exact ⟨rfl, rfl, rfl, rfl⟩) : Completes c s P :=
  completes_of_effect he hw hs.1 ((if_pos hs.2).trans hf) hp hk

/-! One router or one NI is read after an update of it or of another. -/

@[simp] theorem Dev.upRouter_router_same (r : Nat) (f : Router → Router) (d : Dev) :
    (d.upRouter r f).router r = f (d.router r) := Tbl.get_modify_same ..

theorem Dev.upRouter_router_ne {r i : Nat} (hi : i ≠ r) (f : Router → Router) (d : Dev) :
    (d.upRouter r f).router i = d.router i := Tbl.get_modify_ne _ _ hi f

@[simp] theorem Dev.upNi_ni_same (n : Nat) (f : Ni → Ni) (d : Dev) : (d.upNi n f).ni n = f (d.ni n) := Tbl.get_modify_same ..

theorem Dev.upNi_ni_ne {n i : Nat} (hi : i ≠ n) (f : Ni → Ni) (d : Dev) : (d.upNi n f).ni i = d.ni i :=
  Tbl.get_modify_ne _ _ hi f

@[simp] theorem Router.upVc_vc_same (k : Nat) (f : InVc → InVc) (x : Router) : (x.upVc k f).vc k = f (x.vc k) :=
  Tbl.get_modify_same ..

/-! The checks of a link. -/

/-- A pattern that inverts no bit leaves a word as it is: `Nat.xor_zero` in the form in which the model writes it. -/
@[simp] theorem xor_no_bits (a : Nat) : Nat.xor a 0 = a := Nat.xor_zero a

/-- Nothing is inverted at a link's input while no field injection is armed. -/
theorem injectedBits_of_not_armed {d : Dev} (h : d.faults.inj.state ≠ 1) (r : Nat) (head : Bool) :
    injectedBits d r head = {} := by
  simp [injectedBits, Dev.armedFor, h]

/-- A cycle without an inverted bit passes its checks, with its data as sent. A cycle without a flit takes no injection. -/
theorem linkCheck_clean (r p : Nat) {f : Option Flit} {d : Dev} (h : f = none ∨ d.faults.inj.state ≠ 1) :
    linkCheck r p f {} d = (.accept false 0, d) := by
  have hbits : (if f.isSome ∧ p ≠ 0xFF then injectedBits d r (f.bind (·.pkt)).isSome else ({} : LinkErr)) = {} := by
    obtain rfl | h := h
    · rfl
    · rw [injectedBits_of_not_armed h, ite_self]
  have hctl : errFinds 16 6 {} = .none := by decide
  have hhalf : errFinds 128 9 {} = .none := by decide
  have hjoin : linkErrJoin {} {} = {} := rfl
  simp [linkCheck, hbits, hjoin, hctl, hhalf, halfCheck]

/-- The device after an event of source 0x03 at router `r` that leaves the capture `cap`. -/
def Dev.withControlError (r : Nat) (cap : LinkCapture) (d : Dev) : Dev :=
  { d with
    net := { d.net with cap := cap }
    faults := { d.faults with
      crossing := d.faults.crossing ++ [{ src := 0x03, inst := r, part := 0xFF, cause := 0, injected := false }] } }

/-- An error of source 0x03 is captured and raised; no counter of a router counts it (R136, R138). -/
theorem linkError_control (r port vc synd : Nat) {d : Dev} (h : d.faults.inj.state ≠ 1) :
    ∃ cap, linkError 0x03 r port vc synd false d = d.withControlError r cap :=
  ⟨_, Dev.raise_of_not_armed 0x03 r 0xFF 0 h⟩

/-- An uncorrectable control word stops the direction (R135). -/
theorem linkCheck_control (r p : Nat) (f : Option Flit) {e : WordErr} {d : Dev} (h : d.faults.inj.state ≠ 1)
    (he : errFinds 16 6 e = .uncorrectable) :
    ∃ cap, linkCheck r p f { ctl := e } d = (.stop, d.withControlError r cap) := by
  have hbits : (if f.isSome ∧ p ≠ 0xFF then injectedBits d r (f.bind (·.pkt)).isSome else ({} : LinkErr)) = {} := by
    rw [injectedBits_of_not_armed h, ite_self]
  have hjoin : (linkErrJoin { ctl := e } {}).ctl = e := by
    simp [linkErrJoin, errJoin]
  obtain ⟨cap, hcap⟩ := linkError_control r p 0xFF
    (errSyndrome 16 6 e + if (f.bind (·.pkt)).isSome then 16384 else 0) h
  refine ⟨cap, ?_⟩
  simp [linkCheck, hbits, hjoin, he, hcap]

/-! ROUTER_FLIT_ARRIVAL. -/

/-- A flit whose VC is not being discarded and whose route is possible is buffered. -/
theorem routerAccept_buffered {r p : Nat} {f : Flit} {d : Dev} (hd : ((d.router r).vc (16 * p + f.vc)).dropping = false)
    (hr : routeBad r p f = false) :
    routerAccept r p f d = d.upRouter r (Router.upVc (16 * p + f.vc) fun y => { y with q := y.q ++ [f] }) := by
  simp [routerAccept, hd, hr]

/-- The device with the flits `w` on the link into router `r`, port `p`. -/
def Dev.setWireR (r p : Nat) (w : List Flit) (d : Dev) : Dev :=
  { d with net := { d.net with wireR := d.net.wireR.set (8 * r + p) w } }

/-- The device with the flits `w` on the link into NI `n`. -/
def Dev.setWireN (n : Nat) (w : List Flit) (d : Dev) : Dev :=
  { d with net := { d.net with wireN := d.net.wireN.set n w } }

/-- The next flit of a link into a router passes its checks and is accepted as sent. -/
theorem routerFlitArrival_router_clean {r p : Nat} (crcErr : Bool) {f : Flit} {rest : List Flit} {d : Dev}
    (hp : hasPort r p = true) (hs : bitOf (d.router r).stopped p = false) (hq : d.net.wireR.get [] (8 * r + p) = f :: rest)
    (hi : d.faults.inj.state ≠ 1) :
    routerFlitArrival (.router r p) .none crcErr d = routerAccept r p f (d.setWireR r p rest) := by
  simp [routerFlitArrival, hp, hs, hq, linkCheck_clean, hi, Dev.setWireR]

/-- An uncorrectable control error at a router input drops the flit and stops the direction. -/
theorem routerFlitArrival_router_control {r p : Nat} {e : WordErr} (crcErr : Bool) {f : Flit} {rest : List Flit} {d : Dev}
    (hp : hasPort r p = true) (hs : bitOf (d.router r).stopped p = false) (hq : d.net.wireR.get [] (8 * r + p) = f :: rest)
    (hi : d.faults.inj.state ≠ 1) (he : errFinds 16 6 e = .uncorrectable) :
    ∃ cap, routerFlitArrival (.router r p) { ctl := e } crcErr d =
      ((d.setWireR r p rest).withControlError r cap).upRouter r fun x => { x with stopped := setBit x.stopped p true } := by
  obtain ⟨cap, hcheck⟩ := linkCheck_control r p (some f) (d := d.setWireR r p rest) hi he
  refine ⟨cap, ?_⟩
  simp only [Dev.setWireR] at hcheck
  simp [routerFlitArrival, hp, hs, hq, hcheck, Dev.setWireR]

/-- The next flit of a link into an NI passes its checks and is accepted as sent. -/
theorem routerFlitArrival_ni_clean {n : Nat} (crcErr : Bool) {f : Flit} {rest : List Flit} {d : Dev}
    (hs : (d.ni n).stopped = false) (hq : d.net.wireN.get [] n = f :: rest) (hi : d.faults.inj.state ≠ 1) :
    routerFlitArrival (.ni n) .none crcErr d = niAccept n f crcErr (d.setWireN n rest) := by
  simp [routerFlitArrival, hs, hq, linkCheck_clean, hi, Dev.setWireN]

theorem upToTail_append (l : List Flit) : (upToTail l).1 ++ (upToTail l).2 = l := by
  induction l with
  | nil => rfl
  | cons f t ih =>
    unfold upToTail
    split
    · rfl
    · rw [List.cons_append, ih]

/-- The flits of VC `vc` that an NI holds, oldest first: those it has taken and those in the ejection buffer. -/
def Ni.come (x : Ni) (vc : Nat) : List Flit := x.taken.get [] vc ++ x.ej.get [] vc

/-- An NI with the flits `had` taken on VC `vc` and the flits `left` in its ejection buffer. -/
def Ni.setCome (vc : Nat) (had left : List Flit) (x : Ni) : Ni :=
  { x with taken := x.taken.set vc had, ej := x.ej.set vc left }

@[simp] theorem Ni.setCome_come (vc : Nat) (had left : List Flit) (x : Ni) : (x.setCome vc had left).come vc = had ++ left := by
  simp only [Ni.come, Ni.setCome, Tbl.get_set_same]

/-- An NI takes nothing from an ejection buffer, or it takes the flits up to a tail, with credits that go back (R125). -/
theorem takeFlits_cases (n vc : Nat) (d : Dev) : takeFlits n vc d = d ∨
    ∃ cred, takeFlits n vc d = { d.upNi n (Ni.setCome vc ((d.ni n).taken.get [] vc ++ (upToTail ((d.ni n).ej.get [] vc)).1)
      (upToTail ((d.ni n).ej.get [] vc)).2) with net := { d.net with credR := cred } } := by
  unfold takeFlits
  dsimp only
  split
  · exact .inl rfl
  · split
    · exact .inr ⟨d.net.credR, rfl⟩
    · exact .inr ⟨_, rfl⟩

/-- Taking flits loses and reorders none. -/
theorem takeFlits_spec {n vc : Nat} {d t : Dev} (h : takeFlits n vc d = t) :
    (t.ni n).come vc = (d.ni n).come vc ∧ (∀ i, i ≠ n → t.ni i = d.ni i) ∧
      t = { d with net := { d.net with credR := t.net.credR }, nis := t.nis } := by
  subst h
  obtain h | ⟨cred, h⟩ := takeFlits_cases n vc d
  · rw [h]
    exact ⟨rfl, fun _ _ => rfl, rfl⟩
  · rw [h]
    refine ⟨?_, fun i hi => Dev.upNi_ni_ne hi _ d, rfl⟩
    refine (congrArg (Ni.come · vc) (Dev.upNi_ni_same n _ d)).trans ?_
    rw [Ni.setCome_come, List.append_assoc, upToTail_append, Ni.come]

/-- A body flit that is no tail goes behind those that have come on its VC. -/
theorem niAccept_body {n : Nat} {f : Flit} {d t : Dev} (hp : f.pkt = none) (ht : f.tail = false) (hc : f.crcBad = false)
    (h : niAccept n f false d = t) :
    (t.ni n).come f.vc = (d.ni n).come f.vc ++ [f] ∧ (∀ i, i ≠ n → t.ni i = d.ni i) ∧
      t = { d with net := { d.net with credR := t.net.credR }, nis := t.nis } := by
  have haccept : niAccept n f false d =
      takeFlits n f.vc (d.upNi n fun y => { y with ej := y.ej.modify [] f.vc (· ++ [f]) }) := by
    obtain ⟨vc, pkt, tail, poison, crcBad⟩ := f
    simp only at hp ht hc
    subst hp ht hc
    simp [niAccept, crcWrong]
  obtain ⟨hcome, hother, hframe⟩ := takeFlits_spec (haccept.symm.trans h)
  refine ⟨?_, fun i hi => (hother i hi).trans (Dev.upNi_ni_ne hi _ d), hframe⟩
  rw [hcome, Dev.upNi_ni_same, Ni.come, Ni.come, Tbl.get_modify_same, List.append_assoc]

/-! SWITCH_ALLOCATION. -/

/-- A credit that goes back over a link between routers changes nothing but the credits on their way to routers (R125). -/
theorem creditBack_link (r vc : Nat) {p : Nat} (hp : p < 6) (d : Dev) :
    creditBack r p vc d = { d with net := { d.net with credR := (creditBack r p vc d).net.credR } } := by
  unfold creditBack
  rw [if_pos hp]
  split
  · rfl
  · split <;> rfl

/-- `t` differs from `d` at most in router `r` and in what is on its way to routers. -/
def AtRouter (r : Nat) (d t : Dev) : Prop :=
  (∀ i, i ≠ r → t.router i = d.router i) ∧
    t = { d with net := { d.net with routers := t.net.routers, wireR := t.net.wireR, credR := t.net.credR } }

theorem AtRouter.trans {r : Nat} {d t u : Dev} (h : AtRouter r d t) (k : AtRouter r t u) : AtRouter r d u := by
  refine ⟨fun i hi => (k.1 i hi).trans (h.1 i hi), ?_⟩
  rw [k.2, h.2]

theorem AtRouter.upRouter (r : Nat) (f : Router → Router) (d : Dev) : AtRouter r d (d.upRouter r f) :=
  ⟨fun _ hi => Dev.upRouter_router_ne hi f d, rfl⟩

/-- A head flit that crosses from one link between routers to another leaves its buffer, spends a credit of its output VC and
goes out with the route of the next router (R120, R125, R127). -/
theorem moveFlit_head {r k out r2 p2 : Nat} {f : Flit} {rest : List Flit} {q : Packet} {d t : Dev} (hk : k / 16 < 6)
    (hq : ((d.router r).vc k).q = f :: rest) (hf : f.pkt = some q) (ho : out < 6) (hn : neighbour r out = some (r2, p2))
    (h : moveFlit r k out false d = t) :
    ((t.router r).vc k).q = rest ∧
      (t.router r).used.get 0 (16 * out + k % 16) = (d.router r).used.get 0 (16 * out + k % 16) + 1 ∧
      t.net.wireR = d.net.wireR.modify [] (8 * r2 + p2) (· ++ [{ f with nxt := routePort r2 q.dest }]) ∧ AtRouter r d t := by
  subst h
  simp only [moveFlit, hq, hf, if_pos ho, hn, Bool.false_eq_true, if_false]
  rw [creditBack_link r (k % 16) hk]
  refine ⟨?_, ?_, rfl, fun i hi => Tbl.get_set_ne _ _ _ hi, rfl⟩
  · simp [Dev.router, Router.vc, Tbl.get_set_same]
  · simp [Dev.router, Tbl.get_set_same]

/-- The head at the front of the one input VC that holds flits is the one candidate, where its output VC may be used. -/
theorem meshCands_single {c : Cfg} {x : Router} {port vc : Nat} {v : InVc} {f : Flit} {rest : List Flit} {q : Packet}
    (hp : port < 4) (hv : vc < 9) (hi : x.inp = [(16 * port + vc, v)]) (hq : v.q = f :: rest) (hf : f.pkt = some q)
    (hu : mayUse x port vc f.nxt = true) :
    meshCands c x = [{ port := port, vc := vc, out := f.nxt, urg := urgency c q.cls q.age }] := by
  have hport : (16 * port + vc) / 16 = port := by omega
  have hvc : (16 * port + vc) % 16 = vc := by omega
  have h45 : ¬(port = 4 ∨ port = 5) := by omega
  simp [meshCands, hi, hport, hvc, h45, hq, candOf, flitWants, hf, hu]

/-- Where no output is reserved, every mesh or local candidate takes part in the allocation. -/
theorem combCands_of_no_reservation {c : Cfg} {x : Router} (h : x.resNow = []) : combCands c x = meshCands c x := by
  simp [combCands, h, Tbl.has, Tbl.find?]

/-- The hold of the output VCs reserved for the next cycle takes no flit and no credit. -/
theorem holdReserved_all (l : Tbl Reservation) : ∀ x : Router,
    (l.foldl (fun z e => holdReserved e z) x).inp = x.inp ∧ (l.foldl (fun z e => holdReserved e z) x).used = x.used := by
  induction l with
  | nil => exact fun _ => ⟨rfl, rfl⟩
  | cons e l ih => exact fun x => ih (holdReserved e x)

/-- With one candidate and no reserved output, an allocation is the move of that candidate's flit, between bookkeeping that takes
no flit and no credit. -/
theorem switchAllocation_single {r k : Nat} {w : Cand} {v : InVc} {d : Dev} (hc : meshCands d.fcfg (d.router r) = [w])
    (hw : 16 * w.port + w.vc = k) (hi : (d.router r).inp = [(k, v)]) (hr : (d.router r).resNow = []) :
    ∃ (e : Dev) (g : Router → Router), switchAllocation r d = (moveFlit r k w.out false e).upRouter r g ∧
      AtRouter r d e ∧ e.net.wireR = d.net.wireR ∧ ((e.router r).vc k).q = v.q ∧ (e.router r).used = (d.router r).used ∧
      ∀ x, (g x).inp = x.inp ∧ (g x).used = x.used := by
  have hcomb : combCands d.fcfg (d.router r) = [w] := (combCands_of_no_reservation hr).trans hc
  have hres : reservedMoves (d.router r) = [] := by simp [reservedMoves, hr]
  have hgrant : grants (sortBy (candBefore (d.router r)) [w]) [] [] = [w] := rfl
  subst hw
  simp only [switchAllocation, hcomb, hres, hr, List.map_nil, hgrant, Dev.fold]
  refine ⟨_, _, rfl, (AtRouter.upRouter r _ d).trans (AtRouter.upRouter r _ _), rfl, ?_, ?_, fun x => ?_⟩
  · simp [Router.vc, movePointers, hi, Tbl.get]
  · simp [movePointers]
  · exact holdReserved_all _ _

/-- An allocation with one candidate sends its head on the granted link and spends a credit (R120, R125, R127, R151). -/
theorem switchAllocation_sends {r port vc out r2 p2 : Nat} {v : InVc} {f : Flit} {rest : List Flit} {q : Packet} {d t : Dev}
    (hp : port < 4) (hv : vc < 9) (hi : (d.router r).inp = [(16 * port + vc, v)]) (hq : v.q = f :: rest) (hf : f.pkt = some q)
    (hout : f.nxt = out) (ho : out < 6) (hn : neighbour r out = some (r2, p2)) (hu : mayUse (d.router r) port vc out = true)
    (hr : (d.router r).resNow = []) (h : switchAllocation r d = t) :
    ((t.router r).vc (16 * port + vc)).q = rest ∧
      (t.router r).used.get 0 (16 * out + vc) = (d.router r).used.get 0 (16 * out + vc) + 1 ∧
      t.net.wireR = d.net.wireR.modify [] (8 * r2 + p2) (· ++ [{ f with nxt := routePort r2 q.dest }]) ∧ AtRouter r d t := by
  subst hout h
  have hport : (16 * port + vc) / 16 < 6 := by omega
  have hvc : (16 * port + vc) % 16 = vc := by omega
  obtain ⟨e, g, heq, hframe, hwire, hvq, hused, hg⟩ := switchAllocation_single (meshCands_single hp hv hi hq hf hu) rfl hi hr
  obtain ⟨hleft, hspent, hsent, hmoved⟩ := moveFlit_head hport (hvq.trans hq) hf ho hn rfl
  rw [hvc, hused] at hspent
  rw [hwire] at hsent
  rw [heq]
  refine ⟨?_, ?_, hsent, (hframe.trans hmoved).trans (AtRouter.upRouter r g _)⟩
  · rw [Dev.upRouter_router_same, Router.vc, (hg _).1]
    exact hleft
  · rw [Dev.upRouter_router_same, (hg _).2]
    exact hspent

/-! EXPRESS_SETUP_PHASE. -/

/-- With one request and no other contender the phase reserves what the request asks for (R153). -/
theorem expressSetupPhase_single {r : Nat} {w : Cand} {f : Flit} {d : Dev} (hd : (d.router r).setupDone = false)
    (hx : setupRequest d.fcfg d r 4 = some (w, f)) (hy : setupRequest d.fcfg d r 5 = none)
    (hm : meshCands d.fcfg (d.router r) = []) (hi : d.faults.inj.state ≠ 1) :
    ∃ o i, expressSetupPhase r false false d = d.upRouter r fun x =>
      { reserve w f { x with setupDone := true, asked := [(w.out, w.urg)] } with optrNext := o, iptrNext := i } := by
  have harmed : d.armedFor 0x06 r = false := by simp [Dev.armedFor, hi]
  have hwins : [(w, f)].filter (fun e => setupWins (d.router r) e.1 ([w].filter fun k => k.port != e.1.port)) = [(w, f)] := by
    simp [setupWins]
  simp only [expressSetupPhase, hd, hx, hy, hm, harmed, Option.isSome_some, Option.isSome_none, Option.toList_some,
    Option.toList_none, Bool.or_self, Bool.and_false, Bool.false_and, Bool.false_eq_true, if_false, List.append_nil,
    List.map_cons, List.map_nil, hwins]
  exact ⟨_, _, rfl⟩

/-! CREDIT_RETURN. -/

/-- A credit that comes back to a router output that has spent one is taken (R125). -/
theorem creditReturn_router {r p v : Nat} {rest : List Nat} {d : Dev} (hs : bitOf (d.router r).stopped p = false)
    (hq : d.net.credR.get [] (8 * r + p) = v :: rest) (hu : (d.router r).used.get 0 (16 * p + v) ≠ 0) :
    creditReturn (.router r p) {} d = Dev.upRouter r (fun x => { x with used := x.used.modify 0 (16 * p + v) (· - 1) })
      { d with net := { d.net with credR := d.net.credR.set (8 * r + p) rest } } := by
  have hu' : (Dev.router { d with net := { d.net with credR := d.net.credR.set (8 * r + p) rest } } r).used.get 0
      (16 * p + v) ≠ 0 := hu
  simp [creditReturn, hs, hq, linkCheck_clean, hu']

/-- A credit that comes back to an NI that has spent one is taken (R125). -/
theorem creditReturn_ni {n v : Nat} {rest : List Nat} {d : Dev} (hs : (d.ni n).stopped = false)
    (hq : d.net.credN.get [] n = v :: rest) (hu : (d.ni n).used.get 0 v ≠ 0) :
    creditReturn (.ni n) {} d = Dev.upNi n (fun x => { x with used := x.used.modify 0 v (· - 1) })
      { d with net := { d.net with credN := d.net.credN.set n rest } } := by
  have hu' : (Dev.ni { d with net := { d.net with credN := d.net.credN.set n rest } } n).used.get 0 v ≠ 0 := hu
  simp [creditReturn, hs, hq, linkCheck_clean, hu']

/-! AGE_TICK. -/

/-- A router at an age tick. -/
def Router.tick (x : Router) : Router := { x with inp := x.inp.map fun v => (v.1, v.2.tick) }

theorem Router.tick_vc (x : Router) (k : Nat) : x.tick.vc k = (x.vc k).tick := Tbl.get_map InVc.tick {} {} rfl x.inp k

/-- An age tick reaches every input VC of every router. -/
theorem ageTick_vc (d : Dev) (r k : Nat) : ((ageTick d).router r).vc k = ((d.router r).vc k).tick := by
  have hrouter : (ageTick d).router r = (d.router r).tick := Tbl.get_map Router.tick {} {} rfl d.net.routers r
  rw [hrouter, Router.tick_vc]

/-- A head flit that waited makes its packet one unit older, up to 1,023 (R144, R147). -/
theorem InVc.tick_head {v : InVc} {f : Flit} {rest : List Flit} {q : Packet} (hw : v.waited = true) (hq : v.q = f :: rest)
    (hf : f.pkt = some q) : v.tick.q = { f with pkt := some { q with age := min 1023 (q.age + 1) } } :: rest := by
  simp [InVc.tick, hw, hq, hf, bump]

theorem InVc.tick_of_not_waited {v : InVc} (hw : v.waited = false) : v.tick = v := by
  simp [InVc.tick, hw]

/-- Settles O9, command by command from the equations above. -/
theorem routerFlits : Obligations.RouterFlits := by
  refine ⟨fun r p crcErr f rest s hw hs hp hst hq hi hd hb => ?buffered,
    fun r p e crcErr f rest s hw hs hp hst hq hi he => ?stopped,
    fun n f rest s hw hs hst hq hi hpkt ht hc => ?ejected,
    fun r port vc out r2 p2 v f rest q s hw hs hport hvc hinp hq hf hout ho hn hu hr => ?allocation,
    fun r w f s hw hs hd hx hy hm hi => ?setup, fun r p v rest s hw hs hst hq hu => ?creditRouter,
    fun n v rest s hw hs hst hq hu => ?creditNi, fun r k f q rest s hw hs hwait hq hf => ?age⟩
  case buffered =>
    have he := (routerFlitArrival_router_clean crcErr hp hst hq hi).trans (routerAccept_buffered hd hb)
    refine completes_of_fclkEffect rfl hw hs he ⟨rfl, ?_, fun i hi => Dev.upRouter_router_ne hi _ _, rfl⟩
    rw [Dev.upRouter_router_same, Router.upVc_vc_same]
    rfl
  case stopped =>
    obtain ⟨cap, he⟩ := routerFlitArrival_router_control crcErr hp hst hq hi he
    refine completes_of_fclkEffect rfl hw hs he ⟨rfl, ?_, ?_, fun i hi => Dev.upRouter_router_ne hi _ _, rfl, rfl⟩
    · rw [Dev.upRouter_router_same]
      rfl
    · rw [Dev.upRouter_router_same]
      rfl
  case ejected =>
    obtain ⟨hcome, hother, hframe⟩ := niAccept_body (n := n) (d := s.dev.setWireN n rest) hpkt ht hc rfl
    have hwire := congrArg (·.net.wireN) hframe
    refine completes_of_fclkEffect rfl hw hs (routerFlitArrival_ni_clean false hst hq hi) ⟨hwire, hcome, hother, ?_⟩ ?_
    · rw [hwire]
      exact hframe
    · rw [hframe]
      exact ⟨rfl, rfl, rfl, rfl⟩
  case allocation =>
    obtain ⟨hleft, hspent, hsent, hother, hframe⟩ := switchAllocation_sends hport hvc hinp hq hf hout ho hn hu hr rfl
    refine completes_of_fclkEffect rfl hw hs rfl ⟨hleft, hspent, hsent, hother, hframe⟩ ?_
    rw [hframe]
    exact ⟨rfl, rfl, rfl, rfl⟩
  case setup =>
    obtain ⟨o, i, he⟩ := expressSetupPhase_single hd hx hy hm hi
    refine completes_of_fclkEffect rfl hw hs he ⟨?_, ?_, ?_, fun i hi => Dev.upRouter_router_ne hi _ _, rfl⟩
    · rw [Dev.upRouter_router_same]
      rfl
    · rw [Dev.upRouter_router_same]
      exact Tbl.get_modify_same ..
    · rw [Dev.upRouter_router_same]
      rfl
  case creditRouter =>
    refine completes_of_fclkEffect rfl hw hs (creditReturn_router hst hq hu) ⟨rfl, ?_, fun i hi =>
      Dev.upRouter_router_ne hi _ _, rfl⟩
    rw [Dev.upRouter_router_same]
    exact Tbl.get_modify_same 0 (s.dev.router r).used (16 * p + v) (· - 1)
  case creditNi =>
    refine completes_of_fclkEffect rfl hw hs (creditReturn_ni hst hq hu) ⟨rfl, ?_, fun i hi => Dev.upNi_ni_ne hi _ _, rfl⟩
    rw [Dev.upNi_ni_same]
    exact Tbl.get_modify_same 0 (s.dev.ni n).used v (· - 1)
  case age =>
    refine completes_of_fclkEffect rfl hw hs rfl ⟨?_, fun i j hj => ?_, rfl⟩
    · rw [ageTick_vc, InVc.tick_head hwait hq hf]
    · rw [ageTick_vc, InVc.tick_of_not_waited hj]

end Sys2Proof.Machine
end

section
/-! SUPPORT. One NI that is updated more than once, the packet that an NI has acted on, and the commands whose effect is an update of
one NI (spec/07): the rules that the statements about network interfaces are assembled from. -/
namespace Sys2Proof

/-- Of two values written at a key the later one stays. -/
theorem Tbl.set_set {α : Type} (t : Tbl α) (k : Nat) (v w : α) : (t.set k v).set k w = t.set k w := by
  induction t with
  | nil => simp [Tbl.set]
  | cons e t ih =>
    obtain ⟨j, u⟩ := e
    by_cases hj : j = k
    · simp [Tbl.set, hj]
    · by_cases hk : k < j
      · simp [Tbl.set, hj, hk]
      · simp [Tbl.set, hj, hk, ih]

/-- A key of which a selection keeps no entry reads as not listed. -/
theorem Tbl.get_filter_of_not {α : Type} (z : α) {p : Nat × α → Bool} {k : Nat} (h : ∀ v, p (k, v) = false) (t : Tbl α) :
    Tbl.get z (t.filter p) k = z := by
  induction t with
  | nil => rfl
  | cons e t ih =>
    obtain ⟨j, v⟩ := e
    cases hp : p (j, v)
    · rw [List.filter_cons_of_neg (by simp [hp]), ih]
    · have hj : j ≠ k := by
        rintro rfl
        rw [h] at hp
        cases hp
      rw [List.filter_cons_of_pos hp, Tbl.get, if_neg hj, ih]

namespace Machine

/-! Updates of one NI. -/

theorem Dev.upNi_upNi (n : Nat) (f g : Ni → Ni) (d : Dev) : (d.upNi n f).upNi n g = d.upNi n fun x => g (f x) := by
  have hset : ((d.upNi n f).nis.modify {} n g) = d.nis.modify {} n fun x => g (f x) := by
    refine (Tbl.set_set d.nis n (f (d.ni n)) _).trans ?_
    exact congrArg (fun x => d.nis.set n (g x)) (Dev.upNi_ni_same n f d)
  exact congrArg (fun t => { d with nis := t }) hset

/-- An update of an NI is known by what it makes of that NI. -/
theorem Dev.upNi_congr {n : Nat} {f g : Ni → Ni} {d : Dev} (h : f (d.ni n) = g (d.ni n)) : d.upNi n f = d.upNi n g :=
  congrArg (fun x => { d with nis := d.nis.set n x }) h

theorem Completes.imp {c : Instr} {s : State} {P Q : Dev → Prop} (h : Completes c s P) (hpq : ∀ t, P t → Q t) :
    Completes c s Q := by
  obtain ⟨t, he, hp⟩ := h
  exact ⟨t, he, hpq t hp⟩

/-- `t` is `d` with NI `n` replaced by `x`. -/
def NiIs (d t : Dev) (n : Nat) (x : Ni) : Prop :=
  t.ni n = x ∧ NiOnly d t n ∧ t = { d with nis := t.nis }

theorem Dev.upNi_niIs (n : Nat) (g : Ni → Ni) (d : Dev) : NiIs d (d.upNi n g) n (g (d.ni n)) :=
  ⟨Dev.upNi_ni_same n g d, fun _ hi => Dev.upNi_ni_ne hi g d, rfl⟩

/-- A command whose effect is an update of NI `n` completes with that update. -/
theorem completes_upNi {c : Instr} {f : Dev → Dev} {s : State} {n : Nat} {g : Ni → Ni} (he : exec c s = act c.wellFormed f s)
    (hw : c.wellFormed = true) (hs : s.Ready) (hf : f s.dev = s.dev.upNi n g) :
    Completes c s fun t => NiIs s.dev t n (g (s.dev.ni n)) :=
  completes_of_effect he hw hs hf (Dev.upNi_niIs n g s.dev)

/-- The same of a command of the fabric, while FCLK runs. -/
theorem completes_fclk_upNi {c : Instr} {f : Dev → Dev} {s : State} {n : Nat} {g : Ni → Ni}
    (he : exec c s = actFclk c.wellFormed f s) (hw : c.wellFormed = true) (hs : s.Live) (hf : f s.dev = s.dev.upNi n g) :
    Completes c s fun t => NiIs s.dev t n (g (s.dev.ni n)) :=
  completes_upNi he hw hs.1 ((if_pos hs.2).trans hf)

/-! The packet that an NI has acted on. -/

/-- An NI with other contents of its ejection side. -/
def Ni.withEjection (taken ej : Tbl (List Flit)) (arrivals : List Nat) (x : Ni) : Ni :=
  { x with taken := taken, ej := ej, arrivals := arrivals }

/-- A device with other credits on their way to the routers. -/
def Dev.withCredR (cred : Tbl (List Nat)) (d : Dev) : Dev := { d with net := { d.net with credR := cred } }

/-- To be done with a packet changes the ejection side of its NI, and the credits that go back (R125). -/
theorem popEj_eq (n vc : Nat) (d : Dev) : ∃ taken ej arrivals cred,
    popEj n vc d = (d.withCredR cred).upNi n (Ni.withEjection taken ej arrivals) := by
  obtain h | ⟨cred, h⟩ := takeFlits_cases n vc
    (d.upNi n fun x => { x with taken := x.taken.erase vc, arrivals := x.arrivals.erase vc })
  · exact ⟨_, (d.ni n).ej, _, d.net.credR, h⟩
  · rw [Dev.upNi_upNi] at h
    exact ⟨_, _, _, cred, h⟩

theorem popEj_ni (n vc : Nat) (d : Dev) : ∃ taken ej arrivals,
    (popEj n vc d).ni n = (d.ni n).withEjection taken ej arrivals := by
  obtain ⟨taken, ej, arrivals, cred, h⟩ := popEj_eq n vc d
  rw [h, Dev.upNi_ni_same]
  exact ⟨taken, ej, arrivals, rfl⟩

/-- What reads no NI and no link reads the same once a packet is done with. -/
theorem popEj_keeps {α : Type} {read : Dev → α} (h : ∀ d nis net, read { d with nis := nis, net := net } = read d)
    (n vc : Nat) (d : Dev) : read (popEj n vc d) = read d := by
  obtain ⟨taken, ej, arrivals, cred, he⟩ := popEj_eq n vc d
  rw [he]
  exact h d _ _

@[simp] theorem popEj_unitUp (n vc u : Nat) (d : Dev) : (popEj n vc d).unitUp u = d.unitUp u :=
  popEj_keeps (read := fun d => d.unitUp u) (fun _ _ _ => rfl) n vc d

@[simp] theorem popEj_fenceApplies (n vc m : Nat) (q : Packet) (d : Dev) :
    fenceApplies (popEj n vc d) m q = fenceApplies d m q :=
  popEj_keeps (read := fun d => fenceApplies d m q) (fun _ _ _ => rfl) n vc d

@[simp] theorem popEj_fcfg (n vc : Nat) (d : Dev) : (popEj n vc d).fcfg = d.fcfg := popEj_keeps (fun _ _ _ => rfl) n vc d

@[simp] theorem popEj_memRead (n vc a len : Nat) (d : Dev) : (popEj n vc d).memRead a len = d.memRead a len :=
  popEj_keeps (read := fun d => d.memRead a len) (fun _ _ _ => rfl) n vc d

@[simp] theorem popEj_tags (n vc : Nat) (d : Dev) : ((popEj n vc d).ni n).tags = (d.ni n).tags := by
  obtain ⟨taken, ej, arrivals, h⟩ := popEj_ni n vc d
  rw [h]
  rfl

@[simp] theorem popEj_sent (n vc : Nat) (d : Dev) : ((popEj n vc d).ni n).sent = (d.ni n).sent := by
  obtain ⟨taken, ej, arrivals, h⟩ := popEj_ni n vc d
  rw [h]
  rfl

@[simp] theorem popEj_replica (n vc : Nat) (d : Dev) : (popEj n vc d).replica n = d.replica n := by
  obtain ⟨taken, ej, arrivals, cred, h⟩ := popEj_eq n vc d
  rw [h, Dev.replica, Dev.upNi_ni_same]
  rfl

/-- `t` is `d` with NI `n` changed by `g` after the packet that it acted on has left its ejection side. -/
def NiActed (d t : Dev) (n : Nat) (g : Ni → Ni) : Prop :=
  (∃ taken ej arrivals, t.ni n = g ((d.ni n).withEjection taken ej arrivals)) ∧ NiOnly d t n ∧
    t = { d with nis := t.nis, net := { d.net with credR := t.net.credR } }

theorem popEj_upNi_niActed (n vc : Nat) (g : Ni → Ni) (d : Dev) : NiActed d ((popEj n vc d).upNi n g) n g := by
  obtain ⟨taken, ej, arrivals, cred, h⟩ := popEj_eq n vc d
  rw [h, Dev.upNi_upNi]
  exact ⟨⟨taken, ej, arrivals, Dev.upNi_ni_same ..⟩, fun _ hi => Dev.upNi_ni_ne hi _ _, rfl⟩

/-- A command that acts on the packet at the front of an ejection VC, by an update of its NI. -/
theorem completes_acted {c : Instr} {f : Dev → Dev} {s : State} {n vc : Nat} {g : Ni → Ni}
    (he : exec c s = act c.wellFormed f s) (hw : c.wellFormed = true) (hs : s.Ready)
    (hf : f s.dev = (popEj n vc s.dev).upNi n g) : Completes c s fun t => NiActed s.dev t n g := by
  have hacted := popEj_upNi_niActed n vc g s.dev
  refine completes_of_effect he hw hs hf hacted ?_
  rw [hacted.2.2]
  exact ⟨rfl, rfl, rfl, rfl⟩

/-- The same of a command of the fabric, while FCLK runs. -/
theorem completes_fclk_acted {c : Instr} {f : Dev → Dev} {s : State} {n vc : Nat} {g : Ni → Ni}
    (he : exec c s = actFclk c.wellFormed f s) (hw : c.wellFormed = true) (hs : s.Live)
    (hf : f s.dev = (popEj n vc s.dev).upNi n g) : Completes c s fun t => NiActed s.dev t n g :=
  completes_acted he hw hs.1 ((if_pos hs.2).trans hf)

end Machine
end Sys2Proof
end

section
/-! SUPPORT. What an NI makes of a message, an arriving message and a credit return (R183 to R185, R190): one equation per case that
acts, and from these the obligation about messages. -/
namespace Sys2Proof.Machine

/-! Messages that a unit hands to its NI. -/

/-- An NI that queues one more packet. -/
def Ni.queueOut (o : Out) (x : Ni) : Ni := { x with out := x.out ++ [o] }

/-- Nothing bars a message of a unit that may issue it and is admitted, in a class and length that it may have (R16, R160). -/
theorem message_not_barred {issues admits : Bool} {cls len : Nat} (hm : issues = true) (hu : admits = true) (hc : cls ≠ 3)
    (hl : ¬ (cls = 0 ∧ 16 < len)) : ¬ (issues = false ∨ admits = false ∨ cls = 3 ∨ (cls = 0 ∧ 16 < len)) := by
  simp [hm, hu, hc, hl]

/-- A message that its unit may send is queued (R183, R186). -/
theorem unitMessage_admitted {n part cls dest mq code relS relNs : Nat} {timed : Bool} {data : Bytes} {d : Dev}
    (hm : mayIssue n (if timed then 5 else 4) = true) (hu : unitAdmits d n part = true) (hc : cls ≠ 3)
    (hl : ¬ (cls = 0 ∧ 16 < data.length)) :
    unitMessage n timed part cls dest mq code data relS relNs d = d.upNi n (Ni.queueOut {
      pkt := { messagePkt n part cls dest mq code data with ty := if timed then 5 else 4, relS := relS, relNs := relNs }
      kind := .message }) :=
  if_neg (message_not_barred hm hu hc hl)

/-! Fenced messages. -/

/-- An NI with the blocks `l` waiting at its unit. -/
def Ni.setAtUnit (l : List Out) (x : Ni) : Ni := { x with atUnit := l }

/-- An NI with nothing at its unit takes the one block that is presented, where it can. -/
theorem present_single {n : Nat} {o : Out} {d e : Dev} (ha : (d.ni n).atUnit = [])
    (ht : takeBlock n o (d.upNi n (Ni.setAtUnit [o])) = some e) : present n [o] d = e.upNi n (Ni.setAtUnit []) := by
  have hup : (d.upNi n fun x => { x with atUnit := x.atUnit ++ [o] }) = d.upNi n (Ni.setAtUnit [o]) :=
    Dev.upNi_congr (by simp [ha, Ni.setAtUnit])
  have hat : ((d.upNi n (Ni.setAtUnit [o])).ni n).atUnit = [o] := congrArg Ni.atUnit (Dev.upNi_ni_same ..)
  simp only [present, hup, takeUnit, hat, takeBlocks, List.any_nil, Bool.false_eq_true, if_false, ht]
  rfl

/-- An NI that has kept the fenced message `p` with the marks that it has queued. -/
def Ni.fenceWith (p : Packet) (marks : List Out) (x : Ni) : Ni :=
  { x with
    out := marks
    fenced := x.fenced ++ [{ id := x.fenceId, pkt := p, marks := marks.length }]
    fenceId := x.fenceId + 1 }

/-- The marks of a fenced message at an NI that holds nothing back: one to each destination and class that it has written (R190). -/
def Ni.marksOf (p : Packet) (x : Ni) : List Out := marksFor p.src p.part x.fenceId (x.fenceSet.map (·.1))

theorem takeFenced_idle {p : Packet} {d : Dev} (hw : (d.ni p.src).wcb = []) (ho : (d.ni p.src).out = []) :
    takeFenced p none d = d.upNi p.src (Ni.fenceWith p ((d.ni p.src).marksOf p)) := by
  simp only [takeFenced, closeWcb, Dev.upNi_upNi, Dev.upNi_ni_same]
  apply Dev.upNi_congr
  simp [Ni.fenceWith, Ni.marksOf, hw, ho]

/-- A fenced message of an NI that holds nothing back is kept with its marks, which are queued (R190). -/
theorem startFenced_idle {p : Packet} {d : Dev} (ha : (d.ni p.src).atUnit = []) (hw : (d.ni p.src).wcb = [])
    (ho : (d.ni p.src).out = []) : startFenced p none d = d.upNi p.src (Ni.fenceWith p ((d.ni p.src).marksOf p)) := by
  let o : Out := { pkt := p, kind := .fencedMsg, fence := none }
  have hni : (d.upNi p.src (Ni.setAtUnit [o])).ni p.src = (d.ni p.src).setAtUnit [o] := Dev.upNi_ni_same ..
  have htake := takeFenced_idle (p := p) (d := d.upNi p.src (Ni.setAtUnit [o])) (by rw [hni]; exact hw) (by rw [hni]; exact ho)
  refine (present_single (o := o) ha (congrArg some htake)).trans ?_
  rw [Dev.upNi_upNi, Dev.upNi_upNi, hni]
  refine Dev.upNi_congr ?_
  simp only [Ni.fenceWith, Ni.setAtUnit, Ni.marksOf, ← ha]

theorem fencedMessage_admitted {n part cls dest mq code : Nat} {data : Bytes} {d : Dev} (hm : mayIssue n 3 = true)
    (hu : unitAdmits d n part = true) (hc : cls ≠ 3) (hl : ¬ (cls = 0 ∧ 16 < data.length)) :
    fencedMessage n part cls dest mq code data d = startFenced (messagePkt n part cls dest mq code data) none d :=
  if_neg (message_not_barred hm hu hc hl)

/-- An NI whose fenced message `m`, with every mark answered, is queued and leaves its sets empty. -/
def Ni.injectFenced (m : FencedMsg) (x : Ni) : Ni :=
  { x with
    fenced := x.fenced.filter fun k => k.id != m.id
    fenceSet := []
    out := x.out ++ [{ pkt := { m.pkt with mstat := m.mstat }, kind := .message }] }

theorem fencedMessageInject_answered {n : Nat} {m : FencedMsg} {d : Dev}
    (hm : (d.ni n).fenced.find? (fun k => k.marks == 0 && k.pkt.ty != 3) = some m) :
    fencedMessageInject n d = d.upNi n (Ni.injectFenced m) := by
  simp only [fencedMessageInject, hm]
  rfl

/-! Messages that arrive. -/

/-- A message for a queue that the unit defines enters it (R185). -/
theorem messageIn_queued {n : Nat} {p : Packet} {d : Dev} (hq : mqDefined n p.mq = true) (hu : d.unitUp n = true)
    (hf : fenceApplies d n p = false) :
    messageIn n p false d = d.upNi n fun x => { x with mq := x.mq.modify [] p.mq (· ++ [p]) } := by
  simp [messageIn, hq, hu, hf]

/-- No unit defines a queue above MQ 3. -/
theorem mqDefined_lt {n q : Nat} (h : mqDefined n q = true) : q < 4 := by
  unfold mqDefined at h
  split at h <;> simp at h <;> omega

theorem messageArrival_queue {n vc : Nat} {p : Packet} {d : Dev} (hf : d.front n vc = some (p, false)) (ht : p.ty = 4)
    (hq : p.mq < 4) : messageArrival n vc d = messageIn n p false (popEj n vc d) := by
  have hff : p.mq ≠ 0xFF := by omega
  have hfe : p.mq ≠ 0xFE := by omega
  simp [messageArrival, hf, ht, hff, hfe]

/-- The front message of a queue leaves it, and its credit is owed to its source (R183). -/
theorem mqTake_front {n q : Nat} {m : Packet} {rest : List Packet} {d : Dev} (hq : (d.ni n).mq.get [] q = m :: rest)
    (hc : noCredit m = false) :
    mqTake n q d = d.upNi n fun x => { x with
      mq := x.mq.set q rest
      freedHere := x.freedHere.modify 0 (256 * m.src + queueOf m) fun v => (v + creditNeed m) % 256
      owed := x.owed.set (256 * m.src + queueOf m) true } := by
  simp only [mqTake, hq, freeCredits, hc, Bool.false_eq_true, if_false, Dev.upNi_upNi]

/-- An SE removes a message of queue 2 that is no FLUSH answer, and does nothing more (R183, R299). -/
theorem mqDequeue_se2 {n : Nat} {m : Packet} {rest : List Packet} {d : Dev} (hk : niKind n = 1)
    (hq : (d.ni n).mq.get [] 2 = m :: rest) (hu : d.unitUp n = true) (hc : m.code ≠ 3) : mqDequeue n 2 .none d = mqTake n 2 d := by
  have hfront : d.mqFront n 2 = some m := by rw [Dev.mqFront, hq, List.head?_cons]
  simp [mqDequeue, hfront, hu, hk, hc, Dev.when]

/-! Credits. -/

/-- Credits owed to a source are sent in one message, and kept to be sent once more (R184). -/
theorem creditReturnSend_owed {n src : Nat} {d : Dev} (h : owedTo (d.ni n).owed src ≠ []) :
    creditReturnSend n src d = d.upNi n fun x => { x with
      out := x.out ++ [{ pkt := messagePkt n 0 1 src 0xFF 0 (creditPairs (d.ni n) (owedTo (d.ni n).owed src)), kind := .own }]
      owed := x.owed.filter fun e => !(owedTo (d.ni n).owed src).contains e.1
      again := (owedTo (d.ni n).owed src).foldl (fun t k => Tbl.set t k true) x.again } := by
  simp only [creditReturnSend, List.isEmpty_iff, if_neg h, sendOwn, Dev.upNi_upNi]

theorem creditReturnRepeat_again {n src : Nat} {d : Dev} (h : owedTo (d.ni n).again src ≠ []) :
    creditReturnRepeat n src d = d.upNi n fun x => { x with
      out := x.out ++ [{ pkt := messagePkt n 0 1 src 0xFF 0 (creditPairs (d.ni n) (owedTo (d.ni n).again src)), kind := .own }]
      again := x.again.filter fun e => !(owedTo (d.ni n).again src).contains e.1 } := by
  simp only [creditReturnRepeat, List.isEmpty_iff, if_neg h, sendOwn, Dev.upNi_upNi]

/-- A count that keeps the source's credit within its share is taken (R184). -/
theorem takePair_within {n dest q v : Nat} {d : Dev}
    (h : ((d.ni n).sent.get 0 (256 * dest + q) + 256 - v) % 256 ≤ if q = 0xFE then 4 else 2) :
    takePair n dest q v d = d.upNi n fun x => { x with freed := x.freed.set (256 * dest + q) v } :=
  if_neg (Nat.not_lt.mpr h)

theorem creditReturnReceive_absorbed {n vc : Nat} {p : Packet} {d : Dev} (hf : d.front n vc = some (p, false)) (ht : p.ty = 4)
    (hq : p.mq = 0xFF) : creditReturnReceive n vc d = takePairs n p.src p.data (popEj n vc d) := by
  simp [creditReturnReceive, hf, ht, hq]

/-- Settles O11, command by command from the equations above. -/
theorem niMessages : Obligations.NiMessages := by
  refine ⟨fun n part cls dest mq code relS relNs timed data s hw hs hm hu hc hl => ?message,
    fun n part cls dest mq code data s hw hs hm hu hc hl ha hwcb ho => ?fenced, fun n m s hw hs hm => ?inject,
    fun n vc p s hw hs hf ht hq hu hfence => ?arrival, fun n src s hw hs ho => ?send, fun n src s hw hs ho => ?again,
    fun n vc q v p s hw hs hf ht hmq hd hshare => ?receive, fun n m rest s hw hs hk hq hu ht hmq hc => ?dequeue⟩
  case message =>
    refine (completes_fclk_upNi rfl hw hs (unitMessage_admitted hm hu hc hl)).imp fun t ⟨hni, hother, hframe⟩ => ?_
    rw [hni]
    exact ⟨rfl, rfl, hother, hframe⟩
  case fenced =>
    refine (completes_fclk_upNi (n := n) rfl hw hs ((fencedMessage_admitted hm hu hc hl).trans (startFenced_idle ha hwcb ho))).imp
      fun t ⟨hni, hother, hframe⟩ => ?_
    rw [hni]
    exact ⟨rfl, rfl, rfl, hother, hframe⟩
  case inject =>
    refine (completes_fclk_upNi rfl hw hs (fencedMessageInject_answered hm)).imp fun t ⟨hni, hother, hframe⟩ => ?_
    rw [hni]
    exact ⟨rfl, rfl, rfl, rfl, hother, hframe⟩
  case arrival =>
    have he := (messageArrival_queue hf ht (mqDefined_lt hq)).trans
      (messageIn_queued (d := popEj n vc s.dev) hq (by simpa using hu) (by simpa using hfence))
    refine (completes_fclk_acted rfl hw hs he).imp fun t ⟨⟨taken, ej, arrivals, hni⟩, hother, hframe⟩ => ⟨?_, hother, hframe⟩
    rw [hni]
    exact Tbl.get_modify_same [] (s.dev.ni n).mq p.mq (· ++ [p])
  case send =>
    refine (completes_fclk_upNi rfl hw hs (creditReturnSend_owed ho)).imp fun t ⟨hni, hother, hframe⟩ => ?_
    rw [hni]
    exact ⟨rfl, rfl, rfl, hother, hframe⟩
  case again =>
    refine (completes_fclk_upNi rfl hw hs (creditReturnRepeat_again ho)).imp fun t ⟨hni, hother, hframe⟩ => ?_
    rw [hni]
    exact ⟨rfl, rfl, rfl, hother, hframe⟩
  case receive =>
    have hpair := takePair_within (n := n) (dest := p.src) (q := q.toNat) (v := v.toNat) (d := popEj n vc s.dev)
      (by simpa using hshare)
    have he := creditReturnReceive_absorbed hf ht hmq
    rw [hd] at he
    refine (completes_fclk_acted rfl hw hs (he.trans hpair)).imp
      fun t ⟨⟨taken, ej, arrivals, hni⟩, hother, hframe⟩ => ⟨?_, hother, hframe⟩
    rw [hni]
    exact Tbl.get_set_same ..
  case dequeue =>
    have hcredit : noCredit m = false := by simp [noCredit, hmq]
    have hqueue : queueOf m = 2 := by simp [queueOf, ht, hmq]
    have he := (mqDequeue_se2 hk hq hu hc).trans (mqTake_front hq hcredit)
    rw [hqueue] at he
    refine (completes_upNi rfl hw hs he).imp fun t ⟨hni, hother, hframe⟩ => ?_
    rw [hni]
    exact ⟨Tbl.get_set_same .., Tbl.get_set_same .., hother, hframe⟩

end Sys2Proof.Machine
end

section
/-! SUPPORT. What a basin slice makes of a READ and of a posted WRITE, and an NI of a fence mark (R181, R182, R189): one equation per
case that acts, and from these the obligation about targets. -/
namespace Sys2Proof.Machine

/-! Requests that a basin slice performs. -/

/-- A memory NI has no rows of its own for the bridge or the outbound port. -/
theorem elsewhere_of_basin {n : Nat} (hk : niKind n = 6) (q : Packet) : elsewhere n q = false := by simp [elsewhere, hk]

theorem storeFull_of_basin {n : Nat} (hk : niKind n = 6) (d : Dev) (q : Packet) : storeFull d n q = false := by
  simp [storeFull, atJobPort, hk]

/-- A basin slice has no DRAM commands to fail. -/
theorem dramCommand_of_basin {n : Nat} (hk : niKind n = 6) (write : Bool) (d : Dev) : dramCommand n write d = d := by
  simp [dramCommand, hk]

/-- A request of a basin's memory, free of its registers and of the queue contexts, that its fence and its power let be performed
(R26, R100, R181, R195). -/
structure BasinMemory (n : Nat) (q : Packet) (d : Dev) : Prop where
  kind : niKind n = 6
  accepted : accepts n q.ty q.addr = true
  noReg : regPlace n q.addr = .none
  noCtx : inQctx q.addr = false
  up : d.unitUp n = true
  unfenced : fenceApplies d n q = false

theorem BasinMemory.popEj {n vc : Nat} {q : Packet} {d : Dev} (h : BasinMemory n q d) : BasinMemory n q (popEj n vc d) where
  kind := h.kind
  accepted := h.accepted
  noReg := h.noReg
  noCtx := h.noCtx
  up := (popEj_unitUp n vc n d).trans h.up
  unfenced := (popEj_fenceApplies n vc n q d).trans h.unfenced

/-- A READ of a basin's memory brings its bytes (R181). -/
theorem requestAnswer_read {n : Nat} {q : Packet} {d : Dev} (h : BasinMemory n q d) (ht : q.ty = 0) :
    requestAnswer n q false .none d = (0, d.memRead q.addr q.size, d) := by
  obtain ⟨hk, hacc, hreg, hctx, hup, hfence⟩ := h
  rw [ht] at hacc
  simp [requestAnswer, hacc, hreg, hup, hfence, isMemoryNi, hk, hctx, ht, dramCommand_of_basin]

/-- A posted WRITE of a basin's memory is performed (R182). -/
theorem performPosted_write {n : Nat} {q : Packet} {d : Dev} (h : BasinMemory n q d) :
    performPosted n q false d = d.memWrite q.addr q.data := by
  obtain ⟨hk, hacc, hreg, hctx, hup, hfence⟩ := h
  simp [performPosted, hacc, hreg, hup, hfence, isMemoryNi, hk, hctx, dramCommand_of_basin]

/-- The response of status OK to a READ is queued with the bytes read (R181). -/
theorem respond_read {n : Nat} {q : Packet} (ht : q.ty = 0) (bs : Bytes) (d : Dev) :
    respond n q 0 bs d = d.upNi n (Ni.queueOut {
      pkt := {
        dest := q.src, src := n, ty := 8, cls := q.cls, part := q.part, tag := q.tag, addr := q.addr % 256, size := q.size
        data := bs, status := 0 }
      kind := .response }) := by
  simp only [respond, ht]
  rfl

theorem targetRequest_read {n vc : Nat} {q : Packet} {d : Dev} (hf : d.front n vc = some (q, false))
    (hn : isNext d n vc = true) (ht : q.ty = 0) (h : BasinMemory n q d) :
    targetRequest n vc .none d = (popEj n vc d).upNi n (Ni.queueOut {
      pkt := {
        dest := q.src, src := n, ty := 8, cls := q.cls, part := q.part, tag := q.tag, addr := q.addr % 256, size := q.size
        data := d.memRead q.addr q.size, status := 0 }
      kind := .response }) := by
  have hacts : targetRequest n vc .none d = performRequest n q false .none (popEj n vc d) := by
    simp [targetRequest, hf, ht, hn, elsewhere_of_basin h.kind, storeFull_of_basin h.kind]
  rw [hacts, performRequest, requestAnswer_read h.popEj ht, respond_read ht, popEj_memRead]

theorem targetPostedWrite_write {n vc : Nat} {q : Packet} {d : Dev} (hf : d.front n vc = some (q, false))
    (hn : isNext d n vc = true) (ht : q.ty = 1) (h : BasinMemory n q d) :
    targetPostedWrite n vc d = (popEj n vc d).memWrite q.addr q.data := by
  have hacts : targetPostedWrite n vc d = performPosted n q false (popEj n vc d) := by
    simp [targetPostedWrite, hf, ht, hn, elsewhere_of_basin h.kind]
  rw [hacts, performPosted_write h.popEj]

/-- A memory write that is the one change of memory in its command stands at the end of it. -/
theorem settle_memWrite_stored {d e : Dev} (hb : e.bus = []) (a : Nat) (bs : Bytes) :
    Stored d (settle d (e.memWrite a bs)) a bs := fun i => by
  rw [settle_stored, Dev.memWrite, hb]
  rfl

/-- The end of a command that changed NIs and links, and made the memory changes `ops`. -/
theorem settle_memOps {d : Dev} (hb : d.bus = []) (nis : Tbl Ni) (net : Net) (ops : List MemOp) :
    settle d { d with nis := nis, net := net, bus := ops } =
      { d with nis := nis, net := net, mem := Mem.applyAll ops d.mem, undef := Undef.applyAll ops d.undef } := by
  cases d with
  | mk =>
    simp only at hb
    subst hb
    rfl

/-- A command of the fabric that acts on the packet at the front of an ejection VC by a write of memory. -/
theorem completes_fclk_acted_write {c : Instr} {f : Dev → Dev} {s : State} {n vc a : Nat} {bs : Bytes}
    (he : exec c s = actFclk c.wellFormed f s) (hw : c.wellFormed = true) (hs : s.Live)
    (hf : f s.dev = (popEj n vc s.dev).memWrite a bs) :
    Completes c s fun t => Stored s.dev t a bs ∧ (t.ni n).out = (s.dev.ni n).out ∧ NiOnly s.dev t n ∧
      t = { s.dev with
        nis := t.nis, net := { s.dev.net with credR := t.net.credR }, mem := t.mem, undef := t.undef } := by
  obtain ⟨taken, ej, arrivals, cred, hpop⟩ := popEj_eq n vc s.dev
  obtain ⟨hready, hrun⟩ := hs
  let e := (s.dev.withCredR cred).upNi n (Ni.withEjection taken ej arrivals)
  have hout : (e.ni n).out = (s.dev.ni n).out := by
    rw [Dev.upNi_ni_same]
    rfl
  have hother : NiOnly s.dev e n := fun i hi => Dev.upNi_ni_ne hi _ _
  refine ⟨settle s.dev (e.memWrite a bs), ?_, settle_memWrite_stored hready.2 a bs, hout, hother,
    settle_memOps hready.2 e.nis e.net (.write a bs :: e.bus)⟩
  rw [he, actFclk_ready f hw hready.1 hrun, hf, hpop]

/-! Fence marks. -/

/-- A mark whose partition's fence does not apply is answered OK (R189). -/
theorem respond_mark {n : Nat} {q : Packet} (ht : q.ty = 3) (d : Dev) :
    respond n q 0 [] d = d.upNi n (Ni.queueOut {
      pkt := {
        dest := q.src, src := n, ty := 9, cls := q.cls, part := q.part, tag := q.tag, addr := q.addr % 256, size := q.size }
      kind := .response }) := by
  simp only [respond, ht]
  rfl

theorem fenceMarkAnswer_ok {n vc : Nat} {q : Packet} {d : Dev} (h65 : n ≠ 65) (hf : d.front n vc = some (q, false))
    (hn : isNext d n vc = true) (ht : q.ty = 3) (hu : d.unitUp n = true) (hfence : fenceApplies d n q = false) :
    fenceMarkAnswer n vc d = respond n q 0 [] (popEj n vc d) := by
  simp [fenceMarkAnswer, answerMark, Dev.when, h65, hf, hn, ht, hu, hfence]

/-- Settles O12, command by command from the equations above. -/
theorem niTargets : Obligations.NiTargets := by
  refine ⟨fun n vc q s hw hs hk hf hn ht hacc hreg hctx hu hfence => ?read,
    fun n vc q s hw hs hk hf hn ht hacc hreg hctx hu hfence => ?write, fun n vc q s hw hs h65 hf hn ht hu hfence => ?mark⟩
  case read =>
    have he := targetRequest_read hf hn ht ⟨hk, hacc, hreg, hctx, hu, hfence⟩
    refine (completes_fclk_acted rfl hw hs he).imp fun t ⟨⟨taken, ej, arrivals, hni⟩, hother, hframe⟩ => ⟨?_, hother, hframe⟩
    rw [hni]
    rfl
  case write =>
    exact completes_fclk_acted_write rfl hw hs (targetPostedWrite_write hf hn ht ⟨hk, hacc, hreg, hctx, hu, hfence⟩)
  case mark =>
    have he := (fenceMarkAnswer_ok h65 hf hn ht hu hfence).trans (respond_mark ht _)
    refine (completes_acted rfl hw hs he).imp fun t ⟨⟨taken, ej, arrivals, hni⟩, hother, hframe⟩ => ⟨?_, hother, hframe⟩
    rw [hni]
    rfl

end Sys2Proof.Machine
end

section
/-! SUPPORT. What becomes of a tag at its response, its reissue and its timeout (R180, R181, R193): one equation per case that acts,
and from these the obligation about tags. -/
namespace Sys2Proof.Machine

/-- An NI whose unit's own request is answered: the answer is counted and delivered, and joins none that an engine waits for
(R181, R192). -/
def Ni.deliver (r : Delivered) (x : Ni) : Ni := { (x.count 32 (0x400 + 8 * r.status)) with delivered := some r }

theorem deliverNow_unit {r : Delivered} (hc : r.req.code < 3) (hs : r.status ≠ 6) (n : Nat) (d : Dev) :
    deliverNow n r d = d.upNi n (Ni.deliver r) := by
  simp only [deliverNow, if_neg (Nat.not_le.mpr hc), if_neg hs]
  rfl

/-- The end of a request that no issue order and no fenced message waits for hands its answer to the unit (R175). -/
theorem complete_unit {g : Tag} {status : Nat} {data : Bytes} (hf : g.fence = none) (ho : g.ordered = false)
    (hc : g.req.code < 3) (hs : status ≠ 6) (n : Nat) (d : Dev) :
    complete n g status data d = d.upNi n (Ni.deliver { req := g.req, status := status, data := data }) := by
  simp only [complete, hf, ho, Bool.false_eq_true, if_false]
  exact deliverNow_unit hc hs n d

/-- An NI that has freed a tag. -/
def Ni.freeTag (tag : Nat) (x : Ni) : Ni := { x with tags := x.tags.erase tag }

/-- The OK response of a request in flight frees its tag and is delivered (R181). -/
theorem responseIn_ok {n : Nat} {r : Packet} {g : Tag} {d : Dev} (hg : (d.ni n).tags.find? r.tag = some g)
    (hst : g.st = .inFlight) (hd : g.req.dest = r.src) (hc : g.req.code < 3) (ho : g.ordered = false) (hf : g.fence = none)
    (hs : r.status = 0) :
    responseIn n r false d = d.upNi n fun x => (x.freeTag r.tag).deliver { req := g.req, status := 0, data := r.data } := by
  have hcomplete := complete_unit (data := r.data) hf ho hc (by decide : 0 ≠ 6) n (d.upNi n (Ni.freeTag r.tag))
  rw [Dev.upNi_upNi] at hcomplete
  have hends : responseIn n r false d = complete n g 0 r.data (d.upNi n (Ni.freeTag r.tag)) := by
    simp [responseIn, hg, hst, hd, hs, ho]
    rfl
  exact hends.trans hcomplete

theorem responseArrival_in {n vc : Nat} {r : Packet} {d : Dev} (hf : d.front n vc = some (r, false)) (ht : r.ty = 8) :
    responseArrival n vc .none d = responseIn n r false (popEj n vc d) := by
  simp [responseArrival, hf, ht]

/-- A request that waits for its retry is queued again, with AGE 0 and one reissue more (R181). -/
theorem retryReissue_waiting {n tag : Nat} {g : Tag} {d : Dev} (hg : (d.ni n).tags.find? tag = some g) (hst : g.st = .retryWait) :
    retryReissue n tag d = d.upNi n fun x => { (x.count 32 0x480) with
      tags := x.tags.set tag { g with st := .reissue, reissues := g.reissues + 1 }
      out := x.out ++ [{ pkt := { g.req with age := 0 }, kind := .reissue tag }] } := by
  simp only [retryReissue, hg, hst, if_true]

/-- An NI that has quarantined the tag that `g` holds: a reissue of it that waits is not sent (R180). -/
def Ni.quarantineTag (tag : Nat) (g : Tag) (x : Ni) : Ni :=
  { x with tags := x.tags.set tag { g with st := .quarantined }, out := x.out.filter fun o => o.kind != .reissue tag }

/-- An NI that has given up a tag: its request ends with the status given. -/
def Ni.giveUp (tag : Nat) (g : Tag) (status : Nat) (x : Ni) : Ni :=
  (x.quarantineTag tag g).deliver { req := g.req, status := status, data := [] }

/-- The tag of a request of the unit is given up (R180). -/
theorem abandonTag_unit {n tag status : Nat} {g : Tag} {d : Dev} (hg : (d.ni n).tags.find? tag = some g)
    (hst : g.st ≠ .quarantined) (hc : g.req.code < 3) (ho : g.ordered = false) (hf : g.fence = none) (hs : status ≠ 6) :
    abandonTag n tag status d = d.upNi n (Ni.giveUp tag g status) := by
  have hcomplete := complete_unit (data := []) hf ho hc hs n (d.upNi n (Ni.quarantineTag tag g))
  rw [Dev.upNi_upNi] at hcomplete
  have hends : abandonTag n tag status d = complete n g status [] (d.upNi n (Ni.quarantineTag tag g)) := by
    simp only [abandonTag, hg, if_neg hst]
    exact if_neg (by simp [ho])
  exact hends.trans hcomplete

theorem responseTimeout_due {n tag : Nat} {g : Tag} {d : Dev} (hg : (d.ni n).tags.find? tag = some g)
    (hst : g.st ≠ .quarantined) (hr : responseHere d n tag = false) :
    responseTimeout n tag d = (abandonTag n tag 1 d).raise 0x4D n g.req.part := by
  simp [responseTimeout, hg, hst, hr]

/-- Only an HP takes an answer at once (R325). -/
theorem hostTake_of_not_hp {n : Nat} (hk : niKind n ≠ 3) (d : Dev) : hostTake n d = d := if_neg hk

/-- Settles O13, command by command from the equations above. -/
theorem niTags : Obligations.NiTags := by
  refine ⟨fun n vc r g s hw hs hfront ht hk hg hst hd hc ho hf hok => ?response, fun n tag g s hw hs hg hst => ?reissue,
    fun n tag g s hw hs hk hg hst hr hc ho hf hi => ?timeout⟩
  case response =>
    have he := (hostTake_of_not_hp hk _).trans <| (responseArrival_in hfront ht).trans
      (responseIn_ok (d := popEj n vc s.dev) (by rw [popEj_tags]; exact hg) hst hd hc ho hf hok)
    refine (completes_fclk_acted rfl hw hs he).imp
      fun t ⟨⟨taken, ej, arrivals, hni⟩, hother, hframe⟩ => ⟨?_, ?_, hother, hframe⟩
    · rw [hni]
      rfl
    · rw [hni]
      rfl
  case reissue =>
    refine (completes_fclk_upNi rfl hw hs (retryReissue_waiting hg hst)).imp fun t ⟨hni, hother, hframe⟩ => ?_
    rw [hni]
    exact ⟨rfl, rfl, rfl, hother, hframe⟩
  case timeout =>
    have hgiven := abandonTag_unit hg hst hc ho hf (by decide : 1 ≠ 6)
    have hraise := Dev.raise_of_not_armed 0x4D n g.req.part 0 (d := abandonTag n tag 1 s.dev) (by rw [hgiven]; exact hi)
    have he := (hostTake_of_not_hp hk _).trans <| (responseTimeout_due hg hst hr).trans hraise
    rw [hgiven] at he
    have hni : (s.dev.upNi n (Ni.giveUp tag g 1)).ni n = (s.dev.ni n).giveUp tag g 1 := Dev.upNi_ni_same ..
    exact completes_of_fclkEffect rfl hw hs he
      ⟨congrArg Ni.tags hni, congrArg Ni.delivered hni, rfl, fun i hi => Dev.upNi_ni_ne hi (Ni.giveUp tag g 1) s.dev, rfl⟩

end Sys2Proof.Machine
end

section
/-! SUPPORT. Timed messages, the check of a replica against a SYNC message, and the clear registers of an NI (R102, R167, R186 to
R188, R192): one equation per case that acts, and from these the obligation about them. -/
namespace Sys2Proof.Machine

/-! Timed messages. -/

/-- An NI that holds the timed message `p`. -/
def Ni.holdMsg (p : Packet) (x : Ni) : Ni := { (x.peak 0x702 (x.hold.length + 1)) with hold := x.hold ++ [⟨p, false⟩] }

/-- A timed message whose release lies ahead within the horizon is held (R186, R187). -/
theorem timedIn_ahead {n : Nat} {p : Packet} {d : Dev} (hh : hasHold n = true) (hu : d.unitUp n = true)
    (hf : fenceApplies d n p = false) (hd : timedDefined n p.mq p.code = true) (hahead : d.replica n < timeCount p.relS p.relNs)
    (hnear : timeCount p.relS p.relNs - d.replica n ≤ ((d.fcfg.nat 0x2301 5 * 1500000 : Nat) : Int)) :
    timedIn n p false d = d.upNi n (Ni.holdMsg p) := by
  simp only [timedIn, hh, hu, hf, hd, if_neg (Int.not_le.mpr hahead), if_neg (Int.not_lt.mpr hnear), Bool.false_eq_true,
    Bool.true_eq_false, or_self, if_false]
  rfl

theorem timedMessageArrival_in {n vc : Nat} {p : Packet} {d : Dev} (hf : d.front n vc = some (p, false)) (ht : p.ty = 5) :
    timedMessageArrival n vc d = timedIn n p false (popEj n vc d) := by
  simp [timedMessageArrival, hf, ht]

/-- An NI that owes the credits of message `p` to its source. -/
def Ni.oweFor (p : Packet) (x : Ni) : Ni :=
  if noCredit p then x
  else { x with
    freedHere := x.freedHere.modify 0 (256 * p.src + queueOf p) fun v => (v + creditNeed p) % 256
    owed := x.owed.set (256 * p.src + queueOf p) true }

/-- Freed credits after another update of the NI make one update with it. -/
theorem freeCredits_upNi (n : Nat) (p : Packet) (f : Ni → Ni) (d : Dev) :
    freeCredits n p (d.upNi n f) = d.upNi n fun x => (f x).oweFor p := by
  unfold freeCredits Ni.oweFor
  split
  · rfl
  · rw [Dev.upNi_upNi]

theorem Ni.oweFor_hold (p : Packet) (x : Ni) : (x.oweFor p).hold = x.hold := by
  unfold Ni.oweFor
  split <;> rfl

theorem Ni.oweFor_released (p : Packet) (x : Ni) : (x.oweFor p).released = x.released := by
  unfold Ni.oweFor
  split <;> rfl

/-- An NI that has released the one message that it held. -/
def Ni.releaseOne (h : Released) (x : Ni) : Ni := { x with hold := [], released := x.released ++ [h] }

/-- The one message that is held leaves when it is due, and its credits are owed (R186). -/
theorem releaseDue_single {n : Nat} {h : Released} {d : Dev} (hh : (d.ni n).hold = [h]) (hl : h.late = false)
    (hd : timeCount h.pkt.relS h.pkt.relNs ≤ d.replica n) :
    releaseDue n d = freeCredits n h.pkt (d.upNi n (Ni.releaseOne h)) := by
  have hdue : dueHeld d n h = true := decide_eq_true hd
  simp [releaseDue, hh, hdue, hl, Dev.fold]
  rfl

/-! The check of a replica. -/

/-- The error that NI `n` finds in a SYNC message: the replica less the stamp and the way of the message (R188). -/
def syncError (d : Dev) (n : Nat) (p : Packet) : Int :=
  d.replica n - (stampOf p.data + (2 * hops (niPlace 64).1 (niPlace n).1 + 6 : Nat))

@[simp] theorem Dev.onTiming_ni (f : Timing → Timing) (d : Dev) (n : Nat) : (d.onTiming f).ni n = d.ni n := rfl

/-- An NI that has noted the error of a SYNC message. -/
def Ni.noteSync (e : Int) (x : Ni) : Ni := { (x.count 32 0x5010) with lastE := e }

/-- An error within what is allowed is noted and reported to nobody (R188). -/
theorem checkSync_allowed {n : Nat} {p : Packet} {d : Dev} (h0 : 0 ≤ syncError d n p)
    (h1 : syncError d n p ≤ 90 - (2 * hops (niPlace 64).1 (niPlace n).1 : Nat)) :
    checkSync n p d = (d.upNi n (Ni.noteSync (syncError d n p))).onTiming fun t =>
      { t with largest := widerError t.largest (syncError d n p) } :=
  if_pos ⟨h0, h1⟩

theorem syncCheck_sync {n vc : Nat} {p : Packet} {d : Dev} (hf : d.front n vc = some (p, false)) (ht : p.ty = 4)
    (hq : p.mq = 0xFE) (hc : p.code = 0) (hn : n ≠ 64) : syncCheck n vc d = checkSync n p (popEj n vc d) := by
  simp [syncCheck, hf, ht, hq, hn, takeTime, hc]

/-! Clear registers. -/

/-- An NI whose registers at the offsets from `lo` up to `hi` are taken out. -/
def Ni.clearRegs (lo hi : Nat) (x : Ni) : Ni := { x with regs := x.regs.filter fun e => decide (e.1 < lo ∨ hi ≤ e.1) }

/-- A register that is taken out reads 0. -/
theorem Ni.clearRegs_reg {lo hi o : Nat} (hlo : lo ≤ o) (hhi : o < hi) (x : Ni) : (x.clearRegs lo hi).reg o = 0 :=
  Tbl.get_filter_of_not 0 (fun _ => decide_eq_false (by omega)) x.regs

/-- An NI with no record of a decode error. -/
def Ni.clearDecerr (x : Ni) : Ni := { x with regs := (x.regs.erase 0x10).erase 0x18 }

theorem Ni.clearDecerr_count (x : Ni) : x.clearDecerr.reg 0x10 = 0 :=
  (Tbl.get_erase_ne 0 _ (by decide)).trans (Tbl.get_erase_same 0 x.regs 0x10)

theorem Ni.clearDecerr_addr (x : Ni) : x.clearDecerr.reg 0x18 = 0 := Tbl.get_erase_same ..

theorem niDecerrClr_odd {value : Nat} (hv : value % 2 ≠ 0) (n : Nat) (d : Dev) :
    niDecerrClr n value d = d.upNi n Ni.clearDecerr := by
  rw [niDecerrClr, niRegWrite, if_neg hv, if_pos rfl]
  rfl

theorem niStatClr_odd {value : Nat} (hv : value % 2 ≠ 0) (n : Nat) (d : Dev) :
    niStatClr n value d = d.upNi n (Ni.clearRegs 0x100 0x4000) := by
  rw [niStatClr, niRegWrite, if_neg hv, if_neg (by decide), if_pos rfl]
  rfl

theorem weirClr_odd {value : Nat} (hv : value % 2 ≠ 0) (n : Nat) (d : Dev) :
    weirClr n value d = d.upNi n (Ni.clearRegs 0x4000 0x5000) := by
  rw [weirClr, niRegWrite, if_neg hv, if_neg (by decide), if_neg (by decide), if_pos rfl]
  rfl

/-- Settles O14, command by command from the equations above. -/
theorem niTimeAndClears : Obligations.NiTimeAndClears := by
  refine ⟨fun n vc p s hw hs hf ht hh hu hfence hd hahead hnear => ?held, fun n h s hw hs hh hl hdue => ?released,
    fun n vc p s hw hs hf ht hq hc hn h0 h1 => ?sync, fun n value s hw hs hv => ?decerr, fun n value s hw hs hv => ?stat,
    fun n value s hw hs hv => ?weir⟩
  case held =>
    have he := (timedMessageArrival_in hf ht).trans (timedIn_ahead (d := popEj n vc s.dev) hh (by simpa using hu)
      (by simpa using hfence) hd (by simpa using hahead) (by simpa using hnear))
    refine (completes_fclk_acted rfl hw hs he).imp
      fun t ⟨⟨taken, ej, arrivals, hni⟩, hother, hframe⟩ => ⟨?_, ?_, hother, hframe⟩
    · rw [hni]
      rfl
    · rw [hni]
      rfl
  case released =>
    have he := (releaseDue_single hh hl hdue).trans (freeCredits_upNi n h.pkt (Ni.releaseOne h) s.dev)
    refine (completes_fclk_upNi rfl hw hs he).imp fun t ⟨hni, hother, hframe⟩ => ?_
    rw [hni, Ni.oweFor_hold, Ni.oweFor_released]
    exact ⟨rfl, rfl, hother, hframe⟩
  case sync =>
    have herr : syncError (popEj n vc s.dev) n p = syncError s.dev n p := by rw [syncError, popEj_replica, syncError]
    have he := (syncCheck_sync hf ht hq hc hn).trans (checkSync_allowed (by rw [herr]; exact h0) (by rw [herr]; exact h1))
    obtain ⟨taken, ej, arrivals, cred, hpop⟩ := popEj_eq n vc s.dev
    rw [herr, hpop, Dev.upNi_upNi] at he
    refine completes_of_fclkEffect rfl hw hs he ?_
    simp only [Dev.onTiming_ni, Dev.upNi_ni_same]
    exact ⟨rfl, rfl, rfl, fun i hi => Dev.upNi_ni_ne hi _ (s.dev.withCredR cred), rfl⟩
  case decerr =>
    refine (completes_fclk_upNi rfl hw hs (niDecerrClr_odd (by omega) n s.dev)).imp fun t ⟨hni, hother, hframe⟩ => ?_
    rw [hni]
    exact ⟨rfl, Ni.clearDecerr_count _, Ni.clearDecerr_addr _, rfl, hother, hframe⟩
  case stat =>
    refine (completes_fclk_upNi rfl hw hs (niStatClr_odd (by omega) n s.dev)).imp fun t ⟨hni, hother, hframe⟩ => ?_
    rw [hni]
    exact ⟨rfl, fun o hlo hhi => Ni.clearRegs_reg hlo hhi _, rfl, hother, hframe⟩
  case weir =>
    refine (completes_fclk_upNi rfl hw hs (weirClr_odd (by omega) n s.dev)).imp fun t ⟨hni, hother, hframe⟩ => ?_
    rw [hni]
    exact ⟨rfl, fun o hlo hhi => Ni.clearRegs_reg hlo hhi _, rfl, hother, hframe⟩

end Sys2Proof.Machine
end

section
/-! SUPPORT. An arbitration phase of the peripheral matrix with one access in it, the end of an access, the resets and edges of the
lockkeeper, and a request that it sends to the fabric (R199 to R207, R220, R221): one equation per case that acts, and from these
the obligation about accesses on the matrix. -/
namespace Sys2Proof.Machine

/-! Commands that write memory once. -/

/-- A command whose effect is a write of memory after an effect that keeps clock and memory. -/
theorem completes_of_memWrite {c : Instr} {f : Dev → Dev} {s : State} {e : Dev} {a : Nat} {bs : Bytes}
    (he : exec c s = act c.wellFormed f s) (hw : c.wellFormed = true) (hs : s.Ready) (hf : f s.dev = e.memWrite a bs)
    (hk : MemoryKept s.dev e) :
    Completes c s fun t => Stored s.dev t a bs ∧ t = { e with mem := t.mem, undef := t.undef } := by
  obtain ⟨hclock, -, -, hbus⟩ := hk
  have hempty : e.bus = [] := hbus.trans hs.2
  refine ⟨settle s.dev (e.memWrite a bs), ?_, settle_memWrite_stored hempty a bs, ?_⟩
  · rw [he, act_ready f hw hs.1, hf]
  · simp only [settle, Dev.memWrite, hempty, ← hclock]

/-! A table with one entry. -/

@[simp] theorem Tbl.has_nil {α : Type} (k : Nat) : Tbl.has ([] : Tbl α) k = false := rfl

theorem Tbl.find?_single {α : Type} (k : Nat) (v : α) : Tbl.find? [(k, v)] k = some v := if_pos rfl

theorem Tbl.find?_single_ne {α : Type} {k i : Nat} (h : i ≠ k) (v : α) : Tbl.find? [(k, v)] i = none := if_neg h.symm

/-! Folds that act at one place. -/

/-- Steps that leave the device as it is add up to nothing. -/
theorem Dev.fold_fixed {α : Type} {f : α → Dev → Dev} {d : Dev} (l : List α) (h : ∀ x ∈ l, f x d = d) :
    Dev.fold l f d = d := by
  induction l with
  | nil => rfl
  | cons x l ih =>
    have hx : f x d = d := h x List.mem_cons_self
    have hl := ih fun y hy => h y (List.mem_cons_of_mem x hy)
    simpa only [Dev.fold, List.foldl_cons, hx] using hl

/-- The twelve target ports of the matrix, of which port 1 is the second. -/
theorem Dev.fold_ports (f : Nat → Dev → Dev) (d : Dev) :
    Dev.fold (List.range 12) f d = Dev.fold (List.range' 2 10) f (f 1 (f 0 d)) := rfl

/-! Which master a target port grants. -/

/-- A master that alone has an access asks nowhere for another. -/
theorem asks_other {d : Dev} {m i : Nat} {x : MxAccess} (ha : d.matrix.acc = [(m, x)]) (hi : i ≠ m) (bad port : Nat) :
    asks d bad port i = false := by
  simp [asks, ha, Tbl.find?_single_ne hi]

/-- While a response is due nobody asks (R201). -/
theorem asks_waiting {d : Dev} {m : Nat} {x : MxAccess} (ha : d.matrix.acc = [(m, x)]) (hx : x.waiting = true) (bad port i : Nat) :
    asks d bad port i = false := by
  by_cases hi : i = m
  · subst hi
    simp [asks, ha, Tbl.find?_single, hx]
  · exact asks_other ha hi bad port

/-- A master with a beat to come asks at the port that the beat decodes to, and nowhere else. -/
theorem asks_sole {d : Dev} {m : Nat} {x : MxAccess} (ha : d.matrix.acc = [(m, x)]) (h3 : m ≠ 3) (hx : x.waiting = false)
    (hg : x.granted < x.beats) (port : Nat) : asks d 0 port m = decide ((nextTarget d x).port = port) := by
  have hm : (m == 3) = false := beq_false_of_ne h3
  have hasks : asks d 0 port m = ((nextTarget d x).port == port) := by
    simp only [asks, ha, Tbl.find?_single, hx, hm, hg, bitOf, Nat.zero_testBit, decide_true, Bool.false_and, Bool.not_false,
      Bool.and_true, Bool.true_and]
  exact hasks

theorem openPiece_none {d : Dev} (h : d.matrix.openBy = []) (port : Nat) : openPiece d port = none := by
  simp [openPiece, h, Tbl.find?]

/-- A port at which nobody asks grants nothing. -/
theorem arbitratePort_unasked {d : Dev} {bad port : Nat} (ho : d.matrix.openBy = []) (h : ∀ m, asks d bad port m = false) :
    arbitratePort bad port d = d := by
  have hnone : arbiter d bad port = none := by simp [arbiter, openPiece_none ho, h]
  simp only [arbitratePort, hnone]

/-- The round from any pointer comes to every master (R202). -/
theorem findSome?_turn {m : Nat} (hm : m < 4) (p : Nat) :
    ((List.range 4).findSome? fun i => if (p + i) % 4 = m then some ((p + i) % 4) else none) = some m := by
  have hturn : (p + (m + 4 - p % 4) % 4) % 4 = m := by omega
  cases hf : (List.range 4).findSome? fun i => if (p + i) % 4 = m then some ((p + i) % 4) else none with
  | none =>
    have hnone := List.findSome?_eq_none_iff.mp hf _ (List.mem_range.mpr (Nat.mod_lt (m + 4 - p % 4) (by decide)))
    rw [if_pos hturn] at hnone
    cases hnone
  | some j =>
    obtain ⟨i, -, hi⟩ := List.exists_of_findSome?_eq_some hf
    obtain ⟨him, hij⟩ := Option.ite_none_right_eq_some.mp hi
    rw [← hij, him]

/-- A port with no open piece at which one master asks grants it, wherever its pointer stands (R202). -/
theorem arbiter_sole {d : Dev} {bad port m : Nat} (ho : d.matrix.openBy = []) (hm : m < 4)
    (h : ∀ i, asks d bad port i = decide (i = m)) : arbiter d bad port = some m := by
  have hcontains : ∀ i, ((List.range 4).filter (asks d bad port)).contains i = decide (i = m) := fun i => by
    simp only [List.contains_eq_mem, List.mem_filter, List.mem_range, h, decide_eq_true_eq, decide_eq_decide]
    omega
  simp only [arbiter, openPiece_none ho, hcontains, decide_eq_true_eq]
  by_cases h0 : 0 = m
  · rw [if_pos h0, h0]
  · rw [if_neg h0, findSome?_turn hm]

/-! The one beat of a short access. -/

/-- An access that stays within eight aligned bytes has one beat (R201). -/
theorem MxAccess.beats_one {x : MxAccess} (h1 : 1 ≤ x.len) (h8 : x.addr % 8 + x.len ≤ 8) : x.beats = 1 := by
  unfold MxAccess.beats
  omega

/-- Its beat is the whole access. -/
theorem MxAccess.beat_whole {x : MxAccess} (hg : x.granted = 0) (h8 : x.addr % 8 + x.len ≤ 8) : x.beat = (x.addr, x.len) := by
  simp only [MxAccess.beat, hg, if_true, Prod.mk.injEq, true_and]
  omega

/-- A new write of `bs` at `a`, within eight aligned bytes of MSRAM. -/
structure MsramBeat (a n : Nat) (bs : Bytes) (d : Dev) : Prop where
  target : mxDecode d.matrix.remap a = .msram
  nonempty : 1 ≤ n
  within : a % 8 + n ≤ 8
  length : bs.length = n

/-- The access of such a write. -/
def writeAccess (a n : Nat) (bs : Bytes) : MxAccess := { write := true, addr := a, len := n, data := bs, excl := false }

/-- The device with the one access `x`, of master `m`, on its matrix. -/
def Dev.withAccess (m : Nat) (x : MxAccess) (d : Dev) : Dev := d.onMatrix fun mx => { mx with acc := [(m, x)] }

theorem nextTarget_msram {a n : Nat} {bs : Bytes} {d : Dev} (h : MsramBeat a n bs d) :
    nextTarget d (writeAccess a n bs) = .msram := by
  rw [nextTarget, MxAccess.beat_whole rfl h.within]
  exact h.target

theorem beatCode_msram {m a n : Nat} {bs : Bytes} {d : Dev} (h : MsramBeat a n bs d) (hm : m ≠ 3) :
    beatCode d m (writeAccess a n bs) = (0, none) := by
  have hright : mxAllowed m d.dbgLocked .msram true = true := if_neg fun h => hm h.1
  have hready : readFails .msram (writeAccess a n bs).beat.1 = false := rfl
  simp only [beatCode, nextTarget_msram h, hready]
  exact if_pos hright

/-! Invalidations and discards change the bridge alone, and an invalidation neither its order nor its entries (R215, R217). -/

theorem invalidate_bridge (a n : Nat) (d : Dev) :
    ∃ b, invalidate a n d = { d with bridge := b } ∧ b.order = d.bridge.order ∧ b.entries = d.bridge.entries := ⟨_, rfl, rfl, rfl⟩

theorem invalidateAll_bridge (d : Dev) : ∃ b, invalidateAll d = { d with bridge := b } := by
  obtain ⟨b, h, -⟩ := invalidate_bridge 0 (2 ^ 48) d
  rw [invalidateAll, h]
  exact ⟨_, rfl⟩

theorem discardOver_bridge (a n : Nat) (d : Dev) : ∃ b, discardOver a n d = { d with bridge := b } := ⟨_, rfl⟩

/-! The one beat, granted. -/

/-- What the bridge makes of a write of `n` bytes at `a` that LKC (0) or LDMA (1) performs (R215, R218). -/
def seenByBridge (m a n : Nat) (d : Dev) : Dev := if m = 0 then discardOver a n (invalidate a n d) else invalidate a n d

/-- It changes the bridge alone. -/
theorem seenByBridge_bridge (m a n : Nat) (d : Dev) : ∃ br, seenByBridge m a n d = { d with bridge := br } := by
  obtain ⟨b1, h1, -⟩ := invalidate_bridge a n d
  obtain ⟨b2, h2⟩ := discardOver_bridge a n (invalidate a n d)
  unfold seenByBridge
  split
  · exact ⟨b2, by rw [h2, h1]⟩
  · exact ⟨b1, h1⟩

/-- A granted write of MSRAM is performed, seen by the bridge, and waits for its end (R199, R202, R215, R218). -/
theorem grantBeat_msram {m a n : Nat} {bs : Bytes} {d : Dev} (hb : MsramBeat a n bs d) (hm : m ≤ 1)
    (ha : d.matrix.acc = [(m, writeAccess a n bs)]) (port : Nat) :
    grantBeat port m d =
      (seenByBridge m a n ((d.onMatrix fun mx => { mx with
        ptr := mx.ptr.set port ((m + 1) % 4), openBy := mx.openBy.filter fun e => e.2 != m }).memWrite (msramKey a) bs)).onMatrix
        fun mx => { mx with
          acc := mx.acc.set m { writeAccess a n bs with granted := 1, waiting := true, port := MxTarget.msram.port } } := by
  have h2 : m ≠ 2 := by omega
  have h3 : m ≠ 3 := by omega
  have hbeats : (writeAccess a n bs).beats = 1 := MxAccess.beats_one hb.nonempty hb.within
  have hbeat : (writeAccess a n bs).beat = (a, n) := MxAccess.beat_whole rfl hb.within
  have hbytes : bs.slice 0 n = bs := by rw [Bytes.slice, List.drop_zero, ← hb.length, List.take_length]
  have hfind : d.matrix.acc.find? m = some (writeAccess a n bs) := by rw [ha, Tbl.find?_single]
  simp only [grantBeat, hfind, nextTarget_msram hb, beatCode_msram hb h3, hbeats, hbeat, if_neg fun h : m = 3 ∧ _ => h3 h.1]
  simp [writeAccess, hbytes, h2, seenByBridge]

/-- Such a grant is an effect on matrix, bridge and memory, and no piece stays open. -/
theorem grantBeat_msram_stored {m a n : Nat} {bs : Bytes} {d : Dev} (hb : MsramBeat a n bs d) (hm : m ≤ 1)
    (ha : d.matrix.acc = [(m, writeAccess a n bs)]) (ho : d.matrix.openBy = []) (port : Nat) :
    ∃ mx br, grantBeat port m d = { d with matrix := mx, bridge := br }.memWrite (msramKey a) bs ∧ mx.openBy = [] ∧
      mx.acc = [(m, { writeAccess a n bs with granted := 1, waiting := true, port := MxTarget.msram.port })] := by
  obtain ⟨br, hbr⟩ := seenByBridge_bridge m a n ((d.onMatrix fun mx => { mx with
    ptr := mx.ptr.set port ((m + 1) % 4), openBy := mx.openBy.filter fun e => e.2 != m }).memWrite (msramKey a) bs)
  rw [grantBeat_msram hb hm ha, hbr]
  refine ⟨_, _, rfl, ?_, ?_⟩
  · simp [Dev.memWrite, ho]
  · simp [Dev.memWrite, ha, Tbl.set]

/-! MATRIX_ARBITRATION. -/

theorem parityMask_not_armed {d : Dev} (h : d.faults.inj.state ≠ 1) (bad : Nat) : parityMask bad d = (bad, d) := by
  simp [parityMask, Dev.armedFor, h]

/-- No request fails a parity that nothing disturbs. -/
theorem parityFault_zero (d : Dev) : parityFault 0 d = d :=
  Dev.fold_fixed _ fun m _ => by simp [bitOf]

/-- Nothing waits for FBR at a bridge without work. -/
theorem loadFbr_no_order {d : Dev} (h : d.bridge.order = []) : loadFbr d = d := by
  simp [loadFbr, frontAccess, h]

/-- A master that presents the one access of the matrix. -/
theorem presentMx_idle {d : Dev} (h : d.matrix.acc = []) (q : MxReq) :
    presentMx q d = d.withAccess q.master
      { write := q.write, addr := q.addr, len := q.len, data := padTo q.len q.data, excl := q.excl } := by
  simp only [presentMx, h, Tbl.has_nil, Dev.withAccess, Dev.onMatrix]
  rfl

/-- On a matrix that is not parked, with no work of the bridge and no injection, a phase is the grants of its target ports to what a
master presents (R201, R202). -/
theorem matrixArbitration_unparked {q : MxReq} {m : Nat} {x : MxAccess} {d : Dev} (hq : presentMx q d = d.withAccess m x)
    (hp : d.matrix.parked = false) (ho : d.bridge.order = []) (hi : d.faults.inj.state ≠ 1) :
    ∃ idle, matrixArbitration [q] 0 d =
      (Dev.fold (List.range 12) (arbitratePort 0) (d.withAccess m x)).onMatrix fun mx => { mx with parked := idle } := by
  have hfold : Dev.fold [q] presentMx d = d.withAccess m x := hq
  have hload : loadFbr (d.withAccess m x) = d.withAccess m x := loadFbr_no_order ho
  have hmask : parityMask 0 (d.withAccess m x) = (0, d.withAccess m x) := parityMask_not_armed (d := d.withAccess m x) hi 0
  simp only [matrixArbitration, hfold, hload, hp, hmask, parityFault_zero, Bool.false_and, Bool.false_eq_true, if_false]
  exact ⟨_, rfl⟩

/-- A write that alone is presented takes its one beat, and no other port grants anything (R201, R202). -/
theorem arbitrate_msram {m a n : Nat} {bs : Bytes} {d : Dev} (hb : MsramBeat a n bs d) (hm : m ≤ 1)
    (ha : d.matrix.acc = [(m, writeAccess a n bs)]) (ho : d.matrix.openBy = []) :
    ∃ mx br, Dev.fold (List.range 12) (arbitratePort 0) d = { d with matrix := mx, bridge := br }.memWrite (msramKey a) bs ∧
      mx.acc = [(m, { writeAccess a n bs with granted := 1, waiting := true, port := MxTarget.msram.port })] := by
  have hbeats : (writeAccess a n bs).beats = 1 := MxAccess.beats_one hb.nonempty hb.within
  have hasks : ∀ port i, asks d 0 port i = decide (i = m ∧ port = 1) := fun port i => by
    by_cases hi : i = m
    · subst hi
      rw [asks_sole ha (by omega) rfl (hbeats ▸ Nat.zero_lt_one), nextTarget_msram hb]
      simp [MxTarget.port, eq_comm]
    · rw [asks_other ha hi]
      simp [hi]
  obtain ⟨mx, br, hgrant, hopen, hacc⟩ := grantBeat_msram_stored hb hm ha ho 1
  have hfirst : arbitratePort 0 0 d = d := arbitratePort_unasked ho fun i => by simp [hasks]
  have hsecond : arbitratePort 0 1 d = { d with matrix := mx, bridge := br }.memWrite (msramKey a) bs := by
    have harb : arbiter d 0 1 = some m := arbiter_sole ho (by omega) fun i => by simp [hasks]
    have hclash : (asks d 0 1 0 && asks d 0 1 2) = false := by simp [hasks]; omega
    simp only [arbitratePort, harb, Bool.and_assoc, hclash, Bool.and_false, Bool.false_eq_true, if_false]
    exact hgrant
  have hothers : Dev.fold (List.range' 2 10) (arbitratePort 0) ({ d with matrix := mx, bridge := br }.memWrite (msramKey a) bs) =
      { d with matrix := mx, bridge := br }.memWrite (msramKey a) bs :=
    Dev.fold_fixed _ fun port _ => arbitratePort_unasked hopen fun i => asks_waiting hacc rfl 0 port i
  exact ⟨mx, br, by rw [Dev.fold_ports, hfirst, hsecond, hothers], hacc⟩

theorem padTo_self {n : Nat} {bs : Bytes} (h : bs.length = n) : padTo n bs = bs := by
  subst h
  simp [padTo]

/-- A write of LKC or LDMA into MSRAM on an idle matrix is performed in its first phase. -/
theorem matrixArbitration_msram {m a n : Nat} {bs : Bytes} {d : Dev} (hb : MsramBeat a n bs d) (hm : m ≤ 1)
    (ha : d.matrix.acc = []) (ho : d.matrix.openBy = []) (hp : d.matrix.parked = false) (hq : d.bridge.order = [])
    (hi : d.faults.inj.state ≠ 1) :
    ∃ mx br, matrixArbitration [{ master := m, write := true, addr := a, len := n, data := bs, excl := false }] 0 d =
        { d with matrix := mx, bridge := br }.memWrite (msramKey a) bs ∧
      mx.acc = [(m, { writeAccess a n bs with granted := 1, waiting := true, port := MxTarget.msram.port })] := by
  have hpresent := presentMx_idle ha { master := m, write := true, addr := a, len := n, data := bs, excl := false }
  simp only [padTo_self hb.length] at hpresent
  obtain ⟨idle, hphase⟩ := matrixArbitration_unparked hpresent hp hq hi
  obtain ⟨mx, br, hgrants, hacc⟩ :=
    arbitrate_msram (d := d.withAccess m (writeAccess a n bs)) ⟨hb.target, hb.nonempty, hb.within, hb.length⟩ hm rfl ho
  have hend := congrArg (Dev.onMatrix fun mx => { mx with parked := idle }) hgrants
  exact ⟨{ mx with parked := idle }, br, hphase.trans hend, hacc⟩

/-! The end of an access, and the lockkeeper's own commands. -/

/-- The end of the last piece of an access of LKC, LDMA or DBG hands the answer to its master (R200, R201). -/
theorem matrixAccessComplete_last {m : Nat} {x : MxAccess} {d : Dev} (fail : Bool) (hm : m ≠ 2)
    (hf : d.matrix.acc.find? m = some x) (hw : x.waiting = true) (hg : x.beats ≤ x.granted) :
    matrixAccessComplete m fail .none d = d.onMatrix fun mx => { mx with
      acc := mx.acc.erase m
      answer := mx.answer.set m { resp := if x.resp = 0 ∧ fail = true then 1 else x.resp, data := x.got } } := by
  have hover : ¬ x.granted < x.beats := by omega
  simp [matrixAccessComplete, hf, hw, hover, hm]

/-- REMAP is set while it reads 0; the bridge keeps no line and no stored answer (R205). -/
theorem remapSet_clear {d : Dev} (h : d.matrix.remap = false) :
    ∃ b : Bridge, remapSet d = { d with
      matrix := { d.matrix with remap := true }
      bridge := { b with entries := b.entries.filter fun e => !e.stored } } := by
  simp only [remapSet, h, Bool.false_eq_true, if_false]
  obtain ⟨b, hb⟩ := invalidateAll_bridge (d.onMatrix fun mx => { mx with remap := true })
  exact ⟨b, by rw [hb]; rfl⟩

/-- The edge of a line that is not forwarded interrupts LKC alone (R221). -/
theorem interruptLineEdge_unforwarded {line : Nat} {d : Dev} (h : bitOf (d.fcfg.nat 0x2420 (line + 1)) 31 = false) :
    interruptLineEdge line d = d.onBridge fun b => { b with irq := setBit b.irq line true } := by
  simp [interruptLineEdge, h]

/-- A block of a non-posted request that its grants, its slot and its bound let through is placed (R178, R179, R220). -/
theorem takeBlock_request {n : Nat} {p : Packet} {d : Dev} (hs : slotOpen d n p.part = true) (hr : lkRoom d n p.code = true) :
    takeBlock n { pkt := p, kind := .request } d = some (placeBlock n p d) := by
  simp [takeBlock, hs, hr]

/-- A request for another NI, with no posted write held back, waits there for injection (R175). -/
theorem placeBlock_other {n dest : Nat} {p : Packet} {d : Dev} (ha : d.decodeAddr n p.addr = some dest) (hd : dest ≠ n)
    (hw : (d.ni n).wcb = []) :
    placeBlock n p d = d.upNi n (Ni.queueOut { pkt := { p with dest := dest }, kind := .request }) := by
  simp only [placeBlock, ha, hd, if_false, closeWcb, Dev.upNi_upNi]
  apply Dev.upNi_congr
  simp [Ni.queueOut, hw]

theorem slotOpen_setAtUnit (n part : Nat) (l : List Out) (d : Dev) :
    slotOpen (d.upNi n (Ni.setAtUnit l)) n part = slotOpen d n part := by
  rw [slotOpen, Dev.upNi_ni_same]
  rfl

theorem lkRoom_setAtUnit (n who : Nat) (l : List Out) (d : Dev) : lkRoom (d.upNi n (Ni.setAtUnit l)) n who = lkRoom d n who := by
  by_cases hn : n = 65
  · subst hn
    rw [lkRoom, lkInFlight, Dev.upNi_ni_same]
    rfl
  · have hother : (n != 65) = true := bne_iff_ne.mpr hn
    simp only [lkRoom, hother, Bool.true_or]

/-- A request of one block of a unit that has nothing waiting leaves it at once. -/
theorem unitNonposted_placed {n part cls addr size who dest : Nat} {d : Dev} (hm : mayIssue n 0 = true)
    (hu : unitAdmits d n part = true) (hb : splitBlocks 17 addr size = [(addr, size)]) (ha : (d.ni n).atUnit = [])
    (hs : slotOpen d n part = true) (hr : lkRoom d n who = true) (hd : d.decodeAddr n addr = some dest) (hn : dest ≠ n)
    (hw : (d.ni n).wcb = []) :
    unitNonposted n part 0 cls addr size [] who d = d.upNi n (Ni.queueOut {
      pkt := { dest := dest, src := n, ty := 0, cls := cls, part := part, addr := addr, size := size, code := who }
      kind := .request }) := by
  let o : Out := {
    pkt := { dest := 0, src := n, ty := 0, cls := cls, part := part, addr := addr, size := size, code := who }, kind := .request }
  have hpresent : unitNonposted n part 0 cls addr size [] who d = present n [o] d := by
    simp [unitNonposted, hm, hu, hb, o]
  have htake := takeBlock_request (p := o.pkt) ((slotOpen_setAtUnit n part [o] d).trans hs)
    ((lkRoom_setAtUnit n who [o] d).trans hr)
  rw [placeBlock_other hd hn ((congrArg Ni.wcb (Dev.upNi_ni_same ..)).trans hw)] at htake
  rw [hpresent, present_single ha htake, Dev.upNi_upNi, Dev.upNi_upNi]
  apply Dev.upNi_congr
  simp [Ni.queueOut, Ni.setAtUnit, ← ha, o]

/-- Settles O15, command by command from the equations above. -/
theorem matrixAccesses : Obligations.MatrixAccesses := by
  refine ⟨fun m a n bs s hw hs hm ht h1 h8 hlen ha ho hp hq hi => ?beat, fun m fail x s hw hs hm hf hwait hg => ?complete,
    fun s hw hs => ?debug, fun s hw hs hr => ?remap, fun line s hw hs hoff => ?edge,
    fun lkc addr size dest s hw hs hroom hadmit hslot hblock hat hwcb hdec hdest => ?request⟩
  case beat =>
    obtain ⟨mx, br, he, hacc⟩ := matrixArbitration_msram ⟨ht, h1, h8, hlen⟩ hm ha ho hp hq hi
    refine (completes_of_memWrite rfl hw hs he ⟨rfl, rfl, rfl, rfl⟩).imp fun t ⟨hstored, hframe⟩ => ⟨hstored, ?_, ?_⟩
    · rw [hframe]
      exact hacc
    · rw [hframe]
  case complete => exact completes_of_effect rfl hw hs (matrixAccessComplete_last fail hm hf hwait hg) ⟨rfl, rfl, rfl⟩
  case debug => exact completes_of_effect rfl hw hs rfl rfl
  case remap =>
    obtain ⟨b, he⟩ := remapSet_clear hr
    refine completes_of_effect rfl hw hs he ⟨rfl, fun e he => ?_, rfl⟩
    simpa using (List.mem_filter.mp he).2
  case edge => exact completes_of_effect rfl hw hs (interruptLineEdge_unforwarded hoff) rfl
  case request =>
    have he := unitNonposted_placed (cls := s.dev.fcfg.nat 0x2401 4) (by decide) hadmit hblock hat hslot hroom hdec hdest hwcb
    refine (completes_upNi rfl hw hs he).imp fun t ⟨hni, _, hframe⟩ => ⟨?_, hframe⟩
    rw [hni]
    rfl

end Sys2Proof.Machine
end

section
/-! SUPPORT. Delayed reads, fetches ahead and posted writes at the lockkeeper bridge (R209 to R219): one equation per case that acts,
and from these the obligation about accesses through the bridge. -/
namespace Sys2Proof.Machine

/-! Commands that act on the packet at the front of an ejection VC and on the bridge. -/

/-- To be done with a packet is an effect on its NI with nothing added. -/
theorem popEj_niActed (n vc : Nat) (d : Dev) : NiActed d (popEj n vc d) n id := by
  obtain ⟨taken, ej, arrivals, cred, h⟩ := popEj_eq n vc d
  rw [h]
  exact ⟨⟨taken, ej, arrivals, Dev.upNi_ni_same ..⟩, fun _ hi => Dev.upNi_ni_ne hi _ _, rfl⟩

/-- Such a command completes with the bridge `b` and with its NI changed by `g`. -/
theorem completes_acted_bridge {c : Instr} {f : Dev → Dev} {s : State} {e : Dev} {n : Nat} {g : Ni → Ni} {b : Bridge}
    (he : exec c s = act c.wellFormed f s) (hw : c.wellFormed = true) (hs : s.Ready) (hf : f s.dev = { e with bridge := b })
    (ha : NiActed s.dev e n g) :
    Completes c s fun t => t.bridge = b ∧ (∃ taken ej arrivals, t.ni n = g ((s.dev.ni n).withEjection taken ej arrivals)) ∧
      t = { s.dev with nis := t.nis, bridge := t.bridge, net := { s.dev.net with credR := t.net.credR } } := by
  obtain ⟨hni, -, hframe⟩ := ha
  rw [hframe] at hf
  exact completes_of_effect he hw hs hf ⟨rfl, hni, rfl⟩

/-! Reads. -/

/-- The RETRY response to the request `q` from NI `n` (R181). -/
def retryTo (n : Nat) (q : Packet) : Out := {
  pkt := {
    dest := q.src, src := n, ty := 9, cls := q.cls, part := q.part, tag := q.tag, addr := q.addr % 256, size := q.size
    status := 3 }
  kind := .response }

theorem respond_retry (n : Nat) (q : Packet) (d : Dev) : respond n q 3 [] d = d.upNi n (Ni.queueOut (retryTo n q)) := by
  simp only [respond, Nat.reduceBEq, Bool.or_self, Bool.and_false, Bool.false_eq_true, if_false]
  rfl

/-- A bridge that has taken the READ `q` as its one delayed read (R209, R217). -/
def Bridge.delay (q : Packet) (b : Bridge) : Bridge := { b with
  entries := [{ id := b.nextId, req := q }], nextId := b.nextId + 1, order := b.order ++ [.fetch b.nextId] }

/-- A READ that matches no entry, is not prefetchable and finds room becomes a delayed read and is answered RETRY (R209). -/
theorem bridgeReadOf_delayed {q : Packet} {d : Dev} (he : d.bridge.entries = []) (hu : d.unitUp 65 = true)
    (hf : fenceApplies d 65 q = false) (hp : allPrefetch d q = false) (err : MemErr) :
    ∃ counts, bridgeReadOf q err d =
      { d.upNi 65 (Ni.queueOut (retryTo 65 q)) with bridge := { d.bridge.delay q with counts := counts } } := by
  have htaken : bridgeReadOf q err d = answerRetry q ((d.onBridge (Bridge.delay q)).countBridge 1 1) := by
    simp [bridgeReadOf, he, hu, hf, hp, Dev.onBridge, Bridge.delay]
  rw [htaken, answerRetry, respond_retry]
  exact ⟨_, rfl⟩

@[simp] theorem popEj_allPrefetch (n vc : Nat) (q : Packet) (d : Dev) : allPrefetch (popEj n vc d) q = allPrefetch d q :=
  popEj_keeps (read := fun d => allPrefetch d q) (fun _ _ _ => rfl) n vc d

@[simp] theorem popEj_allPosted (n vc : Nat) (q : Packet) (d : Dev) : allPosted (popEj n vc d) q = allPosted d q :=
  popEj_keeps (read := fun d => allPosted d q) (fun _ _ _ => rfl) n vc d

@[simp] theorem popEj_bridge (n vc : Nat) (d : Dev) : (popEj n vc d).bridge = d.bridge := popEj_keeps (fun _ _ _ => rfl) n vc d

theorem bridgeRead_front {vc : Nat} {q : Packet} {d : Dev} (hfront : d.front 65 vc = some (q, false)) (ht : q.ty = 0)
    (ha : q.addr < 0x40000000) (hb : d.bridge.blocked = false) (err : MemErr) :
    bridgeRead vc err d = bridgeReadOf q err (popEj 65 vc d) := by
  simp [bridgeRead, hfront, ht, ha, hb]

/-- The answer of the matrix to the fetch of the one delayed read is stored there (R210). -/
theorem bridgeFetchDone_delayed {ans : MxAnswer} {rest : List BridgeOp} {e : DelayedRead} {d : Dev}
    (ha : d.matrix.answer.find? 2 = some ans) (hj : d.bridge.job = .front) (ho : d.bridge.order = .fetch e.id :: rest)
    (he : d.bridge.entries = [e]) :
    bridgeFetchDone d = { d with
      bridge := { d.bridge with
        job := .idle, drop := false, order := rest
        entries := [{ e with stored := true, status := mxStatus ans.resp, data := ans.data }] }
      matrix := { d.matrix with answer := d.matrix.answer.erase 2 } } := by
  simp [bridgeFetchDone, ha, hj, ho, storeResult, endFbr, Dev.onBridge, Dev.onMatrix, he]

/-- The one stored answer is given up, with an event of source 0x24 (R211). -/
theorem delayedReadDiscard_stored {e : DelayedRead} {d : Dev} (he : d.bridge.entries = [e]) (hst : e.stored = true) :
    delayedReadDiscard 0 d = ((d.onBridge fun b => { b with entries := [] }).countBridge 3 1).raise 0x24 0xFF e.req.part := by
  simp [delayedReadDiscard, he, hst, Dev.onBridge]

/-- The next line of the one stream is fetched while the bridge is idle (R213, R214). -/
theorem prefetchFetchAhead_idle {l : Nat} {rest : List Nat} {st : PfStream} {d : Dev} (hj : d.bridge.job = .idle)
    (ho : d.bridge.order = []) (ha : d.matrix.acc.has 2 = false) (hs : d.bridge.streams = [st]) (hl : st.ahead = l :: rest) :
    prefetchFetchAhead st.src d = { d with
      bridge := { d.bridge with job := .ahead st.src l true, streams := [{ st with ahead := rest }] }
      matrix := { d.matrix with acc := d.matrix.acc.set 2 { write := false, addr := l, len := 64, data := [], excl := false } } } := by
  simp [prefetchFetchAhead, hj, ho, ha, hs, hl, Dev.onBridge, Dev.onMatrix]

/-! Writes. -/

/-- Where no fetch is named, the order and the job stay. -/
theorem Bridge.unqueue_nothing {hit : Nat → Bool} (h : ∀ i, hit i = false) (b : Bridge) : b.unqueue hit = b := by
  have horder : (b.unqueue hit).order = b.order := List.filter_eq_self.mpr fun o _ => by cases o <;> simp [h]
  have hjob : (b.unqueue hit).job = b.job := if_neg fun hrun => by
    split at hrun
    · next o _ _ _ => cases o <;> simp [h] at hrun
    · cases hrun
  calc b.unqueue hit
    _ = { b with order := (b.unqueue hit).order, job := (b.unqueue hit).job } := rfl
    _ = b := by rw [horder, hjob]

/-- A write over no delayed read discards nothing. -/
theorem discardOver_no_entries {d : Dev} (h : d.bridge.entries = []) (a n : Nat) :
    discardOver a n d = (d.onBridge fun b => { b with entries := [] }).countBridge 4 0 := by
  simp [discardOver, h, Bridge.unqueue_nothing, Dev.onBridge]

/-- A posted WRITE is put in order behind what waits, and nothing is sent (R215 to R217). -/
theorem bridgeWriteOf_posted {q : Packet} {d : Dev} (ht : q.ty = 1) (he : d.bridge.entries = []) :
    ∃ b : Bridge, bridgeWriteOf q d = { d with bridge := b } ∧ b.order = d.bridge.order ++ [.write q (allPosted d q)] := by
  obtain ⟨b, hinv, horder, hentries⟩ := invalidate_bridge q.addr q.size d
  let e : Dev := { d with bridge := { b with order := b.order ++ [.write q (allPosted d q)] } }
  have hwrite : bridgeWriteOf q d = discardOver q.addr q.size e := by
    simp only [bridgeWriteOf, hinv, ht]
    exact if_neg fun h => absurd h.2 (by decide)
  rw [hwrite, discardOver_no_entries (d := e) (hentries.trans he), ← horder]
  exact ⟨_, rfl, rfl⟩

theorem bridgeWrite_front {vc : Nat} {q : Packet} {d : Dev} (hfront : d.front 65 vc = some (q, false)) (ht : q.ty = 1)
    (ha : q.addr < 0x40000000) (hb : d.bridge.blocked = false) (hu : d.unitUp 65 = true) (hf : fenceApplies d 65 q = false) :
    bridgeWrite vc d = bridgeWriteOf q (popEj 65 vc d) := by
  simp [bridgeWrite, hfront, ht, ha, hb, hu, hf]

/-- A buffered write whose access ended without error leaves the order (R219). -/
theorem postedWritePerform_ok {q : Packet} {rest : List BridgeOp} {ans : MxAnswer} {d : Dev}
    (ho : d.bridge.order = .write q true :: rest) (hj : d.bridge.job = .front) (ha : d.matrix.answer.find? 2 = some ans)
    (hr : ans.resp = 0) :
    postedWritePerform .none d = { d with
      bridge := { d.bridge with order := rest, job := .idle, drop := false }
      matrix := { d.matrix with answer := d.matrix.answer.erase 2 } } := by
  simp [postedWritePerform, ho, hj, ha, hr, endFbr, Dev.onBridge, Dev.onMatrix]

/-- Settles O16, command by command from the equations above. -/
theorem bridgeAccesses : Obligations.BridgeAccesses := by
  refine ⟨fun vc q s hw hs hfront ht ha hb he hu hf hp => ?read, fun i rest ans e s hw hs ha hj ho he hid => ?fetched,
    fun e s hw hs he hst hi => ?discarded, fun src l rest st s hw hs hj ho ha hst hsrc hl => ?ahead,
    fun vc q s hw hs hfront ht ha hb hu hf he _ => ?write, fun q rest ans s hw hs ho hj ha hr => ?performed⟩
  case read =>
    obtain ⟨counts, hdelayed⟩ := bridgeReadOf_delayed (d := popEj 65 vc s.dev) (by simpa using he) (by simpa using hu)
      (by simpa using hf) (by simpa using hp) .none
    rw [popEj_bridge] at hdelayed
    have hread := (bridgeRead_front hfront ht ha hb .none).trans hdelayed
    refine (completes_acted_bridge rfl hw hs hread (popEj_upNi_niActed 65 vc _ s.dev)).imp
      fun t ⟨hbridge, ⟨taken, ej, arrivals, hni⟩, hframe⟩ => ⟨?_, ?_, ?_, hframe⟩
    · rw [hbridge]
      rfl
    · rw [hbridge]
      rfl
    · rw [hni]
      rfl
  case fetched =>
    subst hid
    exact completes_of_effect rfl hw hs (bridgeFetchDone_delayed ha hj ho he) ⟨rfl, rfl⟩
  case discarded =>
    have hdiscard := (delayedReadDiscard_stored he hst).trans (Dev.raise_of_not_armed 0x24 0xFF e.req.part 0 hi)
    exact completes_of_effect rfl hw hs hdiscard ⟨rfl, rfl, rfl⟩
  case ahead =>
    subst hsrc
    exact completes_of_effect rfl hw hs (prefetchFetchAhead_idle hj ho ha hst hl) ⟨rfl, rfl, rfl⟩
  case write =>
    obtain ⟨b, hwrite, horder⟩ := bridgeWriteOf_posted (d := popEj 65 vc s.dev) ht (by simpa using he)
    have hput := (bridgeWrite_front hfront ht ha hb hu hf).trans hwrite
    refine (completes_acted_bridge rfl hw hs hput (popEj_niActed 65 vc s.dev)).imp
      fun t ⟨hbridge, ⟨taken, ej, arrivals, hni⟩, hframe⟩ => ⟨?_, ?_, hframe⟩
    · rw [hbridge, horder, popEj_bridge, popEj_allPosted]
    · rw [hni]
      rfl
  case performed => exact completes_of_effect rfl hw hs (postedWritePerform_ok ho hj ha hr) rfl

end Sys2Proof.Machine
end

section
/-! SUPPORT. What the reset of a unit keeps, whatever it stops on the way (R231, R242, R261): partitions, power domains, the
clock, the losses of every clock domain, and the units that are held already. -/
namespace Sys2Proof

/-! Keys that are listed. -/

theorem Tbl.find?_set_same {α : Type} (t : Tbl α) (k : Nat) (v : α) : (t.set k v).find? k = some v := by
  induction t with
  | nil => simp [Tbl.set, Tbl.find?]
  | cons e t ih =>
    obtain ⟨j, w⟩ := e
    by_cases hj : j = k
    · simp [Tbl.set, Tbl.find?, hj]
    · by_cases hk : k < j
      · simp [Tbl.set, Tbl.find?, hj, hk]
      · simp [Tbl.set, Tbl.find?, hj, hk, ih]

theorem Tbl.find?_set_ne {α : Type} (t : Tbl α) {k i : Nat} (hi : i ≠ k) (v : α) : (t.set k v).find? i = t.find? i := by
  induction t with
  | nil => simp [Tbl.set, Tbl.find?, hi.symm]
  | cons e t ih =>
    obtain ⟨j, w⟩ := e
    by_cases hj : j = k
    · simp [Tbl.set, Tbl.find?, hj, hi.symm]
    · by_cases hk : k < j
      · simp [Tbl.set, Tbl.find?, hj, hk, hi.symm]
      · simp only [Tbl.set, if_neg hj, if_neg hk, Tbl.find?, ih]

theorem Tbl.find?_erase_same {α : Type} (t : Tbl α) (k : Nat) : (t.erase k).find? k = none := by
  induction t with
  | nil => rfl
  | cons e t ih =>
    obtain ⟨j, w⟩ := e
    by_cases hj : j = k
    · simp [Tbl.erase, hj, ih]
    · simp [Tbl.erase, Tbl.find?, hj, ih]

theorem Tbl.find?_erase_ne {α : Type} (t : Tbl α) {k i : Nat} (hi : i ≠ k) : (t.erase k).find? i = t.find? i := by
  induction t with
  | nil => rfl
  | cons e t ih =>
    obtain ⟨j, w⟩ := e
    by_cases hj : j = k
    · simp [Tbl.erase, Tbl.find?, hj, ih, hi.symm]
    · simp only [Tbl.erase, if_neg hj, Tbl.find?, ih]

namespace Machine

/-! One clock domain. -/

@[simp] theorem Dev.upDom_dom_same (k : Nat) (f : Domain → Domain) (d : Dev) : (d.upDom k f).dom k = f (d.dom k) :=
  Tbl.get_set_same ..

theorem Dev.upDom_dom_ne {k j : Nat} (hj : j ≠ k) (f : Domain → Domain) (d : Dev) : (d.upDom k f).dom j = d.dom j :=
  Tbl.get_set_ne _ _ _ hj

/-- What is the same of one domain before and after its update is the same of every domain. -/
theorem Dev.upDom_dom_keeps {α : Type} (read : Domain → α) {k : Nat} {f : Domain → Domain} {d : Dev}
    (h : read (f (d.dom k)) = read (d.dom k)) (j : Nat) : read ((d.upDom k f).dom j) = read (d.dom j) := by
  by_cases hj : j = k
  · rw [hj, Dev.upDom_dom_same, h]
  · rw [Dev.upDom_dom_ne hj]

/-! What the reset of a unit keeps. -/

/-- What every reset of units keeps from `d` to `t`: partitions, power domains, the clock, the domains' counts of losses, and
the units held with a crossing that has not captured since. -/
structure ResetKeeps (d t : Dev) : Prop where
  parts : t.parts = d.parts
  pds : t.pds = d.pds
  clock : t.clock = d.clock
  losses : ∀ k, (t.dom k).losses = (d.dom k).losses
  held : ∀ u, d.resets.unitHeld.find? u = some false → t.resets.unitHeld.find? u = some false

theorem ResetKeeps.refl (d : Dev) : ResetKeeps d d := ⟨rfl, rfl, rfl, fun _ => rfl, fun _ h => h⟩

theorem ResetKeeps.trans {d t u : Dev} (h : ResetKeeps d t) (k : ResetKeeps t u) : ResetKeeps d u :=
  ⟨k.parts.trans h.parts, k.pds.trans h.pds, k.clock.trans h.clock, fun i => (k.losses i).trans (h.losses i),
    fun v hv => k.held v (h.held v hv)⟩

/-- A change outside the parts in question. -/
theorem ResetKeeps.elsewhere {d t : Dev}
    (h : (t.parts, t.pds, t.clock, t.doms, t.resets) = (d.parts, d.pds, d.clock, d.doms, d.resets)) : ResetKeeps d t := by
  simp only [Prod.mk.injEq] at h
  obtain ⟨hparts, hpds, hclock, hdoms, hresets⟩ := h
  exact ⟨hparts, hpds, hclock, fun k => by rw [Dev.dom, Dev.dom, hdoms], fun u hu => by rw [hresets, hu]⟩

theorem ResetKeeps.atNi {n : Nat} {d t : Dev} (h : AtNi n d t) : ResetKeeps d t := by
  rw [h.1]
  exact .elsewhere rfl

theorem ResetKeeps.ite {c : Prop} [Decidable c] {d t u : Dev} (h : ResetKeeps d t) (k : ResetKeeps d u) :
    ResetKeeps d (if c then t else u) := by
  split
  · exact h
  · exact k

theorem ResetKeeps.fold {α : Type} {f : α → Dev → Dev} (h : ∀ x d, ResetKeeps d (f x d)) (l : List α) :
    ∀ d, ResetKeeps d (Dev.fold l f d) := by
  induction l with
  | nil => exact fun d => .refl d
  | cons x l ih => exact fun d => (h x d).trans (ih (f x d))

theorem ResetKeeps.raise (src inst part cause : Nat) (inj : Bool) (q : Option Nat) (d : Dev) :
    ResetKeeps d (d.raise src inst part cause inj q) := .atNi (AtNi.raise 0 src inst part cause inj q d)

/-! Commands that a reset ends. -/

theorem endCmd_keeps (q i status detail result : Nat) (d : Dev) : ResetKeeps d (endCmd q i status detail result d) :=
  .elsewhere rfl

theorem forgetCmd_keeps (q i : Nat) (d : Dev) : ResetKeeps d (forgetCmd q i d) :=
  .fold (fun n e => .atNi (forgetKeys_at n _ e)) _ d

/-- A command is given up with what it was reading. -/
theorem endCmd_forgetCmd_keeps (q i status : Nat) (d : Dev) : ResetKeeps d (endCmd q i status 0 0 (forgetCmd q i d)) :=
  (forgetCmd_keeps q i d).trans (endCmd_keeps q i status 0 0 _)

/-! Streams and links (R305, R379). -/

theorem upStream_keeps (q : Nat) (f : Stream → Stream) (d : Dev) : ResetKeeps d (d.upStream q f) := by
  unfold Dev.upStream
  split
  · exact .elsewhere rfl
  · exact .refl d

theorem dropReads_keeps (q : Nat) (d : Dev) : ResetKeeps d (dropReads q d) := by
  unfold dropReads
  split
  · exact .ite (.fold (fun l e => .atNi (forgetKeys_at l _ e)) _ d) (.refl d)
  · exact .refl d

theorem endWaiting_keeps (op q status : Nat) (d : Dev) : ResetKeeps d (endWaiting op q status d) := by
  refine .fold (fun k e => ?_) _ d
  exact endCmd_keeps k.q k.index status 0 0 e

theorem finishStops_keeps (q : Nat) (d : Dev) : ResetKeeps d (finishStops q d) := by
  unfold finishStops
  split
  · exact .ite (endWaiting_keeps 0xA q 0 d) (.refl d)
  · exact .refl d

theorem endRec_keeps (q : Nat) (r : Rec) (d : Dev) : ResetKeeps d (endRec q r d) := by
  unfold endRec
  split
  · exact .refl d
  · dsimp only
    split
    · exact ((upStream_keeps q _ d).trans (dropReads_keeps q _)).trans (finishStops_keeps q _)
    · exact (upStream_keeps q _ d).trans (finishStops_keeps q _)

theorem conflictArm_keeps (q : Nat) (d : Dev) : ResetKeeps d (conflictArm q d) := by
  unfold conflictArm
  split
  · exact .ite (.elsewhere rfl) (.refl d)
  · exact .refl d

theorem stopNow_keeps (q status : Nat) (d : Dev) : ResetKeeps d (stopNow q status d) := by
  refine (upStream_keeps q (fun x => { x with stoppedAt := some d.clock.wall }) d).trans ?_
  unfold stopNow
  dsimp only
  split
  · exact .refl _
  · split
    · exact .refl _
    · refine .trans ?_ (((endWaiting_keeps 9 q 7 _).trans (conflictArm_keeps q _)).trans (finishStops_keeps q _))
      split
      · exact (upStream_keeps q _ _).trans (endRec_keeps q _ _)
      · exact (upStream_keeps q _ _).trans (dropReads_keeps q _)

theorem stopStreams_keeps (sel : Queue → Stream → Bool) (status : Nat) (d : Dev) : ResetKeeps d (stopStreams sel status d) := by
  refine .fold (fun e y => ?_) _ d
  split
  · exact .ite (stopNow_keeps e.1 status y) (.refl y)
  · exact .refl y

theorem upLink_keeps (k : Nat) (f : Link → Link) (d : Dev) : ResetKeeps d (d.upLink k f) := .elsewhere rfl

theorem upLane_keeps (l : Nat) (f : Lane → Lane) (d : Dev) : ResetKeeps d (d.upLane l f) := .elsewhere rfl

theorem setRx_keeps (k st : Nat) (d : Dev) : ResetKeeps d (setRx k st d) :=
  (upLink_keeps k _ d).trans (.fold (fun l e => upLane_keeps l _ e) _ _)

theorem startLink_keeps (k : Nat) (d : Dev) : ResetKeeps d (startLink k d) :=
  ((upLink_keeps k _ d).trans (setRx_keeps k _ _)).trans (upLink_keeps k _ _)

theorem linkReset_keeps (k : Nat) (d : Dev) : ResetKeeps d (linkReset k d) :=
  ((stopStreams_keeps _ 8 d).trans (upLink_keeps k _ _)).trans (startLink_keeps k _)

/-! The units of each kind. -/

theorem upOp_keeps (n : Nat) (f : OpUnit → OpUnit) (d : Dev) : ResetKeeps d (d.upOp n f) := .elsewhere rfl

theorem opReset_keeps (n : Nat) (d : Dev) : ResetKeeps d (opReset n d) := by
  refine .trans (.fold (fun s e => .fold (fun k y => ?_) _ e) _ d) (upOp_keeps n _ _)
  exact endCmd_forgetCmd_keeps k.q k.index 8 y

theorem flushEntries_keeps (q : Nat) (d : Dev) : ResetKeeps d (flushEntries q d) := by
  refine .fold (fun k e => ?_) _ d
  exact endCmd_forgetCmd_keeps q k.index 8 e

theorem flushQp_keeps (n : Nat) (d : Dev) : ResetKeeps d (flushQp n d) := by
  refine .fold (fun r e => ?_) _ d
  split
  · exact flushEntries_keeps _ e
  · exact .refl e

theorem upQp_keeps (n : Nat) (f : Qp → Qp) (d : Dev) : ResetKeeps d (d.upQp n f) := .elsewhere rfl

theorem enterError_keeps (n p : Nat) (d : Dev) : ResetKeeps d (enterError n p d) :=
  ((upQp_keeps n _ d).trans (.raise 0xBD p _ 0 false none _)).trans (flushQp_keeps n _)

theorem restartRaw_keeps (q : Nat) (d : Dev) : ResetKeeps d (restartRaw q d) := by
  unfold restartRaw
  split
  · next k _ => exact .ite (forgetCmd_keeps q k.index d) ((endCmd_forgetCmd_keeps q k.index 8 d).trans (.elsewhere rfl))
  · exact .refl d

theorem upPort_keeps (p : Nat) (f : EthPort → EthPort) (d : Dev) : ResetKeeps d (d.upPort p f) := .elsewhere rfl

theorem epReset_keeps (p : Nat) (d : Dev) : ResetKeeps d (epReset p d) := by
  refine (upPort_keeps p _ d).trans (.fold (fun e y => ?_) _ _)
  exact .ite (.ite (.refl y) (enterError_keeps e.2.qpNo p y)) (.ite (restartRaw_keeps e.1 y) (.refl y))

theorem onBridge_keeps (f : Bridge → Bridge) (d : Dev) : ResetKeeps d (d.onBridge f) := .elsewhere rfl

theorem postedError_keeps (q : Packet) (resp : Nat) (d : Dev) : ResetKeeps d (postedError q resp d) :=
  ((onBridge_keeps _ d).trans (onBridge_keeps _ _)).trans (.raise 0x25 0xFF q.part 0 false none _)

theorem performWhole_keeps (q : Packet) (d : Dev) : ResetKeeps d (performWhole q d) := by
  refine .ite ?unmapped (.ite (.ite ?write (.refl d)) ?refused)
  case unmapped => exact (ResetKeeps.raise ..).trans (postedError_keeps q 2 _)
  case write => exact .elsewhere rfl
  case refused => exact (ResetKeeps.raise ..).trans (postedError_keeps q 1 _)

theorem endDelayed_keeps (o : BridgeOp) (d : Dev) : ResetKeeps d (endDelayed o d) := by
  unfold endDelayed
  split
  · exact performWhole_keeps _ d
  · exact .ite (.atNi (respond_at 65 _ 4 [] d)) (.atNi (discardAt_at 65 _ _ d))
  · exact .atNi (respond_at 65 _ 4 [] d)
  · exact .refl d

theorem bridgeUnitReset_keeps (d : Dev) : ResetKeeps d (bridgeUnitReset d) :=
  ResetKeeps.trans (.fold endDelayed_keeps _ d) (.elsewhere rfl)

/-! Any unit. -/

theorem freeCredits_at (n : Nat) (p : Packet) (d : Dev) : AtNi n d (freeCredits n p d) := by
  unfold freeCredits
  split
  · exact .refl n d
  · exact .upNi n _ d

theorem niUnitReset_at (n : Nat) (d : Dev) : AtNi n d (niUnitReset n d) :=
  ((AtNi.fold (fun _ e => .upNi n _ e) _ d).trans (.upNi n _ _)).trans (AtNi.fold (freeCredits_at n) _ _)

theorem holdUnit_holds (u : Nat) (d : Dev) : (holdUnit u d).resets.unitHeld.find? u = some false := Tbl.find?_set_same ..

theorem holdUnit_keeps (u : Nat) (d : Dev) : ResetKeeps d (holdUnit u d) := by
  refine ⟨rfl, rfl, rfl, fun _ => rfl, fun v hv => ?_⟩
  by_cases h : v = u
  · rw [h, holdUnit_holds]
  · exact (Tbl.find?_set_ne _ h false).trans hv

theorem clockOff_keeps (k : Nat) (off : Bool) (d : Dev) : ResetKeeps d (clockOff k off d) :=
  ⟨rfl, rfl, rfl, Dev.upDom_dom_keeps Domain.losses rfl, fun _ h => h⟩

theorem holdUnit_niUnitReset_keeps (u : Nat) (d : Dev) : ResetKeeps d (holdUnit u (niUnitReset u d)) :=
  (ResetKeeps.atNi (niUnitReset_at u d)).trans (holdUnit_keeps u _)

theorem linkHeld_keeps (k : Nat) (d : Dev) : ResetKeeps d (linkHeld k d) :=
  ((ResetKeeps.fold holdUnit_niUnitReset_keeps _ d).trans (clockOff_keeps (9 + k) _ _)).trans (linkReset_keeps k _)

/-- The unit's own part of its reset, by the kind of unit, once the unit is held. -/
theorem resetUnit_after_hold (u : Nat) (d : Dev) : ResetKeeps (holdUnit u (niUnitReset u d)) (resetUnit u d) := by
  refine .ite ?cp <| .ite ?se <| .ite ?op <| .ite ?ep <| .ite ?channel <| .ite ?bridge <| .ite ?probes (.refl _)
  case cp =>
    split
    · exact linkHeld_keeps _ _
    · exact .refl _
  case se => exact .elsewhere rfl
  case op => exact opReset_keeps _ _
  case ep => exact epReset_keeps _ _
  case channel => exact .elsewhere rfl
  case bridge => exact bridgeUnitReset_keeps _
  case probes => exact .elsewhere rfl

theorem resetUnit_keeps (u : Nat) (d : Dev) : ResetKeeps d (resetUnit u d) :=
  (holdUnit_niUnitReset_keeps u d).trans (resetUnit_after_hold u d)

theorem resetUnit_holds (u : Nat) (d : Dev) : (resetUnit u d).resets.unitHeld.find? u = some false :=
  (resetUnit_after_hold u d).held u (holdUnit_holds u _)

/-- Of units that are reset one after the other each is held at the end. -/
theorem resetUnits_hold {u : Nat} : ∀ {us : List Nat}, u ∈ us → ∀ d,
    (Dev.fold us resetUnit d).resets.unitHeld.find? u = some false
  | v :: us, hu, d => by
    rcases List.mem_cons.1 hu with rfl | hu
    · exact (ResetKeeps.fold resetUnit_keeps us (resetUnit u d)).held u (resetUnit_holds u d)
    · exact resetUnits_hold hu (resetUnit v d)

end Machine
end Sys2Proof
end

section
/-! SUPPORT. Clock domains (R47, R231, R238, R244, R245): one equation per case of each command, and from these the obligation about
clock domains. -/
namespace Sys2Proof.Machine

/-! Effects on the clock. -/

/-- A command whose effect starts or stops FCLK, and keeps memory, completes with that effect. -/
theorem completes_of_clockEffect {c : Instr} {f : Dev → Dev} {s : State} {t : Dev} {P : Dev → Prop}
    (he : exec c s = act c.wellFormed f s) (hw : c.wellFormed = true) (hs : s.Ready) (hf : f s.dev = t) (hp : P t)
    (hwall : t.clock.wall = s.dev.clock.wall) (hm : t.mem = s.dev.mem) (hu : t.undef = s.dev.undef) (hb : t.bus = s.dev.bus) :
    Completes c s P := by
  refine ⟨t, ?_, hp⟩
  have hsettle : settle s.dev t = t := by
    calc settle s.dev t = settle t t := by simp only [settle, hwall, hm, hu]
      _ = t := settle_self (hb.trans hs.2)
  rw [he, act_ready f hw hs.1, hf, hsettle]

/-! The loss of a clock (R245). -/

/-- A domain that has lost its clock once more. -/
def Domain.lose (x : Domain) : Domain := { x with losses := inc32 x.losses }

/-- A domain whose clock has stopped. -/
def Domain.stop (off : Bool) (x : Domain) : Domain :=
  { x with running := false, locked := false, powerOff := off, capturing := false, version := 0, freq := 0, whole := false }

/-- A count of losses changes no domain's units. -/
theorem domainUnits_lose (d : Dev) (k : Nat) : domainUnits (d.upDom k Domain.lose) k = domainUnits d k := by
  have hdcfg (j : Nat) : (d.upDom k Domain.lose).dcfg j = d.dcfg j := by
    have hversion := Dev.upDom_dom_keeps Domain.version (k := k) (f := Domain.lose) (d := d) rfl (9 + j)
    have hshadow := Dev.upDom_dom_keeps Domain.shadow (k := k) (f := Domain.lose) (d := d) rfl (9 + j)
    simp only [Dev.dcfg, hversion, hshadow, Dev.upDom_store]
  simp only [domainUnits, hdcfg]

theorem clockLoss_lost {k : Nat} {d : Dev} (hr : d.clockRuns k = true) (hc : d.crossingHeld k = false) :
    clockLoss k d = (stopDomain k (d.dom k).powerOff (d.upDom k Domain.lose)).raise 0xD4 k := by
  rw [clockLoss, if_neg (by simp [hr]), if_neg (by simp [hc])]
  rfl

/-- FCLK clocks units of its own. -/
theorem ne_one_of_no_units {d : Dev} {k : Nat} (h : domainUnits d k = []) : k ≠ 1 := by
  rintro rfl
  simp [domainUnits] at h

theorem crossingHeld_of_no_units {d : Dev} {k : Nat} (h : domainUnits d k = []) : d.crossingHeld k = false := by
  rw [Dev.crossingHeld, h, List.any_nil]

/-- A domain with no unit stops by itself. -/
theorem stopDomain_no_units {k : Nat} {d : Dev} (h : domainUnits d k = []) (off : Bool) :
    stopDomain k off d = d.upDom k (Domain.stop off) := by
  have hk : (k == 1) = false := beq_false_of_ne (ne_one_of_no_units h)
  simp only [stopDomain, h, hk]
  rfl

theorem clockLoss_no_units {k : Nat} {d : Dev} (hr : d.clockRuns k = true) (hu : domainUnits d k = [])
    (hi : d.faults.inj.state ≠ 1) :
    clockLoss k d = { (d.upDom k Domain.lose).upDom k (Domain.stop (d.dom k).powerOff) with faults := { d.faults with
      crossing := d.faults.crossing ++ [{ src := 0xD4, inst := k, part := 0xFF, cause := 0, injected := false }] } } := by
  rw [clockLoss_lost hr (crossingHeld_of_no_units hu), stopDomain_no_units ((domainUnits_lose d k).trans hu)]
  exact Dev.raise_of_not_armed 0xD4 k 0xFF 0 hi

/-- A domain that stops counts as not running and reports no version (R47). -/
theorem domVersion_of_stopped {d : Dev} {k : Nat} (h : (d.dom k).running = false) : d.domRuns k = false ∧ d.domVersion k = 0 := by
  have hruns : d.domRuns k = false := by simp [Dev.domRuns, Dev.clockRuns, h]
  exact ⟨hruns, by simp [Dev.domVersion, hruns]⟩

/-- The device once the units of domain `k` are reset and the domain's clock is off. -/
def domainOff (k : Nat) (off : Bool) (d : Dev) : Dev := clockOff k off (Dev.fold (domainUnits d k) resetUnit d)

/-- A domain that stops takes FCLK with it where it is FCLK's domain. -/
theorem stopDomain_eq (k : Nat) (off : Bool) (d : Dev) : stopDomain k off d = { domainOff k off d with
    clock := { (domainOff k off d).clock with running := if k = 1 then false else (domainOff k off d).clock.running } } := by
  have hwhen : stopDomain k off d = (domainOff k off d).when (k == 1) (Dev.onClock fun c => { c with running := false }) := rfl
  rw [hwhen]
  generalize domainOff k off d = e
  by_cases hk : k = 1
  · rw [if_pos hk, beq_iff_eq.2 hk]
    rfl
  · rw [if_neg hk, beq_false_of_ne hk]
    rfl

theorem domainOff_keeps (k : Nat) (off : Bool) (d : Dev) : ResetKeeps d (domainOff k off d) :=
  (ResetKeeps.fold resetUnit_keeps _ d).trans (clockOff_keeps k off _)

theorem domainOff_stopped (k : Nat) (off : Bool) (d : Dev) : ((domainOff k off d).dom k).running = false :=
  congrArg Domain.running (Dev.upDom_dom_same ..)

theorem domainOff_holds {k u : Nat} (off : Bool) {d : Dev} (hu : u ∈ domainUnits d k) :
    (domainOff k off d).resets.unitHeld.find? u = some false := resetUnits_hold hu d

/-- The loss of a running domain whose crossings are not held: its units are reset, its clock is off, and the event is raised
(R231, R242, R245). -/
theorem clockLoss_stops {k : Nat} {d : Dev} (hr : d.clockRuns k = true) (hc : d.crossingHeld k = false) :
    ∃ faults nis, clockLoss k d = { domainOff k (d.dom k).powerOff (d.upDom k Domain.lose) with
      clock := { d.clock with running := if k = 1 then false else d.clock.running }
      faults := faults, nis := nis } := by
  have hclock : (domainOff k (d.dom k).powerOff (d.upDom k Domain.lose)).clock = d.clock :=
    (domainOff_keeps k _ (d.upDom k Domain.lose)).clock
  obtain ⟨hraise, -⟩ := AtNi.raise 0 0xD4 k 0xFF 0 false none (stopDomain k (d.dom k).powerOff (d.upDom k Domain.lose))
  rw [clockLoss_lost hr hc, hraise, stopDomain_eq, hclock]
  exact ⟨_, _, rfl⟩

/-- A unit that is held takes no work (R231). -/
theorem unitUp_of_held {d : Dev} {u : Nat} {v : Bool} (h : d.resets.unitHeld.find? u = some v) : d.unitUp u = false := by
  have hheld : d.held u = true := by rw [Dev.held, Tbl.has, h, Option.isSome_some]
  rw [Dev.unitUp, hheld, Bool.not_true, Bool.and_false]

/-! The other commands. -/

/-- A domain whose clock starts: its crossings capture (R47). -/
def Domain.start (x : Domain) : Domain :=
  { x with running := true, locked := true, powerOff := false, capturing := true, version := 0, freq := 0, whole := false }

theorem domainClockStart_starts {k : Nat} {d : Dev} (hr : (d.dom k).running = false) (hp : domainPowered d k = true) :
    domainClockStart k d = { d with
      doms := (d.upDom k Domain.start).doms
      clock := { d.clock with running := if k = 1 then true else d.clock.running } } := by
  have hcan : ¬((d.dom k).running = true ∨ domainPowered d k = false) := by simp [hr, hp]
  rw [domainClockStart, if_neg hcan]
  by_cases hk : k = 1
  · subst hk
    rfl
  · rw [beq_false_of_ne hk, if_neg hk]
    rfl

/-- Where no link waits for power, the return of power starts none. -/
theorem linksPowered_none_waits {d : Dev} (h : ∀ k, k < 24 → (d.link k).rx ≠ 1 ∧ (d.link k).tx ≠ 1) : linksPowered d = d :=
  Dev.fold_fixed _ fun k hk => if_neg (not_or.2 (h k (List.mem_range.1 hk)))

theorem unitResetRelease_captured {u : Nat} {d : Dev} (hh : d.resets.unitHeld.get false u = true)
    (hr : d.clockRuns (unitDomain d u) = true) (hp : unitPowered d u = true)
    (hl : ∀ k, k < 24 → (d.link k).rx ≠ 1 ∧ (d.link k).tx ≠ 1) :
    unitResetRelease u d = { d with resets := { d.resets with unitHeld := d.resets.unitHeld.erase u } } := by
  rw [unitResetRelease, if_pos (by simp [mayLeave, hh, hr, hp])]
  exact linksPowered_none_waits hl

/-! Updates of several domains, one after the other. -/

theorem mem_span {lo hi k : Nat} : k ∈ span lo hi ↔ lo ≤ k ∧ k < hi := by
  simp only [span, List.mem_map, List.mem_range]
  constructor
  · rintro ⟨i, hi', rfl⟩
    omega
  · exact fun h => ⟨k - lo, by omega, by omega⟩

theorem nodup_span (lo hi : Nat) : (span lo hi).Nodup :=
  List.pairwise_map.2 (List.nodup_range.imp fun hne heq => hne (Nat.add_right_cancel heq))

/-- They change nothing but domains. -/
theorem Dev.fold_upDom_frame (f : Nat → Domain → Domain) : ∀ (l : List Nat) (d : Dev),
    Dev.fold l (fun k e => e.upDom k (f k)) d = { d with doms := (Dev.fold l (fun k e => e.upDom k (f k)) d).doms }
  | [], _ => rfl
  | j :: l, d => Dev.fold_upDom_frame f l (d.upDom j (f j))

theorem Dev.fold_upDom_dom_not_mem (f : Nat → Domain → Domain) {k : Nat} : ∀ {l : List Nat}, k ∉ l → ∀ d : Dev,
    (Dev.fold l (fun k e => e.upDom k (f k)) d).dom k = d.dom k
  | [], _, _ => rfl
  | j :: l, hk, d => by
    have hl := Dev.fold_upDom_dom_not_mem f (List.not_mem_of_not_mem_cons hk) (d.upDom j (f j))
    exact hl.trans (Dev.upDom_dom_ne (List.ne_of_not_mem_cons hk) (f j) d)

/-- A domain that they name once takes its own update. -/
theorem Dev.fold_upDom_dom_mem (f : Nat → Domain → Domain) {k : Nat} : ∀ {l : List Nat}, l.Nodup → k ∈ l → ∀ d : Dev,
    (Dev.fold l (fun k e => e.upDom k (f k)) d).dom k = f k (d.dom k)
  | j :: l, hl, hk, d => by
    obtain ⟨hj, hl⟩ := List.nodup_cons.1 hl
    rcases List.mem_cons.1 hk with rfl | hk
    · exact (Dev.fold_upDom_dom_not_mem f hj (d.upDom k (f k))).trans (Dev.upDom_dom_same k (f k) d)
    · have hne : k ≠ j := fun h => hj (h ▸ hk)
      refine (Dev.fold_upDom_dom_mem f hl hk (d.upDom j (f j))).trans ?_
      rw [Dev.upDom_dom_ne hne]

/-- A domain at the end of a period of TCLK in which `w` kHz were measured (R244). -/
def Domain.measure (w : Nat) (x : Domain) : Domain :=
  { x with freq := if x.running = true ∧ x.whole = true then w else 0, whole := x.running }

theorem frequencyMeasurementPeriod_ends (f : List Nat) {d : Dev} (hr : d.clockRuns 0x29 = true) :
    frequencyMeasurementPeriod f d = Dev.fold (span 1 0x2A) (fun k e => e.upDom k (Domain.measure (f.getD (k - 1) 0))) d := by
  simp only [frequencyMeasurementPeriod, hr, Bool.true_eq_false, if_false, Bool.and_eq_true]
  rfl

theorem captureTimeout_due {k : Nat} {d : Dev} (hr : d.clockRuns k = true) (hc : (d.dom k).capturing = true) :
    captureTimeout k d = d.raise 0xD5 k := if_pos ⟨hr, hc⟩

/-- Settles O41, command by command from the equations above. -/
theorem clockDomains : Obligations.ClockDomains := by
  refine ⟨fun k s hw hs hr hu hi => ?lossAlone, fun k u s hw hs hr hc hu => ?loss, fun k s hw hs hr hp => ?start,
    fun u s hw hs hh hr hp hl => ?release, fun f s hw hs hr => ?period, fun k s hw hs hr hc hi => ?timeout⟩
  case lossAlone =>
    have hdom : ((s.dev.upDom k Domain.lose).upDom k (Domain.stop (s.dev.dom k).powerOff)).dom k =
        ((s.dev.dom k).lose).stop (s.dev.dom k).powerOff := by rw [Dev.upDom_dom_same, Dev.upDom_dom_same]
    refine completes_of_effect rfl hw hs (clockLoss_no_units hr hu hi)
      ⟨hdom, (domVersion_of_stopped (congrArg Domain.running hdom)).2, fun j hj => ?_, rfl, rfl⟩
    exact (Dev.upDom_dom_ne hj _ _).trans (Dev.upDom_dom_ne hj _ _)
  case loss =>
    obtain ⟨faults, nis, he⟩ := clockLoss_stops hr hc
    have hkeeps := domainOff_keeps k (s.dev.dom k).powerOff (s.dev.upDom k Domain.lose)
    obtain ⟨hruns, hversion⟩ := domVersion_of_stopped (domainOff_stopped k (s.dev.dom k).powerOff (s.dev.upDom k Domain.lose))
    have hheld := domainOff_holds (s.dev.dom k).powerOff ((domainUnits_lose s.dev k).symm ▸ hu)
    refine ⟨_, act_ready (clockLoss k) hw hs.1, ?_⟩
    rw [he]
    exact ⟨hruns, hversion, (hkeeps.losses k).trans (congrArg Domain.losses (Dev.upDom_dom_same k Domain.lose s.dev)), hheld,
      unitUp_of_held hheld, hkeeps.parts, hkeeps.pds, rfl⟩
  case start =>
    exact completes_of_clockEffect rfl hw hs (domainClockStart_starts hr hp)
      ⟨Dev.upDom_dom_same k Domain.start s.dev, fun j hj => Dev.upDom_dom_ne hj Domain.start s.dev, rfl⟩ rfl rfl rfl rfl
  case release =>
    refine completes_of_effect rfl hw hs (unitResetRelease_captured hh hr hp hl)
      ⟨?_, fun v hv => Tbl.find?_erase_ne _ hv, rfl⟩
    simp only [Dev.held, Tbl.has, Tbl.find?_erase_same, Option.isSome_none]
  case period =>
    have hframe := Dev.fold_upDom_frame (fun k => Domain.measure (f.getD (k - 1) 0)) (span 1 0x2A) s.dev
    refine completes_of_effect rfl hw hs (frequencyMeasurementPeriod_ends f hr) ⟨fun k hk => ?_, hframe⟩ ?_
    · exact Dev.fold_upDom_dom_mem _ (nodup_span 1 0x2A) (mem_span.2 ⟨hk.1, by omega⟩) s.dev
    · rw [hframe]
      exact ⟨rfl, rfl, rfl, rfl⟩
  case timeout =>
    exact completes_of_effect rfl hw hs ((captureTimeout_due hr hc).trans (Dev.raise_of_not_armed 0xD5 k 0xFF 0 hi)) ⟨rfl, rfl⟩

end Sys2Proof.Machine
end

section
/-! SUPPORT. One function of the endpoint, and WINDOW_BASE (R322): one equation per case of its write, and from these the obligation
about it. -/
namespace Sys2Proof.Machine

/-! One function is read after an update of it or of another. -/

theorem Dev.fn_of_modify_same {d t : Dev} {f : Nat} {g : Fn → Fn} (h : t.host.fn = d.host.fn.modify {} f g) :
    t.fn f = g (d.fn f) := by
  rw [Dev.fn, h]
  exact Tbl.get_modify_same ..

theorem Dev.fn_of_modify_ne {d t : Dev} {f i : Nat} (g : Fn → Fn) (hi : i ≠ f) (h : t.host.fn = d.host.fn.modify {} f g) :
    t.fn i = d.fn i := by
  rw [Dev.fn, h]
  exact Tbl.get_modify_ne _ _ hi g

@[simp] theorem Dev.upFn_fn_same (f : Nat) (g : Fn → Fn) (d : Dev) : (d.upFn f g).fn f = g (d.fn f) :=
  Dev.fn_of_modify_same rfl

theorem Dev.upFn_fn_ne {f i : Nat} (hi : i ≠ f) (g : Fn → Fn) (d : Dev) : (d.upFn f g).fn i = d.fn i :=
  Dev.fn_of_modify_ne g hi rfl

/-! WINDOW_BASE. -/

theorem windowBaseWrite_accepted {f : Nat} {data : Bytes} {d : Dev} (hd : d.door f 0 = .serve) (hl : data.length = 8)
    (hlow : bitsOf data.toNat 25 1 = 0) (hhigh : bitsOf data.toNat 63 48 = 0) :
    windowBaseWrite f data false d = d.upFn f fun x => { x with window := data.toNat } := by
  simp [windowBaseWrite, hd, hl, hlow, hhigh]

theorem windowBaseWrite_refused {f : Nat} {data : Bytes} {d : Dev} (hd : d.door f 0 = .serve)
    (hl : data.length = 8 ∨ data.length = 4)
    (hbad : ¬(data.length = 8 ∧ bitsOf data.toNat 25 1 = 0 ∧ bitsOf data.toNat 63 48 = 0)) :
    windowBaseWrite f data false d = d.raise 0x8B (hpOf f) f := by
  simp only [windowBaseWrite, hd, ne_eq, not_true_eq_false, Bool.false_eq_true, if_false, if_neg hbad, if_pos hl]

/-- An event joins those on their way to FCOL and spends at most the armed injection (R472, R482). -/
theorem Dev.raise_event (src inst part cause : Nat) (d : Dev) : ∃ i inj, d.raise src inst part cause =
    { d with faults := { d.faults with
      crossing := d.faults.crossing ++ [{ src := src, inst := inst, part := part, cause := cause, injected := i }]
      inj := inj } } := by
  unfold Dev.raise
  dsimp only
  split
  · exact ⟨_, _, rfl⟩
  · exact ⟨_, _, rfl⟩

/-- Settles O21, write by write from the equations above. -/
theorem windowBase : Obligations.WindowBase := by
  refine ⟨fun f data s hw hs hd hl hlow hhigh => ?accepted, fun f data s hw hs hd hl hbad => ?refused⟩
  case accepted =>
    refine completes_of_effect rfl hw hs (windowBaseWrite_accepted hd hl hlow hhigh)
      ⟨?_, Dev.upFn_fn_same .., fun g hg => Dev.upFn_fn_ne hg _ _, rfl⟩
    exact congrArg Fn.window (Dev.upFn_fn_same ..)
  case refused =>
    obtain ⟨i, inj, he⟩ := Dev.raise_event 0x8B (hpOf f) f 0 s.dev
    exact completes_of_effect rfl hw hs ((windowBaseWrite_refused hd hl hbad).trans he) ⟨rfl, ⟨i, rfl⟩, rfl⟩

end Sys2Proof.Machine
end

section
/-! SUPPORT. The answer to an outbound READ carries the low eight bits of its address (R122), so the statement about outbound
requests, which gives the whole address, fails. -/
namespace Sys2Proof.Machine

/-- The OK response to a READ carries ADDR[7:0] (R122). -/
theorem respond_read_out {n : Nat} {q : Packet} (ht : q.ty = 0) (bs : Bytes) (d : Dev) :
    ((respond n q 0 bs d).ni n).out = (d.ni n).out ++ [{
      pkt := {
        dest := q.src, src := n, ty := 8, cls := q.cls, part := q.part, tag := q.tag, addr := q.addr % 256, size := q.size
        data := bs }
      kind := .response }] := by
  rw [respond_read ht, Dev.upNi_ni_same]
  rfl

/-- A READ of one byte at outbound address 0x100000000100, under endpoint tag 0. -/
def outboundReadAt256 : OutRead :=
  { tag := 0, hp := 40, req := { dest := 40, src := 24, ty := 0, cls := 2, part := 0, addr := 0x100000000100, size := 1 } }

/-- The device after reset, with that READ awaiting its completion. -/
def awaitingOutbound : State := { State.reset with dev := { State.reset.dev with host := { reads := [outboundReadAt256] } } }

/-- Its data are answered with ADDR 0. -/
theorem awaitingOutbound_answer : ((outboundCompletion 0 (.data [byte 1]) awaitingOutbound.dev).ni 40).out =
    [{ pkt := { dest := 24, src := 40, ty := 8, cls := 2, part := 0, addr := 0, size := 1, data := [byte 1] }, kind := .response }] :=
  respond_read_out (q := outboundReadAt256.req) rfl [byte 1] (endOutRead 0 awaitingOutbound.dev)

/-- What holds where a command completes holds of its effect. -/
theorem Completes.effect {c : Instr} {f : Dev → Dev} {s : State} {P : Dev → Prop} (h : Completes c s P)
    (he : exec c s = act c.wellFormed f s) (hw : c.wellFormed = true) (hr : s.dev.power.released = true) :
    P (settle s.dev (f s.dev)) := by
  obtain ⟨t, ht, hp⟩ := h
  rw [he, act_ready f hw hr] at ht
  injection ht with ht
  injection ht with ht
  exact ht ▸ hp

/-- Refutes O25: the clause about completions gives the response the whole address of the READ, and a response carries its low eight
bits (R122), so a READ at 0x100000000100 is answered with ADDR 0. -/
theorem not_outbound : ¬ Obligations.Outbound := by
  rintro ⟨-, hcompletion, -⟩
  have hw : (Instr.outboundCompletion 0 (.data [byte 1])).wellFormed = true := by decide
  have hcompletes := hcompletion 0 [byte 1] outboundReadAt256 awaitingOutbound hw ⟨rfl, rfl⟩ rfl rfl rfl rfl
  obtain ⟨-, hout, -⟩ := hcompletes.effect (f := outboundCompletion 0 (.data [byte 1])) rfl hw rfl
  have haddr := congrArg (·.map (·.pkt.addr)) (awaitingOutbound_answer.symm.trans hout)
  exact absurd haddr (by decide)

end Sys2Proof.Machine
end

section
/-! SUPPORT. What an NI with nothing waiting makes of a posted write of one block (R176), and of requests for other NIs (R175,
R179): the rules for the window and for placement. -/
namespace Sys2Proof.Machine

/-! A posted write of one block. -/

/-- The one block of a posted write of `bs` at `a`, as NI `n` sends it to `dest`. -/
def postedBlock (n part cls a : Nat) (bs : Bytes) (dest : Nat) : Packet :=
  { dest := dest, src := n, ty := 1, cls := cls, part := part, addr := a, size := bs.length, data := bs }

/-- An NI whose write-combining buffer holds the one open entry `p`. -/
def Ni.openEntry (p : Packet) (x : Ni) : Ni :=
  let y : Ni := { x with wcb := [{ pkt := p, isOpen := true }] }
  y.peak 0x302 (y.wcbFlits fun _ => true)

/-- A block that stays below its end opens an entry in an empty buffer (R176). -/
theorem combine_empty {n part cls a dest : Nat} {bs : Bytes} {d : Dev} (hw : (d.ni n).wcb = [])
    (hend : a % 256 + bs.length < 256) (hon : d.fcfg.nat 0x2301 4 ≠ 0) :
    combine n part cls a bs dest d = d.upNi n (Ni.openEntry (postedBlock n part cls a bs dest)) := by
  have hroom : ¬ 256 ≤ a % 256 + bs.length := Nat.not_le.mpr hend
  simp only [combine, hw, List.any_nil, Bool.false_eq_true, if_false, closeWcb, Dev.upNi_upNi]
  apply Dev.upNi_congr
  simp [hw, hroom, hon, Ni.openEntry, postedBlock]

/-- Whether an empty buffer takes a block depends on the contents of the NI and on the FCLK shadow. -/
theorem wcbFits_empty {n part cls a dest : Nat} {bs : Bytes} {d : Dev} (hw : (d.ni n).wcb = [])
    (hend : a % 256 + bs.length < 256) (hon : d.fcfg.nat 0x2301 4 ≠ 0) :
    wcbFits d n (postedBlock n part cls a bs dest) =
      (decide (((d.ni n).openEntry (postedBlock n part cls a bs dest)).wcbFlits (· == part) ≤
          max (d.fcfg.nat 0x2340 (part + 1)) ((d.ni n).wcbFlits (· == part))) &&
        decide (((d.ni n).openEntry (postedBlock n part cls a bs dest)).wcbFlits (fun _ => true) ≤ 256)) := by
  simp only [wcbFits, postedBlock, combine_empty hw hend hon, Dev.upNi_ni_same]
  rfl

/-- So blocks that wait at the unit do not matter to it. -/
theorem wcbFits_setAtUnit {n part cls a dest : Nat} {bs : Bytes} {d : Dev} (hw : (d.ni n).wcb = [])
    (hend : a % 256 + bs.length < 256) (hon : d.fcfg.nat 0x2301 4 ≠ 0) (l : List Out) :
    wcbFits (d.upNi n (Ni.setAtUnit l)) n (postedBlock n part cls a bs dest) =
      wcbFits d n (postedBlock n part cls a bs dest) := by
  have hni : (d.upNi n (Ni.setAtUnit l)).ni n = (d.ni n).setAtUnit l := Dev.upNi_ni_same ..
  have hw' : ((d.upNi n (Ni.setAtUnit l)).ni n).wcb = [] := (congrArg Ni.wcb hni).trans hw
  rw [wcbFits_empty hw' hend hon, wcbFits_empty hw hend hon, hni]
  rfl

/-- The device with another host side. -/
def Dev.withHost (h : HostPort) (d : Dev) : Dev := { d with host := h }

theorem wcbFits_withHost {n part cls a dest : Nat} {bs : Bytes} {d : Dev} (hw : (d.ni n).wcb = [])
    (hend : a % 256 + bs.length < 256) (hon : d.fcfg.nat 0x2301 4 ≠ 0) (h : HostPort) :
    wcbFits (d.withHost h) n (postedBlock n part cls a bs dest) = wcbFits d n (postedBlock n part cls a bs dest) := by
  rw [wcbFits_empty (d := d.withHost h) hw hend hon, wcbFits_empty hw hend hon]
  rfl

/-- A block for another NI that fits is combined (R94, R176). -/
theorem takePosted_combined {n t : Nat} {p : Packet} {d : Dev} (ha : d.decodeAddr n p.addr = some t) (ht : t ≠ n)
    (hf : wcbFits d n { p with dest := t } = true) : takePosted n p d = some (combine n p.part p.cls p.addr p.data t d) := by
  simp only [takePosted, ha, if_neg ht, hf, if_true]

/-- What has to hold for a posted write of one block to enter an empty write-combining buffer of an NI at which nothing waits. -/
structure OpensEntry (n part cls a : Nat) (bs : Bytes) (dest : Nat) (d : Dev) : Prop where
  fits : wcbFits d n (postedBlock n part cls a bs dest) = true
  block : splitBlocks 17 a bs.length = [(a, bs.length)]
  below : a % 256 + bs.length < 256
  combines : d.fcfg.nat 0x2301 4 ≠ 0
  noneWaits : (d.ni n).atUnit = []
  empty : (d.ni n).wcb = []
  target : d.decodeAddr n a = some dest
  other : dest ≠ n

theorem OpensEntry.withHost {n part cls a dest : Nat} {bs : Bytes} {d : Dev} (o : OpensEntry n part cls a bs dest d)
    (h : HostPort) : OpensEntry n part cls a bs dest (d.withHost h) where
  fits := (wcbFits_withHost o.empty o.below o.combines h).trans o.fits
  block := o.block
  below := o.below
  combines := o.combines
  noneWaits := o.noneWaits
  empty := o.empty
  target := o.target
  other := o.other

/-- Such a write changes the NI alone. -/
theorem unitPostedWrite_opens {n part cls a dest : Nat} {bs : Bytes} {d : Dev} (hn : n ≠ 64) (hm : mayIssue n 1 = true)
    (hu : unitAdmits d n part = true) (h : OpensEntry n part cls a bs dest d) :
    unitPostedWrite n part cls a bs d = d.upNi n (Ni.openEntry (postedBlock n part cls a bs dest)) := by
  let o : Out := { pkt := postedBlock n part cls a bs 0, kind := .posted }
  have hpresent : unitPostedWrite n part cls a bs d = present n [o] d := by
    simp [unitPostedWrite, hn, hm, hu, h.block, o, postedBlock, Bytes.slice]
  have hcombine : combine n part cls a bs dest (d.upNi n (Ni.setAtUnit [o])) = _ :=
    combine_empty ((congrArg Ni.wcb (Dev.upNi_ni_same ..)).trans h.empty) h.below h.combines
  have htake : takePosted n o.pkt (d.upNi n (Ni.setAtUnit [o])) = some (combine n part cls a bs dest _) :=
    takePosted_combined h.target h.other ((wcbFits_setAtUnit h.empty h.below h.combines [o]).trans h.fits)
  rw [hcombine] at htake
  rw [hpresent, present_single (o := o) h.noneWaits htake, Dev.upNi_upNi, Dev.upNi_upNi]
  refine Dev.upNi_congr ?_
  simp only [Ni.setAtUnit, Ni.openEntry, ← h.noneWaits]
  rfl

/-! Requests for other NIs. -/

/-- An NI that has queued the request `p`, behind the write-combining entries that `sel` names, closed (R175). -/
def Ni.placeRequest (sel : WcbEntry → Bool) (p : Packet) (x : Ni) : Ni := { x with
  out := x.out ++ (x.wcb.filter sel).map (fun e => ({ pkt := e.pkt, kind := .posted } : Out)) ++ [{ pkt := p, kind := .request }]
  wcb := x.wcb.filter fun e => !sel e }

/-- A request for another NI is queued there, whatever the host side holds. -/
theorem placeBlock_elsewhere {n t : Nat} {p : Packet} {d : Dev} (ha : d.decodeAddr n p.addr = some t) (ht : t ≠ n) :
    ∃ sel, ∀ h, placeBlock n p (d.withHost h) = (d.withHost h).upNi n (Ni.placeRequest sel { p with dest := t }) := by
  refine ⟨fun e => if p.ty = 3 then e.pkt.dest == t && e.pkt.cls == p.cls else overlaps e.pkt.addr e.pkt.size p.addr p.size,
    fun h => ?_⟩
  have ha' : (d.withHost h).decodeAddr n p.addr = some t := ha
  simp only [placeBlock, ha', if_neg ht, closeWcb, Dev.upNi_upNi]
  rfl

/-- A request that decodes to another NI than `n`. -/
def ForOther (n : Nat) (d : Dev) (o : Out) : Prop :=
  o.kind = .request ∧ (d.decodeAddr n o.pkt.addr).isSome = true ∧ d.decodeAddr n o.pkt.addr ≠ some n

/-- An NI takes such a request or leaves it waiting, whatever the host side holds, and answers nothing. -/
theorem takeBlock_forOther {n : Nat} {o : Out} {d : Dev} (ho : ForOther n d o) :
    (∀ h, takeBlock n o (d.withHost h) = none) ∨
      ∃ g : Ni → Ni, (∀ x, (g x).answers = x.answers) ∧ ∀ h, takeBlock n o (d.withHost h) = some ((d.withHost h).upNi n g) := by
  obtain ⟨hk, hsome, hne⟩ := ho
  obtain ⟨t, ha⟩ := Option.isSome_iff_exists.1 hsome
  have ht : t ≠ n := fun h => hne (h ▸ ha)
  by_cases hc : slotOpen d n o.pkt.part = true ∧ lkRoom d n o.pkt.code = true
  · obtain ⟨sel, hplace⟩ := placeBlock_elsewhere ha ht
    refine .inr ⟨Ni.placeRequest sel { o.pkt with dest := t }, fun _ => rfl, fun h => ?_⟩
    have hc' : slotOpen (d.withHost h) n o.pkt.part = true ∧ lkRoom (d.withHost h) n o.pkt.code = true := hc
    simp only [takeBlock, hk, if_pos hc', hplace h]
  · refine .inl fun h => ?_
    have hc' : ¬(slotOpen (d.withHost h) n o.pkt.part = true ∧ lkRoom (d.withHost h) n o.pkt.code = true) := hc
    simp only [takeBlock, hk, if_neg hc']

/-- `nis` are the NIs of `d` after changes of NI `n` that leave its answers alone. -/
structure AnswersKept (n : Nat) (d : Dev) (nis : Tbl Ni) : Prop where
  others : NiOnly d { d with nis := nis } n
  answers : (Tbl.get {} nis n).answers = (d.ni n).answers

theorem AnswersKept.refl (n : Nat) (d : Dev) : AnswersKept n d d.nis := ⟨fun _ _ => rfl, rfl⟩

theorem AnswersKept.upNi {n : Nat} {d : Dev} {nis : Tbl Ni} {g : Ni → Ni} (hg : ∀ x, (g x).answers = x.answers)
    (h : AnswersKept n (d.upNi n g) nis) : AnswersKept n d nis where
  others i hi := (h.others i hi).trans (Dev.upNi_ni_ne hi g d)
  answers := by rw [h.answers, Dev.upNi_ni_same, hg]

/-- Requests for other NIs, taken in order: the same whatever the host side holds, with nothing answered. -/
theorem takeBlocks_forOther {n : Nat} : ∀ (l left : List Out) (d : Dev), (∀ o ∈ l, ForOther n d o) →
    ∃ rest nis, (∀ h, takeBlocks n l left (d.withHost h) = (rest, { d.withHost h with nis := nis })) ∧ AnswersKept n d nis
  | [], left, d, _ => ⟨left, d.nis, fun _ => rfl, .refl n d⟩
  | o :: l, left, d, hl => by
    have hlater : ∀ x ∈ l, ForOther n d x := fun x hx => hl x (List.mem_cons_of_mem o hx)
    by_cases hheld : (left.any fun a => holdsBack n a o) = true
    · obtain ⟨rest, nis, htake, hkept⟩ := takeBlocks_forOther l (left ++ [o]) d hlater
      exact ⟨rest, nis, fun h => by simp only [takeBlocks, if_pos hheld, htake h], hkept⟩
    · rcases takeBlock_forOther (hl o List.mem_cons_self) with hnone | ⟨g, hg, hsome⟩
      · obtain ⟨rest, nis, htake, hkept⟩ := takeBlocks_forOther l (left ++ [o]) d hlater
        exact ⟨rest, nis, fun h => by simp only [takeBlocks, if_neg hheld, hnone h, htake h], hkept⟩
      · obtain ⟨rest, nis, htake, hkept⟩ := takeBlocks_forOther l left (d.upNi n g) hlater
        refine ⟨rest, nis, fun h => ?_, .upNi hg hkept⟩
        simp only [takeBlocks, if_neg hheld, hsome h]
        exact htake h

/-- Requests for other NIs that are presented change their NI alone, the same whatever the host side holds, and nothing is
answered. -/
theorem present_forOther {n : Nat} {os : List Out} {d : Dev} (ha : (d.ni n).atUnit = []) (ho : ∀ o ∈ os, ForOther n d o) :
    ∃ nis, (∀ h, present n os (d.withHost h) = { d.withHost h with nis := nis }) ∧ AnswersKept n d nis := by
  let e := d.upNi n (Ni.setAtUnit os)
  have hup (h : HostPort) : ((d.withHost h).upNi n fun x => { x with atUnit := x.atUnit ++ os }) = e.withHost h :=
    Dev.upNi_congr (f := fun x => { x with atUnit := x.atUnit ++ os }) (d := d.withHost h)
      (congrArg (Ni.setAtUnit · (d.ni n)) ((congrArg (· ++ os) ha).trans (List.nil_append os)))
  have hat (h : HostPort) : ((e.withHost h).ni n).atUnit = os := congrArg Ni.atUnit (Dev.upNi_ni_same ..)
  have hsame : ∀ x : Ni, (x.setAtUnit os).answers = x.answers := fun _ => rfl
  cases os with
  | nil =>
    refine ⟨e.nis, fun h => ?_, .upNi hsame (.refl n e)⟩
    simp only [present, hup h, takeUnit, hat h]
    rfl
  | cons o l =>
    obtain ⟨rest, nis, htake, hkept⟩ := takeBlocks_forOther (o :: l) [] e ho
    obtain ⟨hothers, hanswers⟩ := AnswersKept.upNi hsame hkept
    refine ⟨nis.modify {} n (Ni.setAtUnit rest), fun h => ?_, fun i hi => ?_, ?_⟩
    · simp only [present, hup h, takeUnit, hat h, htake h]
      rfl
    · exact (Tbl.get_modify_ne ({} : Ni) nis hi (Ni.setAtUnit rest)).trans (hothers i hi)
    · exact (congrArg Ni.answers (Tbl.get_modify_same ({} : Ni) nis n (Ni.setAtUnit rest))).trans hanswers

/-! The answers at an HP NI. -/

/-- Nothing is taken where nothing has been answered. -/
theorem hostTake_unanswered {h : Nat} {d : Dev} (hk : niKind h = 3) (ha : (d.ni h).answers = []) :
    hostTake h d = finishFlushes d.host.flushReads (d.upNi h fun x => { x with answers := [] }) := by
  simp only [hostTake, hk, ha, if_true]
  rfl

/-- What a unit presents leaves an NI that has been written, so that a write of what it holds already changes nothing. -/
theorem present_upNi_fixed {n : Nat} {os : List Out} {g : Ni → Ni} {d : Dev} (hg : g ((present n os d).ni n) = (present n os d).ni n) :
    (present n os d).upNi n g = present n os d := by
  have hend : ∃ e f, present n os d = Dev.upNi n f e := by
    unfold present takeUnit
    split
    · exact ⟨d, _, rfl⟩
    · exact ⟨_, _, rfl⟩
  obtain ⟨e, f, he⟩ := hend
  rw [he, Dev.upNi_ni_same] at hg
  rw [he, Dev.upNi_upNi]
  exact Dev.upNi_congr hg

/-! The HP NI of a function. -/

theorem hpOf_kind (f : Nat) : niKind (hpOf f) = 3 := by
  have hlt : f % 4 < 4 := Nat.mod_lt f (by decide)
  have hall : ∀ i < 4, niKind (40 + i) = 3 := by decide
  exact hall _ hlt

theorem hpOf_ne_ttu (f : Nat) : hpOf f ≠ 64 := by
  unfold hpOf
  omega

theorem hpOf_writes (f : Nat) : mayIssue (hpOf f) 1 = true := by simp [mayIssue, hpOf_kind]

end Sys2Proof.Machine
end

section
/-! SUPPORT. Reads and writes through the window (R324, R325, R327, R328): one equation per case that acts, and from these the
obligation about the window. -/
namespace Sys2Proof.Machine

/-! Functions. -/

/-- A function whose previous read ended at `e` (R327). -/
def Fn.noteEnd (e : Nat) (x : Fn) : Fn := { x with prevEnd := some e }

/-- A function with one refusal more, at `a` (R324). -/
def Fn.refuse (a : Nat) (x : Fn) : Fn := { x with refused := inc32 x.refused, refusedAddr := a % 2 ^ 48 }

/-- A function whose lines that overlap `n` bytes at `a` are empty (R328). -/
def Fn.dropLines (a n : Nat) (x : Fn) : Fn := { x with lines := x.lines.filter fun l => !overlaps l.addr 256 a n }

/-! Reads. -/

/-- A window read of function `f` that is not refused is served (R195, R324). -/
theorem windowRead_served {f offset len : Nat} {d : Dev} (hd : d.door f 2 = .serve) (hu : unitAdmits d (hpOf f) f = true)
    (hr : windowRefused d f (windowAddr (d.fn f).window offset) len = false) :
    windowRead f offset len .none d = windowServe f (windowAddr (d.fn f).window offset) len d := by
  simp only [windowRead, hd, hu, hr, lineError, Bool.true_eq_false, Bool.false_eq_true, if_false, ite_self]

/-- The host side once a served read of `n` bytes at `a` has been counted and its end noted (R327, R343). -/
def HostPort.noteRead (f a n : Nat) (h : HostPort) : HostPort := { h with
  counts := h.counts.modify 0 (8 * (hpOf f - 40) + 1) inc32
  fn := h.fn.modify {} f (Fn.noteEnd (a + n)) }

/-- The host side once a hit has been counted besides (R343). -/
def HostPort.countHit (f : Nat) (h : HostPort) : HostPort :=
  { h with counts := h.counts.modify 0 (8 * (hpOf f - 40) + 2) inc32 }

/-- The requests of a window read, one for each block. -/
def readRequests (d : Dev) (f : Nat) (blocks : List Nat) : List Out := blocks.map fun b => {
  pkt := { dest := 0, src := hpOf f, ty := 0, cls := d.fcfg.nat 0x2801 1, part := f, addr := b, size := 256, code := d.host.nextKey }
  kind := .request }

/-- The host side that waits for the blocks of a read besides. -/
def HostPort.awaitRead (f a n : Nat) (blocks : List Nat) (h : HostPort) : HostPort := { h with
  nextKey := h.nextKey + 1
  inbound := h.inbound ++ [{
    key := h.nextKey, f := f, addr := a, len := n, blocks := blocks.map fun b => (b, 256), reply := true, keep := false }] }

/-- With prefetch off every block of a read is asked for (R325). -/
theorem windowServe_asks {f a n : Nat} {d : Dev} (hp : d.fcfg.nat (0x2820 + f) 1 ≠ 1) (hx : exactRead a = false) :
    windowServe f a n d = hostTake (hpOf f) (present (hpOf f) (readRequests d f (blocksOf a n))
      (d.withHost ((d.host.noteRead f a n).awaitRead f a n (blocksOf a n)))) := by
  have hoff : (d.fcfg.nat (0x2820 + f) 1 == 1) = false := beq_false_of_ne hp
  simp only [windowServe, hoff, hx, Bool.false_and, Bool.false_eq_true, if_false, Dev.when, issueRead, List.map_map]
  rfl

theorem readRequests_forOther {d : Dev} {f : Nat} {blocks : List Nat}
    (h : ∀ b, b ∈ blocks → (d.decodeAddr (hpOf f) b).isSome = true ∧ d.decodeAddr (hpOf f) b ≠ some (hpOf f)) :
    ∀ o ∈ readRequests d f blocks, ForOther (hpOf f) d o := by
  intro o ho
  obtain ⟨b, hb, rfl⟩ := List.mem_map.1 ho
  exact ⟨rfl, h b hb⟩

/-- At an HP NI at which nothing waits the requests of a read are presented, and nothing is answered yet (R325). -/
theorem windowServe_presents {f a n : Nat} {d : Dev} (hp : d.fcfg.nat (0x2820 + f) 1 ≠ 1) (hx : exactRead a = false)
    (hat : (d.ni (hpOf f)).atUnit = []) (hans : (d.ni (hpOf f)).answers = []) (hfl : d.host.flushReads = [])
    (hb : ∀ b, b ∈ blocksOf a n → (d.decodeAddr (hpOf f) b).isSome = true ∧ d.decodeAddr (hpOf f) b ≠ some (hpOf f)) :
    ∃ nis, windowServe f a n d =
        { d with nis := nis, host := (d.host.noteRead f a n).awaitRead f a n (blocksOf a n) } ∧
      nis = (present (hpOf f) (readRequests d f (blocksOf a n)) d).nis ∧ NiOnly d { d with nis := nis } (hpOf f) := by
  obtain ⟨nis, hpresent, hothers, hanswers⟩ := present_forOther hat (readRequests_forOther hb)
  have hpresents := hpresent ((d.host.noteRead f a n).awaitRead f a n (blocksOf a n))
  have hnone : ((present (hpOf f) (readRequests d f (blocksOf a n))
      (d.withHost ((d.host.noteRead f a n).awaitRead f a n (blocksOf a n)))).ni (hpOf f)).answers = [] := by
    rw [hpresents]
    exact hanswers.trans hans
  refine ⟨nis, ?_, (congrArg Dev.nis (hpresent d.host)).symm, hothers⟩
  rw [windowServe_asks hp hx, hostTake_unanswered (hpOf_kind f) hnone, present_upNi_fixed (by simp only [← hnone]), hpresents]
  have hflushes : ((d.host.noteRead f a n).awaitRead f a n (blocksOf a n)).flushReads = [] := hfl
  simp only [Dev.withHost, hflushes, finishFlushes]

/-- A read that lies in the one line of its function completes with the line's bytes (R327). -/
theorem windowServe_hit {f a n : Nat} {l : WinLine} {d : Dev} (hp : d.fcfg.nat (0x2820 + f) 1 = 1) (hx : exactRead a = false)
    (he : (d.fn f).prevEnd = none) (hl : (d.fn f).lines = [l]) (hb : blocksOf a n = [l.addr]) :
    windowServe f a n d = hostTake (hpOf f) (completeRead 0 false (l.data.slice (a % 256) n)
      (useLine f l.addr (d.withHost ((d.host.noteRead f a n).countHit f)))) := by
  have hline : (d.fn f).line l.addr = some l := by simp [Fn.line, hl]
  simp only [windowServe, hp, hx, he, hb, Dev.when, Dev.fold]
  simp [hline]
  rfl

/-- The host side with another table of functions. -/
def HostPort.withFns (fns : Tbl Fn) (h : HostPort) : HostPort := { h with fn := fns }

/-- A function with the line `l` as its most recently used one (R327). -/
def Fn.useLine (l : WinLine) (x : Fn) : Fn := { x with lines := (x.lines.filter fun y => y.addr != l.addr) ++ [l] }

/-- The one line of a function is its most recently used one already. -/
theorem useLine_sole {f : Nat} {l : WinLine} {d : Dev} (hl : (d.fn f).lines = [l]) :
    ∃ fns, useLine f l.addr d = d.withHost (d.host.withFns fns) ∧ ∀ g, Tbl.get {} fns g = d.fn g := by
  have hline : (d.fn f).line l.addr = some l := by simp [Fn.line, hl]
  have huse : (d.fn f).useLine l = d.fn f := by
    have hlines : ((d.fn f).lines.filter fun y => y.addr != l.addr) ++ [l] = (d.fn f).lines := by simp [hl]
    simp only [Fn.useLine, hlines]
  refine ⟨(d.upFn f (Fn.useLine l)).host.fn, ?_, fun g => ?_⟩
  · simp only [useLine, hline]
    rfl
  · by_cases hg : g = f
    · rw [hg]
      exact (Dev.upFn_fn_same f (Fn.useLine l) d).trans huse
    · exact Dev.upFn_fn_ne hg (Fn.useLine l) d

/-- The host side that has completed a read with the bytes `bs`. -/
def HostPort.completed (bs : Bytes) (h : HostPort) : HostPort := { h with lastRead := some (0, false, bs) }

/-- Such a read changes the function's end of read, the counters and the last completion (R327, R343). -/
theorem windowServe_line {f a n : Nat} {l : WinLine} {d : Dev} (hp : d.fcfg.nat (0x2820 + f) 1 = 1) (hx : exactRead a = false)
    (he : (d.fn f).prevEnd = none) (hl : (d.fn f).lines = [l]) (hb : blocksOf a n = [l.addr])
    (hans : (d.ni (hpOf f)).answers = []) (hfl : d.host.flushReads = []) :
    ∃ fns, windowServe f a n d = (d.withHost ((((d.host.noteRead f a n).countHit f).withFns fns).completed
        (l.data.slice (a % 256) n))).upNi (hpOf f) id ∧
      Tbl.get {} fns f = (d.fn f).noteEnd (a + n) ∧ ∀ g, g ≠ f → Tbl.get {} fns g = d.fn g := by
  let h := (d.host.noteRead f a n).countHit f
  have hsame : (d.withHost h).fn f = (d.fn f).noteEnd (a + n) := Dev.fn_of_modify_same rfl
  obtain ⟨fns, huse, hfns⟩ := useLine_sole (d := d.withHost h) ((congrArg Fn.lines hsame).trans hl)
  refine ⟨fns, ?_, (hfns f).trans hsame, fun g hg => (hfns g).trans (Dev.fn_of_modify_ne (Fn.noteEnd (a + n)) hg rfl)⟩
  let t := d.withHost ((h.withFns fns).completed (l.data.slice (a % 256) n))
  have hcompletes : windowServe f a n d = hostTake (hpOf f) t := by
    rw [windowServe_hit hp hx he hl hb, huse]
    rfl
  have hflushes : t.host.flushReads = [] := hfl
  have hanswers : (t.ni (hpOf f)).answers = [] := hans
  rw [hcompletes, hostTake_unanswered (hpOf_kind f) hanswers, hflushes, finishFlushes]
  exact Dev.upNi_congr (by simp only [← hanswers, id])

/-- The device in which a read of `len` bytes at `a` has been refused and completed with all ones (R324). -/
def readRefused (f a len : Nat) (d : Dev) : Dev := { d with
  host := { d.host with
    fn := d.host.fn.modify {} f (Fn.refuse a)
    lastRead := some (0, false, List.replicate len (BitVec.ofNat 8 255)) }
  faults := { d.faults with
    crossing := d.faults.crossing ++ [{ src := 0x8B, inst := hpOf f, part := f, cause := 0, injected := false }] } }

theorem failRead_ones {d : Dev} (ha : d.fcfg.nat 0x2801 3 ≠ 1) (len : Nat) :
    failRead len d = completeRead 0 false (List.replicate len (BitVec.ofNat 8 255)) d := if_neg ha

/-- A refused read completes so where the configuration asks for no abort. -/
theorem windowRead_refused {f offset len : Nat} {d : Dev} (hd : d.door f 2 = .serve) (hu : unitAdmits d (hpOf f) f = true)
    (hr : windowRefused d f (windowAddr (d.fn f).window offset) len = true) (ha : d.fcfg.nat 0x2801 3 ≠ 1)
    (hi : d.faults.inj.state ≠ 1) :
    windowRead f offset len .none d = readRefused f (windowAddr (d.fn f).window offset) len d := by
  have hfail : windowRead f offset len .none d = failRead len (refuseWindow f (windowAddr (d.fn f).window offset) d) := by
    simp only [windowRead, hd, hu, hr, Bool.true_eq_false, if_false, if_true]
  have hraise := Dev.raise_of_not_armed 0x8B (hpOf f) f 0 (d := d.upFn f (Fn.refuse (windowAddr (d.fn f).window offset))) hi
  rw [hfail]
  refine (congrArg (failRead len) hraise).trans (failRead_ones ?_ len)
  exact ha

/-! Writes. -/

/-- A window write that is not refused empties the lines that it overlaps and is issued (R324, R328). -/
theorem windowWrite_issued {f offset : Nat} {data : Bytes} {d : Dev} (hd : d.door f 2 = .serve)
    (hu : unitAdmits d (hpOf f) f = true) (hr : windowRefused d f (windowAddr (d.fn f).window offset) data.length = false) :
    windowWrite f offset data false d = unitPostedWrite (hpOf f) f (d.fcfg.nat 0x2801 1) (windowAddr (d.fn f).window offset) data
      (dropWinLines f (windowAddr (d.fn f).window offset) data.length d) := by
  simp [windowWrite, hd, hu, hr]

/-- Its one block enters the write-combining buffer where that is empty (R176). -/
theorem windowWrite_combined {f offset a dest : Nat} {data : Bytes} {d : Dev} (hd : d.door f 2 = .serve)
    (hu : unitAdmits d (hpOf f) f = true) (ha : windowAddr (d.fn f).window offset = a)
    (hr : windowRefused d f a data.length = false) (ho : OpensEntry (hpOf f) f (d.fcfg.nat 0x2801 1) a data dest d) :
    windowWrite f offset data false d = (dropWinLines f a data.length d).upNi (hpOf f)
      (Ni.openEntry (postedBlock (hpOf f) f (d.fcfg.nat 0x2801 1) a data dest)) := by
  subst ha
  rw [windowWrite_issued hd hu hr]
  exact unitPostedWrite_opens (hpOf_ne_ttu f) (hpOf_writes f) hu (ho.withHost _)

/-- Settles O23, command by command from the equations above. -/
theorem windowAccesses : Obligations.WindowAccesses := by
  refine ⟨fun f offset len s hw hs hd hu hr hp hx hat hans hfl hb => ?asked,
    fun f offset len l s hw hs hd hu hr hp hx he hl hb hans hfl => ?hit, fun f offset len s hw hs hd hu hr ha hi => ?refused,
    fun f offset a dest p data s hw hs hd hu ha hr hpkt hfits hblock hbelow hon hat hwcb hdec hdest => ?write,
    fun f addr s hw hs => ?expiry⟩
  case asked =>
    obtain ⟨nis, hserve, hnis, hothers⟩ := windowServe_presents hp hx hat hans hfl hb
    let g := Fn.noteEnd (windowAddr (s.dev.fn f).window offset + len)
    exact completes_of_effect rfl hw hs ((windowRead_served hd hu hr).trans hserve)
      ⟨hnis, rfl, Dev.fn_of_modify_same (g := g) rfl, fun i hi => Dev.fn_of_modify_ne g hi rfl, hothers, rfl⟩
  case hit =>
    obtain ⟨fns, hserve, hsame, hother⟩ := windowServe_line hp hx he hl hb hans hfl
    refine completes_of_effect rfl hw hs ((windowRead_served hd hu hr).trans hserve) ⟨rfl, hsame, hother, fun i => ?_, rfl⟩
    by_cases hi : i = hpOf f
    · rw [hi]
      exact Dev.upNi_ni_same (hpOf f) id _
    · exact Dev.upNi_ni_ne hi id _
  case refused =>
    let g := Fn.refuse (windowAddr (s.dev.fn f).window offset)
    exact completes_of_effect rfl hw hs (windowRead_refused hd hu hr ha hi)
      ⟨rfl, Dev.fn_of_modify_same (g := g) rfl, fun i hi => Dev.fn_of_modify_ne g hi rfl, rfl, rfl⟩
  case write =>
    subst hpkt
    have he := windowWrite_combined hd hu ha hr ⟨hfits, hblock, hbelow, hon, hat, hwcb, hdec, hdest⟩
    have hni := Dev.upNi_ni_same (hpOf f) (Ni.openEntry (postedBlock (hpOf f) f (s.dev.fcfg.nat 0x2801 1) a data dest))
      (dropWinLines f a data.length s.dev)
    have hfn := Dev.fn_of_modify_same (d := s.dev) (t := dropWinLines f a data.length s.dev) (g := Fn.dropLines a data.length) rfl
    refine completes_of_effect rfl hw hs he ⟨congrArg Ni.wcb hni, ?_, congrArg Fn.lines hfn, ?_,
      fun i hi => Dev.fn_of_modify_ne (Fn.dropLines a data.length) hi rfl, fun i hi => Dev.upNi_ni_ne hi _ _, rfl⟩
    · rw [hni]
      rfl
    · exact hfn.trans (congrArg (fun l => { s.dev.fn f with lines := l }) (congrArg Fn.lines hfn).symm)
  case expiry =>
    exact completes_of_effect rfl hw hs rfl ⟨Dev.upFn_fn_same .., fun g hg => Dev.upFn_fn_ne hg _ s.dev, rfl⟩

end Sys2Proof.Machine
end

section
/-! SUPPORT. Admissions, placement writes and flush reads at HP0 (R332, R333, R335, R336): one equation per case that acts, and from
these the obligation about placement. -/
namespace Sys2Proof

/-! Bytes and tables. -/

theorem leBytes_length (n : Nat) : ∀ v, (leBytes n v).length = n := by
  induction n with
  | zero => exact fun _ => rfl
  | succ n ih => exact fun v => congrArg (· + 1) (ih (v / 256))

theorem byte_toNat {v : Nat} (h : v < 256) : (byte v).toNat = v := by
  simp only [byte, BitVec.toNat_ofNat]
  exact Nat.mod_eq_of_lt h

theorem Tbl.set_ne_nil {α : Type} (t : Tbl α) (k : Nat) (v : α) : t.set k v ≠ [] := by
  cases t with
  | nil => exact List.cons_ne_nil _ _
  | cons e t =>
    rw [Tbl.set]
    split
    · exact List.cons_ne_nil _ _
    · split <;> exact List.cons_ne_nil _ _

namespace Machine

/-! Admissions. -/

/-- PF0's BAR0 takes a sound write of the admission port outside safe harbour (R89). -/
theorem portDoor_open {rid offset : Nat} {data : Bytes} {d : Dev} (hd : d.door 0 0 = .serve) (hs : d.boot.safeHarbour = false) :
    portDoor rid offset data false d = portWrite rid offset data d := by
  simp [portDoor, hd, hs]

/-- The pair of requester and region of a write that HP0 may grant is added where it is new and the store has room (R332). -/
theorem portWrite_grants {rid : Nat} {data : Bytes} {d : Dev} (hl : data.length = 8) (hz : bitsOf data.toNat 62 44 = 0)
    (hop : bitOf data.toNat 63 = true) (hmay : mayAdmit d rid (bitsOf data.toNat 43 32) (bitsOf data.toNat 31 0) = true)
    (hnew : d.host.admissions.contains (rid, bitsOf data.toNat 43 32) = false) (hroom : d.host.admissions.length < 256) :
    portWrite rid 0 data d = noteAdmission rid (bitsOf data.toNat 43 32) false
      { d with host := { d.host with admissions := d.host.admissions ++ [(rid, bitsOf data.toNat 43 32)] } } := by
  simp only [portWrite, hl, hz, hop, hmay, hnew, if_neg (Nat.not_le.mpr hroom), and_self, if_true, ne_eq, not_true_eq_false,
    Bool.true_eq_false, Bool.false_eq_true, if_false]

/-- A revoke removes the pair (R332). -/
theorem portWrite_revokes {rid : Nat} {data : Bytes} {d : Dev} (hl : data.length = 8) (hz : bitsOf data.toNat 62 44 = 0)
    (hop : bitOf data.toNat 63 = false) :
    portWrite rid 0 data d = noteAdmission rid (bitsOf data.toNat 43 32) false
      { d with host := { d.host with
          admissions := d.host.admissions.filter fun e => e != (rid, bitsOf data.toNat 43 32) } } := by
  simp only [portWrite, hl, hz, hop, and_self, if_true, ne_eq, not_true_eq_false, if_false]

/-- The status of a requester whose most recent admission write was for region `n` and not refused (R333). -/
theorem admissionStatus_noted (rid n : Nat) (d : Dev) : admissionStatus (noteAdmission rid n false d) rid =
    n * 2 ^ 32 + b2n (d.host.admissions.contains (rid, n)) * 2 ^ 63 := by
  simp [admissionStatus, noteAdmission, Tbl.find?_set_same, b2n]

/-- A read of the whole port returns the status word (R333). -/
theorem admissionStatusRead_word {rid : Nat} {d : Dev} (hd : d.door 0 0 = .serve) (hs : d.boot.safeHarbour = false) :
    admissionStatusRead rid 0 8 d = completeRead 0 false (leBytes 8 (admissionStatus d rid)) d := by
  have hwhole : (leBytes 8 (admissionStatus d rid)).slice 0 8 = leBytes 8 (admissionStatus d rid) :=
    List.take_of_length_le (Nat.le_of_eq (leBytes_length 8 _))
  have haligned : regAligned 0 8 = true := rfl
  simp only [admissionStatusRead, hd, hs, haligned, hwhole, and_self, if_true]

/-! Placement writes. -/

/-- The checks of R335 that a placement write of requester `rid`, `len` bytes at `offset`, passes. -/
structure Placeable (rid offset n o a len : Nat) (d : Dev) : Prop where
  slotted : 1 ≤ d.slotSize
  region : offset / d.slotSize = n
  place : offset % d.slotSize = o
  address : d.region n 3 + o = a
  listed : n < 4096
  inSlot : o + len ≤ d.slotSize
  inRegion : o + len ≤ d.region n 4
  enabled : bitOf (d.region n 5) 0 = true
  taken : ownerTakes d (d.region n 1) = true
  admitted : d.host.admissions.contains (rid, n) = true
  ranged : inRanges d.fcfg (d.region n 1) a len = true

theorem Placeable.no_fault {rid offset n o a len : Nat} {d : Dev} (h : Placeable rid offset n o a len d) :
    placementFault d rid offset len false = none := by
  obtain ⟨hslot, hn, ho, ha, -, hin, hlen, hon, htake, hadm, hrange⟩ := h
  simp only [placementFault, Nat.max_eq_right hslot, hn, ho, ha, Nat.not_lt.mpr hin, Nat.not_lt.mpr hlen, hon, htake, hadm, hrange,
    Bool.true_eq_false, Bool.false_eq_true, if_false]

/-- The host side that has counted a placement write to NI `dest` and noted its destination and class (R336, R343). -/
def HostPort.place (dest cls : Nat) (h : HostPort) : HostPort :=
  { h with placed := inc32 h.placed, placedTo := h.placedTo.set (fenceKey 0 dest cls) true }

theorem notePlaced_block {cls a n dest : Nat} {d : Dev} (hb : splitBlocks 17 a n = [(a, n)]) (ht : d.decodeAddr 40 a = some dest)
    (hd : dest ≠ 40) : notePlaced cls a n { d with host := { d.host with placed := inc32 d.host.placed } } =
      d.withHost (d.host.place dest cls) := by
  have ht' : Dev.decodeAddr { d with host := { d.host with placed := inc32 d.host.placed } } 40 a = some dest := ht
  simp only [notePlaced, hb, Dev.fold, List.foldl_cons, List.foldl_nil, ht', if_neg hd]
  rfl

/-- A placement write that passes every check enters the write-combining buffer where that is empty (R176, R335). -/
theorem placementWrite_combined {rid offset n o a dest : Nat} {data : Bytes} {d : Dev} (hd : d.door 0 4 = .serve)
    (hp : Placeable rid offset n o a data.length d) (hu : unitAdmits d 40 (d.region n 1) = true)
    (ho : OpensEntry 40 (d.region n 1) (d.fcfg.nat 0x2801 2) a data dest d) :
    placementWrite rid offset data false d = (d.withHost (d.host.place dest (d.fcfg.nat 0x2801 2))).upNi 40
      (Ni.openEntry (postedBlock 40 (d.region n 1) (d.fcfg.nat 0x2801 2) a data dest)) := by
  have hissued : placementWrite rid offset data false d = unitPostedWrite 40 (d.region n 1) (d.fcfg.nat 0x2801 2) a data
      (notePlaced (d.fcfg.nat 0x2801 2) a data.length { d with host := { d.host with placed := inc32 d.host.placed } }) := by
    have hlisted : ¬ 4096 ≤ n := Nat.not_le.mpr hp.listed
    simp only [placementWrite, hp.no_fault, Nat.max_eq_right hp.slotted, hp.region, hp.place, hp.address, hd, hlisted, ne_eq,
      not_true_eq_false, or_self, if_false]
  rw [hissued, notePlaced_block ho.block ho.target ho.other]
  exact unitPostedWrite_opens (by decide) (by decide) hu (ho.withHost _)

/-! Flush reads. -/

/-- The marks asked for are those of the keys noted, less their partition. -/
theorem markKeys_flatten (t : Tbl Bool) : markKeys (t.map fun e => [byte (e.1 % 1024 / 4), byte (e.1 % 4)]).flatten =
    (t.map (·.1)).map (· % 1024) := by
  induction t with
  | nil => rfl
  | cons e t ih =>
    have hdest : (byte (e.1 % 1024 / 4)).toNat = e.1 % 1024 / 4 := byte_toNat (by omega)
    have hcls : (byte (e.1 % 4)).toNat = e.1 % 4 := byte_toNat (by omega)
    simp only [List.map_cons, List.flatten_cons, List.cons_append, List.nil_append, markKeys, hdest, hcls, ih]
    congr 1
    omega

/-- Marks go by destination and class alone. -/
theorem marksFor_mod (n part id : Nat) (keys : List Nat) : marksFor n part id (keys.map (· % 1024)) = marksFor n part id keys := by
  simp only [marksFor, List.foldl_map, Nat.mod_mod]

/-- A mark at least goes out where a destination has been noted. -/
theorem marksFor_ne_nil (n part id : Nat) {keys : List Nat} (h : keys ≠ []) : marksFor n part id keys ≠ [] := by
  have hset : ∀ (l : List Nat) (t : Tbl Bool), t ≠ [] → l.foldl (fun t k => Tbl.set t (k % 1024) true) t ≠ [] := fun l => by
    induction l with
    | nil => exact fun _ ht => ht
    | cons k l ih => exact fun t _ => ih _ (Tbl.set_ne_nil t (k % 1024) true)
  cases keys with
  | nil => exact absurd rfl h
  | cons k l => exact mt List.map_eq_nil_iff.1 (hset l _ (Tbl.set_ne_nil [] (k % 1024) true))

/-- An NI that has sent the marks of `keys`, which a unit has asked for under a key of its own, and keeps them (R189). -/
def Ni.sendMarks (n key : Nat) (keys : List Nat) (x : Ni) : Ni := { x with
  out := x.out ++ marksFor n 0 x.fenceId keys
  fenced := x.fenced ++ [{
    id := x.fenceId, pkt := { src := n, dest := n, ty := 3, cls := 0, part := 0, code := key }
    marks := (marksFor n 0 x.fenceId keys).length }]
  fenceId := x.fenceId + 1 }

theorem Ni.sendMarks_mod (n key : Nat) (keys : List Nat) : Ni.sendMarks n key (keys.map (· % 1024)) = Ni.sendMarks n key keys := by
  funext x
  simp only [Ni.sendMarks, marksFor_mod]

theorem takeMarks_empty {n : Nat} {p : Packet} {d : Dev} (hw : (d.ni n).wcb = []) (hp : p.part = 0) (ha : p.addr = 0) :
    takeMarks n p d = d.upNi n (Ni.sendMarks n p.code (markKeys p.data)) := by
  have hmarks (id : Nat) (keys : List Nat) :
      ((marksFor n 0 id keys).map fun o => { o with pkt := { o.pkt with addr := 0 } }) = marksFor n 0 id keys := by
    simp only [marksFor, List.map_map]
    rfl
  simp only [takeMarks, closeWcb, Dev.upNi_upNi, hp, ha, hmarks]
  apply Dev.upNi_congr
  simp [Ni.sendMarks, hw]

/-- The host side that waits for the marks of a flush read of `len` bytes (R336). -/
def HostPort.awaitFlush (len : Nat) (h : HostPort) : HostPort :=
  { h with nextKey := h.nextKey + 1, placedTo := [], flushReads := h.flushReads ++ [(h.nextKey, len)] }

/-- An HP0 at which nothing waits sends the marks of a flush read at once (R336). -/
theorem startFlushRead_sends {len : Nat} {d : Dev} (ha : (d.ni 40).atUnit = []) (hw : (d.ni 40).wcb = []) :
    startFlushRead len d = (d.withHost (d.host.awaitFlush len)).upNi 40
      (Ni.sendMarks 40 d.host.nextKey (d.host.placedTo.map (·.1))) := by
  let p : Packet := { dest := 40, src := 40, ty := 3, cls := 0, part := 0, addr := 0, code := d.host.nextKey
                      data := (d.host.placedTo.map fun e => [byte (e.1 % 1024 / 4), byte (e.1 % 4)]).flatten }
  let e := d.withHost (d.host.awaitFlush len)
  have hsent := takeMarks_empty (n := 40) (p := p) (d := e.upNi 40 (Ni.setAtUnit [{ pkt := p, kind := .marks }]))
    ((congrArg Ni.wcb (Dev.upNi_ni_same ..)).trans hw) rfl rfl
  have hkeys : markKeys p.data = (d.host.placedTo.map (·.1)).map (· % 1024) := markKeys_flatten _
  have hpresent := present_single (o := { pkt := p, kind := .marks }) (d := e) ha (congrArg some hsent)
  rw [hkeys, Ni.sendMarks_mod, Dev.upNi_upNi, Dev.upNi_upNi] at hpresent
  have hat : (e.ni 40).atUnit = [] := ha
  refine hpresent.trans (Dev.upNi_congr ?_)
  simp only [Ni.sendMarks, Ni.setAtUnit, ← hat]
  rfl

/-- Nothing is completed while a mark of the oldest flush read is not answered (R336). -/
theorem finishFlushes_waits {e : Nat × Nat} {l : List (Nat × Nat)} {d : Dev} (h : marksDone d 40 e.1 = none) :
    finishFlushes (e :: l) d = d := by
  simp only [finishFlushes, h]

theorem placementFlushRead_sends {rid offset len : Nat} {d : Dev} (hd : d.door 0 4 = .serve) (hr : offset < d.slotSize * 4096)
    (hp : d.host.placedTo ≠ []) (hfl : d.host.flushReads = []) (ha : (d.ni 40).atUnit = []) (hw : (d.ni 40).wcb = [])
    (hans : (d.ni 40).answers = []) (hfe : (d.ni 40).fenced = []) :
    placementFlushRead rid offset len d = (d.withHost (d.host.awaitFlush len)).upNi 40
      (Ni.sendMarks 40 d.host.nextKey (d.host.placedTo.map (·.1))) := by
  let keys := d.host.placedTo.map (·.1)
  let e := (d.withHost (d.host.awaitFlush len)).upNi 40 (Ni.sendMarks 40 d.host.nextKey keys)
  have hni : e.ni 40 = (d.ni 40).sendMarks 40 d.host.nextKey keys := Dev.upNi_ni_same ..
  have hanswers : (e.ni 40).answers = [] := (congrArg Ni.answers hni).trans hans
  have htaken : (e.upNi 40 fun x => { x with answers := [] }) = e := by
    rw [Dev.upNi_upNi]
    refine Dev.upNi_congr (d := d.withHost _) ?_
    have hans' : ((d.withHost (d.host.awaitFlush len)).ni 40).answers = [] := hans
    simp only [Ni.sendMarks, ← hans']
  have hflushes : e.host.flushReads = [(d.host.nextKey, len)] := congrArg (· ++ [(d.host.nextKey, len)]) hfl
  have hwaits : marksDone e 40 d.host.nextKey = none := by
    have hmarks : (marksFor 40 0 (d.ni 40).fenceId keys).length ≠ 0 :=
      mt List.length_eq_zero_iff.1 (marksFor_ne_nil 40 0 _ (mt List.map_eq_nil_iff.1 hp))
    have hnone : ((marksFor 40 0 (d.ni 40).fenceId keys).length == 0) = false := beq_false_of_ne hmarks
    simp [marksDone, hni, Ni.sendMarks, hfe, hnone]
  have hstart : placementFlushRead rid offset len d = hostTake 40 e := by
    simp only [placementFlushRead, hd, if_neg (Nat.not_le.mpr hr), startFlushRead_sends ha hw]
    rfl
  rw [hstart, hostTake_unanswered rfl hanswers, htaken, hflushes]
  exact finishFlushes_waits hwaits

/-- Settles O24, command by command from the equations above. -/
theorem placement : Obligations.Placement := by
  refine ⟨fun rid data s hw hs hd hsafe hl hz hop hmay hnew hroom => ?admission, fun rid data s hw hs hd hsafe hl hz hop => ?revoke,
    fun rid s hw hs hd hsafe => ?status,
    fun rid offset n o dest a p data s hw hs hd h1 hplace hn hlen hon htake hadm hrange hu hpkt hfits hblock hbelow hcomb hat hwcb
      hdec hdest => ?write,
    fun rid offset len s hw hs hd hr hp hfl hat hwcb hans hfe => ?flush⟩
  case admission =>
    refine completes_of_effect rfl hw hs ((portDoor_open hd hsafe).trans (portWrite_grants hl hz hop hmay hnew hroom)) ⟨rfl, ?_⟩
    rw [admissionStatus_noted]
    simp [b2n]
  case revoke =>
    refine completes_of_effect rfl hw hs ((portDoor_open hd hsafe).trans (portWrite_revokes hl hz hop)) ⟨rfl, ?_⟩
    simp [noteAdmission]
  case status => exact completes_of_effect rfl hw hs (admissionStatusRead_word hd hsafe) rfl
  case write =>
    subst hpkt
    obtain ⟨hregion, ho, ha⟩ := hplace
    have he := placementWrite_combined hd ⟨h1, hregion, ho, ha, hn, hlen.1, hlen.2, hon, htake, hadm, hrange⟩ hu
      ⟨hfits, hblock, hbelow, hcomb, hat, hwcb, hdec, hdest⟩
    have hni := Dev.upNi_ni_same 40 (Ni.openEntry (postedBlock 40 (s.dev.region n 1) (s.dev.fcfg.nat 0x2801 2) a data dest))
      (s.dev.withHost (s.dev.host.place dest (s.dev.fcfg.nat 0x2801 2)))
    refine completes_of_effect rfl hw hs he ⟨congrArg Ni.wcb hni, rfl, ?_, fun i hi => Dev.upNi_ni_ne hi _ _, rfl⟩
    rw [hni]
    rfl
  case flush =>
    have hni := Dev.upNi_ni_same 40 (Ni.sendMarks 40 s.dev.host.nextKey (s.dev.host.placedTo.map (·.1)))
      (s.dev.withHost (s.dev.host.awaitFlush len))
    refine completes_of_effect rfl hw hs (placementFlushRead_sends hd hr hp hfl hat hwcb hans hfe)
      ⟨congrArg Ni.out hni, ?_, congrArg (· ++ [(s.dev.host.nextKey, len)]) hfl, rfl, fun i hi => Dev.upNi_ni_ne hi _ _, rfl⟩
    rw [hni]
    exact congrArg (fun l => (l ++ [_]).map FencedMsg.marks) hfe

end Machine
end Sys2Proof
end

section
/-! SUPPORT. The endpoint and the OP units as the device leaves a reset (R346, R433): what every reset of the device empties, and from
this the obligation about them. -/
namespace Sys2Proof.Machine

/-- The parts of the device that hold what the endpoint and the OP units have are at their reset values. -/
structure UnitsCleared (d : Dev) : Prop where
  admissions : d.host.admissions = []
  fns : d.host.fn = []
  ops : d.ops = []
  pds : d.pds = []

/-- A function at its reset values is cold, its window is off and its vectors are masked. -/
theorem UnitsCleared.coldHost {d : Dev} (h : UnitsCleared d) : ColdHost d := by
  refine ⟨h.admissions, fun f => ?_⟩
  have hfn : d.fn f = {} := by rw [Dev.fn, h.fns, Tbl.get]
  rw [hfn]
  refine ⟨rfl, rfl, rfl, fun v => ?_⟩
  rw [Tbl.get]
  decide

theorem opNi_pd {n : Nat} (hn : n < 8) : unitPd (opNi n) = some 2 := by
  have hall : ∀ i < 8, unitPd (opNi i) = some 2 := by decide
  exact hall n hn

/-- A unit is off in every state in which PD_OPS is not RUNNING. -/
theorem opState_off {d : Dev} {n : Nat} (hn : n < 8) (hp : (d.pd 2).state ≠ 3) : opState d n = 0 := by
  have hstate : ((d.pds.get {} 2).state == 3) = false := beq_false_of_ne hp
  have hdown : d.unitUp (opNi n) = false := by simp only [Dev.unitUp, opNi_pd hn, hstate, Bool.false_and]
  rw [opState, if_pos hdown]

/-- An OP unit at its reset values holds no descriptor, has passed nothing and is off. -/
theorem UnitsCleared.coldOps {d : Dev} (h : UnitsCleared d) : ColdOps d := by
  intro n hn
  have hop : d.op n = {} := by rw [Dev.op, h.ops, Tbl.get]
  have hpd : d.pd 2 = {} := by rw [Dev.pd, h.pds, Tbl.get]
  rw [hop]
  refine ⟨rfl, fun _ => rfl, opState_off hn ?_⟩
  rw [hpd]
  decide

/-- The end of a command leaves these parts as its effect has them. -/
theorem UnitsCleared.settle {d : Dev} (h : UnitsCleared d) (old : Dev) : UnitsCleared (settle old d) :=
  ⟨h.admissions, h.fns, h.ops, h.pds⟩

/-! The resets of the device (R260). -/

theorem powerOn_clears (d : Dev) : UnitsCleared (powerOn d) := ⟨rfl, rfl, rfl, rfl⟩

theorem perstRow_clears (cut : SpiCut) (d : Dev) : UnitsCleared (perstRow cut d) := ⟨rfl, rfl, rfl, rfl⟩

theorem chipResetRow_clears (src : Nat) (cut : SpiCut) (d : Dev) : UnitsCleared (chipResetRow src cut d) := ⟨rfl, rfl, rfl, rfl⟩

theorem reset_cleared : UnitsCleared State.reset.dev := ⟨rfl, rfl, rfl, rfl⟩

/-! Commands that act in reset. -/

/-- A command of the supplies, the pins or the reset sequence completes with its effect, settled. -/
theorem completes_always {c : Instr} {f : Dev → Dev} {s : State} {P : Dev → Prop} (he : exec c s = actAlways c.wellFormed f s)
    (hw : c.wellFormed = true) (hp : P (settle s.dev (f s.dev))) : Completes c s P :=
  ⟨_, he.trans (actAlways_ready f s hw), hp⟩

/-- RESET_RELEASE of a device that is held in reset releases it and keeps its units cleared (R536). -/
theorem completes_resetRelease {testMode : Bool} {bootSel : Nat} {s : State} (hw : (Instr.resetRelease testMode bootSel).wellFormed = true)
    (hr : s.dev.power.released = false) (hc : UnitsCleared s.dev) :
    Completes (.resetRelease testMode bootSel) s fun t => t.power.released = true ∧ ColdHost t ∧ ColdOps t := by
  have hrelease : resetRelease testMode bootSel s.dev = s.dev.onPower fun p =>
      { p with railsBad := 0, perstLow := false, released := true, testMode := testMode, bootSel := bootSel } :=
    if_neg (by simp [hr])
  have hcleared : UnitsCleared (resetRelease testMode bootSel s.dev) := by
    rw [hrelease]
    exact ⟨hc.admissions, hc.fns, hc.ops, hc.pds⟩
  refine completes_always rfl hw ⟨?_, (hcleared.settle s.dev).coldHost, (hcleared.settle s.dev).coldOps⟩
  rw [settle_power, hrelease]
  rfl

/-- Settles O6, reset by reset from what each of them clears. -/
theorem leavesReset : Obligations.LeavesReset := by
  refine ⟨fun testMode bootSel s _ hw => ⟨?powerOn, fun cut hcut => ?perst⟩, fun src cut s hw hs => ?chip, fun d n => opState_off,
    reset_cleared.coldHost, reset_cleared.coldOps⟩
  case powerOn => exact completes_always rfl rfl (completes_resetRelease hw rfl ((powerOn_clears s.dev).settle s.dev))
  case perst => exact completes_always rfl hcut (completes_resetRelease hw rfl ((perstRow_clears cut s.dev).settle s.dev))
  case chip =>
    have hcleared := (chipResetRow_clears src cut s.dev).settle s.dev
    exact ⟨_, act_ready (chipResetRow src cut) hw hs.1, hcleared.coldHost, hcleared.coldOps⟩

end Sys2Proof.Machine
end

section
/-! SUPPORT. Updates of one link and of some of its lanes (R355, R358): what each reads as afterwards, and what the operations on a link leave
alone. -/
namespace Sys2Proof.Machine

/-! Links and lanes read after an update. -/

@[simp] theorem Dev.upLink_link_same (k : Nat) (f : Link → Link) (d : Dev) : (d.upLink k f).link k = f (d.link k) :=
  Tbl.get_modify_same ..

theorem Dev.upLink_link_ne {k j : Nat} (hj : j ≠ k) (f : Link → Link) (d : Dev) : (d.upLink k f).link j = d.link j :=
  Tbl.get_modify_ne _ _ hj f

@[simp] theorem Dev.upLane_lane_same (l : Nat) (f : Lane → Lane) (d : Dev) : (d.upLane l f).lane l = f (d.lane l) :=
  Tbl.get_modify_same ..

theorem Dev.upLane_lane_ne {l j : Nat} (hj : j ≠ l) (f : Lane → Lane) (d : Dev) : (d.upLane l f).lane j = d.lane j :=
  Tbl.get_modify_ne _ _ hj f

/-- The device with the lane of each entry of a list updated by it, one after the other. -/
def Dev.upLanes {α : Type} (lane : α → Nat) (f : α → Lane → Lane) (as : List α) (d : Dev) : Dev :=
  Dev.fold as (fun a e => e.upLane (lane a) (f a)) d

theorem Dev.upLanes_eq {α : Type} (lane : α → Nat) (f : α → Lane → Lane) : ∀ (as : List α) (d : Dev),
    d.upLanes lane f as = { d with conv := { d.conv with lane := (d.upLanes lane f as).conv.lane } }
  | [], _ => rfl
  | a :: as, d => Dev.upLanes_eq lane f as (d.upLane (lane a) (f a))

@[simp] theorem Dev.upLanes_link {α : Type} (lane : α → Nat) (f : α → Lane → Lane) (as : List α) (d : Dev) (k : Nat) :
    (d.upLanes lane f as).link k = d.link k := by
  rw [Dev.upLanes_eq]
  rfl

theorem Dev.upLanes_lane_other {α : Type} {lane : α → Nat} (f : α → Lane → Lane) {l : Nat} : ∀ {as : List α},
    (∀ a ∈ as, l ≠ lane a) → ∀ d : Dev, (d.upLanes lane f as).lane l = d.lane l
  | [], _, _ => rfl
  | a :: as, h, d => by
    have hrest := Dev.upLanes_lane_other f (fun b hb => h b (List.mem_cons_of_mem a hb)) (d.upLane (lane a) (f a))
    exact hrest.trans (Dev.upLane_lane_ne (h a List.mem_cons_self) (f a) d)

/-- A lane that the list names once takes its own update. -/
theorem Dev.upLanes_lane_mem {α : Type} {lane : α → Nat} (f : α → Lane → Lane) {a : α} : ∀ {as : List α},
    (as.map lane).Nodup → a ∈ as → ∀ d : Dev, (d.upLanes lane f as).lane (lane a) = f a (d.lane (lane a))
  | b :: as, hn, ha, d => by
    obtain ⟨hb, hn⟩ := List.nodup_cons.1 (List.map_cons .. ▸ hn)
    have hne : ∀ c ∈ as, lane c ≠ lane b := fun c hc he => hb (he ▸ List.mem_map_of_mem hc)
    rcases List.mem_cons.1 ha with rfl | ha
    · exact (Dev.upLanes_lane_other f (fun c hc => (hne c hc).symm) (d.upLane (lane a) (f a))).trans (Dev.upLane_lane_same ..)
    · exact (Dev.upLanes_lane_mem f hn ha (d.upLane (lane b) (f b))).trans (Dev.upLane_lane_ne (hne a ha) (f b) (d := d) ▸ rfl)

/-! What an operation on link `k` leaves alone. -/

/-- `t` differs from `d` at most in link `k` and in its lanes. -/
structure LinkChanged (k : Nat) (d t : Dev) : Prop where
  others : ∀ j, j ≠ k → t.link j = d.link j
  lanes : ∀ l, l < k ∨ k + lanesOf (d.dcfg k) k ≤ l → t.lane l = d.lane l
  rest : t = { d with conv := { d.conv with link := t.conv.link, lane := t.conv.lane } }

theorem LinkChanged.refl (k : Nat) (d : Dev) : LinkChanged k d d := ⟨fun _ _ => rfl, fun _ _ => rfl, rfl⟩

/-- The configuration that the CPs go by is no part of a link. -/
theorem LinkChanged.dcfg {k : Nat} {d t : Dev} (h : LinkChanged k d t) (j : Nat) : t.dcfg j = d.dcfg j := by
  rw [h.rest]
  rfl

theorem LinkChanged.trans {k : Nat} {d t u : Dev} (h : LinkChanged k d t) (g : LinkChanged k t u) : LinkChanged k d u := by
  refine ⟨fun j hj => (g.others j hj).trans (h.others j hj), fun l hl => (g.lanes l ?_).trans (h.lanes l hl), ?_⟩
  · rwa [h.dcfg]
  · rw [g.rest, h.rest]

theorem LinkChanged.ite {k : Nat} {c : Prop} [Decidable c] {d t u : Dev} (h : LinkChanged k d t) (g : LinkChanged k d u) :
    LinkChanged k d (if c then t else u) := by
  split
  · exact h
  · exact g

theorem LinkChanged.upLink (k : Nat) (f : Link → Link) (d : Dev) : LinkChanged k d (d.upLink k f) :=
  ⟨fun _ hj => Dev.upLink_link_ne hj f d, fun _ _ => rfl, rfl⟩

theorem LinkChanged.upLanes {α : Type} {k : Nat} {lane : α → Nat} (f : α → Lane → Lane) {as : List α} {d : Dev}
    (h : ∀ a ∈ as, k ≤ lane a ∧ lane a < k + lanesOf (d.dcfg k) k) : LinkChanged k d (d.upLanes lane f as) := by
  refine ⟨fun j _ => Dev.upLanes_link lane f as d j, fun l hl => Dev.upLanes_lane_other f (fun a ha hla => ?_) d, ?_⟩
  · have := h a ha
    omega
  · rw [Dev.upLanes_eq]

/-! The states of a link and of its lanes. -/

theorem Dev.mem_lanes {d : Dev} {k l : Nat} : l ∈ d.lanes k ↔ k ≤ l ∧ l < k + lanesOf (d.dcfg k) k := mem_span

/-- A lane of a link that enters an RX state: outside the states in which lanes are aligned it has no arrival (R358). -/
def Lane.enter (st : Nat) (x : Lane) : Lane := { x with state := st, arrival := if st < 4 ∨ st = 6 then 0xFFFF else x.arrival }

/-- A link that enters an RX state. -/
def Link.enterRx (st : Nat) (x : Link) : Link := { x with rx := st }

theorem setRx_eq (k st : Nat) (d : Dev) :
    setRx k st d = (d.upLink k (Link.enterRx st)).upLanes id (fun _ => Lane.enter st) (d.lanes k) := rfl

@[simp] theorem setRx_link (k st : Nat) (d : Dev) : (setRx k st d).link k = (d.link k).enterRx st := by
  rw [setRx_eq, Dev.upLanes_link, Dev.upLink_link_same]

theorem setRx_lane {d : Dev} {k l : Nat} (hl : k ≤ l ∧ l < k + lanesOf (d.dcfg k) k) (st : Nat) :
    (setRx k st d).lane l = (d.lane l).enter st := by
  have hn : ((d.lanes k).map id).Nodup := by
    rw [List.map_id]
    exact nodup_span ..
  exact Dev.upLanes_lane_mem (fun _ => Lane.enter st) hn (Dev.mem_lanes.2 hl) (d.upLink k (Link.enterRx st))

theorem setRx_changed (k st : Nat) (d : Dev) : LinkChanged k d (setRx k st d) :=
  (LinkChanged.upLink k _ d).trans (.upLanes _ fun _ hl => Dev.mem_lanes.1 hl)

/-- An RX state is no part of a lane but its state and arrival. -/
theorem setRx_lane_keeps {α : Type} {read : Lane → α} (h : ∀ st x, read (Lane.enter st x) = read x) (k st l : Nat) (d : Dev) :
    read ((setRx k st d).lane l) = read (d.lane l) := by
  by_cases hl : k ≤ l ∧ l < k + lanesOf (d.dcfg k) k
  · rw [setRx_lane hl, h]
  · rw [(setRx_changed k st d).lanes l (by omega)]

/-- A link that enters a TX state: only a link that runs keeps what it puts out (R355). -/
def Link.enterTx (st : Nat) (x : Link) : Link := { x with tx := st, out := if st = 5 then x.out else none }

@[simp] theorem setTx_link (k st : Nat) (d : Dev) : (setTx k st d).link k = (d.link k).enterTx st := Dev.upLink_link_same ..

theorem setTx_changed (k st : Nat) (d : Dev) : LinkChanged k d (setTx k st d) := LinkChanged.upLink k _ d

/-- A TX that waits for its PLL and finds it locked and the LEMC started runs. -/
def Link.runIfReady (x : Link) : Link :=
  if x.pll = true ∧ x.lemc = true ∧ (x.tx = 2 ∨ x.tx = 6) then x.enterTx 5 else x

/-- `txRunIfReady` is an update of the link alone. -/
theorem txRunIfReady_eq (k : Nat) (d : Dev) : txRunIfReady k d = d ∧ (d.link k).runIfReady = d.link k ∨
    txRunIfReady k d = d.upLink k (Link.enterTx 5) ∧ (d.link k).runIfReady = (d.link k).enterTx 5 := by
  unfold txRunIfReady Link.runIfReady
  by_cases h : (d.link k).pll = true ∧ (d.link k).lemc = true ∧ ((d.link k).tx = 2 ∨ (d.link k).tx = 6)
  · exact .inr ⟨if_pos h, if_pos h⟩
  · exact .inl ⟨if_neg h, if_neg h⟩

@[simp] theorem txRunIfReady_link (k : Nat) (d : Dev) : (txRunIfReady k d).link k = (d.link k).runIfReady := by
  obtain ⟨h, hx⟩ | ⟨h, hx⟩ := txRunIfReady_eq k d
  · rw [h, hx]
  · rw [h, hx, Dev.upLink_link_same]

theorem txRunIfReady_lanes (k : Nat) (d : Dev) : (txRunIfReady k d).conv.lane = d.conv.lane := by
  obtain ⟨h, -⟩ | ⟨h, -⟩ := txRunIfReady_eq k d
  · rw [h]
  · rw [h]
    rfl

theorem txRunIfReady_changed (k : Nat) (d : Dev) : LinkChanged k d (txRunIfReady k d) := by
  obtain ⟨h, -⟩ | ⟨h, -⟩ := txRunIfReady_eq k d <;> rw [h]
  · exact .refl k d
  · exact .upLink k _ d

end Sys2Proof.Machine
end

section
/-! SUPPORT. What the resets of a converter link's CPs may change, and the loss of the link's PLL, with which its DCLK stops (R230, R245, R355,
R379). -/
namespace Sys2Proof.Machine

/-! The loss of a link's PLL (R230, R355): what the resets of a link's CPs may change. -/

/-- `t` differs from `d` at most in what the converter ports, their queues, NIs, units and clocks hold, and in the fault collector. -/
def CpChanged (d t : Dev) : Prop :=
  t = { d with
    queues := t.queues, nis := t.nis, conv := t.conv, faults := t.faults, resets := t.resets, doms := t.doms }

theorem CpChanged.refl (d : Dev) : CpChanged d d := rfl

theorem CpChanged.trans {d t u : Dev} (h : CpChanged d t) (g : CpChanged t u) : CpChanged d u := by
  unfold CpChanged at *
  rw [g, h]

theorem CpChanged.ite {c : Prop} [Decidable c] {d t u : Dev} (h : CpChanged d t) (g : CpChanged d u) :
    CpChanged d (if c then t else u) := by
  split
  · exact h
  · exact g

theorem CpChanged.fold {α : Type} {f : α → Dev → Dev} {l : List α} (h : ∀ x ∈ l, ∀ d, CpChanged d (f x d)) :
    ∀ d, CpChanged d (Dev.fold l f d) := by
  induction l with
  | nil => exact CpChanged.refl
  | cons x l ih => exact fun d => (h x List.mem_cons_self d).trans (ih (fun y hy => h y (List.mem_cons_of_mem x hy)) (f x d))

theorem CpChanged.memoryKept {d t : Dev} (h : CpChanged d t) : MemoryKept d t := by
  rw [h]
  exact ⟨rfl, rfl, rfl, rfl⟩

theorem AtNi.cpChanged {n : Nat} {d t : Dev} (h : AtNi n d t) : CpChanged d t := by
  rw [h.1]
  rfl

theorem LinkChanged.cpChanged {k : Nat} {d t : Dev} (h : LinkChanged k d t) : CpChanged d t := by
  rw [h.rest]
  rfl

theorem upStream_cpChanged (q : Nat) (f : Stream → Stream) (d : Dev) : CpChanged d (d.upStream q f) := by
  unfold Dev.upStream
  split <;> rfl

theorem dropReads_cpChanged (q : Nat) (d : Dev) : CpChanged d (dropReads q d) := by
  unfold dropReads
  split
  · exact .ite (.fold (fun l _ e => (forgetKeys_at l _ e).cpChanged) d) (.refl d)
  · exact .refl d

theorem endWaiting_cpChanged (op q status : Nat) (d : Dev) : CpChanged d (endWaiting op q status d) :=
  .fold (fun k _ e => show CpChanged e (endCmd k.q k.index status 0 0 e) from rfl) d

theorem finishStops_cpChanged (q : Nat) (d : Dev) : CpChanged d (finishStops q d) := by
  unfold finishStops
  split
  · exact .ite (endWaiting_cpChanged 0xA q 0 d) (.refl d)
  · exact .refl d

theorem endRec_cpChanged (q : Nat) (r : Rec) (d : Dev) : CpChanged d (endRec q r d) := by
  unfold endRec
  split
  · exact .refl d
  · refine .trans ?_ (finishStops_cpChanged q _)
    exact .ite ((upStream_cpChanged q _ d).trans (dropReads_cpChanged q _)) (upStream_cpChanged q _ d)

theorem conflictArm_cpChanged (q : Nat) (d : Dev) : CpChanged d (conflictArm q d) := by
  unfold conflictArm
  split
  · exact .ite rfl (.refl d)
  · exact .refl d

theorem stopNow_cpChanged (q status : Nat) (d : Dev) : CpChanged d (stopNow q status d) := by
  refine (upStream_cpChanged q (fun x => { x with stoppedAt := some d.clock.wall }) d).trans ?_
  unfold stopNow
  dsimp only
  split
  · exact .refl _
  · refine .ite (.refl _) (.trans ?_ (((endWaiting_cpChanged 9 q 7 _).trans (conflictArm_cpChanged q _)).trans
      (finishStops_cpChanged q _)))
    split
    · exact (upStream_cpChanged q _ _).trans (endRec_cpChanged q _ _)
    · exact (upStream_cpChanged q _ _).trans (dropReads_cpChanged q _)

theorem stopStreams_cpChanged (sel : Queue → Stream → Bool) (status : Nat) (d : Dev) : CpChanged d (stopStreams sel status d) := by
  refine .fold (fun e _ y => ?_) d
  split
  · exact .ite (stopNow_cpChanged e.1 status y) (.refl y)
  · exact .refl y

theorem linkReset_cpChanged (k : Nat) (d : Dev) : CpChanged d (linkReset k d) := by
  let d1 := (stopStreams (fun _ s => s.src == k) 8 d).upLink k fun x => { x with history := [], out := none }
  let d2 := d1.upLink k fun x => { x with pll := false, cdr := false, lemc := false, condRaised := false }
  have hstart : LinkChanged k d1 (startLink k d1) :=
    (LinkChanged.trans (t := d2) (.upLink k _ d1) (setRx_changed k _ d2)).trans (setTx_changed k _ _)
  exact (stopStreams_cpChanged _ 8 d).trans ((LinkChanged.upLink k _ _).trans hstart).cpChanged

theorem linkHeld_cpChanged (k : Nat) (d : Dev) : CpChanged d (linkHeld k d) := by
  have hunit (l : Nat) (e : Dev) : CpChanged e (holdUnit l (niUnitReset l e)) := (niUnitReset_at l e).cpChanged.trans rfl
  exact ((CpChanged.fold (fun l _ => hunit l) d).trans (u := clockOff (9 + k) _ _) rfl).trans (linkReset_cpChanged k _)

/-- The reset of a CP is its link's, where an enabled link uses its lane (R379). -/
theorem resetUnit_cpChanged {u : Nat} (hu : u < 24) (d : Dev) : CpChanged d (resetUnit u d) := by
  have hheld : CpChanged d (holdUnit u (niUnitReset u d)) := (niUnitReset_at u d).cpChanged.trans rfl
  simp only [resetUnit, if_pos hu]
  split
  · exact hheld.trans (linkHeld_cpChanged _ _)
  · exact hheld

theorem domainUnits_dclk {k u : Nat} {d : Dev} (hk : k < 24) (hu : u ∈ domainUnits d (9 + k)) : u < 24 := by
  have h4 : ¬ 9 + k = 4 := by omega
  have h5 : ¬ (5 ≤ 9 + k ∧ 9 + k ≤ 8) := by omega
  have h9 : 9 ≤ 9 + k ∧ 9 + k ≤ 0x20 := by omega
  rw [domainUnits, if_neg h4, if_neg h5, if_pos h9, mem_span] at hu
  omega

theorem stopDomain_dclk {k : Nat} (hk : k < 24) (off : Bool) (d : Dev) :
    CpChanged d (stopDomain (9 + k) off d) ∧ (stopDomain (9 + k) off d).clockRuns (9 + k) = false := by
  have heq : stopDomain (9 + k) off d = domainOff (9 + k) off d := by
    have h1 : (9 + k == 1) = false := beq_false_of_ne (by omega)
    rw [show stopDomain (9 + k) off d = (domainOff (9 + k) off d).when (9 + k == 1) _ from rfl, h1]
    rfl
  rw [heq]
  exact ⟨(CpChanged.fold (fun u hu => resetUnit_cpChanged (domainUnits_dclk hk hu)) d).trans rfl, domainOff_stopped ..⟩

/-- A DCLK that runs stops at its loss, whatever its units do (R245). -/
theorem clockLoss_dclk {k : Nat} (hk : k < 24) {d : Dev} (hr : d.clockRuns (9 + k) = true) :
    CpChanged d (clockLoss (9 + k) d) ∧ (clockLoss (9 + k) d).clockRuns (9 + k) = false := by
  rw [clockLoss, if_neg (by simp [hr])]
  split
  · exact stopDomain_dclk hk _ d
  · obtain ⟨hchanged, hstopped⟩ := stopDomain_dclk hk (d.dom (9 + k)).powerOff (d.upDom (9 + k) Domain.lose)
    have hraise := AtNi.raise 0 0xD4 (9 + k) 0xFF 0 false none
      (stopDomain (9 + k) (d.dom (9 + k)).powerOff (d.upDom (9 + k) Domain.lose))
    refine ⟨(CpChanged.trans (t := d.upDom (9 + k) Domain.lose) rfl hchanged).trans hraise.cpChanged, ?_⟩
    exact (congrArg (fun e : Dev => e.clockRuns (9 + k)) hraise.1).trans hstopped

theorem linkPllLoss_cpChanged (l k : Nat) (d : Dev) : CpChanged d (linkPllLoss l k d) ∧ (linkPllLoss l k d).doms = d.doms := by
  let d0 := (d.upLane l fun x => { x with cause := 7 }).raise (0xA0 + l) 0xFF (laneOwner d.dcfg l) 7 false
  have hraise : AtNi 0 (d.upLane l fun x => { x with cause := 7 }) d0 := AtNi.raise 0 _ _ _ _ _ _ _
  let d1 := d0.upLink k fun y => { y with pll := false, cdr := false }
  let back (s : Nat) : Bool := decide (2 ≤ s) && s != 6
  let d2 := if back (d.link k).rx then setRx k 2 d1 else d1
  have h1 : LinkChanged k d0 d1 := .upLink k _ d0
  have h2 : LinkChanged k d1 d2 := .ite (setRx_changed k 2 d1) (.refl k d1)
  have hlink : LinkChanged k d0 (linkPllLoss l k d) := (h1.trans h2).trans (.ite (setTx_changed k 2 d2) (.refl k d2))
  refine ⟨(CpChanged.trans (t := d.upLane l _) rfl hraise.cpChanged).trans hlink.cpChanged, ?_⟩
  rw [hlink.rest, hraise.1]
  rfl

end Sys2Proof.Machine
end

section
/-! SUPPORT. How a converter link trains and falls back (R355 to R358, R376, R381): one equation per case that acts, and from these the
obligation about link training. -/
namespace Sys2Proof.Machine

/-- A command whose effect changes one link and its lanes completes with that effect. -/
theorem completes_linkChanged {c : Instr} {f : Dev → Dev} {s : State} {k : Nat} {P : Dev → Prop}
    (he : exec c s = act c.wellFormed f s) (hw : c.wellFormed = true) (hs : s.Ready) (hc : LinkChanged k s.dev (f s.dev))
    (hp : P (f s.dev)) : Completes c s P := by
  refine completes_of_effect he hw hs rfl hp ?_
  rw [hc.rest]
  exact ⟨rfl, rfl, rfl, rfl⟩

/-! PLL and CDR lock (R355). -/

/-- A link whose PLL and CDRs have locked. -/
def Link.lockPll (x : Link) : Link := { x with pll := true, cdr := true }

/-- A failed RX goes back to PLL_LOCK. -/
def Link.retryRx (x : Link) : Link := if x.rx = 6 then x.enterRx 2 else x

/-- A failed TX goes back to PLL_LOCK. -/
def Link.retryTx (x : Link) : Link := if x.tx = 6 then x.enterTx 2 else x

/-- The lock of a link of which a direction waits for it or has failed. -/
theorem linkPllLocked_starts {k : Nat} {d : Dev}
    (h : (d.link k).rx = 2 ∨ (d.link k).rx = 6 ∨ (d.link k).tx = 2 ∨ (d.link k).tx = 6) :
    LinkChanged k d (linkPllLocked k d) ∧ (linkPllLocked k d).link k = (d.link k).lockPll.retryRx.retryTx.runIfReady := by
  let d1 := d.upLink k Link.lockPll
  let d2 := if (d.link k).rx = 6 then setRx k 2 d1 else d1
  let d3 := if (d.link k).tx = 6 then setTx k 2 d2 else d2
  have heq : linkPllLocked k d = txRunIfReady k d3 := if_pos (by simpa [or_assoc] using h)
  have h1 : d1.link k = (d.link k).lockPll := Dev.upLink_link_same ..
  have h2 : d2.link k = (d.link k).lockPll.retryRx := by
    rw [apply_ite (fun e : Dev => e.link k), setRx_link, h1]
    rfl
  have htx : (d.link k).lockPll.retryRx.tx = (d.link k).tx := by
    unfold Link.retryRx
    split <;> rfl
  have h3 : d3.link k = (d.link k).lockPll.retryRx.retryTx := by
    rw [apply_ite (fun e : Dev => e.link k), setTx_link, h2, Link.retryTx, htx]
  have c1 : LinkChanged k d d1 := .upLink k _ d
  have c2 : LinkChanged k d1 d2 := .ite (setRx_changed k 2 d1) (.refl k d1)
  have c3 : LinkChanged k d2 d3 := .ite (setTx_changed k 2 d2) (.refl k d2)
  rw [heq, txRunIfReady_link, h3]
  exact ⟨((c1.trans c2).trans c3).trans (txRunIfReady_changed k d3), rfl⟩

theorem Link.retryRx_keeps (x : Link) :
    x.retryRx.pll = x.pll ∧ x.retryRx.cdr = x.cdr ∧ x.retryRx.lemc = x.lemc ∧ x.retryRx.tx = x.tx := by
  unfold Link.retryRx
  split <;> exact ⟨rfl, rfl, rfl, rfl⟩

theorem Link.retryTx_keeps (x : Link) : x.retryTx.pll = x.pll ∧ x.retryTx.cdr = x.cdr ∧ x.retryTx.rx = x.rx := by
  unfold Link.retryTx
  split <;> exact ⟨rfl, rfl, rfl⟩

theorem Link.runIfReady_keeps (x : Link) : x.runIfReady.pll = x.pll ∧ x.runIfReady.cdr = x.cdr ∧ x.runIfReady.rx = x.rx := by
  unfold Link.runIfReady
  split <;> exact ⟨rfl, rfl, rfl⟩

theorem Link.lock_pll_cdr (x : Link) :
    x.lockPll.retryRx.retryTx.runIfReady.pll = true ∧ x.lockPll.retryRx.retryTx.runIfReady.cdr = true := by
  obtain ⟨hpll3, hcdr3, -⟩ := x.lockPll.retryRx.retryTx.runIfReady_keeps
  obtain ⟨hpll2, hcdr2, -⟩ := x.lockPll.retryRx.retryTx_keeps
  obtain ⟨hpll1, hcdr1, -⟩ := x.lockPll.retryRx_keeps
  exact ⟨hpll3.trans (hpll2.trans hpll1), hcdr3.trans (hcdr2.trans hcdr1)⟩

theorem Link.lock_rx (x : Link) : x.lockPll.retryRx.retryTx.runIfReady.rx = if x.rx = 6 then 2 else x.rx := by
  obtain ⟨-, -, hrx3⟩ := x.lockPll.retryRx.retryTx.runIfReady_keeps
  obtain ⟨-, -, hrx2⟩ := x.lockPll.retryRx.retryTx_keeps
  have hrx1 : x.lockPll.retryRx.rx = if x.rx = 6 then 2 else x.rx := apply_ite Link.rx ..
  exact hrx3.trans (hrx2.trans hrx1)

theorem Link.lock_tx (x : Link) : x.lockPll.retryRx.retryTx.runIfReady.tx =
    if x.tx = 2 ∨ x.tx = 6 then (if x.lemc then 5 else 2) else x.tx := by
  obtain ⟨hpll, -, hlemc, htx⟩ : x.lockPll.retryRx.pll = true ∧ x.lockPll.retryRx.cdr = true ∧ x.lockPll.retryRx.lemc = x.lemc ∧
    x.lockPll.retryRx.tx = x.tx := x.lockPll.retryRx_keeps
  rw [← hlemc, ← htx]
  generalize x.lockPll.retryRx = y at hpll
  unfold Link.runIfReady Link.retryTx
  by_cases h6 : y.tx = 6
  · cases hl : y.lemc <;> simp [Link.enterTx, h6, hl, hpll]
  · cases hl : y.lemc <;> by_cases h2 : y.tx = 2 <;> simp [Link.enterTx, h6, hl, hpll, h2]

/-! Sync header lock and the lock timeout (R355). -/

theorem syncHeaderLock_locks {k : Nat} {d : Dev} (hrx : (d.link k).rx = 2) (hpll : (d.link k).pll = true)
    (hcdr : (d.link k).cdr = true) (hruns : linkRuns d k = true) : syncHeaderLock k d = setRx k 3 d :=
  if_pos ⟨hrx, hpll, hcdr, hruns⟩

/-- A timeout fails the directions that wait: RX for PLL or CDR, TX for the PLL. -/
theorem linkLockTimeout_fails (k : Nat) (d : Dev) : LinkChanged k d (linkLockTimeout k d) ∧
    (linkLockTimeout k d).link k = { d.link k with
      rx := if (d.link k).rx = 2 ∧ ((d.link k).pll && (d.link k).cdr) = false then 6 else (d.link k).rx
      tx := if (d.link k).tx = 2 ∧ (d.link k).pll = false then 6 else (d.link k).tx
      out := if (d.link k).tx = 2 ∧ (d.link k).pll = false then none else (d.link k).out } := by
  unfold linkLockTimeout
  dsimp only
  have hchanged (e : Dev) : LinkChanged k e (setTx k 6 e) := setTx_changed k 6 e
  split
  · split
    · exact ⟨(setRx_changed k 6 d).trans (hchanged _), by rw [setTx_link, setRx_link]; rfl⟩
    · exact ⟨hchanged d, setTx_link k 6 d⟩
  · split
    · exact ⟨setRx_changed k 6 d, setRx_link k 6 d⟩
    · exact ⟨.refl k d, rfl⟩

/-! Extended multiblock lock and the release condition (R358). -/

/-- A link that enters EMB_LOCK may raise cause 0x05 anew. -/
def Link.clearCond (x : Link) : Link := { x with condRaised := false }

/-- The device whose link `k` is in EMB_LOCK with the arrivals noted at its lanes. -/
def embLocked (k : Nat) (arrivals : List Nat) (d : Dev) : Dev :=
  (setRx k 4 (d.upLink k Link.clearCond)).upLanes (fun a => k + a.2) (fun a y => { y with arrival := a.1 }) arrivals.zipIdx

theorem embLocked_changed {k : Nat} {arrivals : List Nat} {d : Dev} (hlen : arrivals.length = lanesOf (d.dcfg k) k) :
    LinkChanged k d (embLocked k arrivals d) := by
  have hset : LinkChanged k d (setRx k 4 (d.upLink k Link.clearCond)) := (LinkChanged.upLink k _ d).trans (setRx_changed k 4 _)
  refine hset.trans (.upLanes _ fun a ha => ?_)
  rw [hset.dcfg, ← hlen]
  have := List.snd_lt_of_mem_zipIdx ha
  omega

theorem embLocked_link (k : Nat) (arrivals : List Nat) (d : Dev) :
    (embLocked k arrivals d).link k = (d.link k).clearCond.enterRx 4 := by
  rw [embLocked, Dev.upLanes_link, setRx_link, Dev.upLink_link_same]

/-- Each lane of the link holds its own arrival. -/
theorem embLocked_arrival {k l : Nat} {arrivals : List Nat} (d : Dev) (hk : k ≤ l) (hl : l - k < arrivals.length) :
    ((embLocked k arrivals d).lane l).arrival = arrivals[l - k] := by
  have hn : (arrivals.zipIdx.map fun a => k + a.2).Nodup := by
    have hmap : (arrivals.zipIdx.map fun a => k + a.2) = (arrivals.zipIdx.map Prod.snd).map (k + ·) := by
      rw [List.map_map]
      rfl
    rw [hmap, List.zipIdx_map_snd]
    exact List.pairwise_map.2 ((List.nodup_range' 1).imp fun hne heq => hne (Nat.add_left_cancel heq))
  have ha : (arrivals[l - k], l - k) ∈ arrivals.zipIdx := by
    rw [List.mem_zipIdx_iff_getElem?]
    exact List.getElem?_eq_getElem hl
  have hlane := Dev.upLanes_lane_mem (lane := fun a => k + a.2) (fun a y => { y with arrival := a.1 }) hn ha
    (setRx k 4 (d.upLink k Link.clearCond))
  rw [show k + (arrivals[l - k], l - k).2 = l by simp; omega] at hlane
  exact congrArg Lane.arrival hlane

/-- Arrivals of which each meets the release condition let the link run. -/
theorem embLocked_releaseMet {k : Nat} {arrivals : List Nat} {d : Dev} (hlen : arrivals.length = lanesOf (d.dcfg k) k)
    (hrel : ∀ a, a ∈ arrivals → a + 2 ≤ d.linkObj k 0xA) : releaseMet (embLocked k arrivals d) k = true := by
  have hdcfg := (embLocked_changed hlen).dcfg k
  refine List.all_eq_true.2 fun l hl => decide_eq_true ?_
  obtain ⟨hk, hl⟩ := Dev.mem_lanes.1 hl
  rw [hdcfg, ← hlen] at hl
  have hidx : l - k < arrivals.length := by omega
  rw [Dev.linkObj, hdcfg, embLocked_arrival d hk hidx]
  exact hrel _ (List.getElem_mem hidx)

theorem tryRelease_met {k : Nat} {d : Dev} (hrx : (d.link k).rx = 4) (hm : releaseMet d k = true) : tryRelease k d = setRx k 5 d := by
  rw [tryRelease, if_neg (not_not_intro hrx), if_pos hm]

/-- Arrivals that meet the release condition let RX run. -/
theorem extendedMultiblockLock_runs {k : Nat} {arrivals : List Nat} {d : Dev} (hrx : (d.link k).rx = 3)
    (hlemc : (d.link k).lemc = true) (hruns : linkRuns d k = true) (hlen : arrivals.length = lanesOf (d.dcfg k) k)
    (hrel : ∀ a, a ∈ arrivals → a + 2 ≤ d.linkObj k 0xA) :
    extendedMultiblockLock k arrivals d = setRx k 5 (embLocked k arrivals d) := by
  have hstate : ((embLocked k arrivals d).link k).rx = 4 := congrArg Link.rx (embLocked_link k arrivals d)
  exact (if_pos ⟨hrx, hlemc, hruns, hlen⟩).trans (tryRelease_met hstate (embLocked_releaseMet hlen hrel))

/-! Lock losses (R355, R375, R376). -/

/-- An event of a lane with no injection armed: the cause is noted and the event joins those on their way to FCOL. -/
theorem laneEvent_not_armed (l cause : Nat) {d : Dev} (h : d.faults.inj.state ≠ 1) :
    laneEvent l cause false d = { d.upLane l fun x => { x with cause := cause } with faults := { d.faults with
      crossing := d.faults.crossing ++
        [{ src := 0xA0 + l, inst := 0xFF, part := laneOwner d.dcfg l, cause := cause, injected := false }] } } :=
  Dev.raise_of_not_armed (0xA0 + l) 0xFF (laneOwner d.dcfg l) cause h

/-- A lane that has lost a lock once more. -/
def Lane.lose (x : Lane) : Lane := { x with losses := inc32 x.losses }

/-- A link whose CDRs have lost their lock. -/
def Link.loseCdr (x : Link) : Link := { x with cdr := false }

/-- A link that retrains after a lock loss goes back to the state in which the lock that it lost is found; the lane's own record
of the loss stays. -/
theorem laneLockLoss_retrains {l cause k : Nat} {d d1 : Dev} (hd1 : laneEvent l cause false (d.upLane l Lane.lose) = d1)
    (hl : linkOfLane d.dcfg l = some k) (h2 : 2 ≤ (d.link k).rx) (h6 : (d.link k).rx ≠ 6) (hruns : linkRuns d k = true)
    (hc : cause = 3 ∨ cause = 4 ∨ cause = 7) :
    LinkChanged k d1 (laneLockLoss l cause d) ∧
      ((laneLockLoss l cause d).lane l).losses = (d1.lane l).losses ∧ ((laneLockLoss l cause d).lane l).cause = (d1.lane l).cause ∧
      (laneLockLoss l cause d).link k = { d1.link k with
        rx := if cause = 4 then 3 else 2, cdr := if cause = 7 then false else (d1.link k).cdr } := by
  have hacts : ¬((d.link k).rx < 2 ∨ (d.link k).rx = 6 ∨ linkRuns d k = false) := by
    simp only [h6, hruns, Bool.true_eq_false, or_false]
    omega
  have heq : laneLockLoss l cause d =
      if cause = 4 then setRx k 3 d1 else if cause = 3 then setRx k 2 d1 else setRx k 2 (d1.upLink k Link.loseCdr) := by
    simp only [laneLockLoss, hl, if_neg hacts, ← hd1]
    rfl
  have hlosses := setRx_lane_keeps (k := k) (l := l) (read := Lane.losses) fun _ _ => rfl
  have hcause := setRx_lane_keeps (k := k) (l := l) (read := Lane.cause) fun _ _ => rfl
  rw [heq]
  rcases hc with rfl | rfl | rfl
  · exact ⟨setRx_changed k 2 d1, hlosses 2 d1, hcause 2 d1, setRx_link k 2 d1⟩
  · exact ⟨setRx_changed k 3 d1, hlosses 3 d1, hcause 3 d1, setRx_link k 3 d1⟩
  · refine ⟨(LinkChanged.upLink k _ d1).trans (setRx_changed k 2 _), hlosses 2 _, hcause 2 _, ?_⟩
    exact (setRx_link k 2 _).trans (congrArg (Link.enterRx 2) (Dev.upLink_link_same ..))

/-! The first SYSREF edge (R356). -/

/-- A link whose LEMC has been started. -/
def Link.startLemc (x : Link) : Link := { x with lemc := true }

theorem sysrefEdgeSampled_first {k : Nat} (onBoundary : Bool) {d : Dev} (h2 : 2 ≤ (d.link k).rx ∨ 2 ≤ (d.link k).tx)
    (hlemc : (d.link k).lemc = false) (hruns : linkRuns d k = true) :
    sysrefEdgeSampled k onBoundary d = txRunIfReady k (d.upLink k Link.startLemc) := by
  have hacts : ¬(((d.link k).rx < 2 ∧ (d.link k).tx < 2) ∨ linkRuns d k = false) := by
    simp only [hruns, Bool.true_eq_false, or_false]
    omega
  exact (if_neg hacts).trans (if_pos hlemc)

theorem Link.startLemc_run (x : Link) : x.startLemc.runIfReady = { x with
    lemc := true, tx := if x.pll = true ∧ (x.tx = 2 ∨ x.tx = 6) then 5 else x.tx } := by
  have hcond : (x.startLemc.pll = true ∧ x.startLemc.lemc = true ∧ (x.startLemc.tx = 2 ∨ x.startLemc.tx = 6)) =
      (x.pll = true ∧ (x.tx = 2 ∨ x.tx = 6)) := by simp [Link.startLemc]
  simp only [Link.runIfReady, hcond]
  split <;> rfl

theorem linkOfLane_lt {c : Nat → Cfg} {l k : Nat} (h : linkOfLane c l = some k) : k < 24 :=
  List.mem_range.1 (List.mem_of_find?_eq_some h)

/-- A lane of link `k` that enters a state from which on lanes are aligned keeps its arrival. -/
theorem Lane.enter_aligned {st : Nat} (h : ¬(st < 4 ∨ st = 6)) (x : Lane) : x.enter st = { x with state := st } := by
  rw [Lane.enter, if_neg h]

/-- Settles O26, command by command from the equations above. -/
theorem linkTraining : Obligations.LinkTraining := by
  refine ⟨fun k s hw hs h => ?pllLocked, fun k s hw hs hrx hpll hcdr hruns => ?syncHeader,
    fun k arrivals s hw hs hrx hlemc hruns hlen hrel => ?multiblock, fun k s hw hs _ => ?timeout,
    fun l cause k s hw hs hl h2 h6 hruns hinj => ?lockLoss, fun l k s hw hs hl hclock => ?pllLoss,
    fun k onBoundary s hw hs h2 hlemc hruns => ?sysref⟩
  case pllLocked =>
    obtain ⟨hchanged, hlink⟩ := linkPllLocked_starts h
    have hlocked := Link.lock_pll_cdr (s.dev.link k)
    have hrx := Link.lock_rx (s.dev.link k)
    have htx := Link.lock_tx (s.dev.link k)
    rw [← hlink] at hlocked hrx htx
    exact completes_linkChanged rfl hw hs hchanged ⟨hlocked.1, hlocked.2, hrx, htx, hchanged.others, hchanged.rest⟩
  case syncHeader =>
    have hchanged := setRx_changed k 3 s.dev
    rw [← syncHeaderLock_locks hrx hpll hcdr hruns] at hchanged
    refine completes_linkChanged rfl hw hs hchanged ⟨?_, hchanged.others, fun l hk hl => ?_, hchanged.lanes, hchanged.rest⟩
    · rw [syncHeaderLock_locks hrx hpll hcdr hruns, setRx_link]
      rfl
    · rw [syncHeaderLock_locks hrx hpll hcdr hruns, setRx_lane ⟨hk, hl⟩]
      rfl
  case multiblock =>
    have heq := extendedMultiblockLock_runs hrx hlemc hruns hlen hrel
    have hlocked := embLocked_changed hlen
    have hchanged := hlocked.trans (setRx_changed k 5 _)
    rw [← heq] at hchanged
    refine completes_linkChanged rfl hw hs hchanged ⟨?_, hchanged.others, fun l hk hl => ?_, hchanged.lanes, hchanged.rest⟩
    · rw [heq, setRx_link, embLocked_link]
      rfl
    · have hidx : l - k < arrivals.length := by omega
      have hmem : k ≤ l ∧ l < k + lanesOf ((embLocked k arrivals s.dev).dcfg k) k := by
        rw [hlocked.dcfg]
        exact ⟨hk, hl⟩
      rw [heq, setRx_lane hmem, Lane.enter_aligned (by decide), List.getD_eq_getElem?_getD, List.getElem?_eq_getElem hidx,
        Option.getD_some]
      exact ⟨rfl, embLocked_arrival s.dev hk hidx⟩
  case timeout =>
    obtain ⟨hchanged, hlink⟩ := linkLockTimeout_fails k s.dev
    exact completes_linkChanged rfl hw hs hchanged ⟨hlink, hchanged.others, hchanged.lanes, hchanged.rest⟩
  case lockLoss =>
    have hcause : cause = 3 ∨ cause = 4 ∨ cause = 7 := by
      have hwf : [3, 4, 7].contains cause = true := by
        simp only [Instr.wellFormed, wfLaneLockLoss, Bool.and_eq_true] at hw
        exact hw.1.2
      simpa using hwf
    have hevent := laneEvent_not_armed l cause (d := s.dev.upLane l Lane.lose) hinj
    obtain ⟨hchanged, hlosses, hnoted, hlink⟩ := laneLockLoss_retrains hevent hl h2 h6 hruns hcause
    have hlane := congrArg Lane.losses (Dev.upLane_lane_same l Lane.lose s.dev)
    have hcausing := Dev.upLane_lane_same l (fun x => { x with cause := cause }) (s.dev.upLane l Lane.lose)
    have hcrossing := congrArg (fun e : Dev => e.faults.crossing) hchanged.rest
    have hmemory : MemoryKept s.dev (laneLockLoss l cause s.dev) := by
      rw [hchanged.rest]
      exact ⟨rfl, rfl, rfl, rfl⟩
    refine completes_of_effect (t := laneLockLoss l cause s.dev) rfl hw hs rfl
      ⟨hlink, hchanged.others, ?_, ?_, hcrossing, hchanged.rest.trans ?_⟩ hmemory
    · exact hlosses.trans ((congrArg Lane.losses hcausing).trans hlane)
    · exact hnoted.trans (congrArg Lane.cause hcausing)
    · rw [hcrossing]
      rfl
  case pllLoss =>
    obtain ⟨hloss, hdoms⟩ := linkPllLoss_cpChanged l k s.dev
    have hruns : (linkPllLoss l k s.dev).clockRuns (9 + k) = true := by rwa [Dev.clockRuns, Dev.dom, hdoms]
    obtain ⟨hstop, hstopped⟩ := clockLoss_dclk (linkOfLane_lt hl) hruns
    have heq : laneOrPllLoss l 7 true s.dev = clockLoss (9 + k) (linkPllLoss l k s.dev) := by
      simp only [laneOrPllLoss, if_true, hl]
    exact completes_of_effect rfl hw hs heq ⟨rfl, hstopped⟩ (hloss.trans hstop).memoryKept
  case sysref =>
    have heq := sysrefEdgeSampled_first onBoundary h2 hlemc hruns
    have hchanged := (LinkChanged.upLink k Link.startLemc s.dev).trans (txRunIfReady_changed k _)
    have hlanes := txRunIfReady_lanes k (s.dev.upLink k Link.startLemc)
    rw [← heq] at hchanged hlanes
    refine completes_linkChanged rfl hw hs hchanged ⟨?_, hchanged.others, ?_⟩
    · rw [heq, txRunIfReady_link, Dev.upLink_link_same, Link.startLemc_run]
    · exact hchanged.rest.trans (by rw [hlanes]; rfl)

end Sys2Proof.Machine
end

section
/-! SUPPORT. What the operations of NIs read and change (spec/07): they act alike whatever the queues, the converter ports and the trace FIFOs hold,
and change NIs and events only. -/
namespace Sys2Proof.Machine

/-! The same operation on a device whose other parts differ. -/

/-- The device with other queues, converter ports and trace FIFOs. -/
def Dev.mapOther (g : Queues → Queues) (h : Conv → Conv) (f : Tbl TraceFifo → Tbl TraceFifo) (d : Dev) : Dev :=
  { d with queues := g d.queues, conv := h d.conv, probes := { d.probes with fifo := f d.probes.fifo } }

section
variable (g : Queues → Queues) (h : Conv → Conv) (f : Tbl TraceFifo → Tbl TraceFifo)

@[simp] theorem mapOther_ni (n : Nat) (d : Dev) : (d.mapOther g h f).ni n = d.ni n := rfl
@[simp] theorem mapOther_faults (d : Dev) : (d.mapOther g h f).faults = d.faults := rfl
@[simp] theorem mapOther_fcfg (d : Dev) : (d.mapOther g h f).fcfg = d.fcfg := rfl
@[simp] theorem mapOther_decodeAddr (n a : Nat) (d : Dev) : (d.mapOther g h f).decodeAddr n a = d.decodeAddr n a := rfl

@[simp] theorem mapOther_niRegBytes (n off size : Nat) (d : Dev) : niRegBytes (d.mapOther g h f) n off size = niRegBytes d n off size :=
  rfl

@[simp] theorem upNi_mapOther (n : Nat) (u : Ni → Ni) (d : Dev) : (d.mapOther g h f).upNi n u = (d.upNi n u).mapOther g h f := rfl

@[simp] theorem raise_mapOther (src inst part cause : Nat) (inj : Bool) (q : Option Nat) (d : Dev) :
    (d.mapOther g h f).raise src inst part cause inj q = (d.raise src inst part cause inj q).mapOther g h f := by
  have harmed : (d.mapOther g h f).armedSrc src = d.armedSrc src := rfl
  simp only [Dev.raise, harmed, mapOther_faults]
  split <;> rfl

theorem fold_mapOther {α : Type} {e : α → Dev → Dev} (he : ∀ x d, e x (d.mapOther g h f) = (e x d).mapOther g h f) (l : List α) :
    ∀ d, Dev.fold l e (d.mapOther g h f) = (Dev.fold l e d).mapOther g h f := by
  induction l with
  | nil => exact fun _ => rfl
  | cons x l ih => exact fun d => (congrArg (Dev.fold l e) (he x d)).trans (ih (e x d))

/-! Answers. -/

@[simp] theorem deliverNow_mapOther (n : Nat) (r : Delivered) (d : Dev) :
    deliverNow n r (d.mapOther g h f) = (deliverNow n r d).mapOther g h f := by
  simp only [deliverNow, upNi_mapOther, raise_mapOther]
  split <;> rfl

@[simp] theorem releaseInOrder_mapOther (n : Nat) (d : Dev) :
    releaseInOrder n (d.mapOther g h f) = (releaseInOrder n d).mapOther g h f := by
  refine fold_mapOther g h f (fun e acc => ?_) (d.ni n).respHeld d
  simp only [mapOther_ni, upNi_mapOther, deliverNow_mapOther]
  split <;> rfl

@[simp] theorem deliverOrdered_mapOther (n : Nat) (r : Delivered) (d : Dev) :
    deliverOrdered n r (d.mapOther g h f) = (deliverOrdered n r d).mapOther g h f := by
  simp only [deliverOrdered, mapOther_fcfg, upNi_mapOther, releaseInOrder_mapOther, deliverNow_mapOther]
  split <;> rfl

/-! Blocks that a unit presents. -/

@[simp] theorem noteDecerr_mapOther (n a : Nat) (d : Dev) : noteDecerr n a (d.mapOther g h f) = (noteDecerr n a d).mapOther g h f := by
  simp only [noteDecerr, upNi_mapOther]
  split <;> rfl

@[simp] theorem closeWcb_mapOther (n : Nat) (sel : WcbEntry → Bool) (d : Dev) :
    closeWcb n sel (d.mapOther g h f) = (closeWcb n sel d).mapOther g h f := rfl

@[simp] theorem combine_mapOther (n part cls addr : Nat) (bs : Bytes) (dest : Nat) (d : Dev) :
    combine n part cls addr bs dest (d.mapOther g h f) = (combine n part cls addr bs dest d).mapOther g h f := by
  simp only [combine, mapOther_ni, mapOther_fcfg]
  split <;> rfl

@[simp] theorem niRegWrite_mapOther (n off v : Nat) (d : Dev) :
    niRegWrite n off v (d.mapOther g h f) = (niRegWrite n off v d).mapOther g h f := by
  simp only [niRegWrite, upNi_mapOther]
  split
  · rfl
  · split
    · rfl
    · split
      · rfl
      · split <;> rfl

@[simp] theorem wcbFits_mapOther (n : Nat) (p : Packet) (d : Dev) : wcbFits (d.mapOther g h f) n p = wcbFits d n p := by
  simp only [wcbFits, combine_mapOther, mapOther_ni, mapOther_fcfg]

theorem takePosted_mapOther (n : Nat) (p : Packet) (d : Dev) :
    takePosted n p (d.mapOther g h f) = (takePosted n p d).map (Dev.mapOther g h f) := by
  simp only [takePosted, mapOther_decodeAddr, noteDecerr_mapOther, raise_mapOther, niRegWrite_mapOther, wcbFits_mapOther,
    combine_mapOther]
  split
  · rfl
  · split
    · split <;> rfl
    · split <;> rfl

@[simp] theorem placeBlock_mapOther (n : Nat) (q : Packet) (d : Dev) :
    placeBlock n q (d.mapOther g h f) = (placeBlock n q d).mapOther g h f := by
  simp only [placeBlock, mapOther_decodeAddr, noteDecerr_mapOther, deliverOrdered_mapOther, mapOther_niRegBytes, closeWcb_mapOther,
    upNi_mapOther]
  split
  · rfl
  · split
    · split
      · rfl
      · split
        · rfl
        · split <;> rfl
    · rfl

theorem takeBlock_mapOther (n : Nat) (o : Out) (d : Dev) :
    takeBlock n o (d.mapOther g h f) = (takeBlock n o d).map (Dev.mapOther g h f) := by
  have hslot : slotOpen (d.mapOther g h f) n o.pkt.part = slotOpen d n o.pkt.part := rfl
  have hroom : lkRoom (d.mapOther g h f) n o.pkt.code = lkRoom d n o.pkt.code := rfl
  simp only [takeBlock, takePosted_mapOther, hslot, hroom, placeBlock_mapOther]
  split
  · rfl
  · rfl
  · rfl
  · split <;> rfl

theorem takeBlocks_mapOther (n : Nat) : ∀ (l left : List Out) (d : Dev),
    takeBlocks n l left (d.mapOther g h f) = ((takeBlocks n l left d).1, (takeBlocks n l left d).2.mapOther g h f)
  | [], _, _ => rfl
  | o :: t, left, d => by
    simp only [takeBlocks, takeBlock_mapOther]
    split
    · exact takeBlocks_mapOther n t _ d
    · cases takeBlock n o d with
      | some e => exact takeBlocks_mapOther n t left e
      | none => exact takeBlocks_mapOther n t _ d

theorem takeUnit_mapOther (n : Nat) (d : Dev) : takeUnit n (d.mapOther g h f) = (takeUnit n d).mapOther g h f := by
  simp only [takeUnit, mapOther_ni]
  split
  · rfl
  · simp only [takeBlocks_mapOther, upNi_mapOther]

theorem present_mapOther (n : Nat) (os : List Out) (d : Dev) : present n os (d.mapOther g h f) = (present n os d).mapOther g h f :=
  takeUnit_mapOther g h f n (d.upNi n fun x => { x with atUnit := x.atUnit ++ os })

theorem engineWrite_mapOther (n part cls addr : Nat) (bs : Bytes) (d : Dev) :
    engineWrite n part cls addr bs (d.mapOther g h f) = (engineWrite n part cls addr bs d).mapOther g h f := by
  unfold engineWrite
  split
  · rfl
  · exact present_mapOther g h f n _ d

theorem readSlot_mapOther (q : Nat) (x : Queue) (k base lo hi : Nat) (d : Dev) :
    readSlot q x k base lo hi (d.mapOther g h f) = (readSlot q x k base lo hi d).mapOther g h f :=
  fold_mapOther g h f (fun l e => present_mapOther g h f l _ e) (d.lanes k) d

theorem takeAnswers_mapOther (n key : Nat) (d : Dev) : takeAnswers n key (d.mapOther g h f) = (takeAnswers n key d).mapOther g h f :=
  rfl

theorem forgetKeys_mapOther (n : Nat) (sel : Nat → Bool) (d : Dev) :
    forgetKeys n sel (d.mapOther g h f) = (forgetKeys n sel d).mapOther g h f := rfl

end

/-! What these operations change: NIs and events. -/

/-- `t` differs from `d` at most in NIs and in the fault collector. -/
def NisChanged (d t : Dev) : Prop := t = { d with nis := t.nis, faults := t.faults }

theorem nisChanged_iff {d t : Dev} : NisChanged d t ↔ ∃ ns fs, t = { d with nis := ns, faults := fs } :=
  ⟨fun h => ⟨_, _, h⟩, fun ⟨_, _, h⟩ => h ▸ rfl⟩

theorem NisChanged.refl (d : Dev) : NisChanged d d := rfl

theorem NisChanged.trans {d t u : Dev} (h : NisChanged d t) (k : NisChanged t u) : NisChanged d u := by
  unfold NisChanged at *
  rw [k, h]

theorem NisChanged.fold {α : Type} {e : α → Dev → Dev} (h : ∀ x d, NisChanged d (e x d)) (l : List α) :
    ∀ d, NisChanged d (Dev.fold l e d) := by
  induction l with
  | nil => exact NisChanged.refl
  | cons x l ih => exact fun d => (h x d).trans (ih (e x d))

/-- A block is taken at the NI that it names, whichever unit presents it. -/
theorem takeBlock_nisChanged {n : Nat} {o : Out} {d t : Dev} (h : takeBlock n o d = some t) : NisChanged d t := by
  unfold takeBlock at h
  split at h
  · exact (takePosted_at h).1
  · cases h
    exact (takeFenced_at o.pkt o.fence d).1
  · cases h
    exact (takeMarks_at n o.pkt d).1
  · split at h
    · cases h
      exact (placeBlock_at n o.pkt d).1
    · cases h

theorem takeBlocks_nisChanged (n : Nat) : ∀ (l left : List Out) (d : Dev), NisChanged d (takeBlocks n l left d).2
  | [], _, d => .refl d
  | o :: t, left, d => by
    unfold takeBlocks
    split
    · exact takeBlocks_nisChanged n t _ d
    · split
      · next e he => exact (takeBlock_nisChanged he).trans (takeBlocks_nisChanged n t left e)
      · exact takeBlocks_nisChanged n t _ d

theorem present_nisChanged (n : Nat) (os : List Out) (d : Dev) : NisChanged d (present n os d) := by
  let e := d.upNi n fun x => { x with atUnit := x.atUnit ++ os }
  refine NisChanged.trans (t := e) rfl ?_
  change NisChanged e (takeUnit n e)
  unfold takeUnit
  split
  · exact .refl e
  · exact (takeBlocks_nisChanged n _ [] e).trans rfl

theorem engineWrite_nisChanged (n part cls addr : Nat) (bs : Bytes) (d : Dev) : NisChanged d (engineWrite n part cls addr bs d) := by
  unfold engineWrite
  split
  · exact .refl d
  · exact present_nisChanged n _ d

theorem readSlot_nisChanged (q : Nat) (x : Queue) (k base lo hi : Nat) (d : Dev) : NisChanged d (readSlot q x k base lo hi d) :=
  .fold (fun l e => present_nisChanged l _ e) (d.lanes k) d

end Sys2Proof.Machine
end

section
/-! SUPPORT. Frames, triggers, timed orders and records of a stream (R361, R364 to R373): one equation per case that acts, and from these the
obligation about records. -/
namespace Sys2Proof.Machine

/-! One stream. -/

/-- The device with the stream of queue `q` set. -/
def Dev.setStream (q : Nat) (x : Stream) (d : Dev) : Dev :=
  { d with conv := { d.conv with stream := d.conv.stream.set q x } }

@[simp] theorem setStream_stream?_same (q : Nat) (x : Stream) (d : Dev) : (d.setStream q x).stream? q = some x :=
  Tbl.find?_set_same ..

theorem setStream_stream?_ne {q i : Nat} (hi : i ≠ q) (x : Stream) (d : Dev) : (d.setStream q x).stream? i = d.stream? i :=
  Tbl.find?_set_ne _ hi x

theorem setStream_setStream (q : Nat) (x y : Stream) (d : Dev) : (d.setStream q x).setStream q y = d.setStream q y :=
  congrArg (fun t => { d with conv := { d.conv with stream := t } }) (Tbl.set_set ..)

/-- The update of a stream that exists. -/
theorem upStream_some {q : Nat} {x : Stream} {d : Dev} (h : d.stream? q = some x) (f : Stream → Stream) :
    d.upStream q f = d.setStream q (f x) := by
  simp only [Dev.upStream, h]
  rfl

theorem upStream_setStream (q : Nat) (x : Stream) (f : Stream → Stream) (d : Dev) :
    (d.setStream q x).upStream q f = d.setStream q (f x) := by
  rw [upStream_some (setStream_stream?_same q x d), setStream_setStream]

/-! What NIs do for a stream. -/

theorem NisChanged.stream? {d t : Dev} (h : NisChanged d t) (q : Nat) : t.stream? q = d.stream? q := by
  rw [h]
  rfl

theorem NisChanged.eng {d t : Dev} (h : NisChanged d t) (n : Nat) : t.eng n = d.eng n := by
  rw [h]
  rfl

theorem NisChanged.clock {d t : Dev} (h : NisChanged d t) : t.clock = d.clock := by rw [h]

theorem dropReads_nisChanged (q : Nat) (d : Dev) : NisChanged d (dropReads q d) := by
  unfold dropReads
  split
  · split
    · exact .fold (fun l e => (forgetKeys_at l _ e).1) _ d
    · exact .refl d
  · exact .refl d

theorem dropReads_faults (q : Nat) (d : Dev) : (dropReads q d).faults = d.faults := by
  have hfold (l : List Nat) : ∀ e : Dev, (Dev.fold l (fun n => forgetKeys n fun k => k == playKey q) e).faults = e.faults := by
    induction l with
    | nil => exact fun _ => rfl
    | cons x l ih => exact fun e => ih (forgetKeys x _ e)
  unfold dropReads
  split
  · split
    · exact hfold _ d
    · rfl
  · rfl

/-- What is dropped of a stream's reads does not depend on the rest of its state. -/
theorem dropReads_setStream {q : Nat} {x y : Stream} {d : Dev} (h : d.stream? q = some x) (htx : y.tx = x.tx) (hsrc : y.src = x.src) :
    dropReads q (d.setStream q y) = (dropReads q d).setStream q y := by
  simp only [dropReads, setStream_stream?_same, h, htx, hsrc]
  split
  · exact fold_mapOther id (fun c => { c with stream := c.stream.set q y }) id 
      (fun l => forgetKeys_mapOther _ _ _ l fun k => k == playKey q) (d.lanes x.src) d
  · rfl

/-! Released frames (R358 to R361, R375). -/

theorem takeLaneInjection_not_armed {d : Dev} (h : d.faults.inj.state ≠ 1) (l cause : Nat) :
    takeLaneInjection l cause d = (false, d) := if_neg fun ha => h ha.1

/-- With no lane named and no injection armed no lane is hit. -/
theorem hitLanes_none {d : Dev} (h : d.faults.inj.state ≠ 1) (k cause : Nat) : hitLanes k 0 cause d = [] := by
  simp [hitLanes, takeLaneInjection_not_armed h, bitOf]

theorem laneErrors_none {d : Dev} (h : d.faults.inj.state ≠ 1) (k : Nat) : laneErrors k 0 0 d = d := by
  have hbits : (d.lanes k).filter (bitOf 0) = [] := by simp [bitOf]
  simp only [laneErrors, hitLanes_none h, hbits]
  rfl

theorem bufferError_none {d : Dev} (h : d.faults.inj.state ≠ 1) (k : Nat) : bufferError k .none d = (false, d) := by
  simp [bufferError, takeLaneInjection_not_armed h]

/-- The one frame that a link without errors releases, as its history keeps it. -/
def releasedFrame (k : Nat) (at_ : Int) (ws : List Nat) (d : Dev) : HistFrame := {
  time := at_ - adjustOf d k 0xF + frameOffset d k 0, bytes := encodeFrame (d.linkObj k 7) (d.linkObj k 0xD) ws }

/-- A link that notes a frame in its history (R367). -/
def Link.noteFrame (cap : Nat) (f : HistFrame) (x : Link) : Link := { x with history := trimHistory cap (x.history ++ [f]) }

theorem rxFrameRelease_single {k : Nat} {at_ : Int} {ws : List Nat} {d : Dev} (hon : linkOn (d.dcfg k) k 1 = true)
    (hruns : linkRuns d k = true) (hrx : (d.link k).rx = 5) (hinj : d.faults.inj.state ≠ 1)
    (hlen : (encodeFrame (d.linkObj k 7) (d.linkObj k 0xD) ws).length = frameBytes (d.dcfg k) k) :
    rxFrameRelease k at_ [ws] 0 0 .none d = streamFrame k (releasedFrame k at_ ws d) false false
      (d.upLink k (Link.noteFrame (65536 * lanesOf (d.dcfg k) k) (releasedFrame k at_ ws d))) := by
  have hup : ((d.link k).rx == 5) = true := beq_iff_eq.2 hrx
  simp only [rxFrameRelease, hon, hruns, hup, hitLanes_none hinj, laneErrors_none hinj, bufferError_none hinj, Bool.true_eq_false,
    Bool.false_eq_true, or_self, if_false, if_true, false_and, Bool.false_and, padTo_self hlen, List.zipIdx_cons, List.zipIdx_nil,
    Dev.fold, List.foldl_cons, List.foldl_nil]
  rfl

/-- A frame of a stream whose record is open goes into that record. -/
theorem streamFrame_open {k q : Nat} {f : HistFrame} {x : Queue} {st : Stream} {r : Rec} {d : Dev} (zero bad : Bool)
    (ha : armedStream d k false = some q) (hq : d.queue? q = some x) (hst : d.stream? q = some st) (hcur : st.cur = some r) :
    streamFrame k f zero bad d = putFrame q k f zero bad d := by
  simp [streamFrame, ha, hq, hst, hcur]

/-- A record with the bytes of one more frame. -/
def Rec.collect (bs : Bytes) (r : Rec) : Rec := { r with done := r.done + bs.length, buf := r.buf ++ bs }

/-- A sound frame that completes neither a block nor the record waits in the record's buffer (R361, R366). -/
theorem putFrame_buffers {k q : Nat} {f : HistFrame} {x : Queue} {st : Stream} {r : Rec} {d : Dev} (hq : d.queue? q = some x)
    (hst : d.stream? q = some st) (hcur : st.cur = some r) (hcrc : f.crc = false) (hblock : r.buf.length + f.bytes.length < 64)
    (hdone : r.done + f.bytes.length < x.record) :
    putFrame q k f false false d = d.setStream q { st with cur := some (r.collect f.bytes) } := by
  have hzero : (r.buf ++ f.bytes).length / 64 = 0 := by
    rw [List.length_append]
    omega
  have hflags : Nat.lor r.flags (b2n false + 2 * b2n false + 4 * b2n false) = r.flags := Nat.or_zero r.flags
  cases hslot : r.slot <;>
  · simp only [putFrame, hq, hst, hcur, hcrc, hzero, hflags, hslot, writeBlocks, if_pos hdone, upStream_some hst]
    simp [Rec.collect, hslot]

/-! Record triggers (R364, R366). -/

/-- An NI whose queue `q` holds the messages `l`. -/
def Ni.setMq (q : Nat) (l : List Packet) (x : Ni) : Ni := { x with mq := x.mq.set q l }

/-- The front message of a queue leaves it, and its credit is owed (R183). -/
theorem mqTake_some {n q : Nat} {m : Packet} {rest : List Packet} {d : Dev} (h : (d.ni n).mq.get [] q = m :: rest) :
    mqTake n q d = d.upNi n fun x => (x.setMq q rest).oweFor m := by
  simp only [mqTake, h]
  exact freeCredits_upNi n m (Ni.setMq q rest) d

theorem Ni.oweFor_mq (p : Packet) (x : Ni) : (x.oweFor p).mq = x.mq := by
  unfold Ni.oweFor
  split <;> rfl

theorem cpTrigger_message {n : Nat} {m : Packet} {rest : List Packet} {d : Dev} (h : (d.ni n).mq.get [] 1 = m :: rest)
    (hcode : m.code = 0x0020) : cpTrigger n d = triggerLink n (m.data.le 0 1) (triggerTime m.data) (mqTake n 1 d) := by
  have hfront : d.mqFront n 1 = some m := by rw [Dev.mqFront, h, List.head?_cons]
  simp only [cpTrigger, hfront, if_pos hcode]

/-- The sole stream of the device is reached by a trigger of its link. -/
theorem triggerLink_sole {k q src : Nat} {t : Int} {st : Stream} {d : Dev} (h : d.conv.stream = [(q, st)]) (hsrc : st.src = k) :
    triggerLink k src t d = triggerStream k src t q d := by
  have hfilter : d.conv.stream.filter (fun e => e.2.src == k) = [(q, st)] := by simp [h, hsrc]
  rw [triggerLink, hfilter]
  rfl

/-- A record trigger of a started stream that has no record open, and of which no frame is held yet, waits for its frame. -/
theorem triggerStream_waits {k q src : Nat} {t : Int} {x : Queue} {st : Stream} {d : Dev} (hst : d.stream? q = some st)
    (hq : d.queue? q = some x) (harmed : st.armed = true) (hfence : d.fenceBit x.part = false) (hup : linkUp d k = true)
    (htx : st.tx = false) (hstarted : st.started = true) (htrig : x.recTrig = src) (hsrc : src ≠ 0) (hcur : st.cur = none)
    (hat : st.trigAt = none) (hnew : ((d.link k).history.any fun f => decide (t ≤ f.time + lastSample d k)) = false) :
    triggerStream k src t q d = d.setStream q { st with trigAt := some t } := by
  simp [triggerStream, hst, hq, harmed, hfence, hup, htx, hstarted, htrig, hsrc, hcur, hat, hnew, upStream_some hst]

/-! Timed starts and stops (R365, R373). -/

theorem timedTarget_some {d : Dev} {n q : Nat} {p : Packet} {st : Stream} (h : timedTarget d n p = some q)
    (hst : d.stream? q = some st) : (st.armed || st.arming) = true := by
  unfold timedTarget at h
  dsimp only at h
  split at h
  · next y x hy hx =>
    split at h
    · next hc =>
      cases h
      rw [hst] at hy
      cases hy
      exact hc.2.2
    · cases h
  · cases h

/-- An NI whose release port holds `l`. -/
def Ni.setReleased (l : List Released) (x : Ni) : Ni := { x with released := l }

theorem dropReleased_cons {n : Nat} {h : Released} {rest : List Released} {d : Dev} (hr : (d.ni n).released = h :: rest) :
    dropReleased n d = d.upNi n (Ni.setReleased rest) :=
  Dev.upNi_congr (by rw [hr, List.drop_one, List.tail_cons]; rfl)

/-- A timed start notes its instant at a stream that waits for one (R365). -/
theorem cpTimedStart_notes {n q : Nat} {h : Released} {rest : List Released} {st : Stream} {d : Dev}
    (hr : (d.ni n).released = h :: rest) (hcode : h.pkt.code = 0x0010) (ht : timedTarget d n h.pkt = some q)
    (hst : d.stream? q = some st) (hmode : st.mode = 1) (hstarted : st.started = false) (hat : st.startAt = none) :
    cpTimedStart n d = (d.upNi n (Ni.setReleased rest)).setStream q
      { st with startAt := some (if h.late then 0 else releaseTime h.pkt), startLate := h.late } := by
  have hhead : (d.ni n).released.head? = some h := by rw [hr, List.head?_cons]
  have hst' : (d.upNi n (Ni.setReleased rest)).stream? q = some st := hst
  simp [cpTimedStart, hhead, hcode, ht, hst, hmode, hstarted, hat, dropReleased_cons hr, upStream_some hst']

/-- Where no command of a stream's engine waits with an opcode, none ends. -/
theorem endWaiting_none {op q : Nat} {d : Dev} (h : ∀ j, j ∈ (d.eng (seOf q)).cmds → waitsFor op q j = false) (status : Nat) :
    endWaiting op q status d = d := by
  have hnone : (d.eng (seOf q)).cmds.filter (waitsFor op q) = [] := List.filter_eq_nil_iff.2 fun j hj => by simp [h j hj]
  simp only [endWaiting, hnone]
  rfl

/-- A stream as a stop at wall-clock edge `w` leaves it. -/
def Stream.stopped (w : Nat) (s : Stream) : Stream := { s.disarm with stoppedAt := some w }

/-- A stop of a stream with no record in progress or awaiting its completion, that no order of this cycle has armed and for which
no command waits, disarms it and drops what it reads (R305, R373). -/
theorem stopNow_disarms {q : Nat} {st : Stream} {d : Dev} (status : Nat) (hst : d.stream? q = some st)
    (ha : (st.armed || st.arming) = true) (hidle : st.inProgress = none) (hended : st.ended = [])
    (hby : st.armedBy.all (fun a => decide (a.2.2 ≠ d.clock.wall)) = true)
    (hcmds : ∀ j, j ∈ (d.eng (seOf q)).cmds → waitsFor 9 q j = false ∧ waitsFor 0xA q j = false) :
    stopNow q status d = (dropReads q d).setStream q (st.stopped d.clock.wall) := by
  let st1 : Stream := { st with stoppedAt := some d.clock.wall }
  have hchanged := dropReads_nisChanged q d
  let e := (dropReads q d).setStream q (st.stopped d.clock.wall)
  have hup : d.upStream q (fun x => { x with stoppedAt := some d.clock.wall }) = d.setStream q st1 := upStream_some hst _
  have ha1 : ¬ (st1.armed || st1.arming) = false := (Bool.not_eq_false _).mpr ha
  have hidle1 : st1.inProgress = none := hidle
  have hdrop : dropReads q ((d.setStream q st1).upStream q Stream.disarm) = e := by
    rw [upStream_setStream]
    exact dropReads_setStream hst rfl rfl
  have heng : e.eng (seOf q) = d.eng (seOf q) := hchanged.eng (seOf q)
  have hstream : e.stream? q = some (st.stopped d.clock.wall) := setStream_stream?_same ..
  have hwait (op : Nat) (hop : op = 9 ∨ op = 0xA) (s : Nat) : endWaiting op q s e = e := by
    refine endWaiting_none (fun j hj => ?_) s
    rw [heng] at hj
    rcases hop with rfl | rfl
    · exact (hcmds j hj).1
    · exact (hcmds j hj).2
  have hconflict : conflictArm q e = e := by
    have harmed : (e.stream? q).bind (·.armedBy) = st.armedBy := by rw [hstream]; rfl
    have hwall : e.clock.wall = d.clock.wall := congrArg Clock.wall hchanged.clock
    unfold conflictArm
    rw [harmed]
    cases hb : st.armedBy with
    | none => rfl
    | some a =>
      rw [hb] at hby
      exact if_neg (hwall ▸ of_decide_eq_true hby)
  have hfinish : finishStops q e = e := by
    have hidle : (st.stopped d.clock.wall).idle = true := by simp [Stream.stopped, Stream.disarm, Stream.idle, hended]
    simp only [finishStops, hstream, if_pos hidle]
    exact hwait 0xA (.inr rfl) 0
  simp only [stopNow, hup, setStream_stream?_same, if_neg ha1, hidle1, hdrop, hwait 9 (.inl rfl), hconflict, hfinish]
  rfl

theorem cpTimedStop_stops {n q : Nat} {h : Released} {rest : List Released} {d : Dev} (hr : (d.ni n).released = h :: rest)
    (hcode : h.pkt.code = 0x0011) (ht : timedTarget d n h.pkt = some q) :
    cpTimedStop n d = stopNow q 8 (d.upNi n (Ni.setReleased rest)) := by
  have hhead : (d.ni n).released.head? = some h := by rw [hr, List.head?_cons]
  simp [cpTimedStop, hhead, hcode, ht, dropReleased_cons hr]

/-! Record ends (R370). -/

/-- A record whose CP of lane `l` has sent its record-end message. -/
def Rec.sendEnd (l : Nat) (r : Rec) : Rec := { r with sentBy := setBit r.sentBy l true }

/-- The record-end message of lane `l` for record `no` of stream `q`. -/
def recordEndPkt (l part q no : Nat) : Packet :=
  messagePkt l part 2 (seNi (seOf q)) 1 0x0012 (leBytes 2 q ++ leBytes 8 no ++ [byte l])

/-- The CP of a lane that has not reported the sole record that waits starts its fenced report. -/
theorem recordEnd_reports {l q : Nat} {x : Queue} {st : Stream} {r : Rec} {d : Dev} (hs : d.conv.stream = [(q, st)])
    (hq : d.queue? q = some x) (hsrc : st.src < 24) (hl : l ∈ d.lanes st.src) (he : st.ended = [r]) (hbit : bitOf r.sentBy l = false)
    (hneed : 0 < r.need) :
    recordEnd l d = startFenced (recordEndPkt l x.part q r.no) none (d.setStream q { st with ended := [r.sendEnd l] }) := by
  have hst : d.stream? q = some st := by rw [Dev.stream?, hs, Tbl.find?_single]
  simp [recordEnd, hs, hl, hsrc, he, hbit, hneed, hq, upStream_some hst, recordEndPkt, Rec.sendEnd]

/-! Record completions (R302, R303, R370, R371). -/

theorem setQueue_queue?_same (q : Nat) (x : Queue) (d : Dev) : (d.setQueue q x).queue? q = some x := Tbl.find?_set_same ..

theorem setQueue_queue?_ne {q i : Nat} (hi : i ≠ q) (x : Queue) (d : Dev) : (d.setQueue q x).queue? i = d.queue? i :=
  Tbl.find?_set_ne _ hi x

/-- A completion queue with one more entry (R303). -/
def Queue.addCpl (x : Queue) : Queue := { x with
  pi := (x.pi + 1) % 65536
  phase := if (x.pi + 1) % 65536 % x.depth = 0 then !x.phase else x.phase
  unsig := x.unsig + 1 }

/-- A completion of a queue that holds none back is written at once where there is room (R303). -/
theorem reportCpl_writes {k : Cpl} {x y : Queue} {d : Dev} (hq : d.queue? k.q = some x) (hcq : d.queue? x.cq = some y)
    (hroom : y.cqRoom = true) (hw : k.wrote = []) (hheld : ∀ h, h ∈ (d.eng (seOf k.q)).held → h.q ≠ k.q) :
    reportCpl k d = writeCpl x.cq k d := by
  have hnone : ((d.eng (seOf k.q)).held.any fun h => h.q == k.q) = false := by simpa using hheld
  simp only [reportCpl, hq, hcq, hroom, hw, hnone, and_self, if_true]

/-- The completion of a queue without a vector is written to the next entry, and signals nothing (R303, R304). -/
theorem writeCpl_unsignalled {cq : Nat} {k : Cpl} {y : Queue} {d : Dev} (hcq : d.queue? cq = some y) (hv : y.vector = 0xFFFF)
    (hs : k.status ≠ 7) :
    writeCpl cq k d = ((engineWrite (seNi (seOf cq)) y.part y.cls (y.base + 16 * (y.pi % y.depth)) (cplBytes k y.phase) d).setQueue cq
      y.addCpl).countSe (seOf cq) 5 := by
  simp only [writeCpl, hcq, if_neg hs]
  generalize engineWrite (seNi (seOf cq)) y.part y.cls (y.base + 16 * (y.pi % y.depth)) (cplBytes k y.phase) d = e
  have hq : ((e.setQueue cq y.addCpl).countSe (seOf cq) 5).queue? cq = some y.addCpl := setQueue_queue?_same cq y.addCpl e
  have hvec : ¬ (y.addCpl.vector ≠ 0xFFFF ∧ (k.irq = true ∨ y.addCpl.mcount + 1 ≤ y.addCpl.unsig)) := fun h => h.1 hv
  change cqSignal cq k.irq ((e.setQueue cq y.addCpl).countSe (seOf cq) 5) = _
  simp only [cqSignal, hq, if_neg hvec]

/-- The completion of a record in slot `i` (R302, R370). -/
def recordCpl (q i : Nat) (x : Queue) (r : Rec) : Cpl := {
  q := q, index := i % x.depth, status := r.status, detail := r.detail, op := 0x80, late := r.late, irq := false
  tag := r.no % 2 ^ 32, result := recResult r }

/-- A stream whose oldest record that waits has completed: its slot is free. -/
def Stream.complete (rest : List Rec) (s : Stream) : Stream := { s with ended := rest, given := s.given - 1 }

/-- A queue whose consumer has gone on by one entry. -/
def Queue.advance (x : Queue) : Queue := { x with ci := (x.ci + 1) % 65536 }

/-- The write of a completion at the next entry of completion queue `cq`. -/
def putCpl (cq : Nat) (y : Queue) (k : Cpl) (d : Dev) : Dev :=
  engineWrite (seNi (seOf cq)) y.part y.cls (y.base + 16 * (y.pi % y.depth)) (cplBytes k y.phase) d

/-- The device once a record has completed: what its engine's NI has made of the write, the stream, and the two queues. -/
def recordDone (q cq : Nat) (x y : Queue) (st : Stream) (d : Dev) : Dev :=
  (((d.setStream q st).setQueue q x).setQueue cq y).countSe (seOf cq) 5

/-- The oldest record of an armed link stream, its reports in, completes where its completion queue has room. -/
theorem recordComplete_completes {q i : Nat} {x y : Queue} {st : Stream} {r : Rec} {rest : List Rec} {d : Dev}
    (hq : d.queue? q = some x) (hcq : d.queue? x.cq = some y) (hne : x.cq ≠ q) (hst : d.stream? q = some st) (harmed : st.armed = true)
    (he : st.ended = r :: rest) (hends : r.need ≤ r.ends) (hsrc : st.src < 24) (hslot : r.slot = some i) (hroom : y.cqRoom = true)
    (hv : y.vector = 0xFFFF) (hs : r.status ≠ 7) (hheld : ∀ h, h ∈ (d.eng (seOf q)).held → h.q ≠ q) :
    recordComplete q d = recordDone q x.cq x.advance y.addCpl (st.complete rest) (putCpl x.cq y (recordCpl q i x r) d) := by
  let d1 := (d.setStream q (st.complete rest)).setQueue q x.advance
  have hq1 : d1.queue? q = some x.advance := setQueue_queue?_same q x.advance _
  have hcq1 : d1.queue? x.advance.cq = some y := (setQueue_queue?_ne hne x.advance _).trans hcq
  have hwrites : reportCpl (recordCpl q i x r) d1 =
      recordDone q x.cq x.advance y.addCpl (st.complete rest) (putCpl x.cq y (recordCpl q i x r) d) := by
    rw [reportCpl_writes (k := recordCpl q i x r) hq1 hcq1 hroom rfl hheld, writeCpl_unsignalled hcq1 hv hs]
    have hput := engineWrite_mapOther (fun Q => { Q with q := Q.q.set q x.advance })
      (fun c => { c with stream := c.stream.set q (st.complete rest) }) id (seNi (seOf x.cq)) y.part y.cls
      (y.base + 16 * (y.pi % y.depth)) (cplBytes (recordCpl q i x r) y.phase) d
    exact congrArg (fun e : Dev => (e.setQueue x.cq y.addCpl).countSe (seOf x.cq) 5) hput
  have hup : ((d.setStream q (st.complete rest)).upQueue q Queue.advance) = d1 := by
    have hq' : (d.setStream q (st.complete rest)).queue? q = some x := hq
    simp only [Dev.upQueue, hq']
    rfl
  have hsrc' : st.src ≠ 0x80 := by omega
  have hstep : recordComplete q d = finishStops q (reportCpl (recordCpl q i x r) d1) := by
    simp only [recordComplete, hst, he, if_neg (Nat.not_lt.mpr hends), hslot, hq, if_neg hsrc', upStream_some hst, ← hup]
    rfl
  rw [hstep, hwrites]
  generalize putCpl x.cq y (recordCpl q i x r) d = e
  have hstream : (recordDone q x.cq x.advance y.addCpl (st.complete rest) e).stream? q = some (st.complete rest) :=
    setStream_stream?_same q (st.complete rest) e
  have hbusy : ¬ (st.complete rest).idle = true := by simp [Stream.idle, Stream.complete, harmed]
  simp only [finishStops, hstream, if_neg hbusy]

theorem upSe_eng_same (n : Nat) (f : Se → Se) (d : Dev) : (d.upSe n f).eng n = f (d.eng n) := Tbl.get_modify_same ..

theorem upSe_eng_ne {n j : Nat} (hj : j ≠ n) (f : Se → Se) (d : Dev) : (d.upSe n f).eng j = d.eng j := Tbl.get_modify_ne _ _ hj f

theorem countSe_eng_cmds (n sub : Nat) (d : Dev) : ((d.countSe n sub).eng n).cmds = (d.eng n).cmds := by
  rw [Dev.countSe, upSe_eng_same]

/-- Settles O28, command by command from the equations above. -/
theorem records : Obligations.Records := by
  refine ⟨fun k q at_ ws x st r s hw hs hon hruns hrx hinj ha hq hst hcur hblock hdone hlen => ?frame,
    fun n q m rest x st s hw hs hmq hcode hstream hq hsrc htx harmed hstarted htrig htrig0 hcur hat hfence hup hnew => ?trigger,
    fun n q h rest st s hw hs hr hcode ht hst hmode hstarted hat => ?timedStart,
    fun n q h rest st s hw hs hr hcode ht hst hidle hended hby hcmds => ?timedStop,
    fun l q x st r s hw hs hstream hq hsrc hl he hbit hneed hat hwcb hout => ?recordEnd,
    fun q i x y st r rest s hw hs hq hcq hne hse hst harmed he hends hsrc hslot hroom hv hstatus hheld => ?complete⟩
  case frame =>
    let f := releasedFrame k at_ ws s.dev
    let d1 := s.dev.upLink k (Link.noteFrame (65536 * lanesOf (s.dev.dcfg k) k) f)
    have hput : rxFrameRelease k at_ [ws] 0 0 .none s.dev = d1.setStream q { st with cur := some (r.collect f.bytes) } := by
      rw [rxFrameRelease_single hon hruns hrx hinj hlen, streamFrame_open (d := d1) false false ha hq hst hcur]
      exact putFrame_buffers (d := d1) hq hst hcur rfl (by rwa [← hlen] at hblock) (by rwa [← hlen] at hdone)
    refine completes_of_effect rfl hw hs hput ⟨?_, fun i hi => setStream_stream?_ne hi _ d1, Dev.upLink_link_same ..,
      fun j hj => Dev.upLink_link_ne hj _ s.dev, rfl⟩
    rw [setStream_stream?_same, Rec.collect, ← hlen]
    rfl
  case trigger =>
    let d1 := s.dev.upNi n fun x => (x.setMq 1 rest).oweFor m
    have hst : s.dev.stream? q = some st := by rw [Dev.stream?, hstream, Tbl.find?_single]
    have hset : cpTrigger n s.dev = d1.setStream q { st with trigAt := some (triggerTime m.data) } := by
      rw [cpTrigger_message hmq hcode, mqTake_some hmq, triggerLink_sole (d := d1) hstream hsrc]
      exact triggerStream_waits (d := d1) hst hq harmed hfence hup htx hstarted htrig (htrig ▸ htrig0) hcur hat hnew
    refine completes_of_effect rfl hw hs hset ⟨?_, ?_, fun i hi => Dev.upNi_ni_ne hi (fun x => (x.setMq 1 rest).oweFor m) s.dev, rfl⟩
    · change Tbl.set s.dev.conv.stream q _ = _
      rw [hstream, Tbl.set, if_pos rfl]
    · change ((d1.ni n).mq).get [] 1 = rest
      rw [Dev.upNi_ni_same, Ni.oweFor_mq]
      exact Tbl.get_set_same ..
  case timedStart =>
    let d1 := s.dev.upNi n (Ni.setReleased rest)
    exact completes_of_effect rfl hw hs (cpTimedStart_notes hr hcode ht hst hmode hstarted hat)
      ⟨setStream_stream?_same .., fun i hi => setStream_stream?_ne hi _ d1, Dev.upNi_ni_same n (Ni.setReleased rest) s.dev,
        fun i hi => Dev.upNi_ni_ne hi (Ni.setReleased rest) s.dev, rfl⟩
  case timedStop =>
    let d1 := s.dev.upNi n (Ni.setReleased rest)
    have hchanged := dropReads_nisChanged q d1
    have hfaults : (dropReads q d1).faults = d1.faults := dropReads_faults q d1
    have hnis : (dropReads q d1).nis = (dropReads q (s.dev.upNi n fun y => { y with released := rest })).nis := rfl
    have hstop := stopNow_disarms (d := d1) 8 hst (timedTarget_some ht hst) hidle hended hby hcmds
    have hstopped := (cpTimedStop_stops hr hcode ht).trans hstop
    generalize dropReads q d1 = e at hchanged hfaults hnis hstopped
    obtain ⟨ns, fs, rfl⟩ := nisChanged_iff.1 hchanged
    obtain rfl : fs = s.dev.faults := hfaults
    exact completes_of_effect rfl hw hs hstopped
      ⟨setStream_stream?_same .., fun i hi => setStream_stream?_ne hi (st.stopped s.dev.clock.wall) { d1 with nis := ns }, hnis, rfl⟩
  case recordEnd =>
    let d1 := s.dev.setStream q { st with ended := [r.sendEnd l] }
    let p := recordEndPkt l x.part q r.no
    have hreport : recordEnd l s.dev = d1.upNi l (Ni.fenceWith p ((s.dev.ni l).marksOf p)) :=
      (recordEnd_reports hstream hq hsrc hl he hbit hneed).trans (startFenced_idle (p := p) (d := d1) hat hwcb hout)
    refine completes_of_effect rfl hw hs hreport ⟨?_, ?_, fun i hi => Dev.upNi_ni_ne hi _ d1, rfl⟩
    · change Tbl.set s.dev.conv.stream q _ = _
      rw [hstream, Tbl.set, if_pos rfl]
      rfl
    · exact congrArg Ni.fenced (Dev.upNi_ni_same ..)
  case complete =>
    have hchanged : NisChanged s.dev (putCpl x.cq y (recordCpl q i x r) s.dev) := engineWrite_nisChanged ..
    have hdone := recordComplete_completes hq hcq hne hst harmed he hends hsrc hslot hroom hv hstatus hheld
    have hwrites : Writes s.dev (putCpl x.cq y (recordCpl q i x r) s.dev) (seNi (seOf x.cq)) y.part y.cls
      (y.base + 16 * (y.pi % y.depth)) (cplBytes (recordCpl q i x r) y.phase) := ⟨rfl, rfl⟩
    generalize putCpl x.cq y (recordCpl q i x r) s.dev = e at hchanged hdone hwrites
    obtain ⟨ns, fs, rfl⟩ := nisChanged_iff.1 hchanged
    let e : Dev := { s.dev with nis := ns, faults := fs }
    let e1 := e.setStream q (st.complete rest)
    let e2 := e1.setQueue q x.advance
    let e3 := e2.setQueue x.cq y.addCpl
    refine completes_of_effect rfl hw hs hdone ⟨hwrites, setStream_stream?_same q _ e, fun j hj => setStream_stream?_ne hj _ e,
      (setQueue_queue?_ne hne.symm _ e2).trans (setQueue_queue?_same q _ e1), setQueue_queue?_same x.cq _ e2,
      fun j hj hjc => (setQueue_queue?_ne hjc _ e2).trans (setQueue_queue?_ne hj _ e1),
      ?_, fun j hj => upSe_eng_ne (hse ▸ hj) _ e3, rfl⟩
    rw [← hse]
    exact countSe_eng_cmds (seOf x.cq) 5 e3

end Sys2Proof.Machine
end

section
/-! SUPPORT. Prefetch and playback of a TX stream and the trace drain (R361, R371 to R373, R506): one equation per case that acts, and from these
the obligation about playback and traces. -/
namespace Sys2Proof.Machine

/-! The prefetch asks for a slot (R361, R371). -/

/-- Where nothing is partly read, a stream of any number of records reads its next slot. -/
theorem nextRead_fresh {st : Stream} {i : Nat} {rest : List Nat} (record : Nat) (hlimit : st.limit = 0) (hslots : st.slots = i :: rest)
    (hplaying : st.playing = []) :
    nextRead st record = some ({ no := st.next, slot := some i, late := st.startLate && st.next == 0 }, true) := by
  simp [nextRead, hlimit, hslots, hplaying]

/-- A stream whose playback buffers hold a whole record asks for the next slot at once (R371). -/
theorem txPrefetchDone_asks {q i : Nat} {x : Queue} {st : Stream} {rest : List Nat} {d : Dev} (hq : d.queue? q = some x)
    (hst : d.stream? q = some st) (hfence : d.fenceBit x.part = false) (hup : linkUp d st.src = true) (htx : st.tx = true)
    (ha : st.arming = true) (hlimit : st.limit = 0) (hslots : st.slots = i :: rest) (hplaying : st.playing = []) (hplay : st.play = [])
    (hfetch : st.fetch = none) (hrec : 64 ≤ x.record) (hcap : x.record ≤ 65536 * lanesOf (d.dcfg st.src) st.src) :
    txPrefetchDone q d = readSlot q x st.src (x.slotAddr i) 0 (x.record / 64)
      (d.setStream q { st with fetch := some (st.next, 0, x.record) }) := by
  have hblocks : ¬ x.record / 64 ≤ 0 := by omega
  simp [txPrefetchDone, hst, hq, htx, ha, hfetch, nextRead_fresh x.record hlimit hslots hplaying, hplay, hfence, hup,
    Nat.min_eq_left hcap, hblocks, upStream_some hst]

/-! The prefetch takes what has come (R371). -/

/-- Consecutive slices of 64 bytes are what they were cut from. -/
theorem flatten_slices (bs : Bytes) (n : Nat) : ((List.range n).map fun b => bs.slice (64 * b) 64).flatten = bs.take (64 * n) := by
  induction n with
  | zero => simp
  | succ n ih =>
    rw [List.range_succ, List.map_append, List.flatten_append, ih, Nat.mul_succ, List.take_add]
    simp [Bytes.slice]

/-- The pieces of a slot of which every block is answered OK. -/
def okBlocks (bs : Bytes) (n : Nat) : List (Nat × List PlayByte) := (List.range n).map fun b => (0, (bs.slice (64 * b) 64).map some)

theorem okBlocks_bytes {bs : Bytes} {n : Nat} (hlen : bs.length = 64 * n) : ((okBlocks bs n).map (·.2)).flatten = bs.map some := by
  calc ((okBlocks bs n).map (·.2)).flatten
      = (((List.range n).map fun b => bs.slice (64 * b) 64).flatten).map some := by simp [okBlocks, List.map_flatten, Function.comp_def]
    _ = bs.map some := by rw [flatten_slices, ← hlen, List.take_length]

theorem okBlocks_status (bs : Bytes) (n : Nat) : ((okBlocks bs n).map (·.1)).find? (· != 0) = none := by
  simp [okBlocks]

theorem map_span_okBlocks {answer : Nat → Nat × List PlayByte} {bs : Bytes} {n : Nat}
    (h : ∀ b, b < n → answer b = (0, (bs.slice (64 * b) 64).map some)) : (span 0 n).map answer = okBlocks bs n := by
  have hspan : span 0 n = List.range n := by simp [span]
  rw [hspan]
  exact List.map_congr_left fun b hb => h b (List.mem_range.1 hb)

/-- A stream that has taken all the bytes of its next slot's record. -/
def Stream.hold (i : Nat) (rest : List Nat) (bs : List PlayByte) (s : Stream) : Stream := { s with
  play := bs, slots := rest, next := s.next + 1
  playing := [{ no := s.next, slot := some i, late := s.startLate && s.next == 0, got := bs.length }] }

theorem takePiece_fresh {q k i : Nat} {st : Stream} {rest : List Nat} {d : Dev} (bs : List PlayByte) (hst : d.stream? q = some st)
    (hslots : st.slots = i :: rest) (hplaying : st.playing = []) (hplay : st.play = []) :
    takePiece q k st.next 0 true bs 0 d = d.setStream q (st.hold i rest bs) := by
  simp [takePiece, hst, hslots, hplaying, hplay, upStream_some hst, Dev.when, Stream.hold]

/-- A stream that holds what it needs is armed, and its STREAM_ARM completes (R371). -/
theorem armIfHeld_arms {q cap record : Nat} {st : Stream} {d : Dev} (hst : d.stream? q = some st) (ha : st.arming = true)
    (hheld : min record cap ≤ st.play.length) :
    armIfHeld q cap record d = endWaiting 9 q 0 (d.setStream q { st with arming := false, armed := true }) := by
  simp only [armIfHeld, hst, if_pos (And.intro ha hheld), upStream_some hst]

/-- The device once the CPs of link `k` have taken the answers to what stream `q` reads. -/
def Dev.takePlay (q k : Nat) (d : Dev) : Dev := Dev.fold (d.lanes k) (fun l e => takeAnswers l (playKey q) e) d

theorem takePlay_setStream (q k : Nat) (x : Stream) (d : Dev) : (d.setStream q x).takePlay q k = (d.takePlay q k).setStream q x :=
  fold_mapOther id (fun c => { c with stream := c.stream.set q x }) id 
    (fun l => takeAnswers_mapOther _ _ _ l (playKey q)) (d.lanes k) d

/-- Taking answers changes NIs only. -/
theorem takePlay_eq (q k : Nat) (d : Dev) : d.takePlay q k = { d with nis := (d.takePlay q k).nis } := by
  have hfold (l : List Nat) : ∀ e : Dev, Dev.fold l (fun n => takeAnswers n (playKey q)) e =
      { e with nis := (Dev.fold l (fun n => takeAnswers n (playKey q)) e).nis } := by
    induction l with
    | nil => exact fun _ => rfl
    | cons n l ih => exact fun e => ih (takeAnswers n (playKey q) e)
  exact hfold _ d

/-- The commands that wait do not depend on NIs and streams. -/
theorem endWaiting_congr (op q status : Nat) (ns : Tbl Ni) (c : Conv) (d : Dev) :
    endWaiting op q status { d with nis := ns, conv := c } = { endWaiting op q status d with nis := ns, conv := c } := by
  have hfold (l : List Cmd) : ∀ e : Dev, Dev.fold l (fun k => endCmd k.q k.index status 0 0) { e with nis := ns, conv := c } =
      { Dev.fold l (fun k => endCmd k.q k.index status 0 0) e with nis := ns, conv := c } := by
    induction l with
    | nil => exact fun _ => rfl
    | cons k l ih => exact fun e => ih (endCmd k.q k.index status 0 0 e)
  exact hfold _ d

/-- The end of the commands that wait changes SEs only. -/
theorem endWaiting_eq (op q status : Nat) (d : Dev) : endWaiting op q status d =
    { d with queues := { d.queues with se := (endWaiting op q status d).queues.se } } := by
  have hfold (l : List Cmd) : ∀ e : Dev, Dev.fold l (fun k => endCmd k.q k.index status 0 0) e =
      { e with queues := { e.queues with se := (Dev.fold l (fun k => endCmd k.q k.index status 0 0) e).queues.se } } := by
    induction l with
    | nil => exact fun _ => rfl
    | cons k l ih => exact fun e => ih (endCmd k.q k.index status 0 0 e)
  exact hfold _ d

/-- The end of the commands that wait, on a device with other NIs and streams. -/
theorem endWaiting_with (op q status : Nat) (ns : Tbl Ni) (c : Conv) (d : Dev) : endWaiting op q status { d with nis := ns, conv := c } =
    { d with nis := ns, conv := c, queues := { d.queues with se := (endWaiting op q status d).queues.se } } := by
  rw [endWaiting_congr, endWaiting_eq]

/-- A record all of whose READs are answered OK is loaded, and arms the stream (R371). -/
theorem txPrefetchDone_arms {q i : Nat} {bs : Bytes} {x : Queue} {st : Stream} {rest : List Nat} {d : Dev} (hq : d.queue? q = some x)
    (hst : d.stream? q = some st) (htx : st.tx = true) (ha : st.arming = true) (hlimit : st.limit = 0) (hslots : st.slots = i :: rest)
    (hplaying : st.playing = []) (hplay : st.play = []) (hfetch : st.fetch = some (st.next, 0, x.record)) (hblock : x.record % 64 = 0)
    (hopen : ∀ l, l ∈ d.lanes st.src → keyOpen d l (playKey q) = false) (hlen : bs.length = x.record)
    (hans : ∀ b, b < x.record / 64 →
      blockAnswer (keyAnswers d (st.src + b % max 1 (lanesOf (d.dcfg st.src) st.src)) (playKey q)) (x.slotAddr i + 64 * b) =
        (0, (bs.slice (64 * b) 64).map some)) :
    txPrefetchDone q d = endWaiting 9 q 0 ((d.takePlay q st.src).setStream q
      { st.hold i rest (bs.map some) with fetch := none, arming := false, armed := true }) := by
  let st1 : Stream := { st with fetch := none }
  have hshut : ((d.lanes st.src).any fun l => keyOpen d l (playKey q)) = false := by simpa using hopen
  have htaken : Dev.fold (d.lanes st.src) (fun l e => takeAnswers l (playKey q) e) (d.setStream q st1) =
      (d.takePlay q st.src).setStream q st1 := takePlay_setStream q st.src st1 d
  have hbytes := okBlocks_bytes (bs := bs) (n := x.record / 64) (by omega)
  have hpiece := takePiece_fresh (k := st.src) (bs.map some) (setStream_stream?_same q st1 (d.takePlay q st.src)) hslots hplaying hplay
  rw [setStream_setStream] at hpiece
  have harm := armIfHeld_arms (cap := 65536 * lanesOf (d.dcfg st.src) st.src) (record := x.record)
    (setStream_stream?_same q (st1.hold i rest (bs.map some)) (d.takePlay q st.src)) ha
    (by simp only [Stream.hold, List.length_map, hlen]; exact Nat.min_le_left ..)
  rw [setStream_setStream] at harm
  have hactive : ¬ (st.tx = false ∨ (st.armed || st.arming) = false) := by simp [htx, ha]
  simp only [txPrefetchDone, hst, hq, if_neg hactive, hfetch, hshut, Bool.false_eq_true, if_false, upStream_some hst,
    nextRead_fresh x.record hlimit hslots hplaying, ne_eq, not_true_eq_false, Option.getD_some, Nat.zero_add,
    Nat.zero_div, Nat.zero_mod, map_span_okBlocks hans, okBlocks_status, hbytes, List.drop_zero, Option.getD_none]
  exact (congrArg (fun e => armIfHeld q _ x.record (takePiece q st.src st.next 0 true (bs.map some) 0 e)) htaken).trans
    ((congrArg (armIfHeld q _ x.record) hpiece).trans harm)

/-! Frames that leave (R371 to R373). -/

/-- A stream of which a frame of `fb` bytes has played, due at `t`. -/
def Stream.played (t : Int) (fb : Nat) (r : Rec) (rest : List Rec) (s : Stream) : Stream := { s with
  started := true, play := s.play.drop fb
  playing := { r with done := r.done + fb, first := if r.done = 0 then t else r.first } :: rest }

/-- A frame that the playback buffers hold is decoded, and its record goes on (R372). -/
theorem playFrame_held {q k : Nat} {t : Int} {x : Queue} {st : Stream} {r : Rec} {rest : List Rec} {d : Dev}
    (hq : d.queue? q = some x) (hst : d.stream? q = some st) (harmed : st.armed = true) (hstarts : startsAt st t = true)
    (hplaying : st.playing = r :: rest) (hplay : frameBytes (d.dcfg k) k ≤ st.play.length)
    (hgot : r.done + frameBytes (d.dcfg k) k ≤ r.got) (hdone : r.done + frameBytes (d.dcfg k) k < x.record) :
    playFrame q k t false d = (decodeFrame (d.linkObj k 7) (d.linkObj k 0xD) (d.linkObj k 0xE) (st.play.take (frameBytes (d.dcfg k) k)),
      d.setStream q (st.played t (frameBytes (d.dcfg k) k) r rest)) := by
  have hheld : decide (frameBytes (d.dcfg k) k ≤ st.play.length ∧ r.done + frameBytes (d.dcfg k) k ≤ r.got) = true :=
    decide_eq_true ⟨hplay, hgot⟩
  have hstops : ¬ (st.armed = false ∨ startsAt st t = false) := by simp [harmed, hstarts]
  simp only [playFrame, hst, hq, hplaying, if_neg hstops, hheld, and_self, if_true, if_neg (Nat.not_le.mpr hdone), upStream_some hst]
  rfl

theorem txFrameDue_plays {k q : Nat} {at_ : Int} {d : Dev} (htx : (d.link k).tx = 5) (hruns : linkRuns d k = true)
    (hinj : d.faults.inj.state ≠ 1) (ha : armedStream d k true = some q) :
    txFrameDue k at_ .none d = (playFrame q k (at_ + adjustOf d k 0x10) false d).2.upLink k fun x =>
      { x with out := some (playFrame q k (at_ + adjustOf d k 0x10) false d).1 } := by
  simp [txFrameDue, htx, hruns, ha, bufferError_none hinj]

/-! The trace drain (R506). -/

theorem upFifo_fifo_same (f : Nat) (u : TraceFifo → TraceFifo) (d : Dev) : (d.upFifo f u).fifo f = u (d.fifo f) :=
  Tbl.get_modify_same ..

theorem upFifo_fifo_ne {f g : Nat} (hg : g ≠ f) (u : TraceFifo → TraceFifo) (d : Dev) : (d.upFifo f u).fifo g = d.fifo g :=
  Tbl.get_modify_ne _ _ hg u

/-- A FIFO without its oldest `n` records. -/
def TraceFifo.drop (n : Nat) (y : TraceFifo) : TraceFifo := { y with recs := y.recs.drop n }

/-- A trace record with `n` more trace records. -/
def Rec.drain (n : Nat) (r : Rec) : Rec := { r with done := r.done + 32 * n }

/-- The oldest `n` records of FIFO `f`, presented by the engine of stream `q` at the end of its record. -/
def putTraces (q f n : Nat) (x : Queue) (r : Rec) (d : Dev) : Dev :=
  engineWrite (seNi (seOf q)) x.part (d.fcfg.nat 0x2F01 1) (x.slotAddr (r.slot.getD 0) + r.done) ((d.fifo f).recs.take n).flatten d

/-- A drain moves the whole records that leave room in the record in progress (R506). -/
theorem drainTrace_moves {q f n : Nat} {x : Queue} {st : Stream} {r : Rec} {d : Dev} (hq : d.queue? q = some x)
    (hst : d.stream? q = some st) (hcur : st.cur = some r) (hn : min (d.fifo f).recs.length ((x.record - r.done) / 32) = n)
    (hpos : 0 < n) (hroom : r.done + 32 * n < x.record) :
    drainTrace q f d = ((putTraces q f n x r d).upFifo f (TraceFifo.drop n)).setStream q { st with cur := some (r.drain n) } := by
  have hput : engineWrite (seNi (seOf q)) x.part (d.fcfg.nat 0x2F01 1) (x.slotAddr (r.slot.getD 0) + r.done)
      ((d.fifo f).recs.take n).flatten (d.upFifo f (TraceFifo.drop n)) = (putTraces q f n x r d).upFifo f (TraceFifo.drop n) :=
    engineWrite_mapOther id id (fun t => t.modify {} f (TraceFifo.drop n)) _ _ _ _ _ d
  have hstream : ((putTraces q f n x r d).upFifo f (TraceFifo.drop n)).stream? q = some st :=
    ((engineWrite_nisChanged ..).stream? (d := d) q).trans hst
  simp only [drainTrace, hq, hst, hcur, hn, if_neg (Nat.ne_of_gt hpos), if_neg (Nat.not_le.mpr hroom)]
  exact (congrArg (fun e => Dev.upStream q _ e) hput).trans (upStream_some hstream _)

theorem traceDrainPoll_drains {f q : Nat} {x : Queue} {st : Stream} {r : Rec} {d : Dev} (ha : traceStream d f = some q)
    (hq : d.queue? q = some x) (hst : d.stream? q = some st) (htakes : unitAdmits d (seNi (seOf q)) x.part = true)
    (hcur : st.cur = some r) : traceDrainPoll f d = drainTrace q f d := by
  simp [traceDrainPoll, ha, hq, htakes, beginTrace, hst, hcur]

/-- Settles O29, command by command from the equations above. -/
theorem playbackAndTrace : Obligations.PlaybackAndTrace := by
  refine ⟨fun q i x st rest s hw hs hq hst hfence hup htx ha hlimit hslots hplaying hplay hfetch hrec hcap => ?asks,
    fun q i bs x st rest s hw hs hq hst htx ha harmed hlimit hslots hplaying hplay hfetch hrec hblock hcap hopen hlen hans => ?arms,
    fun k q at_ x st r rest s hw hs htx hruns hinj ha hq hst harmed hstarts hplaying hplay hgot hdone => ?plays,
    fun f q n x st r s hw hs ha hq hst htakes hcur hn hpos hroom => ?drains⟩
  case asks =>
    have hasks := txPrefetchDone_asks hq hst hfence hup htx ha hlimit hslots hplaying hplay hfetch hrec hcap
    have hread := readSlot_mapOther id (fun c => { c with stream := c.stream.set q { st with fetch := some (st.next, 0, x.record) } }) id
      q x st.src (x.slotAddr i) 0 (x.record / 64) s.dev
    have hchanged := readSlot_nisChanged q x st.src (x.slotAddr i) 0 (x.record / 64) s.dev
    have hset := hasks.trans hread
    generalize readSlot q x st.src (x.slotAddr i) 0 (x.record / 64) s.dev = e at hchanged hset ⊢
    obtain ⟨ns, fs, rfl⟩ := nisChanged_iff.1 hchanged
    exact completes_of_effect rfl hw hs hset ⟨setStream_stream?_same q _ { s.dev with nis := ns, faults := fs },
      fun j hj => setStream_stream?_ne hj _ { s.dev with nis := ns, faults := fs }, rfl, rfl⟩
  case arms =>
    let st1 : Stream := { st.hold i rest (bs.map some) with fetch := none, arming := false, armed := true }
    let c1 : Conv := { s.dev.conv with stream := s.dev.conv.stream.set q st1 }
    have harms := txPrefetchDone_arms hq hst htx ha hlimit hslots hplaying hplay hfetch hblock hopen hlen hans
    have hstream : st1 = { st with
        arming := false, armed := true, slots := rest, next := st.next + 1, fetch := none, play := bs.map some
        playing := [{ no := st.next, slot := some i, late := st.startLate && st.next == 0, got := x.record }] } := by
      simp only [st1, Stream.hold, List.length_map, hlen]
    rw [takePlay_eq] at harms
    exact completes_of_effect rfl hw hs (harms.trans (endWaiting_with 9 q 0 (s.dev.takePlay q st.src).nis c1 s.dev))
      ⟨(setStream_stream?_same q st1 s.dev).trans (congrArg some hstream), fun j hj => setStream_stream?_ne hj st1 s.dev, rfl, rfl, rfl⟩
  case plays =>
    have hframe := playFrame_held hq hst harmed hstarts hplaying hplay hgot hdone
    have hset := txFrameDue_plays (at_ := at_) htx hruns hinj ha
    rw [hframe] at hset
    exact completes_of_effect rfl hw hs hset ⟨Dev.upLink_link_same .., fun j hj => Dev.upLink_link_ne hj _ _,
      setStream_stream?_same .., fun j hj => setStream_stream?_ne hj _ s.dev, rfl⟩
  case drains =>
    have hset := (traceDrainPoll_drains ha hq hst htakes hcur).trans (drainTrace_moves hq hst hcur hn hpos hroom)
    have hchanged : NisChanged s.dev (putTraces q f n x r s.dev) := engineWrite_nisChanged ..
    have hwrites : Writes s.dev (putTraces q f n x r s.dev) (seNi (seOf q)) x.part (s.dev.fcfg.nat 0x2F01 1)
      (x.slotAddr (r.slot.getD 0) + r.done) ((s.dev.fifo f).recs.take n).flatten := ⟨rfl, rfl⟩
    generalize putTraces q f n x r s.dev = e at hchanged hset hwrites
    obtain ⟨ns, fs, rfl⟩ := nisChanged_iff.1 hchanged
    let e : Dev := { s.dev with nis := ns, faults := fs }
    exact completes_of_effect rfl hw hs hset ⟨hwrites, upFifo_fifo_same f (TraceFifo.drop n) e,
      fun g hg => upFifo_fifo_ne hg (TraceFifo.drop n) e, setStream_stream?_same q _ e, fun j hj => setStream_stream?_ne hj _ e, rfl⟩

end Sys2Proof.Machine
end

section
/-! SUPPORT. One step of the queue, and one FCLK period where no command waits (R441, R186, R454): from these the obligations about what every step keeps
and about the step of an empty queue. -/
namespace Sys2Proof.Machine

theorem step_empty {s : State} (h : s.pending = []) : step s = .next { s with dev := idleEdge s.dev } := by
  simp only [step, h]

theorem step_cons {s : State} {c : Instr} {rest : List Instr} (h : s.pending = c :: rest) :
    step s = exec c { s with pending := rest } := by
  simp only [step, h]

/-- Settles O1. -/
theorem stepRunsFrontCommand : Obligations.StepRunsFrontCommand := fun _ _ _ h => step_cons h

/-! What a re-anchoring keeps. -/

/-- `t` has the memory of `d` and the memory changes that wait. -/
def BusKept (d t : Dev) : Prop := t.mem = d.mem ∧ t.bus = d.bus

theorem BusKept.trans {d t u : Dev} (h : BusKept d t) (k : BusKept t u) : BusKept d u := ⟨k.1.trans h.1, k.2.trans h.2⟩

theorem BusKept.raise (src inst : Nat) (d : Dev) : BusKept d (d.raise src inst) := by
  obtain ⟨i, inj, h⟩ := Dev.raise_event src inst 0xFF 0 d
  rw [h]
  exact ⟨rfl, rfl⟩

theorem BusKept.fold {α : Type} {f : α → Dev → Dev} (h : ∀ x d, BusKept d (f x d)) (l : List α) :
    ∀ d, BusKept d (Dev.fold l f d) := by
  induction l with
  | nil => exact fun _ => ⟨rfl, rfl⟩
  | cons x l ih => exact fun d => (h x d).trans (ih (f x d))

theorem anchorGrids_busKept (d : Dev) : BusKept d (anchorGrids d) := by
  refine BusKept.fold (fun k e => ?_) _ d
  split
  · exact ⟨rfl, rfl⟩
  · dsimp only
    split
    · split
      · exact BusKept.raise 0xCD k (e.upSysref k _)
      · exact ⟨rfl, rfl⟩
    · exact ⟨rfl, rfl⟩

theorem idleEdge_busKept (d : Dev) : BusKept d (idleEdge d) := by
  unfold idleEdge
  dsimp only
  split
  · exact anchorGrids_busKept { d with clock := { d.clock with wall := d.clock.wall + 1, edges := d.clock.edges + 1 } }
  · exact ⟨rfl, rfl⟩

/-- Settles O4: an idle period touches no memory, and the end of every command leaves it canonical. -/
theorem invKeptByEveryStep : Obligations.InvKeptByEveryStep := by
  intro s t hi hstep
  cases hp : s.pending with
  | nil =>
    obtain ⟨hmem, hbus⟩ := idleEdge_busKept s.dev
    rw [step_empty hp] at hstep
    cases hstep
    exact ⟨hmem.symm ▸ hi.1, hbus.trans hi.2⟩
  | cons c rest =>
    rw [step_cons hp] at hstep
    cases hw : c.wellFormed with
    | false =>
      rw [exec_illFormed hw] at hstep
      cases hstep
    | true =>
      obtain ⟨u, hu, -, hinv⟩ := exec_wellFormed_next (s := { s with pending := rest }) hw hi
      rw [hu] at hstep
      cases hstep
      exact hinv

/-! The re-anchoring that falls due while no command waits. -/

/-- A device out of reset whose FCLK runs, with a moved and enabled SYSREF output that is to be re-anchored at second 0. -/
def anchorDue : State := { State.reset with dev := { State.reset.dev with
  clock := { State.reset.dev.clock with running := true }
  doms := [(0x29, { shadow := [(0x2D4001, [byte 1])] })]
  timing := { State.reset.dev.timing with sysref := [(0, { offset := 1, anchorAt := some 0 })] } } }

/-- The re-anchoring raises 0xCD. -/
theorem anchorDue_raises : (idleEdge anchorDue.dev).faults.crossing ≠ anchorDue.dev.faults.crossing := by
  decide

/-- Refutes O2: an idle period in which a moved SYSREF output is re-anchored raises 0xCD (R454), so the fault collector changes too. -/
theorem not_idleStep : ¬ Obligations.IdleStep := by
  intro h
  obtain ⟨t, hstep, -, -, -, ht⟩ := h anchorDue rfl
  rw [step_empty rfl] at hstep
  cases hstep
  exact anchorDue_raises (congrArg (fun d => d.faults.crossing) ht)

end Sys2Proof.Machine
end

section
/-! SUPPORT. The states of a probe (R501, R507): one equation per command that moves it, and from these the obligation about probes. -/
namespace Sys2Proof.Machine

@[simp] theorem Dev.upProbe_probe_same (j : Nat) (f : Probe → Probe) (d : Dev) : (d.upProbe j f).probe j = f (d.probe j) :=
  Tbl.get_modify_same ..

theorem Dev.upProbe_probe_ne {j i : Nat} (hi : i ≠ j) (f : Probe → Probe) (d : Dev) : (d.upProbe j f).probe i = d.probe i :=
  Tbl.get_modify_ne _ _ hi f

/-- Probe `j` of `t` is `x`, and nothing else of `d` has changed. -/
def ProbeIs (d t : Dev) (j : Nat) (x : Probe) : Prop :=
  t.probe j = x ∧ (∀ i, i ≠ j → t.probe i = d.probe i) ∧ t = { d with probes := { d.probes with probe := t.probes.probe } }

/-- A command whose effect is an update of one probe. -/
theorem completes_upProbe {c : Instr} {f : Dev → Dev} {s : State} {j : Nat} {g : Probe → Probe}
    (he : exec c s = act c.wellFormed f s) (hw : c.wellFormed = true) (hs : s.Ready) (hf : f s.dev = s.dev.upProbe j g) :
    Completes c s fun t => ProbeIs s.dev t j (g (s.dev.probe j)) :=
  completes_of_effect he hw hs hf ⟨Dev.upProbe_probe_same j g s.dev, fun _ hi => Dev.upProbe_probe_ne hi g s.dev, rfl⟩

/-- A probe that enters RUNNING, its rate meter cleared (R501). -/
def Probe.run (x : Probe) : Probe := { x with
  state := 2, valid := false, last := 0, interval := 0, matched := 0, produced := 0, startSeen := false, stopSeen := false }

/-- A probe that stops (R507). -/
def Probe.halt (x : Probe) : Probe := { x with state := 3, interval := 0 }

/-- A probe whose rate interval ends (R501). -/
def Probe.latch (x : Probe) : Probe := { x with last := x.interval, peak := max x.peak x.interval, valid := true, interval := 0 }

theorem probeStartCondition_runs {j : Nat} {d : Dev} (ha : (d.probe j).state = 1) (hs : startHolds d j = true)
    (hn : stopWithStart d j = false) : probeStartCondition j d = d.upProbe j Probe.run := by
  rw [probeStartCondition, if_pos ⟨ha, hs⟩, hn]
  rfl

theorem probeStopCondition_stops {j : Nat} {d : Dev} (hr : (d.probe j).state = 2) (hs : stopHolds d j = true) :
    probeStopCondition j d = d.upProbe j Probe.halt := if_pos ⟨hr, hs⟩

theorem rateIntervalEnd_latches {j : Nat} {d : Dev} (hr : (d.probe j).state = 2) :
    rateIntervalEnd j d = d.upProbe j Probe.latch := if_pos hr

/-- Settles O8, command by command from the equations above. -/
theorem probeStateMachine : Obligations.ProbeStateMachine := by
  refine ⟨fun j s hw hs ha hstart hstop => ?start, fun j s hw hs hr hstop => ?stop, fun j s hw hs hr => ?interval⟩
  case start =>
    refine (completes_upProbe rfl hw hs (probeStartCondition_runs ha hstart hstop)).imp fun t ⟨hj, hi, ht⟩ => ?_
    rw [hj]
    exact ⟨rfl, rfl, rfl, rfl, rfl, rfl, hi, ht⟩
  case stop => exact completes_upProbe rfl hw hs (probeStopCondition_stops hr hstop)
  case interval => exact completes_upProbe rfl hw hs (rateIntervalEnd_latches hr)

end Sys2Proof.Machine
end

section
/-! SUPPORT. The counter of descriptors ended is a 32-bit register (R424), so the statement about descriptors, which lets it count to
64 bits, fails. -/
namespace Sys2Proof.Machine

/-- A descriptor of partition 0 whose outcome stands. -/
def standingRun : Ran := { job := { q := 0, index := 0, part := 0, desc := [] } }

/-- The device after reset, with that descriptor at unit 0 and its counter of descriptors ended at its maximum. -/
def counterFull : State := { State.reset with dev := { State.reset.dev with
  ops := [(0, { run := some standingRun, counts := [(3, 2 ^ 32 - 1)] })] } }

/-- The counter saturates at 32 bits. -/
theorem counterFull_descriptorEnd : ((descriptorEnd 0 0 counterFull.dev).op 0).counts.get 0 3 = 2 ^ 32 - 1 := by
  decide

/-- Refutes O33: the clause about the end of a descriptor gives the counter of descriptors ended 64 bits, and it saturates at 32. -/
theorem not_operatorDescriptors : ¬ Obligations.OperatorDescriptors := by
  rintro ⟨-, -, hend, -⟩
  have hw : (Instr.descriptorEnd 0 0).wellFormed = true := by decide
  have hcompletes := hend 0 0 standingRun counterFull hw ⟨rfl, rfl⟩ rfl rfl (by decide) rfl rfl rfl
  obtain ⟨-, hcount, -⟩ := hcompletes.effect (f := descriptorEnd 0 0) rfl hw rfl
  exact absurd (counterFull_descriptorEnd.symm.trans hcount) (by decide)

end Sys2Proof.Machine
end

section
/-! SUPPORT. A registration keeps the queue that its event names (R472), so the statement about the collector, which leaves the
source's queue as it was, fails. -/
namespace Sys2Proof.Machine

/-- An event of source 0x20 that names queue 1. -/
def queueEvent : FaultEvent := { src := 0x20, queue := some 1 }

/-- The device after reset, its collector enabled, with that event crossed, below its source's threshold and without reactions. -/
def eventCrossed : State := { State.reset with dev := { State.reset.dev with
  faults := { State.reset.dev.faults with enabled := true, crossing := [queueEvent] }
  doms := [(3, { shadow := [(0x402003, [byte 5]), (0x402005, [byte 0])] })] } }

/-- The registration keeps the queue of the event. -/
theorem eventCrossed_registered : ((faultEventRegister .none [] eventCrossed.dev).source 0x20).queue = some 1 := by
  decide

/-- That registration resets nothing, so it cuts off no transaction. -/
theorem eventCrossed_chipResets : chipResets (faultEventRegister .none []) eventCrossed.dev = false := by
  decide

/-- Refutes O45: the clause about an event below its threshold leaves the source's queue as it was, and the registration takes the
queue that the event names. -/
theorem not_faultCollector : ¬ Obligations.FaultCollector := by
  rintro ⟨hbelow, -⟩
  have hw : (Instr.faultEventRegister .none [] .idle).wellFormed = true := by decide
  have hcompletes := hbelow queueEvent [] .idle eventCrossed.dev eventCrossed hw ⟨rfl, rfl⟩ rfl rfl rfl rfl (by decide) (by decide)
  obtain ⟨hsource, -⟩ := hcompletes.effect (f := cutIfReset .idle (faultEventRegister .none [])) rfl hw rfl
  rw [cutIfReset, eventCrossed_chipResets, if_neg Bool.false_ne_true] at hsource
  have hqueue := congrArg SourceState.queue hsource
  exact absurd (eventCrossed_registered.symm.trans hqueue) (by decide)

end Sys2Proof.Machine
end

section
/-! SUPPORT. What the TTU sends (R445), a change of chassis time as the TTU hands it out and the strobe applies it (R443), and from
these the obligations about chassis time and about the election. -/
namespace Sys2Proof.Machine

/-! Folds over the device. -/

/-- A relation that is reflexive and transitive and holds of every step of a fold holds of the fold. -/
theorem Dev.fold_rel {α : Type} {R : Dev → Dev → Prop} (hrefl : ∀ d, R d d) (htrans : ∀ {d t u}, R d t → R t u → R d u)
    {f : α → Dev → Dev} (l : List α) (h : ∀ x ∈ l, ∀ d, R d (f x d)) : ∀ d, R d (Dev.fold l f d) := by
  induction l with
  | nil => exact hrefl
  | cons x l ih =>
    exact fun d => htrans (h x List.mem_cons_self d) (ih (fun y hy => h y (List.mem_cons_of_mem x hy)) (f x d))

theorem NiIs.refl (d : Dev) (n : Nat) : NiIs d d n (d.ni n) := ⟨rfl, fun _ _ => rfl, rfl⟩

theorem NiIs.trans {d t u : Dev} {n : Nat} {x y : Ni} (h : NiIs d t n x) (k : NiIs t u n y) : NiIs d u n y := by
  obtain ⟨-, hothers, ht⟩ := h
  obtain ⟨hy, kothers, hu⟩ := k
  refine ⟨hy, fun i hi => (kothers i hi).trans (hothers i hi), ?_⟩
  rw [hu, ht]

/-- Updates of one NI in turn. -/
theorem fold_upNi_niIs {α : Type} {f : α → Dev → Dev} {n : Nat} {g : Ni → α → Ni}
    (h : ∀ e d, f e d = d.upNi n fun x => g x e) (l : List α) : ∀ d, NiIs d (Dev.fold l f d) n (l.foldl g (d.ni n)) := by
  induction l with
  | nil => exact fun d => NiIs.refl d n
  | cons e l ih =>
    intro d
    have hstep : NiIs d (f e d) n (g (d.ni n) e) := h e d ▸ Dev.upNi_niIs n _ d
    have hrest := hstep.trans (ih (f e d))
    rwa [hstep.1] at hrest

/-! Messages of the TTU. -/

/-- A message of the TTU behind those that R445 puts first. -/
def Ni.ttuPut (x : Ni) (p : Packet) : Ni :=
  { x with out := (x.out.filter fun o => !decide (ttuRank p < ttuRank o.pkt)) ++ [{ pkt := p, kind := .message }] ++
      x.out.filter fun o => decide (ttuRank p < ttuRank o.pkt) }

theorem ttuSend_eq (p : Packet) (d : Dev) : ttuSend p d = d.upNi 64 fun x => x.ttuPut p := rfl

theorem Ni.mem_ttuPut (x : Ni) (p : Packet) : ({ pkt := p, kind := .message } : Out) ∈ (x.ttuPut p).out := by
  simp [Ni.ttuPut]

theorem Ni.ttuPut_keeps {x : Ni} {p : Packet} {o : Out} (h : o ∈ x.out) : o ∈ (x.ttuPut p).out := by
  by_cases hr : ttuRank p < ttuRank o.pkt <;> simp [Ni.ttuPut, h, hr]

/-- An NI that has been given the messages `m` names, one for each entry of a list. -/
def Ni.ttuPutAll {α : Type} (m : α → Packet) (l : List α) (x : Ni) : Ni := l.foldl (fun x e => x.ttuPut (m e)) x

section
variable {α : Type} (m : α → Packet)

theorem Ni.ttuPutAll_keeps {o : Out} (l : List α) : ∀ {x : Ni}, o ∈ x.out → o ∈ (x.ttuPutAll m l).out := by
  induction l with
  | nil => exact id
  | cons e l ih => exact fun h => ih (Ni.ttuPut_keeps h)

theorem Ni.mem_ttuPutAll {e : α} {l : List α} (he : e ∈ l) (x : Ni) :
    ({ pkt := m e, kind := .message } : Out) ∈ (x.ttuPutAll m l).out := by
  induction l generalizing x with
  | nil => cases he
  | cons k l ih =>
    obtain rfl | hl := List.mem_cons.1 he
    · exact Ni.ttuPutAll_keeps m l (x.mem_ttuPut (m e))
    · exact ih hl (x.ttuPut (m k))

theorem Ni.ttuPutAll_frame (l : List α) : ∀ x : Ni, x.ttuPutAll m l = { x with out := (x.ttuPutAll m l).out } := by
  induction l with
  | nil => exact fun _ => rfl
  | cons e l ih => exact fun x => ih (x.ttuPut (m e))

theorem fold_ttuSend_niIs (l : List α) (d : Dev) :
    NiIs d (Dev.fold l (fun e acc => ttuSend (m e) acc) d) 64 ((d.ni 64).ttuPutAll m l) :=
  fold_upNi_niIs (fun e d => ttuSend_eq (m e) d) l d

end

/-! A change of chassis time. -/

/-- The TTU's NI after one entry of a change: its own, or a message to another NI (R443). -/
def Ni.takeChange (x : Ni) (e : Nat × TimeChange) : Ni :=
  if e.1 = 64 then { x with change := some e.2 } else x.ttuPut (changeMessage e.1 e.2)

theorem Ni.takeChange_keeps {x : Ni} {e : Nat × TimeChange} {o : Out} (h : o ∈ x.out) : o ∈ (x.takeChange e).out := by
  unfold Ni.takeChange
  split
  · exact h
  · exact Ni.ttuPut_keeps h

theorem Ni.takeChanges_keep {o : Out} (l : Tbl TimeChange) : ∀ {x : Ni}, o ∈ x.out → o ∈ (l.foldl Ni.takeChange x).out := by
  induction l with
  | nil => exact id
  | cons e l ih => exact fun h => ih (Ni.takeChange_keeps h)

theorem Ni.mem_takeChanges {n : Nat} {c : TimeChange} (hn : n ≠ 64) {l : Tbl TimeChange} (he : (n, c) ∈ l) (x : Ni) :
    ({ pkt := changeMessage n c, kind := .message } : Out) ∈ (l.foldl Ni.takeChange x).out := by
  induction l generalizing x with
  | nil => cases he
  | cons k l ih =>
    obtain rfl | hl := List.mem_cons.1 he
    · refine Ni.takeChanges_keep l ?_
      rw [Ni.takeChange, if_neg hn]
      exact x.mem_ttuPut _
    · exact ih hl (x.takeChange k)

/-- The TTU's own NI holds the last change that names it. -/
theorem Ni.takeChanges_change (l : Tbl TimeChange) : ∀ x : Ni,
    (l.foldl Ni.takeChange x).change = (l.filter (·.1 == 64)).foldl (fun _ e => some e.2) x.change := by
  induction l with
  | nil => exact fun _ => rfl
  | cons e l ih =>
    intro x
    refine (ih (x.takeChange e)).trans ?_
    by_cases he : e.1 = 64
    · simp [Ni.takeChange, he]
    · simp [Ni.takeChange, Ni.ttuPut, he]

theorem everyNi_ttu (c : TimeChange) : (everyNi c).filter (·.1 == 64) = [(64, c)] := rfl

theorem mem_everyNi {c : TimeChange} {n : Nat} (hn : n < 67) : (n, c) ∈ everyNi c :=
  List.mem_map.2 ⟨n, List.mem_range.2 hn, rfl⟩

/-- `t` is `d` with the change `q` asked for and its messages at the TTU's NI. -/
def ChangeAsked (d t : Dev) (q : TimeReq) : Prop :=
  t.timing = { d.timing with pending := some q } ∧ t.ni 64 = q.nis.foldl Ni.takeChange (d.ni 64) ∧ NiOnly d t 64 ∧
    t = { d with timing := t.timing, nis := t.nis }

/-- Where no change is pending, one that is asked for is handed out at once (R443). -/
theorem requestChange_asked {q : TimeReq} {d : Dev} (hp : d.timing.pending = none) : ChangeAsked d (requestChange q d) q := by
  have hs : requestChange q d = startChange q d := if_pos (by rw [hp]; rfl)
  have hfold := fold_upNi_niIs (g := Ni.takeChange) (n := 64) (f := fun (e : Nat × TimeChange) acc =>
      if e.1 = 64 then acc.upNi 64 fun x => { x with change := some e.2 } else ttuSend (changeMessage e.1 e.2) acc)
    (fun e d => by unfold Ni.takeChange; split <;> rfl) q.nis (d.onTiming fun t => { t with pending := some q })
  rw [hs]
  obtain ⟨hni, honly, hframe⟩ := hfold
  refine ⟨?_, hni, honly, ?_⟩
  · exact congrArg Dev.timing hframe
  · exact hframe.trans (by rw [startChange, hframe]; rfl)

/-- A change for every NI: the TTU's own NI holds it, and a message goes to each of the others. -/
theorem ChangeAsked.every {d t : Dev} {m : MasterChange} {c : TimeChange} (h : ChangeAsked d t { master := m, nis := everyNi c }) :
    (t.ni 64).change = some c ∧
      ∀ n, n < 67 → n ≠ 64 → ({ pkt := changeMessage n c, kind := .message } : Out) ∈ (t.ni 64).out := by
  obtain ⟨-, hni, -, -⟩ := h
  rw [hni]
  refine ⟨?_, fun n hn hne => Ni.mem_takeChanges hne (mem_everyNi hn) _⟩
  rw [Ni.takeChanges_change, everyNi_ttu]
  rfl

theorem ChangeAsked.memoryKept {d t : Dev} {q : TimeReq} (h : ChangeAsked d t q) : MemoryKept d t := by
  obtain ⟨-, -, -, hframe⟩ := h
  rw [hframe]
  exact ⟨rfl, rfl, rfl, rfl⟩

/-! The strobe. -/

/-- The device with the change of NI `n` applied where it holds one. -/
def strobeAt (edges m : Int) (n : Nat) (d : Dev) : Dev :=
  if (d.ni n).change.isSome then d.upNi n (strobeNi edges m) else d

theorem strobeAt_ni_same (edges m : Int) (n : Nat) (d : Dev) : (strobeAt edges m n d).ni n =
    if (d.ni n).change.isSome then strobeNi edges m (d.ni n) else d.ni n := by
  unfold strobeAt
  split
  · exact Dev.upNi_ni_same n _ d
  · rfl

theorem strobeAt_ni_ne (edges m : Int) {n i : Nat} (hi : i ≠ n) (d : Dev) : (strobeAt edges m n d).ni i = d.ni i := by
  unfold strobeAt
  split
  · exact Dev.upNi_ni_ne hi _ d
  · rfl

/-- `t` is `d` but for the NIs. -/
def NisOnly (d t : Dev) : Prop := t = { d with nis := t.nis }

theorem NisOnly.trans {d t u : Dev} (h : NisOnly d t) (k : NisOnly t u) : NisOnly d u := by
  unfold NisOnly at *
  rw [k, h]

theorem strobeAt_nisOnly (edges m : Int) (n : Nat) (d : Dev) : NisOnly d (strobeAt edges m n d) := by
  unfold strobeAt
  split <;> rfl

theorem fold_strobeAt_nisOnly (edges m : Int) (l : List Nat) (d : Dev) : NisOnly d (Dev.fold l (strobeAt edges m) d) :=
  Dev.fold_rel (R := NisOnly) (fun _ => rfl) NisOnly.trans l (fun n _ => strobeAt_nisOnly edges m n) d

theorem fold_strobeAt_not_mem (edges m : Int) {n : Nat} : ∀ {l : List Nat}, n ∉ l → ∀ d : Dev,
    (Dev.fold l (strobeAt edges m) d).ni n = d.ni n
  | [], _, _ => rfl
  | k :: l, hn, d => by
    rw [List.mem_cons, not_or] at hn
    exact (fold_strobeAt_not_mem edges m hn.2 (strobeAt edges m k d)).trans (strobeAt_ni_ne edges m hn.1 d)

/-- Every NI is strobed once. -/
theorem fold_strobeAt_mem (edges m : Int) {n : Nat} : ∀ {l : List Nat}, l.Nodup → n ∈ l → ∀ d : Dev,
    (Dev.fold l (strobeAt edges m) d).ni n = if (d.ni n).change.isSome then strobeNi edges m (d.ni n) else d.ni n
  | k :: l, hl, hn, d => by
    obtain ⟨hk, hl⟩ := List.nodup_cons.1 hl
    by_cases he : n = k
    · subst he
      exact (fold_strobeAt_not_mem edges m hk (strobeAt edges m n d)).trans (strobeAt_ni_same edges m n d)
    · have h := fold_strobeAt_mem edges m hl ((List.mem_cons.1 hn).resolve_left he) (strobeAt edges m k d)
      rwa [strobeAt_ni_ne edges m he] at h

/-- `t` is `d` but for SYSREF outputs and raised events. -/
def GridsMoved (d t : Dev) : Prop :=
  t = { d with
    timing := { d.timing with sysref := t.timing.sysref }
    faults := { d.faults with crossing := t.faults.crossing, inj := t.faults.inj } }

theorem GridsMoved.trans {d t u : Dev} (h : GridsMoved d t) (k : GridsMoved t u) : GridsMoved d u := by
  unfold GridsMoved at *
  rw [k, h]

theorem GridsMoved.raise (src inst : Nat) (d : Dev) : GridsMoved d (d.raise src inst) := by
  obtain ⟨i, inj, h⟩ := Dev.raise_event src inst 0xFF 0 d
  unfold GridsMoved
  rw [h]

theorem moveGrids_moved (by_ : Int) (d : Dev) : GridsMoved d (moveGrids by_ d) := by
  unfold moveGrids
  split
  · rfl
  · refine Dev.fold_rel (R := GridsMoved) (fun _ => rfl) GridsMoved.trans _ (fun k _ e => ?_) d
    split
    · rfl
    · split
      · exact .raise 0xCD k e
      · rfl

/-- A strobe for which no message is still to be injected, with no next change asked for (R443). -/
theorem timeStrobe_applies {q : TimeReq} {m : Int} {d : Dev} (hp : d.timing.pending = some q) (hw : changesWait d = false)
    (hn : d.timing.next.nis = []) (hm : m = q.master.apply d.timing.master) :
    timeStrobe d = moveGrids (m - d.timing.master) (Dev.fold (List.range 67) (strobeAt d.clock.edges m)
      (d.onTiming fun t => { t with master := m, pending := none, next := {} })) := by
  subst hm
  simp only [timeStrobe, hp, hw, hn, Bool.false_eq_true, if_false, List.isEmpty_nil, if_true]
  rfl

/-- An error report that does not find a synchronised PTP port takes time valid back to 1 (R446). -/
theorem ptpMasterLoss_locked {st : Nat} {d : Dev} (hs : d.tcfg.nat 0x2D10 2 = 1) (hv : d.timing.valid = 2) :
    ptpMasterLoss st d = (d.onTiming fun t => { t with ptpState := st, ptpGood := 0, valid := 1 }).raise 0xC7 := by
  simp only [ptpMasterLoss, hs, hv, beq_self_eq_true, Bool.and_self, if_true]
  rfl

theorem replicaReload_asks {vc : Nat} {p : Packet} {d : Dev} (hf : d.front 64 vc = some (p, false)) (ht : p.ty = 4)
    (hm : p.mq = 0xFE) : replicaReload vc d = requestChange { nis := [(p.src, .load)] }
      (((popEj 64 vc d).onTiming fun t => { t with reloads := inc32 t.reloads }).raise 0xCC p.src) := by
  simp only [replicaReload, hf, ht, hm, and_self, if_true, Bool.false_eq_true, if_false]

theorem slewTick_asks {b : Int} {d : Dev} (hb : d.timing.backlog = b) (hne : b ≠ 0) {k : Int} (hk : k = if b < 0 then -1 else 1) :
    slewTick d = requestChange { master := .add (2 * k), nis := everyNi (.add k) }
      (d.onTiming fun t => { t with backlog := b - k }) := by
  subst hk
  simp only [slewTick, hb, hne, if_false]

/-- Settles O36, command by command from the equations above. -/
theorem chassisTime : Obligations.ChassisTime := by
  refine ⟨fun s hw hs hb hp => ?slew, fun q m s hw hs hp hc hn hm => ?strobe, fun s hw hs => ?sync,
    fun vc p s hw hs hf ht hmq hsrc hp hi => ?reload, fun st s hw hs hsrc hv hi => ?loss⟩
  case slew =>
    have hasked := requestChange_asked (d := s.dev.onTiming fun t => { t with
        backlog := s.dev.timing.backlog - (if s.dev.timing.backlog < 0 then -1 else 1) })
      (q := { master := .add (2 * (if s.dev.timing.backlog < 0 then -1 else 1))
              nis := everyNi (.add (if s.dev.timing.backlog < 0 then -1 else 1)) }) hp
    obtain ⟨hchange, hout⟩ := hasked.every
    refine completes_of_effect rfl hw hs (slewTick_asks rfl hb rfl) ?_ hasked.memoryKept
    obtain ⟨htiming, -, honly, hframe⟩ := hasked
    exact ⟨htiming, hchange, hout, honly, hframe⟩
  case strobe =>
    have hstrobed := fold_strobeAt_nisOnly s.dev.clock.edges m (List.range 67)
      (s.dev.onTiming fun t => { t with master := m, pending := none, next := {} })
    have hin := fun n hn => fold_strobeAt_mem s.dev.clock.edges m List.nodup_range (List.mem_range.2 hn)
      (n := n) (l := List.range 67) (s.dev.onTiming fun t => { t with master := m, pending := none, next := {} })
    have hout := fun n hn => fold_strobeAt_not_mem s.dev.clock.edges m hn
      (n := n) (l := List.range 67) (s.dev.onTiming fun t => { t with master := m, pending := none, next := {} })
    have hmoved := moveGrids_moved (m - s.dev.timing.master) (Dev.fold (List.range 67) (strobeAt s.dev.clock.edges m)
      (s.dev.onTiming fun t => { t with master := m, pending := none, next := {} }))
    revert hstrobed hin hout hmoved
    have heffect := timeStrobe_applies hp hc hn hm
    generalize Dev.fold (List.range 67) (strobeAt s.dev.clock.edges m) _ = e at heffect ⊢
    revert heffect
    generalize moveGrids _ e = t
    intro heffect hstrobed hin hout hmoved
    unfold NisOnly at hstrobed
    unfold GridsMoved at hmoved
    have hframe : t = { s.dev with
        timing := { s.dev.timing with master := m, pending := none, next := {}, sysref := t.timing.sysref }
        nis := t.nis
        faults := { s.dev.faults with crossing := t.faults.crossing, inj := t.faults.inj } } := by
      rw [hmoved, hstrobed]
      rfl
    have hni (n : Nat) : t.ni n = e.ni n := by
      have h := congrArg (Dev.ni · n) hmoved
      exact h
    refine completes_of_effect rfl hw hs heffect ⟨fun n hn => (hni n).trans (hin n hn), fun n hn => (hni n).trans (hout n ?_),
      congrArg Dev.timing hframe, ?_⟩ ?_
    · simpa using hn
    · rw [hframe]
    · rw [hframe]
      exact ⟨rfl, rfl, rfl, rfl⟩
  case sync =>
    obtain ⟨hni, honly, hframe⟩ := fold_ttuSend_niIs (fun n => messagePkt 64 0 0 n 0xFE 0 []) ((List.range 67).filter (· != 64)) s.dev
    refine completes_of_effect (f := syncSend) (t := syncSend s.dev) rfl hw hs rfl ⟨fun n hn hne => ?_, ?_, honly, hframe⟩ ?_
    · refine (congrArg (_ ∈ ·.out) hni).mpr (Ni.mem_ttuPutAll (fun n => messagePkt 64 0 0 n 0xFE 0 []) (e := n) ?_ _)
      simp [hn, hne]
    · exact hni.trans ((Ni.ttuPutAll_frame _ _ _).trans (by rw [← hni]; rfl))
    · rw [syncSend, hframe]
      exact ⟨rfl, rfl, rfl, rfl⟩
  case reload =>
    obtain ⟨taken, ej, arrivals, cred, hpop⟩ := popEj_eq 64 vc s.dev
    have heffect := replicaReload_asks hf ht hmq
    rw [hpop] at heffect
    have hasked := requestChange_asked (q := { nis := [(p.src, .load)] }) (d := { s.dev.withCredR cred |>.upNi 64 (Ni.withEjection taken ej arrivals) with
      timing := { s.dev.timing with reloads := inc32 s.dev.timing.reloads }
      faults := { s.dev.faults with crossing := s.dev.faults.crossing ++ [{ src := 0xCC, inst := p.src, part := 0xFF, cause := 0, injected := false }] } }) hp
    replace heffect := heffect.trans (congrArg (requestChange _) (Dev.raise_of_not_armed 0xCC p.src 0xFF 0 (by exact hi)))
    obtain ⟨t, ht⟩ : ∃ t, t = replicaReload vc s.dev := ⟨_, rfl⟩
    replace hasked : ChangeAsked _ t _ := (ht.trans heffect).symm ▸ hasked
    refine completes_of_effect rfl hw hs ht.symm ?_ hasked.memoryKept
    obtain ⟨htiming, hni, honly, hframe⟩ := hasked
    refine ⟨htiming, ?_, fun i hi => (honly i hi).trans (Dev.upNi_ni_ne hi _ s.dev), congrArg (·.faults.crossing) hframe, ?_⟩
    · refine (congrArg (_ ∈ ·.out) hni).mpr (Ni.mem_takeChanges hsrc (List.mem_singleton.2 rfl) _)
    · rw [hframe]
      rfl
  case loss =>
    refine completes_of_effect rfl hw hs ((ptpMasterLoss_locked hsrc hv).trans (Dev.raise_of_not_armed 0xC7 0xFF 0xFF 0 hi))
      ⟨rfl, rfl, rfl⟩

end Sys2Proof.Machine
end

section
/-! SUPPORT. Election and heartbeats of a chassis leader (R455 to R458): one equation per case that acts, and from these the
obligation about them. -/
namespace Sys2Proof.Machine

theorem electionFrameStart_contends {d : Dev} (ho : electionOn d = true) (he : d.timing.electing = true)
    (hp : d.tcfg.nat 0x2D60 2 ≠ 15) : electionFrameStart d = d.onTiming fun t => { t with
      role := 2, electing := false, frame := electionFrame (ownWord d) } := if_pos ⟨ho, he, hp⟩

theorem Dev.armedSrc_of_not_armed {d : Dev} (h : d.faults.inj.state ≠ 1) (src : Nat) : d.armedSrc src = false := by
  simp [Dev.armedSrc, h]

theorem electionFrameEnd_wins {word : Nat} {d : Dev} (ho : electionOn d = true) (hi : d.faults.inj.state ≠ 1)
    (hr : d.timing.role = 2) (hw : word = ownWord d) : electionFrameEnd word true d = d.onTiming fun t => { t with
      elections := inc32 t.elections, role := 4, leader := word, beatDue := true, valid := min 1 t.valid } := by
  simp only [electionFrameEnd, ho, hr, ← hw, Dev.armedSrc_of_not_armed hi, Bool.true_eq_false, Bool.false_eq_true, or_self, if_false,
    and_self, if_true, Nat.reduceEqDiff]
  rfl

theorem heartbeatSend_sends {d : Dev} (ho : electionOn d = true) (hr : d.timing.role = 4) :
    heartbeatSend d = d.onTiming fun t => { t with
      beatDue := false, beat := d.timeNow, frame := heartbeatFrame (ownWord d) d.timeNow.1 d.timeNow.2 } := if_pos ⟨ho, hr⟩

/-- A card that does not lead follows a heartbeat, and takes its time. -/
theorem heartbeatReceive_follows {word secs ns : Nat} {d : Dev} (ho : electionOn d = true) (hi : d.faults.inj.state ≠ 1)
    (hr : d.timing.role ≠ 4) : heartbeatReceive word secs ns true d = takeBeat secs ns (follow word d) := by
  simp only [heartbeatReceive, ho, hr, Dev.armedSrc_of_not_armed hi, Bool.true_eq_false, Bool.false_eq_true, or_self, if_false]

/-- The first heartbeat loads the time of a card whose time source is the chassis (R457). -/
theorem takeBeat_loads {s ns : Nat} {d : Dev} (hs : d.tcfg.nat 0x2D10 2 = 2) (hl : d.timing.loaded = false) :
    takeBeat s ns d = requestChange (loadTime d s ns) (d.onTiming fun t => { t with valid := 2, loaded := true, backlog := 0 }) := by
  simp only [takeBeat, hs, hl, ne_eq, not_true_eq_false, Bool.false_eq_true, if_false]
  rfl

theorem heartbeatLoss_elects {d : Dev} (ho : electionOn d = true) (hr : d.timing.role = 3) (hs : d.tcfg.nat 0x2D10 2 ≠ 2) :
    heartbeatLoss d = d.onTiming fun t => { t with
      role := 1, electing := d.tcfg.nat 0x2D60 2 != 15, losses := inc32 t.losses } := by
  simp only [heartbeatLoss, ho, hr, hs, Bool.true_eq_false, if_false, if_true, Nat.reduceEqDiff]

/-- Settles O38, command by command from the equations above. -/
theorem election : Obligations.Election := by
  refine ⟨fun s hw hs ho he hp => ?start, fun word s hw hs ho hi hr hword => ?win, fun s hw hs ho hr => ?send,
    fun word secs ns s hw hs ho hi hr hsrc hl hp => ?receive, fun s hw hs ho hr hsrc => ?loss⟩
  case start => exact completes_of_effect rfl hw hs (electionFrameStart_contends ho he hp) rfl
  case win => exact completes_of_effect rfl hw hs (electionFrameEnd_wins ho hi hr hword) rfl
  case send => exact completes_of_effect rfl hw hs (heartbeatSend_sends ho hr) rfl
  case receive =>
    have heffect := (heartbeatReceive_follows (word := word) (secs := secs) (ns := ns) ho hi hr).trans (takeBeat_loads hsrc hl)
    have hasked := requestChange_asked (q := loadTime s.dev secs ns)
      (d := (follow word s.dev).onTiming fun t => { t with valid := 2, loaded := true, backlog := 0 }) hp
    obtain ⟨hchange, hout⟩ := hasked.every
    refine completes_of_effect rfl hw hs heffect ?_ hasked.memoryKept
    obtain ⟨htiming, -, honly, hframe⟩ := hasked
    exact ⟨htiming, hchange, hout, honly, hframe⟩
  case loss => exact completes_of_effect rfl hw hs (heartbeatLoss_elects ho hr hsrc) rfl

end Sys2Proof.Machine
end

section
/-! SUPPORT. One Ethernet port: what an update leaves of it and of the others (R384, R410). -/
namespace Sys2Proof.Machine

@[simp] theorem Dev.upPort_eport_same (p : Nat) (f : EthPort → EthPort) (d : Dev) : (d.upPort p f).eport p = f (d.eport p) :=
  Tbl.get_modify_same ..

theorem Dev.upPort_eport_ne {p i : Nat} (hi : i ≠ p) (f : EthPort → EthPort) (d : Dev) : (d.upPort p f).eport i = d.eport i :=
  Tbl.get_modify_ne _ _ hi f

theorem Dev.upPort_upPort (p : Nat) (f g : EthPort → EthPort) (d : Dev) :
    (d.upPort p f).upPort p g = d.upPort p fun x => g (f x) := by
  have hset : (d.upPort p f).eth.port.modify {} p g = d.eth.port.modify {} p fun x => g (f x) := by
    refine (Tbl.set_set d.eth.port p (f (d.eport p)) _).trans ?_
    exact congrArg (fun x => d.eth.port.set p (g x)) (Dev.upPort_eport_same p f d)
  exact congrArg (fun t => { d with eth := { d.eth with port := t } }) hset

/-- A port with one of its counters raised; sub-objects 2, 3, 8 and 9 are 64 bits wide. -/
def EthPort.count (sub n : Nat) (x : EthPort) : EthPort :=
  { x with counts := x.counts.modify 0 sub fun v => satAdd (if sub = 2 ∨ sub = 3 ∨ sub = 8 ∨ sub = 9 then 64 else 32) v n }

theorem Dev.countPort_eq (p sub n : Nat) (d : Dev) : d.countPort p sub n = d.upPort p (EthPort.count sub n) := rfl

/-- `t` is `d` with port `p` replaced by `x`. -/
def PortIs (d t : Dev) (p : Nat) (x : EthPort) : Prop :=
  t.eport p = x ∧ (∀ i, i ≠ p → t.eport i = d.eport i) ∧ t = { d with eth := { d.eth with port := t.eth.port } }

theorem Dev.upPort_portIs (p : Nat) (f : EthPort → EthPort) (d : Dev) : PortIs d (d.upPort p f) p (f (d.eport p)) :=
  ⟨Dev.upPort_eport_same p f d, fun _ hi => Dev.upPort_eport_ne hi f d, rfl⟩

/-- A command whose effect is an update of one port. -/
theorem completes_upPort {c : Instr} {f : Dev → Dev} {s : State} {p : Nat} {g : EthPort → EthPort}
    (he : exec c s = act c.wellFormed f s) (hw : c.wellFormed = true) (hs : s.Ready) (hf : f s.dev = s.dev.upPort p g) :
    Completes c s fun t => PortIs s.dev t p (g (s.dev.eport p)) :=
  completes_of_effect he hw hs hf (Dev.upPort_portIs p g s.dev)

end Sys2Proof.Machine
end

section
/-! SUPPORT. References (R434 to R440): what a measurement, a loss and the selection change, and from these the obligation about
references. -/
namespace Sys2Proof.Machine

/-! One reference. -/

@[simp] theorem Timing.upRef_reference_same (r : Nat) (f : Reference → Reference) (t : Timing) :
    (t.upRef r f).reference r = f (t.reference r) := Tbl.get_modify_same ..

theorem Timing.upRef_reference_ne {r i : Nat} (hi : i ≠ r) (f : Reference → Reference) (t : Timing) :
    (t.upRef r f).reference i = t.reference i := Tbl.get_modify_ne _ _ hi f

/-- An injection that is not armed stays as it is. -/
def InjKept (d t : Dev) : Prop := d.faults.inj.state ≠ 1 → t.faults.inj = d.faults.inj

theorem InjKept.trans {d t u : Dev} (h : InjKept d t) (k : InjKept t u) : InjKept d u := by
  intro hd
  have ht := h hd
  have hu := k (by rwa [ht])
  rw [hu, ht]

theorem InjKept.raise (src inst part cause : Nat) (d : Dev) : InjKept d (d.raise src inst part cause) := by
  intro h
  rw [Dev.raise_of_not_armed src inst part cause h]

/-! The selection. -/

/-- `t` is `d` but for what the selection of a reference changes, and for raised events. -/
def Reselected (d t : Dev) : Prop :=
  t = { d with
    timing := { d.timing with
      selected := t.timing.selected, state := t.timing.state, switches := t.timing.switches, holdovers := t.timing.holdovers
      history := t.timing.history, correction := t.timing.correction }
    faults := { d.faults with crossing := t.faults.crossing, inj := t.faults.inj } } ∧ InjKept d t

theorem Reselected.refl (d : Dev) : Reselected d d := ⟨rfl, fun _ => rfl⟩

theorem Reselected.trans {d t u : Dev} (h : Reselected d t) (k : Reselected t u) : Reselected d u := by
  obtain ⟨ht, hi⟩ := h
  obtain ⟨hu, ki⟩ := k
  refine ⟨?_, hi.trans ki⟩
  rw [hu, ht]

theorem Reselected.raise (src inst : Nat) (d : Dev) : Reselected d (d.raise src inst) := by
  refine ⟨?_, .raise src inst 0xFF 0 d⟩
  obtain ⟨i, inj, h⟩ := Dev.raise_event src inst 0xFF 0 d
  rw [h]

/-- A switch to the best reference of a configuration begins, where there is one. -/
def switchToBest (c : Cfg) (d : Dev) : Dev :=
  match bestRef c d.timing with
  | some b => d.onTiming (startSwitch b)
  | none => d

theorem switchToBest_reselected (c : Cfg) (d : Dev) : Reselected d (switchToBest c d) := by
  unfold switchToBest
  split
  · exact ⟨rfl, fun _ => rfl⟩
  · exact .refl d

theorem enterHoldover_reselected (d : Dev) : Reselected d (enterHoldover d) := by
  refine Reselected.trans ?_ (.raise 0xC2 0xFF _)
  exact ⟨rfl, fun _ => rfl⟩

/-- Selection keeps the state, switches to the best reference, or enters holdover, from which a switch may begin. -/
theorem reselect_cases (d : Dev) : reselect d = d ∨ reselect d = switchToBest d.tcfg d ∨ reselect d = enterHoldover d ∨
    reselect d = switchToBest d.tcfg (enterHoldover d) := by
  unfold reselect
  dsimp only
  split
  · split
    · split
      · exact .inr (.inl rfl)
      · exact .inr (.inr (.inl rfl))
    · split
      · exact .inr (.inl rfl)
      · split
        · exact .inr (.inl rfl)
        · exact .inl rfl
  · split
    · split
      · exact .inl rfl
      · exact .inr (.inr (.inr rfl))
    · exact .inr (.inl rfl)

theorem reselect_reselected (d : Dev) : Reselected d (reselect d) := by
  obtain h | h | h | h := reselect_cases d <;> rw [h]
  · exact .refl d
  · exact switchToBest_reselected _ d
  · exact enterHoldover_reselected d
  · exact (enterHoldover_reselected d).trans (switchToBest_reselected _ _)

/-! Loss and measurement. -/

/-- `t` is `d` but for reference `r`, for the history of offsets, and for raised events. -/
def RefJudged (r : Nat) (d t : Dev) : Prop :=
  (∀ i, i ≠ r → t.timing.reference i = d.timing.reference i) ∧
    t = { d with
      timing := { d.timing with ref := t.timing.ref, history := t.timing.history }
      faults := { d.faults with crossing := t.faults.crossing, inj := t.faults.inj } } ∧ InjKept d t

theorem RefJudged.refl (r : Nat) (d : Dev) : RefJudged r d d := ⟨fun _ _ => rfl, rfl, fun _ => rfl⟩

theorem RefJudged.trans {r : Nat} {d t u : Dev} (h : RefJudged r d t) (k : RefJudged r t u) : RefJudged r d u := by
  obtain ⟨hr, ht, hi⟩ := h
  obtain ⟨kr, hu, ki⟩ := k
  refine ⟨fun i hi => (kr i hi).trans (hr i hi), ?_, hi.trans ki⟩
  rw [hu, ht]

theorem RefJudged.upRef (r : Nat) (f : Reference → Reference) (d : Dev) : RefJudged r d (d.onTiming fun t => t.upRef r f) :=
  ⟨fun _ hi => Timing.upRef_reference_ne hi f d.timing, rfl, fun _ => rfl⟩

theorem RefJudged.raise (r src inst : Nat) (d : Dev) : RefJudged r d (d.raise src inst) := by
  obtain ⟨i, inj, h⟩ := Dev.raise_event src inst 0xFF 0 d
  have hi := InjKept.raise src inst 0xFF 0 d
  rw [h] at hi ⊢
  exact ⟨fun _ _ => rfl, rfl, hi⟩

/-- A reference that has lost what it had (R434). -/
def Reference.lost (x : Reference) : Reference := { x with progress := 0, qualified := false, held := 0 }

theorem loseRef_judged (r : Nat) (d : Dev) : RefJudged r d (loseRef r d) := by
  unfold loseRef
  dsimp only
  split
  · exact (RefJudged.upRef r _ d).trans (.raise r _ r _)
  · exact .upRef r _ d

theorem loseRef_reference (r : Nat) (d : Dev) : (loseRef r d).timing.reference r = (d.timing.reference r).lost := by
  have hup : (d.onTiming fun t => t.upRef r Reference.lost).timing.reference r = (d.timing.reference r).lost :=
    Timing.upRef_reference_same r _ d.timing
  unfold loseRef
  dsimp only
  split
  · obtain ⟨i, inj, h⟩ := Dev.raise_event (if d.timing.state ≤ 1 && d.timing.selected == r then 0xC0 else 0xC1) r 0xFF 0
      (d.onTiming fun t => t.upRef r Reference.lost)
    exact (congrArg (fun e => e.timing.reference r) h).trans hup
  · exact hup

/-- A reference that 10 ms within 50,000 ppb bring on, while the selection is in state `st` (R434). -/
def Reference.qualify (st : Nat) (x : Reference) : Reference := { x with
  progress := min 2000 (x.progress + 10), qualified := decide (2000 ≤ x.progress + 10)
  held := if x.qualified && st != 1 then x.held + 10 else x.held }

/-- References after such a measurement of `r`; the offset of the locked reference joins the history (R439). -/
def Timing.judge (r : Nat) (off : Int) (limit : Nat) (t : Timing) : Timing :=
  if (t.upRef r (Reference.qualify t.state)).state = 0 ∧ (t.upRef r (Reference.qualify t.state)).selected = r then
    { t.upRef r (Reference.qualify t.state) with history := (off :: t.history).take limit }
  else t.upRef r (Reference.qualify t.state)

theorem Timing.judge_eq (r : Nat) (off : Int) (limit : Nat) (t : Timing) : ∃ h,
    t.judge r off limit = { t.upRef r (Reference.qualify t.state) with history := h } := by
  unfold Timing.judge
  split <;> exact ⟨_, rfl⟩

theorem RefJudged.judge (r : Nat) (off : Int) (limit : Nat) (d : Dev) : RefJudged r d (d.onTiming (Timing.judge r off limit)) := by
  obtain ⟨h, hj⟩ := Timing.judge_eq r off limit d.timing
  unfold RefJudged Dev.onTiming
  rw [hj]
  exact ⟨fun _ hi => Timing.upRef_reference_ne hi _ d.timing, rfl, fun _ => rfl⟩

theorem Timing.judge_reference (r : Nat) (off : Int) (limit : Nat) (t : Timing) :
    (t.judge r off limit).reference r = (t.reference r).qualify t.state := by
  obtain ⟨h, hj⟩ := Timing.judge_eq r off limit t
  rw [hj]
  exact Timing.upRef_reference_same r _ t

theorem measureRef_judged (r : Nat) (m : Option Int) (d : Dev) : RefJudged r d (measureRef r m d) := by
  unfold measureRef
  dsimp only
  split
  · exact (RefJudged.upRef r _ d).trans (loseRef_judged r _)
  · next off _ =>
    split
    · exact .upRef r _ d
    · split
      · exact (RefJudged.upRef r _ d).trans ((RefJudged.upRef r _ _).trans (loseRef_judged r _))
      · exact (RefJudged.upRef r (fun x => { x with present := true }) d).trans
          ((RefJudged.upRef r (fun x => { x with offset := off }) _).trans (RefJudged.judge r off _ _))

/-- A reference that has been measured within 50,000 ppb, while the selection is in state `st` (R434, R440). -/
def Reference.measured (off : Int) (st : Nat) (x : Reference) : Reference := { x with
  present := true, offset := off, progress := min 2000 (x.progress + 10), qualified := decide (2000 ≤ x.progress + 10)
  held := if x.qualified = true ∧ st ≠ 1 then x.held + 10 else x.held }

theorem measureRef_reference {r : Nat} {off : Int} {d : Dev} (hc : refClock d r = true) (ho : d.timing.ocxo = true)
    (hoff : off.natAbs ≤ 50000) :
    (measureRef r (some off) d).timing.reference r = (d.timing.reference r).measured off d.timing.state := by
  have hjudge : measureRef r (some off) d = ((d.onTiming fun t => t.upRef r fun x => { x with present := true }).onTiming fun t =>
      t.upRef r fun x => { x with offset := off }).onTiming (Timing.judge r off (100 * d.tcfg.nat 0x2D01 0xA)) := by
    have hin : ¬ 50000 < off.natAbs := by omega
    simp only [measureRef, hc, ho, hin, if_true, if_false, Bool.true_eq_false]
    rfl
  rw [hjudge]
  refine (Timing.judge_reference r off _ _).trans ?_
  simp only [Dev.onTiming, Timing.upRef_reference_same, Reference.qualify, Reference.measured, Bool.and_eq_true, bne_iff_ne]
  rfl

/-! A round of measurements. -/

/-- `t` is `d` but for the references, the history of offsets, and raised events. -/
def RefsJudged (d t : Dev) : Prop :=
  t = { d with
    timing := { d.timing with ref := t.timing.ref, history := t.timing.history }
    faults := { d.faults with crossing := t.faults.crossing, inj := t.faults.inj } }

/-- The same, where reference `r` is as it was. -/
def RefKept (r : Nat) (d t : Dev) : Prop := t.timing.reference r = d.timing.reference r ∧ RefsJudged d t

theorem RefKept.trans {r : Nat} {d t u : Dev} (h : RefKept r d t) (k : RefKept r t u) : RefKept r d u := by
  obtain ⟨hr, ht⟩ := h
  obtain ⟨kr, hu⟩ := k
  unfold RefKept RefsJudged at *
  refine ⟨kr.trans hr, ?_⟩
  rw [hu, ht]

/-- A round of measurements, one for each reference of a list, brings reference `r` on once. -/
theorem fold_measureRef {m : List (Option Int)} {r : Nat} {off : Int} {d : Dev} {l : List Nat} (hl : l.Nodup) (hr : r ∈ l)
    (hm : m.getD r none = some off) (hc : refClock d r = true) (ho : d.timing.ocxo = true) (hoff : off.natAbs ≤ 50000) :
    (Dev.fold l (fun k e => measureRef k (m.getD k none) e) d).timing.reference r =
        (d.timing.reference r).measured off d.timing.state ∧
      RefsJudged d (Dev.fold l (fun k e => measureRef k (m.getD k none) e) d) := by
  have hothers (l : List Nat) (h : r ∉ l) (d : Dev) : RefKept r d (Dev.fold l (fun k e => measureRef k (m.getD k none) e) d) := by
    refine Dev.fold_rel (R := RefKept r) (fun _ => ⟨rfl, rfl⟩) RefKept.trans l (fun k hk e => ?_) d
    obtain ⟨hkept, hframe, -⟩ := measureRef_judged k (m.getD k none) e
    exact ⟨hkept r (ne_of_mem_of_not_mem hk h).symm, hframe⟩
  obtain ⟨pre, post, rfl⟩ := List.append_of_mem hr
  obtain ⟨-, hpost, hdisjoint⟩ := List.nodup_append.1 hl
  have hafter := (List.nodup_cons.1 hpost).1
  have hbefore : r ∉ pre := fun h => hdisjoint r h r List.mem_cons_self rfl
  have hsplit : Dev.fold (pre ++ r :: post) (fun k e => measureRef k (m.getD k none) e) d =
      Dev.fold post (fun k e => measureRef k (m.getD k none) e)
        (measureRef r (m.getD r none) (Dev.fold pre (fun k e => measureRef k (m.getD k none) e) d)) := by
    simp only [Dev.fold, List.foldl_append, List.foldl_cons]
  rw [hsplit, hm]
  obtain ⟨hr1, h1⟩ := hothers pre hbefore d
  revert hr1 h1
  generalize Dev.fold pre (fun k e => measureRef k (m.getD k none) e) d = e
  intro hr1 h1
  obtain ⟨hr3, h3⟩ := hothers post hafter (measureRef r (some off) e)
  obtain ⟨-, h2, -⟩ := measureRef_judged r (some off) e
  unfold RefsJudged at *
  have hclock : refClock e r = true := by rw [h1]; exact hc
  have hocxo : e.timing.ocxo = true := by rw [h1]; exact ho
  have hstate : e.timing.state = d.timing.state := by rw [h1]
  refine ⟨?_, ?_⟩
  · rw [hr3, measureRef_reference hclock hocxo hoff, hr1, hstate]
  · rw [h3, h2, h1]

/-- A round of measurements measures the OCXO too, and then the selection runs (R434). -/
theorem referenceMeasurement_eq (m : List (Option Int)) (d : Dev) : referenceMeasurement m d =
    reselect ((Dev.fold (List.range 6) (fun k e => measureRef k (m.getD k none) e) d).onTiming fun t =>
      { t with ocxoOffset := (m.getD 6 none).getD t.ocxoOffset }) := by
  unfold referenceMeasurement
  generalize Dev.fold (List.range 6) (fun k e => measureRef k (m.getD k none) e) d = e
  cases m.getD 6 none <;> rfl

/-- The selection leaves the references as they are. -/
theorem Reselected.reference {d t : Dev} (h : Reselected d t) (r : Nat) : t.timing.reference r = d.timing.reference r := by
  obtain ⟨ht, -⟩ := h
  have hr := congrArg (fun e : Dev => e.timing.reference r) ht
  exact hr

/-! The end of a switch. -/

/-- Which references may be selected follows from which are qualified. -/
theorem bestRef_congr {c : Cfg} {t u : Timing} (h : ∀ r, (t.reference r).qualified = (u.reference r).qualified) :
    bestRef c t = bestRef c u := by
  have hs : selectable c t = selectable c u := funext fun r => by rw [selectable, selectable, h r]
  rw [bestRef, bestRef, hs]

/-- A locked reference that is the best one stays selected (R436). -/
theorem reselect_of_best {d : Dev} (hst : d.timing.state = 0) (hb : bestRef d.tcfg d.timing = some d.timing.selected)
    (hs : selectable d.tcfg d.timing d.timing.selected = true) : reselect d = d := by
  have hforced : ¬(d.tcfg.nat 0x2D01 8 ≠ d.timing.selected ∧ selectable d.tcfg d.timing (d.tcfg.nat 0x2D01 8) = true) := by
    rintro ⟨hne, hsel⟩
    rw [bestRef, if_pos hsel] at hb
    exact hne (Option.some.inj hb)
  have hup : upgrade d.tcfg d.timing = none := by
    simp only [upgrade, hb, ne_eq, not_true_eq_false, false_and, and_false, if_false]
  simp only [reselect, if_pos hst, hs, Bool.true_eq_false, if_false, if_neg hforced, hup, Option.isSome_none, Bool.false_eq_true,
    false_and]

/-- A reference whose wait-to-restore counts anew. -/
def Reference.restart (x : Reference) : Reference := { x with held := 0 }

/-- References from which wait-to-restore counts anew. -/
def Timing.restartWait (t : Timing) : Timing := { t with state := 0, ref := t.ref.map fun e => (e.1, e.2.restart) }

theorem Timing.restartWait_reference (t : Timing) (r : Nat) : t.restartWait.reference r = (t.reference r).restart :=
  Tbl.get_map Reference.restart {} {} rfl t.ref r

theorem referenceSwitchDone_locks {d : Dev} (hst : d.timing.state = 1) (hb : bestRef d.tcfg d.timing = some d.timing.selected)
    (hs : selectable d.tcfg d.timing d.timing.selected = true) : referenceSwitchDone d = d.onTiming Timing.restartWait := by
  have hq (r : Nat) : (d.timing.restartWait.reference r).qualified = (d.timing.reference r).qualified := by
    rw [Timing.restartWait_reference]
    rfl
  refine (if_pos hst).trans (reselect_of_best (d := d.onTiming Timing.restartWait) rfl ((bestRef_congr hq).trans hb) ?_)
  refine Eq.trans ?_ hs
  exact congrArg (· && rankOf d.tcfg d.timing.selected != 0) (hq d.timing.selected)

theorem waitToRestoreExpiry_switches {r : Nat} {d : Dev} (hst : d.timing.state = 0) (hu : upgrade d.tcfg d.timing = some r)
    (hl : waitLeft d.tcfg d.timing = 0) : waitToRestoreExpiry d = d.onTiming (startSwitch r) := by
  simp only [waitToRestoreExpiry, hu, hst, hl, and_self, if_true]

/-! The link of a port. -/

/-- A port whose link has gone down, in state `st` (R410). -/
def EthPort.down (st : Nat) (x : EthPort) : EthPort :=
  EthPort.count 0x11 1 { x with link := st, paused := [], xoff := false, held := [] }

theorem portDown_raises {p : Nat} {d : Dev} (hl : (d.eport p).link = 2) : portDown p d =
    (d.upPort p (EthPort.down (if d.portObj p 1 = 1 ∧ d.unitUp (epNi p) = true then 1 else 0))).raise 0xBC p := by
  refine (if_neg (not_not.2 hl)).trans (congrArg (fun e : Dev => e.raise 0xBC p) ?_)
  exact Dev.upPort_upPort p _ _ d

theorem ethLinkDown_loses {p : Nat} {d : Dev} (hl : (d.eport p).link = 2) :
    ethLinkDown p d = reselect (loseRef (2 + p) (portDown p d)) := if_pos hl

theorem ethLinkUp_up {p : Nat} {d : Dev} (hl : (d.eport p).link = 1) (hu : d.unitUp (epNi p) = true) :
    ethLinkUp p d = d.upPort p fun x => { x with link := 2 } := if_pos ⟨hl, hu⟩

theorem ocxoAbsent_raises {d : Dev} (ho : d.timing.ocxo = true) :
    ocxoAbsent d = (d.onTiming fun t => { t with ocxo := false }).raise 0xC3 := if_pos ho

/-- Settles O35, command by command from the equations above. -/
theorem references : Obligations.References := by
  refine ⟨fun m r off s hw hs hr hm hc ho hoff => ?measure, fun r s hw hs => ?edge, fun s hw hs hst hb hsel => ?done,
    fun r s hw hs hst hu hl => ?restore, fun s hw hs ho hi => ?absent, fun s hw hs => ?back, fun ttu s hw hs hi => ?pll,
    fun p s hw hs hl hi => ?down, fun p s hw hs hl hu => ?up⟩
  case measure =>
    obtain ⟨hmeasured, hround⟩ := fold_measureRef (m := m) List.nodup_range (List.mem_range.2 hr) hm hc ho hoff
    have heffect := referenceMeasurement_eq m s.dev
    revert hmeasured hround heffect
    generalize Dev.fold (List.range 6) (fun k e => measureRef k (m.getD k none) e) s.dev = e
    intro hmeasured hround heffect
    have hsel := reselect_reselected (e.onTiming fun t => { t with ocxoOffset := (m.getD 6 none).getD t.ocxoOffset })
    rw [← heffect] at hsel
    obtain ⟨t, ht⟩ : ∃ t, referenceMeasurement m s.dev = t := ⟨_, rfl⟩
    rw [ht] at hsel
    have hframe := hsel.1
    unfold RefsJudged at hround
    rw [hround] at hframe
    refine completes_of_effect rfl hw hs ht ⟨(hsel.reference r).trans hmeasured, hframe.trans ?_⟩ ?_
    · rw [hframe]
      rfl
    · rw [hframe]
      exact ⟨rfl, rfl, rfl, rfl⟩
  case edge =>
    obtain ⟨hothers, hlost, -⟩ := loseRef_judged r s.dev
    have hsel := reselect_reselected (loseRef r s.dev)
    obtain ⟨t, ht⟩ : ∃ t, referenceEdgeLoss r s.dev = t := ⟨_, rfl⟩
    replace hsel : Reselected (loseRef r s.dev) t := ht ▸ hsel
    have hframe := hsel.1
    rw [hlost] at hframe
    refine completes_of_effect rfl hw hs ht ⟨(hsel.reference r).trans (loseRef_reference r s.dev),
      fun i hi => (hsel.reference i).trans (hothers i hi), hframe.trans ?_⟩ ?_
    · rw [hframe]
    · rw [hframe]
      exact ⟨rfl, rfl, rfl, rfl⟩
  case done =>
    exact completes_of_effect rfl hw hs (referenceSwitchDone_locks hst hb hsel)
      ⟨Timing.restartWait_reference s.dev.timing, rfl⟩
  case restore => exact completes_of_effect rfl hw hs (waitToRestoreExpiry_switches hst hu hl) rfl
  case absent =>
    exact completes_of_effect rfl hw hs ((ocxoAbsent_raises ho).trans (Dev.raise_of_not_armed 0xC3 0xFF 0xFF 0 (by exact hi))) ⟨rfl, rfl⟩
  case back => exact completes_of_effect (f := ocxoReturn) rfl hw hs rfl rfl
  case pll => exact completes_of_effect (f := pllLockLoss ttu) rfl hw hs (Dev.raise_of_not_armed _ 0xFF 0xFF 0 hi) ⟨rfl, rfl⟩
  case down =>
    obtain ⟨e, he⟩ : ∃ e, portDown p s.dev = e := ⟨_, rfl⟩
    have hdown := he.symm.trans ((portDown_raises hl).trans (Dev.raise_of_not_armed 0xBC p 0xFF 0 (by exact hi)))
    obtain ⟨hport, hports, -⟩ := Dev.upPort_portIs p
      (EthPort.down (if s.dev.portObj p 1 = 1 ∧ s.dev.unitUp (epNi p) = true then 1 else 0)) s.dev
    obtain ⟨hothers, hlost, hinj⟩ := loseRef_judged (2 + p) e
    have hsel := reselect_reselected (loseRef (2 + p) e)
    obtain ⟨t, ht⟩ : ∃ t, ethLinkDown p s.dev = t := ⟨_, rfl⟩
    have hloses := (ethLinkDown_loses hl).symm.trans ht
    rw [he] at hloses
    rw [hloses] at hsel
    have hframe := hsel.1
    have hkept : t.faults.inj = s.dev.faults.inj := (hinj.trans hsel.2 (by rw [hdown]; exact hi)).trans (by rw [hdown]; rfl)
    have hreference := (hsel.reference (2 + p)).trans (loseRef_reference (2 + p) e)
    have hreferences := fun i hi => (hsel.reference i).trans (hothers i hi)
    rw [hdown] at hreferences
    rw [hlost, hkept, hdown] at hframe
    have heport (i : Nat) : t.eport i = (s.dev.upPort p (EthPort.down
        (if s.dev.portObj p 1 = 1 ∧ s.dev.unitUp (epNi p) = true then 1 else 0))).eport i := by
      have h := congrArg (fun e : Dev => e.eport i) hframe
      exact h
    refine completes_of_effect rfl hw hs ht ⟨?_, ?_, fun i hi => (heport i).trans (hports i hi), ?_, ?_, hreferences, ?_⟩ ?_
    · rw [heport, hport]
      rfl
    · rw [heport, hport]
      simp [EthPort.down, EthPort.count]
    · rw [hreference]
      rfl
    · rw [hreference]
      rfl
    · rw [hframe]
      rfl
    · rw [hframe]
      exact ⟨rfl, rfl, rfl, rfl⟩
  case up => exact completes_upPort rfl hw hs (ethLinkUp_up hl hu)

end Sys2Proof.Machine
end

section
/-! SUPPORT. One tick of the output inhibit monitor (R485 to R487): one equation per case, and from these the obligation about it. -/
namespace Sys2Proof.Machine

/-- The inhibit stops nothing where no stream is a TX stream (R373). -/
theorem inhibitStops_of_no_tx {d : Dev} (h : ∀ e, e ∈ d.conv.stream → e.2.tx = false) : inhibitStops d = d := by
  refine Dev.fold_fixed _ fun e he => ?_
  split
  · exact if_neg (Bool.eq_false_iff.1 (h e he))
  · rfl

/-- What an activation raises, where the inhibit stops nothing. -/
theorem inhibitStops_raise {d : Dev} (inst : Nat) (h : ∀ e, e ∈ d.conv.stream → e.2.tx = false) (hi : d.faults.inj.state ≠ 1) :
    inhibitStops (d.raise 0xF1 inst) =
      { d with faults := { d.faults with crossing := d.faults.crossing ++ [{ src := 0xF1, inst := inst }] } } := by
  rw [Dev.raise_of_not_armed 0xF1 inst 0xFF 0 hi]
  exact inhibitStops_of_no_tx h

/-- Channels that agree in the released level. -/
theorem inhibitTick_released {d : Dev} (hl : d.inhibit.latched = false) : inhibitTick true false d = d.onInhibit fun x => { x with
    aLevel := true, bLevel := false, active := false, count := 0, longest := max x.longest (min x.count 0xFFFF) } := by
  simp [inhibitTick, hl, Dev.onInhibit]

/-- Channels that agree in the asserted level activate the inhibit. -/
theorem inhibitTick_asserted {d : Dev} (hl : d.inhibit.latched = false) (ha : d.inhibit.active = false) :
    inhibitTick false true d = inhibitStops ((d.onInhibit fun x => { x with
      aLevel := false, bLevel := true, active := true, count := 0, activations := inc32 x.activations
      longest := max x.longest (min x.count 0xFFFF) }).raise 0xF1 2) := by
  simp [inhibitTick, hl, ha, Dev.onInhibit]

/-- A disagreement before the discrepancy time counts and activates the inhibit. -/
theorem inhibitTick_disagrees {d : Dev} (hl : d.inhibit.latched = false) (ha : d.inhibit.active = false)
    (ht : d.inhibit.count + 1 < discrepancyTime d) :
    inhibitTick false false d = inhibitStops ((d.onInhibit fun x => { x with
      aLevel := false, bLevel := false, active := true, count := x.count + 1, activations := inc32 x.activations }).raise 0xF1 0) := by
  simp [inhibitTick, hl, ha, Nat.not_le.2 ht, Dev.onInhibit]

/-- A disagreement that reaches the discrepancy time latches the discrepancy fault. -/
theorem inhibitTick_latches {d : Dev} (hl : d.inhibit.latched = false) (ha : d.inhibit.active = true)
    (hi : d.faults.inj.state ≠ 1) (ht : discrepancyTime d ≤ d.inhibit.count + 1) :
    inhibitTick true true d = { d with
      inhibit := { d.inhibit with aLevel := true, bLevel := true, active := true, latched := true, count := discrepancyTime d }
      faults := { d.faults with crossing := d.faults.crossing ++ [{ src := 0xF0 }] } } := by
  simp [inhibitTick, latchDiscrepancy, hl, ha, hi, ht, Dev.onInhibit, Dev.raise_of_not_armed]

/-- A latched discrepancy keeps the inhibit active. -/
theorem inhibitTick_latched {a b : Bool} {d : Dev} (hl : d.inhibit.latched = true) (ha : d.inhibit.active = true) :
    inhibitTick a b d = d.onInhibit fun x => { x with aLevel := a, bLevel := b } := by
  simp [inhibitTick, hl, ha, Dev.onInhibit]

/-- Settles O46, tick by tick from the equations above. -/
theorem outputInhibit : Obligations.OutputInhibit := by
  refine ⟨fun s hw hs hl => ?released, fun s hw hs hl ha htx hi => ?asserted, fun s hw hs hl ha ht htx hi => ?disagree,
    fun s hw hs hl ha ht hi => ?latch, fun a b s hw hs hl ha => ?latched⟩
  case released => exact completes_of_effect rfl hw hs (inhibitTick_released hl) rfl
  case asserted =>
    exact completes_of_effect rfl hw hs ((inhibitTick_asserted hl ha).trans (inhibitStops_raise _ htx hi)) ⟨rfl, rfl, rfl⟩
  case disagree =>
    exact completes_of_effect rfl hw hs ((inhibitTick_disagrees hl ha ht).trans (inhibitStops_raise _ htx hi)) ⟨rfl, rfl, rfl⟩
  case latch => exact completes_of_effect rfl hw hs (inhibitTick_latches hl ha hi ht) ⟨rfl, rfl, rfl⟩
  case latched => exact completes_of_effect rfl hw hs (inhibitTick_latched hl ha) ⟨rfl, ha⟩

end Sys2Proof.Machine
end

section
/-! SUPPORT. Trigger lines and SYSREF outputs (R450 to R454): one equation per case that acts, and from these the obligation about
them. -/
namespace Sys2Proof.Machine

/-! One line, one output. -/

@[simp] theorem Dev.upLine_line_same (c : Nat) (f : TrigLine → TrigLine) (d : Dev) : (d.upLine c f).line c = f (d.line c) :=
  Tbl.get_modify_same ..

theorem Dev.upLine_line_ne {c i : Nat} (hi : i ≠ c) (f : TrigLine → TrigLine) (d : Dev) : (d.upLine c f).line i = d.line i :=
  Tbl.get_modify_ne _ _ hi f

theorem Dev.upLine_upLine (c : Nat) (f g : TrigLine → TrigLine) (d : Dev) :
    (d.upLine c f).upLine c g = d.upLine c fun x => g (f x) := by
  have hset : (d.upLine c f).timing.line.modify {} c g = d.timing.line.modify {} c fun x => g (f x) := by
    refine (Tbl.set_set d.timing.line c (f (d.line c)) _).trans ?_
    exact congrArg (fun x => d.timing.line.set c (g x)) (Dev.upLine_line_same c f d)
  exact congrArg (fun t => { d with timing := { d.timing with line := t } }) hset

/-- An update of a line is known by what it makes of that line. -/
theorem Dev.upLine_congr {c : Nat} {f g : TrigLine → TrigLine} {d : Dev} (h : f (d.line c) = g (d.line c)) :
    d.upLine c f = d.upLine c g :=
  congrArg (fun x => { d with timing := { d.timing with line := d.timing.line.set c x } }) h

/-- `t` is `d` with line `c` replaced by `x`. -/
def LineIs (d t : Dev) (c : Nat) (x : TrigLine) : Prop :=
  t.line c = x ∧ (∀ i, i ≠ c → t.line i = d.line i) ∧ t = { d with timing := { d.timing with line := t.timing.line } }

theorem Dev.upLine_lineIs (c : Nat) (f : TrigLine → TrigLine) (d : Dev) : LineIs d (d.upLine c f) c (f (d.line c)) :=
  ⟨Dev.upLine_line_same c f d, fun _ hi => Dev.upLine_line_ne hi f d, rfl⟩

@[simp] theorem Dev.upSysref_out_same (k : Nat) (f : Sysref → Sysref) (d : Dev) :
    (d.upSysref k f).timing.out k = f (d.timing.out k) := Tbl.get_modify_same ..

theorem Dev.upSysref_out_ne {k i : Nat} (hi : i ≠ k) (f : Sysref → Sysref) (d : Dev) :
    (d.upSysref k f).timing.out i = d.timing.out i := Tbl.get_modify_ne _ _ hi f

/-! An input edge. -/

/-- An edge at a line changes probes only (R508). -/
theorem signalLine_frame (c : Nat) (d : Dev) : ∃ ps, signalLine c d = { d with probes := ps } := by
  refine Dev.fold_rel (R := fun d t => ∃ ps, t = { d with probes := ps }) (fun d => ⟨d.probes, rfl⟩) ?_ _ (fun j _ e => ?_) d
  · rintro d t u ⟨ps, rfl⟩ ⟨qs, rfl⟩
    exact ⟨qs, rfl⟩
  · unfold probeEvent
    dsimp only
    split
    · exact ⟨_, rfl⟩
    · split
      · exact ⟨_, rfl⟩
      · exact ⟨_, rfl⟩

/-- A line that has seen an input edge at a chassis time (R450). -/
def TrigLine.edgeAt (stamp : Nat) (x : TrigLine) : TrigLine := { x with last := stamp, counts := x.counts.modify 0 0xB inc32 }

/-- An enabled edge for whose messages there is room (R450). -/
theorem triggerInputEdge_sends {c at_ : Nat} {asserted : Bool} {links : List Nat} {d : Dev} (ho : bitOf (d.lineObj c 2) 0 = true)
    (hsel : d.lineObj c 3 = 2 ∨ d.lineObj c 3 = (if asserted then 0 else 1))
    (hl : links = ((List.range 24).filter fun k => linkUsed (d.dcfg k) k && linkOwner d.cfg k == d.lineOwner c &&
      bitOf (d.lineObj c 6) k && unitAdmits d 64 (d.lineOwner c)))
    (hroom : links.length + triggersWaiting d ≤ 32) {stamp : Nat}
    (hstamp : stamp = ((at_ : Int) - d.tcfg.int (0x2D30 + c) 5 * 1024).toNat) : triggerInputEdge c asserted at_ d =
      Dev.fold links (fun k e => ttuSend (messagePkt 64 (d.lineOwner c) 0 k 1 0x20 (triggerPayload c stamp)) e)
        (signalLine c (d.upLine c (TrigLine.edgeAt stamp))) := by
  have hcond : ¬(bitOf (d.lineObj c 2) 0 = false ∨ (d.lineObj c 3 ≠ 2 ∧ d.lineObj c 3 ≠ (if asserted then 0 else 1))) := by
    rw [ho]
    tauto
  have htake : links.take (32 - triggersWaiting d) = links := List.take_of_length_le (by omega)
  have hfits : ¬ 32 - triggersWaiting d < links.length := by omega
  have hline : ((d.countLine c 0xB).upLine c fun x => { x with last := stamp }) = d.upLine c (TrigLine.edgeAt stamp) :=
    Dev.upLine_upLine c _ _ d
  unfold triggerInputEdge
  dsimp only
  rw [if_neg hcond, ← hl, ← hstamp, htake, if_neg hfits, hline]

/-! A released order. -/

theorem length_insertBy {α : Type} (lt : α → α → Bool) (x : α) (l : List α) : (insertBy lt x l).length = l.length + 1 := by
  induction l with
  | nil => rfl
  | cons y ys ih =>
    unfold insertBy
    split
    · rfl
    · rw [List.length_cons, ih, List.length_cons]

/-- A sum over a list of lines of which one has one edge more. -/
theorem sum_edges_succ (f : Nat → Nat) {c : Nat} {l : List Nat} (hl : l.Nodup) :
    l.foldl (fun a i => a + if i = c then f i + 1 else f i) 0 ≤ l.foldl (fun a i => a + f i) 0 + 1 := by
  have hsum (g : Nat → Nat) : l.foldl (fun a i => a + g i) 0 = (l.map g).sum := by rw [List.sum_eq_foldl, List.foldl_map]
  have hcount : ∀ l : List Nat, (l.map fun i => if i = c then f i + 1 else f i).sum = (l.map f).sum + l.count c := by
    intro l
    induction l with
    | nil => rfl
    | cons i l ih =>
      by_cases hi : i = c <;> simp [hi, ih] <;> omega
  have hone : l.count c ≤ 1 := List.nodup_iff_count_le_one.1 hl c
  rw [hsum, hsum, hcount]
  omega

/-- A line whose schedule has a toggle at `e` more. -/
def TrigLine.schedule (e : Int) (x : TrigLine) : TrigLine :=
  { x with toggles := insertBy (fun a b => decide (a < b)) e x.toggles }

theorem TrigLine.schedule_edges (e : Int) (x : TrigLine) : (x.schedule e).edges = x.edges + 1 := by
  unfold TrigLine.edges TrigLine.schedule
  rw [length_insertBy]
  exact Nat.add_right_comm ..

/-- A toggle in time, of a line that the order's partition owns, is scheduled where the scheduler has room (R451, R452). -/
theorem driveLine_schedules {c : Nat} {e : Int} {h : Released} {d : Dev} (ho : bitOf (d.lineObj c 2) 1 = true)
    (hown : d.lineOwner c = h.pkt.part) (hlate : h.late = false)
    (he : e = (((h.pkt.relS * 1000000000 + h.pkt.relNs) * 64 + d.lineObj c 9 : Nat) : Int)) (hsoon : d.fineNow + 1280 ≤ e)
    (hmode : d.lineObj c 7 = 1) (hnew : (d.line c).toggles.contains e = false)
    (hroom : (span 1 14).foldl (fun a i => a + (d.line i).edges) 0 < 64) :
    driveLine c h d = d.upLine c (TrigLine.schedule e) := by
  have hcond : ¬(bitOf (d.lineObj c 2) 1 = false ∨ d.lineOwner c ≠ h.pkt.part) := by simp [ho, hown]
  have hintime : (h.late || decide (e < d.fineNow + 1280)) = false := by simp [hlate, hsoon]
  have hall : ¬ 64 < (span 1 14).foldl (fun a i => a + if i = c then ((d.line c).schedule e).edges else (d.line i).edges) 0 := by
    have hle := sum_edges_succ (fun i => (d.line i).edges) (c := c) (nodup_span 1 14)
    have hfun : (fun a i => a + if i = c then ((d.line c).schedule e).edges else (d.line i).edges) =
        fun a i => a + if i = c then (d.line i).edges + 1 else (d.line i).edges := by
      funext a i
      by_cases hi : i = c
      · rw [if_pos hi, if_pos hi, TrigLine.schedule_edges, hi]
      · rw [if_neg hi, if_neg hi]
    rw [hfun]
    omega
  unfold driveLine
  dsimp only
  rw [if_neg hcond, ← he, hintime]
  simp only [Bool.false_eq_true, if_false, if_pos hmode, hnew]
  exact (if_neg hall).trans rfl

theorem triggerOrder_drives {c : Nat} {h : Released} {rest : List Released} {d : Dev} (hr : (d.ni 64).released = h :: rest)
    (hc : h.pkt.data.le 0 1 = c) (hrange : 1 ≤ c ∧ c ≤ 13) : triggerOrder d = driveLine c h (d.upNi 64 (Ni.setReleased rest)) := by
  subst hc
  have hhead : (d.ni 64).released.head? = some h := by rw [hr, List.head?_cons]
  simp only [triggerOrder, hhead, dropReleased_cons hr, if_pos hrange]

/-! Edges that fall due. -/

theorem triggerEdgeFire_toggles {c : Nat} {e : Int} {rest : List Int} {d : Dev} (ht : (d.line c).toggles = e :: rest)
    (hp : (d.line c).pulses = []) :
    triggerEdgeFire c .none d = d.upLine c fun x => { x with out := !x.out, toggles := rest } := by
  simp [triggerEdgeFire, driveEdge, ht, hp]

theorem triggerPulseEnd_releases {c : Nat} {d : Dev} (hp : ((d.line c).pulses.any fun p => p.on) = true) :
    triggerPulseEnd c d = d.upLine c fun x => { x with out := false, pulses := x.pulses.filter fun p => !p.on } := if_pos hp

/-- Where no re-anchoring waits, none is made (R454). -/
theorem anchorGrids_of_none {d : Dev} (h : ∀ i, i < 6 → (d.timing.out i).anchorAt = none) : anchorGrids d = d := by
  refine Dev.fold_fixed _ fun k hk => ?_
  rw [h k (List.mem_range.1 hk)]

theorem sysrefEdge_level {k : Nat} {d : Dev} (hon : sysrefOn d.tcfg k = true) (h : ∀ i, i < 6 → (d.timing.out i).anchorAt = none) :
    sysrefEdge k d = d.upSysref k fun x => { x with high := sysrefLevel d k } := by
  simp only [sysrefEdge, anchorGrids_of_none h, hon, if_true]

/-- Settles O37, command by command from the equations above. -/
theorem triggerLines : Obligations.TriggerLines := by
  refine ⟨fun c at_ asserted links s hw hs ho hsel hl hroom => ?input,
    fun c e h rest s hw hs hr hc hrange ho hown hlate he hsoon hmode hnew hroom => ?order,
    fun c e rest s hw hs ht hp => ?fire, fun c s hw hs hp => ?pulse, fun k s hw hs hon hn => ?sysref⟩
  case input =>
    obtain ⟨stamp, hstamp⟩ : ∃ stamp, stamp = ((at_ : Int) - s.dev.tcfg.int (0x2D30 + c) 5 * 1024).toNat := ⟨_, rfl⟩
    have heffect := triggerInputEdge_sends ho hsel hl hroom hstamp
    obtain ⟨ps, hps⟩ := signalLine_frame c (s.dev.upLine c (TrigLine.edgeAt stamp))
    obtain ⟨hline, hlines, -⟩ := Dev.upLine_lineIs c (TrigLine.edgeAt stamp) s.dev
    rw [hps] at heffect
    have hsent := fold_ttuSend_niIs (fun k => messagePkt 64 (s.dev.lineOwner c) 0 k 1 0x20 (triggerPayload c stamp)) links
      { s.dev.upLine c (TrigLine.edgeAt stamp) with probes := ps }
    rw [← heffect] at hsent
    obtain ⟨t, ht⟩ : ∃ t, triggerInputEdge c asserted at_ s.dev = t := ⟨_, rfl⟩
    rw [ht] at hsent
    obtain ⟨hni, hnis, hframe⟩ := hsent
    have hkept (i : Nat) : t.line i = (s.dev.upLine c (TrigLine.edgeAt stamp)).line i := by
      have h := congrArg (fun e : Dev => e.line i) hframe
      exact h
    have hc : t.line c = (s.dev.line c).edgeAt stamp := (hkept c).trans hline
    refine completes_of_effect rfl hw hs ht ⟨?_, ?_, ?_, fun i hi => (hkept i).trans (hlines i hi), fun k hk => ?_, hnis, ?_⟩ ?_
    · rw [hc, ← hstamp]
      rfl
    · rw [hc]
      rfl
    · rw [hc]
      rfl
    · rw [hni, hc]
      exact Ni.mem_ttuPutAll (fun k => messagePkt 64 (s.dev.lineOwner c) 0 k 1 0x20 (triggerPayload c stamp)) hk _
    · rw [hframe]
      rfl
    · rw [hframe]
      exact ⟨rfl, rfl, rfl, rfl⟩
  case order =>
    have heffect := (triggerOrder_drives hr hc hrange).trans
      (driveLine_schedules (d := s.dev.upNi 64 (Ni.setReleased rest)) ho hown hlate he hsoon hmode hnew hroom)
    obtain ⟨hline, hlines, -⟩ := Dev.upLine_lineIs c (TrigLine.schedule e) (s.dev.upNi 64 (Ni.setReleased rest))
    obtain ⟨hni, hnis, -⟩ := Dev.upNi_niIs 64 (Ni.setReleased rest) s.dev
    exact completes_of_effect rfl hw hs heffect ⟨hline, hlines, hni, hnis, rfl⟩
  case fire => exact completes_of_effect rfl hw hs (triggerEdgeFire_toggles ht hp) (Dev.upLine_lineIs c _ s.dev)
  case pulse => exact completes_of_effect rfl hw hs (triggerPulseEnd_releases hp) (Dev.upLine_lineIs c _ s.dev)
  case sysref =>
    exact completes_of_effect rfl hw hs (sysrefEdge_level hon hn)
      ⟨Dev.upSysref_out_same k _ s.dev, fun i hi => Dev.upSysref_out_ne hi _ s.dev, rfl⟩

end Sys2Proof.Machine
end

section
/-! SUPPORT. Frames received, pauses, and frames of the firmware (R386 to R391): what each makes of its port, and from these the
obligation about them. -/
namespace Sys2Proof.Machine

theorem EthPort.count_counts_same (sub n : Nat) (x : EthPort) : (x.count sub n).counts.get 0 sub =
    satAdd (if sub = 2 ∨ sub = 3 ∨ sub = 8 ∨ sub = 9 then 64 else 32) (x.counts.get 0 sub) n :=
  Tbl.get_modify_same 0 x.counts sub fun v => satAdd (if sub = 2 ∨ sub = 3 ∨ sub = 8 ∨ sub = 9 then 64 else 32) v n

theorem EthPort.count_counts_ne {sub i : Nat} (hi : i ≠ sub) (n : Nat) (x : EthPort) :
    (x.count sub n).counts.get 0 i = x.counts.get 0 i :=
  Tbl.get_modify_ne 0 x.counts hi fun v => satAdd (if sub = 2 ∨ sub = 3 ∨ sub = 8 ∨ sub = 9 then 64 else 32) v n

/-! A frame that arrives. -/

/-- A port that counts the code words of a frame's FEC, without one that was uncorrectable (R386). -/
def EthPort.countFec (corr : Nat) (x : EthPort) : EthPort := (x.count 8 corr).count 9 0

/-- What a port that is up makes of a frame whose FEC found nothing uncorrectable, while no injection is armed. -/
theorem frameReceive_up {p corr : Nat} {at_ : Int} {frame : Bytes} {ok : Bool} {d : Dev} (hl : (d.eport p).link = 2)
    (hu : d.unitUp (epNi p) = true) (hi : d.faults.inj.state ≠ 1) : frameReceive p frame ok at_ corr 0 d =
      if ok = false then ((d.upPort p (EthPort.countFec corr)).countPort p 7 1).raise 0xBA p
      else (classify p frame at_ ((d.upPort p (EthPort.countFec corr)).countPort p 2 1)).when (decide (frame.length < 60))
        (Dev.onFree (· + 1)) := by
  have harmed : portInjected d 0xBA p = false := by simp [portInjected, Dev.armedFor, hi]
  have hfec : (d.countPort p 8 corr).countPort p 9 0 = d.upPort p (EthPort.countFec corr) := Dev.upPort_upPort p _ _ d
  simp only [frameReceive, hl, hu, harmed, ne_eq, not_true_eq_false, Bool.true_eq_false, or_self, if_false, Nat.lt_irrefl,
    or_false, Bool.false_eq_true, hfec]

theorem frameReceive_badFcs {p corr : Nat} {at_ : Int} {frame : Bytes} {d : Dev} (hl : (d.eport p).link = 2)
    (hu : d.unitUp (epNi p) = true) (hi : d.faults.inj.state ≠ 1) : frameReceive p frame false at_ corr 0 d =
      (d.upPort p fun x => (x.countFec corr).count 7 1).raise 0xBA p :=
  (frameReceive_up hl hu hi).trans (congrArg (fun e : Dev => e.raise 0xBA p) (Dev.upPort_upPort p _ _ d))

theorem padFrame_of_long {f : Bytes} (h : 60 ≤ f.length) (d : Dev) : padFrame d f = f := by
  simp [padFrame, Nat.sub_eq_zero_of_le h]

/-- An Ethernet PTP frame that passes the filter and finds room goes to the firmware. -/
theorem classify_ptp {p : Nat} {f : Bytes} {at_ : Int} {d : Dev} (hlen : 60 ≤ f.length) (hf : filtered d p (parseFrame f) = false)
    (hroom : noRoom d p f = false) (he : (parseFrame f).ety = 0x88F7) : classify p f at_ d = toFirmware p f at_ d := by
  simp [classify, padFrame_of_long hlen, hf, hroom, he]

theorem frameReceive_good {p corr : Nat} {at_ : Int} {frame : Bytes} {d : Dev} (hl : (d.eport p).link = 2)
    (hu : d.unitUp (epNi p) = true) (hi : d.faults.inj.state ≠ 1) (hlen : 60 ≤ frame.length) :
    frameReceive p frame true at_ corr 0 d = classify p frame at_ (d.upPort p fun x => (x.countFec corr).count 2 1) := by
  refine (frameReceive_up hl hu hi).trans ?_
  rw [if_neg Bool.true_eq_false_eq_False, Dev.when, decide_eq_false (Nat.not_lt.2 hlen), if_neg Bool.false_ne_true]
  exact congrArg (classify p frame at_) (Dev.upPort_upPort p _ _ d)

/-- A port that has handed the firmware a frame (R389). -/
def EthPort.give (f : FwFrame) (x : EthPort) : EthPort := { x with toFw := x.toFw ++ [f] }

/-- What counters leave of a port does not change whether a frame finds room. -/
theorem noRoom_upPort {p : Nat} {g : EthPort → EthPort} (hg : ∀ x, (g x).buf = x.buf) (f : Bytes) (d : Dev) :
    noRoom (d.upPort p g) p f = noRoom d p f := by
  have hlevel : portLevel (d.upPort p g) p = portLevel d p := by
    unfold portLevel
    rw [Dev.upPort_eport_same, hg]
    rfl
  rw [noRoom, noRoom, hlevel]

/-! Frames that leave. -/

/-- A port that has sent a frame (R410). -/
def EthPort.send (f : EthFrame) (x : EthPort) : EthPort := EthPort.count 3 1 { x with sent := some f }

/-- An update of a port is known by what it makes of that port. -/
theorem Dev.upPort_congr {p : Nat} {f g : EthPort → EthPort} {d : Dev} (h : f (d.eport p) = g (d.eport p)) :
    d.upPort p f = d.upPort p g :=
  congrArg (fun x => { d with eth := { d.eth with port := d.eth.port.set p x } }) h

theorem sendFrame_up {p : Nat} {f : EthFrame} {d : Dev} (hl : (d.eport p).link = 2) :
    sendFrame p f d = d.upPort p (EthPort.send f) := (if_pos hl).trans (Dev.upPort_upPort p _ _ d)

/-- `t` is `d` but for the last frame and the counters of port `p`. -/
def PortSends (p : Nat) (d t : Dev) : Prop :=
  PortIs d t p { d.eport p with sent := (t.eport p).sent, counts := (t.eport p).counts }

theorem PortSends.trans {p : Nat} {d t u : Dev} (h : PortSends p d t) (k : PortSends p t u) : PortSends p d u := by
  obtain ⟨hport, hothers, ht⟩ := h
  obtain ⟨kport, kothers, hu⟩ := k
  refine ⟨?_, fun i hi => (kothers i hi).trans (hothers i hi), ?_⟩
  · rw [kport, hport]
  · rw [hu, ht]

theorem sendFrame_sends (p : Nat) (f : EthFrame) (d : Dev) : PortSends p d (sendFrame p f d) := by
  by_cases hl : (d.eport p).link = 2
  · obtain ⟨hport, hothers, hframe⟩ := Dev.upPort_portIs p (EthPort.send f) d
    rw [sendFrame_up hl]
    refine ⟨?_, hothers, hframe⟩
    rw [hport]
    rfl
  · rw [sendFrame, if_neg hl]
    exact ⟨rfl, fun _ _ => rfl, rfl⟩

/-- The end of a pause: the frames that it held leave, those of priorities that stay stopped wait on (R387). -/
theorem releaseHeld_sends (p : Nat) (d : Dev) : PortSends p
    (d.upPort p fun x => { x with held := x.held.filter fun h => paused d p h.1 }) (releaseHeld p d) := by
  have hport : (d.upPort p fun x => { x with held := x.held.filter fun h => paused d p h.1 }) =
      d.upPort p fun x => { x with held := (d.eport p).held.filter fun h => paused d p h.1 } := Dev.upPort_congr rfl
  rw [hport]
  exact Dev.fold_rel (R := PortSends p) (fun _ => ⟨rfl, fun _ _ => rfl, rfl⟩) PortSends.trans _
    (fun h _ e => sendFrame_sends p h.2 e) _

/-- A two-step event frame over Ethernet for whose entry the FIFO has room (R389, R390). -/
theorem ptpTransmit_twoStep {p : Nat} {at_ : Int} {frame : Bytes} {d : Dev} (hl : (d.eport p).link = 2)
    (hu : d.unitUp (epNi p) = true) (hp : paused d p (framePrio frame) = false) (he : (parseFrame frame).ety = 0x88F7)
    (hlen : (ptpOffset frame).1 + 44 ≤ frame.length) (hty : be frame (ptpOffset frame).1 1 % 16 ≤ 3)
    (hroom : (d.eport p).fifo.length < 64) : ptpTransmit p frame false at_ d = d.upPort p fun x => { x.send (.firmware frame) with
      fifo := x.fifo ++ [{
        ty := be frame (ptpOffset frame).1 1 % 16, dom := be frame ((ptpOffset frame).1 + 4) 1
        seqId := be frame ((ptpOffset frame).1 + 30) 2, stamp := egressStamp d p at_, valid := stampValid d p }] } := by
  have hptp : (decide ((ptpOffset frame).1 + 44 ≤ frame.length) && ((parseFrame frame).ety == 0x88F7 ||
      ((parseFrame frame).udp.map fun u => u.1 == 319 || u.1 == 320) == some true)) = true := by simp [hlen, he]
  have hup : ¬((d.eport p).link ≠ 2 ∨ d.unitUp (epNi p) = false ∨ paused d p (framePrio frame) = true) := by simp [hl, hu, hp]
  simp only [ptpTransmit, if_neg hup, hptp, hty, Bool.false_eq_true, false_and, and_false, if_false, true_and, if_true,
    if_neg (Nat.not_le.2 hroom), sendFrame_up hl]
  exact Dev.upPort_upPort p _ _ d

/-- Settles O30, command by command from the equations above. -/
theorem ethernetFrames : Obligations.EthernetFrames := by
  refine ⟨fun p corr at_ frame s hw hs hl hu hi => ?bad, fun p corr at_ frame s hw hs hl hu hi hlen hf hroom he => ?good,
    fun p prio s hw hs => ?pause, fun p at_ frame s hw hs hl hu hp he hlen hty hroom => ?transmit⟩
  case bad =>
    obtain ⟨t, ht⟩ : ∃ t, frameReceive p frame false at_ corr 0 s.dev = t := ⟨_, rfl⟩
    have hframe := ht.symm.trans ((frameReceive_badFcs hl hu hi).trans (Dev.raise_of_not_armed 0xBA p 0xFF 0 (by exact hi)))
    obtain ⟨hport, hports, -⟩ := Dev.upPort_portIs p (fun x => (EthPort.countFec corr x).count 7 1) s.dev
    replace hport := (congrArg (Dev.eport · p) hframe).trans hport
    replace hports := fun i hi => (congrArg (Dev.eport · i) hframe).trans (hports i hi)
    refine completes_of_effect rfl hw hs ht ⟨?_, ?_, hports, congrArg (·.faults.crossing) hframe, ?_⟩ ?_
    · rw [hport, EthPort.count_counts_same, EthPort.countFec, EthPort.count_counts_ne (by decide), EthPort.count_counts_ne (by decide)]
      rfl
    · rw [hport]
      rfl
    · rw [hframe]
      rfl
    · rw [hframe]
      exact ⟨rfl, rfl, rfl, rfl⟩
  case good =>
    have hg (x : EthPort) : ((x.countFec corr).count 2 1).buf = x.buf := rfl
    have heffect := (frameReceive_good (at_ := at_) hl hu hi hlen).trans
      (classify_ptp hlen hf ((noRoom_upPort hg frame s.dev).trans hroom) he)
    refine (completes_upPort rfl hw hs (heffect.trans (Dev.upPort_upPort p _ _ s.dev))).imp fun t ⟨hport, hports, hframe⟩ => ?_
    rw [hport]
    refine ⟨rfl, ?_, rfl, hports, hframe⟩
    refine (EthPort.count_counts_same 2 1 _).trans ?_
    rw [EthPort.countFec, EthPort.count_counts_ne (by decide), EthPort.count_counts_ne (by decide)]
    rfl
  case pause =>
    have hsends := releaseHeld_sends p (s.dev.upPort p fun x => { x with paused := x.paused.erase prio })
    obtain ⟨t, ht⟩ : ∃ t, pfcPauseExpiry p prio s.dev = t := ⟨_, rfl⟩
    rw [show releaseHeld p _ = t from ht, Dev.upPort_upPort] at hsends
    obtain ⟨hport, hports, hframe⟩ := hsends
    rw [Dev.upPort_eport_same] at hport
    have hpaused (k : Nat) : paused t p k = paused (s.dev.upPort p fun x => { x with paused := x.paused.erase prio }) p k := by
      rw [paused, paused, hport, Dev.upPort_eport_same]
    refine completes_of_effect rfl hw hs ht ⟨?_, ?_, ?_, ?_, fun i hi => (hports i hi).trans (Dev.upPort_eport_ne hi _ s.dev), hframe⟩ ?_
    · rw [hpaused, paused, Dev.upPort_eport_same, Tbl.get_erase_same]
      rfl
    · rw [hport]
    · rw [funext fun h : Nat × EthFrame => hpaused h.1, hport]
    · rw [hport]
    · rw [hframe]
      exact ⟨rfl, rfl, rfl, rfl⟩
  case transmit =>
    refine (completes_upPort rfl hw hs (ptpTransmit_twoStep hl hu hp he hlen hty hroom)).imp fun t ⟨hport, hports, hframe⟩ => ?_
    rw [hport]
    exact ⟨rfl, rfl, EthPort.count_counts_same 3 1 _, rfl, hports, hframe⟩

end Sys2Proof.Machine
end

section
/-! SUPPORT. A write of an object that acts (R34, R56), as one store transaction of a path that is free: on path 0 at once, on another
path at the STORE_GRANT that follows (R30). -/
namespace Sys2Proof.Machine

/-- The frame that writes the bytes `bs` to an object. -/
def writeFrame (idx sub : Nat) (bs : Bytes) : Frame := { op := 2, idx := idx, sub := sub, len := bs.length, data := bs, crcOk := true }

theorem writeRow_eq (path idx sub : Nat) (bs : Bytes) (d : Dev) : writeRow path idx sub bs d = frameIn path (writeFrame idx sub bs) d := rfl

/-- An object whose writes act by an action of its chapter, and take `bs` (R34, R65). -/
def ActsOn (idx sub : Nat) (bs : Bytes) : Prop :=
  (∃ r, objRow idx sub = some r ∧ r.cls = .i ∧ r.acc = .wo ∧ valueDetail idx r bs = 0) ∧ idx ≠ 0x1010 ∧ idx ≠ 0x1011 ∧ idx ≠ 0x2008 ∧
    1 ≤ bs.length ∧ bs.length ≤ 256

/-- A device whose last transaction rolled nothing back. -/
def Dev.rolled (d : Dev) : Dev := d.onStore fun st => { st with rolledNow := false }

/-- The store after a transaction of `path` with detail `e` at object `key`, before the port notes that it has served. -/
def Store.answer (path e key : Nat) (st : Store) : Store := { st with
  rolledNow := false
  results := st.results.set path (if e = 0 then 0 else 256 * key + e)
  responses := st.responses.set path (byte (if e = 0 then 0 else 1) :: beBytes 4 (abortOf e) ++ [])
  refused := if e = 0 then st.refused else inc32 st.refused }

theorem actOn_of_actsOn {idx sub : Nat} {bs : Bytes} (h : ActsOn idx sub bs) (path : Nat) (d : Dev) : actOn path idx sub bs d =
    { dev := (objAction path idx sub bs d).1, detail := (objAction path idx sub bs d).2
      key := if (objAction path idx sub bs d).2 = 0 then 0 else okey idx sub } := by
  obtain ⟨-, h1, h2, h3, -⟩ := h
  simp only [actOn, h1, h2, h3, if_false]

theorem endsLater_of_actsOn {idx sub : Nat} {bs : Bytes} (h : ActsOn idx sub bs) (path : Nat) : endsLater path idx sub = false := by
  obtain ⟨-, h1, h2, h3, -⟩ := h
  simp [endsLater, h1, h2, h3]

theorem writeObj_of_actsOn {path idx sub : Nat} {bs : Bytes} {d : Dev} (h : ActsOn idx sub bs) (hm : mayWrite d path idx sub = true) :
    writeObj path (writeFrame idx sub bs) d = (actOn path idx sub bs d).reply := by
  have hlater := endsLater_of_actsOn h path
  obtain ⟨⟨r, hr, hcls, hacc, hv⟩, -⟩ := h
  have hbs : padTo bs.length bs = bs := padTo_self rfl
  simp [writeObj, writeFrame, hr, hcls, hacc, hbs, hv, hm, hlater, Outcome.reply]

theorem frameStat_writeFrame {idx sub : Nat} {bs : Bytes} (h : 1 ≤ bs.length ∧ bs.length ≤ 256) :
    frameStat (writeFrame idx sub bs) = 0 := by
  simp [frameStat, writeFrame, lenAllowed, h]

theorem perform_writeFrame {path idx sub : Nat} {bs : Bytes} {d : Dev} (hs : d.boot.safeHarbour = false) :
    perform path (writeFrame idx sub bs) d = writeObj path (writeFrame idx sub bs) d := by
  simp [perform, writeFrame, hs]

/-- The transaction of such a write: its action, then the answer of its detail. -/
theorem transact_of_actsOn {path idx sub e : Nat} {bs : Bytes} {d a : Dev} (h : ActsOn idx sub bs) (hc : d.store.cut = none)
    (hs : d.boot.safeHarbour = false) (hm : mayWrite d path idx sub = true) (ha : objAction path idx sub bs d.rolled = (a, e))
    (hst : a.store = d.rolled.store) : (transact path (writeFrame idx sub bs) d).later = false ∧
      (transact path (writeFrame idx sub bs) d).dev = { a with store := d.store.answer path e (okey idx sub) } := by
  have hreply : perform path (writeFrame idx sub bs) (rollBack d) =
      { dev := a, stat := if e = 0 then 0 else 1, detail := e, key := if e = 0 then 0 else okey idx sub } := by
    rw [rollBack_of_not_cut hc]
    refine (perform_writeFrame (d := d.rolled) hs).trans ((writeObj_of_actsOn (d := d.rolled) h hm).trans ?_)
    rw [actOn_of_actsOn h, ha]
    rfl
  have hstat := frameStat_writeFrame (idx := idx) (sub := sub) h.2.2.2.2
  simp only [transact, hstat, if_true, hreply, Dev.onStore]
  refine ⟨trivial, ?_⟩
  rw [hst]
  by_cases he : e = 0
  · subst he
    rfl
  · simp only [he, if_false, Reply.bytes, Store.answer]
    rfl

/-! A free path. -/

/-- The device with one frame that waits for the store. -/
def Dev.waits (path : Nat) (f : Frame) (d : Dev) : Dev := d.onStore fun st => { st with waiting := [(path, f)] }

/-- The frame of a free path other than 0 waits for the store. -/
theorem frameIn_waits {path : Nat} {f : Frame} {d : Dev} (hp : path ≠ 0) (hf : d.boot.firmware = true) (hw : d.store.waiting = []) :
    frameIn path f d = d.waits path f := by
  have hserved : pathServed d path = true := by simp [pathServed, hf]
  have hset : d.store.waiting.set path f = [(path, f)] := by rw [hw]; rfl
  have hhas : d.store.waiting.has path = false := by rw [hw]; rfl
  rw [frameIn, if_neg hp, if_pos hserved, Dev.waits, ← hset]
  by_cases h1 : path = 1
  · subst h1
    simp only [presentFrame, if_true, fwFrame, hf, Bool.true_eq_false, if_false, hhas, Bool.false_eq_true]
    rfl
  · simp only [presentFrame, h1, if_false, hhas, Bool.false_eq_true]
    rfl

/-- The grant takes that frame from the store and leaves the device as it was. -/
theorem takeFrame_waits {path : Nat} {f : Frame} {d : Dev} (hw : d.store.waiting = []) (ho : d.store.own = []) :
    takeFrame path (d.waits path f) = d := by
  have herase : Tbl.erase [(path, f)] path = d.store.waiting := by rw [hw]; exact if_pos rfl
  have htake : takeFrame path (d.waits path f) =
      d.onStore fun st => { st with waiting := Tbl.erase [(path, f)] path } := by
    simp only [takeFrame, Dev.waits, Dev.onStore, ho]
    split
    · next h => cases h
    · rfl
  rw [htake, herase]
  rfl

/-- On a path where no request and no session is in progress the transaction's device stands. -/
theorem runPath_of_idle {path : Nat} {f : Frame} {d : Dev} (hp : 16 ≤ path → (d.boxes.get {} (path - 16)).pending = false)
    (hl : (transact path f d).later = false) (hu : (transact path f d).dev.can.usdo = none) :
    runPath path f d = (transact path f d).dev := by
  have hasked : (decide (16 ≤ path) && (d.boxes.get {} (path - 16)).pending) = false := by
    by_cases h : 16 ≤ path
    · simp [h, hp h]
    · simp [h]
  simp only [runPath, hasked, Bool.false_eq_true, if_false, hl]
  by_cases h2 : path = 2
  · subst h2
    simp [usdoOutcome, hu]
  · rw [if_neg h2]

/-- A write by its own row, of an object whose action is known, is carried with that action and the answer of its detail. -/
theorem carried_of_presented {c : Instr} {f : Dev → Dev} {s : State} {path idx sub e : Nat} {bs : Bytes} {d a : Dev} {P : Dev → Prop}
    (he : exec c s = act c.wellFormed f s) (hw : c.wellFormed = true) (hs : s.Ready) (hf : f s.dev = writeRow path idx sub bs d)
    (hd : MemoryKept s.dev d) (hpow : d.power.released = true) (hfree : PathFree d path) (h : ActsOn idx sub bs)
    (hm : mayWrite d path idx sub = true) (ha : objAction path idx sub bs d.rolled = (a, e)) (hst : a.store = d.rolled.store)
    (hk : MemoryKept d a) (hu : a.can.usdo = d.can.usdo)
    (hP : P { a with store := storeAnswered d.store path e (okey idx sub) [] }) : Carried path c s P := by
  obtain ⟨hc, hsafe, hpath⟩ := hfree
  obtain ⟨hlater, htransact⟩ := transact_of_actsOn h hc hsafe hm ha hst
  have hbus : d.bus = [] := hd.2.2.2.trans hs.2
  have hkept : ∀ st, MemoryKept d { a with store := st } := fun _ => hk
  unfold Carried
  obtain ⟨hp, hgranted, hserved⟩ | ⟨hp, hfw, howner, hspi, hwait, hown, husdo, hbox⟩ := hpath
  · subst hp
    rw [if_pos rfl]
    have hpresent : f s.dev = { a with store := storeAnswered d.store 0 e (okey idx sub) [] } := by
      rw [hf, writeRow_eq, frameIn, if_pos rfl, presentSpi, if_pos ⟨hgranted, hserved⟩, htransact]
      rfl
    refine completes_of_effect he hw hs hpresent hP ?_
    obtain ⟨h1, h2, h3, h4⟩ := hk
    obtain ⟨k1, k2, k3, k4⟩ := hd
    exact ⟨h1.trans k1, h2.trans k2, h3.trans k3, h4.trans k4⟩
  · rw [if_neg hp]
    have hpresent : f s.dev = d.waits path (writeFrame idx sub bs) := by
      rw [hf, writeRow_eq, frameIn_waits hp hfw hwait]
    refine completes_of_effect he hw hs hpresent ?_ hd
    have hnext : nextPath (d.waits path (writeFrame idx sub bs)) =
        some (path, writeFrame idx sub bs) :=
      nextPath_of_waiting (pre := []) (post := []) rfl (fun _ h => (List.not_mem_nil h).elim) (by simp [pathServed, Dev.waits, Dev.onStore, hfw])
    have hgrant : storeGrant (d.waits path (writeFrame idx sub bs)) =
        { a with store := storeAnswered d.store path e (okey idx sub) [] } := by
      rw [storeGrant_nextPath (d := d.waits path (writeFrame idx sub bs)) howner hspi hnext, takeFrame_waits hwait hown, runPath_of_idle hbox hlater, htransact]
      · simp only [storeAnswered, Store.answer, hp, if_false]
      · rw [htransact]
        exact hu.trans husdo
    exact completes_of_effect (s := { s with dev := d.waits path (writeFrame idx sub bs) })
      (f := storeGrant) rfl rfl ⟨hpow, hbus⟩ hgrant hP (hkept _)

/-- The same of a row that presents its frame at once. -/
theorem carried_of_action {c : Instr} {s : State} {path idx sub e : Nat} {bs : Bytes} {a : Dev} {P : Dev → Prop}
    (he : exec c s = act c.wellFormed (writeRow path idx sub bs) s) (hw : c.wellFormed = true) (hs : s.Ready)
    (hfree : PathFree s.dev path) (h : ActsOn idx sub bs) (hm : mayWrite s.dev path idx sub = true)
    (ha : objAction path idx sub bs s.dev.rolled = (a, e)) (hP : P { a with store := storeAnswered s.dev.store path e (okey idx sub) [] })
    (hst : a.store = s.dev.rolled.store := by rfl) (hk : MemoryKept s.dev a := by exact ⟨rfl, rfl, rfl, rfl⟩)
    (hu : a.can.usdo = s.dev.can.usdo := by rfl) : Carried path c s P :=
  carried_of_presented he hw hs rfl ⟨rfl, rfl, rfl, rfl⟩ hs.1 hfree h hm ha hst hk hu hP

/-! Numbers as they are written. -/

theorem toNat_leBytes (n : Nat) : ∀ {v : Nat}, v < 2 ^ (8 * n) → (leBytes n v).toNat = v := by
  induction n with
  | zero =>
    intro v hv
    exact (Nat.lt_one_iff.1 hv).symm
  | succ n ih =>
    intro v hv
    have hdiv : v / 256 < 2 ^ (8 * n) := by
      rw [Nat.div_lt_iff_lt_mul (by decide)]
      calc v < 2 ^ (8 * (n + 1)) := hv
        _ = 2 ^ (8 * n) * 256 := by rw [Nat.mul_add, Nat.pow_add]
    have hbyte : (byte v).toNat = v % 256 := by simp [byte]
    rw [leBytes, Bytes.toNat, ih hdiv, hbyte]
    omega

end Sys2Proof.Machine
end

section
/-! SUPPORT. The objects of the fault collector and of the inhibit monitor (R474, R481 to R487): which object each row writes, what its
action makes of the device, and from these the obligation about them. -/
namespace Sys2Proof.Machine

/-! The objects. -/

/-- An object of four bytes without bounds takes every value. -/
theorem actsOn_u32 {idx sub : Nat} {r : ObjRow} (hr : objRow idx sub = some r) (hcls : r.cls = .i) (hacc : r.acc = .wo)
    (hty : r.ty = .u 4) (hrng : r.rng = .any) (hidx : idx ≠ 0x1010 ∧ idx ≠ 0x1011 ∧ idx ≠ 0x2008) (v : Nat) :
    ActsOn idx sub (leBytes 4 v) := by
  obtain ⟨h1, h2, h3⟩ := hidx
  refine ⟨⟨r, hr, hcls, hacc, ?_⟩, h1, h2, h3, ?_⟩
  · simp [valueDetail, hty, OTy.lenOk, leBytes_length, ObjRow.inRange, hrng]
  · simp [leBytes_length]

theorem actsOn_clearSource {n : Nat} (hn : n < 256) (v : Nat) : ActsOn (0x4000 + n) 0xC (leBytes 4 v) := by
  have hpage : (0x4000 + n) / 256 = 0x40 := by omega
  have hlo : 0x4000 ≤ 0x4000 + n ∧ 0x4000 + n ≤ 0x40FF := by omega
  refine actsOn_u32 (r := ⟨0x4000, 0x40FF, 0xC, 0xC, .u 4, .wo, .i, .n 0, .any⟩) ?_ rfl rfl rfl rfl (by omega) v
  simp [objRow, rowsFor, hpage, rows40, rows40p0, hlo]

theorem actsOn_clearAllSources (v : Nat) : ActsOn 0x2E03 1 (leBytes 4 v) := actsOn_u32 rfl rfl rfl rfl rfl (by decide) v

theorem actsOn_clearFaultN (v : Nat) : ActsOn 0x2E01 2 (leBytes 4 v) := actsOn_u32 rfl rfl rfl rfl rfl (by decide) v

theorem actsOn_fieldInjection (v : Nat) : ActsOn 0x2E10 1 (leBytes 4 v) := actsOn_u32 rfl rfl rfl rfl rfl (by decide) v

theorem actsOn_cancelInjection (v : Nat) : ActsOn 0x2E10 3 (leBytes 4 v) := actsOn_u32 rfl rfl rfl rfl rfl (by decide) v

theorem actsOn_factoryInjection (v : Nat) : ActsOn 0x2E11 1 (leBytes 4 v) := actsOn_u32 rfl rfl rfl rfl rfl (by decide) v

theorem actsOn_acknowledge (v : Nat) : ActsOn 0x2E30 3 (leBytes 4 v) := actsOn_u32 rfl rfl rfl rfl rfl (by decide) v

/-- A source's clear object acts on that source. -/
theorem objAction_clearSource (path : Nat) {n : Nat} (hn : n < 256) (bs : Bytes) (d : Dev) :
    objAction path (0x4000 + n) 0xC bs d = clearSource n bs.toNat d := by
  simp (disch := omega) only [objAction, if_neg, Nat.add_sub_cancel_left]

theorem clearSource_lt {path n v : Nat} (hw : (Instr.clearSource path n v).wellFormed = true) : n < 256 := by
  simp only [Instr.wellFormed, wfClearSource, Bool.and_eq_true, decide_eq_true_eq] at hw
  exact hw.1.2

/-! One source. -/

theorem Dev.setSource_source_same (n : Nat) (x : SourceState) (d : Dev) :
    (d.onFaults fun f => { f with src := f.src.set n x }).source n = x := Tbl.get_set_same ..

theorem Dev.setSource_source_ne {n i : Nat} (hi : i ≠ n) (x : SourceState) (d : Dev) :
    (d.onFaults fun f => { f with src := f.src.set n x }).source i = d.source i := Tbl.get_set_ne _ _ _ hi

/-- The device with source `n` at its reset values. -/
def Dev.dropSource (n : Nat) (d : Dev) : Dev := d.onFaults fun f => { f with src := f.src.set n {} }

theorem queueEmcy_silent {d : Dev} (h : d.boot.firmware = false ∨ d.can.enabled = false) (s : Nat) (enter : Bool) (count : Nat) :
    queueEmcy s enter count d = d := if_pos h

/-- An EMCY joins the queue where it has room (R83). -/
theorem queueEmcy_joins {d : Dev} (h : d.boot.firmware = true ∧ d.can.enabled = true ∧ d.can.emcy.length < 16) (s : Nat) (enter : Bool)
    (count : Nat) : ∃ m, queueEmcy s enter count d = d.onCan fun c => { c with emcy := c.emcy ++ [m] } := by
  obtain ⟨hf, hc, hl⟩ := h
  have hspeaks : ¬(d.boot.firmware = false ∨ d.can.enabled = false) := by simp [hf, hc]
  exact ⟨_, (if_neg hspeaks).trans (if_neg (Nat.not_le.2 hl))⟩

theorem clearSourceState_calm {n : Nat} {d : Dev} (h : (d.source n).severe = false) : clearSourceState true n d = d.dropSource n :=
  if_neg (Bool.eq_false_iff.1 h)

theorem clearSourceState_severe {n : Nat} {d : Dev} (h : (d.source n).severe = true) :
    clearSourceState true n d = queueEmcy n false 0 (d.dropSource n) := if_pos h

theorem clearSourceState_silent {n : Nat} {d : Dev} (h : d.boot.firmware = false ∨ d.can.enabled = false) :
    clearSourceState true n d = d.dropSource n := by
  by_cases hs : (d.source n).severe = true
  · exact (clearSourceState_severe hs).trans (queueEmcy_silent (d := d.dropSource n) h n false 0)
  · exact clearSourceState_calm (Bool.eq_false_iff.2 hs)

/-- `t` is `d` but for sources, of which those at their reset values stay so. -/
def SourcesDropped (d t : Dev) : Prop :=
  (∀ n, d.source n = {} → t.source n = {}) ∧ t = { d with faults := { d.faults with src := t.faults.src } }

theorem SourcesDropped.trans {d t u : Dev} (h : SourcesDropped d t) (k : SourcesDropped t u) : SourcesDropped d u := by
  obtain ⟨hs, ht⟩ := h
  obtain ⟨ks, hu⟩ := k
  refine ⟨fun n hn => ks n (hs n hn), ?_⟩
  rw [hu, ht]

theorem Dev.dropSource_dropped (n : Nat) (d : Dev) : SourcesDropped d (d.dropSource n) := by
  refine ⟨fun i hi => ?_, rfl⟩
  by_cases h : i = n
  · subst h
    exact Dev.setSource_source_same i {} d
  · exact (Dev.setSource_source_ne h {} d).trans hi

/-- While no EMCY can be queued, the clear of the sources of a list drops each of them. -/
theorem fold_clearSourceState (l : Tbl SourceState) : ∀ {d : Dev}, d.boot.firmware = false ∨ d.can.enabled = false →
    SourcesDropped d (Dev.fold l (fun e => clearSourceState true e.1) d) ∧
      ∀ e ∈ l, (Dev.fold l (fun e => clearSourceState true e.1) d).source e.1 = {} := by
  induction l with
  | nil => exact fun _ => ⟨⟨fun _ h => h, rfl⟩, fun _ h => (List.not_mem_nil h).elim⟩
  | cons k l ih =>
    intro d h
    obtain ⟨hrest, hall⟩ := ih (d := d.dropSource k.1) h
    have hstep : Dev.fold (k :: l) (fun e => clearSourceState true e.1) d =
        Dev.fold l (fun e => clearSourceState true e.1) (d.dropSource k.1) :=
      congrArg (Dev.fold l fun e => clearSourceState true e.1) (clearSourceState_silent h)
    rw [hstep]
    refine ⟨(Dev.dropSource_dropped k.1 d).trans hrest, fun e he => ?_⟩
    obtain rfl | he := List.mem_cons.1 he
    · exact hrest.1 e.1 (Dev.setSource_source_same e.1 {} d)
    · exact hall e he

/-! The actions. -/

/-- The number that a row writes is the value it names. -/
theorem toNat_u32 {v : Nat} (h : v < 2 ^ 32) : (leBytes 4 v).toNat = v := toNat_leBytes 4 h

theorem fieldInjection_cases {v : Nat} {d : Dev} (hv : v < 2 ^ 24) (hlane : (0xA0 ≤ v % 256 ∧ v % 256 ≤ 0xB7) ∨ v / 65536 = 0) :
    fieldInjection v d = if fieldInjectable (v % 256) (v / 65536) = false then (d, 0x81) else if d.faults.inj.state = 1 then (d, 0x83)
      else (d.onFaults fun f => { f with inj := { state := 1, src := v % 256, inst := v / 256 % 256, cause := v / 65536 } }, 0) := by
  have hsrc : bitsOf v 7 0 = v % 256 := by simp [bitsOf]
  have hinst : bitsOf v 15 8 = v / 256 % 256 := by simp [bitsOf]
  have hcause : bitsOf v 23 16 = v / 65536 := by
    simp only [bitsOf, Nat.reduceAdd, Nat.reduceSub, Nat.reducePow]
    omega
  have hok : ¬(v / 2 ^ 24 ≠ 0 ∨ (decide (0xA0 ≤ v % 256 ∧ v % 256 ≤ 0xB7) = false ∧ v / 65536 ≠ 0)) := by
    rw [decide_eq_false_iff_not]
    omega
  simp only [fieldInjection, hsrc, hinst, hcause, if_neg hok]

/-- The same of the row that writes `v`. -/
theorem fieldInjection_row (path : Nat) {v : Nat} (hv : v < 2 ^ 24) (hlane : (0xA0 ≤ v % 256 ∧ v % 256 ≤ 0xB7) ∨ v / 65536 = 0) (d : Dev) :
    objAction path 0x2E10 1 (leBytes 4 v) d = if fieldInjectable (v % 256) (v / 65536) = false then (d, 0x81)
      else if d.faults.inj.state = 1 then (d, 0x83)
      else (d.onFaults fun f => { f with inj := { state := 1, src := v % 256, inst := v / 256 % 256, cause := v / 65536 } }, 0) :=
  (congrArg (fieldInjection · d) (toNat_u32 (by omega))).trans (fieldInjection_cases hv hlane)

theorem factoryInjection_raises {v : Nat} {d : Dev} (ht : d.power.testMode = true ∧ d.otp.testOn = true)
    (hr : reservedSource (v % 256) = false) :
    factoryInjection v d = (d.raise (v % 256) (v / 256 % 256) 0xFF 0 true, 0) := by
  have hsrc : bitsOf v 7 0 = v % 256 := by simp [bitsOf]
  have hinst : bitsOf v 15 8 = v / 256 % 256 := by simp [bitsOf]
  simp [factoryInjection, hsrc, hinst, ht, hr]

/-- An injected event joins those on their way to FCOL and spends no armed injection (R483). -/
theorem Dev.raise_injected (src inst : Nat) (d : Dev) : d.raise src inst 0xFF 0 true = { d with faults := { d.faults with
    crossing := d.faults.crossing ++ [{ src := src, inst := inst, part := 0xFF, cause := 0, injected := true }] } } := by
  simp [Dev.raise]

theorem factoryInjection_refused {v : Nat} {d : Dev} (ht : d.power.testMode = false ∨ d.otp.testOn = false) :
    factoryInjection v d = (d, 0x80) := by
  refine if_pos ?_
  obtain h | h := ht <;> simp [h]

theorem acknowledge_ends {d : Dev} (hp : d.inhibit.aLevel = true ∧ d.inhibit.bLevel = false) (hl : d.inhibit.latched = true) :
    acknowledgeDiscrepancy clearKey d = (d.onInhibit fun y => { y with latched := false, count := 0 }, 0) := by
  simp [acknowledgeDiscrepancy, hp, hl]

theorem acknowledge_refused {d : Dev} (hp : d.inhibit.aLevel = false ∨ d.inhibit.bLevel = true) :
    acknowledgeDiscrepancy clearKey d = (d, 0x82) := by
  simp [acknowledgeDiscrepancy, hp]

/-- FAULT_N is released where the collector has been enabled and no latch is left (R481). -/
theorem faultNLow_of_released {d : Dev} (he : d.faults.everEnabled = true) (hr : d.faults.resetFlag = false)
    (hs : ∀ e ∈ d.faults.src, e.2.faultN = false) : faultNLow d = false := by
  simp only [faultNLow, he, hr, Bool.not_true, Bool.or_self, Bool.false_or, List.any_eq_false]
  exact fun e h => by rw [hs e h]; exact Bool.false_ne_true

/-- A source whose FAULT_N latch is released. -/
def SourceState.release (x : SourceState) : SourceState := { x with faultN := false }

/-- Settles O57, object by object from the equations above. -/
theorem faultObjects : Obligations.FaultObjects := by
  refine ⟨fun path n s hw hs hfree hm hx => ?calm, fun path n s hw hs hfree hm hx hcan => ?severe,
    fun path s hw hs hfree hm hcan => ?all, fun path s hw hs hfree hm => ?faultN,
    fun path v s hw hs hfree hm hv hlane hin hi => ?arm, fun path v s hw hs hfree hm hv hlane hin hi => ?armed,
    fun path v s hw hs hfree hm hv hlane hin => ?notField, fun path v s hw hs hfree hm hi => ?cancel,
    fun path v s hw hs hfree hm ht hr hi => ?factory, fun path v s hw hs hfree hm ht => ?noTest,
    fun path s hw hs hfree hm hp hl => ?ack, fun path s hw hs hfree hm hp => ?ackRefused⟩
  case calm =>
    have hn := clearSource_lt hw
    have haction : clearSource n clearKey s.dev.rolled = (s.dev.rolled.dropSource n, 0) :=
      (if_pos rfl).trans (congrArg (·, 0) (clearSourceState_calm hx))
    exact carried_of_action rfl hw hs hfree (actsOn_clearSource hn _) hm ((objAction_clearSource path hn _ _).trans haction)
      ⟨Dev.setSource_source_same n {} s.dev, fun i hi => Dev.setSource_source_ne hi {} s.dev, rfl, rfl⟩
  case severe =>
    have hn := clearSource_lt hw
    obtain ⟨m, hqueue⟩ := queueEmcy_joins (d := s.dev.rolled.dropSource n) hcan n false 0
    have haction : clearSource n clearKey s.dev.rolled = ((s.dev.rolled.dropSource n).onCan fun c => { c with emcy := c.emcy ++ [m] }, 0) :=
      (if_pos rfl).trans (congrArg (·, 0) ((clearSourceState_severe (d := s.dev.rolled) hx).trans hqueue))
    exact carried_of_action rfl hw hs hfree (actsOn_clearSource hn _) hm ((objAction_clearSource path hn _ _).trans haction)
      ⟨Dev.setSource_source_same n {} s.dev, fun i hi => Dev.setSource_source_ne hi {} s.dev, List.length_append, rfl, rfl⟩
  case all =>
    obtain ⟨⟨-, hframe⟩, hall⟩ := fold_clearSourceState s.dev.faults.src (d := s.dev.rolled) hcan
    revert hframe hall
    have haction : clearAllSources clearKey s.dev.rolled = ((Dev.fold s.dev.faults.src (fun e => clearSourceState true e.1) s.dev.rolled).onFaults
      fun f => { f with first := 0xFFFF, firstRec := [], nmis := 0, skipped := 0, registered := 0 }, 0) := if_pos rfl
    revert haction
    generalize Dev.fold s.dev.faults.src (fun e => clearSourceState true e.1) s.dev.rolled = e
    intro haction hall hframe
    have hcleared : (e.onFaults fun f => { f with first := 0xFFFF, firstRec := [], nmis := 0, skipped := 0, registered := 0 }) =
        { s.dev.rolled with faults := {
          s.dev.faults with src := e.faults.src, first := 0xFFFF, firstRec := [], nmis := 0, skipped := 0, registered := 0 } } := by
      rw [hframe]
      rfl
    rw [hcleared] at haction
    exact carried_of_action rfl hw hs hfree (actsOn_clearAllSources _) hm haction ⟨hall, rfl, rfl, rfl, rfl⟩
  case faultN =>
    have haction : clearFaultN clearKey s.dev.rolled = (s.dev.rolled.onFaults fun f => { f with
      resetFlag := false, src := f.src.map fun e => (e.1, e.2.release) }, 0) := if_pos rfl
    refine carried_of_action rfl hw hs hfree (actsOn_clearFaultN _) hm haction
      ⟨fun n => Tbl.get_map SourceState.release {} {} rfl s.dev.faults.src n, rfl, fun he => ?_, rfl, rfl⟩
    refine faultNLow_of_released he rfl fun e h => ?_
    obtain ⟨k, -, rfl⟩ := List.mem_map.1 h
    rfl
  case arm =>
    have haction := fieldInjection_row path hv hlane s.dev.rolled
    rw [if_neg (by simp [hin]), if_neg (by exact hi)] at haction
    exact carried_of_action rfl hw hs hfree (actsOn_fieldInjection v) hm haction ⟨rfl, rfl⟩
  case armed =>
    have haction := fieldInjection_row path hv hlane s.dev.rolled
    rw [if_neg (by simp [hin]), if_pos (by exact hi)] at haction
    exact carried_of_action rfl hw hs hfree (actsOn_fieldInjection v) hm haction rfl
  case notField =>
    have haction := fieldInjection_row path hv hlane s.dev.rolled
    rw [if_pos hin] at haction
    exact carried_of_action rfl hw hs hfree (actsOn_fieldInjection v) hm haction rfl
  case cancel =>
    have haction : cancelInjection s.dev.rolled = (s.dev.rolled.onFaults fun f => { f with inj := { f.inj with state := 3 } }, 0) :=
      congrArg (·, 0) (if_pos hi)
    exact carried_of_action rfl hw hs hfree (actsOn_cancelInjection v) hm haction ⟨rfl, rfl⟩
  case factory =>
    have hv : v < 2 ^ 32 := by
      simp only [Instr.wellFormed, wfFactoryInjection, Bool.and_eq_true, decide_eq_true_eq] at hw
      exact hw.2
    have haction : factoryInjection (leBytes 4 v).toNat s.dev.rolled = _ :=
      (congrArg (factoryInjection · s.dev.rolled) (toNat_u32 hv)).trans
        ((factoryInjection_raises (d := s.dev.rolled) ht hr).trans (congrArg (·, 0) (Dev.raise_injected _ _ s.dev.rolled)))
    exact carried_of_action rfl hw hs hfree (actsOn_factoryInjection v) hm haction ⟨rfl, rfl, rfl⟩
  case noTest =>
    exact carried_of_action rfl hw hs hfree (actsOn_factoryInjection v) hm (factoryInjection_refused (d := s.dev.rolled) ht) rfl
  case ack =>
    exact carried_of_action rfl hw hs hfree (actsOn_acknowledge _) hm (acknowledge_ends (d := s.dev.rolled) hp hl) ⟨rfl, rfl⟩
  case ackRefused =>
    exact carried_of_action rfl hw hs hfree (actsOn_acknowledge _) hm (acknowledge_refused (d := s.dev.rolled) hp) rfl

end Sys2Proof.Machine
end

section
/-! SUPPORT. Writes of chassis time (R442, R444, R448), of a SYSREF re-anchoring and of probe commands, the firmware's PTP messages and
the removal of messages (R183): from these the obligation about time objects. -/
namespace Sys2Proof.Machine

/-! Chassis time. -/

theorem actsOn_setTime {bs : Bytes} (h : bs.length = 12) : ActsOn 0x2D11 1 bs := by
  refine ⟨⟨_, rfl, rfl, rfl, ?_⟩, by decide, by decide, by decide, by omega, by omega⟩
  simp [valueDetail, OTy.lenOk, h, ObjRow.inRange]

theorem actsOn_adjustTime (v : Nat) : ActsOn 0x2D11 2 (leBytes 8 v) := by
  refine ⟨⟨_, rfl, rfl, rfl, ?_⟩, by decide, by decide, by decide, ?_⟩
  · simp [valueDetail, OTy.lenOk, leBytes_length, ObjRow.inRange]
  · simp [leBytes_length]

theorem actsOn_setUtc (v : Nat) : ActsOn 0x2D20 2 (leBytes 8 v) := by
  refine ⟨⟨_, rfl, rfl, rfl, ?_⟩, by decide, by decide, by decide, ?_⟩
  · simp [valueDetail, OTy.lenOk, leBytes_length, ObjRow.inRange]
  · simp [leBytes_length]

/-- A number that eight bytes hold in two's complement reads back (R65). -/
theorem toInt_leBytes {x : Int} (h : isInt64 x = true) : (leBytes 8 (encInt 64 x)).toInt = x := by
  have hx : -9223372036854775808 ≤ x ∧ x < 9223372036854775808 := of_decide_eq_true h
  have henc : encInt 64 x < 2 ^ (8 * 8) := by
    unfold encInt
    omega
  unfold Bytes.toInt
  rw [leBytes_length, toNat_leBytes 8 henc]
  simp only [encInt]
  omega

/-- The time of `d` has been set to a TAI time, which counts as a step (R444): the TTU's NI holds a LOAD. -/
def TimeSet (d t : Dev) (ns : Nat) : Prop :=
  t.timing = { d.timing with
      backlog := 0, valid := max 1 d.timing.valid, steps := inc32 d.timing.steps, lastStep := t.timing.lastStep
      pending := some { master := .load (3 * (ns : Int) - 2 * (d.clock.edges : Int)), nis := everyNi .load } } ∧
    (t.ni 64).change = some .load ∧
    t.faults.crossing = d.faults.crossing ++ [{ src := 0xC6, inst := 0xFF, part := 0xFF, cause := 0, injected := false }] ∧
    t = { d with timing := t.timing, nis := t.nis, faults := { d.faults with crossing := t.faults.crossing } }

theorem noteStep_raises {x : Int} {d : Dev} (hi : d.faults.inj.state ≠ 1) : noteStep x d = { d with
    timing := { d.timing with steps := inc32 d.timing.steps, lastStep := x }
    faults := { d.faults with crossing := d.faults.crossing ++ [{ src := 0xC6 }] } } :=
  Dev.raise_of_not_armed 0xC6 0xFF 0xFF 0 (d := d.onTiming fun t => { t with steps := inc32 t.steps, lastStep := x }) hi

/-- A step of the time, once it has been noted and its change asked for. -/
theorem ChangeAsked.timeSet {s ns : Nat} {x : Int} {d t : Dev} (h : ChangeAsked { d with
      timing := { d.timing with backlog := 0, valid := max 1 d.timing.valid, steps := inc32 d.timing.steps, lastStep := x }
      faults := { d.faults with crossing := d.faults.crossing ++ [{ src := 0xC6 }] } } t (loadTime d s ns)) :
    TimeSet d t (s * 1000000000 + ns) := by
  obtain ⟨hchange, -⟩ := h.every
  obtain ⟨htiming, -, -, hframe⟩ := h
  have hlast : t.timing.lastStep = x := by rw [htiming]
  have hcrossing : t.faults.crossing = d.faults.crossing ++ [{ src := 0xC6 }] := by rw [hframe]
  refine ⟨?_, hchange, hcrossing, ?_⟩
  · rw [hlast]
    exact htiming
  · rw [hcrossing]
    exact hframe

theorem setTime_set {s ns : Nat} {d : Dev} (hp : d.timing.pending = none) (hi : d.faults.inj.state ≠ 1) :
    TimeSet d (setTime s ns d) (s * 1000000000 + ns) := by
  have hstep (x : Int) := noteStep_raises (x := x) (d := d.onTiming fun t => { t with backlog := 0, valid := max 1 t.valid }) hi
  unfold setTime
  dsimp only
  generalize ((s * 1000000000 + ns : Nat) : Int) - ((d.timeNow.1 * 1000000000 + d.timeNow.2 : Nat) : Int) = x
  rw [hstep]
  have hasked := requestChange_asked (q := loadTime d s ns) (d := { d with
    timing := { d.timing with backlog := 0, valid := max 1 d.timing.valid, steps := inc32 d.timing.steps, lastStep := x }
    faults := { d.faults with crossing := d.faults.crossing ++ [{ src := 0xC6 }] } }) hp
  exact hasked.timeSet

/-- A write that sets the time. -/
theorem carried_timeSet {c : Instr} {s : State} {path idx sub ns : Nat} {bs : Bytes} {a : Dev}
    (he : exec c s = act c.wellFormed (writeRow path idx sub bs) s) (hw : c.wellFormed = true) (hs : s.Ready)
    (hfree : PathFree s.dev path) (h : ActsOn idx sub bs) (hm : mayWrite s.dev path idx sub = true)
    (ha : objAction path idx sub bs s.dev.rolled = (a, 0)) (ht : TimeSet s.dev.rolled a ns) : Carried path c s fun t =>
      t.timing = { s.dev.timing with
          backlog := 0, valid := max 1 s.dev.timing.valid, steps := inc32 s.dev.timing.steps, lastStep := t.timing.lastStep
          pending := some { master := .load (3 * (ns : Int) - 2 * (s.dev.clock.edges : Int)), nis := everyNi .load } } ∧
        (t.ni 64).change = some .load ∧
        t.faults.crossing = s.dev.faults.crossing ++ [{ src := 0xC6, inst := 0xFF, part := 0xFF, cause := 0, injected := false }] ∧
        t.store = storeAnswered s.dev.store path 0 0 [] ∧
        t = { s.dev with
          store := t.store, timing := t.timing, nis := t.nis, faults := { s.dev.faults with crossing := t.faults.crossing } } := by
  obtain ⟨htiming, hchange, hcrossing, hframe⟩ := ht
  have hstore : a.store = s.dev.rolled.store := by rw [hframe]
  have hkept : MemoryKept s.dev a := by
    rw [hframe]
    exact ⟨rfl, rfl, rfl, rfl⟩
  have husdo : a.can.usdo = s.dev.can.usdo := by
    rw [hframe]
    rfl
  refine carried_of_action he hw hs hfree h hm ha ⟨htiming, hchange, hcrossing, rfl, ?_⟩ hstore hkept husdo
  rw [hframe]
  rfl

theorem setTimeAct_sets {path : Nat} {bs : Bytes} {d : Dev} (hns : bs.le 6 4 < 1000000000 ∧ bs.le 10 2 = 0)
    (hr : timeWriteRefused d path = false) : setTimeAct path bs d = (setTime (bs.le 0 6) (bs.le 6 4) d, 0) := by
  have hok : ¬(1000000000 ≤ bs.le 6 4 ∨ bs.le 10 2 ≠ 0) := by omega
  simp [setTimeAct, hok, hr]

theorem setTimeAct_refused {path : Nat} {bs : Bytes} {d : Dev} (hns : bs.le 6 4 < 1000000000 ∧ bs.le 10 2 = 0)
    (hr : timeWriteRefused d path = true) : setTimeAct path bs d = (d, 0x70) := by
  have hok : ¬(1000000000 ≤ bs.le 6 4 ∨ bs.le 10 2 ≠ 0) := by omega
  simp [setTimeAct, hok, hr]

theorem setUtcAct_sets {path v : Nat} {d : Dev} (hv : calendarOk v = true) (hr : timeWriteRefused d path = false) :
    setUtcAct path v d = (setTime (calendarTai d.tcfg v) 0 d, 0) := by
  simp [setUtcAct, hv, hr]

theorem setUtc_lt {path v : Nat} (hw : (Instr.setUtc path v).wellFormed = true) : v < 2 ^ 64 := by
  simp only [Instr.wellFormed, wfSetUtc, Bool.and_eq_true, decide_eq_true_eq] at hw
  exact hw.2

/-- A small adjustment goes into the backlog (R444). -/
theorem adjustTimeAct_slews {path : Nat} {x : Int} {d : Dev} (hr : timeWriteRefused d path = false)
    (hx : x.natAbs ≤ d.tcfg.nat 0x2D10 4) :
    adjustTimeAct path x d = (d.onTiming fun t => { t with backlog := t.backlog + countsOf x }, 0) := by
  simp [adjustTimeAct, hr, adjust, hx]

/-! SYSREF outputs and probes. -/

theorem sysrefReanchor_lt {path k v : Nat} (hw : (Instr.sysrefReanchor path k v).wellFormed = true) : k < 6 := by
  simp only [Instr.wellFormed, wfSysrefReanchor, Bool.and_eq_true, decide_eq_true_eq] at hw
  exact hw.1.2

theorem actsOn_reanchor {k : Nat} (hk : k < 6) (v : Nat) : ActsOn (0x2D40 + k) 7 (leBytes 4 v) := by
  have hrow : objRow (0x2D40 + k) 7 = some ⟨0x2D40, 0x2D45, 0x7, 0x7, .u 4, .wo, .i, .n 0, .any⟩ := by
    interval_cases k <;> rfl
  exact actsOn_u32 hrow rfl rfl rfl rfl (by omega) v

theorem objAction_reanchor (path : Nat) {k : Nat} (hk : k < 6) (d : Dev) :
    objAction path (0x2D40 + k) 7 (leBytes 4 clearKey) d = (reanchor k d, 0) := by
  simp (disch := omega) only [objAction, if_neg, if_pos, Nat.add_sub_cancel_left]
  rfl

theorem actsOn_probe {j : Nat} (hj : j < 16) (v : Nat) : ActsOn (0x2F20 + j) 1 [byte v] := by
  have hrow : objRow (0x2F20 + j) 1 = some ⟨0x2F20, 0x2F2F, 0x1, 0x1, .u 1, .wo, .i, .n 0, .any⟩ := by
    interval_cases j <;> rfl
  exact ⟨⟨_, hrow, rfl, rfl, rfl⟩, by omega, by omega, by omega, Nat.le_refl 1, (by decide : 1 ≤ 256)⟩

theorem objAction_probe (path : Nat) {j : Nat} (hj : j < 16) (bs : Bytes) (d : Dev) :
    objAction path (0x2F20 + j) 1 bs d = probeCommand j bs.toNat d := by
  simp (disch := omega) only [objAction, if_neg, if_pos, Nat.add_sub_cancel_left]

theorem probeArm_lt {path j : Nat} (hw : (Instr.probeArm path j).wellFormed = true) : j < 16 := by
  simp only [Instr.wellFormed, wfProbeArm, Bool.and_eq_true, decide_eq_true_eq] at hw
  exact hw.2

theorem probeStop_lt {path j : Nat} (hw : (Instr.probeStop path j).wellFormed = true) : j < 16 := by
  simp only [Instr.wellFormed, wfProbeStop, Bool.and_eq_true, decide_eq_true_eq] at hw
  exact hw.2

/-- An ARM whose start mode is not immediate waits for the start (R507). -/
theorem probeArm_waits {j : Nat} {d : Dev} (hst : (d.probe j).state = 0 ∨ (d.probe j).state = 3) (hm : d.probeCfg j 0xB ≠ 0) :
    probeArm j d = d.upProbe j fun y => { y with state := 1, startSeen := false, stopSeen := false } := by
  simp only [probeArm, if_pos hst, if_neg hm]

/-! Messages. -/

theorem Ni.oweFor_tags (p : Packet) (x : Ni) : (x.oweFor p).tags = x.tags := by
  unfold Ni.oweFor
  split <;> rfl

theorem ptpMessage_takes {st delay p : Nat} {off adj : Int} {f : FwFrame} {rest : List FwFrame} {d : Dev} (hfw : d.boot.firmware = true)
    (hp : d.tcfg.nat 0x2D12 1 = p) (ht : (d.eport p).toFw = f :: rest) (hn : 4 ≤ p ∨ ptpWanted d f.frame = false) :
    ptpMessage st off delay adj d = d.upPort p fun x => { x with toFw := rest } := by
  simp only [ptpMessage, hfw, if_true, ptpTake, hp, ht, hn]

/-- The units that do nothing more with a message: operators, and those of the NIs from 44 on (R183). -/
theorem niKind_quiet {n : Nat} (h : 32 ≤ n ∧ n < 40 ∨ 44 ≤ n) : niKind n ≠ 0 ∧ niKind n ≠ 1 ∧ niKind n ≠ 3 := by
  unfold niKind
  split_ifs <;> omega

theorem mqDequeue_quiet {n q : Nat} {m : Packet} {rest : List Packet} {d : Dev} (hq : (d.ni n).mq.get [] q = m :: rest)
    (hu : d.unitUp n = true) (hn : 32 ≤ n ∧ n < 40 ∨ 44 ≤ n) : mqDequeue n q .none d = mqTake n q d := by
  obtain ⟨h0, h1, h3⟩ := niKind_quiet hn
  have hfront : d.mqFront n q = some m := by rw [Dev.mqFront, hq, List.head?_cons]
  simp [mqDequeue, hfront, hu, h0, h1, h3, Dev.when]

theorem mqDequeue_spoilt {n q : Nat} {m : Packet} {rest : List Packet} {d : Dev} (hq : (d.ni n).mq.get [] q = m :: rest)
    (hu : d.unitUp n = true) : mqDequeue n q .uncorrectable d = (mqTake n q d).raise 0x45 n m.part := by
  have hfront : d.mqFront n q = some m := by rw [Dev.mqFront, hq, List.head?_cons]
  simp [mqDequeue, hfront, hu]

/-- Settles O59, command by command from the equations above. -/
theorem timeObjects : Obligations.TimeObjects := by
  refine ⟨fun path bs s hw hs hfree hm hl hns hr hp hi => ?set, fun path bs s hw hs hfree hm hl hns hr => ?refused,
    fun path x s hw hs hfree hm hr hx => ?slew, fun path v s hw hs hfree hm hv hr hp hi => ?utc,
    fun path v s hw hs hfree hm hv => ?badUtc, fun path k s hw hs hfree hm => ?reanchor,
    fun path j s hw hs hfree hm hst hmode => ?arm, fun path j s hw hs hfree hm hst => ?stop,
    fun st delay p off adj f rest s hw hs hfw hp ht hn => ?ptp, fun n q m rest s hw hs hq hu hn => ?take,
    fun n q m rest s hw hs hq hu hi => ?spoilt⟩
  case set =>
    exact carried_timeSet rfl hw hs hfree (actsOn_setTime hl) hm (setTimeAct_sets (d := s.dev.rolled) hns hr)
      (setTime_set (d := s.dev.rolled) hp hi)
  case refused =>
    exact carried_of_action rfl hw hs hfree (actsOn_setTime hl) hm (setTimeAct_refused (d := s.dev.rolled) hns hr) rfl
  case slew =>
    have hint : isInt64 x = true := by
      simp only [Instr.wellFormed, wfAdjustTime, Bool.and_eq_true] at hw
      exact hw.2
    have haction := (congrArg (adjustTimeAct path · s.dev.rolled) (toInt_leBytes hint)).trans
      (adjustTimeAct_slews (d := s.dev.rolled) hr hx)
    exact carried_of_action rfl hw hs hfree (actsOn_adjustTime _) hm haction ⟨rfl, rfl⟩
  case utc =>
    have haction := (congrArg (setUtcAct path · s.dev.rolled) (toNat_leBytes 8 (setUtc_lt hw))).trans
      (setUtcAct_sets (d := s.dev.rolled) hv hr)
    exact carried_timeSet rfl hw hs hfree (actsOn_setUtc v) hm haction
      (Nat.add_zero (calendarTai s.dev.tcfg v * 1000000000) ▸ setTime_set (d := s.dev.rolled) hp hi)
  case badUtc =>
    have haction := (congrArg (setUtcAct path · s.dev.rolled) (toNat_leBytes 8 (setUtc_lt hw))).trans (if_pos hv)
    exact carried_of_action rfl hw hs hfree (actsOn_setUtc v) hm haction rfl
  case reanchor =>
    have hk := sysrefReanchor_lt hw
    exact carried_of_action rfl hw hs hfree (actsOn_reanchor hk _) hm (objAction_reanchor path hk s.dev.rolled)
      ⟨Dev.upSysref_out_same k _ s.dev, fun i hi => Dev.upSysref_out_ne hi _ s.dev, rfl, rfl⟩
  case arm =>
    have hj := probeArm_lt hw
    have harm : probeCommand j 1 s.dev.rolled = _ := congrArg (·, 0) (probeArm_waits (d := s.dev.rolled) hst hmode)
    exact carried_of_action rfl hw hs hfree (actsOn_probe hj 1) hm ((objAction_probe path hj _ _).trans harm)
      ⟨Dev.upProbe_probe_same j _ s.dev, fun i hi => Dev.upProbe_probe_ne hi _ s.dev, rfl, rfl⟩
  case stop =>
    have hj := probeStop_lt hw
    have hstop : probeCommand j 2 s.dev.rolled = _ := congrArg (·, 0) (if_pos hst)
    exact carried_of_action rfl hw hs hfree (actsOn_probe hj 2) hm ((objAction_probe path hj _ _).trans hstop)
      ⟨Dev.upProbe_probe_same j Probe.halt s.dev, fun i hi => Dev.upProbe_probe_ne hi Probe.halt s.dev, rfl, rfl⟩
  case ptp => exact completes_upPort rfl hw hs (ptpMessage_takes hfw hp ht hn)
  case take =>
    refine (completes_upNi rfl hw hs ((mqDequeue_quiet hq hu hn).trans (mqTake_some hq))).imp fun t ⟨hni, hothers, hframe⟩ => ?_
    rw [hni, Ni.oweFor_mq]
    refine ⟨Tbl.get_set_same .., fun i hi => Tbl.get_set_ne _ _ _ hi, Ni.oweFor_tags m _, hothers, hframe⟩
  case spoilt =>
    have heffect := (mqDequeue_spoilt hq hu).trans ((congrArg (fun e : Dev => e.raise 0x45 n m.part) (mqTake_some hq)).trans
      (Dev.raise_of_not_armed 0x45 n m.part 0 (by exact hi)))
    obtain ⟨hni, hothers, -⟩ := Dev.upNi_niIs n (fun x => (x.setMq q rest).oweFor m) s.dev
    refine completes_of_effect rfl hw hs heffect ⟨?_, hothers, rfl, rfl⟩
    refine (congrArg (fun x : Ni => x.mq.get [] q) hni).trans ?_
    rw [Ni.oweFor_mq]
    exact Tbl.get_set_same ..

end Sys2Proof.Machine
end

section
/-! SUPPORT. The update objects (R527) and the boot record (R519): what each command makes of the device, and from these the obligation
about them. -/
namespace Sys2Proof.Machine

/-! The boot record. -/

/-- Writing the boot record changes no more than its copies. -/
theorem writeRecord_frame (r : BootRecord) (d : Dev) :
    writeRecord r d = { d with flash := { d.flash with record := (writeRecord r d).flash.record } } := by
  unfold writeRecord
  split <;> rfl

/-- A sequence that follows another is newer, and the other is not newer than it (R51, R519). -/
theorem newerSeq_succ (s : Nat) : newerSeq ((s + 1) % 2 ^ 32) s = true ∧ newerSeq s ((s + 1) % 2 ^ 32) = false := by
  have hne : (s + 1) % 2 ^ 32 ≠ s := by omega
  have hnewer : ((s + 1) % 2 ^ 32 + 2 ^ 32 - s % 2 ^ 32) % 2 ^ 32 < 2 ^ 31 := by omega
  have hold : ¬ (s + 2 ^ 32 - (s + 1) % 2 ^ 32 % 2 ^ 32) % 2 ^ 32 < 2 ^ 31 := by omega
  constructor
  · simp only [newerSeq, decide_eq_true hnewer, Bool.and_true, bne_iff_ne]
    exact hne
  · simp only [newerSeq, decide_eq_false hold, Bool.and_false]

theorem Tbl.get_of_find? {α : Type} {z v : α} {t : Tbl α} {k : Nat} (h : t.find? k = some v) : t.get z k = v := by
  induction t with
  | nil => cases h
  | cons e t ih =>
    obtain ⟨j, w⟩ := e
    by_cases hj : j = k
    · rw [Tbl.find?, if_pos hj] at h
      rw [Tbl.get, if_pos hj]
      exact Option.some.inj h
    · rw [Tbl.find?, if_neg hj] at h
      rw [Tbl.get, if_neg hj]
      exact ih h

/-- The boot record is one of its two copies, or there is none. -/
theorem recordCopy_cases (d : Dev) :
    (recordCopy d = some 0 ∧ ∃ a, d.flash.record.find? 0 = some a) ∨ (recordCopy d = some 1 ∧ ∃ b, d.flash.record.find? 1 = some b) ∨
      (recordCopy d = none ∧ d.flash.record.find? 1 = none) := by
  unfold recordCopy
  cases ha : d.flash.record.find? 0 with
  | some a =>
    cases hb : d.flash.record.find? 1 with
    | some b =>
      by_cases hn : newerSeq b.1 a.1 = true
      · exact .inr (.inl ⟨congrArg some (if_pos hn), b, rfl⟩)
      · exact .inl ⟨congrArg some (if_neg hn), a, rfl⟩
    | none => exact .inl ⟨rfl, a, rfl⟩
  | none =>
    cases hb : d.flash.record.find? 1 with
    | some b => exact .inr (.inl ⟨rfl, b, rfl⟩)
    | none => exact .inr (.inr ⟨rfl, rfl⟩)

theorem record_of_copies {d : Dev} {a b : Nat × BootRecord} (ha : d.flash.record.find? 0 = some a) (hb : d.flash.record.find? 1 = some b) :
    d.record = if newerSeq b.1 a.1 = true then b.2 else a.2 := by
  unfold Dev.record recordCopy
  rw [ha, hb]
  dsimp only
  split
  · rw [Tbl.get_of_find? hb]
  · rw [Tbl.get_of_find? ha]

/-- The boot record reads as it has been written (R519). -/
theorem record_writeRecord (r : BootRecord) (d : Dev) : (writeRecord r d).record = r := by
  obtain ⟨hc, a, ha⟩ | ⟨hc, b, hb⟩ | ⟨hc, hb⟩ := recordCopy_cases d
  · have hw : writeRecord r d = d.onFlash fun f => { f with record := f.record.set 1 ((a.1 + 1) % 2 ^ 32, r) } := by
      simp only [writeRecord, hc, Tbl.get_of_find? ha]
    have h0 : (writeRecord r d).flash.record.find? 0 = some a := by
      rw [hw]
      exact (Tbl.find?_set_ne _ (by decide) _).trans ha
    have h1 : (writeRecord r d).flash.record.find? 1 = some ((a.1 + 1) % 2 ^ 32, r) := by
      rw [hw]
      exact Tbl.find?_set_same ..
    rw [record_of_copies h0 h1, if_pos (newerSeq_succ a.1).1]
  · have hw : writeRecord r d = d.onFlash fun f => { f with record := f.record.set 0 ((b.1 + 1) % 2 ^ 32, r) } := by
      simp only [writeRecord, hc, Tbl.get_of_find? hb]
    have h0 : (writeRecord r d).flash.record.find? 0 = some ((b.1 + 1) % 2 ^ 32, r) := by
      rw [hw]
      exact Tbl.find?_set_same ..
    have h1 : (writeRecord r d).flash.record.find? 1 = some b := by
      rw [hw]
      exact (Tbl.find?_set_ne _ (by decide) _).trans hb
    rw [record_of_copies h0 h1, (newerSeq_succ b.1).2, if_neg Bool.false_ne_true]
  · have hw : writeRecord r d = d.onFlash fun f => { f with record := f.record.set 0 (1, r) } := by
      simp only [writeRecord, hc]
    have h0 : (writeRecord r d).flash.record.find? 0 = some (1, r) := by
      rw [hw]
      exact Tbl.find?_set_same ..
    have h1 : (writeRecord r d).flash.record.find? 1 = none := by
      rw [hw]
      exact (Tbl.find?_set_ne _ (by decide) _).trans hb
    unfold Dev.record recordCopy
    rw [h0, h1]
    exact congrArg Prod.snd (Tbl.get_of_find? h0)

/-! The update. -/

theorem actsOn_command (v : Nat) : ActsOn 0x1F51 1 [byte v] :=
  ⟨⟨_, rfl, rfl, rfl, rfl⟩, by decide, by decide, by decide, Nat.le_refl 1, (by decide : 1 ≤ 256)⟩

theorem actsOn_data {bs : Bytes} (h : 1 ≤ bs.length ∧ bs.length ≤ 256) : ActsOn 0x1F50 1 bs := by
  refine ⟨⟨_, rfl, rfl, rfl, ?_⟩, by decide, by decide, by decide, h⟩
  simp [valueDetail, OTy.lenOk, h, ObjRow.inRange]

/-- The update's commands are taken from its own path, and from every path while it has none. -/
theorem updateOwner_of {d : Dev} {path : Nat} (h : d.boot.path = 0xFF ∨ d.boot.path = path) : updateOwner d path = true := by
  obtain h | h := h <;> simp [updateOwner, h]

theorem openAct_erases {path : Nat} {d : Dev} (hu : d.boot.update = 0 ∨ d.boot.update = 4 ∨ d.boot.update = 5)
    (ho : d.boot.path = 0xFF ∨ d.boot.path = path) (hr : d.boot.running < 2) : openAct path d =
      ((d.onFlash fun f => { f with firmware := f.firmware.erase (1 - d.boot.running) }).onBoot fun b => { b with
        update := 1, received := 0, path := path, target := 1 - d.boot.running, buffer := [] }, 0) := by
  have hidle : [0, 4, 5].contains d.boot.update = true := by
    obtain h | h | h := hu <;> rw [h] <;> rfl
  simp only [openAct, hidle, updateOwner_of ho, openTarget, if_pos hr, Bool.true_eq_false, if_false]

theorem openAct_busy {path : Nat} {d : Dev} (hu : d.boot.update = 1 ∨ d.boot.update = 2 ∨ d.boot.update = 3) :
    openAct path d = (d, 0x90) := by
  refine if_pos ?_
  obtain h | h | h := hu <;> rw [h] <;> rfl

theorem openAct_foreign {path : Nat} {d : Dev} (hu : d.boot.update = 4 ∨ d.boot.update = 5)
    (ho : d.boot.path ≠ 0xFF ∧ d.boot.path ≠ path) : openAct path d = (d, 0x91) := by
  have hidle : [0, 4, 5].contains d.boot.update = true := by
    obtain h | h := hu <;> rw [h] <;> rfl
  have howner : updateOwner d path = false := by simp [updateOwner, ho]
  simp only [openAct, hidle, howner, Bool.true_eq_false, if_false, if_true]

theorem dataAct_takes {path : Nat} {bs : Bytes} {d : Dev} (hu : d.boot.update = 2) (ho : d.boot.path = 0xFF ∨ d.boot.path = path)
    (hb : d.boot.buffer.length + bs.length ≤ 65536) (hr : d.boot.received + bs.length ≤ 4194304) : dataAct path bs d =
      (d.onBoot fun b => { b with buffer := b.buffer ++ bs, received := b.received + bs.length }, 0) := by
  have hdetail : dataDetail path bs.length d = 0 := by
    simp [dataDetail, hu, updateOwner_of ho, Nat.not_lt.2 hb, Nat.not_lt.2 hr]
  simp only [dataAct, hdetail, if_true]

theorem verifyAct_checks {path : Nat} {d : Dev} (hu : d.boot.update = 2) (ho : d.boot.path = 0xFF ∨ d.boot.path = path) :
    verifyAct path d = (d.onBoot fun b => { b with update := 3 }, 0) := by
  simp [verifyAct, hu, updateOwner_of ho]

theorem cancelAct_idles {path : Nat} {d : Dev} (hu : d.boot.update ≠ 0) (ho : d.boot.path = 0xFF ∨ d.boot.path = path) :
    cancelAct path d = (updateIdle (d.onBoot fun b => { b with buffer := [] }), 0) := by
  simp [cancelAct, hu, updateOwner_of ho]

/-- The image's schema range holds the active schema, or it is not asked for (R527). -/
def SchemaFits (force : Bool) (d : Dev) : Prop :=
  force = true ∨ Bytes.le (d.fwSlot d.boot.target) 28 2 ≤ d.store.schema ∧ d.store.schema ≤ Bytes.le (d.fwSlot d.boot.target) 30 2

theorem activateAct_tries {path : Nat} {force : Bool} {d : Dev} (hu : d.boot.update = 4) (ho : d.boot.path = 0xFF ∨ d.boot.path = path)
    (hf : SchemaFits force d) :
    activateAct path force d = (updateIdle (writeRecord { d.record with trial := d.boot.target, attempts := 1 } d), 0) := by
  have hfits : ¬(force = false ∧ (d.store.schema < Bytes.le (d.fwSlot d.boot.target) 28 2 ∨
      Bytes.le (d.fwSlot d.boot.target) 30 2 < d.store.schema)) := by
    obtain h | h := hf
    · simp [h]
    · omega
  simp only [activateAct, hu, updateOwner_of ho, ne_eq, not_true_eq_false, Bool.true_eq_false, if_false, if_neg hfits]

theorem rollbackAct_pins {d : Dev} (hu : d.boot.update = 0) : rollbackAct d =
    if d.boot.running < 2 ∧ candidate d (1 - d.boot.running) = true then
      (writeRecord { d.record with pin := 1 - d.boot.running, trial := 0xFF } d, 0)
    else (d, 0x99) := by
  by_cases h : d.boot.running < 2 ∧ candidate d (1 - d.boot.running) = true
  · have hok : ¬(2 ≤ d.boot.running ∨ candidate d (1 - d.boot.running) = false) := by simp [h]
    simp only [rollbackAct, hu, ne_eq, not_true_eq_false, if_false, if_neg hok, if_pos h]
  · have hbad : 2 ≤ d.boot.running ∨ candidate d (1 - d.boot.running) = false := by
      rw [← Bool.not_eq_true, ← Nat.not_lt]
      tauto
    simp only [rollbackAct, hu, ne_eq, not_true_eq_false, if_false, if_pos hbad, if_neg h]

/-- A write whose action writes the boot record. -/
theorem carried_writeRecord {c : Instr} {s : State} {path idx sub : Nat} {bs : Bytes} {r : BootRecord} {a : Dev}
    (he : exec c s = act c.wellFormed (writeRow path idx sub bs) s) (hw : c.wellFormed = true) (hs : s.Ready)
    (hfree : PathFree s.dev path) (h : ActsOn idx sub bs) (hm : mayWrite s.dev path idx sub = true)
    (ha : objAction path idx sub bs s.dev.rolled = (a, 0)) (hr : a = writeRecord r s.dev.rolled) : Carried path c s fun t =>
      t.record = r ∧ t.store = storeAnswered s.dev.store path 0 0 [] ∧
        t = { s.dev with store := t.store, flash := { s.dev.flash with record := t.flash.record } } := by
  have hframe := hr.trans (writeRecord_frame r s.dev.rolled)
  have hrecord : a.record = r := hr ▸ record_writeRecord r s.dev.rolled
  rw [← hr] at hframe
  have hstore : a.store = s.dev.rolled.store := by rw [hframe]
  have hkept : MemoryKept s.dev a := by
    rw [hframe]
    exact ⟨rfl, rfl, rfl, rfl⟩
  have husdo : a.can.usdo = s.dev.can.usdo := by
    rw [hframe]
    rfl
  refine carried_of_action he hw hs hfree h hm ha ⟨hrecord, rfl, ?_⟩ hstore hkept husdo
  rw [hframe]
  rfl

/-- A write whose action writes a trial into the boot record and returns the update to idle. -/
theorem carried_trial {c : Instr} {s : State} {path idx sub : Nat} {bs : Bytes} {r : BootRecord}
    (he : exec c s = act c.wellFormed (writeRow path idx sub bs) s) (hw : c.wellFormed = true) (hs : s.Ready)
    (hfree : PathFree s.dev path) (h : ActsOn idx sub bs) (hm : mayWrite s.dev path idx sub = true)
    (ha : objAction path idx sub bs s.dev.rolled = (updateIdle (writeRecord r s.dev.rolled), 0)) : Carried path c s fun t =>
      t.record = r ∧ t.store = storeAnswered s.dev.store path 0 0 [] ∧
        t = { s.dev with
          store := t.store, boot := { s.dev.boot with update := 0, path := 0xFF, target := 0xFF }
          flash := { s.dev.flash with record := t.flash.record } } := by
  have hframe := writeRecord_frame r s.dev.rolled
  have hrecord := record_writeRecord r s.dev.rolled
  revert ha hframe hrecord
  generalize writeRecord r s.dev.rolled = w
  intro ha hframe hrecord
  have hstore : w.store = s.dev.rolled.store := by rw [hframe]
  have hkept : MemoryKept s.dev (updateIdle w) := by
    rw [hframe]
    exact ⟨rfl, rfl, rfl, rfl⟩
  have husdo : w.can.usdo = s.dev.can.usdo := by
    rw [hframe]
    rfl
  refine carried_of_action he hw hs hfree h hm ha ⟨hrecord, rfl, ?_⟩ hstore hkept husdo
  rw [hframe]
  rfl

/-- What a path may write is a matter of the store. -/
theorem mayWrite_of_store {d e : Dev} (h : d.store = e.store) (path idx sub : Nat) : mayWrite d path idx sub = mayWrite e path idx sub := by
  rw [mayWrite, mayWrite, Dev.cfg, Dev.cfg, h]

/-- The device once the firmware has programmed `n` bytes of the receive buffer. -/
def Dev.programmed (n : Nat) (d : Dev) : Dev := { d with
  flash := { d.flash with firmware := d.flash.firmware.set d.boot.target (d.fwSlot d.boot.target ++ d.boot.buffer.take n) }
  boot := { d.boot with buffer := d.boot.buffer.drop n } }

/-- Settles O60, command by command from the equations above. -/
theorem updateObjects : Obligations.UpdateObjects := by
  refine ⟨fun path s hw hs hfree hm hu ho hr => ?opens, fun path s hw hs hfree hm hu => ?busy,
    fun path s hw hs hfree hm hu ho => ?foreign, fun path n bs s hw hs hfree hm hl hu ho hb hr => ?data,
    fun path s hw hs hfree hm hu ho => ?verify, fun path s hw hs hfree hm hu ho => ?cancel,
    fun path s hw hs hfree hm hu ho hf => ?activate, fun path s hw hs hfree hm hu ho => ?force,
    fun path s hw hs hfree hm hu => ?rollback, fun path s hw hs hfree hm hu => ?restart⟩
  case opens =>
    have hother : s.dev.boot.running ≠ 1 - s.dev.boot.running := by omega
    exact carried_of_action rfl hw hs hfree (actsOn_command 1) hm (openAct_erases (d := s.dev.rolled) hu ho hr)
      ⟨rfl, Tbl.get_erase_same .., Tbl.get_erase_ne _ _ hother, rfl, rfl⟩
  case busy => exact carried_of_action rfl hw hs hfree (actsOn_command 1) hm (openAct_busy (d := s.dev.rolled) hu) rfl
  case foreign => exact carried_of_action rfl hw hs hfree (actsOn_command 1) hm (openAct_foreign (d := s.dev.rolled) hu ho) rfl
  case data =>
    have hpresent : updateDataRow path bs n s.dev = writeRow path 0x1F50 1 bs (programBuffer n s.dev) :=
      congrArg (writeRow path 0x1F50 1 bs) (if_pos hu)
    have hprogrammed : programBuffer n s.dev = s.dev.programmed n := rfl
    rw [hprogrammed] at hpresent
    have hfree' : PathFree (s.dev.programmed n) path := by
      obtain ⟨hcut, hsafe, hpath⟩ := hfree
      exact ⟨hcut, hsafe, hpath⟩
    have hm' : mayWrite (s.dev.programmed n) path 0x1F50 1 = true := (mayWrite_of_store rfl path 0x1F50 1).trans hm
    have haction := dataAct_takes (d := (s.dev.programmed n).rolled) hu ho hb hr
    refine carried_of_presented (f := updateDataRow path bs n) rfl hw hs hpresent ⟨rfl, rfl, rfl, rfl⟩ hs.1 hfree' (actsOn_data hl) hm'
      haction rfl ⟨rfl, rfl, rfl, rfl⟩ rfl ?_
    exact ⟨rfl, Tbl.get_set_same .., rfl, rfl⟩
  case verify => exact carried_of_action rfl hw hs hfree (actsOn_command 2) hm (verifyAct_checks (d := s.dev.rolled) hu ho) ⟨rfl, rfl⟩
  case cancel => exact carried_of_action rfl hw hs hfree (actsOn_command 3) hm (cancelAct_idles (d := s.dev.rolled) hu ho) ⟨rfl, rfl⟩
  case activate =>
    exact carried_trial rfl hw hs hfree (actsOn_command 4) hm (activateAct_tries (d := s.dev.rolled) (force := false) hu ho (.inr hf))
  case force =>
    exact carried_trial rfl hw hs hfree (actsOn_command 5) hm (activateAct_tries (d := s.dev.rolled) (force := true) hu ho (.inl rfl))
  case rollback =>
    have haction := rollbackAct_pins (d := s.dev.rolled) hu
    by_cases hc : s.dev.boot.running < 2 ∧ candidate s.dev (1 - s.dev.boot.running) = true
    · simp only [if_pos hc]
      exact carried_writeRecord rfl hw hs hfree (actsOn_command 6) hm (haction.trans (if_pos hc)) rfl
    · simp only [if_neg hc]
      exact carried_of_action rfl hw hs hfree (actsOn_command 6) hm (haction.trans (if_neg hc)) rfl
  case restart =>
    have haction : restartAct s.dev.rolled = (s.dev.rolled.onBoot fun b => { b with restart := true }, 0) := if_neg (not_not.2 hu)
    exact carried_of_action rfl hw hs hfree (actsOn_command 7) hm haction ⟨rfl, rfl⟩

end Sys2Proof.Machine
end

section
/-! SUPPORT. The boot (R519 to R527): what a start keeps whatever configuration it loads, what its steps make of the device, and from
these the obligation about it. -/
namespace Sys2Proof.Machine

/-! What a load of a configuration keeps. -/

/-- What no flip and no load touches: the boot state, the matrix, the fuses, the supplies and the firmware slots. -/
def Dev.ground (d : Dev) : Boot × Matrix × Otp × Power × Tbl Bytes := (d.boot, d.matrix, d.otp, d.power, d.flash.firmware)

/-- `t` stands on the same ground as `d`. -/
structure Grounded (d t : Dev) : Prop where
  /-- The ground is the same. -/
  same : t.ground = d.ground

theorem Grounded.refl (d : Dev) : Grounded d d := ⟨rfl⟩

theorem Grounded.trans {d t u : Dev} (h : Grounded d t) (k : Grounded t u) : Grounded d u := ⟨k.same.trans h.same⟩

theorem Grounded.ite {c : Prop} [Decidable c] {d t u : Dev} (h : Grounded d t) (g : Grounded d u) : Grounded d (if c then t else u) := by
  split
  · exact h
  · exact g

/-- A step that is taken or left out. -/
theorem Grounded.step {c : Prop} [Decidable c] {d t u : Dev} (h : Grounded d t) (g : Grounded t u) : Grounded d (if c then u else t) :=
  .ite (h.trans g) h

theorem Grounded.fold {α : Type} {f : α → Dev → Dev} (h : ∀ x d, Grounded d (f x d)) (l : List α) (d : Dev) :
    Grounded d (Dev.fold l f d) :=
  Dev.fold_rel (R := Grounded) .refl .trans l (fun x _ => h x) d

theorem onStore_grounded (f : Store → Store) (d : Dev) : Grounded d (d.onStore f) := ⟨rfl⟩

theorem setQueue_grounded (q : Nat) (x : Queue) (d : Dev) : Grounded d (d.setQueue q x) := ⟨rfl⟩

theorem countSe_grounded (n sub : Nat) (d : Dev) : Grounded d (d.countSe n sub) := ⟨rfl⟩

theorem CpChanged.grounded {d t : Dev} (h : CpChanged d t) : Grounded d t := by
  rw [h]
  exact ⟨rfl⟩

theorem NisChanged.grounded {d t : Dev} (h : NisChanged d t) : Grounded d t := by
  rw [h]
  exact ⟨rfl⟩

theorem raise_grounded (src inst part : Nat) (d : Dev) : Grounded d (d.raise src inst part) := by
  obtain ⟨i, inj, h⟩ := Dev.raise_event src inst part 0 d
  rw [h]
  exact ⟨rfl⟩

theorem putContext_grounded (q part : Nat) (bs : Bytes) (d : Dev) : Grounded d (putContext q part bs d) :=
  (engineWrite_nisChanged _ _ _ _ _ d).grounded

theorem writeContext_grounded (q : Nat) (d : Dev) : Grounded d (writeContext q d) := by
  unfold writeContext
  split
  · exact putContext_grounded ..
  · exact .refl d

theorem queueError_grounded (q src : Nat) (d : Dev) : Grounded d (queueError q src d) := by
  unfold queueError
  split
  · exact Grounded.trans (t := d.setQueue q _) ⟨rfl⟩ (raise_grounded ..)
  · exact .refl d

theorem forgetQueue_grounded (q : Nat) (d : Dev) : Grounded d (forgetQueue q d) :=
  .fold (fun n e => (forgetKeys_at n _ e).cpChanged.grounded) _ d

theorem dropQueue_grounded (q : Nat) (d : Dev) : Grounded d (dropQueue q d) := by
  unfold dropQueue
  dsimp only
  split
  · refine .trans ?_ (putContext_grounded ..)
    exact (forgetQueue_grounded q d).trans ⟨rfl⟩
  · exact (forgetQueue_grounded q d).trans ⟨rfl⟩

theorem sendCqIrq_grounded (cq : Nat) (d : Dev) : Grounded d (sendCqIrq cq d) := by
  unfold sendCqIrq
  split
  · exact .refl d
  · split
    · exact ⟨rfl⟩
    · refine .trans ?_ (present_nisChanged ..).grounded
      exact ⟨rfl⟩

theorem cqSignal_grounded (cq : Nat) (irq : Bool) (d : Dev) : Grounded d (cqSignal cq irq d) := by
  unfold cqSignal
  split
  · exact .ite (sendCqIrq_grounded cq d) (.refl d)
  · exact .refl d

theorem writeCpl_grounded (cq : Nat) (k : Cpl) (d : Dev) : Grounded d (writeCpl cq k d) := by
  unfold writeCpl
  split
  · exact .refl d
  · refine .trans ?_ (cqSignal_grounded cq k.irq _)
    refine .step (.trans ?_ (countSe_grounded ..)) (countSe_grounded ..)
    exact (engineWrite_nisChanged ..).grounded.trans (setQueue_grounded ..)

theorem applyModify_grounded (k : Cmd) (d : Dev) : Grounded d (applyModify k d) := by
  unfold applyModify
  split
  · dsimp only
    split
    · refine .step (.trans ?_ (writeContext_grounded ..)) (sendCqIrq_grounded ..)
      exact ⟨rfl⟩
    · exact .refl d
  · exact .refl d

theorem startAdmin_grounded (c : Cfg) (p : Nat) (d : Dev) : Grounded d (startAdmin c p d) := by
  have hended : ∀ (k : Cmd) (e : Dev), Grounded e (match e.queue? k.q with
      | some x => applyModify k (writeCpl x.cq k.cpl e)
      | none => e) := by
    intro k e
    split
    · exact (writeCpl_grounded ..).trans (applyModify_grounded ..)
    · exact .refl e
  unfold startAdmin
  dsimp only
  split
  · exact (Grounded.fold hended _ d).trans (.fold dropQueue_grounded _ _)
  · refine .step (.step ?_ (queueError_grounded ..)) (queueError_grounded ..)
    refine .trans (.trans ?_ (writeContext_grounded ..)) (writeContext_grounded ..)
    refine .trans (.trans ?_ (setQueue_grounded ..)) (setQueue_grounded ..)
    refine .trans (.trans ?_ (dropQueue_grounded ..)) (dropQueue_grounded ..)
    exact (Grounded.fold hended _ d).trans (.fold dropQueue_grounded _ _)

theorem queuesAtFlip_grounded (old new : Cfg) (d : Dev) : Grounded d (queuesAtFlip old new d) := by
  unfold queuesAtFlip
  dsimp only
  refine .step (.step (.step (.refl d) (.fold ?_ _ _)) (.fold ?_ _ _)) (.fold ?_ _ _)
  · exact fun _ _ => dropQueue_grounded ..
  · exact fun _ y => .step (.refl y) (startAdmin_grounded ..)
  · exact fun _ y => .step (.refl y) (queueError_grounded ..)

theorem queueEmcy_grounded (s : Nat) (enter : Bool) (count : Nat) (d : Dev) : Grounded d (queueEmcy s enter count d) := by
  unfold queueEmcy
  exact .ite (.refl d) (.ite ⟨rfl⟩ ⟨rfl⟩)

theorem sourcesAtFlip_grounded (old new : Cfg) (chg : Change) (d : Dev) : Grounded d (sourcesAtFlip old new chg d) := by
  refine .fold (fun e y => .ite (.refl y) ?_) _ d
  unfold clearSourceState
  refine .step ?_ (queueEmcy_grounded ..)
  exact ⟨rfl⟩

theorem probesAtFlip_grounded (old new : Cfg) (d : Dev) : Grounded d (probesAtFlip old new d) := by
  unfold probesAtFlip
  refine .trans ?_ (.fold (fun f e => ?_) _ _)
  · refine .fold (fun j e => ?_) _ d
    split <;> exact ⟨rfl⟩
  · split <;> exact ⟨rfl⟩

theorem canAtFlip_grounded (d : Dev) : Grounded d (canAtFlip d) := .ite (.refl d) (.ite ⟨rfl⟩ ⟨rfl⟩)

theorem tryRelease_grounded (k : Nat) (d : Dev) : Grounded d (tryRelease k d) := by
  unfold tryRelease
  refine .ite (.refl d) (.ite (setRx_changed k 5 d).cpChanged.grounded (.ite (.refl d) ?_))
  exact Grounded.trans (t := (d.upLink k _).upLane k _) ⟨rfl⟩ (AtNi.raise 0 _ _ _ _ _ _ _).cpChanged.grounded

theorem applyLink_grounded (k : Nat) (d : Dev) : Grounded d (applyLink k d) := by
  have hstop (sel : Queue → Stream → Bool) (e : Dev) : Grounded e (stopStreams sel 8 e) := (stopStreams_cpChanged sel 8 e).grounded
  have hrx (st : Nat) (e : Dev) : Grounded e (setRx k st e) := (setRx_changed k st e).cpChanged.grounded
  have htx (st : Nat) (e : Dev) : Grounded e (setTx k st e) := (setTx_changed k st e).cpChanged.grounded
  unfold applyLink
  dsimp only
  refine .trans ?_ (tryRelease_grounded k _)
  refine .step ?_ (.trans (htx _ _) (txRunIfReady_changed k _).cpChanged.grounded)
  refine .step (.step ?_ ⟨rfl⟩) (hrx _ _)
  exact .step (.step (.refl d) (.trans (hstop _ _) (hrx 0 _))) (.trans (hstop _ _) (htx 0 _))

theorem applyPort_grounded (p : Nat) (d : Dev) : Grounded d (applyPort p d) := by
  have hdown : Grounded d (portDown p d) := by
    unfold portDown
    refine .ite (.refl d) (.trans ?_ (raise_grounded ..))
    exact ⟨rfl⟩
  unfold applyPort
  exact .ite ⟨rfl⟩ (.ite (hdown.trans ⟨rfl⟩) (.refl d))

theorem portsAtFlip_grounded (d : Dev) : Grounded d (portsAtFlip d) := by
  unfold portsAtFlip
  refine .trans ?_ (.fold (fun p e => ?_) _ _)
  · refine .fold (fun k e => ?_) _ d
    exact .ite (.refl e) (applyLink_grounded k e)
  · exact .ite (.refl e) (applyPort_grounded p e)

theorem flip_grounded (chg : Change) (version : Nat) (d : Dev) : Grounded d (flip chg version d) := by
  unfold flip
  dsimp only
  refine .step (.step (.step ?_ ⟨rfl⟩) (canAtFlip_grounded _)) (portsAtFlip_grounded _)
  refine .step (.step ?_ (sourcesAtFlip_grounded ..)) (probesAtFlip_grounded ..)
  refine .step (.step ?_ (queuesAtFlip_grounded ..)) ⟨rfl⟩
  refine .trans ?_ (.fold (fun k e => ?_) _ _)
  · exact ⟨rfl⟩
  · split <;> exact ⟨rfl⟩

theorem loadEntries_grounded (es : List (Nat × Bytes)) (source schema : Nat) (boot first : Bool) (d : Dev) :
    Grounded d (loadEntries es source schema boot first d).dev := by
  unfold loadEntries
  dsimp only
  split
  · exact .refl d
  · dsimp only
    refine .trans ?_ (onStore_grounded ..)
    split
    · exact flip_grounded ..
    · exact .ite (.refl d) (flip_grounded ..)

theorem loadSlotNow_grounded (i source : Nat) (boot first : Bool) (d : Dev) : Grounded d (loadSlotNow i source boot first d).dev := by
  unfold loadSlotNow
  split
  · exact .refl d
  · split
    · exact .refl d
    · exact loadEntries_grounded ..

theorem bootLoad_grounded (d : Dev) : Grounded d (bootLoad d) := by
  have hdefaults : Grounded d (loadDefaults true true d).dev := loadEntries_grounded ..
  unfold bootLoad
  split
  · exact hdefaults.trans (raise_grounded ..)
  · exact .ite (loadSlotNow_grounded ..) ((hdefaults.trans (raise_grounded 0xE5 _ 0xFF _)).trans (onStore_grounded ..))

theorem rollBack_grounded (d : Dev) : Grounded d (rollBack d) := by
  unfold rollBack
  split
  · refine .trans ?_ (raise_grounded ..)
    exact ⟨rfl⟩
  · exact ⟨rfl⟩

theorem fwWrite_grounded (idx sub : Nat) (bs : Bytes) (d : Dev) : Grounded d (fwWrite idx sub bs d) :=
  .ite (.refl d) (.ite ⟨rfl⟩ ⟨rfl⟩)

theorem fenceAll_grounded (d : Dev) : Grounded d (fenceAll d) := by
  unfold fenceAll
  refine .trans ?_ (.fold (fun k e => ?_) _ _)
  · refine .fold (fun p e => ?_) _ d
    exact .ite (.refl e) (fwWrite_grounded ..)
  · exact .ite (fwWrite_grounded _ _ _ e) (.refl e)

theorem bootConfig_grounded (d : Dev) : Grounded d (bootConfig d) := by
  unfold bootConfig
  split
  · exact (rollBack_grounded d).trans (bootLoad_grounded _)
  · split
    · split
      · refine .trans ?_ (onStore_grounded ..)
        exact (raise_grounded ..).trans (fenceAll_grounded _)
      · refine .trans ?_ (loadEntries_grounded ..)
        exact (raise_grounded ..).trans (rollBack_grounded _)
    · exact .refl d

theorem judgeSave_grounded (programmed : Bool) (d : Dev) : Grounded d (judgeSave programmed d) := by
  unfold judgeSave
  split
  · exact .refl d
  · split
    · exact .refl d
    · exact .ite ⟨rfl⟩ ⟨rfl⟩

theorem takeUpSave_grounded (d : Dev) : Grounded d (takeUpSave d) := by
  unfold takeUpSave
  split
  · exact .refl d
  · exact ⟨rfl⟩

/-! The start of firmware and of safe-harbour mode. -/

/-- `t` is `d` after finds of the boot ROM: events, and a boot record. -/
structure RomFound (d t : Dev) : Prop where
  frame : t = { d with faults := t.faults, flash := { d.flash with record := t.flash.record } }
  silent : d.faults.inj.state ≠ 1 → t.faults = { d.faults with crossing := t.faults.crossing }

theorem RomFound.refl (d : Dev) : RomFound d d := ⟨rfl, fun _ => rfl⟩

theorem RomFound.trans {d t u : Dev} (h : RomFound d t) (k : RomFound t u) : RomFound d u := by
  refine ⟨?_, fun hi => ?_⟩
  · rw [k.frame, h.frame]
  · have ht := h.silent hi
    have hu := k.silent (by rw [ht]; exact hi)
    rw [ht] at hu
    exact hu

theorem RomFound.raise (src inst : Nat) (d : Dev) : RomFound d (d.raise src inst) := by
  refine ⟨?_, fun hi => ?_⟩
  · obtain ⟨i, inj, h⟩ := Dev.raise_event src inst 0xFF 0 d
    rw [h]
  · rw [Dev.raise_of_not_armed _ _ _ _ hi]

theorem RomFound.writeRecord (r : BootRecord) (d : Dev) : RomFound d (writeRecord r d) := by
  rw [writeRecord_frame]
  exact ⟨rfl, fun _ => rfl⟩

theorem RomFound.ite {c : Prop} [Decidable c] {d t u : Dev} (h : RomFound d t) (g : RomFound d u) : RomFound d (if c then t else u) := by
  split
  · exact h
  · exact g

theorem romStart_found (c : Choice) (d : Dev) : RomFound d (romStart c d) := by
  unfold romStart
  dsimp only
  refine RomFound.trans ?_ (.ite (.raise 0xE2 _ _) (.refl _))
  refine RomFound.trans ?_ (.ite (.writeRecord _ _) (.ite (.writeRecord _ _) (.refl _)))
  refine Dev.fold_rel (R := RomFound) .refl .trans _ (fun i _ e => ?_) d
  exact .ite (.raise 0xE0 i e) (.ite (.raise 0xE1 i e) (.refl e))

/-- The device once the boot ROM has loaded slot `i`, set REMAP and jumped to the firmware (R521, steps 4 and 7). -/
def Dev.jumped (c : Choice) (i : Nat) (d : Dev) : Dev :=
  (remapSet (loadBody i (romStart c d))).onBoot fun b => { b with firmware := true, running := i, trying := c.trying }

theorem remapSet_bridge (d : Dev) : ∃ b, remapSet d = { d with matrix := { d.matrix with remap := true }, bridge := b } := by
  cases h : d.matrix.remap with
  | false =>
    obtain ⟨b, hb⟩ := remapSet_clear h
    exact ⟨_, hb⟩
  | true =>
    refine ⟨d.bridge, ?_⟩
    rw [remapSet, if_pos h, ← h]

theorem jumped_eq (c : Choice) (i : Nat) (d : Dev) : ∃ fs r b bus, d.jumped c i = { d with
    faults := fs, flash := { d.flash with record := r }, bridge := b, bus := bus, matrix := { d.matrix with remap := true }
    boot := { d.boot with firmware := true, running := i, trying := c.trying } } := by
  obtain ⟨t, ht⟩ : ∃ t, romStart c d = t := ⟨_, rfl⟩
  have hfound := (romStart_found c d).frame
  rw [ht] at hfound
  obtain ⟨b, hb⟩ := remapSet_bridge (loadBody i t)
  refine ⟨t.faults, t.flash.record, b, .write (msramKey 0) (Bytes.slice (t.fwSlot i) 256 (fwBody (t.fwSlot i))) :: d.bus, ?_⟩
  rw [Dev.jumped, ht, hb, loadBody]
  rw [hfound]
  rfl

theorem bootConfig_kept {d : Dev} (hv : d.store.valid = true) (hs : (schemaRange d).1 ≤ d.store.schema ∧ d.store.schema ≤ (schemaRange d).2) :
    bootConfig d = d := by
  have hforeign : schemaForeign d = false := decide_eq_false (by omega)
  simp only [bootConfig, hv, hforeign, Bool.true_eq_false, Bool.false_eq_true, if_false]

theorem firmwareStart_starts {d : Dev} (programmed : Bool) {i : Nat} (hrom : inRom d = true) (ho : d.store.owner = none)
    (hp : d.store.spiPending = false) (hc : (bootChoice d).slot = some i) : firmwareStart programmed d =
      canStart (takeUpSave (bootConfig (judgeSave programmed (d.jumped (bootChoice d) i)))) := by
  have hspi : spiFirst (d.jumped (bootChoice d) i) = false := by
    obtain ⟨fs, r, b, bus, h⟩ := jumped_eq (bootChoice d) i d
    rw [h]
    simp only [spiFirst, ho, hp]
    rfl
  have hnext : ¬ (bootLoads (d.jumped (bootChoice d) i) = true ∧ spiFirst (d.jumped (bootChoice d) i) = true) := by simp [hspi]
  simp only [firmwareStart, hc, hrom, Bool.true_eq_false, if_false]
  exact if_neg hnext

theorem canStart_can (d : Dev) : canStart d = { d with can := (canStart d).can } ∧ (canStart d).can.usdo = none ∧
    (canStart d).can.busOff = false ∧ (d.boot.safeHarbour = true → (canStart d).can.nmt = .preOperational ∧
      (canStart d).can.enabled = ((if d.store.valid then d.cfg else []).nat 0x1FF0 5 == 1)) := by
  have hfields (on : Bool) (e : Dev) : (e.when on (canBeat 0)) = { e with can := (e.when on (canBeat 0)).can } ∧
      (e.when on (canBeat 0)).can.usdo = e.can.usdo ∧ (e.when on (canBeat 0)).can.busOff = e.can.busOff ∧
      (e.when on (canBeat 0)).can.nmt = e.can.nmt ∧ (e.when on (canBeat 0)).can.enabled = e.can.enabled := by
    cases on <;> exact ⟨rfl, rfl, rfl, rfl, rfl⟩
  unfold canStart
  dsimp only
  obtain ⟨hframe, husdo, hoff, hnmt, hon⟩ := hfields _ _
  refine ⟨hframe.trans rfl, husdo, hoff, fun hs => ⟨hnmt.trans ?_, hon.trans ?_⟩⟩
  · simp [Dev.onCan, hs]
  · simp only [Dev.onCan, hs]
    cases d.store.valid <;> rfl

/-- A start from the boot ROM runs the chosen slot (R521). -/
theorem firmwareStart_runs {d e : Dev} (programmed : Bool) {i : Nat} (hrom : inRom d = true) (ho : d.store.owner = none)
    (hp : d.store.spiPending = false) (hc : (bootChoice d).slot = some i) :
    let t := settle e (firmwareStart programmed d)
    t.boot = { d.boot with firmware := true, running := i, trying := (bootChoice d).trying } ∧ t.matrix.remap = true ∧
      t.can.usdo = none ∧ t.can.busOff = false ∧ (t.otp = d.otp ∧ t.power = d.power ∧ t.flash.firmware = d.flash.firmware) ∧
      (d.store.valid = true → d.store.save = none → Bytes.le (d.flash.firmware.get [] i) 28 2 ≤ d.store.schema →
        d.store.schema ≤ Bytes.le (d.flash.firmware.get [] i) 30 2 → t.store = d.store) := by
  rw [firmwareStart_starts programmed hrom ho hp hc]
  obtain ⟨fs, r, b, bus, hj⟩ := jumped_eq (bootChoice d) i d
  revert hj
  generalize d.jumped (bootChoice d) i = j
  intro hj
  obtain ⟨u, hu⟩ : ∃ u, takeUpSave (bootConfig (judgeSave programmed j)) = u := ⟨_, rfl⟩
  have hground : Grounded j u := hu ▸ ((judgeSave_grounded programmed j).trans (bootConfig_grounded _)).trans (takeUpSave_grounded _)
  obtain ⟨hcan, husdo, hoff, -⟩ := canStart_can u
  obtain ⟨hboot, hmatrix, hotp, hpower, hflash⟩ : u.boot = j.boot ∧ u.matrix = j.matrix ∧ u.otp = j.otp ∧ u.power = j.power ∧
      u.flash.firmware = j.flash.firmware := by
    simpa only [Dev.ground, Prod.mk.injEq] using hground.same
  have hkept (hv : d.store.valid = true) (hsave : d.store.save = none) (hlo : Bytes.le (d.flash.firmware.get [] i) 28 2 ≤ d.store.schema)
      (hhi : d.store.schema ≤ Bytes.le (d.flash.firmware.get [] i) 30 2) : u.store = d.store := by
    have hjs : j.store = d.store := by rw [hj]
    have hconfig : bootConfig j = j := by
      refine bootConfig_kept ((congrArg Store.valid hjs).trans hv) ?_
      rw [hj]
      exact ⟨hlo, hhi⟩
    have hjsave := (congrArg Store.save hjs).trans hsave
    rw [← hu, judgeSave, hjsave, hconfig, takeUpSave, hjsave, hjs]
  rw [hu]
  dsimp only
  simp only [settle_boot, settle_matrix, settle_can, settle_otp, settle_power, settle_flash, settle_store]
  rw [hcan]
  refine ⟨hboot.trans ?_, (congrArg Matrix.remap hmatrix).trans ?_, husdo, hoff, ⟨hotp.trans ?_, hpower.trans ?_, hflash.trans ?_⟩, hkept⟩ <;>
    rw [hj]

/-! The end of the boot. -/

/-- A frame of the firmware joins those on path 1 (R30). -/
theorem fwWrite_eq (idx sub v : Nat) (d : Dev) :
    fwWrite idx sub [byte v] d = { d with store := withOwn d d.store (byteFrame idx sub v) } := by
  unfold fwWrite fwFrame withOwn
  split
  · rfl
  · split <;> rfl

/-- `t` is `d` with the frames `fs` presented on path 1, and power domains changed. -/
def Presented (fs : List Frame) (d t : Dev) : Prop := t = { d with store := fs.foldl (withOwn d) d.store, pds := t.pds }

theorem Presented.trans {fs gs : List Frame} {d t u : Dev} (h : Presented fs d t) (k : Presented gs t u) : Presented (fs ++ gs) d u := by
  have hown : withOwn t = withOwn d := by
    rw [h]
    rfl
  unfold Presented at *
  rw [List.foldl_append]
  rw [hown, h] at k
  exact k

theorem fwWrite_presented (idx sub v : Nat) (d : Dev) : Presented [byteFrame idx sub v] d (fwWrite idx sub [byte v] d) := by
  rw [fwWrite_eq]
  rfl

theorem fwRelease_presented : ∀ (l : List Nat) (d : Dev),
    Presented (l.map fun p => byteFrame (0x2610 + p) 1 3) d (Dev.fold l fwRelease d) ∧ (Dev.fold l fwRelease d).pds = d.pds
  | [], _ => ⟨rfl, rfl⟩
  | p :: l, d => by
    obtain ⟨hrest, hpds⟩ := fwRelease_presented l (fwRelease p d)
    refine ⟨(fwWrite_presented (0x2610 + p) 1 3 d).trans hrest, hpds.trans ?_⟩
    rw [fwRelease, fwWrite_eq]

/-- A wanted power domain is switched on, and released at once where it is already FENCED, else later (R268). -/
def Dev.switchOn (k : Nat) (e : Dev) : Dev :=
  let e1 := fwWrite (0x2630 + k) 1 [byte 3] e
  if (e.pd k).state = 2 then fwPdRelease k e1 else e1.upPd k fun x => { x with releaseToFollow := true }

/-- The frames of `Dev.switchOn`. -/
def switchFrames (k : Nat) (x : Pd) : List Frame :=
  byteFrame (0x2630 + k) 1 3 :: if x.state = 2 then [byteFrame (0x2630 + k) 1 4] else []

/-- A power domain after `Dev.switchOn`. -/
def Pd.switched (x : Pd) : Pd := if x.state ≠ 2 then { x with releaseToFollow := true } else x

theorem upPd_pd_ne {k i : Nat} (hi : i ≠ k) (f : Pd → Pd) (d : Dev) : (d.upPd k f).pd i = d.pd i :=
  Tbl.get_set_ne _ _ _ hi

theorem switchOn_presented (k : Nat) (d : Dev) : Presented (switchFrames k (d.pd k)) d (d.switchOn k) ∧
    (d.switchOn k).pd k = (d.pd k).switched ∧ ∀ i, i ≠ k → (d.switchOn k).pd i = d.pd i := by
  by_cases h : (d.pd k).state = 2
  · simp only [Dev.switchOn, switchFrames, Pd.switched, h, ne_eq, not_true_eq_false, if_true, if_false, fwPdRelease, fwWrite_eq]
    exact ⟨rfl, rfl, fun _ _ => rfl⟩
  · simp only [Dev.switchOn, switchFrames, Pd.switched, h, ne_eq, not_false_eq_true, if_true, if_false, fwWrite_eq]
    exact ⟨rfl, Tbl.get_set_same .., fun i hi => upPd_pd_ne hi _ _⟩

theorem switchOn_all : ∀ {l : List Nat}, l.Nodup → ∀ d : Dev,
    Presented (l.map fun k => switchFrames k (d.pd k)).flatten d (Dev.fold l Dev.switchOn d) ∧
      ∀ i, (Dev.fold l Dev.switchOn d).pd i = if i ∈ l then (d.pd i).switched else d.pd i
  | [], _, _ => ⟨rfl, fun _ => rfl⟩
  | k :: l, hl, d => by
    obtain ⟨hk, hl⟩ := List.nodup_cons.1 hl
    obtain ⟨hpresented, hsame, hne⟩ := switchOn_presented k d
    obtain ⟨hrest, hpd⟩ := switchOn_all hl (d.switchOn k)
    have hframes : (l.map fun i => switchFrames i ((d.switchOn k).pd i)) = l.map fun i => switchFrames i (d.pd i) :=
      List.map_congr_left fun i hi => by rw [hne i (fun h => hk (h ▸ hi))]
    rw [hframes] at hrest
    refine ⟨hpresented.trans hrest, fun i => (hpd i).trans ?_⟩
    by_cases hi : i = k
    · simp [hi, hk, hsame]
    · simp [hi, hne i hi]

/-- What the firmware wants released (R251). -/
def Dev.toRelease (d : Dev) : List Nat := (List.range 16).filter fun p => p == 0 || bitOf (d.cfg.nat 0x2600 4) p

/-- What the firmware wants switched on (R268). -/
def Dev.toSwitchOn (d : Dev) : List Nat := (List.range 12).filter fun k =>
  d.cfg.nat (0x2630 + k) 3 == 1 && (decide (k < 4) || d.cfg.nat 0x24E0 (k - 3) != 0)

theorem mem_toSwitchOn {d : Dev} {k : Nat} (hk : k < 12) :
    k ∈ d.toSwitchOn ↔ d.cfg.nat (0x2630 + k) 3 = 1 ∧ (k < 4 ∨ d.cfg.nat 0x24E0 (k - 3) ≠ 0) := by
  simp [Dev.toSwitchOn, hk]

/-- The boot ends with the releases and the power domains (R521, steps 9 and 10). -/
theorem endOfBoot_ends {d : Dev} (hf : d.boot.firmware = true) (he : d.boot.ended = false) (hw : d.boot.warm = false) :
    (endOfBoot d).boot = { d.boot with ended := true } ∧
      (endOfBoot d).store = ((d.toRelease.map fun p => byteFrame (0x2610 + p) 1 3) ++
        (d.toSwitchOn.map fun k => switchFrames k (d.pd k)).flatten).foldl (withOwn d) d.store ∧
      (∀ k, k < 12 → (endOfBoot d).pd k =
        if d.cfg.nat (0x2630 + k) 3 = 1 ∧ (k < 4 ∨ d.cfg.nat 0x24E0 (k - 3) ≠ 0) ∧ (d.pd k).state ≠ 2
        then { d.pd k with releaseToFollow := true } else d.pd k) ∧
      endOfBoot d = { latchHost d with boot := (endOfBoot d).boot, pds := (endOfBoot d).pds, store := (endOfBoot d).store } := by
  let d1 := latchHost (d.onBoot fun b => { b with ended := true })
  have heq : endOfBoot d = Dev.fold d.toSwitchOn Dev.switchOn (Dev.fold d.toRelease fwRelease d1) := by
    unfold endOfBoot
    rw [if_neg (by simp [hf, he, hw])]
    rfl
  obtain ⟨hreleases, hpds⟩ := fwRelease_presented d.toRelease d1
  have hnodup : d.toSwitchOn.Nodup := List.Nodup.filter _ List.nodup_range
  obtain ⟨hswitched, hpd⟩ := switchOn_all hnodup (Dev.fold d.toRelease fwRelease d1)
  have hsame (k : Nat) : (Dev.fold d.toRelease fwRelease d1).pd k = d.pd k := by
    rw [Dev.pd, hpds]
    rfl
  simp only [hsame] at hswitched hpd
  have hall := hreleases.trans hswitched
  rw [← heq] at hall hpd
  revert hall hpd
  generalize endOfBoot d = t
  intro hpd hall
  have hboot : t.boot = { d.boot with ended := true } := by
    rw [hall]
    rfl
  have hstore : t.store = _ := congrArg Dev.store hall
  refine ⟨hboot, hstore, fun k hk => (hpd k).trans ?_, ?_⟩
  · by_cases h : k ∈ d.toSwitchOn
    · obtain ⟨hstate, hrow⟩ := (mem_toSwitchOn hk).1 h
      rw [if_pos h, Pd.switched]
      simp only [hstate, hrow, true_and]
    · rw [if_neg h, if_neg fun hc => h ((mem_toSwitchOn hk).2 ⟨hc.1, hc.2.1⟩)]
  · rw [hboot, hstore]
    exact hall

/-! The restart of LKC. -/

/-- A partition whose firmware restarts: a release that was to follow its reset step is lost (R277). -/
def Part.forgotten (x : Part) : Part := if x.state = 4 then { x with autoRelease := false, awaitVf := false } else x

/-- An update of every listed entry of a table that the device holds, each once. -/
theorem Dev.fold_pointwise {α : Type} {view : Dev → Nat → α} {g : α → α} {f : Nat → Dev → Dev}
    (hsame : ∀ k d, view (f k d) k = g (view d k)) (hne : ∀ k d i, i ≠ k → view (f k d) i = view d i) :
    ∀ {l : List Nat}, l.Nodup → ∀ (d : Dev) (i : Nat), view (Dev.fold l f d) i = if i ∈ l then g (view d i) else view d i
  | [], _, _, _ => rfl
  | k :: l, hl, d, i => by
    obtain ⟨hk, hl⟩ := List.nodup_cons.1 hl
    refine (Dev.fold_pointwise hsame hne hl (f k d) i).trans ?_
    by_cases hi : i = k
    · simp [hi, hk, hsame]
    · simp [hi, hne k d i hi]

/-- `t` is `d` after a restart of LKC that had no request to end (R522, R277). -/
structure Restarted (d t : Dev) : Prop where
  boot : t.boot = { warm := d.boot.firmware && d.boot.ended, ended := d.boot.ended, running := d.boot.running }
  store : t.store = { d.store with waiting := [], own := [], loads := [] }
  part : ∀ p, p < 16 → t.part p = if (d.part p).state = 4 then { d.part p with autoRelease := false, awaitVf := false } else d.part p
  pd : ∀ k, k < 12 → t.pd k = { d.pd k with releaseToFollow := false }
  rest : t = { d with boot := t.boot, store := t.store, parts := t.parts, pds := t.pds }

/-- The partitions whose firmware restarts. -/
def Dev.loseReleases (d : Dev) : Dev := Dev.fold (List.range 16) (fun p e =>
  if (e.part p).state = 4 then e.upPart p fun x => { x with autoRelease := false, awaitVf := false } else e) d

theorem loseReleases_part (d : Dev) {p : Nat} (hp : p < 16) : d.loseReleases.part p = (d.part p).forgotten := by
  refine (Dev.fold_pointwise (view := Dev.part) (g := Part.forgotten) (fun p e => ?_) (fun p e i hi => ?_) List.nodup_range d p).trans
    (if_pos (List.mem_range.2 hp))
  · by_cases h : (e.part p).state = 4
    · rw [if_pos h, Part.forgotten, if_pos h]
      exact Tbl.get_set_same ..
    · rw [if_neg h, Part.forgotten, if_neg h]
  · split
    · exact Tbl.get_set_ne _ _ _ hi
    · rfl

theorem loseReleases_frame (d : Dev) : d.loseReleases = { d with parts := d.loseReleases.parts } := by
  refine Dev.fold_rel (R := fun d t => t = { d with parts := t.parts }) (fun _ => rfl) ?_ _ (fun p _ e => ?_) d
  · intro d t u h k
    rw [k, h]
  · split <;> rfl

/-- The power domains whose firmware restarts. -/
def Dev.loseFollows (d : Dev) : Dev := Dev.fold (List.range 12) (fun k e => e.upPd k fun x => { x with releaseToFollow := false }) d

theorem loseFollows_pd (d : Dev) {k : Nat} (hk : k < 12) : d.loseFollows.pd k = { d.pd k with releaseToFollow := false } :=
  (Dev.fold_pointwise (view := Dev.pd) (g := fun x => { x with releaseToFollow := false })
    (f := fun k e => e.upPd k fun x => { x with releaseToFollow := false }) (fun _ _ => Tbl.get_set_same ..)
    (fun _ e _ hi => upPd_pd_ne hi _ e) List.nodup_range d k).trans (if_pos (List.mem_range.2 hk))

theorem loseFollows_frame (d : Dev) : d.loseFollows = { d with pds := d.loseFollows.pds } := by
  refine Dev.fold_rel (R := fun d t => t = { d with pds := t.pds }) (fun _ => rfl) ?_ _ (fun _ _ _ => rfl) d
  intro d t u h k
  rw [k, h]

/-- What a restart of LKC takes away beside its mailbox and CAN requests (R522, R277). -/
def Dev.forgetful (d : Dev) : Dev :=
  ((d.onStore fun st => { st with waiting := [], own := [], loads := [] }).loseReleases.loseFollows).onBoot fun b =>
    { warm := b.firmware && b.ended, ended := b.ended, running := b.running }

theorem forgetful_restarted (d : Dev) : Restarted d d.forgetful := by
  have hpart : ∀ p, p < 16 → _ := fun p => loseReleases_part (d.onStore fun st => { st with waiting := [], own := [], loads := [] })
  have hparts := loseReleases_frame (d.onStore fun st => { st with waiting := [], own := [], loads := [] })
  unfold Dev.forgetful
  revert hpart hparts
  generalize (d.onStore fun st => { st with waiting := [], own := [], loads := [] }).loseReleases = e
  intro hpart hparts
  have hpd : ∀ k, k < 12 → _ := fun k => loseFollows_pd (k := k) e
  have hpds := loseFollows_frame e
  revert hpd hpds
  generalize e.loseFollows = t
  intro hpd hpds
  rw [hparts] at hpd hpds
  refine ⟨?_, ?_, fun p hp => ?_, fun k hk => hpd k hk, ?_⟩
  · rw [hpds]
    rfl
  · rw [hpds]
    rfl
  · refine Eq.trans ?_ (hpart p hp)
    rw [hpds]
    rfl
  · rw [hpds]
    rfl

theorem restartLkc_noCan {d : Dev} (hu : d.can.usdo = none) : restartLkc d =
    (Dev.fold (d.boxes.filter fun e => e.2.pending || e.2.active) (fun e y =>
      (mailboxEnd e.1 1 0x08000000 [] y).onStore fun st => { st with results := st.results.set (16 + e.1) (256 * e.2.key + 0x53) })
      d).forgetful := by
  unfold restartLkc
  rw [hu]
  rfl

theorem restartLkc_idle {d : Dev} (hbox : ∀ e, e ∈ d.boxes → e.2.pending = false ∧ e.2.active = false) (hu : d.can.usdo = none) :
    restartLkc d = d.forgetful := by
  have hnone : (d.boxes.filter fun e => e.2.pending || e.2.active) = [] :=
    List.filter_eq_nil_iff.2 fun e he => by
      obtain ⟨hp, ha⟩ := hbox e he
      simp [hp, ha]
  rw [restartLkc_noCan hu, hnone]
  rfl

/-- The device whose pending mailbox request `x` of function `f` a restart of LKC has ended (R88). -/
def Dev.requestEnded (f : Nat) (x : Mailbox) (d : Dev) : Dev := { d with
  boxes := d.boxes.set f { x with
    pending := false, active := false, done := true, rseq := x.seq, stat := 1, abort := 0x08000000, rlen := 0, rspData := [] }
  store := { d.store with results := d.store.results.set (16 + f) (256 * x.key + 0x53) } }

theorem restartLkc_box {d : Dev} {f : Nat} {x : Mailbox} (hbox : d.boxes = [(f, x)]) (hp : x.pending = true) (hie : x.ie = false)
    (hu : d.can.usdo = none) : restartLkc d = (d.requestEnded f x).forgetful := by
  have hone : (d.boxes.filter fun e => e.2.pending || e.2.active) = [(f, x)] := by simp [hbox, hp]
  have hget : d.boxes.get {} f = x := by simp [hbox, Tbl.get]
  rw [restartLkc_noCan hu, hone]
  refine congrArg Dev.forgetful ?_
  simp only [Dev.fold, List.foldl_cons, List.foldl_nil, mailboxEnd, hget, hie, Bool.false_eq_true, if_false,
    Dev.requestEnded, Dev.onStore, Dev.onBoxes, List.length_nil]

/-- What VERIFY finds wrong in a slot is a matter of the flash and the fuses. -/
theorem slotFault_congr {d e : Dev} (hf : d.flash = e.flash) (ho : d.otp = e.otp) (i : Nat) : slotFault d i = slotFault e i := by
  have hsigned : fwSigned d = fwSigned e := by
    funext b
    simp only [fwSigned, ho]
  have hslot : d.fwSlot i = e.fwSlot i := congrArg (fun f : Flash => f.firmware.get [] i) hf
  rw [slotFault, slotFault, hsigned, hslot]

/-- VERIFY programs the rest of the image and judges the slot (R527). -/
theorem updateVerifyDone_judges (ok : Bool) {d : Dev} (hu : d.boot.update = 3) :
    (updateVerifyDone ok d).fwSlot d.boot.target = d.fwSlot d.boot.target ++ d.boot.buffer ∧
      (updateVerifyDone ok d).boot = { d.boot with
        buffer := []
        update := if ok = true ∧ slotFault (updateVerifyDone ok d) d.boot.target = 0 then 4 else 5
        failure := if ok = false then 0x98
          else if slotFault (updateVerifyDone ok d) d.boot.target = 0 then d.boot.failure
          else slotFault (updateVerifyDone ok d) d.boot.target } ∧
      updateVerifyDone ok d = { d with
        boot := (updateVerifyDone ok d).boot
        flash := { d.flash with firmware := (updateVerifyDone ok d).flash.firmware } } := by
  obtain ⟨e, he⟩ : ∃ e, d.programmed d.boot.buffer.length = e := ⟨_, rfl⟩
  have hslot : e.fwSlot d.boot.target = d.fwSlot d.boot.target ++ d.boot.buffer := by
    rw [← he]
    refine (Tbl.get_set_same ..).trans ?_
    rw [List.take_length]
  have hframe : e = { d with
      boot := { d.boot with buffer := [] }, flash := { d.flash with firmware := e.flash.firmware } } := by
    rw [← he, Dev.programmed, List.drop_length]
  let fault := if ok then slotFault e d.boot.target else 0x98
  have hv : updateVerifyDone ok d = e.onBoot fun b =>
      if fault = 0 then { b with update := 4 } else { b with update := 5, failure := fault } := by
    have hprogrammed : programBuffer d.boot.buffer.length d = e := he
    rw [updateVerifyDone, if_neg (not_not.2 hu), hprogrammed]
    change (if fault = 0 then e.onBoot _ else e.onBoot _) = _
    by_cases h0 : fault = 0
    · simp only [if_pos h0]
    · simp only [if_neg h0]
      rfl
  have hfault : slotFault (updateVerifyDone ok d) d.boot.target = slotFault e d.boot.target :=
    slotFault_congr (by rw [hv]; rfl) (by rw [hv]; rfl) _
  rw [hfault, hv]
  refine ⟨hslot, ?_, ?_⟩
  · have hboot : e.boot = { d.boot with buffer := [] } := by rw [hframe]
    dsimp only [Dev.onBoot, fault]
    rw [hboot]
    cases ok
    · rfl
    · by_cases h0 : slotFault e d.boot.target = 0 <;> simp [h0]
  · rw [hframe]
    rfl

/-- Settles O48, command by command from the equations above. -/
theorem boot : Obligations.Boot := by
  refine ⟨fun programmed s hw hs hrom ho hp => ?starts, fun s hw hs hrom hc hi => ?harbour, fun s hw hs hf he hwarm => ?ended,
    fun s hw hs hf ht he => ?confirm, fun cut d s hw hs hrom hd hbox hu hi => ?watchdog,
    fun f x cut d s hw hs hrom hd hbox hp hie hu => ?mailbox, fun cut d s hw hs hr hd hbox hu => ?restart,
    fun ok s hw hs hu => ?erase, fun ok s hw hs hu => ?verify⟩
  case starts =>
    refine ⟨settle s.dev (firmwareStart programmed s.dev), act_ready _ hw hs.1, fun hnone => ?_, fun i hc => ?_⟩
    · simp only [firmwareStart, hnone, settle_self hs.2]
    · obtain ⟨hboot, hremap, husdo, hoff, hkept, hstore⟩ := firmwareStart_runs programmed hrom ho hp hc
      exact ⟨hboot, hremap, husdo, hoff, hkept.1, hkept.2.1, hkept.2.2, hstore⟩
  case harbour =>
    obtain ⟨t, ht⟩ : ∃ t, romStart (bootChoice s.dev) s.dev = t := ⟨_, rfl⟩
    obtain ⟨hframe, hsilent⟩ := romStart_found (bootChoice s.dev) s.dev
    rw [ht] at hframe hsilent
    have hti : t.faults.inj.state ≠ 1 := by
      rw [hsilent hi]
      exact hi
    let u := (t.onBoot fun b => { b with safeHarbour := true, running := 0xFF, trying := false }).raise 0xE3
    have hu : u = _ := Dev.raise_of_not_armed 0xE3 0xFF 0xFF 0 (d := t.onBoot fun b =>
      { b with safeHarbour := true, running := 0xFF, trying := false }) hti
    have he : safeHarbourEntry s.dev = canStart u := by
      simp only [safeHarbourEntry, hrom, hc, ht, u, Option.isSome_none, Bool.true_eq_false, Bool.false_eq_true, or_self, if_false]
    obtain ⟨hcan, -, -, hmode⟩ := canStart_can u
    have hresult : canStart u = { s.dev with
        boot := { s.dev.boot with safeHarbour := true, running := 0xFF, trying := false }, can := (canStart u).can
        faults := { s.dev.faults with crossing := u.faults.crossing }
        flash := { s.dev.flash with record := t.flash.record } } := by
      rw [hcan, hu, hframe, hsilent hi]
      rfl
    have hcross : u.faults.crossing = t.faults.crossing ++
        [{ src := 0xE3, inst := 0xFF, part := 0xFF, cause := 0, injected := false }] := by
      rw [hu]
      rfl
    obtain ⟨hnmt, hon⟩ := hmode (by rw [hu]; rfl)
    have hstore : u.store = s.dev.store := by
      rw [hu, hframe]
      rfl
    rw [Dev.cfg, hstore] at hon
    refine completes_of_effect rfl hw hs (he.trans hresult) ⟨rfl, ?_, hnmt, hon, rfl⟩
    rw [hcross]
    exact List.mem_append_right _ List.mem_cons_self
  case ended =>
    obtain ⟨hboot, hstore, hpd, hframe⟩ := endOfBoot_ends hf he hwarm
    refine completes_of_effect rfl hw hs rfl ⟨hboot, hstore, hpd, ?_, ?_⟩ ?_
    · rw [hframe]
      rfl
    · rw [hframe]
      rfl
    · rw [hframe]
      exact ⟨rfl, rfl, rfl, rfl⟩
  case confirm =>
    have he : trialConfirm s.dev = writeRecord { s.dev.record with
        trial := 0xFF, outcome := 1
        pin := if newerOf s.dev (slotValid s.dev) = some s.dev.boot.running then 0xFF else s.dev.boot.running }
        (s.dev.onBoot fun b => { b with trying := false }) := by
      simp only [trialConfirm, hf, ht, he, Bool.true_eq_false, or_self, if_false]
    have hframe := writeRecord_frame { s.dev.record with
        trial := 0xFF, outcome := 1
        pin := if newerOf s.dev (slotValid s.dev) = some s.dev.boot.running then 0xFF else s.dev.boot.running }
        (s.dev.onBoot fun b => { b with trying := false })
    have hrecord := record_writeRecord { s.dev.record with
        trial := 0xFF, outcome := 1
        pin := if newerOf s.dev (slotValid s.dev) = some s.dev.boot.running then 0xFF else s.dev.boot.running }
        (s.dev.onBoot fun b => { b with trying := false })
    rw [← he] at hframe hrecord
    have hboot : (trialConfirm s.dev).boot = { s.dev.boot with trying := false } := by
      rw [hframe]
      rfl
    refine completes_of_effect rfl hw hs rfl ⟨hboot, hrecord, ?_⟩ ?_
    · rw [hboot]
      exact hframe
    · rw [hframe]
      exact ⟨rfl, rfl, rfl, rfl⟩
  case watchdog =>
    have he : lkcRestartRow cut s.dev = d.forgetful.raise 0xEC := by
      rw [lkcRestartRow, if_neg (by simp [hrom]), hd, lkcRestart, restartLkc_idle hbox hu]
    obtain ⟨t, ht⟩ : ∃ t, d.forgetful = t := ⟨_, rfl⟩
    obtain ⟨hboot, hstore, hpart, hpd, hrest⟩ := ht ▸ forgetful_restarted d
    rw [ht] at he
    have hcfg : t.cfg = d.cfg := by rw [Dev.cfg, hstore]; rfl
    have hraise := Dev.raise_of_not_armed 0xEC 0xFF 0xFF 0 (d := t) (by rw [hrest]; exact hi)
    refine ⟨settle s.dev (lkcRestartRow cut s.dev), act_ready _ hw hs.1, ?_⟩
    rw [he, hraise]
    refine ⟨hboot, hstore, hpart, hpd, ?_, hcfg, ?_, ?_, ?_⟩
    · dsimp only [settle_faults]
      rw [hrest]
    all_goals
      dsimp only [settle_can, settle_flash, settle_queues]
      rw [hrest]
  case mailbox =>
    have he : lkcRestartRow cut s.dev = (d.requestEnded f x).forgetful.raise 0xEC := by
      rw [lkcRestartRow, if_neg (by simp [hrom]), hd, lkcRestart, restartLkc_box hbox hp hie hu]
    obtain ⟨t, ht⟩ : ∃ t, (d.requestEnded f x).forgetful = t := ⟨_, rfl⟩
    obtain ⟨hboot, hstore, -, -, hrest⟩ := ht ▸ forgetful_restarted (d.requestEnded f x)
    rw [ht] at he
    have hcfg : t.cfg = d.cfg := by rw [Dev.cfg, hstore]; rfl
    obtain ⟨i, inj, hraise⟩ := Dev.raise_event 0xEC 0xFF 0xFF 0 t
    refine ⟨settle s.dev (lkcRestartRow cut s.dev), act_ready _ hw hs.1, ?_⟩
    rw [he, hraise]
    refine ⟨?_, ?_, congrArg Boot.firmware hboot, hcfg⟩
    · dsimp only [settle_boxes]
      rw [hrest]
      exact Tbl.get_set_same ..
    · dsimp only [settle_store]
      rw [hstore]
      exact Tbl.get_set_same ..
  case restart =>
    have he : restartDelayExpiry cut s.dev = d.forgetful := by
      rw [restartDelayExpiry, if_pos hr, hd, restartLkc_idle hbox hu]
    obtain ⟨t, ht⟩ : ∃ t, d.forgetful = t := ⟨_, rfl⟩
    obtain ⟨hboot, hstore, -, -, hrest⟩ := ht ▸ forgetful_restarted d
    rw [ht] at he
    have hcfg : t.cfg = d.cfg := by rw [Dev.cfg, hstore]; rfl
    refine ⟨settle s.dev (restartDelayExpiry cut s.dev), act_ready _ hw hs.1, ?_⟩
    rw [he]
    refine ⟨hboot, hstore, ?_, hcfg, ?_, ?_, ?_⟩
    all_goals
      dsimp only [settle_faults, settle_can, settle_flash, settle_queues]
      rw [hrest]
  case erase =>
    cases ok <;> exact completes_of_effect rfl hw hs (if_neg (not_not.2 hu)) rfl
  case verify =>
    obtain ⟨hslot, hboot, hframe⟩ := updateVerifyDone_judges ok hu
    refine completes_of_effect rfl hw hs rfl ⟨hslot, hboot, hframe⟩ ?_
    rw [hframe]
    exact ⟨rfl, rfl, rfl, rfl⟩

end Sys2Proof.Machine
end

section
/-! SUPPORT. Commands that an SE holds, and work entries of network queues (R283, R395 to R403): what each makes of the device, and from
these the obligation about them. -/
namespace Sys2Proof.Machine

/-! One command of an SE. -/

theorem upFirst_split {p : Cmd → Bool} {f : Cmd → Cmd} {pre post : List Cmd} {k : Cmd} (hpre : ∀ j ∈ pre, p j = false) (hk : p k = true) :
    upFirst p f (pre ++ k :: post) = pre ++ f k :: post := by
  induction pre with
  | nil => simp only [List.nil_append, upFirst, hk, if_true]
  | cons j pre ih =>
    obtain ⟨hj, hpre⟩ := List.forall_mem_cons.1 hpre
    simp only [List.cons_append, upFirst, hj, Bool.false_eq_true, if_false, ih hpre]

/-- `k` is a command that the SE of queue `q` holds, and the first of those of the queue that have begun at its ring index. -/
structure HeldAt (d : Dev) (q : Nat) (pre : List Cmd) (k : Cmd) (post : List Cmd) : Prop where
  holds : (d.eng (seOf q)).cmds = pre ++ k :: post
  queue : k.q = q
  begun : k.st ≠ .fetched
  first : ∀ j ∈ pre, j.q = q → j.index = k.index → j.st = .fetched

theorem HeldAt.of_runs {d : Dev} {q op : Nat} {pre post : List Cmd} {k : Cmd} (h : RunsAt d q op pre k post) : HeldAt d q pre k post := by
  obtain ⟨hholds, hqueue, hst, -, hfirst⟩ := h
  exact ⟨hholds, hqueue, by simp [hst], fun j hj hq hi => absurd hi (hfirst j hj hq).1⟩

theorem HeldAt.of_eng {d t : Dev} {q : Nat} {pre post : List Cmd} {k : Cmd} (h : HeldAt d q pre k post)
    (he : (t.eng (seOf q)).cmds = (d.eng (seOf q)).cmds) : HeldAt t q pre k post := ⟨he.trans h.holds, h.queue, h.begun, h.first⟩

/-- The SE of queue `q` with the commands `l`. -/
def Dev.setCmds (q : Nat) (l : List Cmd) (d : Dev) : Dev := d.upSe (seOf q) fun e => { e with cmds := l }

theorem setCmds_holds (q : Nat) (l : List Cmd) (d : Dev) : SeHolds d (d.setCmds q l) (seOf q) l :=
  ⟨upSe_eng_same .., fun _ hi => upSe_eng_ne hi _ _⟩

theorem HeldAt.upCmd {d : Dev} {q : Nat} {pre post : List Cmd} {k : Cmd} (h : HeldAt d q pre k post) (f : Cmd → Cmd) :
    upCmd q (atIndex k.index) f d = d.setCmds q (pre ++ f k :: post) := by
  obtain ⟨hholds, hqueue, hbegun, hfirst⟩ := h
  have hsplit : upFirst (fun j => j.q == q && atIndex k.index j) f (d.eng (seOf q)).cmds = pre ++ f k :: post := by
    rw [hholds]
    refine upFirst_split (fun j hj => ?_) ?_
    · by_cases hq : j.q = q
      · by_cases hi : j.index = k.index
        · simp [atIndex, hfirst j hj hq hi]
        · simp [atIndex, hi]
      · simp [hq]
    · simp [atIndex, hqueue, hbegun]
  unfold Machine.upCmd Dev.setCmds Dev.upSe Tbl.modify
  rw [← hsplit]
  rfl

theorem HeldAt.endCmd {d : Dev} {q : Nat} {pre post : List Cmd} {k : Cmd} (h : HeldAt d q pre k post) (status detail result : Nat) :
    endCmd q k.index status detail result d =
      d.setCmds q (pre ++ { k with st := .done, status := status, detail := detail, result := result } :: post) := h.upCmd _

theorem runningCmd_of_runs {d : Dev} {q op : Nat} {pre post : List Cmd} {k : Cmd} (h : RunsAt d q op pre k post) :
    runningCmd d q op = some k := by
  obtain ⟨hholds, hqueue, hst, hop, hfirst⟩ := h
  rw [runningCmd, hholds]
  refine List.find?_eq_some_iff_append.2 ⟨by simp [hqueue, hst, hop], pre, post, rfl, fun j hj => ?_⟩
  by_cases hq : j.q = q
  · obtain ⟨-, hne | hne⟩ := hfirst j hj hq <;> simp [hne]
  · simp [hq]

/-! Reads of a span. -/

theorem splitBlocks_ne_nil (fuel a n : Nat) : splitBlocks (fuel + 1) a n ≠ [] := by
  unfold splitBlocks
  dsimp only
  split <;> exact List.cons_ne_nil _ _

/-- A span of some bytes is read in some blocks. -/
theorem spanBlocks_reads64 {a len : Nat} (h : len ≠ 0) : (spanBlocks (reads64 a len)).isEmpty = false := by
  have hmem : a / 64 ∈ span (a / 64) ((a + len - 1) / 64 + 1) := by
    rw [mem_span]
    omega
  obtain ⟨l, r, hspan⟩ := List.append_of_mem hmem
  rw [List.isEmpty_eq_false_iff, spanBlocks, reads64, if_neg h, hspan]
  simp [splitBlocks_ne_nil]

theorem withRead_idle {n part cls key : Nat} {spans : List (Nat × Nat)} {go : Nat → Bytes → Dev → Dev} {d : Dev}
    (h : readState d n key spans = .idle) (hs : (spanBlocks spans).isEmpty = false) :
    withRead n part cls key spans go d = engineRead n part cls key spans d := by
  simp only [withRead, h, hs, Bool.false_eq_true, if_false]

theorem withRead_done {n part cls key st : Nat} {bs : Bytes} {spans : List (Nat × Nat)} {go : Nat → Bytes → Dev → Dev} {d : Dev}
    (h : readState d n key spans = .done st bs) : withRead n part cls key spans go d = go st bs (takeAnswers n key d) := by
  simp only [withRead, h]

/-! Work entries. -/

section
variable {q op : Nat} {x : Queue} {pre post : List Cmd} {k : Cmd} {d : Dev}

/-- An entry that passes its checks acts (R395, R283). -/
theorem runNet_acts (act_ : Queue → Cmd → Dev → Dev) (hx : d.queue? q = some x) (hr : RunsAt d q op pre k post) (hkind : x.kind = 3)
    (hp : portFenced d x.port x.part = false) (hf : netFault op k.bytes = none)
    (hs : k.bytes.le 16 4 = 0 ∨ spanFault d.fcfg x.part k.a (k.bytes.le 16 4) = 0) : runNet q op act_ d = act_ x k d := by
  have hspan : (if k.bytes.le 16 4 = 0 then 0 else spanFault d.fcfg x.part k.a (k.bytes.le 16 4)) = 0 := by
    obtain h | h := hs <;> simp [h]
  simp only [runNet, hx, runningCmd_of_runs hr, hkind, hp, hf, hspan, ne_eq, not_true_eq_false, Bool.false_eq_true, or_self, if_false]

/-- A queue pair with the message of an entry in flight (R398). -/
def Qp.launch (k : Cmd) (op : Nat) (data : Bytes) (y : Qp) : Qp := { y with
  sqPsn := psnAdd y.sqPsn 1
  msgs := y.msgs ++ [{
    index := k.index, first := y.sqPsn, last := psnAdd y.sqPsn 0, op := op, data := data
    va := k.bytes.le 24 8, rkey := k.bytes.le 32 4, imm := k.bytes.le 20 4 }] }

/-- The one packet of the message of an entry (R397, R398). -/
def launchPacket (x : Queue) (k : Cmd) (op : Nat) (data : Bytes) (y : Qp) : EthFrame := .roce {
  qp := x.qpNo, op := packetOp op 0 1, psn := psnAdd y.sqPsn 0, data := data
  reth := if op ≠ 1 ∧ 0 = 0 then some (k.bytes.le 24 8, k.bytes.le 32 4, data.length) else none
  imm := if packetOp op 0 1 = 9 ∨ packetOp op 0 1 = 0xB then some (k.bytes.le 20 4) else none }

theorem transmit_up {p prio : Nat} {f : EthFrame} {d : Dev} (hl : (d.eport p).link = 2) (hp : paused d p prio = false) :
    transmit p prio f d = d.upPort p (EthPort.send f) := by
  simp only [transmit, hl, hp, Bool.false_eq_true, and_false, if_false, sendFrame_up hl]

theorem upQp_qp_same (n : Nat) (f : Qp → Qp) (d : Dev) : (d.upQp n f).qp n = f (d.qp n) := Tbl.get_modify_same ..

theorem upQp_qp_ne {n i : Nat} (hi : i ≠ n) (f : Qp → Qp) (d : Dev) : (d.upQp n f).qp i = d.qp i := Tbl.get_modify_ne _ _ hi f

/-- A message of one packet is sent in one. -/
theorem sendPackets_single {p n : Nat} {m : OutMsg} {d : Dev} (hl : (d.eport p).link = 2) (hp : paused d p (d.qp n).prio = false)
    (hc : packetCount m.data.length (d.qp n).mtu = 1) (hd : m.data.length ≤ (d.qp n).mtu) : sendPackets p n m 0 d =
      d.upPort p (EthPort.send (.roce {
        qp := n, op := packetOp m.op 0 1, psn := psnAdd m.first 0, data := m.data
        reth := if m.op ≠ 1 ∧ 0 = 0 then some (m.va, m.rkey, m.data.length) else none
        imm := if packetOp m.op 0 1 = 9 ∨ packetOp m.op 0 1 = 0xB then some m.imm else none })) := by
  have hslice : m.data.slice (0 * (d.qp n).mtu) (d.qp n).mtu = m.data := by
    simp [Bytes.slice, List.take_of_length_le hd]
  simp only [sendPackets, hc, show span 0 1 = [0] from rfl, Dev.fold, List.foldl_cons, List.foldl_nil, hslice]
  exact transmit_up hl hp

/-- The message of one packet of an entry is sent (R398). -/
theorem sendMsg_single {data : Bytes} (h : HeldAt d q pre k post) (hl : (d.eport x.port).link = 2)
    (hp : paused d x.port (d.qp x.qpNo).prio = false) (hc : packetCount data.length (d.qp x.qpNo).mtu = 1)
    (hd : data.length ≤ (d.qp x.qpNo).mtu) : sendMsg op x k data d =
      (((d.setCmds q (pre ++ { k with st := .waiting } :: post)).upQp x.qpNo (Qp.launch k op data)).upPort x.port
        (EthPort.send (launchPacket x k op data (d.qp x.qpNo)))) := by
  let e := (d.setCmds q (pre ++ { k with st := .waiting } :: post)).upQp x.qpNo (Qp.launch k op data)
  let m : OutMsg := {
    index := k.index, first := (d.qp x.qpNo).sqPsn, last := psnAdd (d.qp x.qpNo).sqPsn 0, op := op, data := data
    va := k.bytes.le 24 8, rkey := k.bytes.le 32 4, imm := k.bytes.le 20 4 }
  have hqp : e.qp x.qpNo = (d.qp x.qpNo).launch k op data := upQp_qp_same ..
  have hsend : sendMsg op x k data d = sendPackets x.port x.qpNo m 0 e := by
    unfold sendMsg
    dsimp only
    rw [h.queue, h.upCmd, hc]
    rfl
  have hpe : paused e x.port (e.qp x.qpNo).prio = false := by
    rw [hqp]
    exact hp
  have hce : packetCount m.data.length (e.qp x.qpNo).mtu = 1 := by
    rw [hqp]
    exact hc
  have hde : m.data.length ≤ (e.qp x.qpNo).mtu := by
    rw [hqp]
    exact hd
  rw [hsend, sendPackets_single (by exact hl) hpe hce hde]
  rfl

/-- Data of an entry: the inline bytes, or what its reads have brought. -/
def DataOf (d : Dev) (q : Nat) (x : Queue) (k : Cmd) (data : Bytes) : Prop :=
  if bitOf (k.bytes.le 1 1) 0 then data = k.bytes.slice 36 (k.bytes.le 2 2) else
    readState d (epNi x.port) (queueKey q k.index 2) (reads64 k.a (k.bytes.le 16 4)) = .done 0 data

/-- The device once an entry has taken what its reads have brought, where it has read. -/
def Dev.dataTaken (q : Nat) (x : Queue) (k : Cmd) (d : Dev) : Dev :=
  if bitOf (k.bytes.le 1 1) 0 then d else takeAnswers (epNi x.port) (queueKey q k.index 2) d

theorem dataTaken_frame (q : Nat) (x : Queue) (k : Cmd) (d : Dev) : d.dataTaken q x k = { d with
    nis := if bitOf (k.bytes.le 1 1) 0 then d.nis else (takeAnswers (epNi x.port) (queueKey q k.index 2) d).nis } := by
  unfold Dev.dataTaken
  split <;> rfl

/-- An entry of a READY queue pair that may send (R398). -/
theorem sendEntry_ready (hx : d.queue? q = some x) (hr : RunsAt d q op pre k post) (hkind : x.kind = 3)
    (hp : portFenced d x.port x.part = false) (hf : netFault op k.bytes = none)
    (hs : k.bytes.le 16 4 = 0 ∨ spanFault d.fcfg x.part k.a (k.bytes.le 16 4) = 0) (hst : (d.qp x.qpNo).state = 1)
    (ho : oldestRunning d q k = true) (hpa : paused d x.port (d.qp x.qpNo).prio = false) : sendEntry op q d =
      if bitOf (k.bytes.le 1 1) 0 then sendMsg op x k (k.bytes.slice 36 (k.bytes.le 2 2)) d
      else withRead (epNi x.port) x.part (d.portObj x.port 5) (queueKey q k.index 2) (reads64 k.a (k.bytes.le 16 4)) (fun st bs f =>
        if st ≠ 0 then endOnStatus q k.index st 0 f else sendMsg op x k bs f) d := by
  refine (runNet_acts _ hx hr hkind hp hf hs).trans ?_
  simp only [hst, ho, hpa, Bool.true_eq_false, Bool.false_eq_true, or_self, if_false, Nat.reduceEqDiff]

theorem sendEntry_sends {data : Bytes} (hx : d.queue? q = some x) (hr : RunsAt d q op pre k post) (hkind : x.kind = 3)
    (hp : portFenced d x.port x.part = false) (hf : netFault op k.bytes = none)
    (hs : k.bytes.le 16 4 = 0 ∨ spanFault d.fcfg x.part k.a (k.bytes.le 16 4) = 0) (hd : DataOf d q x k data)
    (hst : (d.qp x.qpNo).state = 1) (ho : oldestRunning d q k = true) (hpa : paused d x.port (d.qp x.qpNo).prio = false) :
    sendEntry op q d = sendMsg op x k data (d.dataTaken q x k) := by
  rw [sendEntry_ready hx hr hkind hp hf hs hst ho hpa]
  unfold DataOf at hd
  unfold Dev.dataTaken
  by_cases hi : bitOf (k.bytes.le 1 1) 0 = true
  · simp only [hi, if_true] at hd ⊢
    rw [hd]
  · simp only [hi, Bool.false_eq_true, if_false] at hd ⊢
    rw [withRead_done hd, if_neg (not_not.2 rfl)]

end

/-- A command that sends the message of one packet of an entry of a READY queue pair (R398). -/
theorem completes_sendEntry {c : Instr} {s : State} {op q : Nat} {data : Bytes} {x : Queue} {pre post : List Cmd} {k : Cmd}
    (he : exec c s = act c.wellFormed (sendEntry op q) s) (hw : c.wellFormed = true) (hs : s.Ready)
    (hx : s.dev.queue? q = some x) (hr : RunsAt s.dev q op pre k post) (hkind : x.kind = 3)
    (hp : portFenced s.dev x.port x.part = false) (hf : netFault op k.bytes = none)
    (hspan : k.bytes.le 16 4 = 0 ∨ spanFault s.dev.fcfg x.part k.a (k.bytes.le 16 4) = 0) (hd : DataOf s.dev q x k data)
    (hst : (s.dev.qp x.qpNo).state = 1) (ho : oldestRunning s.dev q k = true)
    (hpa : paused s.dev x.port (s.dev.qp x.qpNo).prio = false) (hl : (s.dev.eport x.port).link = 2)
    (hc : packetCount data.length (s.dev.qp x.qpNo).mtu = 1) (hlen : data.length ≤ (s.dev.qp x.qpNo).mtu) :
    Completes c s fun t =>
      (t.eport x.port).sent = some (launchPacket x k op data (s.dev.qp x.qpNo)) ∧
        t.qp x.qpNo = (s.dev.qp x.qpNo).launch k op data ∧ (∀ i, i ≠ x.qpNo → t.qp i = s.dev.qp i) ∧
        t.eport x.port = { s.dev.eport x.port with sent := (t.eport x.port).sent, counts := (t.eport x.port).counts } ∧
        (∀ i, i ≠ x.port → t.eport i = s.dev.eport i) ∧
        SeHolds s.dev t (seOf q) (pre ++ { k with st := .waiting } :: post) ∧
        t = { s.dev with
          queues := { s.dev.queues with se := t.queues.se }
          nis := if bitOf (k.bytes.le 1 1) 0 then s.dev.nis else (takeAnswers (epNi x.port) (queueKey q k.index 2) s.dev).nis
          eth := { s.dev.eth with qp := t.eth.qp, port := t.eth.port } } := by
  have hsend := sendEntry_sends hx hr hkind hp hf hspan hd hst ho hpa
  have hframe := dataTaken_frame q x k s.dev
  revert hsend hframe
  generalize s.dev.dataTaken q x k = e
  intro hsend hframe
  have hheld : HeldAt e q pre k post := (HeldAt.of_runs hr).of_eng (by rw [hframe]; rfl)
  have heqp : e.qp = s.dev.qp := by
    rw [hframe]
    rfl
  have heport : e.eport = s.dev.eport := by
    rw [hframe]
    rfl
  have heng : e.eng = s.dev.eng := by
    rw [hframe]
    rfl
  have hpaused : paused e x.port (e.qp x.qpNo).prio = false := by
    rw [paused, heqp, heport]
    exact hpa
  rw [sendMsg_single hheld (by rw [heport]; exact hl) hpaused (by rw [heqp]; exact hc) (by rw [heqp]; exact hlen)] at hsend
  rw [← heqp]
  let t1 := (e.setCmds q (pre ++ { k with st := .waiting } :: post)).upQp x.qpNo (Qp.launch k op data)
  obtain ⟨hport, hports, -⟩ := Dev.upPort_portIs x.port (EthPort.send (launchPacket x k op data (e.qp x.qpNo))) t1
  obtain ⟨hcmds, hses⟩ := setCmds_holds q (pre ++ { k with st := .waiting } :: post) e
  refine completes_of_effect he hw hs hsend ⟨?_, upQp_qp_same .., fun i hi => upQp_qp_ne hi _ _, ?_, fun i hi => ?_, ⟨?_, fun i hi => ?_⟩, ?_⟩ ?_
  · rw [hport]
    rfl
  · rw [hport, ← heport]
    rfl
  · rw [← heport]
    exact hports i hi
  · rw [← heng]
    exact hcmds
  · rw [← heng]
    exact hses i hi
  · rw [hframe]
    rfl
  · rw [hframe]
    exact ⟨rfl, rfl, rfl, rfl⟩

/-- A command that lets an entry that passes its checks wait for its packets. -/
theorem completes_waits {c : Instr} {s : State} {f : Dev → Dev} {q : Nat} {pre post : List Cmd} {k : Cmd}
    (he : exec c s = act c.wellFormed f s) (hw : c.wellFormed = true) (hs : s.Ready) (h : HeldAt s.dev q pre k post)
    (hf : f s.dev = upCmd q (atIndex k.index) (fun c => { c with st := .waiting }) s.dev) : Completes c s fun t =>
      SeHolds s.dev t (seOf q) (pre ++ { k with st := .waiting } :: post) ∧
        t = { s.dev with queues := { s.dev.queues with se := t.queues.se } } := by
  rw [h.upCmd] at hf
  exact completes_of_effect he hw hs hf ⟨setCmds_holds .., rfl⟩

/-- A QP_MODIFY from RESET to READY (R396). -/
theorem qpModify_ready {q : Nat} {x : Queue} {pre post : List Cmd} {k : Cmd} {d : Dev} (hx : d.queue? q = some x)
    (hr : RunsAt d q 0x10 pre k post) (hkind : x.kind = 3) (hp : portFenced d x.port x.part = false) (hst : (d.qp x.qpNo).state = 0)
    (ht : k.bytes.le 8 1 = 1) (hf : qpModifyFault 0 k.bytes = none) : qpModify q d =
      (d.upQp x.qpNo fun _ => ({
        state := 1, attrs := k.bytes.slice 9 47, sqPsn := k.bytes.le 20 3, rqPsn := k.bytes.le 24 3 } : Qp).freshRetries).setCmds q
        (pre ++ { k with st := .done, status := 0, detail := 0, result := 0 } :: post) := by
  have hend := ((HeldAt.of_runs hr).of_eng (t := d.upQp x.qpNo fun _ => ({
    state := 1, attrs := k.bytes.slice 9 47, sqPsn := k.bytes.le 20 3, rqPsn := k.bytes.le 24 3 } : Qp).freshRetries) rfl).endCmd 0 0 0
  rw [← hend]
  simp only [qpModify, hx, runningCmd_of_runs hr, hkind, hp, hst, ht, hf, ne_eq, not_true_eq_false, Bool.false_eq_true, or_self, if_false,
    and_self, if_true]

/-! Raw datagrams. -/

/-- The device with what raw send queue `q` has reached set. -/
def Dev.setRaw (q : Nat) (r : RawSend) (d : Dev) : Dev := { d with eth := { d.eth with raw := d.eth.raw.set q r } }

/-- The last datagram of an entry (R403). -/
def lastDatagram (d : Dev) (x : Queue) (k : Cmd) (r : RawSend) (bs : Bytes) : EthFrame :=
  .raw (datagram ((d.shadow (5 + x.port)).bytesAt 0 (0x2B20 + x.sel) 1) ((d.shadow (5 + x.port)).nat (0x2B20 + x.sel) 2) r.seqNo
    (k.bytes.le 4 4) r.off true bs)

/-- The last datagram of an entry whose data have been read leaves, and the entry ends (R403). -/
theorem sendDatagram_last {q n : Nat} {x : Queue} {pre post : List Cmd} {k : Cmd} {r : RawSend} {bs : Bytes} {d : Dev}
    (h : HeldAt d q pre k post) (hl : (d.eport x.port).link = 2) (hp : (d.eport x.port).paused = []) (hr : d.eth.raw.get {} q = r)
    (hn : k.bytes.le 16 4 ≤ r.off + n) : sendDatagram q n x k bs d =
      ((d.upPort x.port (EthPort.send (lastDatagram d x k r bs))).setRaw q { seqNo := (r.seqNo + 1) % 2 ^ 32, off := 0 }).setCmds q
        (pre ++ { k with st := .done, status := 0, detail := 0, result := k.bytes.le 16 4 } :: post) := by
  have hpaused (prio : Nat) : paused d x.port prio = false := by
    rw [paused, hp]
    rfl
  have hlast : decide (k.bytes.le 16 4 ≤ (d.eth.raw.get {} q).off + n) = true := decide_eq_true (by rw [hr]; exact hn)
  unfold sendDatagram
  dsimp only
  rw [hlast, transmit_up hl (hpaused _), if_pos rfl, if_pos rfl, hr]
  exact (h.of_eng (t := (d.upPort x.port (EthPort.send (lastDatagram d x k r bs))).setRaw q _) rfl).endCmd 0 0 (k.bytes.le 16 4)

/-- The device once an entry of raw send queue `q` has taken what its read has brought at an NI, its datagram has left port `p`, and the
queue and its SE have gone on. -/
def Dev.datagramSent (m key p q : Nat) (f : EthPort → EthPort) (r : RawSend) (l : List Cmd) (d : Dev) : Dev :=
  (((takeAnswers m key d).upPort p f).setRaw q r).setCmds q l

theorem datagramSent_effect (m key p q : Nat) (f : EthPort → EthPort) (r : RawSend) (l : List Cmd) (d : Dev) :
    let t := d.datagramSent m key p q f r l
    t.eport p = f (d.eport p) ∧ (∀ i, i ≠ p → t.eport i = d.eport i) ∧ t.eth.raw = d.eth.raw.set q r ∧ SeHolds d t (seOf q) l ∧
      t = { d with
        queues := { d.queues with se := t.queues.se }, nis := (takeAnswers m key d).nis
        eth := { d.eth with raw := t.eth.raw, port := t.eth.port } } :=
  ⟨Dev.upPort_eport_same p f (takeAnswers m key d), fun _ hi => Dev.upPort_eport_ne hi f (takeAnswers m key d), rfl,
    setCmds_holds q l (((takeAnswers m key d).upPort p f).setRaw q r), rfl⟩

theorem rawDatagramSend_last {q n : Nat} {x : Queue} {pre post : List Cmd} {k : Cmd} {r : RawSend} {bs : Bytes} {d : Dev}
    (h : HeldAt d q pre k post) (hx : d.queue? q = some x) (he : rawEntry d q = some k) (hf : portFenced d x.port x.part = false)
    (hl : (d.eport x.port).link = 2) (hp : (d.eport x.port).paused = []) (hr : d.eth.raw.get {} q = r) (hn : k.bytes.le 16 4 - r.off = n)
    (hpos : 0 < n) (hmax : n ≤ (d.shadow (5 + x.port)).nat (0x2B20 + x.sel) 4)
    (hread : readState d (epNi x.port) (queueKey q k.index 2) (reads64 (k.a + r.off) n) = .done 0 bs) : rawDatagramSend q d =
      d.datagramSent (epNi x.port) (queueKey q k.index 2) x.port q (EthPort.send (lastDatagram d x k r bs))
        { seqNo := (r.seqNo + 1) % 2 ^ 32, off := 0 }
        (pre ++ { k with st := .done, status := 0, detail := 0, result := k.bytes.le 16 4 } :: post) := by
  have hmin : min ((d.shadow (5 + x.port)).nat (0x2B20 + x.sel) 4) (k.bytes.le 16 4 - r.off) = n := by omega
  have hunpaused (prio : Nat) : paused d x.port prio = false := by
    rw [paused, hp]
    rfl
  have hsend : rawDatagramSend q d = sendDatagram q n x k bs (takeAnswers (epNi x.port) (queueKey q k.index 2) d) := by
    simp only [rawDatagramSend, hx, he, hf, hl, hunpaused, hr, hmin, Bool.false_eq_true, ne_eq, not_true_eq_false, or_self, if_false,
      withRead_done hread]
  exact hsend.trans (sendDatagram_last (h.of_eng rfl) hl hp hr (by omega))

/-- Settles O31, command by command from the equations above. -/
theorem queuePairs : Obligations.QueuePairs := by
  refine ⟨fun q x pre k post s hw hs hx hr hkind hp hst ht hf => ?modify,
    fun q x pre k post s hw hs hx hr hkind hp hf hspan hinl hread hst ho hpa => ?reads,
    fun q data x pre k post s hw hs hx hr hkind hp hf hspan hd hst ho hpa hl hc hlen => ?send,
    fun q data x pre k post s hw hs hx hr hkind hp hf hspan hd hst ho hpa hl hc hlen => ?write,
    fun q data x pre k post s hw hs hx hr hkind hp hf hspan hd hst ho hpa hl hc hlen => ?writeImm,
    fun q x pre k post s hw hs hx hr hkind hp hf hspan => ?raw, fun q x pre k post s hw hs hx hr hkind hp hf hspan hrole => ?recv,
    fun q n bs x r pre k post s hw hs hx hheld hq hst hop hfirst hp hl hpa hr hn hpos hmax hread => ?datagram⟩
  case modify =>
    refine completes_of_effect rfl hw hs (qpModify_ready hx hr hkind hp hst ht hf) ⟨upQp_qp_same .., fun i hi => upQp_qp_ne hi _ _, ?_, rfl⟩
    exact setCmds_holds q _ (s.dev.upQp x.qpNo _)
  case reads =>
    have hlen : k.bytes.le 16 4 ≠ 0 := by
      intro h0
      simp [netFault, hinl, h0] at hf
      split_ifs at hf
    have hsend := sendEntry_ready hx hr hkind hp hf (.inr hspan) hst ho hpa
    rw [hinl, if_neg Bool.false_ne_true, withRead_idle hread (spanBlocks_reads64 hlen)] at hsend
    refine completes_of_effect rfl hw hs hsend rfl ?_
    rw [engineRead, present_nisChanged]
    exact ⟨rfl, rfl, rfl, rfl⟩
  case send => exact completes_sendEntry rfl hw hs hx hr hkind hp hf hspan hd hst ho hpa hl hc hlen
  case write => exact completes_sendEntry rfl hw hs hx hr hkind hp hf hspan hd hst ho hpa hl hc hlen
  case writeImm => exact completes_sendEntry rfl hw hs hx hr hkind hp hf hspan hd hst ho hpa hl hc hlen
  case raw => exact completes_waits rfl hw hs (.of_runs hr) (runNet_acts _ hx hr hkind hp hf (.inr hspan))
  case recv =>
    refine completes_waits rfl hw hs (.of_runs hr) ((runNet_acts _ hx hr hkind hp hf (.inr hspan)).trans ?_)
    exact if_neg hrole
  case datagram =>
    have hat : HeldAt s.dev q pre k post := ⟨hheld, hq, by simp [hst], fun j hj hjq => absurd hjq (hfirst j hj)⟩
    have hentry : rawEntry s.dev q = some k := by
      rw [rawEntry, hheld]
      refine List.find?_eq_some_iff_append.2 ⟨by simp [hq, hst, hop], pre, post, rfl, fun j hj => ?_⟩
      simp [hfirst j hj]
    have hsend := rawDatagramSend_last hat hx hentry hp hl hpa hr hn hpos hmax hread
    obtain ⟨hport, hothers, hraw, hcmds, hframe⟩ := datagramSent_effect (epNi x.port) (queueKey q k.index 2) x.port q
      (EthPort.send (lastDatagram s.dev x k r bs)) { seqNo := (r.seqNo + 1) % 2 ^ 32, off := 0 }
      (pre ++ { k with st := .done, status := 0, detail := 0, result := k.bytes.le 16 4 } :: post) s.dev
    rw [← hsend] at hport hothers hraw hcmds hframe
    revert hport hothers hraw hcmds hframe
    generalize hu : rawDatagramSend q s.dev = u
    intro hport hothers hraw hcmds hframe
    refine completes_of_effect rfl hw hs hu ⟨congrArg EthPort.sent hport, ?_, hothers, hraw, hcmds, hframe⟩ ?_
    · rw [hport]
      rfl
    · rw [hframe]
      exact ⟨rfl, rfl, rfl, rfl⟩

end Sys2Proof.Machine
end

section
/-! SUPPORT. What a unit presents to its NI (R95, R176, R190) does not depend on what the OP units, the Ethernet ports and the queues hold. -/
namespace Sys2Proof.Machine

/-- The device with other OP units, Ethernet ports and queues. -/
def Dev.withUnits (o : Tbl OpUnit) (e : Eth) (q : Queues) (d : Dev) : Dev := { d with ops := o, eth := e, queues := q }

section
variable (o : Tbl OpUnit) (e : Eth) (q : Queues)

@[simp] theorem withUnits_ni (n : Nat) (d : Dev) : (d.withUnits o e q).ni n = d.ni n := rfl
@[simp] theorem withUnits_faults (d : Dev) : (d.withUnits o e q).faults = d.faults := rfl
@[simp] theorem withUnits_fcfg (d : Dev) : (d.withUnits o e q).fcfg = d.fcfg := rfl
@[simp] theorem withUnits_decodeAddr (n a : Nat) (d : Dev) : (d.withUnits o e q).decodeAddr n a = d.decodeAddr n a := rfl

@[simp] theorem withUnits_niRegBytes (n off size : Nat) (d : Dev) : niRegBytes (d.withUnits o e q) n off size = niRegBytes d n off size :=
  rfl

@[simp] theorem upNi_withUnits (n : Nat) (u : Ni → Ni) (d : Dev) : (d.withUnits o e q).upNi n u = (d.upNi n u).withUnits o e q := rfl

@[simp] theorem raise_withUnits (src inst part cause : Nat) (inj : Bool) (k : Option Nat) (d : Dev) :
    (d.withUnits o e q).raise src inst part cause inj k = (d.raise src inst part cause inj k).withUnits o e q := by
  have harmed : (d.withUnits o e q).armedSrc src = d.armedSrc src := rfl
  simp only [Dev.raise, harmed, withUnits_faults]
  split <;> rfl

@[simp] theorem deliverNow_withUnits (n : Nat) (r : Delivered) (d : Dev) :
    deliverNow n r (d.withUnits o e q) = (deliverNow n r d).withUnits o e q := by
  simp only [deliverNow, upNi_withUnits, raise_withUnits]
  split <;> rfl

@[simp] theorem releaseInOrder_withUnits (n : Nat) (d : Dev) : releaseInOrder n (d.withUnits o e q) = (releaseInOrder n d).withUnits o e q := by
  unfold releaseInOrder Dev.fold
  refine (List.foldl_hom (f := Dev.withUnits o e q) fun acc r => ?_)
  simp only [withUnits_ni, upNi_withUnits, deliverNow_withUnits]
  split <;> rfl

@[simp] theorem deliverOrdered_withUnits (n : Nat) (r : Delivered) (d : Dev) :
    deliverOrdered n r (d.withUnits o e q) = (deliverOrdered n r d).withUnits o e q := by
  simp only [deliverOrdered, withUnits_fcfg, upNi_withUnits, releaseInOrder_withUnits, deliverNow_withUnits]
  split <;> rfl

@[simp] theorem noteDecerr_withUnits (n a : Nat) (d : Dev) : noteDecerr n a (d.withUnits o e q) = (noteDecerr n a d).withUnits o e q := by
  simp only [noteDecerr, upNi_withUnits]
  split <;> rfl

@[simp] theorem closeWcb_withUnits (n : Nat) (sel : WcbEntry → Bool) (d : Dev) :
    closeWcb n sel (d.withUnits o e q) = (closeWcb n sel d).withUnits o e q := rfl

@[simp] theorem combine_withUnits (n part cls addr : Nat) (bs : Bytes) (dest : Nat) (d : Dev) :
    combine n part cls addr bs dest (d.withUnits o e q) = (combine n part cls addr bs dest d).withUnits o e q := by
  simp only [combine, withUnits_ni, withUnits_fcfg]
  split <;> rfl

@[simp] theorem niRegWrite_withUnits (n off v : Nat) (d : Dev) :
    niRegWrite n off v (d.withUnits o e q) = (niRegWrite n off v d).withUnits o e q := by
  unfold niRegWrite
  simp only [upNi_withUnits, ← apply_ite (Dev.withUnits o e q)]

@[simp] theorem wcbFits_withUnits (n : Nat) (p : Packet) (d : Dev) : wcbFits (d.withUnits o e q) n p = wcbFits d n p := by
  simp only [wcbFits, combine_withUnits, withUnits_ni, withUnits_fcfg]

theorem takePosted_withUnits (n : Nat) (p : Packet) (d : Dev) :
    takePosted n p (d.withUnits o e q) = (takePosted n p d).map (Dev.withUnits o e q) := by
  simp only [takePosted, withUnits_decodeAddr, noteDecerr_withUnits, raise_withUnits, niRegWrite_withUnits, wcbFits_withUnits,
    combine_withUnits]
  split
  · rfl
  · split <;> split <;> rfl

@[simp] theorem placeBlock_withUnits (n : Nat) (p : Packet) (d : Dev) :
    placeBlock n p (d.withUnits o e q) = (placeBlock n p d).withUnits o e q := by
  simp only [placeBlock, withUnits_decodeAddr, noteDecerr_withUnits, deliverOrdered_withUnits, withUnits_niRegBytes, closeWcb_withUnits,
    upNi_withUnits, ← apply_ite (Dev.withUnits o e q)]
  split
  · rfl
  · split <;> rfl

theorem takeBlock_withUnits (n : Nat) (b : Out) (d : Dev) :
    takeBlock n b (d.withUnits o e q) = (takeBlock n b d).map (Dev.withUnits o e q) := by
  have hslot : slotOpen (d.withUnits o e q) n b.pkt.part = slotOpen d n b.pkt.part := rfl
  have hroom : lkRoom (d.withUnits o e q) n b.pkt.code = lkRoom d n b.pkt.code := rfl
  simp only [takeBlock, takePosted_withUnits, hslot, hroom, placeBlock_withUnits]
  split
  · rfl
  · rfl
  · rfl
  · split <;> rfl

theorem takeBlocks_withUnits (n : Nat) : ∀ (l left : List Out) (d : Dev),
    takeBlocks n l left (d.withUnits o e q) = ((takeBlocks n l left d).1, (takeBlocks n l left d).2.withUnits o e q)
  | [], _, _ => rfl
  | b :: t, left, d => by
    simp only [takeBlocks, takeBlock_withUnits]
    split
    · exact takeBlocks_withUnits n t _ d
    · cases takeBlock n b d with
      | some u => exact takeBlocks_withUnits n t left u
      | none => exact takeBlocks_withUnits n t _ d

theorem present_withUnits (n : Nat) (os : List Out) (d : Dev) : present n os (d.withUnits o e q) = (present n os d).withUnits o e q := by
  let d1 := d.upNi n fun x => { x with atUnit := x.atUnit ++ os }
  change takeUnit n (d1.withUnits o e q) = (takeUnit n d1).withUnits o e q
  simp only [takeUnit, withUnits_ni]
  split
  · rfl
  · simp only [takeBlocks_withUnits, upNi_withUnits]

end

/-- `t` is `d` but for OP units, Ethernet ports and queues. -/
def Aside (d t : Dev) : Prop := t = d.withUnits t.ops t.eth t.queues

theorem Aside.refl (d : Dev) : Aside d d := rfl

section
variable {d t : Dev} (h : Aside d t)
include h

theorem Aside.nis : t.nis = d.nis := by
  rw [h]
  rfl

theorem Aside.faults : t.faults = d.faults := by
  rw [h]
  rfl

theorem Aside.trans {u : Dev} (k : Aside t u) : Aside d u := by
  unfold Aside at *
  rw [k, h]
  rfl

theorem Aside.present (n : Nat) (os : List Out) : Aside (present n os d) (present n os t) := by
  have ht := present_withUnits t.ops t.eth t.queues n os d
  rw [← h] at ht
  unfold Aside
  rw [ht]
  rfl

theorem Aside.engineWrite (n part cls addr : Nat) (bs : Bytes) : Aside (engineWrite n part cls addr bs d) (engineWrite n part cls addr bs t) := by
  unfold Machine.engineWrite
  split
  · exact h
  · exact h.present n _

end

end Sys2Proof.Machine
end

section
/-! SUPPORT. A unit's run of a descriptor (R419 to R425): how it starts, what a record's outputs and a THRESHOLD's events make of the
device, and from these the obligation about the seven operations. -/
namespace Sys2Proof.Machine

theorem upOp_op_same (n : Nat) (f : OpUnit → OpUnit) (d : Dev) : (d.upOp n f).op n = f (d.op n) := Tbl.get_modify_same ..

theorem upOp_op_ne {n i : Nat} (hi : i ≠ n) (f : OpUnit → OpUnit) (d : Dev) : (d.upOp n f).op i = d.op i := Tbl.get_modify_ne _ _ hi f

section
variable {c : Instr} {s : State} {n oper : Nat} {run : Job → List Delivered → Dev → Ran × Dev} {j : Job}

/-- A free unit that starts the descriptor that it selects (R424, R419). -/
theorem completes_starts (he : exec c s = act c.wellFormed (runOp n oper .none run) s) (hw : c.wellFormed = true) (hs : s.Ready)
    (hrun : (s.dev.op n).run = none) (hsel : selectJob (s.dev.op n) = some j) (ho : dOper j.desc = oper)
    (hu : s.dev.unitUp (opNi n) = true) : Completes c s fun t =>
      t.op n = { s.dev.op n with store := (s.dev.op n).store.erase j, run := some { job := j, ended := false } } ∧
        (∀ i, i ≠ n → t.op i = s.dev.op i) ∧
        t.nis = (engineRead (opNi n) j.part (opClass s.dev j.part) opKey (opSpans j.desc) s.dev).nis ∧
        t = { s.dev with ops := t.ops, nis := t.nis, faults := t.faults } := by
  let d1 := s.dev.upOp n fun y => { y with store := y.store.erase j, run := some { job := j, ended := false } }
  have hstart : runOp n oper .none run s.dev = engineRead (opNi n) j.part (opClass s.dev j.part) opKey (opSpans j.desc) d1 := by
    simp only [runOp, hu, hrun, hsel, ho, ne_eq, not_true_eq_false, Bool.true_eq_false, if_false]
    rfl
  have haside : Aside s.dev d1 := rfl
  have hnis : (engineRead (opNi n) j.part (opClass s.dev j.part) opKey (opSpans j.desc) d1).nis =
      (engineRead (opNi n) j.part (opClass s.dev j.part) opKey (opSpans j.desc) s.dev).nis := (haside.present ..).nis
  have hframe : NisChanged d1 (engineRead (opNi n) j.part (opClass s.dev j.part) opKey (opSpans j.desc) d1) := present_nisChanged ..
  revert hstart hnis hframe
  generalize engineRead (opNi n) j.part (opClass s.dev j.part) opKey (opSpans j.desc) d1 = t
  intro hstart hnis hframe
  have hop : t.op = d1.op := by
    rw [hframe]
    rfl
  refine completes_of_effect he hw hs hstart ⟨?_, fun i hi => ?_, hnis, ?_⟩ ?_
  · rw [hop]
    exact upOp_op_same ..
  · rw [hop]
    exact upOp_op_ne hi ..
  · rw [hframe]
    rfl
  · rw [hframe]
    exact ⟨rfl, rfl, rfl, rfl⟩

/-- A unit whose reads are all answered runs its descriptor and holds the outcome (R419). -/
theorem runOp_continues {d : Dev} (hrun : (d.op n).run = some { job := j, ended := false }) (ho : dOper j.desc = oper)
    (hu : d.unitUp (opNi n) = true) (hk : keyOpen d (opNi n) opKey = false) : runOp n oper .none run d =
      (run j (keyAnswers d (opNi n) opKey) (takeAnswers (opNi n) opKey d)).2.upOp n fun y => { y with
        run := some (run j (keyAnswers d (opNi n) opKey) (takeAnswers (opNi n) opKey d)).1 } := by
  simp only [runOp, hu, hrun, continueOp, ho, hk, ne_eq, not_true_eq_false, Bool.true_eq_false, Bool.false_eq_true, or_self, if_false]

/-- The outcome of a descriptor that has written one record with its range DETAIL (R421). -/
def ranWrote (j : Job) (o : Bytes × Nat) : Ran :=
  { job := j, status := if o.2 ≠ 0 then 0x0F else 0, detail := o.2, result := min o.1.length (2 ^ 32 - 1) }

theorem outcome_wrote (j : Job) (o : Bytes × Nat) (d : Dev) : outcome j { bad := 0, written := 0 + o.1.length, detail := max 0 o.2, dev := d }
    (bytesResult { bad := 0, written := 0 + o.1.length, detail := max 0 o.2, dev := d }) = ranWrote j o := by
  unfold outcome ranWrote bytesResult
  simp only [Nat.zero_add, Nat.zero_max, Nat.reduceEqDiff, ne_eq, not_true_eq_false, if_false]
  by_cases h : o.2 = 0
  · simp [h]
  · simp [h]

/-- A record-wise operation on one record that has been read. -/
theorem runMap_single {f : Bytes → Bytes → Bytes → List Val → List Nat} {l : List Delivered} {raw tab : Bytes} {d : Dev}
    (hb : dBatch j.desc = 1) (hr : answered l (inRecord j.desc 0) = (0, raw)) (ht : readTable j.desc l = (0, tab)) :
    runMap n f j l d =
      (ranWrote j (writeVals (dOfmt j.desc) (dSat j.desc) (f j.desc tab raw (readVals (dIfmt j.desc) raw))),
        engineWrite (opNi n) j.part (opClass d j.part) (dDst j.desc)
          (writeVals (dOfmt j.desc) (dSat j.desc) (f j.desc tab raw (readVals (dIfmt j.desc) raw))).1 d) := by
  unfold runMap
  simp only [hb, ht, show List.range 1 = [0] from rfl, mapRecords, hr, opWrite, Nat.zero_mul, Nat.add_zero, outcome_wrote, ne_eq,
    not_true_eq_false, if_false]

/-- A run that has written one record. -/
theorem completes_wrote {o : Bytes × Nat} (he : exec c s = act c.wellFormed (runOp n oper .none run) s) (hw : c.wellFormed = true)
    (hs : s.Ready) (hrun : (s.dev.op n).run = some { job := j, ended := false }) (ho : dOper j.desc = oper)
    (hu : s.dev.unitUp (opNi n) = true) (hk : keyOpen s.dev (opNi n) opKey = false)
    (hwrote : run j (keyAnswers s.dev (opNi n) opKey) (takeAnswers (opNi n) opKey s.dev) = (ranWrote j o,
      engineWrite (opNi n) j.part (opClass s.dev j.part) (dDst j.desc) o.1 (takeAnswers (opNi n) opKey s.dev))) : Completes c s fun t =>
      Writes (takeAnswers (opNi n) opKey s.dev) t (opNi n) j.part (opClass s.dev j.part) (dDst j.desc) o.1 ∧
        t.op n = { s.dev.op n with run := some (ranWrote j o) } ∧
        (∀ i, i ≠ n → t.op i = s.dev.op i) ∧ t = { s.dev with ops := t.ops, nis := t.nis, faults := t.faults } := by
  have hcont := runOp_continues (run := run) hrun ho hu hk
  rw [hwrote] at hcont
  have hframe := engineWrite_nisChanged (opNi n) j.part (opClass s.dev j.part) (dDst j.desc) o.1 (takeAnswers (opNi n) opKey s.dev)
  revert hcont hframe
  generalize hgen : engineWrite (opNi n) j.part (opClass s.dev j.part) (dDst j.desc) o.1 (takeAnswers (opNi n) opKey s.dev) = u
  intro hcont hframe
  have hop : u.op = s.dev.op := by
    rw [hframe]
    rfl
  refine completes_of_effect he hw hs hcont ⟨⟨?_, ?_⟩, ?_, fun i hi => ?_, ?_⟩ ?_
  · rw [hgen]
    rfl
  · rw [hgen]
    rfl
  · rw [← hop]
    exact upOp_op_same ..
  · rw [← hop]
    exact upOp_op_ne hi ..
  · rw [hframe]
    rfl
  · rw [hframe]
    exact ⟨rfl, rfl, rfl, rfl⟩

end

/-! Operations on all records. -/

theorem allRecords_single {b raw : Bytes} {l : List Delivered} (hb : dBatch b = 1) (hr : answered l (inRecord b 0) = (0, raw)) :
    allRecords b l = ([raw], 0) := by
  simp [allRecords, hb, readRecords, hr]

/-- CHECKSUM on one record that has been read keeps its CRC and writes nothing (R425). -/
theorem opChecksum_runs {n : Nat} {j : Job} {raw : Bytes} {d : Dev} (hrun : (d.op n).run = some { job := j, ended := false })
    (ho : dOper j.desc = 7) (hu : d.unitUp (opNi n) = true) (hk : keyOpen d (opNi n) opKey = false) (hb : dBatch j.desc = 1)
    (hr : answered (keyAnswers d (opNi n) opKey) (inRecord j.desc 0) = (0, raw)) : opChecksum n .none d =
      (takeAnswers (opNi n) opKey d).upOp n fun y => { y with
        run := some { job := j, result := if j.desc.le 48 1 = 0 then crc32c raw else crc32 raw } } := by
  refine (runOp_continues hrun ho hu hk).trans ?_
  simp only [allRecords_single hb hr, List.flatten_cons, List.flatten_nil, List.append_nil, if_true]
  rfl

/-! The events of THRESHOLD. -/

/-- The messages `ps` of unit `n` are sent, each one counted (R423). -/
def Dev.sendCounted (n : Nat) (ps : List Packet) (d : Dev) : Dev := Dev.fold ps (fun p z => sendMessage p (z.countOp n 6 1)) d

theorem sendCounted_aside (n : Nat) : ∀ (ps : List Packet) (d e : Dev), Aside d e → Aside (Dev.fold ps sendMessage d) (e.sendCounted n ps)
  | [], _, _, h => h
  | p :: ps, d, e, h => by
    refine sendCounted_aside n ps (sendMessage p d) (sendMessage p (e.countOp n 6 1)) ?_
    unfold Aside at *
    rw [h]
    rfl

/-- `t` is `d` but for NIs and the counters of unit `n`. -/
structure OpCounted (n : Nat) (d t : Dev) : Prop where
  unit : t.op n = { d.op n with counts := (t.op n).counts }
  others : ∀ i, i ≠ n → t.op i = d.op i
  rest : t = { d with ops := t.ops, nis := t.nis }

theorem OpCounted.refl (n : Nat) (d : Dev) : OpCounted n d d := ⟨rfl, fun _ _ => rfl, rfl⟩

theorem OpCounted.trans {n : Nat} {d t u : Dev} (h : OpCounted n d t) (k : OpCounted n t u) : OpCounted n d u := by
  refine ⟨?_, fun i hi => (k.others i hi).trans (h.others i hi), ?_⟩
  · rw [k.unit, h.unit]
  · rw [k.rest, h.rest]

theorem sendCounted_counted (n : Nat) (ps : List Packet) (d : Dev) : OpCounted n d (d.sendCounted n ps) := by
  refine Dev.fold_rel (R := OpCounted n) (.refl n) .trans ps (fun p _ e => ?_) d
  have hop : (e.countOp n 6 1).op n = _ := upOp_op_same n _ e
  refine ⟨?_, fun i hi => (upOp_op_ne hi _ e : (e.countOp n 6 1).op i = e.op i), rfl⟩
  change (e.countOp n 6 1).op n = { e.op n with counts := ((e.countOp n 6 1).op n).counts }
  rw [hop]

/-- The events of a THRESHOLD whose messages all find room send them in order. -/
theorem sendEvents_eq (n : Nat) (j : Job) (evs : List ThEvent) (d : Dev) :
    Dev.fold evs.zipIdx (fun x y => Dev.fold (thMessages n j x.1) (fun p z => sendMessage p (z.countOp n 6 1)) y) d =
      d.sendCounted n (evs.map (thMessages n j)).flatten := by
  unfold Dev.sendCounted Dev.fold
  rw [List.foldl_flatten, List.foldl_map]
  conv_rhs => rw [← List.zipIdx_map_fst 0 evs, List.foldl_map]

theorem map_take_zipIdx (m : Nat) (f : ThEvent → Bytes) (evs : List ThEvent) :
    (evs.zipIdx.take m).map (fun x => f x.1) = (evs.take m).map f := by
  conv_rhs => rw [← List.zipIdx_map_fst 0 evs, ← List.map_take, List.map_map]
  rfl

/-- The event records of a THRESHOLD (R423). -/
def thOutput (j : Job) (evs : List ThEvent) : Bytes := ((evs.take (j.desc.le 88 4)).map fun e => thRecord j.desc e false).flatten

theorem opThreshold_runs {n : Nat} {j : Job} {raw : Bytes} {d : Dev} (hrun : (d.op n).run = some { job := j, ended := false })
    (ho : dOper j.desc = 5) (hu : d.unitUp (opNi n) = true) (hk : keyOpen d (opNi n) opKey = false) (hb : dBatch j.desc = 1)
    (hr : answered (keyAnswers d (opNi n) opKey) (inRecord j.desc 0) = (0, raw)) :
    let e := (takeAnswers (opNi n) opKey d).sendCounted n ((thEvents j.desc [raw]).map (thMessages n j)).flatten
    opThreshold n .none [] d = (engineWrite (opNi n) j.part (opClass e j.part) (dDst j.desc) (thOutput j (thEvents j.desc [raw])) e).upOp n
      fun y => { y with run := some { job := j, result := (thEvents j.desc [raw]).length } } := by
  refine (runOp_continues hrun ho hu hk).trans ?_
  have hdrop (i : Nat) (b : Bool) : (([] : List Nat).contains i && b) = false := rfl
  simp only [allRecords_single hb hr, hdrop, Bool.false_eq_true, if_false, sendEvents_eq, if_true, List.length_zipIdx,
    map_take_zipIdx _ (fun e => thRecord j.desc e false)]
  rfl

/-- Settles O34, operation by operation from the lemmas above. -/
theorem operatorRuns : Obligations.OperatorRuns := by
  refine ⟨fun n c j s hc hw hs hrun hsel ho hu => ?starts,
    fun n raw tab o j s hw hs hrun ho hu hk hb hr ht heq => ?fft, fun n raw tab o j s hw hs hrun ho hu hk hb hr ht heq => ?fir,
    fun n raw tab o j s hw hs hrun ho hu hk hb hr ht heq => ?decimate, fun n raw o j s hw hs hrun ho hu hk hb hr heq => ?convert,
    fun n raw o j s hw hs hrun ho hu hk hb hr heq => ?average, fun n raw j s hw hs hrun ho hu hk hb hr => ?checksum,
    fun n raw out j evs s hw hs hrun ho hu hk hb hr hevs hout => ?threshold⟩
  case starts =>
    simp only [List.mem_cons, List.not_mem_nil, or_false] at hc
    obtain rfl | rfl | rfl | rfl | rfl | rfl | rfl := hc <;> exact completes_starts rfl hw hs hrun hsel ho hu
  case fft => exact heq ▸ completes_wrote rfl hw hs hrun ho hu hk (runMap_single hb hr ht)
  case fir => exact heq ▸ completes_wrote rfl hw hs hrun ho hu hk (runMap_single hb hr ht)
  case decimate => exact heq ▸ completes_wrote rfl hw hs hrun ho hu hk (runMap_single hb hr ht)
  case convert =>
    have ht : readTable j.desc (keyAnswers s.dev (opNi n) opKey) = (0, []) := by
      simp [readTable, dTable, ho]
    exact heq ▸ completes_wrote rfl hw hs hrun ho hu hk (runMap_single hb hr ht)
  case average =>
    refine completes_wrote rfl hw hs hrun ho hu hk ?_
    simp only [allRecords_single hb hr, hb, List.map_cons, List.map_nil, ← heq, opWrite, outcome_wrote, ne_eq, not_true_eq_false, if_false]
    rfl
  case checksum =>
    refine completes_of_effect rfl hw hs (opChecksum_runs hrun ho hu hk hb hr) ⟨rfl, ?_, fun i hi => ?_, rfl⟩
    · exact upOp_op_same ..
    · exact upOp_op_ne hi ..
  case threshold =>
    have hruns := opThreshold_runs hrun ho hu hk hb hr
    have haside := sendCounted_aside n ((thEvents j.desc [raw]).map (thMessages n j)).flatten _ _ (.refl (takeAnswers (opNi n) opKey s.dev))
    obtain ⟨hunit, hothers, hrest⟩ := sendCounted_counted n ((thEvents j.desc [raw]).map (thMessages n j)).flatten
      (takeAnswers (opNi n) opKey s.dev)
    revert hruns haside hunit hothers hrest
    generalize (takeAnswers (opNi n) opKey s.dev).sendCounted n ((thEvents j.desc [raw]).map (thMessages n j)).flatten = e
    intro hruns haside hunit hothers hrest
    have hclass : opClass e j.part = opClass s.dev j.part := by
      rw [hrest]
      rfl
    have hnis := (haside.engineWrite (opNi n) j.part (opClass s.dev j.part) (dDst j.desc) (thOutput j (thEvents j.desc [raw]))).nis
    have hframe := engineWrite_nisChanged (opNi n) j.part (opClass s.dev j.part) (dDst j.desc) (thOutput j (thEvents j.desc [raw])) e
    dsimp only at hruns
    rw [hclass] at hruns
    revert hruns hnis hframe
    generalize engineWrite (opNi n) j.part (opClass s.dev j.part) (dDst j.desc) (thOutput j (thEvents j.desc [raw])) e = u
    intro hruns hnis hframe
    have hop : u.op = e.op := by
      rw [hframe]
      rfl
    subst hevs hout
    have hunit' : (u.upOp n fun y => { y with run := some { job := j, result := (thEvents j.desc [raw]).length } }).op n = _ :=
      upOp_op_same ..
    refine completes_of_effect rfl hw hs hruns ⟨hnis, ?_, fun i hi => ?_, ?_⟩ ?_
    · rw [hunit', hop, hunit]
      rfl
    · exact (upOp_op_ne hi ..).trans ((congrFun hop i).trans (hothers i hi))
    · rw [hframe, hrest]
      rfl
    · rw [hframe, hrest]
      exact ⟨rfl, rfl, rfl, rfl⟩

end Sys2Proof.Machine
end

section
/-! SUPPORT. RoCEv2 packets, acknowledgements and timers (R397 to R401): what each makes of its port and its queue pair, and from these
the obligation about them. -/
namespace Sys2Proof.Machine

theorem upQp_upQp (n : Nat) (f g : Qp → Qp) (d : Dev) : (d.upQp n f).upQp n g = d.upQp n fun x => g (f x) := by
  have hsame : (d.eth.qp.modify {} n f).modify {} n g = d.eth.qp.modify {} n fun x => g (f x) := by
    simp only [Tbl.modify, Tbl.get_set_same, Tbl.set_set]
  exact congrArg (fun l => { d with eth := { d.eth with qp := l } }) hsame

/-! Acknowledgements. -/

/-- The ACK of everything that queue pair `n` has accepted (R399). -/
def ackPacket (n : Nat) (y : Qp) : EthFrame :=
  .roce { qp := n, op := 0x11, psn := psnAdd y.rqPsn (2 ^ 24 - 1), syndrome := some 0x1F }

/-- A queue pair that has acknowledged what it has accepted. -/
def Qp.acked (y : Qp) : Qp := { y with unacked := 0 }

theorem ackAll_up {p n : Nat} {d : Dev} (hl : (d.eport p).link = 2) (hp : paused d p (d.qp n).prio = false) :
    ackAll p n d = (d.upQp n Qp.acked).upPort p (EthPort.send (ackPacket n (d.qp n))) := by
  have hprio : ((d.upQp n Qp.acked).qp n).prio = (d.qp n).prio := by
    rw [upQp_qp_same]
    rfl
  have hack : ackAll p n d = sendAck p n (psnAdd (d.qp n).rqPsn (2 ^ 24 - 1)) 0x1F (d.upQp n Qp.acked) := rfl
  rw [hack, sendAck, hprio, transmit_up (by exact hl) (by exact hp)]
  rfl

/-- A command that acknowledges what queue pair `n` has accepted (R399). -/
theorem completes_ackTimer {n p : Nat} {s : State} (hw : (Instr.ackTimer n).wellFormed = true) (hs : s.Ready)
    (hr : readyPort s.dev n = some p) (hl : (s.dev.eport p).link = 2) (hp : paused s.dev p (s.dev.qp n).prio = false)
    (hu : 0 < (s.dev.qp n).unacked) : Completes (.ackTimer n) s fun t =>
      (t.eport p).sent = some (ackPacket n (s.dev.qp n)) ∧
        t.eport p = { s.dev.eport p with sent := (t.eport p).sent, counts := (t.eport p).counts } ∧
        (∀ i, i ≠ p → t.eport i = s.dev.eport i) ∧
        t.qp n = { s.dev.qp n with unacked := 0 } ∧ (∀ i, i ≠ n → t.qp i = s.dev.qp i) ∧
        t = { s.dev with eth := { s.dev.eth with qp := t.eth.qp, port := t.eth.port } } := by
  have hack : ackTimer n s.dev = ackAll p n s.dev := by simp only [ackTimer, hr, hu, if_true]
  rw [ackAll_up hl hp] at hack
  obtain ⟨hport, hothers, -⟩ := Dev.upPort_portIs p (EthPort.send (ackPacket n (s.dev.qp n)))
    (s.dev.upQp n Qp.acked)
  refine completes_of_effect rfl hw hs hack ⟨?_, ?_, hothers, upQp_qp_same n Qp.acked s.dev,
    fun i hi => upQp_qp_ne hi Qp.acked s.dev, rfl⟩
  · rw [hport]
    rfl
  · rw [hport]
    rfl

/-! Retransmission. -/

theorem psnAfter_self (a : Nat) : psnAfter a a = true := by
  have hmod : (a + 2 ^ 24 - a % 2 ^ 24) % 2 ^ 24 < 2 ^ 23 := by omega
  exact decide_eq_true hmod

/-- A port that has sent the one packet of a SEND again (R398). -/
def EthPort.resend (n : Nat) (m : OutMsg) (x : EthPort) : EthPort :=
  (x.send (.roce { qp := n, op := 4, psn := m.first, data := m.data })).count 0xC 1

section
variable {p n : Nat} {m : OutMsg} {d : Dev}

theorem goBack_single (hl : (d.eport p).link = 2) (hp : paused d p (d.qp n).prio = false) (hm : (d.qp n).msgs = [m])
    (hlast : m.last = m.first) (hlt : m.first < 2 ^ 24) (hop : m.op = 1) (hc : packetCount m.data.length (d.qp n).mtu = 1)
    (hd : m.data.length ≤ (d.qp n).mtu) : goBack p n m.first d = d.upPort p (EthPort.resend n m) := by
  have hself := psnAfter_self m.first
  have hlo : (m.first + 2 ^ 24 - m.first) % 2 ^ 24 = 0 := by omega
  have hpsn : psnAdd m.first 0 = m.first := by
    unfold psnAdd
    omega
  have hfilter : ((d.qp n).msgs.filter fun k => psnAfter k.last m.first) = [m] := by simp [hm, hlast, hself]
  unfold goBack
  rw [hfilter]
  simp only [Dev.fold, List.foldl_cons, List.foldl_nil, hself, hlo, if_true, hc, sendPackets_single hl hp hc hd, hop, hpsn]
  exact Dev.upPort_upPort p _ _ d

end

/-- A command that sends the message of one packet of queue pair `n` again (R398). -/
theorem completes_resend {c : Instr} {f : Dev → Dev} {g : Qp → Qp} {n p : Nat} {m : OutMsg} {s : State}
    (he : exec c s = act c.wellFormed f s) (hw : c.wellFormed = true) (hs : s.Ready)
    (hf : f s.dev = goBack p n m.first (s.dev.upQp n g)) (hmsgs : ∀ y, (g y).msgs = y.msgs) (hattrs : ∀ y, (g y).attrs = y.attrs)
    (hl : (s.dev.eport p).link = 2) (hp : paused s.dev p (s.dev.qp n).prio = false) (hm : (s.dev.qp n).msgs = [m])
    (hlast : m.last = m.first) (hlt : m.first < 2 ^ 24) (hop : m.op = 1) (hc : packetCount m.data.length (s.dev.qp n).mtu = 1)
    (hd : m.data.length ≤ (s.dev.qp n).mtu) : Completes c s fun t =>
      (t.eport p).sent = some (.roce { qp := n, op := 4, psn := m.first, data := m.data }) ∧
        (t.eport p).counts.get 0 0xC = satAdd 32 ((s.dev.eport p).counts.get 0 0xC) 1 ∧
        t.eport p = { s.dev.eport p with sent := (t.eport p).sent, counts := (t.eport p).counts } ∧
        (∀ i, i ≠ p → t.eport i = s.dev.eport i) ∧
        t.qp n = g (s.dev.qp n) ∧ (∀ i, i ≠ n → t.qp i = s.dev.qp i) ∧
        t = { s.dev with eth := { s.dev.eth with qp := t.eth.qp, port := t.eth.port } } := by
  have hqp : (s.dev.upQp n g).qp n = g (s.dev.qp n) := upQp_qp_same ..
  have hmtu : (g (s.dev.qp n)).mtu = (s.dev.qp n).mtu := by rw [Qp.mtu, Qp.attr, hattrs]; rfl
  have hprio : (g (s.dev.qp n)).prio = (s.dev.qp n).prio := by rw [Qp.prio, hattrs]; rfl
  rw [goBack_single (by exact hl) (by rw [hqp, hprio]; exact hp) (by rw [hqp, hmsgs]; exact hm) hlast hlt hop
    (by rw [hqp, hmtu]; exact hc) (by rw [hqp, hmtu]; exact hd)] at hf
  obtain ⟨hport, hothers, -⟩ := Dev.upPort_portIs p (EthPort.resend n m) (s.dev.upQp n g)
  refine completes_of_effect he hw hs hf ⟨?_, ?_, ?_, hothers, hqp, fun i hi => upQp_qp_ne hi _ s.dev, rfl⟩
  · rw [hport]
    rfl
  · rw [hport]
    exact (EthPort.count_counts_same ..).trans (congrArg (satAdd 32 · 1) (EthPort.count_counts_ne (by decide) ..))
  · rw [hport]
    rfl

/-! Packets that arrive. -/

theorem pfcLevel_off {p : Nat} {d : Dev} (h : d.portObj p 7 = 0) : pfcLevel p d = d := by
  simp only [pfcLevel, h, if_true]

/-- A port whose front packet has left its buffer. -/
def EthPort.pop (x : EthPort) : EthPort := { x with buf := x.buf.drop 1 }

/-- The front packet leaves the buffer of a port without priority flow control. -/
theorem popRoce_off {p : Nat} {d : Dev} (h : d.portObj p 7 = 0) :
    popRoce p d = d.upPort p EthPort.pop := pfcLevel_off (by exact h)

/-- A queue pair that has been handed no QP_MODIFY. -/
theorem modifyFirst_none {n q : Nat} {x : Queue} {d : Dev} (hq : qpQueue d n 0 = some (q, x)) (hr : runningCmd d q 0x10 = none) :
    modifyFirst n d = d := by
  simp only [modifyFirst, hq, hr]

/-- A packet whose queue pair acts on it (R397, R405, R407). -/
theorem roceDrop_none {p n q : Nat} {x : Queue} {d : Dev} (hq : qpQueue d n 0 = some (q, x)) (hx : x.port = p)
    (hp : portFenced d p x.part = false) (hst : (d.qp n).state = 1) : roceDrop p n true .none .none d = none := by
  simp [roceDrop, hq, hx, hp, hst]

/-- A queue pair whose oldest message has completed (R398). -/
def Qp.completeOne (y : Qp) : Qp := { y.freshRetries with msgs := y.msgs.drop 1 }

/-- The device once the front packet of port `p` has left its buffer. -/
def Dev.popped (p : Nat) (d : Dev) : Dev := d.upPort p EthPort.pop

section
variable {p n q psn : Nat} {x : Queue} {m : OutMsg} {b : Bytes} {d : Dev}

/-- An ACK that covers the one message in flight (R398). -/
theorem ackReceive_completes (hf : frontRoce d p = some (0x11, n, psn, b)) (hsyn : be b 0 1 / 32 = 0)
    (hq : qpQueue d n 0 = some (q, x)) (hx : x.port = p) (hp : portFenced d p x.part = false) (hst : (d.qp n).state = 1)
    (hoff : d.portObj p 7 = 0) (hr : runningCmd d q 0x10 = none) (hm : (d.qp n).msgs = [m]) (ha : psnAfter psn m.last = true) :
    ackReceive p true .none .none d = endCmd q m.index 0 0 m.data.length
      ((d.popped p).upQp n Qp.completeOne) := by
  have hpop : popRoce p (modifyFirst n d) = d.popped p := by
    rw [modifyFirst_none hq hr]
    exact popRoce_off hoff
  have hdrop : roceDrop p n true .none .none (d.popped p) = none := roceDrop_none (by exact hq) hx (by exact hp) (by exact hst)
  have hq' : qpQueue (d.popped p) n 0 = some (q, x) := hq
  have hm' : ((d.popped p).qp n).msgs = [m] := hm
  have hnone : (MemErr.none == MemErr.corrected || MemErr.none == MemErr.corrected) = false := rfl
  simp only [ackReceive, hf, hpop, hnone, Dev.when, hdrop, hsyn, completeMsgs, hq', hm', ne_eq, not_true_eq_false, Bool.false_eq_true,
    if_false, if_true, List.takeWhile_cons, List.takeWhile_nil, ha, List.isEmpty_cons, Dev.fold, List.foldl_cons, List.foldl_nil]
  rfl

/-- A queue pair that has accepted a packet in order, the last one of its message (R399). -/
def Qp.accept (y : Qp) : Qp := { y with rqPsn := psnAdd y.rqPsn 1, nak := false, rx := none, unacked := y.unacked + 1 }

/-- The device once an in-order SEND of one packet has been placed and its end has been reported to the SE (R399, R401). -/
def Dev.placed (p part rq : Nat) (k : Cmd) (b : Bytes) (d : Dev) : Dev :=
  reportDone (epNi p) part rq k.index 0 0 0x91 b.length (engineWrite (epNi p) part (d.portObj p 5) k.a b d)

/-- An in-order SEND of one packet that fits the next RECV entry. -/
theorem rocePacketReceive_send {rq : Nat} {y : Queue} {k : Cmd} (hf : frontRoce d p = some (4, n, (d.qp n).rqPsn, b))
    (hq : qpQueue d n 0 = some (q, x)) (hrq : qpQueue d n 1 = some (rq, y)) (hx : x.port = p) (hp : portFenced d p x.part = false)
    (hst : (d.qp n).state = 1) (hoff : d.portObj p 7 = 0) (hr : runningCmd d q 0x10 = none) (hk : nextRecv d rq = some k)
    (hlen : b.length ≤ k.bytes.le 16 4) : rocePacketReceive p true .none .none d =
      ackAll p n (((d.popped p).placed p x.part rq k b).upQp n Qp.accept) := by
  have hpop : popRoce p (modifyFirst n d) = d.popped p := by
    rw [modifyFirst_none hq hr]
    exact popRoce_off hoff
  have hdrop : roceDrop p n true .none .none (d.popped p) = none := roceDrop_none (by exact hq) hx (by exact hp) (by exact hst)
  have hq' : qpQueue (d.popped p) n 0 = some (q, x) := hq
  have hrq' : qpQueue (d.popped p) n 1 = some (rq, y) := hrq
  have hk' : nextRecv (d.popped p) rq = some k := hk
  have hpsn : ((d.popped p).qp n).rqPsn = (d.qp n).rqPsn := rfl
  have hnone : (MemErr.none == MemErr.corrected || MemErr.none == MemErr.corrected) = false := rfl
  have hroom : ¬ k.bytes.le 16 4 < b.length := by omega
  have hlevel : pfcLevel p (engineWrite (epNi p) x.part ((d.popped p).portObj p 5) (k.a + 0) b (d.popped p)) =
      engineWrite (epNi p) x.part ((d.popped p).portObj p 5) k.a b (d.popped p) := by
    refine pfcLevel_off ?_
    rw [engineWrite_nisChanged]
    exact hoff
  simp only [rocePacketReceive, hf, hpop, hnone, Dev.when, hdrop, hq', hpsn, packetIn, sendPacketIn, hrq', hk', hlevel, acceptPacket,
    Option.map_some, if_neg hroom, Nat.reduceEqDiff, Bool.false_eq_true, if_false, if_true, true_or, Nat.zero_add]
  rfl

/-- What the placement of a packet leaves as it is, and what the port's NI is given. -/
theorem placed_frame (p part rq : Nat) (k : Cmd) (b : Bytes) (d : Dev) :
    (Dev.placed p part rq k b d) = { d with
      queues := { d.queues with se := (upCmd rq (atIndex k.index) (fun c => { c with delivered := true }) d).queues.se }
      nis := (Dev.placed p part rq k b d).nis, faults := (Dev.placed p part rq k b d).faults } := by
  have hwrite := engineWrite_nisChanged (epNi p) part (d.portObj p 5) k.a b d
  let e := upCmd rq (atIndex k.index) (fun c => { c with delivered := true }) (engineWrite (epNi p) part (d.portObj p 5) k.a b d)
  have hreport : NisChanged e (Dev.placed p part rq k b d) := present_nisChanged (epNi p) _ e
  have he : e = { d with
      queues := { d.queues with se := (upCmd rq (atIndex k.index) (fun c => { c with delivered := true }) d).queues.se }
      nis := e.nis, faults := e.faults } := by
    simp only [e]
    rw [hwrite]
    rfl
  refine Eq.trans hreport ?_
  rw [he]

/-- The port's NI is given the writes and, behind them, the report, whatever the port has buffered (R190). -/
theorem placed_nis (p part rq : Nat) (k : Cmd) (b : Bytes) (d : Dev) : ((d.popped p).placed p part rq k b).nis =
    (startFenced (messagePkt (epNi p) part 2 (seNi (seOf rq)) 3 0x0013
      (leBytes 2 rq ++ leBytes 2 k.index ++ [byte 0, byte 0, byte 0x91] ++ leBytes 4 b.length)) none
      (engineWrite (epNi p) part (d.portObj p 5) k.a b d)).nis := by
  have hpopped : Aside d (d.popped p) := rfl
  have hreport (e : Dev) : Aside e (upCmd rq (atIndex k.index) (fun c => { c with delivered := true }) e) := rfl
  exact (((hpopped.engineWrite (epNi p) part (d.portObj p 5) k.a b).trans (hreport _)).present (epNi p) _).nis

end

/-- The device once a packet has left the buffer of port `p`, a queue pair has gone on, and an SE holds the commands `l`. -/
theorem completed_effect (p n q : Nat) (g : Qp → Qp) (l : List Cmd) (d : Dev) :
    let t := ((d.popped p).upQp n g).setCmds q l
    t.qp n = g (d.qp n) ∧ (∀ i, i ≠ n → t.qp i = d.qp i) ∧ t.eport p = (d.eport p).pop ∧ (∀ i, i ≠ p → t.eport i = d.eport i) ∧
      SeHolds d t (seOf q) l ∧
      t = { d with queues := { d.queues with se := t.queues.se }, eth := { d.eth with qp := t.eth.qp, port := t.eth.port } } :=
  ⟨upQp_qp_same n g d, fun _ hi => upQp_qp_ne hi g d, Dev.upPort_eport_same p EthPort.pop d,
    fun _ hi => Dev.upPort_eport_ne hi EthPort.pop d, setCmds_holds q l ((d.popped p).upQp n g), rfl⟩

/-- Settles O32, command by command from the lemmas above. -/
theorem rocePackets : Obligations.RocePackets := by
  refine ⟨fun p n sq rq x y k b s hw hs hf hq hrq hx hp hst hl hoff hpa hr hk hlen => ?receive,
    fun p n q psn x m b pre k post s hw hs hf hsyn hq hx hp hst hoff hr hm ha hcmds hkq hki hkst hfirst => ?ack,
    fun n p m s hw hs hr hl hpa hm hlast hlt hop hc hd hrnr hretry => ?timeout,
    fun n p m s hw hs hr hl hpa hm hlast hlt hop hc hd hrnr hseven hretry => ?delay,
    fun n p s hw hs hr hl hpa hu => completes_ackTimer hw hs hr hl hpa hu⟩
  case receive =>
    have hsend := rocePacketReceive_send hf hq hrq hx hp hst hoff hr hk hlen
    have hnis := placed_nis p x.part rq k b s.dev
    have hframe := placed_frame p x.part rq k b (s.dev.popped p)
    revert hsend hnis hframe
    generalize (s.dev.popped p).placed p x.part rq k b = e
    intro hsend hnis hframe
    have heport : e.eport p = { s.dev.eport p with buf := (s.dev.eport p).buf.drop 1 } := by
      rw [hframe]
      exact Dev.upPort_eport_same p EthPort.pop s.dev
    have heports (i : Nat) (hi : i ≠ p) : e.eport i = s.dev.eport i := by
      rw [hframe]
      exact Dev.upPort_eport_ne hi EthPort.pop s.dev
    have heqp : e.qp = s.dev.qp := by
      rw [hframe]
      rfl
    have hqp : (e.upQp n Qp.accept).qp n = (s.dev.qp n).accept := by rw [upQp_qp_same, heqp]
    have hlink : ((e.upQp n Qp.accept).eport p).link = 2 := (congrArg EthPort.link heport).trans hl
    have hpaused : paused (e.upQp n Qp.accept) p ((e.upQp n Qp.accept).qp n).prio = false := by
      rw [hqp, paused, show (e.upQp n Qp.accept).eport p = _ from heport]
      exact hpa
    rw [ackAll_up hlink hpaused, upQp_upQp, hqp] at hsend
    obtain ⟨hport, hports, -⟩ := Dev.upPort_portIs p (EthPort.send (ackPacket n (s.dev.qp n).accept))
      (e.upQp n fun y => y.accept.acked)
    have hqp1 := upQp_qp_same n (fun y => y.accept.acked) e
    refine completes_of_effect rfl hw hs hsend ⟨hnis, ?_, ?_, fun i hi => ?_, ?_, ?_, ?_, fun i hi => (hports i hi).trans (heports i hi), ?_⟩ ?_
    · rw [hframe]
      rfl
    · rw [heqp] at hqp1
      exact hqp1
    · exact (upQp_qp_ne hi (fun y => y.accept.acked) e).trans (congrFun heqp i)
    · rw [hport]
      rfl
    · rw [hport]
      exact congrArg EthPort.buf heport
    · rw [hport, show (e.upQp n fun y => y.accept.acked).eport p = _ from heport]
      rfl
    · rw [hframe]
      rfl
    · rw [hframe]
      exact ⟨rfl, rfl, rfl, rfl⟩
  case ack =>
    have hheld : HeldAt s.dev q pre k post := ⟨hcmds, hkq, by simp [hkst], fun j hj hjq => absurd hjq (hfirst j hj)⟩
    have hack := ackReceive_completes hf hsyn hq hx hp hst hoff hr hm ha
    rw [← hki, (hheld.of_eng (t := (s.dev.popped p).upQp n Qp.completeOne) rfl).endCmd] at hack
    obtain ⟨hqp, hqps, hport, hports, hse, hframe⟩ := completed_effect p n q Qp.completeOne
      (pre ++ { k with st := .done, status := 0, detail := 0, result := m.data.length } :: post) s.dev
    have hone : (s.dev.qp n).completeOne = { (s.dev.qp n).freshRetries with msgs := [] } := by
      rw [Qp.completeOne, hm]
      rfl
    rw [← hack] at hqp hqps hport hports hse hframe
    revert hqp hqps hport hports hse hframe
    generalize hu : ackReceive p true .none .none s.dev = u
    intro hqp hqps hport hports hse hframe
    refine completes_of_effect rfl hw hs hu ⟨hqp.trans hone, hqps, hport, hports, hse, hframe⟩ ?_
    rw [hframe]
    exact ⟨rfl, rfl, rfl, rfl⟩
  case timeout =>
    have hresend : retransmitTimeout n s.dev = goBack p n m.first (s.dev.upQp n fun y => { y with retries := y.retries - 1 }) := by
      simp only [retransmitTimeout, hr, hm, hrnr, Option.isSome_none, Bool.false_eq_true, if_false, transportRetry, if_neg hretry]
    exact completes_resend rfl hw hs hresend (fun _ => rfl) (fun _ => rfl) hl hpa hm hlast hlt hop hc hd
  case delay =>
    have hresend : rnrRetryDelay n s.dev =
        goBack p n m.first (s.dev.upQp n fun y => { y with rnrAt := none, rnrs := y.rnrs - 1 }) := by
      simp only [rnrRetryDelay, hr, hrnr, if_neg hseven, if_neg hretry, upQp_upQp]
    exact completes_resend rfl hw hs hresend (fun _ => rfl) (fun _ => rfl) hl hpa hm hlast hlt hop hc hd

end Sys2Proof.Machine
end
